-- ==== Sys2Proof/Word.lean ====
section
/-!
DEFINITION. The word types of the FV8128 model (00_scope R4 to R7).
-/

namespace Sys2Proof

/-- A byte of host memory, of a structure in memory or of a packet (00_scope R5). -/
abbrev Byte := BitVec 8

/-- A 32-bit word: an index word, a scalar register of a Lantern, a set-up register. -/
abbrev Word := BitVec 32

/-- A 64-byte command entry of a command ring (03 R101). -/
abbrev Entry := BitVec 512

end Sys2Proof
end

