-- ==== Sys2Proof/Syntax.lean ====
section
/-!
DEFINITION. The commands of the FV8128 as a block: one constructor for each row of the table of operations and events.
Every constructor's first operand t is the number of 2 ns ticks of the time base that have passed since the command before
it (notes/assumptions/2.md). Operands named as the manual names them; what a row reads from its host, its cameras or its
pins comes with it.
-/

namespace Sys2Proof

/-! ### Operands of the ring commands (03) -/

/-- A ring: its port and its index (03 R85). -/
structure RingRef where
  port : Fin 4
  idx : Fin 1024
  deriving DecidableEq, Repr

/-- What the FV8128 reads from host memory while it carries out a command: the bytes of an image or list, and, when a read
failed three times, the offset of that read (03 R106 TRANSFER_FAULT). -/
structure HostData where
  bytes : List Byte
  failed : Option Nat
  deriving DecidableEq, Repr

/-- A fetch of a command entry: the ring, the 64 bytes, and what its execution reads from host memory. -/
structure RingCmd where
  ring : RingRef
  e : Entry
  data : HostData
  deriving DecidableEq, Repr

/-- The port of a command. -/
def RingCmd.p (c : RingCmd) : Nat := c.ring.port.val

/-- The index of a command's ring. -/
def RingCmd.i (c : RingCmd) : Nat := c.ring.idx.val

/-! ### Operands of the port events (02, 21) -/

/-- A register of configuration space that host software writes and whose write changes what the device does (02 R41 to R73).
The bits whose change has a row of its own (Bus Master Enable, Interrupt Disable, MSI-X Enable, Initiate Function Level
Reset, the power state) change by that row. DRS_CONTROL is the link partner's setting of Device Readiness Status (02 R54). -/
inductive CfgReg where
  | command | bar0Low | bar0High | deviceControl | linkControl | deviceControl3 | msixControl
  | aerUncStatus | aerUncMask | aerUncSeverity | aerCorStatus | aerCorMask | aerControl | drsControl
  deriving DecidableEq, Repr

/-- A write of a host: to BAR0 (offset, size in bytes, value, and the header of its TLP) or to a configuration register. -/
inductive RegWrite where
  | bar0 (off : BitVec 16) (size : Nat) (v : BitVec 64) (header : BitVec 128)
  | config (r : CfgReg) (v : BitVec 32)
  deriving DecidableEq, Repr

/-- A write request of the host of a port, with the header of its TLP (02 R46, R71). -/
structure HostTlp where
  port : Fin 4
  header : BitVec 128
  deriving DecidableEq, Repr

/-- Why a received TLP is bad (02 R71). -/
inductive TlpError where
  | malformed | ecrc | flowControl | dataLink
  deriving DecidableEq, Repr

/-- A request that is answered as an Unsupported Request (02 R71). -/
inductive BadRequest where
  | unimplementedBar | ioRequest | memorySpaceOff
  deriving DecidableEq, Repr

/-- What the failed reads of a port were to read: an entry of a ring, its index word in the doorbell page, the replay
data one of its entries names, or the summary bitmap of the doorbell page (02 R71). -/
inductive ReadSource where
  | entry (r : Fin 1024)
  | index (r : Fin 1024)
  | replay (r : Fin 1024)
  | summary
  deriving DecidableEq, Repr

/-! ### Operands of the lane events (04, 05) -/

/-- An uplink packet as it passes the pin: its 8-byte header, its payload, the CRC-32C it carries, the uncorrectable
codewords and corrected symbols since the packet before it, and whether it overlaps an uncorrectable codeword (04 R141, R145). -/
structure LanePkt where
  hdr : BitVec 64
  payload : List Byte
  crc : BitVec 32
  uncorrectable : Nat
  corrected : Nat
  overlaps : Bool
  deriving DecidableEq, Repr

/-- A frame received on a lane in Ethernet mode, from the destination address to the frame check sequence, and the place of its
arrival within the tick in 1/256 ns, as the lane sync stamper takes it (04 R169, 10 R358). -/
structure EthFrame where
  bytes : List Byte
  sub : Fin 512
  deriving DecidableEq, Repr

/-! ### Operands of the Lantern events (08) -/

/-- A write to an interrupt controller register that takes one bit for each of its 64 sources: low or high word (08 R308). -/
structure LanternWrite where
  high : Bool
  v : Word
  deriving DecidableEq, Repr

/-! ### Operands of triggers, encoders and time (10 to 12) -/

/-- A happening offered to a sequencer (12 R422): its source kind, source index and edge, and its action instant. -/
structure Happening where
  kind : Nat
  index : Nat
  edge : Nat
  deriving DecidableEq, Repr

/-- A serial reading as it arrives: the FRAME_BITS data bits as F, the parity bit or the inverted CRC, nE and nW, and whether
no Start bit came (11 R392, R393). -/
structure SerialReading where
  frame : Nat
  check : Nat
  nE : Bool
  nW : Bool
  noStart : Bool
  deriving DecidableEq, Repr

/-- How a frame on a PTP port carries its message (10 R364): in Annex F, in Annex E, or not at all. -/
inductive PtpTransport where
  | annexF | annexE | other
  deriving DecidableEq, Repr

/-- A frame received on a PTP port: how it carries its message, its length on the wire with the check sequence, and the PTP
message (10 R364, R365). -/
structure PtpFrame where
  transport : PtpTransport
  length : Nat
  message : List Byte
  deriving DecidableEq, Repr

/-- A port of the PTP clock: the timing port or a lane in Ethernet mode (10 R364). -/
inductive PtpPort where
  | timing
  | lane (l : Fin 128)
  deriving DecidableEq, Repr

/-- A periodic PTP message of a master port: Sync, Announce, or a Pdelay_Req under the Peer-to-Peer profile (10 R364). -/
inductive PtpSend where
  | sync | announce | pdelay
  deriving DecidableEq, Repr

/-- How a time source is lost (10 R369). -/
inductive LossKind where
  | missingSync | announceTimeout | link | ppsGap
  deriving DecidableEq, Repr

/-- What the hardware of a test of Diagnose mode met: on a lane under test 0, the bits of the run that the loopback path inverted
(none in a path without a fault); on a lane under test 2, the bits at its receiver; of tests 3 and 4, the verdict and the errors; of
tests 3 to 7, the data that follows the header (20 R655 to R661). -/
structure TestResult where
  inverted : List Nat
  received : List Bool
  verdict : Nat
  errors : Nat
  body : List Byte
  deriving DecidableEq, Repr

/-! ### Operands of spares and patrol (15) -/

/-- Where an uncorrectable HBM error hits (15 R513): staging, spool or record data, with the frames that have a byte in the row
as (sconce, FRAME_NUMBER), or one of the fixed areas. -/
inductive HbmHit where
  | data (frames : List (Nat × Nat))
  | fixedArea
  deriving DecidableEq, Repr

/-- What the patrol checker finds (15 R520, R521): the frame it duplicated does not match, or a voting pass ends. -/
inductive PatrolOutcome where
  | mismatch
  | verdict (v : Fin 4)
  deriving DecidableEq, Repr

/-! ### Operands of Replay (16) -/

/-- An entry of a replay ring of the session's port with the block it names, as the FV8128 reads both (16 R564). -/
structure ReplayFetch where
  ring : Fin 1024
  e : BitVec 256
  data : HostData
  deriving DecidableEq, Repr

/-! ### Operands of the two-wire buses (18) -/

/-- A transfer to the management target after its command code: a write with the bytes that follow the code up to STOP (count
and PEC included), or a read, in which the controller acknowledges the last data byte or not (18 R597, R598). -/
inductive MgTransfer where
  | write (bytes : List Byte)
  | read (ackLast : Bool)
  deriving DecidableEq, Repr

/-- How a Host Notify of the FV8128 ends (18 R608, R609). -/
inductive NotifyEnd where
  | acknowledged | notAcknowledged | lost | waits
  deriving DecidableEq, Repr

/-- How a module-bus transfer ends on its bus (18 R612): with the bytes read and whether their PEC checks, or with an address or
a byte that was not acknowledged. -/
inductive CgEnd where
  | done (data : List Byte) (pecOk : Bool)
  | noAddress
  | noByte
  deriving DecidableEq, Repr

/-! ### The commands -/

/-- The commands, one constructor for each row of spec/opcode_table.json. -/
inductive Instr where
  /-- REGISTER_WRITE (R664): A write to a set-up register or configuration register that has no row of its own takes effect, or is discarded with REJECT under R11, R665 and R668. -/
  | registerWrite (t : Nat) (p : Fin 4) (w : RegWrite)
  /-- KICK (R100): A write to BAR0 offset 0x1000 begins a poll at once, or as soon as the current poll's reads complete. -/
  | kick (t : Nat) (p : HostTlp)
  /-- BRING_UP (R669): SETUP_CONTROL action 1 brings the doorbell page, ring 1 and ring 0 into service, or is refused with a recorded reason. -/
  | bringUp (t : Nat) (p : HostTlp)
  /-- TAKE_DOWN (R669): SETUP_CONTROL action 2 stops ring 0 and takes ring 1 and the doorbell page out of service, passing the control claim if held. -/
  | takeDown (t : Nat) (p : HostTlp)
  /-- RESTART_RING0 (R669): SETUP_CONTROL action 3 brings a faulted ring 0 back into service with both indices at 0. -/
  | restartRing0 (t : Nat) (p : HostTlp)
  /-- RESTART_RING1 (R669): SETUP_CONTROL action 4 brings a faulted ring 1 back into service and writes its held records. -/
  | restartRing1 (t : Nat) (p : HostTlp)
  /-- SETUP_ACTION_COMPLETE (R669): An accepted SETUP_CONTROL action completes within 10 µs and BUSY clears. -/
  | setupActionComplete (t : Nat) (p : Fin 4)
  /-- FUNCTION_LEVEL_RESET (R57): A function-level reset of a port resets its registers, takes its rings out of service, fails over or stops its streams and releases its resources. -/
  | functionLevelReset (t : Nat) (p : Fin 4)
  /-- FLR_COMPLETE (R57): A function-level reset completes within 10 ms, after which configuration requests no longer get Request Retry Status. -/
  | flrComplete (t : Nat) (p : Fin 4)
  /-- HOT_RESET (R56): A hot reset received on a port acts on that port exactly as a function-level reset. -/
  | hotReset (t : Nat) (p : Fin 4)
  /-- DL_DOWN (R56): The port's Data Link Layer goes to DL_Down, which acts as a function-level reset and restarts link training. -/
  | dlDown (t : Nat) (p : Fin 4)
  /-- LINK_UP (R54): Link training completes and the port answers configuration requests, with Request Retry Status until ready. -/
  | linkUp (t : Nat) (p : Fin 4) (rate width : Nat)
  /-- PORT_READY (R54): The port becomes ready, at the latest 1 s after reset release, and sends a DRS Message if enabled. -/
  | portReady (t : Nat) (p : Fin 4)
  /-- D3HOT_ENTRY (R58): Host software places a port in D3hot; its streams are declared stalled and it stops fetching and writing. -/
  | d3hotEntry (t : Nat) (p : Fin 4)
  /-- D0_RETURN (R58): A port returns from D3hot to D0 with all state kept; held event records are written and delivery resumes within 10 ms. -/
  | d0Return (t : Nat) (p : Fin 4)
  /-- BUS_MASTER_DISABLE (R59): Clearing Bus Master Enable declares the port's streams stalled and stops fetching and writing. -/
  | busMasterDisable (t : Nat) (p : Fin 4)
  /-- BUS_MASTER_ENABLE (R59): Setting Bus Master Enable again resumes fetching within 1 µs and writes held records. -/
  | busMasterEnable (t : Nat) (p : Fin 4)
  /-- INTERRUPT_ENABLE_CHANGE (R68): Enabling MSI-X or clearing Interrupt Disable signals once every ring whose moderation fired while interrupts were off. -/
  | interruptEnableChange (t : Nat) (p : Fin 4) (msix disable : Bool)
  /-- INTERRUPT_DISABLE (R67): Setting Interrupt Disable sends Deassert_INTA and clears Interrupt Status. -/
  | interruptDisable (t : Nat) (p : Fin 4)
  /-- MSIX_VECTOR_UNMASK (R66): Unmasking a vector whose pending bit is set sends its message once. -/
  | msixVectorUnmask (t : Nat) (p : HostTlp) (v : Fin 2048)
  /-- LINK_CAPACITY_CHANGE (R53): The link's rate or width changes; the ledger re-checks the port's demand within 1 ms and moves or spools streams as needed. -/
  | linkCapacityChange (t : Nat) (p : Fin 4) (rate width : Nat)
  /-- L0P_REQUEST (R65): The link partner requests an L0p width change, which the port accepts unless it narrows below the width R63 requires. -/
  | l0pRequest (t : Nat) (p : Fin 4) (width : Nat)
  /-- L0P_NARROW (R63): While streams deliver, the port narrows its link to the narrowest width whose capacity meets the ledger. -/
  | l0pNarrow (t : Nat) (p : Fin 4)
  /-- ASPM_L1_ENTRY (R60): After 20 µs with no activity and the other conditions met, the port begins L1 entry within 2 µs. -/
  | aspmL1Entry (t : Nat) (p : Fin 4)
  /-- MALFORMED_TLP (R71): A received TLP that is malformed, fails ECRC or breaks flow control is handled as PCI Express requires and reported through AER. -/
  | malformedTlp (t : Nat) (p : Fin 4) (k : TlpError) (header : BitVec 128)
  /-- UNSUPPORTED_REQUEST (R71): A request to an unimplemented BAR, an I/O request or a BAR0 request with Memory Space Enable 0 is answered as an Unsupported Request. -/
  | unsupportedRequest (t : Nat) (p : Fin 4) (k : BadRequest) (header : BitVec 128)
  /-- COMPLETER_ABORT (R45): A BAR0 access of wrong size or alignment is answered with Completer Abort or discarded and logged. -/
  | completerAbort (t : Nat) (p : Fin 4) (read : Bool) (header : BitVec 128)
  /-- POISONED_TLP_RECEIVED (R71): A poisoned write reaching BAR0 is discarded and reported as advisory. -/
  | poisonedTlpReceived (t : Nat) (p : Fin 4) (header : BitVec 128)
  /-- UNEXPECTED_COMPLETION (R71): A completion that matches no outstanding request is discarded and reported. -/
  | unexpectedCompletion (t : Nat) (p : Fin 4) (header : BitVec 128)
  /-- HOST_READ_FAILURE (R71): A read of a ring, doorbell page or replay data returns poisoned or times out; it is repeated up to twice, after which the ring is faulted. -/
  | hostReadFailure (t : Nat) (p : Fin 4) (x : ReadSource) (tries : Nat) (timeout : Bool) (header : BitVec 128)
  /-- HOLDOFF_EXPIRY (R69): A ring's holdoff timer expires with unannounced entries and the interrupt is sent. -/
  | holdoffExpiry (t : Nat) (p : Fin 4) (r : Fin 1024)
  /-- MSIX_SPACING_EXPIRY (R70): A message waiting on a vector is sent 100 ns after the previous one, covering every firing in the wait. -/
  | msixSpacingExpiry (t : Nat) (p : Fin 4) (v : Fin 2048)
  /-- POLL (R98): The port reads the summary bitmap and flagged index words, writes POLL_EPOCH, fetches commands and descriptors, and takes hand-backs. -/
  | poll (t : Nat) (p : Fin 4) (ws : List (Nat × BitVec 32))
  /-- IDLE_POLL (R61): While the port is idle it polls at 100 µs and returns to L1 after each poll that finds no work. -/
  | idlePoll (t : Nat) (p : Fin 4) (ws : List (Nat × BitVec 32))
  /-- DESCRIPTOR_FETCH (R485): A fetched buffer descriptor is checked and its pages translated, or it is consumed with a DESC_REJECT record. -/
  | descriptorFetch (t : Nat) (p : Fin 4) (st : Fin 2048) (d : BitVec 256)
  /-- NOP (R109): Completes with SUCCESS. -/
  | nop (t : Nat) (c : RingCmd)
  /-- RING_CREATE (R113): Brings a ring of the given kind, size, base and moderation into service. -/
  | ringCreate (t : Nat) (c : RingCmd)
  /-- RING_DESTROY (R114): Takes a ring out of service, discarding unfetched entries. -/
  | ringDestroy (t : Nat) (c : RingCmd)
  /-- RING_MODERATE (R114): Sets a device-filled ring's vector, holdoff and threshold for later entries. -/
  | ringModerate (t : Nat) (c : RingCmd)
  /-- PORT_CONFIG (R114): Sets the poll interval P from the next poll. -/
  | portConfig (t : Nat) (c : RingCmd)
  /-- CLAIM_PASS (R672): Passes the control claim to another port whose ring 0 is in service. -/
  | claimPass (t : Nat) (c : RingCmd)
  /-- QUERY_VERSION (R539): Writes the VERSION block to a host buffer. -/
  | queryVersion (t : Nat) (c : RingCmd)
  /-- QUERY_HEALTH (R540): Writes the HEALTH block with pools, fatal slots and unit entries. -/
  | queryHealth (t : Nat) (c : RingCmd)
  /-- QUERY_LEDGER (R542): Writes the LEDGER block of demands and limits. -/
  | queryLedger (t : Nat) (c : RingCmd)
  /-- QUERY_COUNTERS (R543): Writes the counter block of a lane, sconce, Lantern, target, sequencer or stream. -/
  | queryCounters (t : Nat) (c : RingCmd)
  /-- STREAM_CONFIG (R127): Configures and admits a stream, or re-checks a Configured one, through the ledger. -/
  | streamConfig (t : Nat) (c : RingCmd)
  /-- STREAM_START (R127): Arms a Configured stream to start delivering at the sconce's next frame boundary. -/
  | streamStart (t : Nat) (c : RingCmd)
  /-- STREAM_STOP (R127): Makes a Running stream Stopping, delivering the named frame then stopping. -/
  | streamStop (t : Nat) (c : RingCmd)
  /-- STREAM_MOVE (R502): Arms a move of a Running stream to the other port of its pair at a frame boundary. -/
  | streamMove (t : Nat) (c : RingCmd)
  /-- STREAM_RELEASE (R127): Frees a Configured stream's ledger charge and number. -/
  | streamRelease (t : Nat) (c : RingCmd)
  /-- MOVER_STOP (R483): MOVER_CONTROL STOP finishes the current frame or transfer and holds further work. -/
  | moverStop (t : Nat) (c : RingCmd)
  /-- MOVER_SNUFF (R483): MOVER_CONTROL SNUFF stops a mover at once, discarding its frame or abandoning its transfer. -/
  | moverSnuff (t : Nat) (c : RingCmd)
  /-- MOVER_RESUME (R483): MOVER_CONTROL RESUME lets a stopped context or mover take work again. -/
  | moverResume (t : Nat) (c : RingCmd)
  /-- MOVER_PACE (R483): MOVER_CONTROL PACE sets a context or mover to release one step per MOVER event. -/
  | moverPace (t : Nat) (c : RingCmd)
  /-- MOVER_SPOOL (R483): MOVER_CONTROL SPOOL sets the issuing port's spool share under the capacity ledger. -/
  | moverSpool (t : Nat) (c : RingCmd)
  /-- MAP_RUN (R488): MAP_LOAD RUN maps a run of pages to consecutive bus addresses. -/
  | mapRun (t : Nat) (c : RingCmd)
  /-- MAP_LIST (R488): MAP_LOAD LIST maps pages to bus addresses read from a host list. -/
  | mapList (t : Nat) (c : RingCmd)
  /-- MAP_UNMAP (R488): MAP_LOAD UNMAP removes translation entries of this port. -/
  | mapUnmap (t : Nat) (c : RingCmd)
  /-- SCONCE_CONFIG (R186): Binds a lane and format table to a sconce with its assembly parameters and ledger charge. -/
  | sconceConfig (t : Nat) (c : RingCmd)
  /-- SCONCE_RELEASE (R186): SCONCE_CONFIG with RELEASE 1 frees a sconce and its ledger charge. -/
  | sconceRelease (t : Nat) (c : RingCmd)
  /-- TABLE_LOAD (R190): Reads, checks and copies a table image into the table area under a handle. -/
  | tableLoad (t : Nat) (c : RingCmd)
  /-- TABLE_RELEASE (R190): Frees a table that no sconce's parameters use. -/
  | tableRelease (t : Nat) (c : RingCmd)
  /-- PARAM_SET (R212): Writes a pending parameter set into a sconce's shadow, stamped with its commit stamp. -/
  | paramSet (t : Nat) (c : RingCmd)
  /-- KERNEL_LOAD (R296): Loads a kernel image into a Lantern's inactive bank and its segment into the table area. -/
  | kernelLoad (t : Nat) (c : RingCmd)
  /-- KERNEL_SWAP (R297): Arms a swap of banks, or deactivation, at a frame boundary of the bound sconce. -/
  | kernelSwap (t : Nat) (c : RingCmd)
  /-- LANTERN_BIND (R299): Binds a Lantern to a tap of a sconce in state Bound. -/
  | lanternBind (t : Nat) (c : RingCmd)
  /-- LANTERN_RELEASE (R299): LANTERN_BIND with RELEASE 1 frees a Bound Lantern's binding and its owned channels. -/
  | lanternRelease (t : Nat) (c : RingCmd)
  /-- LANE_CONFIG (R180): Sets a lane's mode, rates, preset and Ethernet fields, restarting bring-up or applying in place. -/
  | laneConfig (t : Nat) (c : RingCmd)
  /-- LANE_REQUEST (R154): Sends a VLP control request to a camera and waits for its answer. -/
  | laneRequest (t : Nat) (c : RingCmd)
  /-- LANE_PACKET_SEND (R172): Sends an Ethernet frame on a lane's downlink and completes when its last bit has left. -/
  | lanePacketSend (t : Nat) (c : RingCmd)
  /-- TIME_CONFIGURE (R379): TIME_CONFIG CONFIGURE sets the clock role, source, profile, servo and PPS settings. -/
  | timeConfigure (t : Nat) (c : RingCmd)
  /-- SET_TIME (R381): TIME_CONFIG SET_TIME loads device time or RATE_ADJ, at once or at the next PPS_IN edge. -/
  | setTime (t : Nat) (c : RingCmd)
  /-- READ_STAMPS (R377): TIME_CONFIG READ_STAMPS moves the transmit time-stamp queue to a host block. -/
  | readStamps (t : Nat) (c : RingCmd)
  /-- TIME_STATUS (R382): TIME_CONFIG STATUS writes the time-base status block. -/
  | timeStatus (t : Nat) (c : RingCmd)
  /-- ENCODER_CONFIGURE (R415): ENCODER_CONFIG CONFIGURE sets a channel's mode, filter, Z handling, observer and serial fields. -/
  | encoderConfigure (t : Nat) (c : RingCmd)
  /-- SET_COUNT (R398): ENCODER_CONFIG SET_COUNT jumps a channel's count at the commit stamp. -/
  | setCount (t : Nat) (c : RingCmd)
  /-- DIVIDER (R410): ENCODER_CONFIG DIVIDER starts or stops a channel's pulse divider. -/
  | divider (t : Nat) (c : RingCmd)
  /-- ENCODER_STATUS (R416): ENCODER_CONFIG STATUS writes a channel's status block. -/
  | encoderStatus (t : Nat) (c : RingCmd)
  /-- ENCODER_RELEASE (R415): ENCODER_CONFIG RELEASE sets the channel Off and releases its claims and ownership. -/
  | encoderRelease (t : Nat) (c : RingCmd)
  /-- SEQ_LOAD (R424): Loads and checks a sequencer state table, disarming its slots. -/
  | seqLoad (t : Nat) (c : RingCmd)
  /-- TARGET_CONFIG (R444): Writes a trigger target descriptor. -/
  | targetConfig (t : Nat) (c : RingCmd)
  /-- TRIGGER_START (R429): TRIGGER_ARM START arms a sequencer to enter state 0 at its start instant. -/
  | triggerStart (t : Nat) (c : RingCmd)
  /-- TRIGGER_HALT (R429): TRIGGER_ARM HALT halts a sequencer, disarming slots and stopping timers. -/
  | triggerHalt (t : Nat) (c : RingCmd)
  /-- TRIGGER_SLOT_ARM (R429): TRIGGER_ARM ARM arms a compare slot at a time or position target. -/
  | triggerSlotArm (t : Nat) (c : RingCmd)
  /-- TRIGGER_SLOT_DISARM (R429): TRIGGER_ARM DISARM disarms a compare slot. -/
  | triggerSlotDisarm (t : Nat) (c : RingCmd)
  /-- TRIGGER_HANDOVER (R440): Arms a change of a target between time and position control at T_H. -/
  | triggerHandover (t : Nat) (c : RingCmd)
  /-- GIO_CONFIG (R442): Sets a GIO line's direction, level, filter and safe state, or releases it. -/
  | gioConfig (t : Nat) (c : RingCmd)
  /-- EVENT_BIND (R467): EVENT_BIND BIND binds or replaces a channel's producer, group and consumer slots. -/
  | eventBind (t : Nat) (c : RingCmd)
  /-- EVENT_SIGNAL (R468): EVENT_BIND SIGNAL emits one event on a COMMAND channel at the commit stamp. -/
  | eventSignal (t : Nat) (c : RingCmd)
  /-- EVENT_GROUPS (R468): EVENT_BIND GROUPS enables and disables groups at the commit stamp. -/
  | eventGroups (t : Nat) (c : RingCmd)
  /-- EVENT_STATUS (R469): EVENT_BIND STATUS writes a channel's status block. -/
  | eventStatus (t : Nat) (c : RingCmd)
  /-- EVENT_RELEASE (R470): Frees a channel at its commit stamp. -/
  | eventRelease (t : Nat) (c : RingCmd)
  /-- MODE_SET (R576): Changes the mode along an allowed transition, stopping streams when asked. -/
  | modeSet (t : Nat) (c : RingCmd)
  /-- MODE_TRANSITION_COMPLETE (R577): A mode transition completes within its limit and a MODE_STATE record is written. -/
  | modeTransitionComplete (t : Nat)
  /-- MODE_SET_STREAM_SNUFF (R576): A stream still Stopping 1 s after a stopping MODE_SET commit is snuffed. -/
  | modeSetStreamSnuff (t : Nat)
  /-- KEEP_POWER_DOWN (R577): 1 ms after a MODE_SET Keep completes, the main domain powers down. -/
  | keepPowerDown (t : Nat)
  /-- SPARE_PLAN (R518): SPARE_MANAGE PLAN starts a planned spare-in of a logical unit. -/
  | sparePlan (t : Nat) (c : RingCmd)
  /-- SPARE_FORCE (R518): SPARE_MANAGE FORCE takes a unit out at once as a hard fault. -/
  | spareForce (t : Nat) (c : RingCmd)
  /-- SPARE_RETIRE (R518): SPARE_MANAGE RETIRE removes a spare from its pool for good. -/
  | spareRetire (t : Nat) (c : RingCmd)
  /-- SPARE_POLICY (R518): SPARE_MANAGE POLICY sets AUTO and WEAR_LIMIT for a pool. -/
  | sparePolicy (t : Nat) (c : RingCmd)
  /-- PATROL_CONFIG (R523): Sets patrol ENABLE and INTERVAL from the next patrol. -/
  | patrolConfig (t : Nat) (c : RingCmd)
  /-- JOURNAL_TARGETS (R554): JOURNAL_CONFIG TARGETS sets the journal ring and NV store targets and NV_RATE. -/
  | journalTargets (t : Nat) (c : RingCmd)
  /-- JOURNAL_MARK (R554): JOURNAL_CONFIG MARK emits a MARK record at the commit stamp. -/
  | journalMark (t : Nat) (c : RingCmd)
  /-- READ_NV (R554): JOURNAL_CONFIG READ_NV copies records from the NV store to a host buffer. -/
  | readNv (t : Nat) (c : RingCmd)
  /-- THAW (R551): JOURNAL_CONFIG THAW ends the NV store's freeze. -/
  | thaw (t : Nat) (c : RingCmd)
  /-- JOURNAL_STATUS (R555): JOURNAL_CONFIG STATUS writes the journal status block. -/
  | journalStatus (t : Nat) (c : RingCmd)
  /-- RECORD_AREA (R563): RECORD_CONFIG AREA sets the HBM record area size and FULL policy. -/
  | recordArea (t : Nat) (c : RingCmd)
  /-- RECORD_START (R563): RECORD_CONFIG START arms a capture of a stream's sconce. -/
  | recordStart (t : Nat) (c : RingCmd)
  /-- RECORD_STOP (R563): RECORD_CONFIG STOP ends a capture at its next boundary. -/
  | recordStop (t : Nat) (c : RingCmd)
  /-- RECORD_EXPORT (R563): RECORD_CONFIG EXPORT copies a sconce's HBM capture blocks to a record ring. -/
  | recordExport (t : Nat) (c : RingCmd)
  /-- RECORD_STATUS (R563): RECORD_CONFIG STATUS writes the record status block. -/
  | recordStatus (t : Nat) (c : RingCmd)
  /-- REPLAY_ADD (R570): REPLAY_CONTROL ADD maps a recorded sconce to a target sconce and replay ring. -/
  | replayAdd (t : Nat) (c : RingCmd)
  /-- REPLAY_START (R570): REPLAY_CONTROL START loads snapshots and begins presenting items. -/
  | replayStart (t : Nat) (c : RingCmd)
  /-- REPLAY_PAUSE (R570): REPLAY_CONTROL PAUSE stops presentation. -/
  | replayPause (t : Nat) (c : RingCmd)
  /-- REPLAY_RESUME (R570): REPLAY_CONTROL RESUME restarts presentation with R0 advanced. -/
  | replayResume (t : Nat) (c : RingCmd)
  /-- REPLAY_END (R569): REPLAY_CONTROL END ends the session, discarding open frames and freeing handles. -/
  | replayEnd (t : Nat) (c : RingCmd)
  /-- NEAR_LOOP (R655): DIAG_RUN test 0 loops a lane's transmitter to its receiver and checks a pattern. -/
  | nearLoop (t : Nat) (c : RingCmd)
  /-- FAR_LOOP (R655): DIAG_RUN test 1 retimes received symbols back out on the lane. -/
  | farLoop (t : Nat) (c : RingCmd)
  /-- PATTERN (R656): DIAG_RUN test 2 generates and/or checks a pattern on a lane's pins. -/
  | pattern (t : Nat) (c : RingCmd)
  /-- EYE_SCAN (R658): DIAG_RUN test 3 scans a lane receiver's eyes. -/
  | eyeScan (t : Nat) (c : RingCmd)
  /-- HBM_TEST (R659): DIAG_RUN test 4 runs march patterns over HBM, repairing failing rows. -/
  | hbmTest (t : Nat) (c : RingCmd)
  /-- SLICE_SELF_TEST (R660): DIAG_RUN test 5 runs a slice's built-in vectors. -/
  | sliceSelfTest (t : Nat) (c : RingCmd)
  /-- LANTERN_SELF_TEST (R660): DIAG_RUN test 6 runs a Lantern's built-in vectors. -/
  | lanternSelfTest (t : Nat) (c : RingCmd)
  /-- ENCODER_SELF_TEST (R660): DIAG_RUN test 7 runs a JPEG XS encoder instance's built-in vectors. -/
  | encoderSelfTest (t : Nat) (c : RingCmd)
  /-- ABORT (R662): DIAG_RUN test 8 ends a running test with VERDICT 2. -/
  | abort (t : Nat) (c : RingCmd)
  /-- DIAG_TEST_END (R662): A test ends, writes its result block and DONE, and a DIAG_RESULT record. -/
  | diagTestEnd (t : Nat) (id : Nat) (r : TestResult)
  /-- UNDEFINED_OPCODE (R12): A fetched command with an undefined opcode completes with BAD_OPCODE and no effect. -/
  | undefinedOpcode (t : Nat) (c : RingCmd)
  /-- SIGNAL_ENERGY_PRESENT (R137): Signal energy present for 100 µs moves a lane from WAIT_SIGNAL to ADAPT. -/
  | signalEnergyPresent (t : Nat) (l : Fin 128)
  /-- ADAPT_LOCK (R137): The receiver locks and the lane moves from ADAPT or RETRAIN to ALIGN. -/
  | adaptLock (t : Nat) (l : Fin 128)
  /-- ADAPT_TIMEOUT (R137): ADAPT's 40 ms limit expires and the lane returns to WAIT_SIGNAL. -/
  | adaptTimeout (t : Nat) (l : Fin 128)
  /-- ALIGN_FOUND (R137): Two alignment blocks one period apart, or block lock, move the lane to HELLO. -/
  | alignFound (t : Nat) (l : Fin 128) (direction : Byte)
  /-- ALIGN_TIMEOUT (R137): ALIGN's 2 ms limit expires and the lane returns to ADAPT. -/
  | alignTimeout (t : Nat) (l : Fin 128)
  /-- HELLO_TIMEOUT (R137): HELLO's 1 ms limit expires and the lane returns to WAIT_SIGNAL. -/
  | helloTimeout (t : Nat) (l : Fin 128)
  /-- HELLO_SEND (R137): Every 10 µs in HELLO or MISMATCH the lane sends HELLO. -/
  | helloSend (t : Nat) (l : Fin 128)
  /-- LANE_DROP (R138): A drop condition moves a lane from UP to RETRAIN, truncating open frames and holding requests. -/
  | laneDrop (t : Nat) (l : Fin 128) (cause : Nat)
  /-- RETRAIN_TIMEOUT (R137): RETRAIN reaches its limit and the lane goes to WAIT_SIGNAL. -/
  | retrainTimeout (t : Nat) (l : Fin 128)
  /-- LANE_LOST (R174): A lane not UP 100 ms after its drop completes its requests with LINK_LOST. -/
  | laneLost (t : Nat) (l : Fin 128)
  /-- HCRC_ERROR (R136): A word that is neither idle nor a valid header puts the receiver into hunt. -/
  | hcrcError (t : Nat) (l : Fin 128) (w : BitVec 64)
  /-- UNDEFINED_DT (R145): An uplink packet with an undefined data type is counted and dropped. -/
  | undefinedDt (t : Nat) (l : Fin 128) (k : LanePkt)
  /-- HELLO (R139): A camera's HELLO is checked, leading to UP, MISMATCH, or a drop when it arrives in UP. -/
  | hello (t : Nat) (l : Fin 128) (k : LanePkt)
  /-- FRAME_START (R211): A FRAME_START routed to a sconce closes any open frame and opens a new one, fixing its parameters at b(f). -/
  | frameStart (t : Nat) (l : Fin 128) (k : LanePkt)
  /-- FRAME_END (R202): A FRAME_END routed to a sconce closes the open frame, or closes and checks it when numbers differ. -/
  | frameEnd (t : Nat) (l : Fin 128) (k : LanePkt)
  /-- LINE_START (R201): A LINE_START opens a line and judges it in order, missing or late, and may close a chunked frame. -/
  | lineStart (t : Nat) (l : Fin 128) (k : LanePkt)
  /-- LINE_END (R202): A LINE_END closes the open line and checks its length. -/
  | lineEnd (t : Nat) (l : Fin 128) (k : LanePkt)
  /-- PIXEL_PACKET (R197): A pixel or metadata packet is unpacked into the open line or lines. -/
  | pixelPacket (t : Nat) (l : Fin 128) (k : LanePkt)
  /-- EXPOSURE_REPORT (R206): An EXPOSURE_REPORT sets a frame's T_EXPOSURE or is counted extra. -/
  | exposureReport (t : Nat) (l : Fin 128) (k : LanePkt)
  /-- CAMERA_EVENT (R144): A CAMERA_EVENT packet is consumed by the wick into a CAMERA_EVENT record. -/
  | cameraEvent (t : Nat) (l : Fin 128) (k : LanePkt)
  /-- CONTROL_RESPONSE (R152): A camera's response completes the outstanding control request or is dropped as stale. -/
  | controlResponse (t : Nat) (l : Fin 128) (k : LanePkt)
  /-- RETRANSMIT (R152): A control request's 2 µs response timer expires and it is sent again, or completes with NO_ACK. -/
  | retransmit (t : Nat) (l : Fin 128) (sensor : Byte)
  /-- LANE_REQUEST_TIMEOUT (R155): A LANE_REQUEST still open 250 ms after its fetch completes with LINK_LOST or NO_ACK. -/
  | laneRequestTimeout (t : Nat) (l : Fin 128) (sensor : Byte)
  /-- TIME_SYNC (R156): Every SYNC_PERIOD the lane sends TIME_SYNC with its phase and rate steering. -/
  | timeSync (t : Nat) (l : Fin 128)
  /-- TIME_SYNC_RESPONSE (R157): A TIME_SYNC_RESPONSE gives an offset that updates the lane's steering and lock state. -/
  | timeSyncResponse (t : Nat) (l : Fin 128) (k : LanePkt) (frac : BitVec 32)
  /-- TSYNC_MISSED (R157): A TIME_SYNC gets no response within 100 µs, counting toward unlock. -/
  | tsyncMissed (t : Nat) (l : Fin 128)
  /-- TRIGGER_IMMEDIATE (R161): A TRIGGER_IMMEDIATE leaves exactly L_D after the fire instant, late or not. -/
  | triggerImmediate (t : Nat) (l : Fin 128) (tg : Fin 256)
  /-- TRIGGER_SCHEDULED (R162): A TRIGGER_SCHEDULED is sent at its send instant, or at once if armed later. -/
  | triggerScheduled (t : Nat) (l : Fin 128) (tg : Fin 256)
  /-- HALT (R165): In Dark, every UP VLP lane sends HALT every 10 µs. -/
  | halt (t : Nat) (l : Fin 128)
  /-- RATE_SWITCH (R178): At the switch instant named by RATE_NOTICE the transmitter stops and the synthesiser relocks. -/
  | rateSwitch (t : Nat) (l : Fin 128)
  /-- SYNTHESISER_LOCK (R178): The downlink synthesiser locks at its new rate or after recalibration. -/
  | synthesiserLock (t : Nat) (l : Fin 128)
  /-- DOWNLINK_READY (R178): 20 µs after lock the downlink is ready and sends queued packets. -/
  | downlinkReady (t : Nat) (l : Fin 128)
  /-- BACKGROUND_RECALIBRATION (R177): The transmit synthesiser recalibrates in the background when no trigger is scheduled within 50 µs. -/
  | backgroundRecalibration (t : Nat) (l : Fin 128)
  /-- RECAL_DEFERRED (R177): Once per second while recalibration is deferred, a RECAL_DEFERRED record is written. -/
  | recalDeferred (t : Nat) (l : Fin 128)
  /-- SHARE_WINDOW_END (R167): A 100 µs window ends and sensors over their share are counted. -/
  | shareWindowEnd (t : Nat) (l : Fin 128)
  /-- ETHERNET_FRAME (R169): A frame received on an Ethernet lane is checked and terminated as PTP, GVSP, or written to the packet ring. -/
  | ethernetFrame (t : Nat) (l : Fin 128) (f : EthFrame)
  /-- GVSP_PACKET (R170): A GVSP packet is presented to the format table or dropped. -/
  | gvspPacket (t : Nat) (l : Fin 128) (f : EthFrame)
  /-- PCS_ALIGNMENT_LOSS (R175): Loss of PCS alignment for 10 µs drops an Ethernet lane. -/
  | pcsAlignmentLoss (t : Nat) (l : Fin 128)
  /-- ETHERNET_RETRAIN_TIMEOUT (R175): An Ethernet lane's RETRAIN reaches 500 ms and goes to WAIT_SIGNAL. -/
  | ethernetRetrainTimeout (t : Nat) (l : Fin 128)
  /-- LINE_TIMEOUT (R203): An open line receives no packet within LINE_TIMEOUT and is closed and checked. -/
  | lineTimeout (t : Nat) (c : Fin 512)
  /-- FRAME_TIMEOUT (R203): An open frame receives no packet within FRAME_TIMEOUT and is closed and checked. -/
  | frameTimeout (t : Nat) (c : Fin 512)
  /-- LINE_ENTRY (R286): A Lantern starts its line routine once the previous line has ended and line L + BELOW is in the window. -/
  | lineEntry (t : Nat) (n : Fin 64)
  /-- FRAME_ENTRY (R286): A Lantern runs FRAME_ENTRY when a frame's first line reaches the tap. -/
  | frameEntry (t : Nat) (n : Fin 64)
  /-- FRAME_EXIT (R286): A Lantern runs FRAME_EXIT after the frame's last line and its close at the tap. -/
  | frameExit (t : Nat) (n : Fin 64)
  /-- LANTERN_OVERRUN (R302): A line arrives with more than SLACK lines waiting; the overrun strikes line L and the kernel restarts. -/
  | lanternOverrun (t : Nat) (n : Fin 64)
  /-- NORMAL_HANDLER_ENTRY (R346): A deliverable normal-class source enters the normal handler. -/
  | normalHandlerEntry (t : Nat) (n : Fin 64)
  /-- FAST_HANDLER_ENTRY (R347): A deliverable fast-class source enters the fast handler with the shadow bank. -/
  | fastHandlerEntry (t : Nat) (n : Fin 64)
  /-- LANTERN_HOLDOFF_EXPIRY (R311): The normal-class HOLDOFF passes and a waiting normal source becomes deliverable. -/
  | lanternHoldoffExpiry (t : Nat) (n : Fin 64)
  /-- GATHER_DONE (R293): A gather completes, clearing BUSY and pending source 48. -/
  | gatherDone (t : Nat) (n : Fin 64)
  /-- GO (R293): A write of GO starts a gather, or sets REFUSED. -/
  | go (t : Nat) (n : Fin 64) (v : Word)
  /-- PENDING_SET (R308): A write to PENDING_SET sets sources pending. -/
  | pendingSet (t : Nat) (n : Fin 64) (w : LanternWrite)
  /-- PENDING_CLR (R308): A write to PENDING_CLR withdraws pending requests. -/
  | pendingClr (t : Nat) (n : Fin 64) (w : LanternWrite)
  /-- MASK_SET (R308): A write to MASK_SET masks sources. -/
  | maskSet (t : Nat) (n : Fin 64) (w : LanternWrite)
  /-- MASK_CLR (R308): A write to MASK_CLR unmasks sources. -/
  | maskClr (t : Nat) (n : Fin 64) (w : LanternWrite)
  /-- CLAIM_NORMAL (R309): A read of CLAIM_NORMAL claims the lowest deliverable normal source, or returns 0xFF. -/
  | claimNormal (t : Nat) (n : Fin 64)
  /-- CLAIM_FAST (R309): A read of CLAIM_FAST claims the lowest deliverable fast source, or returns 0xFF. -/
  | claimFast (t : Nat) (n : Fin 64)
  /-- COMPLETE (R308): A write to COMPLETE clears a source's active bit. -/
  | complete (t : Nat) (n : Fin 64) (v : Word)
  /-- DOORBELL (R308): A write to DOORBELL sets a message source pending or counts DOORBELL_BAD. -/
  | doorbell (t : Nat) (n : Fin 64) (v : Word)
  /-- COUNT (R310): A read of COUNT returns the source counters and clears them. -/
  | count (t : Nat) (n : Fin 64) (g : Fin 16)
  /-- ILLEGAL (R325): An undefined or malformed instruction word raises the ILLEGAL trap. -/
  | illegal (t : Nat) (n : Fin 64) (w : Word)
  /-- ADD (R327): rd = ra + rb. -/
  | add (t : Nat) (n : Fin 64) (w : Word)
  /-- SUB (R327): rd = ra − rb. -/
  | sub (t : Nat) (n : Fin 64) (w : Word)
  /-- AND (R327): rd = ra & rb. -/
  | and (t : Nat) (n : Fin 64) (w : Word)
  /-- OR (R327): rd = ra | rb. -/
  | or (t : Nat) (n : Fin 64) (w : Word)
  /-- XOR (R327): rd = ra ^ rb. -/
  | xor (t : Nat) (n : Fin 64) (w : Word)
  /-- SLL (R327): Logical shift left by rb[4:0]. -/
  | sll (t : Nat) (n : Fin 64) (w : Word)
  /-- SRL (R327): Logical shift right by rb[4:0]. -/
  | srl (t : Nat) (n : Fin 64) (w : Word)
  /-- SRA (R327): Arithmetic shift right by rb[4:0]. -/
  | sra (t : Nat) (n : Fin 64) (w : Word)
  /-- SLT (R327): Signed set-less-than. -/
  | slt (t : Nat) (n : Fin 64) (w : Word)
  /-- SLTU (R327): Unsigned set-less-than. -/
  | sltu (t : Nat) (n : Fin 64) (w : Word)
  /-- MIN (R327): Signed minimum. -/
  | min (t : Nat) (n : Fin 64) (w : Word)
  /-- MAX (R327): Signed maximum. -/
  | max (t : Nat) (n : Fin 64) (w : Word)
  /-- MINU (R327): Unsigned minimum. -/
  | minu (t : Nat) (n : Fin 64) (w : Word)
  /-- MAXU (R327): Unsigned maximum. -/
  | maxu (t : Nat) (n : Fin 64) (w : Word)
  /-- MUL (R327): Low 32 bits of the product. -/
  | mul (t : Nat) (n : Fin 64) (w : Word)
  /-- MULH (R327): High 32 bits of the signed product. -/
  | mulh (t : Nat) (n : Fin 64) (w : Word)
  /-- MULHU (R327): High 32 bits of the unsigned product. -/
  | mulhu (t : Nat) (n : Fin 64) (w : Word)
  /-- JALR (R327): Jumps to the index in ra, writing the return index to rd. -/
  | jalr (t : Nat) (n : Fin 64) (w : Word)
  /-- ADDI (R328): rd = ra + sign-extended immediate. -/
  | addi (t : Nat) (n : Fin 64) (w : Word)
  /-- ANDI (R328): rd = ra & zero-extended immediate. -/
  | andi (t : Nat) (n : Fin 64) (w : Word)
  /-- ORI (R328): rd = ra | zero-extended immediate. -/
  | ori (t : Nat) (n : Fin 64) (w : Word)
  /-- XORI (R328): rd = ra ^ zero-extended immediate. -/
  | xori (t : Nat) (n : Fin 64) (w : Word)
  /-- SLTI (R328): Signed set-less-than against the immediate. -/
  | slti (t : Nat) (n : Fin 64) (w : Word)
  /-- SLTIU (R328): Unsigned set-less-than against the sign-extended immediate. -/
  | sltiu (t : Nat) (n : Fin 64) (w : Word)
  /-- LUI (R328): rd = imm16 << 16. -/
  | lui (t : Nat) (n : Fin 64) (w : Word)
  /-- SHI (R328): Shifts ra by an immediate count in the selected direction. -/
  | shi (t : Nat) (n : Fin 64) (w : Word)
  /-- LW (R329): Loads a 32-bit word. -/
  | lw (t : Nat) (n : Fin 64) (w : Word)
  /-- LH (R329): Loads a sign-extended halfword. -/
  | lh (t : Nat) (n : Fin 64) (w : Word)
  /-- LHU (R329): Loads a zero-extended halfword. -/
  | lhu (t : Nat) (n : Fin 64) (w : Word)
  /-- LB (R329): Loads a sign-extended byte. -/
  | lb (t : Nat) (n : Fin 64) (w : Word)
  /-- LBU (R329): Loads a zero-extended byte. -/
  | lbu (t : Nat) (n : Fin 64) (w : Word)
  /-- SW (R329): Stores a 32-bit word. -/
  | sw (t : Nat) (n : Fin 64) (w : Word)
  /-- SH (R329): Stores a halfword. -/
  | sh (t : Nat) (n : Fin 64) (w : Word)
  /-- SB (R329): Stores a byte. -/
  | sb (t : Nat) (n : Fin 64) (w : Word)
  /-- VLD (R329): Loads 64 bytes into a vector register under a predicate. -/
  | vld (t : Nat) (n : Fin 64) (w : Word)
  /-- VST (R329): Stores a vector register's 64 bytes under a predicate. -/
  | vst (t : Nat) (n : Fin 64) (w : Word)
  /-- BEQ (R332): Branches when ra equals rb. -/
  | beq (t : Nat) (n : Fin 64) (w : Word)
  /-- BNE (R332): Branches when ra differs from rb. -/
  | bne (t : Nat) (n : Fin 64) (w : Word)
  /-- BLT (R332): Branches on signed less-than. -/
  | blt (t : Nat) (n : Fin 64) (w : Word)
  /-- BGE (R332): Branches on signed greater-or-equal. -/
  | bge (t : Nat) (n : Fin 64) (w : Word)
  /-- BLTU (R332): Branches on unsigned less-than. -/
  | bltu (t : Nat) (n : Fin 64) (w : Word)
  /-- BGEU (R332): Branches on unsigned greater-or-equal. -/
  | bgeu (t : Nat) (n : Fin 64) (w : Word)
  /-- JAL (R332): Jumps and writes the return index. -/
  | jal (t : Nat) (n : Fin 64) (w : Word)
  /-- BP (R332): Branches on ANY, ALL or NONE of a predicate. -/
  | bp (t : Nat) (n : Fin 64) (w : Word)
  /-- VADD (R334): Element-wise a + b. -/
  | vadd (t : Nat) (n : Fin 64) (w : Word)
  /-- VSUB (R334): Element-wise a − b. -/
  | vsub (t : Nat) (n : Fin 64) (w : Word)
  /-- VADDS (R334): Unsigned saturating add. -/
  | vadds (t : Nat) (n : Fin 64) (w : Word)
  /-- VSUBS (R334): Unsigned saturating subtract. -/
  | vsubs (t : Nat) (n : Fin 64) (w : Word)
  /-- VMIN (R334): Unsigned element minimum. -/
  | vmin (t : Nat) (n : Fin 64) (w : Word)
  /-- VMAX (R334): Unsigned element maximum. -/
  | vmax (t : Nat) (n : Fin 64) (w : Word)
  /-- VMINS (R334): Signed element minimum. -/
  | vmins (t : Nat) (n : Fin 64) (w : Word)
  /-- VMAXS (R334): Signed element maximum. -/
  | vmaxs (t : Nat) (n : Fin 64) (w : Word)
  /-- VAND (R334): Element-wise AND. -/
  | vand (t : Nat) (n : Fin 64) (w : Word)
  /-- VOR (R334): Element-wise OR. -/
  | vor (t : Nat) (n : Fin 64) (w : Word)
  /-- VXOR (R334): Element-wise XOR. -/
  | vxor (t : Nat) (n : Fin 64) (w : Word)
  /-- VSLL (R334): Element-wise shift left. -/
  | vsll (t : Nat) (n : Fin 64) (w : Word)
  /-- VSRL (R334): Element-wise logical shift right. -/
  | vsrl (t : Nat) (n : Fin 64) (w : Word)
  /-- VSRA (R334): Element-wise arithmetic shift right. -/
  | vsra (t : Nat) (n : Fin 64) (w : Word)
  /-- VABSD (R334): Unsigned absolute difference. -/
  | vabsd (t : Nat) (n : Fin 64) (w : Word)
  /-- VAVG (R334): Unsigned rounded average. -/
  | vavg (t : Nat) (n : Fin 64) (w : Word)
  /-- VMUL (R334): Low half of the element product. -/
  | vmul (t : Nat) (n : Fin 64) (w : Word)
  /-- VMULH (R334): High half of the signed element product. -/
  | vmulh (t : Nat) (n : Fin 64) (w : Word)
  /-- VMULSH (R334): Scaled, rounded, saturating unsigned product by XSHIFT. -/
  | vmulsh (t : Nat) (n : Fin 64) (w : Word)
  /-- VMACW (R334): Accumulates paired 16-bit signed products into 32-bit elements. -/
  | vmacw (t : Nat) (n : Fin 64) (w : Word)
  /-- VSEL (R334): Selects a or b per element by predicate. -/
  | vsel (t : Nat) (n : Fin 64) (w : Word)
  /-- VEQ (R335): Writes a predicate of a = b. -/
  | veq (t : Nat) (n : Fin 64) (w : Word)
  /-- VNE (R335): Writes a predicate of a ≠ b. -/
  | vne (t : Nat) (n : Fin 64) (w : Word)
  /-- VLTU (R335): Writes a predicate of unsigned a < b. -/
  | vltu (t : Nat) (n : Fin 64) (w : Word)
  /-- VGEU (R335): Writes a predicate of unsigned a ≥ b. -/
  | vgeu (t : Nat) (n : Fin 64) (w : Word)
  /-- VLT (R335): Writes a predicate of signed a < b. -/
  | vlt (t : Nat) (n : Fin 64) (w : Word)
  /-- VGE (R335): Writes a predicate of signed a ≥ b. -/
  | vge (t : Nat) (n : Fin 64) (w : Word)
  /-- PAND (R335): Predicate AND. -/
  | pand (t : Nat) (n : Fin 64) (w : Word)
  /-- POR (R335): Predicate OR. -/
  | por (t : Nat) (n : Fin 64) (w : Word)
  /-- PXOR (R335): Predicate XOR. -/
  | pxor (t : Nat) (n : Fin 64) (w : Word)
  /-- PNOT (R335): Predicate NOT. -/
  | pnot (t : Nat) (n : Fin 64) (w : Word)
  /-- VBCAST (R336): Broadcasts a scalar into every element. -/
  | vbcast (t : Nat) (n : Fin 64) (w : Word)
  /-- VSLIDE (R336): Slides elements by a signed scalar count. -/
  | vslide (t : Nat) (n : Fin 64) (w : Word)
  /-- VMOVE (R336): Copies a vector register under a guard. -/
  | vmove (t : Nat) (n : Fin 64) (w : Word)
  /-- PFROMS (R336): Writes a predicate from a scalar register. -/
  | pfroms (t : Nat) (n : Fin 64) (w : Word)
  /-- PTOS (R336): Writes a scalar register from a predicate. -/
  | ptos (t : Nat) (n : Fin 64) (w : Word)
  /-- MFSR (R337): Reads a special register into a scalar register. -/
  | mfsr (t : Nat) (n : Fin 64) (w : Word)
  /-- MTSR (R337): Writes a special register from a scalar register. -/
  | mtsr (t : Nat) (n : Fin 64) (w : Word)
  /-- LEND (R338): Ends the routine, handing the output line on in place of L. -/
  | lend (t : Nat) (n : Fin 64) (w : Word)
  /-- LDROP (R338): Raises the SOFT trap to refuse a line. -/
  | ldrop (t : Nat) (n : Fin 64) (w : Word)
  /-- WAIT (R338): Stalls until a source pends, a line enters or the frame closes. -/
  | wait (t : Nat) (n : Fin 64) (w : Word)
  /-- RETI (R350): Returns from the innermost handler, restoring its save slot. -/
  | reti (t : Nat) (n : Fin 64) (w : Word)
  /-- VBLK (R340): Applies a block function over XLEN elements of two arrays. -/
  | vblk (t : Nat) (n : Fin 64) (w : Word)
  /-- VFIR (R339): Applies a symmetric FIR filter over an array. -/
  | vfir (t : Nat) (n : Fin 64) (w : Word)
  /-- VGATH (R339): Gathers table values indexed by shifted array elements. -/
  | vgath (t : Nat) (n : Fin 64) (w : Word)
  /-- VSCAN (R339): Writes the running sum, maximum or minimum of an array. -/
  | vscan (t : Nat) (n : Fin 64) (w : Word)
  /-- VHIST (R339): Counts array elements into a histogram. -/
  | vhist (t : Nat) (n : Fin 64) (w : Word)
  /-- VRED (R339): Reduces an array into XACC. -/
  | vred (t : Nat) (n : Fin 64) (w : Word)
  /-- TIME_COMPARE_FIRE (R360): A time compare fires at its target instant, or 16 ns after a late arming. -/
  | timeCompareFire (t : Nat) (q : Fin 32) (slot : Fin 8)
  /-- SEQUENCER_TIMER_EXPIRY (R423): A sequencer timer expires, and restarts when periodic. -/
  | sequencerTimerExpiry (t : Nat) (q : Fin 32) (tm : Fin 4)
  /-- SEQUENCER_START_INSTANT (R429): A started sequencer enters state 0 at its start instant. -/
  | sequencerStartInstant (t : Nat) (q : Fin 32)
  /-- TRANSITION (R426): A sequencer takes a happening at its action instant and runs the matching transition's actions. -/
  | transition (t : Nat) (q : Fin 32) (h : Happening)
  /-- HELD_FIRE_RELEASE (R433): A held fire is accepted at t_last + MIN_INTERVAL. -/
  | heldFireRelease (t : Nat) (tg : Fin 256)
  /-- GIO_PULSE_START (R431): A GIO pulse target's leading edge is placed at the output instant. -/
  | gioPulseStart (t : Nat) (tg : Fin 256)
  /-- GIO_PULSE_END (R432): A GIO pulse ends after its width, stretched or clipped. -/
  | gioPulseEnd (t : Nat) (tg : Fin 256)
  /-- GIO_EDGE (R442): A filtered GIO input edge is stamped and offered to sequencers, Lantern pin sources, Hall decoding and the fabric. -/
  | gioEdge (t : Nat) (g : Fin 48) (level : Bool) (sub : Fin 512)
  /-- QUADRATURE_EDGE (R388): A filtered A or B edge counts in a quadrature mode or is a decode error. -/
  | quadratureEdge (t : Nat) (e : Fin 16) (a b : Bool) (sub : Fin 512)
  /-- STEP_EDGE (R389): A step edge counts in step/direction mode. -/
  | stepEdge (t : Nat) (e : Fin 16) (step dir : Bool) (sub : Fin 512)
  /-- UP_DOWN_EDGE (R389): A rising edge of the up or down input counts. -/
  | upDownEdge (t : Nat) (e : Fin 16) (up down : Bool) (sub : Fin 512)
  /-- HALL_CHANGE (R390): A change of the Hall state counts or is an error. -/
  | hallChange (t : Nat) (e : Fin 16) (u v w : Bool) (sub : Fin 512)
  /-- Z_EDGE (R397): An accepted index mark latches Z_COUNT and may jump the count. -/
  | zEdge (t : Nat) (e : Fin 16) (level : Bool) (sub : Fin 512)
  /-- WIRE_FAULT (R386): An input pair enters or leaves fault, forcing the observer to LOST. -/
  | wireFault (t : Nat) (e : Fin 16) (pair : Fin 4) (enter : Bool)
  /-- SERIAL_FRAME_START (R392): Every SER_PERIOD a serial reading is clocked from the sensor. -/
  | serialFrameStart (t : Nat) (e : Fin 16)
  /-- SERIAL_READING (R394): A serial reading completes and updates the count or is discarded. -/
  | serialReading (t : Nat) (e : Fin 16) (r : SerialReading)
  /-- OBSERVER_UPDATE (R400): Each microsecond the observer updates P and V and its state. -/
  | observerUpdate (t : Nat) (e : Fin 16)
  /-- POSITION_COMPARE_FIRE (R407): A position compare fires at its predicted instant or on the raw-count path. -/
  | positionCompareFire (t : Nat) (q : Fin 32) (slot : Fin 8)
  /-- DIVIDER_OUTPUT_EDGE (R411): A waiting divider output count is placed on GIO_A and GIO_B. -/
  | dividerOutputEdge (t : Nat) (e : Fin 16)
  /-- PTP_MESSAGE (R364): A PTP message is received on the timing port or a lane port and processed, updating the servo or BMCA. -/
  | ptpMessage (t : Nat) (x : PtpPort) (f : PtpFrame) (sub : Fin 512)
  /-- PTP_MASTER_TRANSMIT (R364): A master port sends its periodic Sync and Announce messages. -/
  | ptpMasterTransmit (t : Nat) (x : PtpPort) (k : PtpSend)
  /-- SOURCE_LOST (R369): Missing Syncs, announce timeout, link loss or a PPS_IN gap of 1.5 s moves the time base to HOLDOVER. -/
  | sourceLost (t : Nat) (k : LossKind)
  /-- PPS_IN_EDGE (R374): A PPS_IN edge is stamped, reported and fed to the servo or loads a pending SET_TIME. -/
  | ppsInEdge (t : Nat) (sub : Fin 512)
  /-- PPS_OUT_RISE (R373): PPS_OUT rises at each whole second of device time less its offset. -/
  | ppsOutRise (t : Nat)
  /-- PPS_OUT_FALL (R373): PPS_OUT falls after PPS_WIDTH. -/
  | ppsOutFall (t : Nat)
  /-- TP_LINK (R365): The timing port link goes up or down. -/
  | tpLink (t : Nat) (up : Bool)
  /-- PERIODIC (R451): A PERIODIC producer emits an event at each whole multiple of PERIOD. -/
  | periodic (t : Nat) (ch : Fin 256)
  /-- EVENT_ARRIVAL (R453): An event reaches a consumer slot at s + P + C and is delivered, made pending or lost. -/
  | eventArrival (t : Nat) (ch : Fin 256) (slot : Fin 8)
  /-- CONSUMER_FREE (R455): A busy consumer becomes free and receives its pending event. -/
  | consumerFree (t : Nat) (ch : Fin 256) (slot : Fin 8)
  /-- FRAME_TAG_WRITE (R475): After a frame closes and its writes are issued, its tag is written through the collector. -/
  | frameTagWrite (t : Nat) (st : Fin 2048)
  /-- PAYLOAD_WRITE_GRANT (R478): A frame mover issues a grant of up to 4 KiB of a stream's staged frame. -/
  | payloadWriteGrant (t : Nat) (st : Fin 2048)
  /-- STREAM_BLOCKED (R494): A stream issues no write for 100 µs with a frame to deliver and is blocked. -/
  | streamBlocked (t : Nat) (st : Fin 2048) (cause : Nat)
  /-- STALL (R496): A block of cause 1 to 3 that lasts 50 ms is declared a stall. -/
  | stall (t : Nat) (st : Fin 2048)
  /-- STALL_END (R498): The block ends; the stream resumes and drains its spool. -/
  | stallEnd (t : Nat) (st : Fin 2048)
  /-- AUX_DONE (R481): An auxiliary transfer completes and its CRC and AUX_DONE event are produced. -/
  | auxDone (t : Nat) (ax : Fin 8)
  /-- HARD_FAULT (R507): A unit stops answering for 10 µs or finds an uncorrectable error, flagging its frame in flight. -/
  | hardFault (t : Nat) (pool unit part : Nat)
  /-- SPARE_TAKEOVER (R509): A spare comes into service after a hard fault within the pool's limit. -/
  | spareTakeover (t : Nat) (pool unit : Nat) (lostWords : List Nat)
  /-- CORRECTED_ERROR (R516): A unit corrects an error; at WEAR_LIMIT a planned spare-in or WEAR_TREND follows. -/
  | correctedError (t : Nat) (pool unit part : Nat)
  /-- HBM_UNCORRECTABLE (R513): An uncorrectable HBM error flags frames or rewrites from the mirror. -/
  | hbmUncorrectable (t : Nat) (channel row : Nat) (x : HbmHit)
  /-- HBM_STACK_LOST (R513): A stack is lost; the FV8128 continues under R40 or enters Dark on a second loss. -/
  | hbmStackLost (t : Nat) (k : Fin 8)
  /-- PATROL_RESULT (R521): A voting pass ends with a verdict that may retire or replace a slice. -/
  | patrolResult (t : Nat) (c : Fin 512) (r : PatrolOutcome)
  /-- LOCKSTEP_MISMATCH (R525): A lockstep mismatch freezes the pair and the standby resumes from the checkpoint. -/
  | lockstepMismatch (t : Nat)
  /-- HEARTBEAT_LATE (R525): A supervisor heartbeat 40 µs late triggers a take-over. -/
  | heartbeatLate (t : Nat)
  /-- STANDBY_RESUME (R525): The standby resumes from the last checkpoint, or Dark follows after 50 µs. -/
  | standbyResume (t : Nat)
  /-- SUPERVISOR_SELF_TEST_DONE (R526): The frozen cores' self-test ends and a new pair and standby are formed. -/
  | supervisorSelfTestDone (t : Nat) (pass : List (Fin 3))
  /-- GUARD_FAULT (R527): A guard finds the other failed at its 1 µs mutual check and acts alone. -/
  | guardFault (t : Nat) (g : Fin 2)
  /-- DARK (R529): The guards or supervisors decide Dark: outputs go safe, HALT is sent and ports report fatal. -/
  | dark (t : Nat)
  /-- DARK_DRAIN_END (R529): Each port ends its drain by 10 ms after Dark and sends ERR_FATAL. -/
  | darkDrainEnd (t : Nat) (p : Fin 4)
  /-- DARK_PIN_LOW (R530): DARK# held low from outside for 1 µs enters Dark with cause 6. -/
  | darkPinLow (t : Nat)
  /-- EVENT_WINDOW_END (R534): A source's 1 ms window ends and its collapsed record is written. -/
  | eventWindowEnd (t : Nat)
  /-- JOURNAL_EMIT (R547): Staging emits a record once device time passes its TIME + 100 µs. -/
  | journalEmit (t : Nat)
  /-- SYNC (R546): A SYNC record is made at each whole millisecond of device time. -/
  | sync (t : Nat)
  /-- NV_BLOCK_WRITE (R550): The NV store writes and checks a block, rewriting a failed block to a spare. -/
  | nvBlockWrite (t : Nat) (bad : Bool)
  /-- FATAL_FREEZE (R551): A FATAL record flushes the NV target up to TIME + 100 ms and freezes it. -/
  | fatalFreeze (t : Nat)
  /-- HEALTH_NV_WRITE (R515): Once each hour the Ember writes the health values to the NV store. -/
  | healthNvWrite (t : Nat)
  /-- REPLAY_ITEM_PRESENT (R566): A replay item falls due at its presentation instant and is fed to the target sconce, or the session pauses. -/
  | replayItemPresent (t : Nat) (f : List ReplayFetch)
  /-- PORST_ASSERT (R588): PORST# low for 1 µs resets the device at once into Keep. -/
  | porstAssert (t : Nat)
  /-- PORST_RELEASE (R581): Release of PORST# samples the straps and begins start-up. -/
  | porstRelease (t : Nat) (straps : Fin 8)
  /-- WARMRST_ASSERT (R588): WARMRST# low for 1 µs resets the device at once into Keep. -/
  | warmrstAssert (t : Nat)
  /-- WARMRST_RELEASE (R581): Release of WARMRST# begins start-up. -/
  | warmrstRelease (t : Nat)
  /-- GUARD_RESET (R606): GUARD_RESET 0x5A within 10 ms of GUARD_ARM makes the guards perform a guard reset. -/
  | guardReset (t : Nat) (x : MgTransfer)
  /-- GUARD_RESET_END (R586): After 1 ms the guard reset ends and start-up begins. -/
  | guardResetEnd (t : Nat)
  /-- PWR_GOOD (R581): Internal rails come into range and PWR_GOOD rises. -/
  | pwrGood (t : Nat)
  /-- FIRMWARE_VERIFIED (R583): Firmware verification ends, running copy A, copy B, or neither. -/
  | firmwareVerified (t : Nat) (failA : Fin 4) (passB : Bool)
  /-- HBM_TRAINED (R581): The HBM stacks are trained, repaired and zeroed, or Dark follows start-up. -/
  | hbmTrained (t : Nat) (failed : List (Fin 8))
  /-- CAGE_POWER_ENABLE (R581): CGc_PWREN rises for each cage on its start-up schedule. -/
  | cagePowerEnable (t : Nat) (b : Fin 17)
  /-- CAGE_RESET_RELEASE (R581): CGc_RST# rises 100 ms after CGc_PWREN. -/
  | cageResetRelease (t : Nat) (b : Fin 17)
  /-- START_UP_SELF_TESTS_DONE (R581): Start-up self-tests of wicks, slices, Lanterns and encoders complete. -/
  | startUpSelfTestsDone (t : Nat) (failed : List (Nat × Nat))
  /-- START_DONE (R581): Start-up ends in Standby and ports become ready. -/
  | startDone (t : Nat)
  /-- FEED_APPLIED (R573): A feed is applied after a loss of all supplies and the Ember starts in Keep. -/
  | feedApplied (t : Nat) (f : Fin 2)
  /-- FEED_OUT_OF_RANGE (R627): A feed is declared out of range after 200 ns and the supply switches over. -/
  | feedOutOfRange (t : Nat) (f : Fin 2) (otherNear : Bool)
  /-- FEED_QUALIFIED (R627): A feed in range for 10 ms is qualified, and VMAIN is taken back into use. -/
  | feedQualified (t : Nat) (f : Fin 2)
  /-- FEED_RETURN_START (R573): A feed in range for 10 ms after a collapse with PORST# high starts start-up. -/
  | feedReturnStart (t : Nat) (f : Fin 2)
  /-- COLLAPSE (R536): Both feeds out of range for 1 µs shut the main domain down and the Ember goes on from HOLD in Keep. -/
  | collapse (t : Nat) (hold : Bool)
  /-- HOLD_EXHAUSTED (R537): HOLD falls below its minimum and all Ember state is lost. -/
  | holdExhausted (t : Nat)
  /-- LREFCLK_ABSENT (R636): A lane reference absent for 10 µs stops the chiplet's lanes. -/
  | lrefclkAbsent (t : Nat) (k : Fin 4)
  /-- LREFCLK_RETURN (R636): 1 ms after a lane reference returns, its lanes restart from WAIT_SIGNAL. -/
  | lrefclkReturn (t : Nat) (k : Fin 4)
  /-- HPREFCLK_ABSENT (R636): A host reference absent takes the port's link down. -/
  | hprefclkAbsent (t : Nat) (p : Fin 4)
  /-- EMBER_REFERENCE_ABSENT (R636): The 25 MHz reference absent for 1 µs moves the Ember to its internal oscillator. -/
  | emberReferenceAbsent (t : Nat)
  /-- IDENTITY (R601): MG Block Read of the module identity. -/
  | identity (t : Nat) (x : MgTransfer)
  /-- MG_STATUS (R603): MG Read Word of STATUS, clearing REJECT. -/
  | mgStatus (t : Nat) (x : MgTransfer)
  /-- TIME (R601): MG Block Read of device time and time-base state. -/
  | time (t : Nat) (x : MgTransfer)
  /-- TEMP (R601): MG Read Word of the hottest die sensor. -/
  | temp (t : Nat) (x : MgTransfer) (v : BitVec 16)
  /-- FATAL_COUNT (R601): MG Read Byte of fatal slots in use. -/
  | fatalCount (t : Nat) (x : MgTransfer)
  /-- FATAL_INDEX (R601): MG read or write of the fatal slot index. -/
  | fatalIndex (t : Nat) (x : MgTransfer)
  /-- FATAL_SLOT (R601): MG Block Read of a fatal slot, advancing FATAL_INDEX. -/
  | fatalSlot (t : Nat) (x : MgTransfer)
  /-- POOL_INDEX (R601): MG read or write of the pool index. -/
  | poolIndex (t : Nat) (x : MgTransfer)
  /-- POOL (R601): MG Block Read of a pool entry. -/
  | pool (t : Nat) (x : MgTransfer)
  /-- ALERT_STATUS (R604): MG read of ALERT_STATUS, or a write that clears bits and may release MG_ALERT#. -/
  | alertStatus (t : Nat) (x : MgTransfer)
  /-- ALERT_MASK (R601): MG read or write of ALERT_MASK. -/
  | alertMask (t : Nat) (x : MgTransfer)
  /-- NOTIFY_CONFIG (R607): MG read or write of the notify method and speed. -/
  | notifyConfig (t : Nat) (x : MgTransfer)
  /-- THERM_LIMIT (R601): MG read or write of the thermal alert limit. -/
  | thermLimit (t : Nat) (x : MgTransfer)
  /-- CG_XFER (R610): Starts a transfer on a module bus. -/
  | cgXfer (t : Nat) (x : MgTransfer)
  /-- CG_RESULT (R612): MG Block Read of the last module-bus transfer's result. -/
  | cgResult (t : Nat) (x : MgTransfer)
  /-- CG_CYCLE (R614): Power-cycles the module of a bus. -/
  | cgCycle (t : Nat) (x : MgTransfer)
  /-- CG_CYCLE_MS (R601): MG read or write of the power-off time of a module power-cycle. -/
  | cgCycleMs (t : Nat) (x : MgTransfer)
  /-- WAKE (R605): Begins start-up from Keep, or is rejected. -/
  | wake (t : Nat) (x : MgTransfer)
  /-- GUARD_ARM (R606): Arms a guard reset for 10 ms. -/
  | guardArm (t : Nat) (x : MgTransfer)
  /-- GUARD_ARM_EXPIRY (R606): The 10 ms of GUARD_ARM pass and GUARD_ARMED clears. -/
  | guardArmExpiry (t : Nat)
  /-- MG_UNDEFINED_COMMAND (R598): An undefined command code is not acknowledged and the transfer is ignored to STOP. -/
  | mgUndefinedCommand (t : Nat) (code : Byte)
  /-- ALERT_RESPONSE (R608): A read of the Alert Response Address 0x0C is answered with the FV8128's address under arbitration. -/
  | alertResponse (t : Nat) (won : Bool)
  /-- HOST_NOTIFY (R608): An enabled alert condition drives MG_ALERT# low or sends a Host Notify. -/
  | hostNotify (t : Nat) (x : NotifyEnd)
  /-- HOST_NOTIFY_RETRY (R608): 1 ms after a failed Host Notify it is tried again, up to 8 tries. -/
  | hostNotifyRetry (t : Nat) (x : NotifyEnd)
  /-- MG_TIMEOUT (R599): SCL held low 25 ms makes the target release the bus and reset its state machine. -/
  | mgTimeout (t : Nat)
  /-- KEEP_ADDRESS_WAKE (R600): In Keep the Ember acknowledges its address and stretches SCL until its bus clock runs. -/
  | keepAddressWake (t : Nat)
  /-- KEEP_CLOCK_STOP (R600): After 10 ms without a transfer in Keep, the bus logic clock stops. -/
  | keepClockStop (t : Nat)
  /-- MG_HUNG (R615): MG_SDA or MG_SCL held low 35 ms by another device is reported, and its end too. -/
  | mgHung (t : Nat) (sda scl : Bool)
  /-- CG_XFER_COMPLETE (R611): A module-bus transfer completes with its status in CG_RESULT. -/
  | cgXferComplete (t : Nat) (x : CgEnd)
  /-- CG_ARBITRATION_RETRY (R611): A module-bus transfer that lost arbitration tries again after the next STOP. -/
  | cgArbitrationRetry (t : Nat)
  /-- CG_HANG (R613): A module bus is found hung and the transfer is abandoned for recovery. -/
  | cgHang (t : Nat) (sclLow : Bool) (data : List Byte)
  /-- CG_RECOVERY (R613): A recovery attempt sends nine SCL pulses and a STOP. -/
  | cgRecovery (t : Nat) (b : Fin 17) (freed : Bool)
  /-- MODULE_CYCLED (R614): A power-cycle step of a module bus: power on, reset release and bus test. -/
  | moduleCycled (t : Nat) (b : Fin 17) (idle : Bool)
  /-- THERMAL (R604): TEMP reaches THERM_LIMIT and THERMAL is set. -/
  | thermal (t : Nat) (v : BitVec 16)
  /-- TRST_LOW (R648): TRST# low puts the test access port into Test-Logic-Reset. -/
  | trstLow (t : Nat)
  /-- EXTEST (R651): Drives pins from the boundary register when PORST# is low. -/
  | extest (t : Nat)
  /-- IDCODE (R650): Selects the identification register 0x2812_81CF. -/
  | idcode (t : Nat)
  /-- SAMPLE_PRELOAD (R649): Captures and preloads the boundary register with pins normal. -/
  | samplePreload (t : Nat)
  /-- EXTEST_PULSE (R649): Drives AC pulses on AC-coupled lands under IEEE 1149.6. -/
  | extestPulse (t : Nat)
  /-- EXTEST_TRAIN (R649): Drives an AC train toggling on falling TCK in Run-Test/Idle. -/
  | extestTrain (t : Nat)
  /-- CLAMP (R649): Holds pins from the boundary register with bypass selected. -/
  | clamp (t : Nat)
  /-- HIGHZ (R649): Places pins at high impedance with weak pull-downs. -/
  | highz (t : Nat)
  /-- SCAN_STATUS (R652): Selects the status register, whose capture clears REFUSED. -/
  | scanStatus (t : Nat)
  /-- BYPASS (R649): Selects the bypass register. -/
  | bypass (t : Nat)
  /-- PTP_DELAY_REQUEST_TRANSMIT (R364): As a client the timing port sends Delay_Req, or Pdelay_Req under the peer-to-peer profile, at its logMinDelayReqInterval and stamps it for the servo and the transmit queue. -/
  | ptpDelayRequestTransmit (t : Nat)
  /-- SET_TIME_PPS_TIMEOUT (R381): A SET_TIME with AT_PPS that finds no accepted PPS_IN edge within 2 s completes with BAD_STATE 0x12. -/
  | setTimePpsTimeout (t : Nat)
  /-- COMMAND_COMPLETION (R111): A waiting command whose work runs inside the device completes, is committed and writes DONE: MAP_LOAD when its entries are written, READ_NV and RECORD EXPORT when the copy ends, REPLAY START when the snapshots are loaded, and LANE_PACKET_SEND when the last bit leaves the pin. -/
  | commandCompletion (t : Nat) (r : RingRef) (f : List ReplayFetch)
  /-- LOCAL_STORE_COPY_COMPLETE (R512): The background copy of a Lantern local store, made for a planned spare-in or for a capture snapshot, completes, and the take-over or the snapshot then falls at the first boundary after it. -/
  | localStoreCopyComplete (t : Nat) (n : Fin 64)
  /-- PLANNED_SPARE_IN_SWITCH (R509): A planned spare-in that needs no frame boundary takes effect: a wick after its parallel run of two alignment periods at the next header, an HBM row after its copy, a spare PLL once it is locked and aligned, and a data lane after its pause. -/
  | plannedSpareInSwitch (t : Nat) (pool unit : Nat)
  /-- PLL_LOCK (R581): During start-up the PLLs lock, the host ports leave reset and begin training, and the boot code begins to verify firmware. -/
  | pllLock (t : Nat)
  /-- TAP_CLOCK (R648): A TCK edge advances the IEEE 1149.1 controller: capture, shift and update of the instruction and data registers, reset after five TMS-high edges, and EXTEST_TRAIN toggling. -/
  | tapClock (t : Nat) (tms tdi : Bool)
  /-- EMBER_REFERENCE_RETURN (R636): The 25 MHz reference returns after an absence during which the Ember ran from its internal oscillator. -/
  | emberReferenceReturn (t : Nat)
  /-- HPREFCLK_STABLE (R580): A port's HPREFCLKp becomes stable, late after reset release or after an absence, and the port's readiness times of R54 run from 1 ms after it. -/
  | hprefclkStable (t : Nat) (p : Fin 4)
  /-- PCS_ALIGNMENT_LOCK (R137): On a lane in Ethernet mode, auto-negotiation, link training and PCS alignment complete and the lane enters UP, from bring-up or from RETRAIN. -/
  | pcsAlignmentLock (t : Nat) (l : Fin 128)
  deriving DecidableEq, Repr

end Sys2Proof
end

