-- ==== Sys2Proof/Decode.lean ====
section
/-!
DEFINITION. Commands that a word of the table spells. No row of spec/opcode_table.json gives bits (the field lists are all
empty), so no word spells a command. The host command codes of 03 R109 are bytes of a ring entry, an operand.
-/

namespace Sys2Proof

/-- The command that a word spells: none, for every word. -/
def decodeTableWord (_nbits _w : Nat) : Option Instr := none

end Sys2Proof
end

