-- ==== Sys2Proof/Config.lean ====
section
/-!
DEFINITION. What the manual leaves open: constants without a body, so that no proof can see their values. Each is applied
to a counter of the state (`State.fresh`) where every use may differ, or to the operands it depends on.
-/

namespace Sys2Proof.Config

/-- 64-bit module serial number, the Device Serial Number of every port (02 R43). -/
opaque serialNumber : BitVec 64

/-- FIRMWARE_VERSION of firmware copy A (false) or B (true) (15 R539). -/
opaque firmwareVersion : Bool → BitVec 32

/-- PHASE_STEP of the n-th TIME_SYNC (04 R157: "steers the camera clock"; the steering law is not given). -/
opaque lanePhaseStep : Nat → BitVec 64

/-- RATE_ADJ of the n-th TIME_SYNC (04 R157; the steering law is not given). -/
opaque laneRateAdj : Nat → BitVec 32

/-- How far beyond 10 µs the n-th RATE_NOTICE puts its switch, in ns (04 R178: "at least 10 µs ahead"). -/
opaque rateSwitchExtra : Nat → Nat

/-- Natural frequency of the servo's loop in 2^-32 rad/s, by SERVO_BW (10 R367: how the bandwidth fixes it is not given). -/
opaque servoOmega : Nat → Nat

/-- Rounding of the servo's n-th update: bit 0 of RATE_ADJ, bit 1 of the frequency estimate (10 R367: not given). -/
opaque servoRounding : Nat → BitVec 2

/-- The master of this portNumber sends its periodic messages under Annex E, else under Annex F (10 R364: a lane supports both). -/
opaque lanePtpAnnexE : Nat → Bool

/-- currentUtcOffset of the n-th Announce (10 R364 does not give it). -/
opaque utcOffset : Nat → BitVec 16

/-- Fields of a codestream's picture header that the manual leaves to the encoder, from the output table and the wavelet coefficients by
component, band, line and column (07 R274). -/
opaque xsOptions : List (BitVec 8) → List (List (List (List Int))) → BitVec 8

/-- Byte i of a codestream's weights (07 R274, R275: the rate allocation is not given). -/
opaque xsWeight : List (BitVec 8) → List (List (List (List Int))) → Nat → BitVec 8

/-- Bytes of coded data of slice j of a codestream (07 R275: the rate allocation is not given). -/
opaque xsSliceLength : List (BitVec 8) → List (List (List (List Int))) → Nat → Nat

/-- Byte i of the coded data of slice j of a codestream (07 R274, R275). -/
opaque xsSliceByte : List (BitVec 8) → List (List (List (List Int))) → Nat → Nat → BitVec 8

/-- T_LINE of the lines added to a coded frame without any delivered line (07 R271, R276: the manual states none), by the frame's boundary
and number. -/
opaque noLineStamp : Nat → Nat → BitVec 64

/-- Byte k of the payload of a frame with FAULT_LOST, by its boundary and number (03 R121: the payload is not valid). -/
opaque lostByte : Nat → Nat → Nat → BitVec 8

/-- The k-th encoder instance, 0 to 31, of those that code a stream's slices in rotation (07 R277: the manual does not give the
assignment). -/
opaque codingInstance : Nat → Nat → Nat

/-- Physical index of the spare that takes over a part of a unit of pools 0x05 to 0x09 (15 R544: the manual does not number them). -/
opaque spareIndex : Nat → Nat → Nat → Nat

/-- Spare rows of an HBM channel (01 R38 gives no number). -/
opaque hbmSpareRows : Nat

/-- Number of rails of the integrated regulation (01 R38 gives none). -/
opaque rails : Nat

/-- PHYSICAL of a pool entry of HEALTH for pools 0x05 to 0x08 (15 R540: the manual does not give their sizes). -/
opaque poolPhysical : Nat → Nat

/-- Byte k of the RECORD_CONFIG STATUS block, from AREA_GIB, FULL, the bytes held, and the sconce, items and gaps of each capture
(16 R563 names what the block holds and gives it no layout). -/
opaque recordStatus : List Nat → Nat → BitVec 8

/-- Bit n of SSPRQ, from bit 0 of its first symbol (20 R656: the manual names IEEE 802.3 Clause 120 and does not give it). -/
opaque ssprq : Nat → Bool

/-- Length of the boundary register (20 R653: the BSDL file gives it, and the manual does not). -/
opaque boundaryLength : Nat

/-- Value of boundary cell k at the n-th capture while its domain is powered (20 R653: the pins, in the BSDL file's order). -/
opaque boundaryCell : Nat → Nat → Bool

/-- Cell k of the boundary register lies in the Ember's domain (20 R651, R653: the cell order is in the BSDL file). -/
opaque boundaryEmber : Nat → Bool

/-- Bit k of the n-th sample of what the device clocks out where the manual leaves it open. -/
opaque freeBit : Nat → Nat → Bool

/-- A byte that the manual leaves undefined. -/
opaque freeByte : Nat → BitVec 8

/-- A 64-bit value that the manual leaves open. -/
opaque freeWord : Nat → BitVec 64

end Sys2Proof.Config
end

