-- ==== Sys2Proof/Machine/Bits.lean ====
section
/-!
DEFINITION. Bit fields, byte order, checksums and the sparse tables the model keeps its numbered objects in.
Every structure in memory is little-endian and its bits are numbered from 0 at the least significant end (00_scope R4, R5).
-/

namespace Sys2Proof.Machine

/-! ### Fields of numbers -/

/-- Bits [lo+w-1:lo] of a number. -/
def nbits (v lo w : Nat) : Nat := (v >>> lo) % 2 ^ w

/-- Bit n of a number. -/
def nbit (v n : Nat) : Bool := nbits v n 1 == 1

/-- A Bool as a bit. -/
def b2n (b : Bool) : Nat := if b then 1 else 0

/-- The low n bits of a number, the least significant first. -/
def lowBits (n v : Nat) : List Bool := (List.range n).map (nbit v)

/-- The number that bits give, the least significant first. -/
def bitsVal : List Bool → Nat
  | [] => 0
  | b :: t => b2n b + 2 * bitsVal t

/-- The n-byte little-endian field at byte offset off of an entry (00_scope R5). -/
def fld {w : Nat} (e : BitVec w) (off n : Nat) : Nat := nbits e.toNat (8 * off) (8 * n)

/-- Bits [lo+k-1:lo] of the n-byte field at byte offset off. -/
def bitsAt {w : Nat} (e : BitVec w) (off n lo k : Nat) : Nat := nbits (fld e off n) lo k

/-- One bit of the byte at offset off. -/
def bitAt {w : Nat} (e : BitVec w) (off lo : Nat) : Bool := nbit (fld e off 1) lo

/-- The value of bytes, the least significant first (00_scope R5). -/
def leVal : List Byte → Nat
  | [] => 0
  | b :: t => b.toNat + 256 * leVal t

/-- The n bytes of a number, the least significant first (00_scope R5). -/
def leBytes : Nat → Nat → List Byte
  | 0, _ => []
  | n + 1, v => BitVec.ofNat 8 v :: leBytes n (v / 256)

/-- The n-byte field at byte offset off of an image or packet held as bytes. Bytes beyond the end count as 0. -/
def lfld (l : List Byte) (off n : Nat) : Nat := leVal ((l.drop off).take n)

/-- Bits [lo+k-1:lo] of the n-byte field at byte offset off of an image. -/
def lbits (l : List Byte) (off n lo k : Nat) : Nat := nbits (lfld l off n) lo k

/-- The bytes of a number, the most significant first, as network packets order them. -/
def beBytes (n v : Nat) : List Byte := (leBytes n v).reverse

/-- The value of bytes, the most significant first. -/
def beVal (l : List Byte) : Nat := leVal l.reverse

/-- A w-bit field as a signed integer in two's complement (00_scope R6). -/
def toInt (w v : Nat) : Int :=
  let m := v % 2 ^ w
  if 2 * m < 2 ^ w then (m : Int) else (m : Int) - (2 : Int) ^ w

/-- A signed integer as a w-bit field in two's complement, wrapping. -/
def ofInt (w : Nat) (i : Int) : Nat := (i % (2 : Int) ^ w).toNat

/-- The nearest value of [lo, hi] to i. -/
def clampInt (lo hi i : Int) : Int := max lo (min hi i)

/-- A w-bit counter that saturates at all ones. -/
def satAdd (w a b : Nat) : Nat := min (a + b) (2 ^ w - 1)

/-- Bytes all zero. -/
def zeros (n : Nat) : List Byte := List.replicate n 0

/-- A list of bytes brought to exactly n bytes, cut or filled with zeros. -/
def fitTo (n : Nat) (l : List Byte) : List Byte := l.take n ++ zeros (n - l.length)

/-- Round v up to a multiple of m. -/
def alignUp (m v : Nat) : Nat := if m = 0 then v else (v + m - 1) / m * m

/-- Ceiling division. -/
def cdiv (a b : Nat) : Nat := (a + b - 1) / b

/-! ### Checksums -/

/-- One bit of a reflected cyclic redundancy check with polynomial poly. -/
def crcBit (poly : Nat) (c : Nat) : Nat := if c % 2 = 1 then (c / 2) ^^^ poly else c / 2

/-- One byte of a reflected cyclic redundancy check. -/
def crcByte (poly c : Nat) (b : Byte) : Nat :=
  Nat.repeat (crcBit poly) 8 (c ^^^ b.toNat)

/-- CRC-32C: the Castagnoli polynomial, reflected, all ones at the start and inverted at the end (04 R142). -/
def crc32c (l : List Byte) : Nat := (l.foldl (crcByte 0x82F63B78) 0xFFFFFFFF) ^^^ 0xFFFFFFFF

/-! ### Sparse tables -/

/-- A table of numbered objects: (number, object) pairs with numbers strictly rising. A number that is not listed
has the default the reader of the table names. -/
abbrev Tab (α : Type) := List (Nat × α)

/-- The object listed under k, if any. -/
def tabFind {α : Type} : Tab α → Nat → Option α
  | [], _ => none
  | (j, a) :: t, k => if j = k then some a else tabFind t k

/-- The object under k, or the default. -/
def tabGet {α : Type} (d : α) (t : Tab α) (k : Nat) : α := (tabFind t k).getD d

/-- List a under k, in place of what was there. -/
def tabPut {α : Type} : Tab α → Nat → α → Tab α
  | [], k, a => [(k, a)]
  | (j, b) :: t, k, a =>
    if k < j then (k, a) :: (j, b) :: t
    else if k = j then (k, a) :: t
    else (j, b) :: tabPut t k a

/-- Take k off the table. -/
def tabDel {α : Type} (t : Tab α) (k : Nat) : Tab α := t.filter (fun p => p.1 != k)

/-- Change the object under k, starting from the default. -/
def tabMod {α : Type} (d : α) (t : Tab α) (k : Nat) (f : α → α) : Tab α := tabPut t k (f (tabGet d t k))

/-- Numbers of a table whose objects satisfy a test, ascending. -/
def tabKeys {α : Type} (t : Tab α) (p : α → Bool) : List Nat := (t.filter (fun x => p x.2)).map (·.1)

/-- Change every listed object. -/
def tabMap {α : Type} (t : Tab α) (f : Nat → α → α) : Tab α := t.map (fun x => (x.1, f x.1 x.2))

/-- The least element of a list of numbers, or the default. -/
def minD (d : Nat) : List Nat → Nat
  | [] => d
  | a :: t => t.foldl min a

/-- The greatest element of a list of numbers, or 0. -/
def maxL (l : List Nat) : Nat := l.foldl max 0

/-- The sum of a list of numbers. -/
def sumL (l : List Nat) : Nat := l.foldl (· + ·) 0

/-- The first some of a list of options. -/
def firstSome {α : Type} : List (Option α) → Option α
  | [] => none
  | some a :: _ => some a
  | none :: t => firstSome t

/-- Put x into the n-th place of a list, if it has one. -/
def setAt {α : Type} (l : List α) (n : Nat) (x : α) : List α := l.set n x

end Sys2Proof.Machine
end

