-- ==== Sys2Proof/Machine/State.lean ====
section
/-!
DEFINITION. The state of the FV8128 as plain data: every register, queue, table, counter and mode that the manual names,
the queue of commands that wait, and the record of what the device has sent out. Each field's comment gives its width, the
rule that names it and its reset value; (entry n) is notes/assumptions/n.md.
-/

namespace Sys2Proof.Machine

/-! ### Event records and outputs -/

/-- An event record before it has a slot (03 R115). TIME is DT64, the rest as the layout names it. -/
structure EvRec where
  cls : Nat
  typ : Nat
  island : Nat
  count : Nat
  time : Nat
  seq : Nat
  subject : Nat
  data : Nat
  deriving DecidableEq, Repr

/-- An AER message of a port (02 R71, R72). -/
inductive ErrMsg where
  | cor | nonFatal | fatal
  deriving DecidableEq, Repr

/-- How a port answers a request it does not carry out (02 R45, R46). -/
inductive Answer where
  | unsupported | completerAbort | retryStatus | value (v : Nat)
  deriving DecidableEq, Repr

/-- What an outsider sees the FV8128 do, one item for each, newest first in `State.out`. The record is the model's own:
the hardware writes these to its hosts, its lanes and its pins and keeps none of them. -/
inductive Output where
  /-- A posted memory write of a port, at a bus address: tags, entries, ownership bytes, statuses, status blocks and pages. It bears
  neither Relaxed Ordering nor No Snoop nor ID-Based Ordering (02 R51). -/
  | hostWrite (port addr : Nat) (data : List Byte)
  /-- A posted write of payload, line tags or a statistics record of a port, at a bus address, with its Relaxed Ordering attribute; it bears
  neither No Snoop nor ID-Based Ordering (02 R51). -/
  | bufferWrite (port addr : Nat) (relaxed : Bool) (data : List Byte)
  /-- An MSI-X message of a port. -/
  | msix (port vector addr data : Nat)
  /-- Assert_INTA or Deassert_INTA of a port. -/
  | intx (port : Nat) (assert : Bool)
  /-- An AER message of a port. -/
  | err (port : Nat) (m : ErrMsg)
  /-- The answer of a port to a request of its host. -/
  | answer (port : Nat) (a : Answer)
  /-- A Device Readiness Status Message of a port. -/
  | drs (port : Nat)
  /-- A change of width that a port makes by L0p, or its answer to a request for one. -/
  | l0p (port width : Nat) (accepted : Bool)
  /-- A port begins L1 entry. -/
  | l1 (port : Nat)
  /-- A packet on the downlink of a lane, its header and its payload with check words, as bytes. -/
  | downlink (lane : Nat) (packet : List Byte)
  /-- A frame on the downlink of a lane in Ethernet mode. -/
  | ethernet (lane : Nat) (frame : List Byte)
  /-- A level driven on a GIO line, with the stamp in 1/256 ns. -/
  | gio (line stamp : Nat) (level : Bool)
  /-- A level driven on PPS_OUT. -/
  | pps (level : Bool)
  /-- A PTP message sent on a port by its portNumber (10 R364): 1 the timing port, n + 2 lane n. It leaves under Annex E or Annex F, with the
  port's MAC address and, under Annex E, its IPv4 address (04 R179, 10 R379). -/
  | ptp (port : Nat) (annexE : Bool) (mac ipv4 : Nat) (message : List Byte)
  /-- A level driven on a named pin. -/
  | pin (name : String) (index : Nat) (level : Bool)
  /-- Clock cycles of a serial encoder reading. -/
  | encoderClock (channel bits : Nat)
  /-- The bytes the management target answers a read with. -/
  | mgAnswer (data : List Byte)
  /-- The management target does not acknowledge. -/
  | mgNack
  /-- A Host Notify the FV8128 sends as a controller on the management bus. -/
  | mgNotify (data : List Byte)
  /-- A transfer the FV8128 starts on a module bus or the TPM bus. -/
  | cgTransfer (bus : Nat) (data : List Byte)
  /-- Recovery pulses on a module bus or the TPM bus. -/
  | cgRecover (bus : Nat)
  /-- Test data out of the test access port. -/
  | tdo (level : Bool)
  deriving DecidableEq, Repr

/-! ### Rings (03) -/

/-- The service state of a ring, coded as SETUP_STATUS codes it (21 R667). -/
inductive RingState where
  | outOfService | inService | faulted
  deriving DecidableEq, Repr

/-- A command that waits between the commit that accepts it and the one that completes it (03 R105, R111). -/
structure Waiting where
  /-- 03 R87: the entry's place, counted since the ring entered service. -/
  index : Nat
  /-- 03 R101: the 64 bytes fetched. -/
  entry : Entry
  /-- 03 R105: the elapsed time of its fetch, in ns. -/
  since : Nat
  /-- The commit stamp of the accepting step, DT64. -/
  stamp : Nat
  /-- A number the command needs at its end: bytes, a target, a lane request. -/
  arg : Nat
  deriving DecidableEq, Repr

/-- A completion not yet written, because its port may not write (02 R58, R59). -/
structure HeldDone where
  index : Nat
  entry : Entry
  status : Nat
  detail : Nat
  deriving DecidableEq, Repr

/-- A buffer descriptor that was fetched and checked, with the translations held for it (03 R117, 14 R485). -/
structure Desc where
  /-- 03 R117: DESC_ID. -/
  id : Nat
  /-- 03 R117: ADDRESS, a device virtual address. -/
  addr : Nat
  /-- 03 R117: LENGTH in bytes. -/
  len : Nat
  /-- 14 R485: the pages that the range touches: first address, bytes and bus address of each. -/
  pages : List (Nat × Nat × Nat)
  deriving DecidableEq, Repr

/-- One ring of a port (03 R83 to R94, R113; 02 R69). -/
structure Ring where
  /-- 2 bits; 21 R667, 03 R86: service state. Reset out of service. -/
  st : RingState
  /-- 2 bits; 21 R667, 03 R116: cause of the fault while faulted. Reset 0. -/
  cause : Nat
  /-- 4 bits; 03 R83: KIND. Reset DESIGN CHOICE 0 (entry 3), out of service. -/
  kind : Nat
  /-- 5 bits; 03 R113: LOG2SIZE. Reset DESIGN CHOICE 0 (entry 3), out of service. -/
  log2size : Nat
  /-- 64 bits; 03 R113: BASE. Reset DESIGN CHOICE 0 (entry 3), out of service. -/
  base : Nat
  /-- 11 bits; 03 R113: VECTOR. Reset DESIGN CHOICE 0 (entry 3), out of service. -/
  vector : Nat
  /-- 16 bits; 03 R113: HOLDOFF in 250 ns. Reset DESIGN CHOICE 0 (entry 3), out of service. -/
  holdoff : Nat
  /-- 16 bits; 03 R113: THRESHOLD. Reset DESIGN CHOICE 0 (entry 3), out of service. -/
  threshold : Nat
  /-- 10 bits; 03 R113: EVENT_RING. Reset DESIGN CHOICE 0 (entry 3), out of service. -/
  eventRing : Nat
  /-- 16 bits; 03 R87: host index H as the last poll read it. Reset 0 whenever the ring enters service. -/
  h : Nat
  /-- 03 R87, R89: entries fetched or written since the ring entered service; D is this modulo 65,536. Reset 0. -/
  d : Nat
  /-- 02 R69: expiry of the running holdoff timer, in elapsed ns. Reset none. -/
  timer : Option Nat
  /-- 02 R69: unannounced entries counted. Reset 0. -/
  count : Nat
  /-- 1 bit; 02 R68: moderation fired while interrupts were off. Reset 0. -/
  fired : Bool
  /-- 03 R94: event records held for the ring, oldest first. Reset empty. -/
  held : List EvRec
  /-- 03 R94: collapsed records, in order of first occurrence. Reset empty. -/
  collapsed : List EvRec
  /-- 03 R105: the command that waits, for a command ring. Reset none. -/
  waiting : Option Waiting
  /-- 02 R58, R59: completions held while the port may not write. Reset empty. -/
  heldDone : List HeldDone
  /-- 02 R71: failed reads in a row. Reset 0. -/
  readFails : Nat
  deriving DecidableEq, Repr

/-- A ring out of service. -/
def Ring.reset : Ring :=
  { st := .outOfService, cause := 0, kind := 0, log2size := 0, base := 0, vector := 0, holdoff := 0, threshold := 0
    eventRing := 0, h := 0, d := 0, timer := none, count := 0, fired := false, held := [], collapsed := []
    waiting := none, heldDone := [], readFails := 0 }

/-! ### Host ports (02, 21) -/

/-- The link of a port (02 R54). -/
inductive Link where
  | detect | training | up
  deriving DecidableEq, Repr

/-- A SETUP_CONTROL action in progress (21 R669). -/
inductive SetupAction where
  | bringUp | takeDown | restartRing0 | restartRing1
  deriving DecidableEq, Repr

/-- One entry of a port's MSI-X table (02 R44). -/
structure MsixEntry where
  addr : Nat
  data : Nat
  masked : Bool
  deriving DecidableEq, Repr

/-- An MSI-X table entry after reset: masked. -/
def MsixEntry.reset : MsixEntry := { addr := 0, data := 0, masked := true }

/-- One host port HPp (02, 21). -/
structure Port where
  /-- 02 R54: state of the link. Reset detect. -/
  link : Link
  /-- 1 bit; 21 R667: SETUP_STATUS.READY, the port is ready. Reset 0. -/
  ready : Bool
  /-- 02 R47, R48: current rate in units of 0.1 GT/s. Reset DESIGN CHOICE 0, no link (entry 3). -/
  rate : Nat
  /-- 02 R47, R48: current width. Reset DESIGN CHOICE 0, no link (entry 3). -/
  width : Nat
  /-- 02 R63: width to which the link trained, before L0p narrowed it. Reset DESIGN CHOICE 0, no link (entry 3). -/
  fullWidth : Nat
  /-- 02 R48: Max_Payload_Size in bytes. Reset PRESUMED 128, PCI Express (entry 3). -/
  mps : Nat
  /-- 02 R49: degraded report already written. Reset 0. -/
  degraded : Bool
  /-- 1 bit; 02 R63: the link partner has enabled L0p. Reset PRESUMED 0 (entry 3). -/
  l0pEnable : Bool
  /-- 1 bit; 02 R60: ASPM L1 Enable. Reset PRESUMED 0 (entry 3). -/
  aspmL1 : Bool
  /-- 1 bit; 02 R60: the link is in L1 or entering it. Reset 0. -/
  inL1 : Bool
  /-- 1 bit; 02 R54: the link partner has enabled Device Readiness Status. Reset PRESUMED 0 (entry 3). -/
  drsEnable : Bool
  /-- 1 bit; 02 R59: Bus Master Enable. Reset PRESUMED 0 (entry 3). -/
  bme : Bool
  /-- 1 bit; 02 R46: Memory Space Enable. Reset PRESUMED 0 (entry 3). -/
  mse : Bool
  /-- 1 bit; 02 R67: Interrupt Disable. Reset PRESUMED 0 (entry 3). -/
  intDisable : Bool
  /-- 1 bit; 02 R67: Interrupt Status. Reset PRESUMED 0 (entry 3). -/
  intStatus : Bool
  /-- 1 bit; 02 R51: Enable Relaxed Ordering. Reset PRESUMED 1 (entry 3). -/
  relaxed : Bool
  /-- 1 bit; 02 R58: the port is in D3hot. Reset PRESUMED 0 (entry 3). -/
  d3hot : Bool
  /-- 1 bit; 02 R66: MSI-X Enable. Reset PRESUMED 0 (entry 3). -/
  msixEnable : Bool
  /-- 1 bit; 02 R66: MSI-X Function Mask. Reset PRESUMED 0 (entry 3). -/
  fnMask : Bool
  /-- 2,048 x 128 bits; 02 R44, R66: MSI-X table. Reset PRESUMED address 0, data 0, masked (entry 3). -/
  msixTable : Tab MsixEntry
  /-- 2,048 bits; 02 R44, R66: Pending Bit Array, the vectors set. Reset PRESUMED 0 (entry 3). -/
  pba : List Nat
  /-- 02 R70: elapsed ns of the last message of each vector. Reset none. -/
  vecLast : Tab Nat
  /-- 02 R70: due time of the message that waits on each vector. Reset none. -/
  vecWait : Tab Nat
  /-- 02 R67: rings whose moderation has fired on INTA. Reset empty. -/
  intaRings : List Nat
  /-- 32 bits; 02 R71: AER Uncorrectable Error Status. Reset PRESUMED 0 (entry 3). -/
  aerUnc : Nat
  /-- 32 bits; 02 R71: AER Correctable Error Status. Reset PRESUMED 0 (entry 3). -/
  aerCor : Nat
  /-- 32 bits; 02 R71, R73: AER Uncorrectable Error Mask. Reset PRESUMED 0 (entry 3). -/
  aerUncMask : Nat
  /-- 32 bits; 02 R71, R73: AER Correctable Error Mask. Reset PRESUMED 0x6000 with the Corrected Internal bit 1 of R73 (entry 3). -/
  aerCorMask : Nat
  /-- 32 bits; 02 R71, R73: AER Uncorrectable Error Severity. Reset PRESUMED 0x0046_2030, bit 22 being 1 by R73 (entry 3). -/
  aerUncSev : Nat
  /-- 5 bits; 02 R71: First Error Pointer. Reset PRESUMED 0 (entry 3). -/
  firstError : Nat
  /-- 128 bits; 02 R71: header log. Reset PRESUMED 0 (entry 3). -/
  headerLog : Nat
  /-- 1 bit; 02 R42: ECRC checking enabled. Reset 0. -/
  ecrcCheck : Bool
  /-- 1 bit; 02 R42: ECRC generation enabled. Reset 0. -/
  ecrcGen : Bool
  /-- 64 bits; 02 R41: BAR0 and BAR1 address. Reset PRESUMED 0 (entry 3). -/
  bar0 : Nat
  /-- 1 bit; 21 R667: SETUP_STATUS.BUSY, the action in progress and its due time in elapsed ns. Reset none. -/
  busy : Option (SetupAction × Nat)
  /-- 1 bit; 21 R667: SETUP_STATUS.REJECT. Reset 0. -/
  reject : Bool
  /-- 12 bits; 21 R667: REJECT_INFO.OFFSET. Reset 0. -/
  rejectOffset : Nat
  /-- 4 bits; 21 R667: REJECT_INFO.REASON. Reset 0. -/
  rejectReason : Nat
  /-- 32 bits; 21 R667: SCRATCH. Reset 0x0000_0000. -/
  scratch : Nat
  /-- 64 bits; 21 R667: CMD_BASE. Reset 0. -/
  cmdBase : Nat
  /-- 5 bits; 21 R667: CMD_SIZE. Reset 0x06. -/
  cmdSize : Nat
  /-- 64 bits; 21 R667: EVT_BASE. Reset 0. -/
  evtBase : Nat
  /-- 5 bits; 21 R667: EVT_SIZE. Reset 0x06. -/
  evtSize : Nat
  /-- 64 bits; 21 R667: DB_BASE. Reset 0. -/
  dbBase : Nat
  /-- 1 bit; 21 R667: the doorbell page is in service. Reset 0. -/
  doorbell : Bool
  /-- 32 bits; 03 R98: POLL_EPOCH count. Reset 0. -/
  epoch : Nat
  /-- 03 R98, R114: poll interval P in units of 50 ns. Reset 5, that is 250 ns. -/
  pollInterval : Nat
  /-- 03 R98, R100: elapsed ns at which the next poll may begin. Reset 0. -/
  nextPoll : Nat
  /-- 16 R546: device time of a kick whose poll has not run. Reset none. -/
  kicked : Option Nat
  /-- 02 R60: elapsed ns of the last command, event or completion entry. Reset 0. -/
  lastActive : Nat
  /-- 21 R671: RESET_REPORT has been written since start-up. Reset 0. -/
  reported : Bool
  /-- 02 R57: elapsed ns by which a function-level reset ends, while it runs. Reset none. -/
  flrUntil : Option Nat
  /-- 02 R74: ERR_FATAL of Dark has been sent, and the port writes nothing more. Reset 0. -/
  silent : Bool
  /-- 8 bits; 14 R483, R493: spool share in GiB. Reset DESIGN CHOICE 0 (entry 3). -/
  spoolGiB : Nat
  /-- 14 R501: the share was above 75% at the last SPOOL_LEVEL. Reset 0. -/
  spoolHigh : Bool
  /-- 17 R580, 19 R636: HPREFCLKp is present and stable. Reset 1. -/
  refClk : Bool
  /-- 1,024 rings; 03 R85. Reset each out of service. -/
  rings : Tab Ring
  deriving DecidableEq, Repr

/-- A port after reset (02 R54, R57; 21 R667). -/
def Port.reset : Port :=
  { link := .detect, ready := false, rate := 0, width := 0, fullWidth := 0, mps := 128, degraded := false
    l0pEnable := false, aspmL1 := false, inL1 := false, drsEnable := false, bme := false, mse := false
    intDisable := false, intStatus := false, relaxed := true, d3hot := false, msixEnable := false, fnMask := false
    msixTable := [], pba := [], vecLast := [], vecWait := [], intaRings := [], aerUnc := 0, aerCor := 0
    aerUncMask := 0, aerCorMask := 0x6000, aerUncSev := 0x462030, firstError := 0, headerLog := 0
    ecrcCheck := false, ecrcGen := false, bar0 := 0, busy := none, reject := false
    rejectOffset := 0, rejectReason := 0, scratch := 0, cmdBase := 0, cmdSize := 6, evtBase := 0, evtSize := 6
    dbBase := 0, doorbell := false, epoch := 0, pollInterval := 5, nextPoll := 0, kicked := none, lastActive := 0
    reported := false, flrUntil := none, silent := false, spoolGiB := 0, spoolHigh := false, refClk := true
    rings := [] }
/-! ### Camera lanes (04) -/

/-- State of a lane (04 R137); 8 to 10 are the loopback states of 20 R655. -/
inductive LaneState where
  | off | waitSignal | adapt | align | hello | up | retrain | mismatch | nearLoop | farLoop | pattern | eyeScan
  deriving DecidableEq, Repr

/-- Mode of a lane (04 R129, R179). -/
inductive LaneMode where
  | off | vlp | merged | ethernet
  deriving DecidableEq, Repr

/-- A control request of a lane, outstanding once it has been sent (04 R151 to R155). -/
structure LaneReq where
  /-- Ring identifier of the command that waits, and its argument. -/
  ring : Nat
  arg : Nat
  /-- 04 R155: elapsed ns of its fetch. -/
  since : Nat
  sensor : Nat
  op : Nat
  length : Nat
  address : Nat
  data : List Byte
  /-- Bus address of the result block with its translation held, when RESULT_EN is 1. -/
  result : Option Nat
  reqSeq : Nat
  /-- Transmissions of the present allowance. -/
  sent : Nat
  /-- Expiry of the 2 µs response timer, in elapsed ns. -/
  timer : Option Nat
  /-- The lane has dropped during the request's life. -/
  dropped : Bool
  deriving DecidableEq, Repr

/-- A trigger packet that the Lamplighter has given a lane to send (04 R160 to R163). Instants in 1/256 ns. -/
structure TrigPkt where
  target : Nat
  input : Nat
  sensor : Nat
  count : Nat
  /-- TRIGGER_SCHEDULED when true. -/
  scheduled : Bool
  /-- Fire instant. -/
  fire : Nat
  /-- TARGET_TIME, DT64. -/
  targetTime : Nat
  /-- Instant at which an immediate trigger leaves: the output instant + L_D. -/
  due : Nat
  /-- Instant from which a scheduled trigger may leave (R162). -/
  schedDue : Nat
  /-- Latest on-time instant (R163). -/
  onTime : Nat
  /-- Number of the fire, by which its frame is found. -/
  fireId : Nat
  deriving DecidableEq, Repr

/-- What waits in a lane's downlink queue (04 R150, R176). -/
inductive QItem where
  | halt
  | trig (k : TrigPkt)
  | notice (rate : Nat)
  | sync
  deriving DecidableEq, Repr

/-- The transmit synthesiser of a lane (04 R177, R178). -/
inductive Synth where
  | ready
  | locking
  | locked (readyAt : Nat)
  | background (due : Nat)
  deriving DecidableEq, Repr

/-- A GVSP block in progress on a channel of a lane in Ethernet mode (04 R170). -/
structure GvspBlock where
  blockId : Nat
  /-- The leader named the Image payload type. -/
  image : Bool
  lastPacket : Nat
  deriving DecidableEq, Repr

/-- One camera lane Lnnn with its wick (04). -/
structure Lane where
  /-- 3 bits; 03 R107: owning port, if any. Reset none. -/
  owner : Option Nat
  /-- 2 bits; 04 R179: MODE. Reset Off (17 R587 cleared). -/
  mode : LaneMode
  /-- 4 bits; 04 R179: UP_RATE. Reset DESIGN CHOICE 0 (entry 3). -/
  upRate : Nat
  /-- 4 bits; 04 R179: DOWN_RATE in force. Reset DESIGN CHOICE 0 (entry 3). -/
  downRate : Nat
  /-- 4 bits; 04 R179: TX_PRESET. Reset DESIGN CHOICE 0 (entry 3). -/
  txPreset : Nat
  /-- 16 bits; 04 R179: SYNC_PERIOD in 125 µs. Reset DESIGN CHOICE 0 (entry 3). -/
  syncPeriod : Nat
  /-- 16 bits; 04 R179: ASYMMETRY, s8.8 ns, as its field. Reset DESIGN CHOICE 0 (entry 3). -/
  asymmetry : Nat
  /-- 12 bits; 04 R179: PACKET_RING. Reset DESIGN CHOICE 0 (entry 3). -/
  packetRing : Nat
  /-- 48 bits; 04 R179: MAC. Reset DESIGN CHOICE 0 (entry 3). -/
  mac : Nat
  /-- 45 bits; 04 R179: PACKET_AREA. Reset DESIGN CHOICE 0 (entry 3). -/
  packetArea : Nat
  /-- 32 bits; 04 R179: IPV4. Reset DESIGN CHOICE 0 (entry 3). -/
  ipv4 : Nat
  /-- 16 bits; 04 R179: GVSP_PORT. Reset DESIGN CHOICE 0 (entry 3). -/
  gvspPort : Nat
  /-- 4 bits; 04 R137: state of the lane. Reset OFF. -/
  st : LaneState
  /-- 04 R137: elapsed ns at which the state was entered. Reset 0. -/
  since : Nat
  /-- 04 R137: limit of the state in elapsed ns. Reset none. -/
  limit : Option Nat
  /-- 2 bits; 04 R137: phase of RETRAIN: 0 ADAPT, 1 ALIGN, 2 HELLO. Reset 0. -/
  phase : Nat
  /-- 04 R137, R165: elapsed ns at which the next HELLO or HALT is due. Reset 0. -/
  beaconDue : Nat
  /-- 1 bit; 04 R139: a valid HELLO with PEER_SEEN = 1 has been received. Reset 0. -/
  gotSeen : Bool
  /-- 1 bit; 04 R139: a HELLO with PEER_SEEN = 1 has been sent. Reset 0. -/
  sentSeen : Bool
  /-- 1 bit; 04 R139: a valid HELLO has been received, the PEER_SEEN the lane sends. Reset 0. -/
  gotHello : Bool
  /-- 256 bits; 04 R137: the camera's last HELLO, for the change that leaves MISMATCH. Reset DESIGN CHOICE none (entry 3). -/
  lastHello : List Byte
  /-- 8 bits; 04 R134: DIRECTION of the alignment blocks received. Reset DESIGN CHOICE 0xAA (entry 3). -/
  direction : Nat
  /-- 1 bit; 04 R136: the receiver is in hunt. Reset 0. -/
  hunt : Bool
  /-- 64 bits; 04 R139: UNIT_ID recorded. Reset DESIGN CHOICE 0 (entry 3). -/
  unitId : Nat
  /-- 64 bits; 04 R140: UNIT_ID at the lane's previous UP. Reset none. -/
  unitUp : Option Nat
  /-- 16 bits; 04 R139: MIN_LEAD recorded. Reset DESIGN CHOICE 0 (entry 3). -/
  minLead : Nat
  /-- 8 bits; 04 R139: SCHED_DEPTH recorded. Reset DESIGN CHOICE 0 (entry 3). -/
  schedDepth : Nat
  /-- 5 bits; 04 R139: SENSOR_COUNT of the camera. Reset DESIGN CHOICE 0 (entry 3). -/
  sensorCount : Nat
  /-- 8 bits; 04 R143: SEQ of the last uplink packet since UP. Reset none. -/
  rxSeq : Option Nat
  /-- 8 bits; 04 R143: SEQ of the next downlink packet. Reset DESIGN CHOICE 0 (entry 3). -/
  txSeq : Nat
  /-- 19 x 32 bits; 04 R146: counters 0x01 to 0x13 by code. Reset DESIGN CHOICE 0 (entry 3). -/
  counters : Tab Nat
  /-- 04 R146: per counter, its value and elapsed time at the last LANE_ERRORS record. Reset none. -/
  reports : Tab (Nat × Nat)
  /-- 04 R174: DT64 and elapsed ns of the drop the lane has not recovered from. Reset none. -/
  dropAt : Option (Nat × Nat)
  /-- 04 R174: LANE_LOST has been written for the drop. Reset 0. -/
  lost : Bool
  /-- 04 R151: control requests, outstanding and queued, in the order of their commands. Reset empty. -/
  requests : List LaneReq
  /-- 16 bits per SENSOR; 04 R151: next REQ_SEQ. Reset DESIGN CHOICE 0 (entry 3). -/
  reqSeq : Tab Nat
  /-- 16 packets; 04 R176: downlink packets that wait. Reset empty. -/
  queue : List QItem
  /-- 04 R160: trigger packets the Lamplighter has given the lane, not yet sent. Reset empty. -/
  trigs : List TrigPkt
  /-- 04 R162: TARGET_TIMEs of the scheduled triggers sent. Reset empty. -/
  schedSent : List Nat
  /-- 32 bits; 04 R156: SYNC_ID of the last TIME_SYNC. Reset DESIGN CHOICE 0 (entry 3). -/
  syncId : Nat
  /-- 04 R156, R157: TIME_SYNCs that wait for their responses, the oldest first: SYNC_ID, T1 in 2^-32 ns (96 bits), and the elapsed ns
  at which each left. Reset empty. -/
  syncOpen : List (Nat × Nat × Nat)
  /-- 04 R156: elapsed ns at which the next TIME_SYNC is due. Reset 0. -/
  syncDue : Nat
  /-- 1 bit; 04 R157: the lane's time sync is locked. Reset 0. -/
  syncLocked : Bool
  /-- 04 R157: successive exchanges within 1 ns. Reset 0. -/
  syncGood : Nat
  /-- 04 R157: successive exchanges beyond 4 ns. Reset 0. -/
  syncBad : Nat
  /-- 04 R157: successive missing responses. Reset 0. -/
  syncMissed : Nat
  /-- 04 R182: last offset in units of 2^-8 ns. Reset 0. -/
  syncOffset : Int
  /-- 04 R178: transmit synthesiser. Reset ready. -/
  synth : Synth
  /-- 04 R178: the switch that RATE_NOTICE announced: its elapsed ns and its rate code. Reset none. -/
  switch : Option (Nat × Nat)
  /-- 04 R152: instant at which the last byte handed to the downlink has left, in 1/256 ns of elapsed time. Reset 0. -/
  wireEnd : Nat
  /-- 04 R177: elapsed ns since which a recalibration has been deferred, and the seconds reported. Reset none. -/
  deferred : Option (Nat × Nat)
  /-- 04 R167: elapsed ns at which the present 100 µs window began. Reset 0. -/
  shareStart : Nat
  /-- 04 R167: bytes of each sensor in the present 100 µs window. Reset empty. -/
  share : Tab Nat
  /-- 04 R167: windows over the share since the last record of each sensor. Reset empty. -/
  shareOver : Tab Nat
  /-- 04 R167: elapsed ns of the last SHARE_EXCEEDED of each sensor. Reset empty. -/
  shareLast : Tab Nat
  /-- 32 bits; 04 R171: DROPPED, frames dropped for a full packet ring since the last entry. Reset 0. -/
  pktDropped : Nat
  /-- 04 R170: open GVSP block of each channel. Reset none. -/
  gvsp : Tab GvspBlock
  /-- 04 R172: LANE_PACKET_SENDs that wait: ring identifier, argument and frame, the first one on the wire. Reset empty. -/
  sends : List (Nat × Nat × List Byte)
  /-- 19 R636: the chiplet's lane reference is absent and the lane stopped. Reset 0. -/
  refStopped : Bool
  /-- 04 R181, 15 R509: elapsed ns until which a failed wick loses packets. Reset none. -/
  wickDown : Option Nat
  deriving DecidableEq, Repr

/-- A lane after reset: Off. -/
def Lane.reset : Lane :=
  { owner := none, mode := .off, upRate := 0, downRate := 0, txPreset := 0, syncPeriod := 0, asymmetry := 0
    packetRing := 0, mac := 0, packetArea := 0, ipv4 := 0, gvspPort := 0, st := .off, since := 0, limit := none
    phase := 0, beaconDue := 0, gotSeen := false, sentSeen := false, gotHello := false, lastHello := [], direction := 0xAA, hunt := false, unitId := 0
    unitUp := none, minLead := 0, schedDepth := 0, sensorCount := 0, rxSeq := none, txSeq := 0, counters := []
    reports := [], dropAt := none, lost := false, requests := [], reqSeq := [], queue := [], trigs := []
    schedSent := [], syncId := 0, syncOpen := [], syncDue := 0, syncLocked := false, syncGood := 0, syncBad := 0
    syncMissed := 0, syncOffset := 0, synth := .ready, switch := none, wireEnd := 0, deferred := none, shareStart := 0, share := []
    shareOver := [], shareLast := [], pktDropped := 0, gvsp := [], sends := [], refStopped := false, wickDown := none }
/-- The mode of the FV8128 (17 R572). -/
inductive Mode where
  | keep | standby | configure | acquire | record | replay | diagnose | dark
  deriving DecidableEq, Repr

/-! ### Modes, start-up and resets (17) -/

/-- The firmware that runs (17 R582, R583). -/
inductive Firmware where
  | none | copyA | copyB | failed
  deriving DecidableEq, Repr

/-- Start-up, resets and modes in change (17). -/
structure StartUp where
  /-- 17 R581: start-up runs. Reset 0. -/
  running : Bool
  /-- 17 R581: t0 in elapsed ns. Reset 0. -/
  t0 : Nat
  /-- 3 bits; 17 R592: kind of what preceded the start-up. Reset 0, supply applied after a loss of all supplies. -/
  kind : Nat
  /-- 3 bits; 17 R592: mode before the reset. Reset Keep. -/
  fromMode : Mode
  /-- 64 bits; 17 R592: TIME of RESET_REPORT. Reset 0 (kind 0). -/
  time : Nat
  /-- 8 bits; 17 R592, 15 R528: Dark cause before the reset, or 0. Reset 0. -/
  cause : Nat
  /-- 17 R573, R592: supply came back after a loss of all supplies and no start-up has begun since. Reset 1. -/
  coldSupply : Bool
  /-- 17 R590: PWR_GOOD. Reset low. -/
  pwrGood : Bool
  /-- 17 R581: the PLLs have locked and the host ports have left reset. Reset 0. -/
  pll : Bool
  /-- 17 R583: firmware. Reset none. -/
  fw : Firmware
  /-- 17 R592: step of R582 at which copy A failed. Reset 0. -/
  failStep : Nat
  /-- 17 R581: the HBM stacks have been trained. Reset 0. -/
  hbm : Bool
  /-- 17 R585: HBM stacks that failed training, known before start-up ends. Reset 0. -/
  hbmFailed : Nat
  /-- 17 R581: the self-tests of start-up have completed. Reset 0. -/
  tests : Bool
  /-- 16 bits; 17 R590: cages whose CGc_PWREN is high. Reset none. -/
  cagePower : List Nat
  /-- 16 bits; 17 R590: cages whose CGc_RST# is high. Reset none (all low). -/
  cageReset : List Nat
  /-- 17 R573: PORST# is low. Reset low. -/
  porstLow : Bool
  /-- 17 R573: WARMRST# is low. Reset high. -/
  warmLow : Bool
  /-- 17 R586: elapsed ns at which a guard reset ends. Reset none. -/
  guardUntil : Option Nat
  /-- 17 R576: the ring identifier of the MODE_SET that waits for streams, and its limit. Reset none. -/
  modeWait : Option (Nat × Nat)
  /-- 17 R577: the transition in progress: target mode, ring identifier and argument of the command, STOP_STREAMS stopped streams. Reset none. -/
  transition : Option (Mode × Nat × Nat × Bool)
  /-- 17 R577: elapsed ns at which the main domain powers down after MODE_SET Keep. Reset none. -/
  keepAt : Option Nat
  deriving DecidableEq, Repr

/-- Before start-up: PORST# low, in Keep (17 R573, R580). -/
def StartUp.reset : StartUp :=
  { running := false, t0 := 0, kind := 0, fromMode := .keep, time := 0, cause := 0, coldSupply := true, pwrGood := false
    pll := false, fw := .none, failStep := 0, hbm := false, hbmFailed := 0, tests := false, cagePower := []
    cageReset := [], porstLow := true, warmLow := false, guardUntil := none, modeWait := none, transition := none
    keepAt := none }

/-! ### Tables, sconces and frames (05 to 07) -/

/-- A position of an encoder channel as a tag gives it (00 R7, 11 R403): channel, count, fraction, taken from the raw counter while
out of lock. -/
structure Pos where
  ch : Nat
  count : Nat
  frac : Nat
  unpredicted : Bool
  deriving DecidableEq, Repr

/-- A table in the table area (05 R188 to R191). -/
structure Table where
  /-- 05 R189, R191: the port that loaded it, none after that port's reset. -/
  owner : Option Nat
  /-- 32 bits; 05 R189: HANDLE. -/
  handle : Nat
  /-- 05 R188: the image. -/
  image : List Byte
  deriving DecidableEq, Repr

/-- A line of a frame, at one place of the pipeline (05 R199, 03 R124). -/
structure Line where
  /-- 16 bits; 05 R201, R202: its camera line number, by which a late line finds its slot. -/
  num : Option Nat
  /-- 64 bits; line start stamp. -/
  stamp : Nat
  /-- 16 bits; 03 R124: the flag bits of its line tag. -/
  flags : Nat
  /-- First padded element; the number of elements when none is (08 R290). -/
  padFrom : Nat
  pix : List Nat
  /-- Positions of the channels that held one at the line start (11 R403). -/
  pos : List Pos
  /-- 07 R271: channels whose position another source line of the same block took while out of lock. -/
  unpredicted : List Nat := []
  deriving DecidableEq, Repr

/-- The trigger matched to a frame (12 R436): fire instant, positions at it, and its tag flags. -/
structure FrameTrigger where
  fire : Nat
  pos : List Pos
  flags : Nat
  /-- Number of the fire, by which a late packet finds its frame. -/
  fireId : Nat
  deriving DecidableEq, Repr

/-- One frame of a sconce, from its boundary until no stream and no capture needs it. -/
structure Frame where
  /-- 64 bits; 03 R120: FRAME_NUMBER. -/
  number : Nat
  /-- 64 bits; 05 R211: b(f), the stamp of the packet that opened it. -/
  b : Nat
  /-- 16 bits; 05 R205: the camera's frame number, MARKED frames. -/
  cam : Nat
  vc : Nat
  sensor : Nat
  /-- 05 R206: DT of the first pixel packet. -/
  dt : Option Nat
  /-- 05 R206: T_EXPOSURE. -/
  tExp : Option Nat
  tEnd : Nat
  closed : Bool
  /-- 05 R211: parameter groups in force. -/
  par : Tab (List Byte)
  /-- The images of the tables in force: 3 column, 4 defect map, 5 shading, 0x11 colour, 0x12 tone. -/
  images : Tab (List Byte)
  /-- PIXEL_DEPTH. -/
  depth : Nat
  /-- Assembled lines, first line first. -/
  lines : List Line
  /-- 32 bits; 03 R121: flags of the tag known so far. -/
  flags : Nat
  /-- 24 bits; 03 R120: MALFORMED_LINES. -/
  malformed : Nat
  trig : Option FrameTrigger
  /-- 11 R404: positions at T_FRAME_START. -/
  pos : List Pos
  /-- 07 R262: output table of the sconce's machine-vision branch at b(f), empty when no stream has one. -/
  mv : List Byte
  /-- 08 R280: Lantern active at each tap at b(f). -/
  taps : Tab Nat
  /-- Lines returned by the kernel at each tap. -/
  returned : Tab (List Line)
  /-- 08 R286: the kernel at the tap has finished the frame. -/
  tapDone : List Nat
  /-- The corrections have finished the frame and its records are made. -/
  corrected : Bool
  /-- 05 R207: boundary of a chunked frame. -/
  boundary : Option Nat
  /-- 05 R209: a line without a valid position. -/
  noPosition : Bool
  /-- 11 R404: a position of a chunk boundary test was taken in ACQUIRING or LOST. -/
  unpredicted : Bool
  /-- Stamp of the last packet (05 R203). -/
  lastStamp : Nat
  /-- 05 R200: stamp that ended its last line: the LINE_END, or what closed the line without one. -/
  lineEnd : Nat
  /-- 16 R556: captured raw payload. -/
  recorded : Bool
  /-- 15 R519: the slice of the patrol checker that duplicates the frame. -/
  patrol : Bool
  /-- 10 R372: the time base was in holdover at the boundary. -/
  holdover : Bool
  deriving DecidableEq, Repr

/-- The line that is open (05 R199). -/
structure OpenLine where
  stamp : Nat
  number : Nat
  pix : List Nat
  pos : List Pos
  /-- Stamp of its last packet. -/
  lastStamp : Nat
  deriving DecidableEq, Repr

/-- A pending parameter set (05 R212, R214). -/
structure PendingSet where
  group : Nat
  data : List Byte
  /-- Tables the set names, by the keys of `Frame.images`. -/
  ids : Tab Nat
  /-- 64 bits; commit stamp c. -/
  c : Nat
  /-- FRAME_AT for APPLY 1. -/
  at_ : Option Nat
  /-- 16 R546: COMMIT_SEQ. -/
  commitSeq : Nat
  deriving DecidableEq, Repr

/-- A fire that waits to be matched to a frame (12 R436): its instant and window in 1/256 ns, the positions at it once known. -/
structure QueuedFire where
  target : Nat
  /-- The sequencer that fired. -/
  seq : Nat
  fire : Nat
  window : Nat
  line : Bool
  pos : Option (List Pos)
  flags : Nat
  fireId : Nat
  deriving DecidableEq, Repr

/-- One sconce (05 R183 to R219). -/
structure Sconce where
  /-- 1 bit; 05 R186: configured. Reset not configured. -/
  configured : Bool
  /-- 03 R107: owning port. Reset none. -/
  owner : Option Nat
  /-- 7 bits; 05 R185: LANE. Reset DESIGN CHOICE 0 (entry 3), not configured. -/
  lane : Nat
  /-- 1 bit; 05 R185: CLASSIFIER. Reset 0, not configured. -/
  classifier : Bool
  /-- 05 R185: the format table of FORMAT_HANDLE. Reset none. -/
  format : Option Nat
  /-- 16 bits; 05 R185: MAX_RATE. Reset DESIGN CHOICE 0 (entry 3), not configured. -/
  maxRate : Nat
  /-- 256 bits per group; 05 R210, 06 R221, 07 R249: parameter groups in force. Reset all-zero blocks. -/
  par : Tab (List Byte)
  /-- 05 R225: tables in force by the keys of `Frame.images`. Reset none. -/
  ids : Tab Nat
  /-- 05 R214: up to four pending sets. Reset empty. -/
  sets : List PendingSet
  /-- 64 bits; 05 R186: next FRAME_NUMBER. Reset 0. -/
  next : Nat
  /-- 05 R200: frames from their boundary on, the last one open when it is not closed. Reset empty. -/
  frames : List Frame
  /-- 05 R199: the open line. Reset none. -/
  line : Option OpenLine
  /-- 05 R202: a late line whose packets are dropped. Reset 0. -/
  late : Bool
  /-- 16 bits; 05 R201: expected line number, none when the next one sets it. Reset none. -/
  expected : Option Nat
  /-- 16 bits; 05 R205: last camera frame number. Reset none. -/
  cam : Option Nat
  /-- 05 R206: an EXPOSURE_REPORT that came before its frame. Reset none. -/
  exposure : Option Nat
  /-- 05 R208: boundary that the next chunked frame keeps. Reset none. -/
  boundary : Option Nat
  /-- 05 R218: counters by code. Reset 0. -/
  counters : Tab Nat
  /-- 05 R218: per counter, value and elapsed time at the last ASSEMBLY_ERRORS record. Reset none. -/
  reports : Tab (Nat × Nat)
  /-- 05 R217, R209, 06 R246: elapsed time and count at the last record of types 0x0204, 0x0205, 0x0210. Reset none. -/
  limits : Tab (Nat × Nat)
  /-- 12 R436: fires queued for matching. Reset empty. -/
  fires : List QueuedFire
  /-- 15 R511, R512: a planned spare-in has moved the sconce since its last frame opened: the next one carries SPARE_IN. Reset 0. -/
  spareIn : Bool
  /-- 05 R215: lines of the sconce in its slice's line store: bytes, and the instant at which the slice has processed the line, in 1/7 ns
  of device time. Reset empty. -/
  store : List (Nat × Nat)
  deriving DecidableEq, Repr

/-- A sconce after reset: not configured, every group all zero. -/
def Sconce.reset : Sconce :=
  { configured := false, owner := none, lane := 0, classifier := false, format := none, maxRate := 0, par := []
    ids := [], sets := [], next := 0, frames := [], line := none, late := false, expected := none, cam := none
    exposure := none, boundary := none, counters := [], reports := []
    limits := [], fires := [], spareIn := false, store := [] }

/-! ### Streams and movers (03 R125 to R127, 14) -/

/-- State of a stream (03 R126). -/
inductive StreamState where
  | free | configured | running | stopping
  deriving DecidableEq, Repr

/-- One frame of a stream, staged or spooled (14 R474, R497). -/
structure StreamFrame where
  /-- FRAME_NUMBER. -/
  number : Nat
  /-- 14 R497: in the spool of this port; none in a staging slot. -/
  spool : Option Nat
  /-- 03 R121: SPOOL_DELAY. -/
  delay : Bool
  /-- 14 R475: descriptor in hand. -/
  desc : Option (Desc × Nat)
  /-- 14 R478: destination bytes written so far. -/
  written : Nat
  /-- 06 R243: the statistics record: 0 not asked for, 1 with an auxiliary mover, 2 written. -/
  stats : Nat
  /-- 14 R503: every write is issued and the entry is ready, its readiness stamp. -/
  ready : Option Nat
  /-- 15 R509, R513: FAULT_LOST of this stream's frame alone. -/
  fault : Bool
  deriving DecidableEq, Repr

/-- One stream (03 R125, 14). -/
structure Stream where
  /-- 2 bits; 03 R126: state. Reset Free. -/
  st : StreamState
  /-- 03 R107: owning port. Reset none. -/
  owner : Option Nat
  /-- 9 bits; 03 R125: SCONCE. Reset 0 (Free). -/
  sconce : Nat
  /-- 2 bits; 03 R125: BRANCH. Reset 0 (Free). -/
  branch : Nat
  /-- 1 bit; 03 R125: LINE_TAGS. Reset 0 (Free). -/
  lineTags : Bool
  /-- 1 bit; 03 R125: STATS. Reset 0 (Free). -/
  stats : Bool
  /-- 12 bits; 03 R125: DELIVERY_RING. Reset 0 (Free). -/
  dRing : Nat
  /-- 12 bits; 03 R125: COMPLETION_RING. Reset 0 (Free). -/
  cRing : Nat
  /-- 2 x 12 bits; 03 R125: PARTNER_DELIVERY_RING and PARTNER_COMPLETION_RING when PARTNER is 1. Reset none. -/
  partner : Option (Nat × Nat)
  /-- 03 R125: ENC_A when enabled. Reset none. -/
  encA : Option Nat
  /-- 03 R125: ENC_B when enabled. Reset none. -/
  encB : Option Nat
  /-- 4 + 4 bits; 03 R125: the ENC_A and ENC_B fields as written. Reset 0 (Free). -/
  encFields : Nat × Nat
  /-- 32 bits; 03 R125: OUTPUT_HANDLE. Reset 0 (Free). -/
  handle : Nat
  /-- 07 R262: the output table of the handle, kept by the stream. Reset empty. -/
  table : List Byte
  /-- 8 bits; 03 R125: WEIGHT. Reset 0 (Free). -/
  weight : Nat
  /-- 40 bits; 03 R119: MAX_FRAME_BYTES. Reset 0 (Free). -/
  maxBytes : Nat
  /-- 03 R126: start pending, its commit stamp. Reset none. -/
  startPending : Option Nat
  /-- 03 R127: frame after which the stream stops: none when no stop is armed, some none until the frame is known. Reset none. -/
  stopAt : Option (Option Nat)
  /-- 03 R127: ring identifier and argument of each STREAM_STOP that waits. Reset empty. -/
  stopCmds : List (Nat × Nat)
  /-- 32 bits; 16 R546: COMMIT_SEQ of the STREAM_START that is pending, and of the STREAM_STOP. Reset 0. -/
  startSeq : Nat
  stopSeq : Nat
  /-- 64 bits; 03 R116: first frame of the running period. Reset 0. -/
  first : Nat
  /-- 32 bits; 03 R123: frames lost since the last tag. Reset 0. -/
  gap : Nat
  /-- 14 R474: frames staged or spooled, lowest number first. Reset empty. -/
  frames : List StreamFrame
  /-- 14 R505: counters by code. Reset 0. -/
  counters : Tab Nat
  /-- 5 bits; 14 R473: frame mover of the delivering port. Reset DESIGN CHOICE 0 (entry 3), no context. -/
  mover : Nat
  /-- 14 R483: the context is stopped. Reset 0. -/
  stopped : Bool
  /-- 14 R483: a STOP drains: the frame that is still written. Reset none. -/
  draining : Bool
  /-- 2 bits; 14 R482: PACE_MODE. Reset 0. -/
  pace : Nat
  /-- 14 R482: PACE_BYTES. Reset 0. -/
  paceBytes : Nat
  /-- 14 R483: destination bytes the released step still allows; frames under mode 1 count as 1. Reset 0. -/
  paceLeft : Nat
  /-- 14 R494: blocked: cause, instant it began, declared a stall. Reset none. -/
  blocked : Option (Nat × Nat × Bool)
  /-- 14 R494: elapsed ns of the last write issued. Reset 0. -/
  lastWrite : Nat
  /-- 14 R498: frames spooled during the block. Reset 0. -/
  spooledInBlock : Nat
  /-- 14 R498: the block ended and the spool drains. Reset 0. -/
  drainSpool : Bool
  /-- 14 R497: elapsed ns of the last SPOOL_DROP, frames dropped and first frame since. Reset none. -/
  dropReport : Option Nat × Nat × Nat
  /-- 14 R502: an armed STREAM_MOVE: commit stamp and FRAME_AT. Reset none. -/
  move : Option (Nat × Option Nat)
  /-- 14 R502: frame from which the stream belongs to the other port, once the boundary has passed. Reset none. -/
  moveAt : Option Nat
  /-- 03 R121: the next frame carries SPOOL_DELAY after failover. Reset 0. -/
  redeliver : Bool
  /-- 07 R267: elapsed ns of the last ROI_EMPTY and PLANE_ABSENT. Reset none. -/
  limits : Tab Nat
  /-- 64 bits; 14 R506: last frame delivered. Reset 0. -/
  lastTag : Nat
  /-- 15 R513: evicted: Configured with its charge freed. Reset 0. -/
  uncharged : Bool
  /-- 07 R266, R267: the sconce's WIDTH and HEIGHT that the stream was configured with. Reset 0 (Free). -/
  dims : Nat × Nat
  deriving DecidableEq, Repr

/-- A Free stream (03 R126). -/
def Stream.reset : Stream :=
  { st := .free, owner := none, sconce := 0, branch := 0, lineTags := false, stats := false, dRing := 0, cRing := 0
    partner := none, encA := none, encB := none, encFields := (0, 0), handle := 0, table := [], weight := 0
    maxBytes := 0, startPending := none, stopAt := none, stopCmds := [], startSeq := 0, stopSeq := 0, first := 0, gap := 0, frames := []
    counters := [], mover := 0, stopped := false, draining := false, pace := 0, paceBytes := 0, paceLeft := 0
    blocked := none, lastWrite := 0, spooledInBlock := 0, drainSpool := false, dropReport := (none, 0, 0)
    move := none, moveAt := none, redeliver := false, limits := [], lastTag := 0, uncharged := false, dims := (0, 0) }

/-- A command whose image or list an auxiliary mover reads (14 R479): its ring identifier and argument, its slot and entry, and whether
its port has been reset since (02 R57). -/
structure LoadCmd where
  ring : Nat
  arg : Nat
  slot : Nat
  entry : Entry
  gone : Bool
  deriving DecidableEq, Repr

/-- An auxiliary transfer (14 R479): what it moves and for whom. Other commands are named by ring identifier and argument. -/
inductive AuxJob where
  | image (c : LoadCmd) (data : HostData)
  | statistics (stream frame : Nat)
  | gather (lantern : Nat)
  | block (ring arg port : Nat) (parts : List (Nat × List Byte))
  | mapList (c : LoadCmd) (data : HostData)
  deriving DecidableEq, Repr

/-- An auxiliary mover AX (14 R479 to R483). -/
structure AuxMover where
  /-- 14 R479: transfers, the first one running. Reset empty. -/
  queue : List AuxJob
  /-- 14 R483: stopped. Reset 0. -/
  stopped : Bool
  /-- 14 R483: a STOP waits for the transfer to end. Reset 0. -/
  draining : Bool
  /-- 2 bits; 14 R482: PACE_MODE. Reset 0. -/
  pace : Nat
  /-- 14 R483: transfers the steps released allow. Reset 0. -/
  paceLeft : Nat
  /-- 32 bits; 14 R481: CRC-32C of the last transfer. Reset DESIGN CHOICE 0 (entry 3). -/
  crc : Nat
  deriving DecidableEq, Repr

/-- An auxiliary mover after reset. -/
def AuxMover.reset : AuxMover :=
  { queue := [], stopped := false, draining := false, pace := 0, paceLeft := 0, crc := 0 }

/-- An entry of the translation area (14 R484): page address, log2 of the page size, port and bus address. -/
structure MapEntry where
  va : Nat
  log2 : Nat
  port : Nat
  bus : Nat
  deriving DecidableEq, Repr

/-! ### Lantern engines (08, 09) -/

/-- State of a Lantern (08 R280). -/
inductive LanternState where
  | free | bound | active
  deriving DecidableEq, Repr

/-- The routine a Lantern runs (08 R286, 09 R345). -/
inductive Routine where
  | idle | frameEntry | lineEntry | frameExit
  deriving DecidableEq, Repr

/-- A kernel image in an instruction bank (08 R294, R296). -/
structure Kernel where
  /-- 08 R294: the 64-byte header. -/
  header : List Byte
  /-- 8,192 x 32 bits; 08 R294: the instructions. -/
  code : List Nat
  /-- 08 R296: the data block kept for the swap. -/
  data : List Byte
  /-- 08 R292: the gather segment in the table area. -/
  segment : List Byte
  deriving DecidableEq, Repr

/-- The registers a handler's entry saves, and its return restores (09 R316, R346, R347, R350). -/
structure SaveSlot where
  pc : Nat
  progress : Nat
  xacc : Nat
  xlen : Nat
  xshift : Nat
  /-- 09 R352: in Replay, the journaled source that the handler's CLAIM returns. None otherwise, and once it is claimed. -/
  given : Option Nat
  deriving DecidableEq, Repr

/-- A KERNEL_SWAP whose boundary has passed while the kernel still works on earlier frames (08 R297). -/
structure SwapDue where
  /-- The first frame under the new state. -/
  first : Nat
  /-- DEACTIVATE. -/
  off : Bool
  /-- 08 R296: the kernel that a KERNEL_LOAD since has written into the bank this swap leaves inactive. -/
  load : Option Kernel
  deriving DecidableEq, Repr

/-- An outstanding gather (08 R293). -/
structure GatherJob where
  /-- The segment of the kernel that started it. -/
  segment : List Byte
  src : Nat
  dest : Nat
  elem : Nat
  indices : List Nat
  deriving DecidableEq, Repr

/-- One Lantern LTn (08, 09). -/
structure Lantern where
  /-- 2 bits; 08 R280: state. Reset Free. -/
  st : LanternState
  /-- 03 R107: owning port. Reset none. -/
  owner : Option Nat
  /-- 9 bits; 08 R298: SCONCE. Reset 0 (Free). -/
  sconce : Nat
  /-- 2 bits; 08 R298: TAP. Reset 0 (Free). -/
  tap : Nat
  /-- 1 bit; 08 R298: POLICY. Reset 0 (Free). -/
  policy : Bool
  /-- 4 bits; 08 R298: SLACK. Reset 0 (Free). -/
  slack : Nat
  /-- 4 bits; 08 R298: CH_MASK. Reset 0 (Free). -/
  chMask : Nat
  /-- 16 bits; 08 R298: FILL_VALUE. Reset 0 (Free). -/
  fill : Nat
  /-- Two instruction banks; 08 R296. Reset empty. -/
  bank0 : Option Kernel
  /-- 08 R296: the other bank. Reset empty. -/
  bank1 : Option Kernel
  /-- 1 bit; 08 R297: the active bank. Reset DESIGN CHOICE 0 (entry 3). -/
  bank : Bool
  /-- 08 R297: pending swap: commit stamp, FRAME_AT and DEACTIVATE. Reset none. -/
  swap : Option (Nat × Option Nat × Bool)
  /-- 08 R297: swaps whose boundary has passed while earlier frames are still in work, in order. Reset empty. -/
  swapAt : List SwapDue
  /-- 32 bits; 16 R546: COMMIT_SEQ of the swap that is pending. Reset 0. -/
  swapSeq : Nat
  /-- 2 MiB; 08 R289: local store, canonical list of bytes not 0. Reset DESIGN CHOICE every byte reads 0 (entry 4). -/
  store : List Host.Cell
  /-- 08 R286: the routine that runs. Reset idle. -/
  routine : Routine
  /-- 08 R286: frame number in work. Reset none. -/
  frame : Option Nat
  /-- 08 R286: index of the current line L. Reset 0. -/
  lineY : Nat
  /-- 08 R287: the output line. Reset empty. -/
  outLine : List Nat
  /-- 31 x 32 bits; 09 R316: s1 to s31. Reset DESIGN CHOICE 0 before the first routine entry (entry 3). -/
  s : Tab Nat
  /-- 16 x 32 bits; 09 R316: shadow bank of s16 to s31. Reset DESIGN CHOICE 0 before LANTERN_BIND (entry 3). -/
  shadow : Tab Nat
  /-- 16 x 512 bits; 09 R316: v0 to v15. Reset DESIGN CHOICE 0 (entry 3). -/
  v : Tab Nat
  /-- 7 x 32 bits; 09 R316: predicates p1 to p7. Reset DESIGN CHOICE 0 (entry 3). -/
  p : Tab Nat
  /-- 13 bits; 09 R316: program counter, a word index. Reset DESIGN CHOICE 0 (entry 3). -/
  pc : Nat
  /-- 09 R319: special registers by number, 32 bits each. Reset DESIGN CHOICE 0 (entry 3). -/
  sr : Tab Nat
  /-- 09 R346: the normal handler runs, with what its entry saved. Reset none. -/
  normal : Option SaveSlot
  /-- 09 R347: the fast handler runs, with what its entry saved. Reset none. -/
  fast : Option SaveSlot
  /-- 09 R338: the kernel stalls in WAIT, and how many lines had come to the tap when it began. Reset none. -/
  waiting : Option Nat
  /-- 08 R307: lines that waited at the last arrival, for SLACK_WARN. Reset 0. -/
  waited : Nat
  /-- 08 R307: the frame in work had closed at the tap, for FRAME_CLOSED. Reset 0. -/
  sawClosed : Bool
  /-- 09 R319: elapsed ns at the start of the line, for CYCLES. Reset 0. -/
  lineStart : Nat
  /-- 32 bits; 08 R292: gather port SRC. Reset 0. -/
  gSrc : Nat
  /-- 32 bits; 08 R292: INDEX_ADDR. Reset 0. -/
  gIndex : Nat
  /-- 32 bits; 08 R292: DEST_ADDR. Reset 0. -/
  gDest : Nat
  /-- 16 bits; 08 R292: COUNT. Reset 0. -/
  gCount : Nat
  /-- 3 bits; 08 R292: ELEM_LOG2. Reset 0. -/
  gElem : Nat
  /-- 1 bit; 08 R292: BUSY, the outstanding gather. Reset 0. -/
  gather : Option GatherJob
  /-- 1 bit; 08 R292: RANGE. Reset 0. -/
  gRange : Bool
  /-- 1 bit; 08 R292: REFUSED. Reset 0. -/
  gRefused : Bool
  /-- 64 bits; 08 R308: PENDING. Reset 0. -/
  irqPending : Nat
  /-- 64 bits; 08 R308: MASK. Reset all ones. -/
  irqMask : Nat
  /-- 64 bits; 08 R308: CLASS. Reset 0. -/
  irqClass : Nat
  /-- 64 bits; 08 R308: ACTIVE. Reset 0. -/
  irqActive : Nat
  /-- 16 bits; 08 R308: HOLDOFF. Reset 0. -/
  irqHoldoff : Nat
  /-- 7 bits; 08 R308: THRESHOLD. Reset 0. -/
  irqThreshold : Nat
  /-- 64 x 8 bits; 08 R308: COUNT. Reset 0. -/
  irqCount : Tab Nat
  /-- 16 x 32 bits; 08 R308: PIN_CONFIG. Reset 0. -/
  pinConfig : Tab Nat
  /-- 16 bits; 08 R312: pin sources in MODE 3 whose filtered line is high. Reset 0. -/
  pinHigh : Nat
  /-- 08 R312: pin sources whose line has a new level that is not yet stable for FILTER samples: when it will be, and the level.
  Reset none. -/
  pinWait : Tab (Nat × Bool)
  /-- 08 R311: elapsed ns at which each pending source pended. Reset none. -/
  pendedAt : Tab Nat
  /-- 08 R311: elapsed ns at which the earliest pending normal source pended. Reset none. -/
  earliest : Option Nat
  /-- 08 R311: the normal class's HOLDOFF has passed. Reset 0. -/
  holdoffDone : Bool
  /-- 08 R314: counters by code. Reset DESIGN CHOICE 0 until LANTERN_BIND clears them (entry 3). -/
  counters : Tab Nat
  /-- 08 R310: elapsed time and counter value at the last record of each type. Reset none. -/
  reports : Tab (Nat × Nat)
  /-- 24 bits; 08 R315: LINE_Y of the first line struck since the last LANTERN_OVERRUN record. Reset none. -/
  firstStruck : Option Nat
  deriving DecidableEq, Repr

/-- A Free Lantern. -/
def Lantern.reset : Lantern :=
  { st := .free, owner := none, sconce := 0, tap := 0, policy := false, slack := 0, chMask := 0, fill := 0
    bank0 := none, bank1 := none, bank := false, swap := none, swapAt := [], swapSeq := 0, store := [], routine := .idle
    frame := none, lineY := 0, outLine := [], s := [], shadow := [], v := [], p := [], pc := 0, sr := []
    normal := none, fast := none, waiting := none, waited := 0, sawClosed := false, lineStart := 0, gSrc := 0, gIndex := 0, gDest := 0, gCount := 0
    gElem := 0, gather := none, gRange := false, gRefused := false, irqPending := 0, irqMask := 2 ^ 64 - 1
    irqClass := 0, irqActive := 0, irqHoldoff := 0, irqThreshold := 0, irqCount := [], pinConfig := []
    pinHigh := 0, pinWait := [], pendedAt := [], earliest := none, holdoffDone := false, counters := [], reports := []
    firstStruck := none }

/-! ### Time base (10) -/

/-- State of the time base (10 R368). -/
inductive TimeState where
  | freeRun | acquiring | locked | holdover | settling
  deriving DecidableEq, Repr

/-- The CONFIGURE operands of TIME_CONFIG, as the Ember keeps them (10 R379). -/
structure TimeCfg where
  role : Nat
  source : Nat
  profile : Nat
  transport : Nat
  domain : Nat
  servoBw : Nat
  tpRate : Nat
  tpFec : Nat
  logSync : Int
  logAnnounce : Int
  logMinDelay : Int
  announceTimeout : Nat
  stepLimit : Nat
  lockThreshold : Nat
  settleCount : Nat
  settleWindow : Nat
  ppsWidth : Nat
  ppsOutOffset : Int
  ppsInOffset : Int
  asymmetry : Int
  tpIpv4 : Nat
  priority1 : Nat
  priority2 : Nat
  stampMask : Nat
  ppsInReport : Bool
  tpMac : Nat
  deriving DecidableEq, Repr

/-- The defaults after a loss of all supplies (10 R356, R379). -/
def TimeCfg.default : TimeCfg :=
  { role := 0, source := 0, profile := 0, transport := 0, domain := 0, servoBw := 2, tpRate := 0, tpFec := 0
    logSync := -3, logAnnounce := 0, logMinDelay := 0, announceTimeout := 3, stepLimit := 100000
    lockThreshold := 100, settleCount := 16, settleWindow := 100, ppsWidth := 10000, ppsOutOffset := 0
    ppsInOffset := 0, asymmetry := 0, tpIpv4 := 0, priority1 := 128, priority2 := 128, stampMask := 0
    ppsInReport := false, tpMac := 0 }

/-- A grandmaster dataset, as an Announce carries it, with the port identity of its sender (10 R364). -/
structure Master where
  priority1 : Nat
  cls : Nat
  accuracy : Nat
  variance : Nat
  priority2 : Nat
  identity : Nat
  stepsRemoved : Nat
  timeSource : Nat
  sender : Nat
  deriving DecidableEq, Repr

/-- A foreign master of the timing port (10 R364): its last dataset, and the elapsed ns and count of its Announces. -/
structure Foreign where
  m : Master
  last : Nat
  before : Option Nat
  interval : Int
  deriving DecidableEq, Repr

/-- An entry of the transmit time-stamp queue (10 R377). -/
structure TxStamp where
  seqId : Nat
  port : Nat
  msgType : Nat
  /-- The stamp in 1/256 ns. -/
  stamp : Nat
  deriving DecidableEq, Repr

/-- The time base in the Ember and the clock roles (10). -/
structure TimeBase where
  /-- 3 bits; 10 R368: state. Reset FREE_RUN (10 R356). -/
  st : TimeState
  /-- 10 R379: configuration in effect. Reset the defaults (10 R356). -/
  cfg : TimeCfg
  /-- 10 R379: configuration accepted whose fields take effect at the servo's next update. Reset none. -/
  cfgNext : Option TimeCfg
  /-- 1 bit; 10 R382: TP_UP. Reset 0. -/
  tpUp : Bool
  /-- 10 R364: foreign masters. Reset empty. -/
  foreign : List Foreign
  /-- 10 R364: the parent that the BMCA chose. Reset none. -/
  parent : Option Master
  /-- 64 bits; 10 R369: identity of the last adopted grandmaster. Reset none. -/
  adopted : Option Nat
  /-- 10 R364: a two-step Sync that waits for its Follow_Up: sequenceId, t2 in 1/256 ns, correction in 2^-16 ns. Reset none. -/
  syncOpen : Option (Nat × Nat × Int)
  /-- 10 R369: elapsed ns of the last Sync and its logMessageInterval. Reset none. -/
  lastSync : Option (Nat × Int)
  /-- 10 R364: a Delay_Req or Pdelay_Req sent on a port: sequenceId and its stamp in 1/256 ns, by portNumber. Reset empty. -/
  delayOpen : Tab (Nat × Nat)
  /-- 10 R364: t1 and t2 of the last Sync with corrections taken off, in 2^-16 ns. Reset none. -/
  lastPair : Option (Int × Int)
  /-- 10 R364: a two-step Pdelay_Resp that waits: sequenceId, t2, and t4 - t1 less its corrections, in 2^-16 ns, by portNumber. Reset
  empty. -/
  pdelayOpen : Tab (Nat × Int × Int)
  /-- 10 R382: mean path delay in 2^-16 ns, by portNumber. Reset 0. -/
  meanPath : Tab Int
  /-- 16 bits; 10 R364: sequenceId of the next Delay_Req or Pdelay_Req, by portNumber. Reset DESIGN CHOICE 0 (entry 3). -/
  delaySeq : Tab Nat
  /-- 16 bits; 10 R364: sequenceId of the next Sync of each lane port. Reset DESIGN CHOICE 0 (entry 3). -/
  syncSeq : Tab Nat
  /-- 16 bits; 10 R364: sequenceId of the next Announce of each lane port. Reset DESIGN CHOICE 0 (entry 3). -/
  annSeq : Tab Nat
  /-- 10 R364: elapsed ns at which the next Sync (2 n), Announce (2 n + 1) or delay request of portNumber n is due. Reset 0. -/
  ptpDue : Tab Nat
  /-- 10 R382: last offset in 2^-16 ns. Reset 0. -/
  offset : Int
  /-- 64 bits; 10 R382: T_LAST_UPDATE. Reset 0. -/
  lastUpdate : Nat
  /-- 10 R367: elapsed ns of the servo's last update. Reset none. -/
  servoAt : Option Nat
  /-- 10 R369: offsets measured in SETTLING, newest first. Reset empty. -/
  settle : List Int
  /-- 10 R369: successive offsets within the lock threshold. Reset 0. -/
  good : Nat
  /-- 10 R369: successive offsets beyond four thresholds. Reset 0. -/
  bad : Nat
  /-- 10 R371: frequency estimates of the last 16 updates in LOCKED, newest first, in 2^-32 units of RATE_ADJ. Reset empty. -/
  estimates : List Int
  /-- 10 R371: frequency estimate at the last update, in 2^-32 units of RATE_ADJ. Reset 0. -/
  estimate : Int
  /-- 10 R382: elapsed ns at which HOLDOVER or SETTLING began. Reset 0. -/
  holdSince : Nat
  /-- 32 bits; 10 R382: STEPS. Reset 0. -/
  steps : Nat
  /-- 32 bits; 10 R382: PTP_DISCARDED. Reset 0. -/
  discarded : Nat
  /-- 32 bits; 10 R382: PPS_REJECTED. Reset 0. -/
  rejected : Nat
  /-- 16 entries; 10 R376: transmit time-stamp queue, oldest first. Reset empty. -/
  stamps : List TxStamp
  /-- 32 bits; 10 R376: OVERFLOW. Reset 0. -/
  overflow : Nat
  /-- 10 R376: elapsed ns of the last STAMP_OVERFLOW. Reset none. -/
  overflowAt : Option Nat
  /-- 10 R370: elapsed ns of the last STEP_DEFERRED. Reset none. -/
  deferredAt : Option Nat
  /-- 10 R369: elapsed ns of the last PPS_IN edge. Reset none. -/
  ppsIn : Option Nat
  /-- 10 R381: SET_TIME that waits for an edge: ring identifier and argument. Reset none. -/
  waiting : Option (Nat × Nat)
  /-- 10 R373: level of PPS_OUT, and the elapsed ns at which a pulse ends. Reset low. -/
  ppsHigh : Option Nat
  /-- 10 R373: device time of the last pulse, or of what rules out an earlier one. Reset -1: the first instant is 0. -/
  ppsLast : Int
  /-- 10 R373: earlier settings of PPS_OUT_OFFSET and PPS_WIDTH, oldest first, each for pulses that begin before its device time. Reset
  empty. -/
  ppsOld : List (Nat × Int × Nat)
  deriving DecidableEq, Repr

/-- The time base after a loss of all supplies (10 R356). -/
def TimeBase.reset : TimeBase :=
  { st := .freeRun, cfg := TimeCfg.default, cfgNext := none, tpUp := false, foreign := [], parent := none, adopted := none
    syncOpen := none, lastSync := none, delayOpen := [], lastPair := none, pdelayOpen := [], meanPath := []
    delaySeq := [], syncSeq := [], annSeq := [], ptpDue := [], offset := 0, lastUpdate := 0, servoAt := none, settle := [], good := 0, bad := 0
    estimates := [], estimate := 0, holdSince := 0, steps := 0, discarded := 0, rejected := 0, stamps := []
    overflow := 0, overflowAt := none, deferredAt := none, ppsIn := none, waiting := none, ppsHigh := none
    ppsLast := -1, ppsOld := [] }

/-! ### Position feedback (11). Stamps count 1/256 ns of device time. -/

/-- The CONFIGURE operands of ENCODER_CONFIG (11 R413). -/
structure EncCfg where
  mode : Nat
  reverse : Bool
  term : Bool
  obsEn : Bool
  filter : Nat
  zMode : Nat
  zGate : Bool
  stepEdge : Bool
  obsBw : Nat
  trackLimit : Nat
  lossCount : Nat
  zPreset : Nat
  hallU : Nat
  hallV : Nat
  hallW : Nat
  posBits : Nat
  frameBits : Nat
  posShift : Nat
  gray : Bool
  parityEn : Bool
  parityOdd : Bool
  serClk : Nat
  serPeriod : Nat
  serTimeout : Nat
  deriving DecidableEq, Repr

/-- Every field 0: the channel is Off. -/
def EncCfg.reset : EncCfg :=
  { mode := 0, reverse := false, term := false, obsEn := false, filter := 0, zMode := 0, zGate := false
    stepEdge := false, obsBw := 0, trackLimit := 0, lossCount := 0, zPreset := 0, hallU := 0, hallV := 0, hallW := 0
    posBits := 0, frameBits := 0, posShift := 0, gray := false, parityEn := false, parityOdd := false, serClk := 0
    serPeriod := 0, serTimeout := 0 }

/-- State of an observer (11 R401). -/
inductive ObsState where
  | off | acquiring | locked | lost
  deriving DecidableEq, Repr

/-- A change of the raw count: stamp, count after it, the position it marks (11 R395), and whether it is a jump, which marks no position
but holds its change here (R398). -/
structure CountEdge where
  stamp : Nat
  count : Nat
  mark : Nat
  jump : Bool
  deriving DecidableEq, Repr

/-- The observer from an instant on: its state, P, V and the update tk they belong to (11 R399, R403). -/
structure ObsPoint where
  stamp : Nat
  st : ObsState
  p : Nat
  v : Int
  tk : Nat
  deriving DecidableEq, Repr

/-- A channel's pulse divider (11 R410, R411, R414). -/
structure Divider where
  reverse : Bool
  gioA : Nat
  gioB : Nat
  n : Nat
  m : Nat
  minEdge : Nat
  /-- Accumulator A. -/
  acc : Nat
  /-- Output counts that wait, all of one direction: the earliest instant of each. -/
  queue : List Nat
  fwd : Bool
  /-- Instant before which the next output edge may not stand. -/
  next : Nat
  /-- Place in the Gray sequence. -/
  phase : Nat
  deriving DecidableEq, Repr

/-- One encoder channel (11). -/
structure Encoder where
  /-- 03 R107, 11 R417: owning port. Reset none. -/
  owner : Option Nat
  /-- 11 R413: configuration. Reset Off (11 R417). -/
  cfg : EncCfg
  /-- 32 bits; 11 R395: count. Reset 0, Off. -/
  count : Nat
  /-- 11 R415: stamp from which the history runs. Reset 0. -/
  since : Nat
  /-- 32 bits; 11 R403: count before the oldest edge kept. Reset 0. -/
  base : Nat
  /-- 11 R403: changes of the count in the last 4,096 µs, newest first. Reset empty. -/
  edges : List CountEdge
  /-- 11 R387: filtered levels of A, B, Z. Reset low. -/
  a : Bool
  b : Bool
  z : Bool
  /-- 11 R387: stamp of the last filtered edge of each input: 0 A, 1 B, 2 Z. Reset none. -/
  moved : Tab Nat
  /-- 11 R390: Hall state. Reset none known. -/
  hall : Option Nat
  /-- 11 R386: pairs in fault: 0 A, 1 B, 2 Z. Reset none. -/
  faults : List Nat
  /-- 11 R399 to R401: state of the observer, P, V and the last update tk in ns. Reset OFF, 0. -/
  st : ObsState
  p : Nat
  v : Int
  tk : Nat
  /-- 11 R401: clean updates in succession. Reset 0. -/
  clean : Nat
  /-- 11 R401: bad updates in succession. Reset 0. -/
  bad : Nat
  /-- 11 R403: observer states of the last 4,096 µs, newest first. Reset empty. -/
  points : List ObsPoint
  /-- 24 bits; 11 R399: gains in use. Reset 0. -/
  k1 : Nat
  k2 : Nat
  /-- 32 bits; 11 R397: Z_COUNT. Reset 0. -/
  zCount : Nat
  /-- 72 bits; 11 R397: Z_TIME and Z_FRAC. Reset 0. -/
  zTime : Nat
  /-- 1 bit; 11 R397, R416: Z_ARMED. Reset 0. -/
  zArmed : Bool
  /-- 1 bit; 11 R394: SENSOR_WARN. Reset 0. -/
  sensorWarn : Bool
  /-- 11 R394: last good readings as (stamp, position, count), newest first, at most two. Reset none. -/
  readings : List (Nat × Nat × Nat)
  /-- 11 R394: readings discarded in succession. Reset 0. -/
  discards : Nat
  /-- 11 R392, R394: stamp of the frame that is being clocked. Reset none. -/
  serOpen : Option Nat
  /-- 11 R394: elapsed ns at which the next frame starts. Reset 0. -/
  serDue : Nat
  /-- 11 R410: divider. Reset none. -/
  div : Option Divider
  /-- 32 bits each; 11 R416: counters by code. Reset 0. -/
  counters : Tab Nat
  /-- 11 R418: per counter, value and elapsed time at the last record. Reset none. -/
  reports : Tab (Nat × Nat)
  deriving DecidableEq, Repr

/-- A channel after reset: Off and unowned. -/
def Encoder.reset : Encoder :=
  { owner := none, cfg := EncCfg.reset, count := 0, since := 0, base := 0, edges := [], a := false, b := false
    z := false, moved := [], hall := none, faults := [], st := .off, p := 0, v := 0, tk := 0, clean := 0, bad := 0, points := []
    k1 := 0, k2 := 0, zCount := 0, zTime := 0, zArmed := false, sensorWarn := false, readings := [], discards := 0
    serOpen := none, serDue := 0, div := none, counters := [], reports := [] }

/-! ### The Lamplighter (12). Instants count 1/256 ns of device time. -/

/-- How a compare fires (10 R361, 11 R407, R408). -/
inductive FireHow where
  | onTime | late | raw | short
  deriving DecidableEq, Repr

/-- A compare slot of a sequencer as it runs (12 R419, R421; 10 R360; 11 R407). -/
structure SeqSlot where
  /-- The target when armed: an instant, or a 40-bit count and fraction. -/
  armed : Option Nat
  /-- The instant at which it will fire, as known now: a time slot's, a prediction, or 16 ns after a late arming. -/
  fire : Option (Nat × FireHow)
  /-- 11 R407: the visibility instant of the edge that met it on the raw-count path. -/
  raw : Option Nat
  /-- 12 R423: the slot's previous target. -/
  prev : Option Nat
  deriving DecidableEq, Repr

/-- A timer of a sequencer (12 R423): its expiry, and its period when periodic. -/
structure SeqTimer where
  due : Nat
  period : Option Nat
  deriving DecidableEq, Repr

/-- A happening that waits to be offered (12 R422, R425): kind, index, edge, action instant, whether it comes from the position
domain, how its slot fired and which slot it was, and the fabric slot that is busy until it is taken. -/
structure Hap where
  kind : Nat
  index : Nat
  rising : Bool
  at_ : Nat
  pos : Bool
  how : FireHow
  slot : Nat
  from_ : Option (Nat × Nat)
  deriving DecidableEq, Repr

/-- One sequencer SQn (12). -/
structure Sequencer where
  /-- 03 R107: owning port. Reset none. -/
  owner : Option Nat
  /-- 12 R420: image. Reset none. -/
  image : List Byte
  /-- 1 bit; 12 R429: running, from START on. Reset halted. -/
  running : Bool
  /-- 12 R429: start instant not yet reached. Reset none. -/
  startAt : Option Nat
  /-- 6 bits; 12 R426: current state. Reset 0. -/
  st : Nat
  /-- 12 R427: instant until which the last transition occupies it. Reset 0. -/
  busyUntil : Nat
  /-- 8 slots; 12 R419. Reset disarmed. -/
  slots : Tab SeqSlot
  /-- 4 timers; 12 R419. Reset stopped. -/
  timers : Tab SeqTimer
  /-- 2 x 32 bits; 12 R419: counters C0 and C1. Reset 0. -/
  c : Tab Nat
  /-- 12 R425: happenings that wait. Reset empty. -/
  haps : List Hap
  /-- 32 bits each; 12 R445: counters by code. Reset 0. -/
  counters : Tab Nat
  /-- 12 R446: per type, count since the last record and its elapsed time. Reset none. -/
  reports : Tab (Nat × Nat)
  deriving DecidableEq, Repr

/-- A sequencer after reset. -/
def Sequencer.reset : Sequencer :=
  { owner := none, image := [], running := false, startAt := none, st := 0, busyUntil := 0, slots := [], timers := []
    c := [], haps := [], counters := [], reports := [] }

/-- A trigger target's descriptor (12 R430). Times in units of 250 ps. -/
structure TargetCfg where
  kind : Nat
  polarity : Bool
  drop : Bool
  control : Nat
  lineMatch : Bool
  scheduled : Bool
  lane : Nat
  input : Nat
  sensor : Nat
  sconce : Nat
  sconceEn : Bool
  minWidth : Nat
  maxWidth : Nat
  width : Nat
  minInterval : Nat
  latency : Nat
  delay : Nat
  window : Nat
  deriving DecidableEq, Repr

/-- A target not configured. -/
def TargetCfg.reset : TargetCfg :=
  { kind := 0, polarity := false, drop := false, control := 0, lineMatch := false, scheduled := false, lane := 0
    input := 0, sensor := 0, sconce := 0, sconceEn := false, minWidth := 0, maxWidth := 0, width := 0, minInterval := 0
    latency := 0, delay := 0, window := 0 }

/-- A fire of a target (12 R431 to R433): fire and output instants, width, tag flags, its number. -/
structure Fire where
  f : Nat
  o : Nat
  width : Nat
  flags : Nat
  id : Nat
  deriving DecidableEq, Repr

/-- One trigger target TGn (12). -/
structure Target where
  /-- 03 R107: owning port. Reset none. -/
  owner : Option Nat
  /-- 12 R430: descriptor. Reset not configured. -/
  cfg : TargetCfg
  /-- 12 R433: fire instant of the last accepted fire. Reset none. -/
  last : Option Nat
  /-- 12 R433: the held fire and the instant at which it is accepted. Reset none. -/
  held : Option (Fire × Nat)
  /-- 12 R433: accepted fires whose outputs are still to come. Reset empty. -/
  pend : List Fire
  /-- 12 R431: the instant at which the pulse in progress ends. Reset none. -/
  pulse : Option Nat
  /-- 12 R434: latest output instant. Reset 0. -/
  lastOut : Nat
  /-- 12 R440: pending hand-over: T_H and NEW_CONTROL. Reset none. -/
  handover : Option (Nat × Nat)
  /-- 32 bits; 04 R160: COUNT. Reset 0. -/
  fires : Nat
  /-- 32 bits each; 12 R445: counters by code. Reset 0. -/
  counters : Tab Nat
  /-- 12 R446: per type, count since the last record and its elapsed time. Reset none. -/
  reports : Tab (Nat × Nat)
  deriving DecidableEq, Repr

/-- A target after reset. -/
def Target.reset : Target :=
  { owner := none, cfg := TargetCfg.reset, last := none, held := none, pend := [], pulse := none, lastOut := 0
    handover := none, fires := 0, counters := [], reports := [] }

/-- One GIO line (12 R442). -/
structure Gio where
  /-- 03 R107: owning port. Reset unowned (12 R442). -/
  owner : Option Nat
  /-- 2 bits; 12 R442: DIR: 0 input, 1 output, 2 released. Reset released: high impedance with a weak pull-down. -/
  dir : Nat
  /-- 1 bit; 12 R442: LEVEL. Reset 0. -/
  level : Bool
  /-- 2 bits; 12 R442: SAFE. Reset 0. -/
  safe : Nat
  /-- 8 bits; 12 R442: FILTER. Reset 0. -/
  filter : Nat
  /-- 1 bit; 12 R442: level driven at the pin. Reset 0. -/
  driven : Bool
  /-- 1 bit; 12 R442: filtered level seen at the pin. Reset 0. -/
  seen : Bool
  /-- 12 R442: stamp of the last filtered edge in 1/256 ns. Reset none. -/
  moved : Option Nat
  deriving DecidableEq, Repr

/-- A line after reset. -/
def Gio.reset : Gio :=
  { owner := none, dir := 2, level := false, safe := 0, filter := 0, driven := false, seen := false, moved := none }

/-! ### Event fabric (13) -/

/-- One event of a channel: its stamp in 1/256 ns and its producer (13 R447, R463). -/
structure FabEvent where
  stamp : Nat
  prodKind : Nat
  prodIndex : Nat
  deriving DecidableEq, Repr

/-- A consumer slot of a channel (13 R452, R455, R466). -/
structure Slot where
  /-- 4 + 12 + 8 bits; 13 R466: KIND, INDEX and ARG. Reset 0, empty. -/
  kind : Nat
  index : Nat
  arg : Nat
  /-- 13 R455: the event that keeps the consumer busy. Reset none. -/
  busy : Option FabEvent
  /-- 13 R455: the pending event. Reset none. -/
  pending : Option FabEvent
  /-- 32 bits; 13 R455, R469: LOST. Reset 0. -/
  lost : Nat
  /-- 32 bits; 13 R463: events lost since the slot's previous record. Reset 0. -/
  lostSince : Nat
  /-- 13 R456: EVENT_LOST has been written for the ring's present absence. Reset 0. -/
  ringGone : Bool
  deriving DecidableEq, Repr

/-- An empty slot. -/
def Slot.reset : Slot :=
  { kind := 0, index := 0, arg := 0, busy := none, pending := none, lost := 0, lostSince := 0, ringGone := false }

/-- A channel of the fabric (13 R447 to R469). -/
structure Channel where
  /-- 3 bits; 13 R460: owner code, 7 free. Reset 7, EV248 to EV255 4 (R449). -/
  owner : Nat
  /-- 1 bit; 13 R462: secure. Reset 0. -/
  secure : Bool
  /-- 6 bits; 13 R465: LANTERN. Reset 0. -/
  lantern : Nat
  /-- 4 + 8 + 16 bits; 13 R465: PROD_KIND, PROD_ARG, PROD_INDEX. Reset 0. -/
  prodKind : Nat
  prodArg : Nat
  prodIndex : Nat
  /-- 5 bits; 13 R465: GROUP. Reset 0. -/
  group : Nat
  /-- 32 bits; 13 R465: PERIOD. Reset 0. -/
  period : Nat
  /-- Eight slots; 13 R466. Reset empty. -/
  slots : Tab Slot
  /-- 13 R467, R470: slots of earlier bindings that still have an event to deal with; the n-th that was slot k has number k + 8 n. Reset
  empty. -/
  past : Tab Slot
  /-- 13 R472: per slot, elapsed ns of the last EVENT_LOST and events lost since. Reset none. -/
  reports : Tab (Nat × Nat)
  /-- 13 R450: stamp of the channel's previous event. Reset none. -/
  last : Option Nat
  /-- 13 R451: last multiple of PERIOD that emitted. Reset none. -/
  tick : Option Nat
  /-- 32 bits; 13 R469: EVENTS. Reset 0. -/
  events : Nat
  /-- 32 bits; 13 R457: GATED. Reset 0. -/
  gated : Nat
  /-- 32 bits; 13 R450: OVERRUN. Reset 0. -/
  overrun : Nat
  deriving DecidableEq, Repr

/-- A free channel. -/
def Channel.reset : Channel :=
  { owner := 7, secure := false, lantern := 0, prodKind := 0, prodArg := 0, prodIndex := 0, group := 0, period := 0
    slots := [], past := [], reports := [], last := none, tick := none, events := 0, gated := 0, overrun := 0 }

/-- An event on its way to a consumer slot: stamp and arrival instant in 1/256 ns, with the producer and the consumer as bound at its
stamp. -/
structure Flight where
  ch : Nat
  slot : Nat
  prodKind : Nat
  prodIndex : Nat
  kind : Nat
  index : Nat
  arg : Nat
  stamp : Nat
  arrive : Nat
  deriving DecidableEq, Repr

/-- A group of channels (13 R457 to R461). -/
structure Group where
  /-- 13 R461: owning port. Reset none. -/
  owner : Option Nat
  /-- 1 bit; 13 R457: enabled, before the switches listed. Reset 1. -/
  on : Bool
  /-- 13 R458: switches by instant in 1/256 ns, oldest first: 0 enable, 1 disable, 2 invert. Reset empty. -/
  switches : List (Nat × Nat)
  deriving DecidableEq, Repr

/-- A group after reset: enabled and unowned. -/
def Group.reset : Group := { owner := none, on := true, switches := [] }

/-! ### Spares, supervisors, patrol and Dark (15) -/

/-- A physical unit of a spare pool with its health values (15 R509, R515, R541). -/
structure Phys where
  /-- 15 R541: 0 in service, 1 free spare, 3 retired, 4 failed. -/
  st : Nat
  /-- 15 R541: logical unit. -/
  logical : Option Nat
  /-- 32 bits; 15 R515: corrected errors of the last 24 h, newest first: elapsed ns, and the row, lane or phase. -/
  errs : List (Nat × Nat)
  /-- 16 bits; 15 R541: MISMATCHES. -/
  mismatches : Nat
  /-- 15 R516: elapsed ns of the last WEAR_TREND. -/
  trend : Option Nat
  /-- 15 R541: spare rows, phases, PLLs or NV blocks in use. -/
  used : Nat
  /-- 15 R509: groups of 32 data lanes whose spare lane is in use. -/
  groups : List Nat
  /-- 15 R514: NV blocks retired with no spare left. -/
  lost : Nat
  deriving DecidableEq, Repr

/-- What the Ember keeps of the units in the NV store (15 R515 to R517, R523, R537). -/
structure Health where
  /-- 15 R509: physical units by pool × 65,536 + physical index; one not listed is as at the first power-on. Reset empty. -/
  units : Tab Phys
  /-- 1 bit per pool; 15 R516: AUTO. Reset 1. -/
  auto : Tab Bool
  /-- 32 bits per pool; 15 R516: WEAR_LIMIT. Reset 64 for pools 1 to 4, 16 for 5, 4,096 for 6, 1 for 7 and 8. -/
  wear : Tab Nat
  /-- 1 bit; 15 R523: patrol ENABLE. Reset 1. -/
  patrolOn : Bool
  /-- 32 bits; 15 R523: patrol INTERVAL in µs. Reset 0. -/
  patrolGap : Nat
  /-- 15 R513: HBM stacks lost. Reset none. -/
  stacksLost : List Nat
  /-- 15 R526: supervisor cores retired. Reset none. -/
  cores : List Nat
  deriving DecidableEq, Repr

/-- Nothing has worn or failed: the values after a loss of all supplies (15 R516, R523). -/
def Health.reset : Health :=
  { units := [], auto := [], wear := [], patrolOn := true, patrolGap := 0, stacksLost := [], cores := [] }

/-- A planned spare-in that is pending (15 R511, R512, R518; 04 R181). -/
structure SparePlan where
  pool : Nat
  logical : Nat
  old : Nat
  new_ : Nat
  /-- Commit stamp, DT64. -/
  commit : Nat
  /-- 15 R511: sconces of the slice that have moved. -/
  moved : List Nat
  /-- 15 R512: the local store has been copied. -/
  copied : Bool
  /-- 15 R518: kind of the record: 0 planned. -/
  kind : Nat
  deriving DecidableEq, Repr

/-- A spare that takes over after a hard fault or FORCE (15 R509, R518). -/
structure TakeOver where
  pool : Nat
  logical : Nat
  old : Nat
  new_ : Nat
  /-- 1 hard fault, 2 forced (R544). -/
  kind : Nat
  /-- Elapsed ns by which the spare is in service. -/
  due : Nat
  /-- Ring identifier and argument of the FORCE that waits. -/
  cmd : Option (Nat × Nat)
  deriving DecidableEq, Repr

/-- The supervisor cores (15 R524 to R526). -/
structure Supervisors where
  /-- Cores that run: the lockstep pair, or one alone; none during a take-over. Reset 0 and 1. -/
  live : List Nat
  /-- The standby. Reset core 2. -/
  standby : Option Nat
  /-- Cores frozen, that wait for their self-test. Reset none. -/
  frozen : List Nat
  /-- 15 R525: elapsed ns by which the standby resumes. Reset none. -/
  resumeBy : Option Nat
  /-- 2 bits; 15 R526: state that the last SUPERVISOR record gave. Reset 0. -/
  told : Nat
  deriving DecidableEq, Repr

/-- Three cores in order. -/
def Supervisors.reset : Supervisors :=
  { live := [0, 1], standby := some 2, frozen := [], resumeBy := none, told := 0 }

/-- The patrol checker (15 R519 to R522). -/
structure Patrol where
  /-- 15 R521: sconce patrolled last. Reset none. -/
  last : Option Nat
  /-- 15 R521: device time at which the last patrol frame closed. Reset 0. -/
  closed : Nat
  /-- 15 R519: sconce and frame that is being duplicated. Reset none. -/
  cur : Option (Nat × Nat)
  /-- 15 R521: sconce and first mismatched frame of a vote that has begun. Reset none. -/
  vote : Option (Nat × Nat)
  /-- 15 R522: suspended. Reset 1: the patrol runs in Acquire and Record only. -/
  suspended : Bool
  deriving DecidableEq, Repr

/-- The patrol before it first runs. -/
def Patrol.reset : Patrol := { last := none, closed := 0, cur := none, vote := none, suspended := true }

/-- Dark (15 R528 to R530). -/
structure DarkState where
  /-- 8 bits; 15 R528: cause. Reset 0. -/
  cause : Nat
  /-- 15 R529: elapsed ns of the decision instant. Reset 0. -/
  t0 : Nat
  /-- 15 R529: outputs are safe and frames discarded. Reset 0. -/
  safe : Bool
  /-- 15 R529: every port has ended its drain. Reset 0. -/
  drained : Bool
  deriving DecidableEq, Repr

/-- Not in Dark. -/
def DarkState.reset : DarkState := { cause := 0, t0 := 0, safe := false, drained := false }

/-- The window of a source at one ring (15 R534). -/
structure EvWindow where
  port : Nat
  ring : Nat
  typ : Nat
  island : Nat
  subject : Nat
  /-- Elapsed ns at which it opened. -/
  opened : Nat
  /-- Records written in it. -/
  count : Nat
  /-- Records 9 and later as one. -/
  rest : Option EvRec
  deriving DecidableEq, Repr

/-! ### Journal, Record and Replay (16) -/

/-- A journal record (16 R545). -/
structure JRec where
  qual : Nat
  typ : Nat
  island : Nat
  seq : Nat
  time : Nat
  body : List Byte
  deriving DecidableEq, Repr

/-- The Tallow journal (16 R545 to R555). -/
structure Journal where
  /-- 32 bits per island; 16 R545, 01 R21: next SEQ of the journal path. Reset DESIGN CHOICE 0 (entry 3). -/
  seq : Tab Nat
  /-- 16 R547: records delivered and not yet emitted. Reset empty. -/
  waiting : List JRec
  /-- 2,097,152 records; 16 R548: records emitted that an enabled target has not taken, by record number. Reset empty. -/
  staged : List (Nat × JRec)
  /-- 64 bits; 16 R547: next record number. Reset 0. -/
  next : Nat
  /-- 16 R549, R554: TIME of record 0, for the GAP that starts a newly enabled ring. Reset none. -/
  firstTime : Option Nat
  /-- 64 bits; 16 R546: last whole ms of device time that made a SYNC. Reset 0. -/
  lastSync : Nat
  /-- 1 bit; 16 R553: RING_EN. Reset 0. -/
  ringEn : Bool
  /-- 12 bits; 16 R553: journal ring. Reset DESIGN CHOICE 0 (entry 3), disabled. -/
  ring : Nat
  /-- 64 bits; 16 R548: record number the ring takes next. Reset 0. -/
  ringPos : Nat
  /-- 16 R554: a ring that TARGETS took from the journal, and the record numbers from and below which it still gets records: those emitted
  before DONE. Reset none. -/
  oldRing : Option (Nat × Nat × Nat)
  /-- 16 R549: GAP to be written to the ring before the next record: records skipped and TIME of the first. Reset none. -/
  ringGap : Option (Nat × Nat)
  /-- 1 bit; 16 R553: NV_EN. Reset 1. -/
  nvEn : Bool
  /-- 8 bits; 16 R553: NV_RATE in MB/s. Reset 200. -/
  nvRate : Nat
  /-- 64 bits; 16 R548: record number the NV store takes next. Reset 0. -/
  nvPos : Nat
  /-- 64 bits; 16 R554: while NV_EN is 0, the store still takes records below this number: those emitted before DONE. Reset 0. -/
  nvUntil : Nat
  /-- 16 R550: elapsed ns from which NV_RATE lets the store write its next block. Reset 0. -/
  nvFree : Nat
  /-- 16 R549: GAP to be written to the NV store before the next record. Reset none. -/
  nvGap : Option (Nat × Nat)
  /-- 33,554,432 records; 16 R550: the NV store with record numbers, oldest first; a GAP has none. Reset DESIGN CHOICE empty (entry 3). -/
  nv : List (Option Nat × JRec)
  /-- 16 R551: record number of the FATAL record that froze the store. Reset none. -/
  frozen : Option Nat
  /-- 16 R551: TIME + 100 ms of a FATAL record, up to which the store still takes records. Reset none. -/
  freezeAt : Option Nat
  /-- 32 bits; 16 R555: NV_GAPS. Reset 0. -/
  nvGaps : Nat
  /-- 32 bits; 16 R555: RING_GAPS. Reset 0. -/
  ringGaps : Nat
  /-- 16 R549: per target (0 NV store, 1 ring) elapsed ns of its last JOURNAL_GAP, and records skipped since. Reset none. -/
  gapReport : Tab (Nat × Nat)
  deriving DecidableEq, Repr

/-- The journal after a loss of all supplies (16 R553). -/
def Journal.reset : Journal :=
  { seq := [], waiting := [], staged := [], next := 0, firstTime := none, lastSync := 0, ringEn := false, ring := 0, ringPos := 0
    oldRing := none, ringGap := none, nvEn := true, nvRate := 200, nvPos := 0, nvUntil := 0, nvFree := 0, nvGap := none, nv := [], frozen := none
    freezeAt := none, nvGaps := 0, ringGaps := 0, gapReport := [] }

/-- An item of a capture: its TIME, ITEM_SEQ and padded bytes (16 R558). -/
structure CapItem where
  time : Nat
  seq : Nat
  bytes : List Byte
  deriving DecidableEq, Repr

/-- A block of items, or a gap or capture end on its way to a record ring (16 R559). -/
structure CapBlock where
  /-- 1 block, 2 gap, 3 capture end. -/
  kind : Nat
  sconce : Nat
  /-- The items of a block, whole and in order. -/
  content : List CapItem
  gapFrames : Nat
  deriving DecidableEq, Repr

/-- The bytes of a block. -/
def CapBlock.bytes (b : CapBlock) : List Byte := (b.content.map (·.bytes)).flatten

/-- FIRST_TIME, 0 for an entry without items. -/
def CapBlock.firstTime (b : CapBlock) : Nat := match b.content with | i :: _ => i.time | [] => 0

/-- FIRST_SEQ, 0 for an entry without items. -/
def CapBlock.firstSeq (b : CapBlock) : Nat := match b.content with | i :: _ => i.seq | [] => 0

/-- ITEMS. -/
def CapBlock.items (b : CapBlock) : Nat := b.content.length

/-- A capture (16 R556 to R563). -/
structure Capture where
  port : Nat
  stream : Nat
  toHbm : Bool
  toHost : Bool
  slotLog2 : Nat
  ring : Nat
  area : Nat
  /-- SNAP_PERIOD in ms. -/
  period : Nat
  /-- 0 armed, 1 running, 2 ended, its blocks still to be placed, 3 fallen behind. -/
  st : Nat
  /-- It ends at the next boundary of its sconce. -/
  ending : Bool
  /-- 16 R557: Lanterns whose local store has been copied for the next snapshot. -/
  copied : List Nat
  /-- 16 R557: b(f) of the last snapshot, DT64. -/
  snap : Option Nat
  /-- ITEM_SEQ of the next item. -/
  seq : Nat
  /-- 16 R559: items of the buffer not yet in a block. -/
  buf : List CapItem
  /-- 16 R559: blocks that wait for the record ring. -/
  queue : List CapBlock
  /-- 16 R560: the frame in progress is captured whole so far. -/
  whole : Bool
  /-- 16 R560: frames without complete capture since the gap began. -/
  lostFrames : Nat
  /-- 16 R563: items and gaps so far. -/
  items : Nat
  gaps : Nat
  /-- 16 R558: open ENCODER item of each channel: base instant, DT64, and entries (offset in 250 ps, kind). -/
  enc : Tab (Nat × List (Nat × Nat))
  /-- Ring identifiers and arguments of the RECORD_CONFIG STOPs that wait. -/
  stopCmds : List (Nat × Nat)
  deriving DecidableEq, Repr

/-- An EXPORT that runs (16 R563). -/
structure Export where
  cmdRing : Nat
  arg : Nat
  ring : Nat
  area : Nat
  slotLog2 : Nat
  blocks : List CapBlock
  deriving DecidableEq, Repr

/-- Record mode: the record area and the captures (16 R556 to R563). -/
structure Recorder where
  /-- 8 bits; 16 R562: AREA_GIB. Reset DESIGN CHOICE 0 (entry 3). -/
  areaGiB : Nat
  /-- 1 bit; 16 R562: FULL is STOP. Reset DESIGN CHOICE 0 (entry 3). -/
  fullStop : Bool
  /-- 16 R559: blocks the HBM record area holds, oldest first. Reset empty. -/
  blocks : List CapBlock
  /-- 16 R556: captures by sconce. Reset none. -/
  caps : Tab Capture
  /-- 16 R563: exports that run. Reset none. -/
  exports : List Export
  deriving DecidableEq, Repr

/-- Nothing captured. -/
def Recorder.reset : Recorder := { areaGiB := 0, fullStop := false, blocks := [], caps := [], exports := [] }

/-- A capture replay ring of a session (16 R565). -/
structure ReplayCap where
  /-- 9 bits; 16 R570: RECORDED. -/
  recorded : Nat
  /-- 9 bits; 16 R570: TARGET. -/
  target : Nat
  /-- 10 bits; 16 R570: RING. -/
  ring : Nat
  /-- 16 R565: the snapshot the session starts from has been found: the items begin with it. -/
  found : Bool
  /-- 16 R565: the snapshot has been loaded. -/
  loaded : Bool
  /-- Items read and not yet presented. -/
  items : List CapItem
  /-- Encoder entries read and not yet run: stamp in 1/256 ns, channel, KIND, count of a reading (16 R558). -/
  enc : List (Nat × Nat × Nat × Nat)
  /-- 16 R570: bytes read. -/
  read : Nat
  /-- 32 bits; 16 R558: ITEM_SEQ of the next item. None before the first. -/
  seq : Option Nat
  /-- 16 R564, R569: the ring has ended: false by its last block, true by a gap. -/
  ended : Option Bool
  /-- Boundary of the snapshot the session starts from, DT64. -/
  start : Nat
  /-- 16 R557: targets of the recorded sconce. -/
  targets : List Nat
  deriving DecidableEq, Repr

/-- State of a session (16 R565 to R570). -/
inductive SessionState where
  | none | adding | loading | running | paused | starved
  deriving DecidableEq, Repr

/-- A kernel swap whose recorded command has been read (16 R567). -/
structure ReplaySwap where
  lantern : Nat
  c : Nat
  at_ : Option Nat
  off : Bool
  commitSeq : Nat
  deriving DecidableEq, Repr

/-- A replay session (16 R565 to R570). -/
structure Session where
  /-- Reset none. -/
  st : SessionState
  /-- Port that issued it. Reset 0. -/
  port : Nat
  /-- 16 R565: up to 16 recorded sconces. Reset none. -/
  caps : List ReplayCap
  /-- 10 bits; 16 R570: JOURNAL_RING. Reset 0. -/
  jRing : Nat
  /-- Journal records read and not yet passed. Reset none. -/
  recs : List JRec
  /-- 16 R567: LANTERN_IRQ and LANTERN_STRIKE records passed whose point the Lantern has not reached. Reset none. -/
  kept : List JRec
  /-- 16 R569: why the journal ring ends: 1 its last block, 2 a GAP record or a jump of the numbers. Reset none. -/
  jEnd : Option Nat
  /-- 64 bits; 16 R547: record number of the next record, known from a SYNC on. Reset none. -/
  jNum : Option Nat
  /-- 64 bits; 16 R570: START_TIME. Reset 0. -/
  startTime : Nat
  /-- 16 bits; 16 R570: SPEED_DIV. Reset 1. -/
  speed : Nat
  /-- 16 R566: R0 in elapsed ns. Reset 0. -/
  r0 : Nat
  /-- 64 bits; 16 R566: S0. Reset 0. -/
  s0 : Nat
  /-- 16 R566, R570: elapsed ns at which the pause began. Reset 0. -/
  pausedAt : Nat
  /-- 16 R565, R567: the Lantern that stands for each recorded one. Reset none. -/
  lanterns : Tab Nat
  /-- 16 R567: re-derived observers, by target sconce × 16 + channel. Reset none. -/
  encoders : Tab Encoder
  /-- 16 R567: slots armed by the ARM records. Reset none. -/
  seqs : Tab Sequencer
  /-- 16 R567: targets as the FIRE records leave them. Reset none. -/
  targets : Tab Target
  /-- 16 R567: groups as the FABRIC records leave them. Reset none. -/
  groups : Tab Group
  /-- 16 R450, R567: stamp of the last event of each channel in the FABRIC records. Reset none. -/
  events : Tab Nat
  /-- 16 R567: the last COMPARE_FIRE was of a position slot. Reset 0. -/
  position : Bool
  /-- 3 bits; 16 R567: state of the time base by the last SERVO record. Reset none. -/
  servo : Option Nat
  /-- 16 R546: IMAGE_LOAD records: kind, handle, Lantern or sequencer, and IMAGE_CRC, newest first. Reset none. -/
  images : List (Nat × Nat × Nat)
  /-- 16 R546: the COMMAND_COMMIT whose parts are being read: its SEQ, TIME and the bytes so far. Reset none. -/
  cmd : Option (Nat × Nat × List Byte)
  /-- 16 R567: parameter sets of the recording that no APPLY record has applied, by target sconce. Reset none. -/
  sets : List (Nat × PendingSet)
  /-- 16 R567: kernel swaps of the recording that no APPLY record has applied. Reset none. -/
  swaps : List ReplaySwap
  /-- 16 R565: tables the session loaded, by IMAGE_CRC. Reset none. -/
  loaded : Tab Nat
  /-- 16 R571: per sconce × 8 + row, elapsed ns of the last REPLAY_MISMATCH and count since. Reset none. -/
  mismatch : Tab (Nat × Nat)
  /-- 16 R568: MISMATCHES. Reset 0. -/
  mismatches : Nat
  /-- Ring identifier and argument of the START that waits. Reset none. -/
  startCmd : Option (Nat × Nat)
  deriving DecidableEq, Repr

/-- No session. -/
def Session.reset : Session :=
  { st := .none, port := 0, caps := [], jRing := 0, recs := [], kept := [], jEnd := none, jNum := none, startTime := 0, speed := 1
    r0 := 0, s0 := 0, pausedAt := 0, lanterns := [], encoders := [], seqs := [], targets := [], groups := [], events := []
    position := false, servo := none, images := [], cmd := none, sets := [], swaps := [], loaded := [], mismatch := []
    mismatches := 0, startCmd := none }

/-! ### Two-wire buses (18) -/

/-- A module bus CG0 to CG15, or TPM as bus 16 (18 R593, R613, R614). -/
structure CgBus where
  /-- 18 R613: out of service. Reset 0. -/
  out : Bool
  /-- 18 R614: power-cycle: step done (1 off, 2 power on), elapsed ns of the next step, by CG_CYCLE. Reset none. -/
  cycle : Option (Nat × Nat × Bool)
  /-- 18 R613: attempts made, and elapsed ns of the next, during a recovery. Reset none. -/
  recovery : Option (Nat × Nat)
  /-- 18 R616: elapsed ns of the last CG_RECOVERY, and records not written since. Reset none. -/
  report : Option (Nat × Nat)
  deriving DecidableEq, Repr

/-- A bus at rest. -/
def CgBus.reset : CgBus := { out := false, cycle := none, recovery := none, report := none }

/-- The last CG_XFER and its result (18 R610, R612). -/
structure CgXfer where
  bus : Nat
  addr : Nat
  speed : Nat
  pec : Bool
  wdata : List Byte
  rlen : Nat
  /-- 18 R612: STATUS. Reset 0. -/
  status : Nat
  /-- 18 R612: TRIES. Reset 0. -/
  tries : Nat
  /-- 18 R612: bytes read. Reset none. -/
  data : List Byte
  deriving DecidableEq, Repr

/-- No transfer since reset. -/
def CgXfer.reset : CgXfer :=
  { bus := 0, addr := 0, speed := 0, pec := false, wdata := [], rlen := 0, status := 0, tries := 0, data := [] }

/-- The management target and the buses (18). -/
structure Mg where
  /-- 3 bits; 18 R596: MG_ADDR as the straps gave it. Reset 2, the straps unconnected. -/
  address : Nat
  /-- 16 bits; 18 R604: ALERT_STATUS. Reset 0. -/
  alertStatus : Nat
  /-- 16 bits; 18 R601: ALERT_MASK. Reset 0x003F. -/
  alertMask : Nat
  /-- 8 bits; 18 R607: NOTIFY_CONFIG. Reset 0. -/
  notify : Nat
  /-- 16 bits; 18 R601: THERM_LIMIT. Reset 0x0640. -/
  therm : Nat
  /-- 8 bits; 18 R601: CG_CYCLE_MS. Reset 20. -/
  cycleMs : Nat
  /-- 5 bits; 18 R601: FATAL_INDEX. Reset 0. -/
  fatalIndex : Nat
  /-- 8 bits; 18 R601: POOL_INDEX. Reset 0x01. -/
  poolIndex : Nat
  /-- 1 bit; 18 R603: REJECT. Reset 0. -/
  reject : Bool
  /-- 18 R603, R606: GUARD_ARM is in force until this elapsed ns. Reset none. -/
  armed : Option Nat
  /-- 1 bit; 18 R608: MG_ALERT# is held low. Reset released. -/
  alertLow : Bool
  /-- 18 R608: a Host Notify waits: tries made and elapsed ns of the next. Reset none. -/
  notifying : Option (Nat × Nat)
  /-- 18 R616: elapsed ns of the last NOTIFY_FAILED, and records not written since. Reset none. -/
  report : Option (Nat × Nat)
  /-- 18 R600: the bus logic has its clock. Reset 0, Keep. -/
  clock : Bool
  /-- 18 R600: elapsed ns of the last transfer addressed to the target. Reset 0. -/
  lastXfer : Nat
  /-- 18 R615: lines held low: SDA, SCL. Reset none. -/
  hung : Option (Bool × Bool)
  /-- 18 R610, R612: the last CG_XFER. Reset as CgXfer.reset. -/
  xfer : CgXfer
  /-- 17 buses; 18 R593. Reset as CgBus.reset. -/
  buses : Tab CgBus
  deriving DecidableEq, Repr

/-- The management target after a loss of all supplies (18 R601 to R604). -/
def Mg.reset : Mg :=
  { address := 2, alertStatus := 0, alertMask := 0x3F, notify := 0, therm := 0x640, cycleMs := 20, fatalIndex := 0
    poolIndex := 1, reject := false, armed := none, alertLow := false, notifying := none, report := none, clock := false
    lastXfer := 0, hung := none, xfer := CgXfer.reset, buses := [] }

/-! ### Supplies and clocks (19) -/

/-- A feed (19 R626). -/
structure Feed where
  /-- Declared within its range. -/
  inRange : Bool
  /-- Within 10.8 V to 13.2 V, as the last row about it said. -/
  near : Bool
  /-- Qualified: within 10.8 V to 13.2 V for 10 ms. -/
  qualified : Bool
  deriving DecidableEq, Repr

/-- The supplies and the Ember's reference (19 R626 to R629, R636). -/
structure Supply where
  /-- 19 R626: VMAIN. Reset DESIGN CHOICE in range and qualified: a supply is applied (entry 7). -/
  main : Feed
  /-- 19 R626: VBACK. Reset DESIGN CHOICE absent (entry 7). -/
  back : Feed
  /-- 1 bit; 17 R590, 19 R627: SUPPLY_SEL: 0 VMAIN, 1 VBACK. Reset 0. -/
  sel : Nat
  /-- 15 R536, 19 R626: elapsed ns at which both feeds will have been out of range for 1 µs. Reset none. -/
  collapseAt : Option Nat
  /-- 15 R536: neither feed is in range and the Ember runs from HOLD. Reset 0. -/
  holdOnly : Bool
  /-- 17 R573: a collapse has occurred and no start-up since. Reset 0. -/
  collapsed : Bool
  /-- 19 R636: the 25 MHz reference is present. Reset 1. -/
  emberRef : Bool
  /-- 19 R636: lane chiplets whose LREFCLK is absent. Reset none. -/
  lrefAbsent : List Nat
  deriving DecidableEq, Repr

/-- VMAIN applied. -/
def Supply.reset : Supply :=
  { main := { inRange := true, near := true, qualified := true }, back := { inRange := false, near := false, qualified := false }
    sel := 0, collapseAt := none, holdOnly := false, collapsed := false, emberRef := true, lrefAbsent := [] }

/-! ### Test access port and Diagnose (20) -/

/-- State of the IEEE 1149.1 controller (20 R648). -/
inductive TapState where
  | reset | idle | selectDr | captureDr | shiftDr | exit1Dr | pauseDr | exit2Dr | updateDr
  | selectIr | captureIr | shiftIr | exit1Ir | pauseIr | exit2Ir | updateIr
  deriving DecidableEq, Repr

/-- The test access port (20 R647 to R653). -/
structure TapPort where
  /-- 20 R648: state of the controller. Reset Test-Logic-Reset. -/
  st : TapState
  /-- 8 bits; 20 R649: current instruction. Reset IDCODE. -/
  ir : Nat
  /-- 8 bits; 20 R649: instruction shift register. Reset DESIGN CHOICE 0 (entry 3). -/
  irShift : Nat
  /-- 20 R649: data shift register, the bit that leaves first in front. Reset DESIGN CHOICE empty (entry 3). -/
  drShift : List Bool
  /-- 20 R649, R653: boundary register's update stage. Reset DESIGN CHOICE empty (entry 3). -/
  boundary : List Bool
  /-- 1 bit; 20 R652: REFUSED. Reset 0. -/
  refused : Bool
  /-- 1 bit; 20 R651: a pin-controlling instruction has the pins. Reset 0. -/
  pins : Bool
  /-- 1 bit; 20 R649: phase of the EXTEST_TRAIN toggle. Reset 0. -/
  train : Bool
  /-- 1 bit; 20 R651: PORST# has risen and start-up waits for the pins. Reset 0. -/
  startWaits : Bool
  deriving DecidableEq, Repr

/-- Test-Logic-Reset (20 R648). -/
def TapPort.reset : TapPort :=
  { st := .reset, ir := 1, irShift := 0, drShift := [], boundary := [], refused := false, pins := false, train := false
    startWaits := false }

/-- A DIAG_RUN that runs (20 R654 to R662). -/
structure DiagTest where
  /-- Its argument, by which its end finds it. -/
  id : Nat
  test : Nat
  unit : Nat
  /-- Ring identifier of its command. -/
  ring : Nat
  /-- BUFFER. -/
  buffer : Nat
  /-- Its pieces as (device virtual address, bytes, bus address). -/
  pieces : List (Nat × Nat × Nat)
  rate : Nat
  tStart : Nat
  /-- Elapsed ns at which it ends at the earliest: DURATION of tests 0 to 2. -/
  due : Nat
  /-- DURATION, ms. -/
  duration : Nat
  /-- The pattern is checked. -/
  check : Bool
  /-- PATTERN, GEN, TX_PRESET, DWELL_LOG2 and INJECT_LOG2 as written. -/
  pattern : Nat
  gen : Bool
  preset : Nat
  dwell : Nat
  inject : Nat
  deriving DecidableEq, Repr

/-! ### Stops -/

/-- Faults of a step. The manual gives the block no condition under which the model's machine stops with a fault: every
command it takes has an effect, an answer or no effect. No meaning raises a fault, so the type has no constructor (safe). -/
inductive Fault where
  deriving DecidableEq, Repr

/-- Refusals of a step. -/
inductive Refusal where
  /-- Raised only by an arm of `exec` for a command that has no meaning yet, by its mnemonic. Safe: the run stops. -/
  | notModelled (mnemonic : String)
  deriving DecidableEq, Repr

/-! ### The machine -/

/-- The FV8128. -/
structure State where
  /-- The model's own: commands that wait, first in first out. Reset empty. -/
  pending : List Instr
  /-- The model's own: what the device has sent out, newest first. Reset empty. -/
  out : List Output
  /-- The model's own: 2 ns ticks since the state began, the clock of every elapsed time. Reset 0. -/
  ticks : Nat
  /-- 96 bits; 00 R7, 10 R354: device time in units of 2^-32 ns, DT64 above the fraction. Reset 0 (10 R356, loss of all supplies). -/
  time : Nat
  /-- 32 bits signed; 10 R354: RATE_ADJ in units of 2^-32 ns for each tick. Reset 0. -/
  rateAdj : Int
  /-- The model's own: counter to which the free values of Config are applied. Reset DESIGN CHOICE 0 (entry 5). -/
  fresh : Nat
  /-- 3 bits; 17 R572: the mode. Reset Keep (17 R573). -/
  mode : Mode
  /-- 2 bits; 02 R75, R77: the port that holds the control claim. Reset HP0 (02 R75). -/
  claim : Option Nat
  /-- 2 bits; 03 R116: the port that held the claim last. Reset HP0 (02 R75). -/
  claimLast : Nat
  /-- 17: start-up, resets and modes in change. Reset as StartUp.reset. -/
  start : StartUp
  /-- 32 bits per island; 01 R21: next sequence number of the island's records. Reset DESIGN CHOICE 0 (entry 3). -/
  seq : Tab Nat
  /-- Four ports; 02. Reset as Port.reset. -/
  ports : Tab Port
  /-- 128 lanes; 04. Reset as Lane.reset. -/
  lanes : Tab Lane
  /-- 05 R189: tables of the table area, by an internal number. Reset empty. -/
  tables : Tab Table
  /-- 512 sconces; 05. Reset as Sconce.reset. -/
  sconces : Tab Sconce
  /-- 05 R215: per slice, the instant at which it has processed every line it was given, in 1/7 ns of device time. Reset 0. -/
  sliceBusy : Tab Nat
  /-- 2,048 streams; 03. Reset as Stream.reset. -/
  streams : Tab Stream
  /-- 8 auxiliary movers; 14 R479. Reset as AuxMover.reset. -/
  aux : Tab AuxMover
  /-- 14 R479: transfers that found every queue full, oldest first. Reset empty. -/
  auxWait : List AuxJob
  /-- 10: the time base and its servo. Reset as TimeBase.reset. -/
  tb : TimeBase
  /-- 16 encoder channels; 11. Reset as Encoder.reset. -/
  encoders : Tab Encoder
  /-- 32 sequencers; 12. Reset as Sequencer.reset. -/
  seqs : Tab Sequencer
  /-- 256 trigger targets; 12. Reset as Target.reset. -/
  targets : Tab Target
  /-- 48 GIO lines; 12. Reset as Gio.reset. -/
  gio : Tab Gio
  /-- 14 R484: translation entries, by their address. Reset empty. -/
  map : List MapEntry
  /-- 64 Lanterns; 08. Reset as Lantern.reset. -/
  lanterns : Tab Lantern
  /-- 256 channels; 13. Reset as Channel.reset. -/
  channels : Tab Channel
  /-- 13 R453: events on their way. Reset empty. -/
  flights : List Flight
  /-- 16 groups; 13 R457. Reset as Group.reset. -/
  groups : Tab Group
  /-- 15 R515 to R517, R523: units and policies. Reset as Health.reset. -/
  health : Health
  /-- 15 R515, R537: what the NV store holds of them. Reset as Health.reset. -/
  healthNv : Health
  /-- 15 R515: elapsed ns of the last hourly write. Reset 0. -/
  healthAt : Nat
  /-- 15 R511, R512: planned spare-ins that are pending. Reset empty. -/
  plans : List SparePlan
  /-- 15 R509: spares that take over. Reset empty. -/
  takeOvers : List TakeOver
  /-- 15 R524 to R526: supervisor cores. Reset as Supervisors.reset. -/
  sup : Supervisors
  /-- 15 R527: guards in service. Reset 0 and 1. -/
  guards : List Nat
  /-- 15 R519 to R522: the patrol checker. Reset as Patrol.reset. -/
  patrol : Patrol
  /-- 15 R528 to R530: Dark. Reset as DarkState.reset. -/
  dark : DarkState
  /-- 15 R534: windows of event sources. Reset empty. -/
  windows : List EvWindow
  /-- 32 slots; 15 R535: fatal slots, oldest first. Reset empty. -/
  fatal : List EvRec
  /-- 16: the journal. Reset as Journal.reset. -/
  jn : Journal
  /-- 16: Record mode. Reset as Recorder.reset. -/
  recorder : Recorder
  /-- 16: the replay session. Reset as Session.reset. -/
  session : Session
  /-- 18: management target and buses. Reset as Mg.reset. -/
  mg : Mg
  /-- 19: supplies. Reset as Supply.reset. -/
  supply : Supply
  /-- 20: test access port. Reset as TapPort.reset. -/
  tap : TapPort
  /-- 16 tests; 20 R654, R662: tests that run. Reset empty. -/
  tests : List DiagTest
  deriving DecidableEq, Repr

/-- The machine right after reset. -/
def State.reset : State :=
  { pending := [], out := [], ticks := 0, time := 0, rateAdj := 0, fresh := 0, mode := .keep, claim := some 0, claimLast := 0, start := StartUp.reset, seq := [], ports := []
    lanes := [], tables := [], sconces := [], sliceBusy := [], streams := [], aux := [], auxWait := [], tb := TimeBase.reset, encoders := [], seqs := [], targets := [], gio := [], map := [], lanterns := [], channels := [], flights := [], groups := []
    health := Health.reset, healthNv := Health.reset, healthAt := 0, plans := [], takeOvers := [], sup := Supervisors.reset
    guards := [0, 1], patrol := Patrol.reset, dark := DarkState.reset, windows := [], fatal := [], jn := Journal.reset
    recorder := Recorder.reset, session := Session.reset, mg := Mg.reset, supply := Supply.reset, tap := TapPort.reset, tests := [] }

end Sys2Proof.Machine
end

