-- ==== Sys2Proof/Machine/Ops.lean ====
section
/-!
DEFINITION. The operations that every family shares: the clock, ports and rings, interrupt moderation, event records,
the checks of a command and its completion.
-/

namespace Sys2Proof.Machine

/-! ### Names of codes -/

/-- Code of a mode (17 R572). -/
def Mode.code : Mode → Nat
  | .keep => 0 | .standby => 1 | .configure => 2 | .acquire => 3 | .record => 4 | .replay => 5 | .diagnose => 6
  | .dark => 7

/-- The mode of a code (17 R572). -/
def Mode.ofCode : Nat → Mode
  | 0 => .keep | 1 => .standby | 2 => .configure | 3 => .acquire | 4 => .record | 5 => .replay | 6 => .diagnose
  | _ => .dark

/-- Code of a ring's state (21 R667). -/
def RingState.code : RingState → Nat
  | .outOfService => 0 | .inService => 1 | .faulted => 2

/-- Island of the supervisor complex (01 R20). -/
def islandSup : Nat := 0x001
/-- Island of encoders, Lamplighter and GIO (01 R20). -/
def islandTrig : Nat := 0x002
/-- Island of the network-on-chip and event fabric (01 R20). -/
def islandNoc : Nat := 0x003
/-- Island of a host port (01 R20). -/
def islandPort (p : Nat) : Nat := 0x004 + p
/-- Island of an HBM controller (01 R20). -/
def islandHbm (k : Nat) : Nat := 0x008 + k
/-- Island of a JPEG XS encoder (01 R20). -/
def islandEncoder (k : Nat) : Nat := 0x010 + k
/-- Island of the slice of a sconce (01 R20). -/
def islandSlice (sconce : Nat) : Nat := 0x040 + sconce / 8
/-- Island of a Lantern (01 R20). -/
def islandLantern (n : Nat) : Nat := 0x080 + n
/-- Island of the wick of a lane (01 R20). -/
def islandLane (l : Nat) : Nat := 0x100 + l
/-- Island of the Ember (01 R20). -/
def islandEmber : Nat := 0x000

/-! ### Clock -/

/-- Elapsed time in ns. -/
def State.ns (s : State) : Nat := 2 * s.ticks

/-- Device time DT64 (00 R7). DESIGN CHOICE (entry 83): the replica of every island equals the Ember's time base, where 01 R22
lets it lie up to 2 ns away. -/
def State.dt (s : State) : Nat := s.time / 2 ^ 32 % 2 ^ 64

/-- n ticks of the time base pass: each adds 2^33 + RATE_ADJ units of 2^-32 ns to device time (10 R354). -/
def State.elapse (s : State) (n : Nat) : State :=
  { s with
    ticks := s.ticks + n
    time := (((s.time : Int) + n * ((2 : Int) ^ 33 + s.rateAdj)) % (2 : Int) ^ 96).toNat }

/-- A deadline has been reached. -/
def State.due (s : State) (t : Option Nat) : Bool :=
  match t with
  | none => false
  | some d => d ≤ s.ns

/-- Record something the device sends out. -/
def State.say (s : State) (o : Output) : State := { s with out := o :: s.out }

/-- Take a fresh number for a free value. -/
def State.freshen (s : State) : State := { s with fresh := s.fresh + 1 }

/-! ### Ports, rings and lanes -/

/-- Port p. -/
def State.port (s : State) (p : Nat) : Port := tabGet Port.reset s.ports p

/-- Put port p. -/
def State.setPort (s : State) (p : Nat) (x : Port) : State := { s with ports := tabPut s.ports p x }

/-- Change port p. -/
def State.modPort (s : State) (p : Nat) (f : Port → Port) : State := s.setPort p (f (s.port p))

/-- Ring i of a port. -/
def Port.ring (x : Port) (i : Nat) : Ring := tabGet Ring.reset x.rings i

/-- Put ring i of a port. -/
def Port.setRing (x : Port) (i : Nat) (r : Ring) : Port := { x with rings := tabPut x.rings i r }

/-- Ring i of port p. -/
def State.ring (s : State) (p i : Nat) : Ring := (s.port p).ring i

/-- Put ring i of port p. -/
def State.setRing (s : State) (p i : Nat) (r : Ring) : State := s.modPort p (fun x => x.setRing i r)

/-- Change ring i of port p. -/
def State.modRing (s : State) (p i : Nat) (f : Ring → Ring) : State := s.setRing p i (f (s.ring p i))

/-- Lane l. -/
def State.lane (s : State) (l : Nat) : Lane := tabGet Lane.reset s.lanes l

/-- Put lane l. -/
def State.setLane (s : State) (l : Nat) (x : Lane) : State := { s with lanes := tabPut s.lanes l x }

/-- Change lane l. -/
def State.modLane (s : State) (l : Nat) (f : Lane → Lane) : State := s.setLane l (f (s.lane l))

/-- Lantern n. -/
def State.lantern (s : State) (n : Nat) : Lantern := tabGet Lantern.reset s.lanterns n

/-- Put Lantern n. -/
def State.setLantern (s : State) (n : Nat) (x : Lantern) : State := { s with lanterns := tabPut s.lanterns n x }

/-- Change Lantern n. -/
def State.modLantern (s : State) (n : Nat) (f : Lantern → Lantern) : State := s.setLantern n (f (s.lantern n))

/-- Sconce k. -/
def State.sconce (s : State) (k : Nat) : Sconce := tabGet Sconce.reset s.sconces k

/-- Put sconce k. -/
def State.setSconce (s : State) (k : Nat) (x : Sconce) : State := { s with sconces := tabPut s.sconces k x }

/-- Change sconce k. -/
def State.modSconce (s : State) (k : Nat) (f : Sconce → Sconce) : State := s.setSconce k (f (s.sconce k))

/-- Stream n. -/
def State.stream (s : State) (n : Nat) : Stream := tabGet Stream.reset s.streams n

/-- Put stream n. -/
def State.setStream (s : State) (n : Nat) (x : Stream) : State := { s with streams := tabPut s.streams n x }

/-- Change stream n. -/
def State.modStream (s : State) (n : Nat) (f : Stream → Stream) : State := s.setStream n (f (s.stream n))

/-- The stream is Configured or Running (03 R126). -/
def Stream.holds (x : Stream) : Bool := x.st == .configured || x.st == .running

/-- The ring identifier of ring i of port p (03 R85). -/
def ringId (p i : Nat) : Nat := p * 1024 + i

/-- The ring is in service. -/
def Ring.live (r : Ring) : Bool := r.st == .inService

/-- Entries of a ring (03 R84). -/
def Ring.size (r : Ring) : Nat := 2 ^ r.log2size

/-- The device index D (03 R87). -/
def Ring.dIndex (r : Ring) : Nat := r.d % 65536

/-- Bytes of an entry of a ring of this kind (03 R83). -/
def entrySize (kind : Nat) : Nat := if kind = 1 then 64 else if kind = 4 then 128 else 32

/-- The host fills rings of this kind (03 R83). -/
def hostFilled (kind : Nat) : Bool := kind == 1 || kind == 3 || kind == 7

/-- (a − b) mod 65,536. -/
def idxDiff (a b : Nat) : Nat := (a % 65536 + 65536 - b % 65536) % 65536

/-- OWN of the entry whose place, counted since the ring entered service, is k: 1 at the odd fills of its slot (03 R89). -/
def Ring.own (r : Ring) (k : Nat) : Bool := k / r.size % 2 == 0

/-- Bus address of the entry whose place is k. -/
def Ring.addr (r : Ring) (k : Nat) : Nat := r.base + k % r.size * entrySize r.kind

/-- The host has caught up with a ring the device fills, as the last poll read H (03 R87, 02 R69). -/
def Ring.caughtUp (r : Ring) : Bool := r.h == r.dIndex

/-- The device may write a further entry (03 R88). -/
def Ring.room (r : Ring) : Bool := idxDiff r.d r.h < r.size - 1

/-- The port may write to its host (02 R58, R59, R74). -/
def Port.canWrite (x : Port) : Bool := !x.d3hot && x.bme && !x.silent

/-- The port may fetch commands (02 R55, R58, R59; 15 R525, R529; 17 R583): supervisors and firmware run. -/
def State.canFetch (s : State) (p : Nat) : Bool :=
  let x := s.port p
  x.canWrite && x.ready && s.mode != .dark && s.mode != .keep && !s.sup.live.isEmpty && s.start.fw != .failed

/-! ### Interrupts (02 R66 to R70) -/

/-- Send the message of vector v, or set its pending bit while it is masked (02 R66). -/
def State.sendVector (s : State) (p v : Nat) : State :=
  let x := s.port p
  let e := tabGet MsixEntry.reset x.msixTable v
  if x.fnMask || e.masked then
    s.setPort p { x with pba := if x.pba.contains v then x.pba else v :: x.pba }
  else
    (s.setPort p { x with vecLast := tabPut x.vecLast v s.ns }).say (.msix p v e.addr e.data)

/-- A message on vector v falls due: it is sent at once, or 100 ns after the one before it (02 R70). -/
def State.signalVector (s : State) (p v : Nat) : State :=
  let x := s.port p
  match tabFind x.vecWait v with
  | some _ => s
  | none =>
    match tabFind x.vecLast v with
    | some t => if s.ns < t + 100 then s.setPort p { x with vecWait := tabPut x.vecWait v (t + 100) } else s.sendVector p v
    | none => s.sendVector p v

/-- A ring's moderation fires (02 R66 to R68). What a port may not send is kept, and signalled once when it may (02 R58, R59, R68);
after its ERR_FATAL of Dark it sends nothing (02 R74). -/
def State.fireRing (s : State) (p i : Nat) : State :=
  let x := s.port p
  if x.silent then s
  else if (if x.msixEnable then !x.canWrite else x.intDisable || x.d3hot) then s.modRing p i (fun r => { r with fired := true })
  else if x.msixEnable then s.signalVector p (s.ring p i).vector
  else
    let rs := if x.intaRings.contains i then x.intaRings else i :: x.intaRings
    let s1 := s.setPort p { x with intaRings := rs, intStatus := true }
    if x.intStatus then s1 else s1.say (.intx p true)

/-- Moderation after an entry was written: `caught` says that the host had caught up before it (02 R69). -/
def State.moderate (s : State) (p i : Nat) (caught : Bool) : State :=
  let r := s.ring p i
  if caught || r.holdoff = 0 then (s.setRing p i { r with timer := none, count := 0 }).fireRing p i
  else
    let n := if r.timer.isSome then r.count + 1 else 1
    if r.threshold ≤ n then (s.setRing p i { r with timer := none, count := 0 }).fireRing p i
    else s.setRing p i { r with count := n, timer := some (r.timer.getD (s.ns + r.holdoff * 250)) }

/-- Write one entry to a ring the device fills: every byte but that of OWN, then that byte (03 R90), then moderation. -/
def State.writeEntry (s : State) (p i : Nat) (bytes : List Byte) : State :=
  let r := s.ring p i
  let caught := r.caughtUp
  let own : Byte := if r.own r.d then 0x80 else 0
  let first := (bytes.headD 0) ||| own
  let a := r.addr r.d
  let s1 := (s.say (.hostWrite p (a + 1) bytes.tail)).say (.hostWrite p a [first])
  let s2 := (s1.setRing p i { r with d := r.d + 1 }).modPort p (fun x => { x with lastActive := s.ns })
  s2.moderate p i caught

/-! ### Event records (03 R94, R115, R676) -/

/-- The 32 bytes of an event record with OWN 0 (03 R115). -/
def EvRec.bytes (e : EvRec) : List Byte :=
  leBytes 1 (e.cls % 4) ++ [0] ++ leBytes 2 e.typ ++ leBytes 2 e.island ++ leBytes 2 e.count ++ leBytes 8 e.time ++
    leBytes 4 e.seq ++ leBytes 4 e.subject ++ leBytes 8 e.data

/-- Two records that collapse into one (03 R94). -/
def EvRec.sameKind (a b : EvRec) : Bool := a.typ == b.typ && a.island == b.island && a.subject == b.subject

/-- Collapse a record into the list: COUNT the occurrences, TIME of the first, DATA of the last (03 R94). -/
def collapseInto (e : EvRec) : List EvRec → List EvRec
  | [] => [e]
  | c :: t => if c.sameKind e then { c with count := satAdd 16 c.count e.count, data := e.data } :: t
    else c :: collapseInto e t

/-- Hold a record for a ring that cannot take it: 256 in order, then collapsed; fatal records never collapse (03 R94). -/
def Ring.hold (r : Ring) (e : EvRec) : Ring :=
  if r.held.length < 256 || e.cls = 0 then { r with held := r.held ++ [e] }
  else { r with collapsed := collapseInto e r.collapsed }

/-- Put a made record into ring i of port p: written, held, or lost when the ring is out of service (03 R94, 21 R670).
A record that names the faulted ring 1 itself is never written to it. -/
def State.putRecord (s : State) (p i : Nat) (e : EvRec) : State :=
  let x := s.port p
  let r := x.ring i
  match r.st with
  | .outOfService => s
  | .faulted =>
    if i = 1 && !(e.typ = 0x000A && e.subject = ringId p 1) then s.setRing p i (r.hold e) else s
  | .inService =>
    if r.kind != 2 then s
    else if x.canWrite && r.held.isEmpty && r.collapsed.isEmpty && r.room then s.writeEntry p i e.bytes
    else s.setRing p i (r.hold e)

/-! ### Journal records (16 R545 to R547) -/

/-- The 32 bytes of a journal record with OWN 0 (16 R545). -/
def JRec.bytes (r : JRec) : List Byte :=
  leBytes 1 (r.qual % 128) ++ leBytes 1 r.typ ++ leBytes 2 (r.island % 1024) ++ leBytes 4 r.seq ++ leBytes 8 r.time ++ fitTo 16 r.body

/-- Records that the Ember itself makes, in Keep and in Dark too: SERVO, TIME_STEP, UNIT of a supply, FATAL, GAP and SYNC (16 R552). -/
def emberMakes (qual typ : Nat) : Bool := [0x10, 0x11, 0x61, 0x70, 0x7F].contains typ || (typ = 0x60 && qual = 3)

/-- A record of an island joins the journal (16 R547); in Keep and in Dark only the Ember's own (16 R552). -/
def State.journal (s : State) (qual typ island time : Nat) (body : List Byte) : State :=
  if (s.mode == .keep || s.mode == .dark) && !emberMakes qual typ then s
  else
    let n := tabGet 0 s.jn.seq island
    let r : JRec := { qual := qual, typ := typ, island := island, seq := n, time := time % 2 ^ 64, body := fitTo 16 body }
    { s with jn := { s.jn with seq := tabPut s.jn.seq island ((n + 1) % 2 ^ 32), waiting := s.jn.waiting ++ [r] } }

/-- The SEQ that the next journal record of an island takes. -/
def State.journalSeq (s : State) (island : Nat) : Nat := tabGet 0 s.jn.seq island

/-- A COMMAND_COMMIT record with its four COMMAND_BODY parts (16 R546): ring identifier, slot, the entry and its status. -/
def State.journalCommand (s : State) (rid slot : Nat) (e : Entry) (status : Nat) : State :=
  let t := s.dt
  let bytes := (leBytes 64 e.toNat).set 1 (BitVec.ofNat 8 (fld e 1 1 % 128))
  let body := bytes.take 56 ++ zeros 8
  let s1 := s.journal 0 1 islandSup t (leBytes 2 (rid % 4096) ++ leBytes 2 (slot % 65536) ++ leBytes 1 (fld e 0 1) ++ [0] ++ leBytes 2 status)
  [0, 1, 2, 3].foldl (fun u k => u.journal k 2 islandSup t ((body.drop (16 * k)).take 16)) s1

/-- LANE: an event record of a lane goes into the journal too (16 R546). -/
def State.journalLane (s : State) (time typ island data : Nat) : State :=
  if 0x0101 ≤ typ && typ ≤ 0x010D && 0x100 ≤ island then
    s.journal 0 0x50 island time (leBytes 2 (island - 0x100) ++ leBytes 2 typ ++ zeros 4 ++ leBytes 8 (data % 2 ^ 64))
  else s

/-! ### Event windows (15 R534) -/

/-- Record types with a rate limit of their own, and FABRIC_EVENT, whose COUNT is always 1 (13 R463). -/
def ownLimit (typ : Nat) : Bool :=
  [0x0104, 0x010C, 0x0203, 0x0204, 0x0205, 0x0210, 0x0220, 0x0221, 0x0303, 0x0304, 0x0305, 0x0306, 0x0404, 0x0407, 0x0502,
    0x0505, 0x0603, 0x0604, 0x0605, 0x0606, 0x0607, 0x0608, 0x0609, 0x0701, 0x0702, 0x0802, 0x0908, 0x0A01, 0x0A05, 0x0C01,
    0x0C05].contains typ

/-- The window belongs to this source at this ring. -/
def EvWindow.of (w : EvWindow) (p i typ island subject : Nat) : Bool :=
  w.port == p && w.ring == i && w.typ == typ && w.island == island && w.subject == subject

/-- A record is made: COUNT 1 and the next sequence number of its island (01 R21, 03 R115). -/
def State.makeRecord (s : State) (p i : Nat) (e : EvRec) : State :=
  let n := tabGet 0 s.seq e.island
  ({ s with seq := tabPut s.seq e.island ((n + 1) % 2 ^ 32) }).putRecord p i { e with seq := n }

/-- The window's end: what it collapsed is written as one record (15 R534). -/
def State.closeWindow (s : State) (w : EvWindow) : State :=
  match w.rest with
  | some e => s.makeRecord w.port w.ring e
  | none => s

/-- The window has ended. -/
def State.windowOver (s : State) (w : EvWindow) : Bool := w.opened + 1000000 ≤ s.ns

/-- A record of a limited source: written while its window holds fewer than 8, else collapsed; its first opens a window. -/
def State.windowed (s : State) (p i : Nat) (e : EvRec) : State :=
  let mine := fun (w : EvWindow) => w.of p i e.typ e.island e.subject
  let others := s.windows.filter (fun w => !mine w)
  let fresh : EvWindow := { port := p, ring := i, typ := e.typ, island := e.island, subject := e.subject, opened := s.ns, count := 1, rest := none }
  match s.windows.find? mine with
  | none => ({ s with windows := others ++ [fresh] }).makeRecord p i e
  | some w =>
    if s.windowOver w then (({ s with windows := others ++ [fresh] }).closeWindow w).makeRecord p i e
    else if w.count < 8 then ({ s with windows := others ++ [{ w with count := w.count + 1 }] }).makeRecord p i e
    else
      let r : EvRec := match w.rest with
        | none => e
        | some q => { q with count := satAdd 16 q.count 1, data := e.data }
      { s with windows := others ++ [{ w with rest := some r }] }

/-- Every window whose 1 ms has passed ends (15 R534). -/
def State.closeWindows (s : State) : State :=
  let ended := s.windows.filter s.windowOver
  ended.foldl (fun t w => t.closeWindow w) { s with windows := s.windows.filter (fun w => !s.windowOver w) }

/-- A record with a TIME of its own for ring i of port p (03 R115, 15 R534). -/
def State.recordAt (s : State) (time p i cls typ island subject data : Nat) : State :=
  let e : EvRec := { cls := cls, typ := typ, island := island, count := 1, time := time % 2 ^ 64, seq := 0
                     subject := subject % 2 ^ 32, data := data % 2 ^ 64 }
  let s1 := s.journalLane time typ island data
  if cls = 0 || ownLimit typ then s1.makeRecord p i e else s1.windowed p i e

/-- Make a record stamped with the present device time for ring i of port p. -/
def State.record (s : State) (p i cls typ island subject data : Nat) : State :=
  s.recordAt s.dt p i cls typ island subject data

/-- The port whose ring 1 takes the records of an object: its owner, else the holder of the control claim, else HP0 (03 R676). -/
def State.home (s : State) (owner : Option Nat) : Nat := owner.getD (s.claim.getD 0)

/-- A record about an object of this owner (03 R676). -/
def State.report (s : State) (owner : Option Nat) (cls typ island subject data : Nat) : State :=
  s.record (s.home owner) 1 cls typ island subject data

/-- The four port numbers. -/
def portNumbers : List Nat := [0, 1, 2, 3]

/-- Ports in service: those whose ring 1 is in service or faulted. -/
def State.inService (s : State) (p : Nat) : Bool := (s.ring p 1).st != .outOfService

/-- A record to ring 1 of every port in service that the test picks. -/
def State.reportPorts (s : State) (pick : Nat → Bool) (cls typ island subject data : Nat) : State :=
  (portNumbers.filter pick).foldl (fun t p => t.record p 1 cls typ island subject data) s

/-- Write held records in order while the ring has room. -/
def State.drainList (s : State) (p i : Nat) : List EvRec → State × List EvRec
  | [] => (s, [])
  | e :: t => if (s.ring p i).room then State.drainList (s.writeEntry p i e.bytes) p i t else (s, e :: t)

/-- RING_OVERFLOW records for what was collapsed, one for each TYPE in ascending order (03 R94), with the port island's next
sequence numbers (01 R21). -/
def State.overflowRecords (s : State) (p i : Nat) (cs : List EvRec) : List EvRec :=
  let types := (cs.map (·.typ)).foldl (fun (t : Tab Nat) k => tabPut t k k) []
  types.mapIdx (fun j ty =>
    { cls := 2, typ := 0x000B, island := islandPort p
      count := min 65535 (sumL ((cs.filter (fun c => c.typ == ty.1)).map (·.count)))
      time := s.dt, seq := (tabGet 0 s.seq (islandPort p) + j) % 2 ^ 32, subject := ringId p i, data := ty.1 })

/-- Sequence numbers of an island that n records have taken (01 R21). -/
def State.takeSeq (s : State) (island n : Nat) : State :=
  { s with seq := tabPut s.seq island ((tabGet 0 s.seq island + n) % 2 ^ 32) }

/-- Room has returned to an event ring: the overflow records, the held ones, then the collapsed ones (03 R94). -/
def State.drainRing (s : State) (p i : Nat) : State :=
  let r := s.ring p i
  if r.live && r.kind = 2 && (s.port p).canWrite && r.room && !(r.held.isEmpty && r.collapsed.isEmpty) then
    let over_ := s.overflowRecords p i r.collapsed
    let res := (s.takeSeq (islandPort p) over_.length).drainList p i (over_ ++ r.held ++ r.collapsed)
    res.1.modRing p i (fun q => { q with held := res.2, collapsed := [] })
  else s

/-! ### Status codes (03 R106) -/

/-- A status code with its DETAIL (03 R106). -/
structure Status where
  code : Nat
  detail : Nat
  deriving DecidableEq, Repr

/-- SUCCESS. -/
def Status.success : Status := ⟨0, 0⟩
/-- RESERVED_NONZERO at an offset. -/
def Status.reserved (off : Nat) : Status := ⟨2, off⟩
/-- BAD_ENCODING at an offset. -/
def Status.encoding (off : Nat) : Status := ⟨3, off⟩
/-- BAD_RANGE at an offset. -/
def Status.range (off : Nat) : Status := ⟨4, off⟩
/-- BAD_RING: the ring identifier and the offset of the field that names it. -/
def Status.badRing (rid off : Nat) : Status := ⟨5, rid % 4096 + off * 4096⟩
/-- BUSY: the stream or ring that holds the object. -/
def Status.busy (who : Nat) : Status := ⟨7, who⟩
/-- NOT_OWNER: the owner's code. -/
def Status.notOwner (who : Nat) : Status := ⟨8, who⟩
/-- LEDGER_REFUSED: resource code and unit (03 R108). -/
def Status.ledger (res unit : Nat) : Status := ⟨0xA, res * 2 ^ 24 + unit⟩
/-- BAD_IMAGE at an offset of the image; DETAIL [31] is 1. -/
def Status.image (off : Nat) : Status := ⟨0xB, 2 ^ 31 + off⟩
/-- TARGET_RANGE at an offset. -/
def Status.target (off : Nat) : Status := ⟨0xD, off⟩
/-- NOT_FOUND at an offset. -/
def Status.notFound (off : Nat) : Status := ⟨0x12, off⟩

/-- BAD_STATE: the object's state in [7:0], the mode in [15:8] (03 R106). -/
def State.badState (s : State) (st : Nat) : Status := ⟨6, st + 256 * s.mode.code⟩

/-! ### Checks of a command (03 R112) -/

/-- One test of a layout: offset at fault, 0 for a reserved field and 1 for a reserved encoding, and whether it fails. -/
abbrev Chk := Nat × Nat × Bool

/-- A reserved bit field: bits [lo+k-1:lo] of the n bytes at off. -/
def rsv {w : Nat} (e : BitVec w) (off n lo k : Nat) : Chk := (off, 0, bitsAt e off n lo k != 0)

/-- A field that is reserved under the condition c (00 R674). -/
def rsvIf {w : Nat} (c : Bool) (e : BitVec w) (off n : Nat) : Chk := (off, 0, c && fld e off n != 0)

/-- A reserved encoding. -/
def enc (off : Nat) (bad : Bool) : Chk := (off, 1, bad)

/-- Operand bytes outside the listed (offset, length) fields are reserved. DESIGN CHOICE (entry 9): such bytes carry no field
name, and the fault is named at the first of them that is not zero. -/
def restRsv (e : Entry) (fields : List (Nat × Nat)) : List Chk :=
  ((List.range 0x30).map (· + 8)).filterMap (fun o =>
    if fields.any (fun f => f.1 ≤ o && o < f.1 + f.2) then none else some (o, 0, fld e o 1 != 0))

/-- The named fields of a command that its operation does not use are reserved, each at its own offset (00 R674). -/
def namedRsv (e : Entry) (named used : List (Nat × Nat)) : List Chk :=
  (named.filter (fun f => !used.any (fun u => u.1 ≤ f.1 && f.1 + f.2 ≤ u.1 + u.2))).map (fun f => rsvIf true e f.1 f.2)

/-- The OP, KIND or TEST of a command that has one, in byte 0x08, holds a reserved encoding: the width of the field and its
defined values (15 R518, R538; 14 R482, R487; 10 R379; 11 R415; 12 R429; 13 R465; 16 R553, R562, R570; 20 R654). -/
def reservedOp (e : Entry) : Bool :=
  let bad (width defined : Nat) : Bool := defined ≤ bitsAt e 8 1 0 width
  match fld e 0 1 with
  | 0x07 => bad 4 9
  | 0x15 => bad 3 5
  | 0x16 => bad 2 3
  | 0x38 => bad 3 4
  | 0x39 => bad 3 5
  | 0x3C => bad 3 4
  | 0x40 => bad 3 4
  | 0x49 => bad 3 4
  | 0x4B => bad 3 5
  | 0x4C => bad 3 5
  | 0x4D => bad 3 5
  | 0x4E => bad 4 9
  | _ => false

/-- The reserved fields every command has (03 R101, R102), and the encoding of its operation. -/
def headerChecks (e : Entry) : List Chk :=
  [rsv e 1 1 1 6, rsv e 2 2 0 16, rsv e 0x38 8 0 64, enc 8 (reservedOp e)]

/-- The first failing test: lowest offset, a reserved field before a reserved encoding (00 R12, 03 R112). -/
def firstChk (l : List Chk) : Option Chk :=
  (l.filter (·.2.2)).foldl (fun best c =>
    match best with
    | none => some c
    | some b => if c.1 < b.1 || (c.1 == b.1 && c.2.1 < b.2.1) then some c else some b) none

/-- Status of a layout in a command. -/
def layoutStatus (l : List Chk) : Option Status :=
  (firstChk l).map (fun c => if c.2.1 = 0 then Status.reserved c.1 else Status.encoding c.1)

/-- Status of the range tests: the lowest offset at fault. -/
def rangeStatus (l : List (Nat × Bool)) : Option Status :=
  match (l.filter (·.2)).map (·.1) with
  | [] => none
  | o :: t => some (Status.range (minD o (o :: t)))

/-- The commands each mode allows (17 R578), by opcode. -/
def modeAllows (op : Nat) (m : Mode) : Bool :=
  let always := [0x01, 0x02, 0x03, 0x04, 0x05, 0x06, 0x07, 0x48, 0x38, 0x49, 0x4A, 0x4B, 0x39, 0x3E]
  let setup := [0x16, 0x20, 0x21, 0x22, 0x23, 0x28, 0x29, 0x2A, 0x10, 0x14, 0x15, 0x4C, 0x40, 0x41]
  let loads := [0x3A, 0x3B]
  let runs := [0x11, 0x12, 0x13]
  let lanes := [0x30, 0x31, 0x32]
  let arms := [0x3C, 0x3D]
  match m with
  | .keep | .dark => false
  | .standby => always.contains op
  | .configure => (always ++ setup ++ loads ++ lanes).contains op
  | .acquire | .record => (always ++ setup ++ loads ++ lanes ++ runs ++ arms).contains op
  | .replay => (always ++ setup ++ loads ++ runs ++ [0x4D]).contains op
  | .diagnose => (always ++ loads ++ lanes ++ arms ++ [0x4E]).contains op

/-- Device-wide commands, marked D in 03 R109. -/
def deviceWide (op : Nat) : Bool := [0x06, 0x38, 0x48, 0x49, 0x4A, 0x4B, 0x4D, 0x4E].contains op

/-- The checks of a command in the order of 03 R112. The opcode and the tests of bytes 0x00 to 0x07 and 0x38 to 0x3F are
added by `Checks.first`, as are the control claim and the mode. -/
structure Checks where
  layout : List Chk
  ranges : List (Nat × Bool) := []
  rings : Option Status := none
  owner : Option Status := none
  handles : Option Status := none
  state : Option Status := none
  ledger : Option Status := none
  image : Option Status := none

/-- NOT_CONTROLLER for a device-wide command of a port without the claim (02 R76). DESIGN CHOICE (entry 84): DETAIL is 0 while
no port holds the claim, where 03 R106 gives no value. -/
def State.claimStatus (s : State) (p : Nat) : Option Status :=
  if s.claim = some p then none else some ⟨9, s.claim.getD 0⟩

/-- BAD_STATE 0x8F for a command that the mode does not allow (03 R110, 17 R578); REPLAY_CONTROL has 0x74 of its own (16 R570). -/
def State.modeStatus (s : State) (op : Nat) : Option Status :=
  if modeAllows op s.mode then none else some (s.badState (if op = 0x4D then 0x74 else 0x8F))

/-- The first failing status of a command (03 R112). -/
def Checks.first (k : Checks) (s : State) (p op : Nat) (e : Entry) : Option Status :=
  firstSome [layoutStatus (headerChecks e ++ k.layout), rangeStatus k.ranges, k.rings, k.owner,
    if deviceWide op then s.claimStatus p else none, k.handles, s.modeStatus op, k.state, k.ledger, k.image]

/-! ### Completion (03 R103, R105, R111) -/

/-- What the commit of a command gives: a completion, or a wait with a number kept for its end. -/
inductive Done where
  | status (st : Status)
  | waits (arg : Nat)
  deriving DecidableEq, Repr

/-- SUCCESS at once. -/
def Done.ok : Done := .status .success

/-- Bytes 0x38 to 0x3F of a completed command as one number (03 R101). -/
def statusWord (st : Status) : Nat := st.code % 2 ^ 16 + st.detail % 2 ^ 32 * 2 ^ 16 + 0x80 * 2 ^ 56

/-- Write the status of the command at place k of a command ring, and its COMMAND_DONE record (03 R103). A ring out of
service gets nothing (02 R57, 21 R669); a port that may not write holds it (02 R58, R59); in Dark nothing completes (17 R579). -/
def State.finish (s : State) (p i k : Nat) (e : Entry) (st : Status) : State :=
  let x := s.port p
  let r := x.ring i
  if !r.live || s.mode == .dark then s
  else if !x.canWrite then
    s.setRing p i { r with heldDone := r.heldDone ++ [⟨k, e, st.code, st.detail⟩] }
  else
    let a := r.addr k
    let s1 := (s.say (.hostWrite p (a + 0x38) (leBytes 7 (statusWord st)))).say (.hostWrite p (a + 0x3F) [0x80])
    let s2 := s1.modPort p (fun y => { y with lastActive := s.ns })
    if bitAt e 1 0 then s2.record p r.eventRing 3 0x0001 islandSup (fld e 4 4) (statusWord st) else s2

/-- The entry at D of a command ring is fetched with this content (03 R91, R105): the ring is in service, H differs from D,
OWN has the value of R89, and no command of the ring waits. -/
def State.fetchable (s : State) (c : RingCmd) : Bool :=
  let r := s.ring c.ring.port c.ring.idx
  s.canFetch c.ring.port && r.live && r.kind == 1 && r.h != r.dIndex && r.waiting.isNone && bitAt c.e 1 7 == r.own r.d

/-- The entry has been fetched: D moves past it. -/
def State.fetched (s : State) (c : RingCmd) : State :=
  (s.modRing c.ring.port c.ring.idx (fun r => { r with d := r.d + 1 })).modPort c.ring.port
    (fun x => { x with lastActive := s.ns })

/-- The commit's answer written out: a completion, or the ring's command waits. -/
def State.settle (s : State) (c : RingCmd) (k : Nat) (d : Done) : State :=
  match d with
  | .status st => s.finish c.ring.port c.ring.idx k c.e st
  | .waits arg =>
    s.modRing c.ring.port c.ring.idx (fun r =>
      { r with waiting := some { index := k, entry := c.e, since := s.ns, stamp := s.dt, arg := arg } })

/-- Commands whose effect is committed when their image or list has been read: MAP_LOAD, TABLE_LOAD, KERNEL_LOAD, SEQ_LOAD
(03 R111). The others are committed, and journaled, when they are accepted. -/
def loadOp (op : Nat) : Bool := op = 0x16 || op = 0x21 || op = 0x28 || op = 0x3A

/-- SEQ of the COMMAND_COMMIT record of the command that is taking effect (16 R546): its record and four parts came last. -/
def State.commitSeq (s : State) : Nat := (s.journalSeq islandSup + 2 ^ 32 - 5) % 2 ^ 32

/-- A command that has been fetched, as the transfer of its image or list names it (14 R479). -/
def State.loadCmd (s : State) (c : RingCmd) : LoadCmd :=
  let r := s.ring c.p c.i
  { ring := ringId c.p c.i, arg := s.fresh, slot := (r.d - 1) % r.size, entry := c.e, gone := false }

/-- The commit of a load that has waited is journaled with its status (16 R546). -/
def State.journalLoad (s : State) (c : LoadCmd) (st : Status) : State := s.journalCommand c.ring c.slot c.entry st.code

/-- One ring command: fetched, checked, committed and answered (03 R91, R103, R111, R112). An entry that the ring does not
offer is not fetched, and nothing happens. -/
def State.command (s : State) (c : RingCmd) (op : Nat) (chk : State → Checks) (eff : State → State × Done) :
    Host.Outcome State Fault Refusal :=
  if s.fetchable c then
    let k := (s.ring c.ring.port c.ring.idx).d
    let s1 := s.fetched c
    let log := fun (st : Nat) => s1.journalCommand (ringId c.ring.port c.ring.idx) (k % (s1.ring c.ring.port c.ring.idx).size) c.e st
    match (chk s1).first s1 c.ring.port op c.e with
    | some st => .next ((log st.code).settle c k (.status st))
    | none =>
      let r := eff (if loadOp op then s1 else log 0)
      .next (r.1.settle c k r.2)
  else .next s

/-- The command of ring identifier rid that waits with this number completes (03 R111). One that waits no more is left alone. -/
def State.finishWaiting (s : State) (rid arg : Nat) (st : Status) : State :=
  let p := rid / 1024
  let i := rid % 1024
  match (s.ring p i).waiting with
  | none => s
  | some w =>
    if w.arg = arg then (s.modRing p i (fun r => { r with waiting := none })).finish p i w.index w.entry st else s

/-- Write bytes at a bus address of port p's host. -/
def State.hostPut (s : State) (p addr : Nat) (data : List Byte) : State := s.say (.hostWrite p addr data)

/-- A field that names a ring of the issuing port by its 12-bit identifier: in service and of the kind, else BAD_RING (03 R85). -/
def State.ownRing (s : State) (p rid kind off : Nat) : Option Status :=
  let r := s.ring (rid / 1024) (rid % 1024)
  if rid / 1024 = p && r.live && r.kind = kind then none else some (Status.badRing rid off)

/-- NOT_OWNER when another port owns the object (03 R107). -/
def ownerStatus (owner : Option Nat) (p : Nat) : Option Status :=
  match owner with
  | none => none
  | some o => if o = p then none else some (Status.notOwner o)

end Sys2Proof.Machine
end

