-- ==== Sys2Proof/Machine/FabricOps.lean ====
section
/-!
DEFINITION. Emission of events and the group switches (13_event_fabric). Stamps count 1/256 ns of device time.
-/

namespace Sys2Proof.Machine

/-- Device time in 1/256 ns. -/
def State.dt256 (s : State) : Nat := s.time / 2 ^ 24 % 2 ^ 72

/-- An instant in 1/256 ns lies in the present tick or before it. Device time and the instant are compared by their signed difference,
which a wrap of DT64 leaves right (10 R360, R361). -/
def State.reached (s : State) (i : Nat) : Bool := 0 ≤ toInt 72 (s.dt256 + 511 + 2 ^ 72 - i % 2 ^ 72)

/-- Channel n. -/
def State.channel (s : State) (n : Nat) : Channel :=
  tabGet (if 248 ≤ n then { Channel.reset with owner := 4 } else Channel.reset) s.channels n

/-- Put channel n. -/
def State.setChannel (s : State) (n : Nat) (x : Channel) : State := { s with channels := tabPut s.channels n x }

/-- Group g. -/
def State.group (s : State) (g : Nat) : Group := tabGet Group.reset s.groups g

/-- Put group g. -/
def State.setGroup (s : State) (g : Nat) (x : Group) : State := { s with groups := tabPut s.groups g x }

/-- Slot k of a channel: below 8 of its binding, from 8 of an earlier one. -/
def Channel.slot (x : Channel) (k : Nat) : Slot := tabGet Slot.reset (if k < 8 then x.slots else x.past) k

/-- Put slot k of a channel. -/
def Channel.putSlot (x : Channel) (k : Nat) (y : Slot) : Channel :=
  if k < 8 then { x with slots := tabPut x.slots k y } else { x with past := tabPut x.past k y }

/-- Put slot k of channel n. -/
def State.setSlot (s : State) (n k : Nat) (y : Slot) : State := s.setChannel n ((s.channel n).putSlot k y)

/-- The consumer term C in 1/256 ns (13 R452). -/
def consumerTerm (kind : Nat) : Nat := 256 * [0, 250, 60, 40, 100, 10].getD kind 0

/-- One switch of a group. -/
def switchOn (on : Bool) (op : Nat) : Bool := if op = 0 then true else if op = 1 then false else !on

/-- Put a switch into its place by instant, after those of the same instant. -/
def placeSwitch (x : Nat × Nat) : List (Nat × Nat) → List (Nat × Nat)
  | [] => [x]
  | y :: t => if x.1 < y.1 then x :: y :: t else y :: placeSwitch x t

/-- The state of group g at an instant: every switch up to it counts, those on their way included (13 R458). -/
def State.groupAt (s : State) (g i : Nat) : Bool :=
  let coming := (s.flights.filter (fun f => f.kind = 5 && f.index = g)).map (fun f => (f.arrive, f.arg))
  let all := coming.foldl (fun l x => placeSwitch x l) (s.group g).switches
  (all.filter (fun x => x.1 ≤ i)).foldl (fun on x => switchOn on x.2) (s.group g).on

/-- A group is switched at an instant. Switches 100 µs old are folded into the state. -/
def State.switchGroup (s : State) (g i op : Nat) : State :=
  let x := s.group g
  let all := placeSwitch (i, op) x.switches
  let old := all.filter (fun y => y.1 + 25600000 ≤ s.dt256)
  s.setGroup g { x with on := old.foldl (fun on y => switchOn on y.2) x.on
                        switches := all.filter (fun y => !(y.1 + 25600000 ≤ s.dt256)) }

/-- FABRIC: what became of the event of channel n with this stamp at slot k (16 R546): 0 delivered, 1 made pending, 2 lost,
3 gated. -/
def State.journalFabric (s : State) (n k kind stamp outcome : Nat) : State :=
  s.journal (k % 8) 0x41 islandNoc (stamp / 256) (leBytes 1 n ++ leBytes 1 kind ++ leBytes 1 outcome)

/-- A gated event at the Lantern, sequencer and group slots of its channel (13 R471). -/
def State.gatedRecords (s : State) (n stamp : Nat) : State :=
  ((s.channel n).slots.filter (fun k => k.2.kind = 2 || k.2.kind = 3 || k.2.kind = 5)).foldl (fun t k => t.journalFabric n k.1 k.2.kind stamp 3) s

/-- Channel n emits an event with this stamp; p is the producer term (13 R447, R450, R453, R457). -/
def State.emitOn (s : State) (n stamp p : Nat) : State :=
  let x := s.channel n
  let close : Bool := match x.last with | some l => stamp < l + 2560 | none => false
  if close then s.setChannel n { x with overrun := satAdd 32 x.overrun 1 }
  else
    let y := { x with last := some stamp, events := satAdd 32 x.events 1 }
    if x.group != 0 && !s.groupAt (x.group - 1) stamp then s.setChannel n { y with gated := satAdd 32 x.gated 1 } |>.gatedRecords n stamp
    else
      let go := (x.slots.filter (fun k => k.2.kind != 0)).map (fun k =>
        { ch := n, slot := k.1, prodKind := x.prodKind, prodIndex := x.prodIndex, kind := k.2.kind, index := k.2.index, arg := k.2.arg, stamp := stamp
          arrive := stamp + p + consumerTerm k.2.kind : Flight })
      { s.setChannel n y with flights := s.flights ++ go }

/-- A producer's happening: every channel it feeds emits (13 R448, R451). In Keep and Dark nothing is produced (13 R471). -/
def State.emit (s : State) (kind index : Nat) (arg : Nat → Bool) (stamp p : Nat) : State :=
  if s.mode == .dark || s.mode == .keep then s
  else
    (tabKeys s.channels (fun x => x.prodKind = kind && x.prodIndex = index && x.owner != 7 && arg x.prodArg)).foldl
      (fun t n => t.emitOn n stamp p) s

/-- A producer with ARG 0. -/
def State.emit0 (s : State) (kind index stamp p : Nat) : State := s.emit kind index (fun _ => true) stamp p

end Sys2Proof.Machine
end

