-- ==== Sys2Proof/Machine/MapOps.lean ====
section
/-!
DEFINITION. Translation of device virtual addresses (14 R484, R485) and the auxiliary movers (14 R479 to R483).
-/

namespace Sys2Proof.Machine

/-! ### Translation -/

/-- The entry that covers a device virtual address. -/
def mapEntry (m : List MapEntry) (va : Nat) : Option MapEntry :=
  m.find? (fun e => e.va ≤ va && va < e.va + 2 ^ e.log2)

/-- The pieces of [va, e) with their bus addresses, page by page, or the first failing status (14 R485). n bounds the pages. -/
def mapWalk (m : List MapEntry) (port off : Nat) : Nat → Nat → Nat → List (Nat × Nat × Nat) → Option Status × List (Nat × Nat × Nat)
  | 0, _, _, acc => (none, acc.reverse)
  | n + 1, va, e, acc =>
    if e ≤ va then (none, acc.reverse)
    else match mapEntry m va with
      | none => (some (Status.notFound off), [])
      | some x =>
        if x.port != port then (some (Status.notOwner x.port), [])
        else
          let stop := min e (x.va + 2 ^ x.log2)
          mapWalk m port off n stop e ((va, stop - va, x.bus + (va - x.va)) :: acc)

/-- Translate n bytes at va for a transfer through this port: the status, and the pieces as (address, bytes, bus address). -/
def State.translate (s : State) (port va n off : Nat) : Option Status × List (Nat × Nat × Nat) :=
  mapWalk s.map port off (s.map.length + 1) va (va + n) []

/-- The status of an address field of a command (14 R485). -/
def State.addrStatus (s : State) (port va n off : Nat) : Option Status := (s.translate port va n off).1

/-- Bytes at va, cut into the pieces of their pages. -/
def splitParts (va : Nat) (data : List Byte) (pieces : List (Nat × Nat × Nat)) : List (Nat × List Byte) :=
  pieces.map (fun p => (p.2.2, (data.drop (p.1 - va)).take p.2.1))

/-- Write bytes at device virtual addresses already translated. -/
def State.hostPutParts (s : State) (port : Nat) (parts : List (Nat × List Byte)) : State :=
  parts.foldl (fun t p => t.hostPut port p.1 p.2) s

/-! ### Auxiliary movers -/

/-- Auxiliary mover n. -/
def State.auxMover (s : State) (n : Nat) : AuxMover := tabGet AuxMover.reset s.aux n

/-- Put auxiliary mover n. -/
def State.setAux (s : State) (n : Nat) (x : AuxMover) : State := { s with aux := tabPut s.aux n x }

/-- The mover whose queue holds the fewest transfers, the lowest number in a tie, if it has room (14 R479). -/
def State.auxPick (s : State) : Option Nat :=
  let best := (List.range 8).foldl (fun (b : Nat × Nat) n =>
    let k := (s.auxMover n).queue.length
    if k < b.2 then (n, k) else b) (0, 64)
  if best.2 < 64 then some best.1 else none

/-- A new transfer joins a queue, or waits (14 R479). -/
def State.auxAdd (s : State) (j : AuxJob) : State :=
  match s.auxPick with
  | some n => s.setAux n { s.auxMover n with queue := (s.auxMover n).queue ++ [j] }
  | none => { s with auxWait := s.auxWait ++ [j] }

/-- A place has come free: the oldest waiting transfer takes it. -/
def State.auxPull (s : State) : State :=
  match s.auxWait with
  | [] => s
  | j :: t => if s.auxPick.isSome then ({ s with auxWait := t }).auxAdd j else s

/-- An auxiliary-mover record; these go to the holder of the control claim (14 R506, 03 R676). -/
def State.auxRecord (s : State) (n cls typ : Nat) : State := s.report none cls typ islandNoc (2 ^ 31 + n) 0

/-- The mover may carry its first transfer (14 R482, R483). -/
def AuxMover.runs (x : AuxMover) : Bool := !x.stopped && !x.queue.isEmpty && (x.pace != 1 || 0 < x.paceLeft)

/-- The MOVER consumer of auxiliary mover n is no longer busy is told by CONSUMER_FREE; the step is used up here.
The first transfer has ended: its CRC, its AUX_DONE event, and an orderly stop that waited for it (14 R481, R483). -/
def State.auxEnd (s : State) (n : Nat) (moved : List Byte) : State :=
  let x := s.auxMover n
  let y := { x with queue := x.queue.tail, crc := crc32c moved
                    paceLeft := if x.pace = 1 then x.paceLeft - 1 else x.paceLeft
                    stopped := x.stopped || x.draining, draining := false }
  let s1 := (s.setAux n y).emit0 0xC n (s.dt * 256) 25600
  (if x.draining then s1.auxRecord n 3 0x0804 else s1).auxPull

/-- A command whose block of bytes an auxiliary mover writes at va through the issuing port (14 R479): it waits for that. -/
def State.queueBlock (s : State) (c : RingCmd) (va : Nat) (data : List Byte) : State × Done :=
  let parts := splitParts va data (s.translate c.p va data.length 0).2
  ((s.freshen).auxAdd (.block (ringId c.p c.i) s.fresh c.p parts), .waits s.fresh)

/-- The checks of a buffer field of a status operation: 45 bits, a multiple of m, translated for n bytes. -/
def bufferChk (e : Entry) (off : Nat) : Chk := rsv e off 8 45 19

/-- The buffer's address. -/
def bufferVa (e : Entry) (off : Nat) : Nat := bitsAt e off 8 0 45

end Sys2Proof.Machine
end

