-- ==== Sys2Proof/Machine/CapOps.lean ====
section
/-!
DEFINITION. Captures of Record mode: items, blocks, their placing in the record area and on record rings, gaps, and what each
producer of raw input hands to them (16 R556 to R560, R563).
-/

namespace Sys2Proof.Machine

/-- The capture of sconce k. -/
def State.capture (s : State) (k : Nat) : Option Capture := tabFind s.recorder.caps k

/-- Put the capture of sconce k. -/
def State.setCapture (s : State) (k : Nat) (c : Capture) : State :=
  { s with recorder := { s.recorder with caps := tabPut s.recorder.caps k c } }

/-- Encoder channels that a capture of sconce k takes: ENC_A and ENC_B of its streams, and CHUNK_ENC (16 R556). -/
def State.captureChannels (s : State) (k : Nat) : List Nat :=
  let named := (s.streams.filter (fun x => x.2.st != .free && x.2.sconce == k)).flatMap (fun x => [x.2.encA, x.2.encB].reduceOption)
  let g := tabGet (zeros 32) (s.sconce k).par 1
  let all := if lbits g 6 1 2 2 = 2 then lbits g 0xE 1 0 4 :: named else named
  (List.range 16).filter (fun e => all.contains e)

/-! ### Items and blocks (16 R558, R559) -/

/-- The buffer of a capture: 64 MiB. -/
def captureBuffer : Nat := 2 ^ 26

/-- Bytes of a block at most: the host slot, or 2^24 without one. -/
def Capture.slotBytes (c : Capture) : Nat := if c.toHost then 2 ^ c.slotLog2 else 2 ^ 24

/-- Bytes of items. -/
def itemBytes (l : List CapItem) : Nat := sumL (l.map (fun i => i.bytes.length))

/-- Bytes a capture holds in its buffer: loose items and blocks that wait. -/
def Capture.held (c : Capture) : Nat := itemBytes c.buf + sumL (c.queue.map (fun b => b.bytes.length))

/-- The loose items become a block. -/
def Capture.closeBlock (c : Capture) (k : Nat) : Capture :=
  match c.buf with
  | [] => c
  | _ => { c with buf := [], queue := c.queue ++ [{ kind := 1, sconce := k, content := c.buf, gapFrames := 0 }] }

/-- An item with its header (16 R558). -/
def capItemBytes (k seq item dt vc part len time : Nat) (body : List Byte) : List Byte :=
  leBytes 1 item ++ leBytes 1 dt ++ leBytes 1 vc ++ leBytes 1 part ++ leBytes 4 len ++ leBytes 8 time ++ leBytes 2 k ++ zeros 2 ++
    leBytes 4 seq ++ leBytes 4 (crc32c body) ++ zeros 4 ++ fitTo (alignUp 32 body.length) body

/-- A capture takes an item; one that does not fit its block any more begins the next (16 R559). -/
def Capture.add (c : Capture) (k item dt vc part len time : Nat) (body : List Byte) : Capture :=
  let b := capItemBytes k c.seq item dt vc part len time body
  let c1 := if c.slotBytes < itemBytes c.buf + b.length then c.closeBlock k else c
  { c1 with buf := c1.buf ++ [{ time := time, seq := c.seq, bytes := b }], seq := (c.seq + 1) % 2 ^ 32, items := c.items + 1 }

/-- An entry of an ENCODER item: OFFSET or a count, and KIND. -/
def encEntry (q : Nat × Nat) : List Byte := leBytes 4 q.1 ++ leBytes 1 q.2 ++ zeros 3

/-- The open ENCODER item of a channel ends. -/
def Capture.closeEnc (c : Capture) (k ch : Nat) : Capture :=
  match tabFind c.enc ch with
  | none => c
  | some q =>
    let body := (q.2.map encEntry).flatten
    { c.add k 4 0 ch 0 body.length q.1 body with enc := tabDel c.enc ch }

/-- Every open ENCODER item ends. -/
def Capture.closeEncs (c : Capture) (k : Nat) : Capture := (c.enc.map (·.1)).foldl (fun d ch => d.closeEnc k ch) c

/-- An entry of channel ch at a stamp in 1/256 ns: items hold up to 4,096 entries of at most 1 ms (16 R558). -/
def Capture.addEnc (c : Capture) (k ch stamp kind : Nat) (count : Option Nat) : Capture :=
  let more := match count with | some v => [(v, 7)] | none => []
  let fits : Bool := match tabFind c.enc ch with
    | some q => q.2.length + 1 + more.length ≤ 4096 && stamp ≤ 256 * (q.1 + 1000000) && 256 * q.1 ≤ stamp
    | none => false
  let c1 := if fits then c else c.closeEnc k ch
  let q := (tabFind c1.enc ch).getD (stamp / 256, [])
  { c1 with enc := tabPut c1.enc ch (q.1, q.2 ++ ((stamp - 256 * q.1) / 64, kind) :: more) }

/-! ### Where blocks go (16 R559, R563) -/

/-- Bytes the record area holds. -/
def State.areaHeld (s : State) : Nat := sumL (s.recorder.blocks.map (fun b => b.bytes.length))

/-- Bytes the record area has for blocks: each capture's buffer lies within it. -/
def State.areaRoom (s : State) : Nat := s.recorder.areaGiB * 2 ^ 30 - captureBuffer * s.recorder.caps.length

/-- The oldest blocks are overwritten until n bytes fit. -/
def dropBlocks (room n : Nat) : List CapBlock → List CapBlock
  | [] => []
  | b :: t => if room < n + sumL ((b :: t).map (fun q => q.bytes.length)) then dropBlocks room n t else b :: t

/-- The record area can take a block. -/
def State.areaTakes (s : State) (b : CapBlock) : Bool :=
  if s.recorder.fullStop then s.areaHeld + b.bytes.length ≤ s.areaRoom else b.bytes.length ≤ s.areaRoom

/-- The record area takes a block. -/
def State.areaPut (s : State) (b : CapBlock) : State :=
  { s with recorder := { s.recorder with blocks := dropBlocks s.areaRoom b.bytes.length s.recorder.blocks ++ [b] } }

/-- The address of the next slot of a host record area. -/
def State.slotVa (s : State) (p i area slotLog2 : Nat) : Nat :=
  let r := s.ring p i
  area + r.d % r.size * 2 ^ slotLog2

/-- A record ring can take a block: room for its entry, and pages for its bytes. -/
def State.ringTakesBlock (s : State) (p i area slotLog2 : Nat) (b : CapBlock) : Bool :=
  let r := s.ring p i
  r.live && r.kind == 6 && r.room && (s.port p).canWrite &&
    (s.addrStatus p (s.slotVa p i area slotLog2) b.bytes.length 0).isNone

/-- A block goes to a record ring: its bytes to the slot, then its entry (16 R559). -/
def State.blockOut (s : State) (p i area slotLog2 : Nat) (b : CapBlock) : State :=
  let va := s.slotVa p i area slotLog2
  let s1 := s.hostPutParts p (splitParts va b.bytes (s.translate p va b.bytes.length 0).2)
  s1.writeEntry p i (([0] : List Byte) ++ leBytes 1 b.kind ++ leBytes 2 b.sconce ++ leBytes 4 b.bytes.length ++ leBytes 8 b.firstTime ++
    leBytes 4 b.firstSeq ++ leBytes 4 b.items ++ leBytes 4 (crc32c b.bytes) ++ leBytes 4 b.gapFrames)

/-- One block of capture k leaves its buffer when each of its targets takes it. -/
def State.placeBlock (s : State) (k : Nat) (c : Capture) (b : CapBlock) : Option State :=
  if (c.toHbm && !s.areaTakes b) || (c.toHost && !s.ringTakesBlock c.port (c.ring % 1024) c.area c.slotLog2 b) then none
  else
    let s1 := s.setCapture k { c with queue := c.queue.tail }
    let s2 := if c.toHbm then s1.areaPut b else s1
    some (if c.toHost then s2.blockOut c.port (c.ring % 1024) c.area c.slotLog2 b else s2)

/-- Blocks of capture k in order, as far as its targets take them; n bounds them. -/
def State.placeBlocks (s : State) (k : Nat) : Nat → State
  | 0 => s
  | n + 1 =>
    match s.capture k with
    | none => s
    | some c => match c.queue with
      | [] => s
      | b :: _ => match s.placeBlock k c b with
        | none => s
        | some t => t.placeBlocks k n

/-- The blocks of capture k move on; a capture that has ended goes with its last block (16 R563). -/
def State.captureFlush (s : State) (k : Nat) : State :=
  match s.capture k with
  | none => s
  | some c =>
    let s1 := s.placeBlocks k c.queue.length
    match s1.capture k with
    | none => s1
    | some d =>
      if d.st = 2 && d.queue.isEmpty then
        let s2 : State := { s1 with recorder := { s1.recorder with caps := tabDel s1.recorder.caps k } }
        d.stopCmds.foldl (fun t q => t.finishWaiting q.1 q.2 .success) s2
      else s1

/-- Blocks of an export, as far as its ring takes them. -/
def State.exportBlocks (s : State) (x : Export) : Nat → State × Export
  | 0 => (s, x)
  | n + 1 =>
    match x.blocks with
    | [] => (s, x)
    | b :: t =>
      if s.ringTakesBlock (x.cmdRing / 1024) (x.ring % 1024) x.area x.slotLog2 b then
        State.exportBlocks (s.blockOut (x.cmdRing / 1024) (x.ring % 1024) x.area x.slotLog2 b) { x with blocks := t } n
      else (s, x)

/-- Every capture and export that waits for a record ring moves on. -/
def State.recorderFlush (s : State) : State :=
  let s1 := (s.recorder.caps.map (·.1)).foldl State.captureFlush s
  s1.recorder.exports.foldl (fun t x =>
    let r := t.exportBlocks x x.blocks.length
    { r.1 with recorder := { r.1.recorder with exports := r.1.recorder.exports.map (fun y => if y == x then r.2 else y) } }) s1

/-! ### Falling behind (16 R560) -/

/-- CAPTURE_STATE: to ring 1 of the port that issued the capture (16 R571). -/
def State.captureState (s : State) (k port code frame : Nat) : State :=
  s.record port 1 (if code = 3 then 2 else 3) 0x0A03 (islandSlice k) k (code + frame % 2 ^ 56 * 256)

/-- The items from an instant on leave a capture's buffer, those of its waiting blocks too. -/
def Capture.discardFrom (c : Capture) (b : Nat) : Capture :=
  let keep (l : List CapItem) : List CapItem := l.filter (fun i => i.time < b)
  { c with
    buf := keep c.buf
    queue := (c.queue.map (fun q => { q with content := keep q.content })).filter (fun q => q.kind != 1 || !q.content.isEmpty) }

/-- A capture whose buffer is full falls behind: the items of the frame in progress go (16 R560). -/
def State.captureCheck (s : State) (k : Nat) : State :=
  match s.capture k with
  | none => s
  | some c =>
    if c.st = 1 && captureBuffer < c.held then
      let f := (s.sconce k).frames.find? (fun f => !f.closed)
      let d := match f with | some g => c.discardFrom g.b | none => c
      let n := match f with | some g => g.number | none => (s.sconce k).next
      (s.setCapture k { d with st := 3, whole := false, lostFrames := b2n f.isSome, enc := [] }).captureState k c.port 3 n
    else s

/-- Capture k takes an item while it runs. -/
def State.captureItem (s : State) (k item dt vc part len time : Nat) (body : List Byte) : State :=
  match s.capture k with
  | none => s
  | some c =>
    if c.st = 1 then ((s.setCapture k (c.add k item dt vc part len time body)).captureFlush k).captureCheck k else s

/-- Raw input of encoder channel ch, for every capture that takes it: KIND, and the count of a serial reading (16 R558). -/
def State.captureEncoder (s : State) (ch stamp kind : Nat) (count : Option Nat) : State :=
  ((s.recorder.caps.filter (fun c => c.2.st = 1)).map (·.1)).foldl (fun t k =>
    match t.capture k with
    | some c => if (t.captureChannels k).contains ch then ((t.setCapture k (c.addEnc k ch stamp kind count)).captureFlush k).captureCheck k else t
    | none => t) s

end Sys2Proof.Machine
end

