-- ==== Sys2Proof/Machine/EncOps.lean ====
section
/-!
DEFINITION. Encoder channels: counting, the observer, positions, jumps and the pulse divider (11_position_feedback).
-/

namespace Sys2Proof.Machine

/-- Channel e. -/
def State.enc (s : State) (e : Nat) : Encoder := tabGet Encoder.reset s.encoders e

/-- Put channel e. -/
def State.setEnc (s : State) (e : Nat) (x : Encoder) : State := { s with encoders := tabPut s.encoders e x }

/-- GIO line g. -/
def State.gioLine (s : State) (g : Nat) : Gio := tabGet Gio.reset s.gio g

/-- Put GIO line g. -/
def State.setGio (s : State) (g : Nat) (x : Gio) : State := { s with gio := tabPut s.gio g x }

/-- Drive a GIO line to a level from an instant on. -/
def State.drive (s : State) (g i : Nat) (level : Bool) : State :=
  if s.dark.safe then s else (s.setGio g { s.gioLine g with driven := level }).say (.gio g i level)

/-- Code of an observer state (11 R401). -/
def ObsState.code : ObsState → Nat
  | .off => 0 | .acquiring => 1 | .locked => 2 | .lost => 3

/-- The mode counts pin edges (11 R385). -/
def EncCfg.incremental (c : EncCfg) : Bool := 1 ≤ c.mode && c.mode ≤ 6

/-- The mode is serial. -/
def EncCfg.serial (c : EncCfg) : Bool := c.mode = 7 || c.mode = 8

/-- A record of a channel with a stamp in 1/256 ns (11 R418). -/
def State.encRecord (s : State) (e i cls typ hi data : Nat) : State :=
  s.recordAt (i / 256) (s.home (s.enc e).owner) 1 cls typ islandTrig (e + hi * 2 ^ 8) data

/-- Add to a counter of a channel; codes 0x01 to 0x06 and 0x09 are reported at most once in 100 ms (11 R416, R418). -/
def State.encCount (s : State) (e code n : Nat) : State :=
  if n = 0 then s
  else
    let x := s.enc e
    let v := satAdd 32 (tabGet 0 x.counters code) n
    let old := tabFind x.reports code
    let base := match old with | some r => r.1 | none => 0
    let free : Bool := match old with | some r => r.2 + 100000000 ≤ s.ns | none => true
    let s1 := s.setEnc e { x with counters := tabPut x.counters code v }
    if free && (code ≤ 6 || code = 9) then
      let s2 := s1.setEnc e { s1.enc e with reports := tabPut x.reports code (v, s.ns) }
      let up := (v - base) % 2 ^ 32 * 2 ^ 32
      if code = 9 then s2.encRecord e s.dt256 2 0x0505 0 up else s2.encRecord e s.dt256 2 0x0502 0 (code + up)
    else s1

/-! ### Counts and positions (11 R395, R403) -/

/-- Signed difference of two 32-bit counts. -/
def diff32 (a b : Nat) : Int := toInt 32 (a + 2 ^ 32 - b % 2 ^ 32)

/-- Signed difference of two 56-bit positions. -/
def diff56 (a b : Nat) : Int := toInt 56 (a + 2 ^ 56 - b % 2 ^ 56)

/-- Raw count at a stamp (11 R403). -/
def Encoder.rawAt (x : Encoder) (i : Nat) : Nat :=
  match x.edges.find? (fun e => e.stamp ≤ i) with
  | some e => e.count
  | none => x.base

/-- Keep the edges of the last 4,096 µs. -/
def Encoder.prune (x : Encoder) (now : Nat) : Encoder :=
  let keep := x.edges.filter (fun e => now < e.stamp + 1048576000)
  { x with edges := keep
           base := match (x.edges.filter (fun e => !(now < e.stamp + 1048576000))).head? with | some e => e.count | none => x.base
           points := x.points.filter (fun p => now < p.stamp + 1048832000) }

/-- The count changes to c at a stamp, by an edge or reading that marks position m. -/
def Encoder.push (x : Encoder) (i c m : Nat) : Encoder :=
  { x with count := c, edges := ⟨i, c, m, false⟩ :: x.edges }

/-- The observer's present values hold from a stamp on. -/
def Encoder.note (x : Encoder) (i : Nat) : Encoder := { x with points := ⟨i, x.st, x.p, x.v, x.tk⟩ :: x.points }

/-- P + V × (t − tk) for t in 1/256 ns and tk in ns, rounded towards minus infinity (11 R400). -/
def extrapolate (p : Nat) (v : Int) (tk i : Nat) : Nat :=
  ofInt 56 ((p : Int) + v * ((i : Int) - 256 * tk) / 65536)

/-- The position at a stamp: none while the channel was Off or had no reading (11 R403, R404). -/
def Encoder.posAt (x : Encoder) (ch i : Nat) : Option Pos :=
  let measured := x.cfg.incremental || x.edges.any (fun e => e.stamp ≤ i && !e.jump) || x.readings.any (fun r => r.1 ≤ i)
  if x.cfg.mode = 0 || i < x.since || !measured then none
  else
    let c := x.rawAt i
    match x.points.find? (fun p => p.stamp ≤ i) with
    | none => some ⟨ch, c, 0, false⟩
    | some p =>
      if p.st == .locked then
        let raw := extrapolate p.p p.v p.tk i
        let y := if x.cfg.incremental then ofInt 56 ((c : Int) * 2 ^ 24 + clampInt 0 (255 * 65536) (diff56 raw (c * 2 ^ 24))) else raw
        some ⟨ch, y / 2 ^ 24 % 2 ^ 32, y / 2 ^ 16 % 256, false⟩
      else some ⟨ch, c, 0, p.st == .acquiring || p.st == .lost⟩

/-- The positions of every channel that has one at a stamp. -/
def State.allPos (s : State) (i : Nat) : List Pos := s.encoders.filterMap (fun e => e.2.posAt e.1 i)

/-! ### The observer (11 R399 to R402) -/

/-- K1 of OBS_BW (11 R399). -/
def gain1 (bw : Nat) : Nat := (2 * (14142135623730951 * 6283185307179586 * bw * 2 ^ 24) + 10 ^ 37) / (2 * 10 ^ 37)

/-- K2 of OBS_BW (11 R399). -/
def gain2 (bw : Nat) : Nat := (2 * ((6283185307179586 * bw) ^ 2 * 2 ^ 24) + 10 ^ 42) / (2 * 10 ^ 42)

/-- V from the measurements (11 R402): over the last 4 µs, a jump being no count (R398), or between the last two good readings. -/
def Encoder.reseedV (x : Encoder) (i : Nat) : Int :=
  if x.cfg.serial then
    match x.readings with
    | a :: b :: _ => if b.1 < a.1 then diff32 a.2.2 b.2.2 * 2 ^ 40 / ((a.1 : Int) - b.1) else 0
    | _ => 0
  else if i < x.since + 1024000 then 0
  else
    let jumps := (x.edges.filter (fun e => e.jump && i - 1024000 < e.stamp && e.stamp ≤ i)).foldl (fun n e => n + e.mark) 0
    diff32 (x.rawAt i) (x.rawAt (i - 1024000) + jumps) * 2 ^ 32 / 4000

/-- P from the last measurement (11 R402). -/
def Encoder.reseedP (x : Encoder) : Nat :=
  match x.edges.find? (fun e => !e.jump) with
  | some e => e.mark % 2 ^ 32 * 2 ^ 24
  | none => x.count * 2 ^ 24

/-- A speed in the range of V (11 R399). -/
def clampV (v : Int) : Int := clampInt (-(2 : Int) ^ 31) ((2 : Int) ^ 31 - 1) v

/-- P, V and the raw count at an instant, as OBSERVER and OBSERVER_EVENT hold them, with a byte between P and V (16 R546). -/
def Encoder.journalBody (x : Encoder) (i extra : Nat) : List Byte :=
  leBytes 7 x.p ++ leBytes 1 extra ++ leBytes 4 (ofInt 32 x.v) ++ leBytes 4 (x.rawAt i)

/-- OBSERVER at whole multiples of 10,000 ns of device time (11 R406, 16 R546). -/
def State.journalObserver (s : State) (e tu : Nat) : State :=
  let x := s.enc e
  if tu % 10000 = 0 then s.journal (e + 16 * x.st.code) 0x20 islandTrig tu (x.journalBody (256 * tu) 0) else s

/-- OBSERVER_EVENT (16 R546). -/
def State.journalObsEvent (s : State) (e i cause : Nat) : State :=
  let x := s.enc e
  s.journal (e + 16 * x.st.code) 0x21 islandTrig (i / 256) (x.journalBody i cause)

/-- The state of an observer changes, or it reseeds: record and event (11 R401, R418, 13 R451). -/
def State.obsChange (s : State) (e i cause : Nat) (old : ObsState) (resid : Int) : State :=
  let x := s.enc e
  let s0 := s.journalObsEvent e i cause
  let s1 := if x.st == .lost && old != .lost then s0.encCount e 7 1 else s0
  let s2 := s1.encRecord e i (if x.st == .locked then 3 else 2) 0x0501 0
    (x.st.code + old.code * 4 + cause * 16 + ofInt 32 (clampInt (-(2 : Int) ^ 31) ((2 : Int) ^ 31 - 1) (resid / 65536)) * 2 ^ 32)
  s2.emit 4 e (fun arg => arg = 0 || (arg = 1 && x.st == .locked && old != .locked) ||
    (arg = 2 && old == .locked && x.st != .locked)) i 512000

/-- The observer goes to LOST and reseeds (11 R401). -/
def State.forceLost (s : State) (e i cause : Nat) : State :=
  let x := s.enc e
  if x.st == .off then s
  else
    let y := { x with st := .lost, p := x.reseedP, v := clampV (x.reseedV i), clean := 0, bad := 0 }
    (s.setEnc e (y.note i)).obsChange e i cause x.st 0

/-- The residual of the update at tu, or none in a serial update without a reading (11 R400). -/
def Encoder.residual (x : Encoder) (tu : Nat) : Option Int :=
  let hit := x.edges.find? (fun e => !e.jump && e.stamp ≤ 256 * tu && 256 * x.tk < e.stamp)
  match hit with
  | some e => some (diff56 (e.mark * 2 ^ 24) (extrapolate x.p x.v x.tk e.stamp))
  | none =>
    if x.cfg.serial then none
    else
      let d := diff56 (extrapolate x.p x.v x.tk (256 * tu)) (x.rawAt (256 * tu) * 2 ^ 24)
      some (if d < 0 then -d else if 2 ^ 24 < d then 2 ^ 24 - d else 0)

/-- The update at tu (11 R400, R401), without its journal record. -/
def State.obsStep (s : State) (e tu : Nat) : State :=
  let x := s.enc e
  let pp := extrapolate x.p x.v x.tk (256 * tu)
  let res := x.residual tu
  let r := res.getD 0
  let y := { x with p := ofInt 56 ((pp : Int) + x.k1 * r / 2 ^ 24), v := clampV (x.v + x.k2 * r / 65536 / 1000), tk := tu }
  let i := 256 * tu
  match res with
  | none => s.setEnc e (y.note i)
  | some _ =>
    let ok := r.natAbs ≤ x.cfg.trackLimit * 65536
    let locked := x.st == .locked
    if ok then
      let c := x.clean + 1
      if !locked && 64 ≤ c then
        (s.setEnc e (({ y with st := .locked, clean := 0, bad := 0 }).note i)).obsChange e i 5 x.st r
      else s.setEnc e (({ y with clean := c, bad := 0 }).note i)
    else if x.cfg.lossCount ≤ x.bad + 1 then
      let z := { y with st := if locked then .lost else x.st, p := x.reseedP, v := clampV (x.reseedV i), clean := 0, bad := 0 }
      (s.setEnc e (z.note i)).obsChange e i (if locked then 1 else 6) x.st r
    else s.setEnc e (({ y with clean := 0, bad := x.bad + 1 }).note i)

/-- The update at tu, with its journal record (11 R406). -/
def State.obsUpdate (s : State) (e tu : Nat) : State := (s.obsStep e tu).journalObserver e tu

/-! ### The pulse divider (11 R410, R411) -/

/-- Add k waiting output counts of a direction; opposite ones cancel. The second part is the counts discarded. -/
def Divider.put (d : Divider) (fwd : Bool) (k i : Nat) : Divider × Nat :=
  if d.queue.isEmpty || d.fwd == fwd then
    let room := 65535 - d.queue.length
    ({ d with queue := d.queue ++ List.replicate (min k room) i, fwd := fwd }, k - room)
  else
    let n := d.queue.length
    if k ≤ n then ({ d with queue := d.queue.take (n - k) }, 0)
    else ({ d with queue := List.replicate (min (k - n) 65535) i, fwd := fwd }, k - n - 65535)

/-- k counts of one direction reach the channel's divider (11 R410). -/
def State.divide (s : State) (e i k : Nat) (forward : Bool) : State :=
  let x := s.enc e
  match x.div with
  | none => s
  | some d =>
    let n := d.n * k
    let out := if forward then ((d.acc + n) / d.m, (d.acc + n) % d.m)
      else if n ≤ d.acc then (0, d.acc - n)
      else (cdiv (n - d.acc) d.m, d.acc + cdiv (n - d.acc) d.m * d.m - n)
    let q := ({ d with acc := out.2 }).put forward out.1 (i + 10240)
    (s.setEnc e { x with div := some q.1 }).encCount e 9 q.2

/-- Levels of GIO_A and GIO_B at a place of the Gray sequence 00, 01, 11, 10 of (B, A) (11 R388). -/
def grayLevels (k : Nat) : Bool × Bool := (k % 4 = 1 || k % 4 = 2, 2 ≤ k % 4)

/-- A waiting output count is placed on the lines (11 R411). -/
def State.divideOut (s : State) (e : Nat) : State :=
  let x := s.enc e
  match x.div with
  | none => s
  | some d =>
    match d.queue with
    | [] => s
    | w :: rest =>
      let at_ := max w d.next
      if s.reached at_ then
        let k := if d.fwd == !d.reverse then (d.phase + 1) % 4 else (d.phase + 3) % 4
        let lv := grayLevels k
        let s1 := s.setEnc e { x with div := some { d with queue := rest, next := at_ + 64 * d.minEdge, phase := k } }
        let s2 := if (s1.gioLine d.gioA).driven == lv.1 then s1 else s1.drive d.gioA at_ lv.1
        if (s2.gioLine d.gioB).driven == lv.2 then s2 else s2.drive d.gioB at_ lv.2
      else s

/-! ### Serial frames (11 R392 to R394) -/

/-- One bit of the CRC of BiSS-C: polynomial x^6 + x + 1. -/
def crc6Bit (c : Nat) (b : Bool) : Nat :=
  let top := (c / 32 % 2 = 1) != b
  if top then ((c * 2) % 64) ^^^ 3 else (c * 2) % 64

/-- Bits of a number, most significant first. -/
def msbBits (n v : Nat) : List Bool := (List.range n).reverse.map (fun k => nbit v k)

/-- CRC-6 over the data bits, nE and nW (11 R393). -/
def crc6 (l : List Bool) : Nat := l.foldl crc6Bit 0

/-- Gray code to binary. -/
def grayDecode (w g : Nat) : Nat := (List.range w).foldl (fun a k => a ^^^ (g >>> k)) 0 % 2 ^ w

/-- The check word of a reading holds (11 R392 to R394). -/
def readingOk (c : EncCfg) (r : SerialReading) : Bool :=
  let bits := msbBits c.frameBits r.frame
  if c.mode = 8 then crc6 (bits ++ [r.nE, r.nW]) = (63 - r.check % 64)
  else !c.parityEn || ((bits.filter id).length + r.check % 2 + b2n c.parityOdd) % 2 = 0

/-- The position field of a reading (11 R392). -/
def readingPos (c : EncCfg) (r : SerialReading) : Nat :=
  let f := nbits r.frame c.posShift c.posBits
  if c.gray then grayDecode c.posBits f else f

end Sys2Proof.Machine
end

