-- ==== Sys2Proof/Machine/VlpCoding.lean ====
section
/-!
DEFINITION. The Valnus Lane Protocol on the wire: words, 257-bit blocks, the scrambler, Reed-Solomon codewords, alignment blocks,
64b/66b blocks and line symbols (04 R129, R131 to R136). Bits stand in the order in which the wire carries them.
-/

namespace Sys2Proof.Machine

/-! ### Words and bits (04 R133, R135) -/

/-- The bits of a byte on the wire: bit 0 first (04 R133). -/
def byteWire (b : Byte) : List Bool := lowBits 8 b.toNat

/-- The bits of bytes on the wire: byte 0 first (04 R133). -/
def bytesWire (l : List Byte) : List Bool := l.flatMap byteWire

/-- A list cut into pieces of n, at most so many. -/
def pieces {α : Type} (n : Nat) : Nat → List α → List (List α)
  | 0, _ => []
  | k + 1, l => if l.isEmpty then [] else l.take n :: pieces n k (l.drop n)

/-- Bytes as the wire's bits give them (04 R133). -/
def wireBytes (l : List Bool) : List Byte := (pieces 8 l.length l).map (fun p => BitVec.ofNat 8 (bitsVal p))

/-- An idle word: eight bytes of 0x07 (04 R135). -/
def idleWord : List Byte := List.replicate 8 7

/-- The words of a packet, which begins at a word boundary and fills its last word (04 R135, R142). -/
def packetWords (packet : List Byte) : List (List Byte) := (pieces 8 packet.length packet).map (fitTo 8)

/-- The n words that a sender puts next on the wire, and those that wait: what carries no packet is idle (04 R135). -/
def nextWords (n : Nat) (waiting : List (List Byte)) : List (List Byte) × List (List Byte) :=
  (waiting.take n ++ List.replicate (n - waiting.length) idleWord, waiting.drop n)

/-! ### The scrambler 1 + x^39 + x^58 (04 R131, R132) -/

/-- The last 58 bits that the scrambler put out, the latest as bit 0. -/
abbrev Scrambler := BitVec 58

/-- The scrambler after a bit on the wire. -/
def Scrambler.push (r : Scrambler) (b : Bool) : Scrambler := BitVec.ofNat 58 (2 * r.toNat + b2n b)

/-- What is added to the next bit: the bits 39 and 58 before it. -/
def Scrambler.mask (r : Scrambler) : Bool := (nbit r.toNat 38) ^^ (nbit r.toNat 57)

/-- Scramble bits, serially. -/
def scramble : Scrambler → List Bool → Scrambler × List Bool
  | r, [] => (r, [])
  | r, b :: t =>
    let o := b ^^ r.mask
    let q := scramble (r.push o) t
    (q.1, o :: q.2)

/-- Descramble bits: self-synchronising, from the bits received. -/
def descramble : Scrambler → List Bool → Scrambler × List Bool
  | r, [] => (r, [])
  | r, o :: t =>
    let q := descramble (r.push o) t
    (q.1, (o ^^ r.mask) :: q.2)

/-! ### RS(544,514) over GF(2^10) (04 R131). PRESUMED as IEEE 802.3 Clause 91 gives it (entry 92): field polynomial x^10 + x^3 + 1,
generator with the roots α^0 to α^29, ten bits a symbol, the first of them the least significant, message before parity. -/

/-- A product by x in GF(2^10). -/
def gfDouble (a : Nat) : Nat := if a < 512 then 2 * a else (2 * a - 1024) ^^^ 9

/-- A product in GF(2^10). -/
def gfMul (a b : Nat) : Nat :=
  ((List.range 10).foldl (fun (q : Nat × Nat) i => (if nbit b i then q.1 ^^^ q.2 else q.1, gfDouble q.2)) (0, a)).1

/-- α^n. -/
def gfPow (n : Nat) : Nat := Nat.repeat gfDouble n 1

/-- The generator polynomial, the coefficient of x^29 first; that of x^30 is 1. -/
def rsGenerator : List Nat :=
  ((List.range 30).foldl (fun (g : List Nat) j =>
    let a := gfPow j
    List.zipWith (· ^^^ ·) (g ++ [0]) (0 :: g.map (gfMul a))) [1]).tail

/-- The 30 parity symbols of a message of symbols: the remainder of its division by the generator, the highest power first. -/
def rsParity (message : List Nat) : List Nat :=
  message.foldl (fun (r : List Nat) m =>
    let f := m ^^^ r.headD 0
    List.zipWith (fun a g => a ^^^ gfMul f g) (r.tail ++ [0]) rsGenerator) (List.replicate 30 0)

/-- Ten-bit symbols of bits. -/
def rsSymbols (l : List Bool) : List Nat := (pieces 10 l.length l).map bitsVal

/-- The codeword of a message of 5,140 bits: 5,440 bits. -/
def rsCodeword (message : List Bool) : List Bool := message ++ (rsParity (rsSymbols message)).flatMap (lowBits 10)

/-- A word of 544 symbols is a codeword. -/
def rsValid (symbols : List Nat) : Bool := rsParity (symbols.take 514) == symbols.drop 514

/-- Symbols in which two words differ. -/
def rsDistance (a b : List Nat) : Nat := ((List.zip a b).filter (fun q => q.1 != q.2)).length

/-- The receiver corrects a received word to a codeword: at most 15 symbols differ. Each of them counts in FEC_CORRECTED, and a word
that nothing corrects counts in FEC_UNCORRECTABLE (04 R146). -/
def rsCorrects (received codeword : List Nat) : Bool := rsValid codeword && decide (rsDistance received codeword ≤ 15)

/-! ### Blocks (04 R131, R132, R134) -/

/-- The marker of an alignment block. -/
def alignMarker : List Byte := [0x6B, 0x2F, 0xC4, 0x19, 0x94, 0xD0, 0x3B, 0xE6]

/-- The 32 bytes of an alignment block (04 R134). -/
def alignBytes (direction rate : Nat) : List Byte :=
  alignMarker ++ alignMarker ++ leBytes 1 direction ++ leBytes 1 rate ++ zeros 14

/-- DIRECTION of a downlink (04 R134). -/
def directionDown : Nat := 0x55

/-- DIRECTION of an uplink (04 R134). -/
def directionUp : Nat := 0xAA

/-- An alignment block: header bit 0, and not scrambled. -/
def alignBlock (direction rate : Nat) : List Bool := false :: bytesWire (alignBytes direction rate)

/-- A data block of four words: header bit 1, and the scrambled words. -/
def dataBlock (r : Scrambler) (words : List (List Byte)) : Scrambler × List Bool :=
  let q := scramble r (bytesWire words.flatten)
  (q.1, true :: q.2)

/-- A 64b/66b data block: sync header 0b01, its 0 first, and the scrambled word (04 R132). -/
def syncBlock (r : Scrambler) (word : List Byte) : Scrambler × List Bool :=
  let q := scramble r (bytesWire word)
  (q.1, false :: true :: q.2)

/-- Where a sender stands: its scrambler, and the codewords since it last sent an alignment block. -/
structure LineCoder where
  scr : Scrambler
  index : Nat
  deriving DecidableEq, Repr

/-- Data blocks of the next codeword: 19 beside an alignment block, else 20 (04 R134). -/
def LineCoder.blocks (c : LineCoder) : Nat := if c.index % 1024 = 0 then 19 else 20

/-- So many data blocks of words. -/
def dataBlocks : Nat → Scrambler → List (List Byte) → Scrambler × List Bool
  | 0, r, _ => (r, [])
  | n + 1, r, words =>
    let b := dataBlock r (words.take 4)
    let q := dataBlocks n b.1 (words.drop 4)
    (q.1, b.2 ++ q.2)

/-- The next codeword of a direction at rate codes 0 to 2: its bits, the coder after it, and the words that still wait (04 R131,
R134, R135). -/
def LineCoder.codeword (c : LineCoder) (direction rate : Nat) (waiting : List (List Byte)) :
    LineCoder × List Bool × List (List Byte) :=
  let w := nextWords (4 * c.blocks) waiting
  let q := dataBlocks c.blocks c.scr w.1
  let head := if c.index % 1024 = 0 then alignBlock direction rate else []
  (⟨q.1, (c.index + 1) % 1024⟩, rsCodeword (head ++ q.2), w.2)

/-- The next word of a direction at rate code 3: the bits of its block, the coder after it, and the words that still wait. -/
def LineCoder.word (c : LineCoder) (waiting : List (List Byte)) : LineCoder × List Bool × List (List Byte) :=
  let w := nextWords 1 waiting
  let q := syncBlock c.scr (w.1.headD idleWord)
  (⟨q.1, c.index⟩, q.2, w.2)

/-! ### Symbols on the line (04 R129, R131) -/

/-- The PAM4 level of two bits, the first one sent first: Gray coding without precoding, PRESUMED as Clause 120 gives it (entry
92). -/
def grayLevel (a b : Bool) : Nat := if a then (if b then 2 else 3) else b2n b

/-- PAM4 levels of bits. -/
def pam4 : List Bool → List Nat
  | a :: b :: t => grayLevel a b :: pam4 t
  | _ => []

/-- Levels that a line of a rate code carries: PAM4 at codes 0 and 1, NRZ at codes 2 and 3 (04 R129). -/
def lineLevels (rate : Nat) (bits : List Bool) : List Nat := if rate ≤ 1 then pam4 bits else bits.map b2n

/-- How long bytes take on the wire in 1/256 ns, at the net rates of 1,792/17, 896/17, 448/17 and 10 Gbit/s (04 R129). -/
def wireTime (rate bytes : Nat) : Nat :=
  match rate with
  | 0 => cdiv (bytes * 8 * 256 * 17) 1792
  | 1 => cdiv (bytes * 8 * 256 * 17) 896
  | 2 => cdiv (bytes * 8 * 256 * 17) 448
  | _ => cdiv (bytes * 8 * 256) 10

/-! ### The receiver (04 R131, R132, R134, R138) -/

/-- The 257-bit blocks of a corrected codeword. -/
def messageBlocks (codeword : List Bool) : List (List Bool) := pieces 257 20 (codeword.take 5140)

/-- DIRECTION of an alignment block, or none for another block. -/
def blockDirection (block : List Bool) : Option Nat :=
  let b := wireBytes block.tail
  if block.headD true = false && b.take 16 == alignMarker ++ alignMarker then some (lfld b 16 1) else none

/-- The words of a codeword's data blocks, and the descrambler after them. An alignment block does not pass through it. -/
def receiveBlocks : Scrambler → List (List Bool) → Scrambler × List (List Byte)
  | r, [] => (r, [])
  | r, b :: t =>
    if b.headD false then
      let d := descramble r b.tail
      let q := receiveBlocks d.1 t
      (q.1, (pieces 8 4 (wireBytes d.2)) ++ q.2)
    else receiveBlocks r t

/-- ALIGN_FOUND at rate codes 0 to 2: two alignment blocks one period apart, as the codewords received show them (04 R137). -/
def alignFound (codewords : List (List Bool)) : Option Nat :=
  let dir (c : List Bool) : Option Nat := blockDirection ((messageBlocks c).headD [])
  ((List.range (codewords.length - 1024)).filterMap (fun i =>
    match codewords[i]?, codewords[i + 1024]? with
    | some a, some b => if (dir a).isSome then dir b else none
    | _, _ => none)).head?

/-- Cause 2 of a drop at rate codes 0 to 2: the last three alignment blocks are missing. The list says, the latest first, which of
those due were found (04 R138). -/
def alignLost (found : List Bool) : Bool := decide (3 ≤ found.length) && (found.take 3).all (!·)

/-- Cause 3 of a drop: 16 or more of the last 1,024 codewords are uncorrectable; the latest stands first (04 R138). -/
def fecLost (uncorrectable : List Bool) : Bool := decide (16 ≤ ((uncorrectable.take 1024).filter id).length)

end Sys2Proof.Machine
end

