-- ==== Sys2Proof/Machine/LaneOps.lean ====
section
/-!
DEFINITION. Operations of the camera lanes: states, packets, the downlink, control requests, time sync and triggers
(04_camera_lanes).
-/

namespace Sys2Proof.Machine

/-! ### Codes, owners and records -/

/-- Code of a lane state (04 R137, 20 R655). -/
def LaneState.code : LaneState → Nat
  | .off => 0 | .waitSignal => 1 | .adapt => 2 | .align => 3 | .hello => 4 | .up => 5 | .retrain => 6 | .mismatch => 7
  | .nearLoop => 8 | .farLoop => 9 | .pattern => 10 | .eyeScan => 11

/-- Code of a lane mode (04 R179). -/
def LaneMode.code : LaneMode → Nat
  | .off => 0 | .vlp => 1 | .merged => 2 | .ethernet => 3

/-- The lane mode of a code (04 R179). -/
def LaneMode.ofCode : Nat → LaneMode
  | 0 => .off | 1 => .vlp | 2 => .merged | _ => .ethernet

/-- The lane runs the Valnus Lane Protocol (04 R129). -/
def Lane.vlp (x : Lane) : Bool := x.mode == .vlp || x.mode == .merged

/-- A lane event record; hi goes to SUBJECT [31:16] (04 R182). -/
def State.laneRecord (s : State) (l cls typ sensor hi data : Nat) : State :=
  s.report (s.lane l).owner cls typ (islandLane l) (l + sensor % 256 * 2 ^ 8 + hi % 2 ^ 16 * 2 ^ 16) data

/-- Add to a lane counter; a rise of counters 0x02 to 0x08 writes LANE_ERRORS at most once in 100 ms. A saturated counter does not
rise (04 R146). -/
def State.laneCount (s : State) (l code n : Nat) : State :=
  if n = 0 then s
  else
    let x := s.lane l
    let v := satAdd 32 (tabGet 0 x.counters code) n
    let s1 := s.setLane l { x with counters := tabPut x.counters code v }
    let old := tabFind x.reports code
    let base := match old with | some r => r.1 | none => 0
    let free := match old with | some r => r.2 + 100000000 ≤ s.ns | none => true
    if 2 ≤ code && code ≤ 8 && free && tabGet 0 x.counters code < v then
      (s1.modLane l (fun y => { y with reports := tabPut y.reports code (v, s.ns) })).laneRecord l 2 0x0104 0 0
        (code + (v - base) % 2 ^ 32 * 2 ^ 32)
    else s1

/-- Set flag bits of the tag of the frame that a fire triggers, whether it is matched already or waits to be (12 R436). -/
def State.flagFire (s : State) (fireId bit : Nat) : State :=
  { s with sconces := tabMap s.sconces (fun _ c =>
      { c with
        fires := c.fires.map (fun q => if q.fireId = fireId then { q with flags := q.flags ||| 2 ^ bit } else q)
        frames := c.frames.map (fun f =>
          match f.trig with
          | some g => if g.fireId = fireId then { f with trig := some { g with flags := g.flags ||| 2 ^ bit } } else f
          | none => f) }) }

/-! ### Packets (04 R141, R142, R148) -/

/-- One bit of CRC-8 with polynomial x^8 + x^2 + x + 1. -/
def crc8Bit (c : Nat) : Nat := if 128 ≤ c then ((c * 2) % 256) ^^^ 7 else c * 2

/-- CRC-8, no reflection, initial value 0 (04 R142). -/
def crc8 (l : List Byte) : Nat := l.foldl (fun c b => Nat.repeat crc8Bit 8 (c ^^^ b.toNat)) 0

/-- A packet as bytes: header, payload, CRC-32C and filling to a word boundary (04 R141, R142). -/
def packetBytes (dt sensor seq : Nat) (short : Bool) (wc : Nat) (payload : List Byte) : List Byte :=
  let h := [BitVec.ofNat 8 0xFB, BitVec.ofNat 8 dt, 0, BitVec.ofNat 8 sensor] ++ leBytes 2 wc ++ [BitVec.ofNat 8 seq]
  let hdr := h ++ [BitVec.ofNat 8 (crc8 h)]
  if short then hdr
  else
    let b := hdr ++ payload ++ leBytes 4 (crc32c payload)
    b ++ zeros (alignUp 8 b.length - b.length)

/-- The instant at which a packet that is handed to the downlink now begins, in 1/256 ns of elapsed time: a packet already on the wire
is never interrupted (04 R150). -/
def State.wireStart (s : State) (l : Nat) : Nat := max (256 * s.ns) (s.lane l).wireEnd

/-- A packet goes onto the downlink (04 R143): the words of `packetWords`, coded as VlpCoding gives. -/
def State.lanePacket (s : State) (l dt sensor : Nat) (short : Bool) (payload : List Byte) : State :=
  let x := s.lane l
  let p := packetBytes dt sensor x.txSeq short payload.length payload
  (s.setLane l { x with txSeq := (x.txSeq + 1) % 256, wireEnd := s.wireStart l + wireTime x.downRate p.length }).say (.downlink l p)

/-- Send a long packet on the downlink. -/
def State.laneSend (s : State) (l dt sensor : Nat) (payload : List Byte) : State := s.lanePacket l dt sensor false payload

/-- Send a short packet with WC 0 on the downlink. -/
def State.laneShort (s : State) (l dt sensor : Nat) : State := s.lanePacket l dt sensor true []

/-- The transmitter carries packets (04 R177, R178). -/
def Lane.transmits (x : Lane) : Bool := !x.refStopped && x.synth == .ready

/-- What a lane has on Lnnn_TXP. -/
inductive LineSignal where
  /-- Electrical idle. -/
  | electricalIdle
  /-- The transmitter has stopped while its synthesiser locks (04 R178). -/
  | stopped
  /-- VLP at a rate code: alignment blocks (codes 0 to 2), packets, and idle words in every word that carries none. -/
  | vlp (rate : Nat)
  /-- Ethernet: frames, and idle between them. -/
  | ethernet
  /-- FAR_LOOP: the symbols received, retimed (20 R655). -/
  | retimed
  /-- PATTERN: the bits of the test's generator, where it runs one (20 R655, R656). -/
  | pattern
  deriving DecidableEq, Repr

/-- The downlink of a lane in its state (04 R135, R137, R165, R178, 20 R655). In WAIT_SIGNAL no packet is sent, so VLP carries alignment blocks
and idle words alone. -/
def Lane.line (x : Lane) : LineSignal :=
  if x.refStopped || x.st == .nearLoop then .electricalIdle
  else if x.st == .farLoop then .retimed
  else if x.st == .pattern then .pattern
  else if x.st == .off || x.mode == .off then .electricalIdle
  else if x.synth == .locking || (match x.synth with | .locked _ => true | _ => false) then .stopped
  else if x.mode == .ethernet then .ethernet
  else .vlp x.downRate

/-- Downlink packets leave at once (04 R150, R174). -/
def Lane.canSend (x : Lane) : Bool := x.vlp && x.st == .up && x.transmits

/-- L_D in 1/256 ns (04 R161). -/
def lD (rate : Nat) : Nat := 256 * [120, 180, 320, 420].getD rate 0

/-! ### States of a lane (04 R137) -/

/-- Limit of a state in ns after its entry. -/
def Lane.stateLimit (x : Lane) (st : LaneState) : Option Nat :=
  match st with
  | .adapt => some 40000000
  | .align => some 2000000
  | .hello => some 1000000
  | .retrain => if x.mode == .ethernet then some 500000000 else some 10000000
  | _ => none

/-- A lane changes state and reports it (04 R137, R182). -/
def State.laneTo (s : State) (l : Nat) (st : LaneState) : State :=
  let x := s.lane l
  if x.st == st then s
  else
    let y := { x with st := st, since := s.ns, limit := (x.stateLimit st).map (· + s.ns), phase := 0, sentSeen := false
                      gotHello := false, gotSeen := false, beaconDue := s.ns }
    (s.setLane l y).laneRecord l 3 0x0101 0 0 (st.code + x.st.code * 2 ^ 8)

/-! ### Control requests (04 R151 to R155) -/

/-- The lane of a test returns to WAIT_SIGNAL, or to OFF; one that stayed UP under an eye scan goes on (20 R655, R658). -/
def State.diagLaneBack (s : State) (l : Nat) : State :=
  let x := s.lane l
  if x.st == .nearLoop || x.st == .farLoop || x.st == .pattern || x.st == .eyeScan then
    s.laneTo l (if x.mode == .off || x.refStopped then .off else .waitSignal)
  else s

/-- The payload of a control request (04 R151). -/
def LaneReq.payload (r : LaneReq) : List Byte :=
  leBytes 2 r.reqSeq ++ leBytes 1 r.op ++ leBytes 1 r.length ++ leBytes 4 r.address ++
    (if r.op = 1 then fitTo (4 * r.length) r.data else [])

/-- The requests that are first of their SENSOR and whose timer does not run, in the order of their commands. -/
def Lane.readyRequests (x : Lane) : List LaneReq :=
  (x.requests.foldl (fun (acc : List Nat × List LaneReq) r =>
    if acc.1.contains r.sensor then acc
    else (r.sensor :: acc.1, if r.timer.isSome then acc.2 else acc.2 ++ [r])) ([], [])).2

/-- Transmit one request: its response timer of 2 µs runs from the end of its last byte on the wire (04 R152). -/
def State.sendRequest (s : State) (l : Nat) (r : LaneReq) : State :=
  let s1 := s.laneSend l 0x01 r.sensor r.payload
  s1.modLane l (fun x => { x with requests := x.requests.map (fun q =>
    if q.arg = r.arg then { q with timer := some (cdiv x.wireEnd 256 + 2000), sent := q.sent + 1 } else q) })

/-- Transmit every request that is first of its SENSOR and whose timer does not run (04 R150 to R152). In Dark none is sent (04
R165). -/
def State.sendRequests (s : State) (l : Nat) : State :=
  if !(s.lane l).canSend || s.mode == .dark then s
  else (s.lane l).readyRequests.foldl (fun t r => t.sendRequest l r) s

/-- Take a request off a lane, complete its command, and start the next one. -/
def State.endRequest (s : State) (l arg : Nat) (st : Status) : State :=
  let x := s.lane l
  match x.requests.find? (fun r => r.arg = arg) with
  | none => s
  | some r =>
    ((s.setLane l { x with requests := x.requests.filter (fun q => q.arg != arg) }).finishWaiting r.ring arg st).sendRequests l

/-- NO_ACK, DETAIL the lane (03 R106). -/
def Status.noAck (l : Nat) : Status := ⟨0xE, l⟩

/-- LINK_LOST, DETAIL the lane (03 R106). -/
def Status.linkLost (l : Nat) : Status := ⟨0xF, l⟩

/-- Complete every request and every waiting Ethernet frame of a lane with LINK_LOST (04 R174, R175, R180). -/
def State.loseRequests (s : State) (l : Nat) : State :=
  let x := s.lane l
  let s1 := s.setLane l { x with requests := [], sends := [] }
  let s2 := x.requests.foldl (fun t r => t.finishWaiting r.ring r.arg (.linkLost l)) s1
  x.sends.foldl (fun t r => t.finishWaiting r.1 r.2.1 (.linkLost l)) s2

/-- The result block of a control request (04 R154). -/
def resultBlock (payload : List Byte) (arrival : Nat) : List Byte :=
  fitTo 0x28 payload ++ leBytes 8 arrival ++ zeros 16

/-- Take a request off a lane without completing its command, and start the next one. -/
def State.takeRequest (s : State) (l arg : Nat) : State :=
  (s.modLane l (fun x => { x with requests := x.requests.filter (fun q => q.arg != arg) })).sendRequests l

/-- A response timer expires (04 R152). -/
def State.retransmit (s : State) (l sensor : Nat) : State :=
  let x := s.lane l
  match x.requests.find? (fun r => r.sensor = sensor) with
  | some r =>
    if r.timer.isSome && s.due r.timer then
      if r.sent < 8 then
        let again := { r with timer := none }
        (((s.setLane l { x with requests := x.requests.map (fun q => if q.arg = r.arg then again else q) }).laneCount l 0x0A 1)).sendRequests l
      else (s.laneCount l 0x0B 1).endRequest l r.arg (.noAck l)
    else s
  | none => s

/-- Requests of a SENSOR that are open 250 ms after their fetch complete (04 R155). -/
def State.expireRequests (s : State) (l sensor : Nat) : State :=
  ((s.lane l).requests.filter (fun r => r.sensor = sensor && r.since + 250000000 ≤ s.ns)).foldl
    (fun t r => t.endRequest l r.arg (if r.dropped then .linkLost l else .noAck l)) s

/-! ### Triggers (04 R160 to R164, R176) -/

/-- A trigger packet leaves at an instant in 1/256 ns; a late one is counted, reported and flagged (04 R160, R163). -/
def State.sendTrig (s : State) (l : Nat) (k : TrigPkt) (leave : Nat) : State :=
  let late := k.onTime < leave
  let head := leBytes 1 k.target ++ leBytes 1 (k.input % 8 + b2n late * 128) ++ [0, 0] ++ leBytes 4 k.count
  let s1 := if k.scheduled then s.laneSend l 0x04 k.sensor (head ++ leBytes 8 k.targetTime)
    else s.laneSend l 0x03 k.sensor head
  let s2 := if k.scheduled then s1.modLane l (fun x => { x with schedSent := k.targetTime :: x.schedSent }) else s1
  if late then
    ((s2.laneCount l 0x0E 1).laneRecord l 2 0x0108 k.sensor k.target ((leave - k.onTime) / 256)).flagFire k.fireId 10
  else s2

/-- A trigger is not sent: TRIGGER_LOST (04 R174, R176). -/
def State.loseTrig (s : State) (l : Nat) (k : TrigPkt) : State :=
  (s.laneCount l 0x0F 1).laneRecord l 1 0x0109 k.sensor k.target (if k.scheduled then k.targetTime else k.fire / 256)

/-- Items of a lane's queue that are triggers. -/
def Lane.trigCount (x : Lane) : Nat := (x.queue.filter (fun q => match q with | .trig _ => true | _ => false)).length

/-- Entries taken by what is no trigger and no TIME_SYNC, at most 11 (04 R176). -/
def Lane.otherCount (x : Lane) : Nat :=
  min 11 ((x.queue.filter (fun q => match q with | .notice _ => true | _ => false)).length +
    (x.requests.filter (fun r => r.timer.isNone)).length)

/-- TIME_SYNCs in the queue. -/
def Lane.syncCount (x : Lane) : Nat := (x.queue.filter (· == .sync)).length

/-- The eleven entries of the queue that are kept for nothing have room (04 R176): triggers beyond four, TIME_SYNCs beyond one, and all
else take them. -/
def Lane.freeRoom (x : Lane) : Bool := (x.trigCount - 4) + (x.syncCount - 1) + x.otherCount < 11

/-- The queue takes a further trigger (04 R176). -/
def Lane.trigRoom (x : Lane) : Bool := (x.trigCount < 4 || x.freeRoom) && !x.queue.contains .halt

/-- The queue takes a further TIME_SYNC (04 R176). -/
def Lane.syncRoom (x : Lane) : Bool := (x.syncCount = 0 || x.freeRoom) && !x.queue.contains .halt

/-- A test runs on lane l (20 R655, R658). -/
def State.laneTested (s : State) (l : Nat) : Bool := s.tests.any (fun q => q.test ≤ 3 && q.unit = l)

/-- A trigger falls due at an instant; on a lane under test it is lost (20 R654; 04 R161, R162, R174, R176, R178). -/
def State.dueTrig (s : State) (l : Nat) (k : TrigPkt) (leave : Nat) : State :=
  let x := s.lane l
  if s.mode == .dark then s
  else if !(x.vlp && x.st == .up) || s.laneTested l then s.loseTrig l k
  else if x.transmits then s.sendTrig l k leave
  else if x.trigRoom then s.setLane l { x with queue := x.queue ++ [.trig k] }
  else s.loseTrig l k

/-! ### Time sync (04 R156 to R159) -/

/-- The SENSOR of packets to the camera, or to the hub itself: time sync, HELLO and RATE_NOTICE (04 R148, R166). -/
def Lane.syncSensor (x : Lane) : Nat := if x.mode == .merged then 0xFF else 0

/-- Send a TIME_SYNC now; T1 is the instant at which it begins on the wire (04 R156). PHASE_STEP and RATE_ADJ are free values. -/
def State.sendSync (s : State) (l : Nat) : State :=
  let x := s.lane l
  let id := (x.syncId + 1) % 2 ^ 32
  let t1 := (s.time + (s.wireStart l - 256 * s.ns) * 2 ^ 24) / 2 ^ 30 * 2 ^ 30
  let pay := leBytes 8 (t1 / 2 ^ 32) ++ leBytes 4 (t1 % 2 ^ 32) ++ leBytes 4 id ++
    leBytes 8 (Config.lanePhaseStep s.fresh).toNat ++ leBytes 4 (Config.laneRateAdj s.fresh).toNat ++ zeros 4
  ((s.setLane l { x with syncId := id, syncOpen := x.syncOpen ++ [(id, t1, s.ns)], syncDue := s.ns + 125000 * x.syncPeriod }).freshen).laneSend
    l 0x02 x.syncSensor pay

/-- A lane's time sync becomes locked or unlocked, with its record (04 R157). -/
def State.syncChange (s : State) (l : Nat) (locked : Bool) : State :=
  let x := s.lane l
  if x.syncLocked == locked then s
  else (s.setLane l { x with syncLocked := locked }).laneRecord l (if locked then 3 else 2) 0x0107 x.syncSensor 0
    (b2n locked + ofInt 32 x.syncOffset * 2 ^ 32)

/-- A TIME_SYNC_RESPONSE arrives with T4 in units of 2^-32 ns (04 R157). -/
def State.syncResponse (s : State) (l : Nat) (pay : List Byte) (t4 : Nat) : State :=
  let x := s.lane l
  match x.syncOpen.find? (fun q => q.1 = lfld pay 0 4) with
  | none => s
  | some (id, t1, _) =>
      let t2 : Int := lfld pay 8 8 * 2 ^ 32 + lfld pay 4 2 * 2 ^ 16
      let t3 : Int := lfld pay 16 8 * 2 ^ 32 + lfld pay 6 2 * 2 ^ 16
      let twice : Int := (t2 - t1) - (t4 - t3) - toInt 16 x.asymmetry * 2 ^ 24
      let mag := twice.natAbs
      let good := if mag ≤ 2 * 2 ^ 32 then x.syncGood + 1 else 0
      let bad := if 2 * 4 * 2 ^ 32 < mag then x.syncBad + 1 else 0
      let s1 := s.setLane l { x with syncOpen := x.syncOpen.filter (fun q => q.1 != id), syncGood := good, syncBad := bad, syncMissed := 0
                                     syncOffset := twice / (2 : Int) ^ 25 }
      if 8 ≤ good then s1.syncChange l true else if 2 ≤ bad then s1.syncChange l false else s1

/-- The response to the oldest TIME_SYNC has not come (04 R157). -/
def State.syncMiss (s : State) (l : Nat) : State :=
  let x := s.lane l
  let n := x.syncMissed + 1
  let s1 := (s.setLane l { x with syncOpen := x.syncOpen.tail, syncGood := 0, syncMissed := n }).laneCount l 0x0D 1
  if 16 ≤ n then s1.syncChange l false else s1

/-- A TIME_SYNC falls due: sent, queued, or skipped because the lane is not UP or the queue has no room (04 R156, R174, R176). -/
def State.dueSync (s : State) (l : Nat) : State :=
  let x := s.lane l
  if x.canSend then s.sendSync l
  else
    let next := { x with syncDue := s.ns + 125000 * x.syncPeriod }
    if x.vlp && x.st == .up && x.syncRoom then
      s.setLane l { next with queue := x.queue ++ [.sync] }
    else s.setLane l next

/-! ### Downlink queue (04 R150, R176 to R178) -/

/-- Send RATE_NOTICE: the switch follows at least 10 µs later (04 R178). -/
def State.sendNotice (s : State) (l rate : Nat) : State :=
  let wait := 10000 + Config.rateSwitchExtra s.fresh
  let pay := leBytes 8 (s.dt + wait) ++ leBytes 1 rate ++ zeros 7
  (((s.freshen).modLane l (fun x => { x with switch := some (s.ns + wait, rate) })).laneSend l 0x06
    (s.lane l).syncSensor pay)

/-- Rank of an item in the order of 04 R150, with its key in the rank. -/
def QItem.rank : QItem → Nat × Nat
  | .halt => (0, 0) | .trig k => (1, k.fire) | .notice _ => (2, 0) | .sync => (3, 0)

/-- One item goes before another (04 R150). -/
def QItem.before (a b : QItem) : Bool := a.rank.1 < b.rank.1 || (a.rank.1 = b.rank.1 && a.rank.2 < b.rank.2)

/-- Put an item into its place of an ordered list. -/
def QItem.place (a : QItem) : List QItem → List QItem
  | [] => [a]
  | b :: t => if a.before b then a :: b :: t else b :: QItem.place a t

/-- Send one item. -/
def State.sendItem (s : State) (l : Nat) (q : QItem) : State :=
  match q with
  | .halt => s.laneShort l 0x05 0xFF
  | .trig k => s.sendTrig l k (256 * s.dt)
  | .notice r => s.sendNotice l r
  | .sync => s.sendSync l

/-- The downlink can send: what waits is sent in the order of 04 R150; in Dark HALT alone (04 R165). -/
def State.laneFlush (s : State) (l : Nat) : State :=
  let x := s.lane l
  if !x.canSend then s
  else
    let items := (x.queue.filter (fun q => s.mode != .dark || q == .halt)).foldl (fun acc q => QItem.place q acc) []
    (items.foldl (fun t q => t.sendItem l q) (s.setLane l { x with queue := [] })).sendRequests l

/-- HALT: it replaces every queued packet and is sent, or waits (04 R150, R165, R176). -/
def State.sendHalt (s : State) (l : Nat) : State :=
  let x := s.lane l
  let s1 := s.setLane l { x with beaconDue := s.ns + 10000, queue := [] }
  if !(x.vlp && x.st == .up) then s1
  else if x.transmits then s1.laneShort l 0x05 0xFF
  else s1.modLane l (fun y => { y with queue := [.halt] })

/-! ### Up and down (04 R137 to R140, R174, R175) -/

/-- A lane enters UP: the first time-sync exchange is immediate, and what waits goes in the order of R150 (04 R137, R140, R143, R174).
In Dark it sends HALT and nothing else (04 R165). -/
def State.laneUp (s : State) (l : Nat) : State :=
  let s1 := s.laneTo l .up
  let x := s1.lane l
  let y := { x with rxSeq := none, txSeq := 0, hunt := false, dropAt := none, lost := false, unitUp := some x.unitId
                    queue := if x.vlp && x.syncPeriod != 0 && x.syncRoom then x.queue ++ [.sync] else x.queue
                    syncDue := s.ns + 125000 * x.syncPeriod
                    requests := x.requests.map (fun r => { r with sent := 0, timer := none }) }
  if x.mode == .ethernet then s1.setLane l { y with unitUp := x.unitUp }
  else
    let s2 := s1.setLane l y
    let s3 := match x.unitUp with
      | some u => if u = x.unitId then s2 else s2.laneRecord l 2 0x0106 0 0 x.unitId
      | none => s2
    if s.mode == .dark then s3.sendHalt l else s3.laneFlush l

/-- The lane part of a drop from UP (04 R138, R174, R175). The frames in progress are completed by `truncateLane`. -/
def State.laneDropped (s : State) (l cause : Nat) : State :=
  let x := s.lane l
  let s1 := s.setLane l { x with dropAt := some (s.dt, s.ns), lost := false, syncOpen := []
                                 requests := x.requests.map (fun r => { r with timer := none, dropped := true }) }
  (((s1.laneCount l 0x09 1).laneTo l .retrain).laneRecord l 2 0x0102 0 0 (cause * 2 ^ 16))

/-- 100 ms have passed since the drop and the lane is not UP (04 R174, R175). -/
def State.laneLost (s : State) (l : Nat) : State :=
  let x := s.lane l
  match x.dropAt with
  | some (d, at_) =>
    if x.st != .up && !x.lost && at_ + 100000000 ≤ s.ns then
      ((s.setLane l { x with lost := true }).loseRequests l).laneRecord l 1 0x0103 0 0 d
    else s
  | none => s

/-- The payload of the FV8128's HELLO (04 R139). -/
def Lane.helloPayload (x : Lane) : List Byte :=
  leBytes 2 0x0100 ++ [0] ++ leBytes 1 (b2n x.gotHello) ++ zeros 12 ++ leBytes 8 Config.serialNumber.toNat ++ zeros 8

/-- The lane exchanges HELLOs (04 R137). -/
def Lane.helloing (x : Lane) : Bool :=
  x.vlp && (x.st == .hello || x.st == .mismatch || (x.st == .retrain && x.phase = 2))

/-- Both conditions of 04 R139 hold. -/
def State.tryUp (s : State) (l : Nat) : State :=
  let x := s.lane l
  if x.sentSeen && x.gotSeen && x.st != .mismatch then s.laneUp l else s

/-- Send HELLO (04 R137, R139). -/
def State.sendHello (s : State) (l : Nat) : State :=
  let x := s.lane l
  let s1 := s.setLane l { x with beaconDue := s.ns + 10000 }
  if x.transmits then
    ((s1.laneSend l 0x3E x.syncSensor x.helloPayload).modLane l (fun y => { y with sentSeen := y.sentSeen || y.gotHello })).tryUp l
  else s1

/-- The cause for which a camera's HELLO is refused (04 R139). A looped lane is tested first: its own HELLO would
otherwise always be refused for DOWN_CAPS. DEDUCED (entry 91): SENSOR_COUNT has no reserved values, so that no count is refused. -/
def Lane.helloFault (x : Lane) (p : List Byte) : Option Nat :=
  let role := lfld p 2 1
  if x.direction = 0x55 then some 10
  else if lfld p 0 2 != 0x0100 then some 6
  else if (role = 2 && x.mode == .vlp) || (role = 1 && x.mode == .merged) then some 7
  else if !nbit (lbits p 5 1 0 4) x.downRate then some 8
  else if 2 < role || lbits p 3 1 1 7 != 0 || lbits p 5 1 4 4 != 0 || lfld p 9 7 != 0 || lfld p 0x18 8 != 0 then some 9
  else none

/-- A HELLO is checked (04 R139). -/
def State.checkHello (s : State) (l : Nat) (p : List Byte) : State :=
  let x := s.lane l
  match x.helloFault p with
  | some cause =>
    ((s.setLane l { x with lastHello := p }).laneTo l .mismatch).laneRecord l 1 0x0105 0 0
      (cause + lfld p 0x10 4 * 2 ^ 32)
  | none =>
    (s.setLane l { x with lastHello := p, gotHello := true, gotSeen := x.gotSeen || lbits p 3 1 0 1 = 1
                          unitId := lfld p 0x10 8, minLead := lfld p 6 2, schedDepth := lfld p 8 1
                          sensorCount := lfld p 4 1 }).tryUp l

/-- A camera's HELLO arrives on a lane that is not UP (04 R137, R139). -/
def State.helloArrives (s : State) (l : Nat) (p : List Byte) : State :=
  let x := s.lane l
  if !x.helloing then s
  else if x.st == .mismatch then
    if x.lastHello == p then s else (s.laneTo l .hello).checkHello l p
  else s.checkHello l p

/-! ### The wick (04 R136, R143 to R145, R166, R167) -/

/-- DT of a header (04 R141). -/
def hdrDt (k : LanePkt) : Nat := bitsAt k.hdr 1 1 0 6
/-- VC of a header. -/
def hdrVc (k : LanePkt) : Nat := bitsAt k.hdr 2 1 0 4
/-- SENSOR of a header. -/
def hdrSensor (k : LanePkt) : Nat := fld k.hdr 3 1
/-- WC of a header. -/
def hdrWc (k : LanePkt) : Nat := fld k.hdr 4 2
/-- SEQ of a header. -/
def hdrSeq (k : LanePkt) : Nat := fld k.hdr 6 1

/-- Bytes of a number's first n bytes of a header. -/
def hdrOk (w : BitVec 64) : Bool := fld w 0 1 = 0xFB && crc8 (leBytes 7 w.toNat) = fld w 7 1

/-- A defined uplink data type (04 R144). -/
def dtDefined (dt : Nat) : Bool :=
  dt ≤ 4 || (6 ≤ dt && dt ≤ 8) || dt = 0x10 || (0x20 ≤ dt && dt ≤ 0x27) || (0x30 ≤ dt && dt ≤ 0x37) || dt = 0x3E

/-- A short packet (04 R144). -/
def dtShort (dt : Nat) : Bool := dt ≤ 3

/-- The payload as the wire carries it: WC bytes. -/
def pktPayload (k : LanePkt) : List Byte := if dtShort (hdrDt k) then [] else fitTo (hdrWc k) k.payload

/-- A word is neither idle nor a header: hunt begins and is counted (04 R136, R145). -/
def State.enterHunt (s : State) (l : Nat) (header : Bool) : State :=
  let s1 := if header then s.laneCount l 3 1 else s
  (s1.modLane l (fun x => { x with hunt := true })).laneCount l 8 1

/-- The lane's wick works: it has not failed, or its spare's time has come (04 R181). -/
def Lane.wickWorks (x : Lane) (now : Nat) : Bool := match x.wickDown with | some t => t ≤ now | none => true

/-- The wick receives packets on this lane. -/
def Lane.receives (x : Lane) (now : Nat) : Bool := x.vlp && (x.st == .up || x.helloing) && !x.refStopped && x.wickWorks now

/-- Bytes of a packet on the wire. -/
def pktBytes (k : LanePkt) : Nat := if dtShort (hdrDt k) then 8 else alignUp 8 (8 + hdrWc k + 4)

/-- Bytes a sensor may send in 100 µs, exceeded: 1/16 of the net uplink rate (04 R129, R167). -/
def overShare (rate bytes : Nat) : Bool :=
  match rate with
  | 0 => 11200000 < bytes * 136
  | 1 => 5600000 < bytes * 136
  | 2 => 2800000 < bytes * 136
  | _ => 62500 < bytes * 8

/-- A sensor's bytes in a 100 µs window of the merged-sensor service are judged (04 R167). -/
def State.overWindow (s : State) (l sn : Nat) : State :=
  let y := s.lane l
  let n := tabGet 0 y.shareOver sn + 1
  let free : Bool := match tabFind y.shareLast sn with | some a => a + 100000000 ≤ s.ns | none => true
  let s1 := (s.setLane l { y with shareOver := tabPut y.shareOver sn n }).laneCount l 0x13 1
  if free then
    (s1.modLane l (fun z => { z with shareOver := tabPut z.shareOver sn 0, shareLast := tabPut z.shareLast sn s.ns })).laneRecord
      l 2 0x010C sn 0 n
  else s1

/-- The windows of 100 µs that have ended are judged, and the present one begins where the last of them ended: windows follow one
another without a gap (04 R167; DESIGN CHOICE, entry 93). -/
def State.shareWindow (s : State) (l : Nat) : State :=
  let x := s.lane l
  if x.mode != .merged || s.ns < x.shareStart + 100000 then s
  else
    (tabKeys x.share (overShare x.upRate)).foldl (fun t sn => t.overWindow l sn)
      (s.setLane l { x with share := [], shareStart := x.shareStart + (s.ns - x.shareStart) / 100000 * 100000 })

/-- The checks of the wick: the state after them, and whether the packet is accepted (04 R145). Before a hub's first HELLO its
SENSOR_COUNT is not known, and no SENSOR lies above it. -/
def State.wick (s : State) (l : Nat) (k : LanePkt) : State × Bool :=
  let s0 := ((s.shareWindow l).laneCount l 1 k.corrected).laneCount l 2 k.uncorrectable
  if !hdrOk k.hdr then
    (if (s0.lane l).hunt then s0 else s0.enterHunt l (fld k.hdr 0 1 = 0xFB), false)
  else
    let x := s0.lane l
    let lost := match x.rxSeq with | some r => (hdrSeq k + 511 - r) % 256 | none => 0
    let share : Tab Nat := if x.mode == .merged then tabMod 0 x.share (hdrSensor k) (· + pktBytes k) else x.share
    let s1 := (s0.setLane l { x with hunt := false, rxSeq := some (hdrSeq k), share := share }).laneCount l 7 lost
    let badSensor := if x.mode == .merged then x.sensorCount != 0 && x.sensorCount ≤ hdrSensor k else hdrSensor k != 0
    if bitsAt k.hdr 1 1 6 2 != 0 || bitsAt k.hdr 2 1 4 4 != 0 then (s1.laneCount l 6 1, false)
    else if !dtDefined (hdrDt k) then (s1.laneCount l 5 1, false)
    else if !dtShort (hdrDt k) && crc32c (pktPayload k) != k.crc.toNat then (s1.laneCount l 4 1, false)
    else if k.overlaps then (s1, false)
    else if badSensor && !(x.mode == .merged && hdrSensor k = 0xFF && (hdrDt k = 6 || hdrDt k = 7 || hdrDt k = 0x3E)) then
      (s1.laneCount l 6 1, false)
    else (s1, true)

/-! ### Synthesiser (04 R177, R178) -/

/-- The downlink rate that LANE_CONFIG set last. -/
def Lane.setRate (x : Lane) : Nat :=
  match x.switch with
  | some (_, r) => r
  | none => x.queue.foldl (fun a q => match q with | .notice r => r | _ => a) x.downRate

/-- A change of the downlink rate, or a forced recalibration, begins; a switch already announced still comes (04 R178). A lane that is
not UP has no camera to notify and switches at once. -/
def State.retune (s : State) (l rate : Nat) (recal : Bool) : State :=
  let x := s.lane l
  if x.setRate != rate then
    if x.canSend then s.sendNotice l rate
    else if x.vlp && x.st == .up then
      s.setLane l { x with queue := x.queue.filter (fun q => match q with | .notice _ => false | _ => true) ++ [.notice rate] }
    else s.setLane l { x with downRate := rate, synth := .locking, switch := none }
  else if recal then s.setLane l { x with synth := .locking }
  else s

end Sys2Proof.Machine
end

