-- ==== Sys2Proof/Machine/TrigOps.lean ====
section
/-!
DEFINITION. The Lamplighter: compare slots, sequencers, trigger targets and fires (12_triggering; 10 R360, R361; 11 R407 to
R409). Instants count 1/256 ns of device time; 250 ps is 64 of them.
-/

namespace Sys2Proof.Machine

/-- Sequencer q. -/
def State.seqr (s : State) (q : Nat) : Sequencer := tabGet Sequencer.reset s.seqs q

/-- Put sequencer q. -/
def State.setSeq (s : State) (q : Nat) (x : Sequencer) : State := { s with seqs := tabPut s.seqs q x }

/-- Target g. -/
def State.target (s : State) (g : Nat) : Target := tabGet Target.reset s.targets g

/-- Put target g. -/
def State.setTarget (s : State) (g : Nat) (x : Target) : State := { s with targets := tabPut s.targets g x }

/-! ### The image (12 R420 to R423) -/

/-- A slot is a position slot. -/
def Sequencer.slotPos (x : Sequencer) (k : Nat) : Bool := lbits x.image (0x20 + 8 * k) 1 0 1 = 1
/-- DIR of a slot: reverse. -/
def Sequencer.slotRev (x : Sequencer) (k : Nat) : Bool := lbits x.image (0x20 + 8 * k) 1 1 1 = 1
/-- PREFIRE of a slot. -/
def Sequencer.slotPre (x : Sequencer) (k : Nat) : Bool := lbits x.image (0x20 + 8 * k) 1 2 1 = 1
/-- UNPRED of a slot. -/
def Sequencer.slotUnpred (x : Sequencer) (k : Nat) : Bool := lbits x.image (0x20 + 8 * k) 1 3 1 = 1
/-- ENC of a slot. -/
def Sequencer.slotEnc (x : Sequencer) (k : Nat) : Nat := lbits x.image (0x20 + 8 * k) 1 4 4
/-- LEAD_TARGET of a slot. -/
def Sequencer.slotLead (x : Sequencer) (k : Nat) : Nat := lfld x.image (0x21 + 8 * k) 1
/-- Constant k. -/
def Sequencer.const (x : Sequencer) (k : Nat) : Int := toInt 64 (lfld x.image (0x60 + 8 * k) 8)
/-- States of the table. -/
def Sequencer.states (x : Sequencer) : Nat := lfld x.image 2 1
/-- Offset of transition j of state st. -/
def transOff (st j : Nat) : Nat := 0xE0 + 64 * st + 16 * j
/-- Action word w of a transition. -/
def Sequencer.action (x : Sequencer) (st j w : Nat) : Nat := lfld x.image (transOff st j + 4 + 4 * w) 4
/-- Every transition of the table as (state, j). -/
def Sequencer.allTrans (x : Sequencer) : List (Nat × Nat) :=
  (List.range x.states).flatMap (fun st => (List.range 4).map (fun j => (st, j)))
/-- SRC_KIND, SRC_INDEX and EDGE of a transition. -/
def Sequencer.source (x : Sequencer) (t : Nat × Nat) : Nat × Nat × Nat :=
  let o := transOff t.1 t.2
  (lbits x.image o 1 0 4, lfld x.image (o + 1) 1, lbits x.image (o + 2) 1 0 2)
/-- The table names a source. -/
def Sequencer.names (x : Sequencer) (kind index : Nat) : Bool :=
  x.allTrans.any (fun t => (x.source t).1 = kind && (x.source t).2.1 = index)
/-- The targets that the table names by FIRE, FIRE_AT or LEAD_TARGET. -/
def Sequencer.firesOf (x : Sequencer) : List Nat :=
  (x.allTrans.flatMap (fun t => (List.range 3).filterMap (fun w =>
    let a := x.action t.1 t.2 w
    if (x.source t).1 != 0 && (a % 16 = 1 || a % 16 = 2) then some (nbits a 16 8) else none))) ++
  ((List.range 8).filter (fun k => x.slotPos k && x.slotPre k)).map x.slotLead

/-- Slot k as it runs. -/
def Sequencer.slot (x : Sequencer) (k : Nat) : SeqSlot := tabGet { armed := none, fire := none, raw := none, prev := none } x.slots k

/-! ### Records and counters (12 R445, R446) -/

/-- A record of a target (with its sequencer) or, without a target, of a sequencer. -/
def State.trigRecord (s : State) (g : Option Nat) (q cls typ data : Nat) : State :=
  let owner := match g with | some n => (s.target n).owner | none => (s.seqr q).owner
  s.report owner cls typ islandTrig (g.getD 0 + q * 2 ^ 8) data

/-- Add to a counter of a target. -/
def State.tgCount (s : State) (g code : Nat) : State :=
  let x := s.target g
  s.setTarget g { x with counters := tabMod 0 x.counters code (fun v => satAdd 32 v 1) }

/-- Add to a counter of a sequencer. -/
def State.seqCount (s : State) (q code : Nat) : State :=
  let x := s.seqr q
  s.setSeq q { x with counters := tabMod 0 x.counters code (fun v => satAdd 32 v 1) }

/-- Count an occurrence for a limited record: the count when a record may be written now (12 R446). -/
def limitStep (reports : Tab (Nat × Nat)) (typ now : Nat) : Tab (Nat × Nat) × Option Nat :=
  match tabFind reports typ with
  | none => (tabPut reports typ (0, now), some 1)
  | some (n, at_) =>
    if at_ + 100000000 ≤ now then (tabPut reports typ (0, now), some (n + 1)) else (tabPut reports typ (n + 1, at_), none)

/-- A limited record of a target. -/
def State.tgLimited (s : State) (g q cls typ data : Nat) : State :=
  let x := s.target g
  let r := limitStep x.reports typ s.ns
  let s1 := s.setTarget g { x with reports := r.1 }
  match r.2 with
  | some n => s1.trigRecord (some g) q cls typ (data + n % 2 ^ 32 * 2 ^ 32)
  | none => s1

/-- A limited record of a sequencer. -/
def State.seqLimited (s : State) (q cls typ data : Nat) : State :=
  let x := s.seqr q
  let r := limitStep x.reports typ s.ns
  let s1 := s.setSeq q { x with reports := r.1 }
  match r.2 with
  | some n => s1.trigRecord none q cls typ (data + n % 2 ^ 32 * 2 ^ 32)
  | none => s1

/-! ### Fires (12 R431 to R434, R439, R441) -/

/-- L_D of a target's lane in 1/256 ns, 0 for a GIO pulse. -/
def State.targetLd (s : State) (c : TargetCfg) : Nat := if c.kind = 1 then lD (s.lane c.lane).downRate else 0

/-- DELAY + Le in 1/256 ns (12 R431, R437). -/
def State.lead (s : State) (c : TargetCfg) : Nat := 64 * c.delay + 64 * c.latency + s.targetLd c

/-- A fire joins its sconce's queue of 16 (12 R436). -/
def State.queueFire (s : State) (g q : Nat) (x : Fire) : State :=
  let c := (s.target g).cfg
  if !c.sconceEn then s
  else
    let k := tabGet Sconce.reset s.sconces c.sconce
    let pos := if s.reached x.f then some (s.allPos x.f) else none
    let item : QueuedFire := { target := g, seq := q, fire := x.f, window := 64 * c.window, line := c.lineMatch, pos := pos
                               flags := x.flags, fireId := x.id }
    match k.fires with
    | old :: rest =>
      if 16 ≤ k.fires.length then
        ((({ s with sconces := tabPut s.sconces c.sconce { k with fires := rest ++ [item] } }).tgCount old.target 9).tgLimited
          old.target old.seq 2 0x0608 0)
      else { s with sconces := tabPut s.sconces c.sconce { k with fires := k.fires ++ [item] } }
    | [] => { s with sconces := tabPut s.sconces c.sconce { k with fires := [item] } }

/-- Give an accepted downlink fire to its lane (12 R431, 04 R161, R162). -/
def State.giveLane (s : State) (g : Nat) (x : Fire) : State :=
  let tg := s.target g
  let c := tg.cfg
  let l := s.lane c.lane
  let leave := x.o + s.targetLd c
  let at_ := (leave + 64 * c.latency) / 256
  let k : TrigPkt :=
    { target := g, input := c.input, sensor := c.sensor, count := tg.fires, scheduled := c.scheduled, fire := x.f
      targetTime := at_, due := leave, schedDue := max (256 * (at_ - 20000)) (256 * s.dt)
      onTime := if c.scheduled then 256 * (at_ - 10 * l.minLead) else leave + 128, fireId := x.id }
  s.setLane c.lane { l with trigs := l.trigs ++ [k] }

/-- FIRE: the outcome of a fire at f with its tag flags (16 R546). -/
def State.journalFire (s : State) (g outcome f flags accepted : Nat) : State :=
  s.journal outcome 0x33 islandTrig (f / 256) (leBytes 1 g ++ leBytes 1 (flags / 1024 % 32) ++ zeros 6 ++ leBytes 8 (accepted / 256))

/-- Targets output nothing: in Replay (17 R577) and in Dark (12 R442). -/
def State.silentOutputs (s : State) : Bool := s.mode == .replay || s.mode == .dark

/-- A fire is accepted at f (12 R431 to R434). The width is in units of 250 ps. In Replay and in Dark nothing is output. -/
def State.acceptFire (s : State) (g q f width flags : Nat) : State :=
  let x := s.target g
  let c := x.cfg
  let w := if width < c.minWidth then c.minWidth else if c.maxWidth < width then c.maxWidth else width
  let stretched := c.kind = 2 && width < c.minWidth
  let clipped := c.kind = 2 && c.maxWidth < width
  let fire : Fire := { f := f, o := max (f + 64 * c.delay) x.lastOut, width := w
                       flags := flags ||| (if stretched then 2 ^ 13 else 0), id := s.fresh }
  let s1 := (s.freshen).setTarget g { x with last := some f, fires := (x.fires + 1) % 2 ^ 32, lastOut := fire.o
                                             pend := (x.pend.filter (fun p => c.kind = 2 || s.dt256 < p.o)) ++ (if s.silentOutputs then [] else [fire]) }
  let s2 := s1.tgCount g 1
  let s3 := if stretched then s2.tgCount g 2 else s2
  let s4 := if clipped then (s3.tgCount g 3).tgLimited g q 2 0x0609 0 else s3
  let s5 := if c.kind = 1 && !s.silentOutputs then s4.giveLane g fire else s4
  (((s5.queueFire g q fire).emit0 6 g f 5120)).journalFire g 0 f fire.flags f

/-- Accepted fires of a target whose output is still to come, a held one included. -/
def State.pendingFires (s : State) (x : Target) : Nat :=
  (x.pend.filter (fun p => s.dt256 < p.o)).length + b2n x.held.isSome

/-- A fire is dropped for dead time. -/
def State.dropDead (s : State) (g q f flags : Nat) : State := ((s.tgCount g 5).tgLimited g q 2 0x0604 0).journalFire g 2 f flags 0

/-- A fire is dropped at the pending limit. -/
def State.dropLimit (s : State) (g q f flags : Nat) : State := ((s.tgCount g 6).tgLimited g q 2 0x0604 1).journalFire g 3 f flags 0

/-- The dead-time and pending tests (12 R433). -/
def State.testFire (s : State) (g q f width flags : Nat) : State :=
  let x := s.target g
  let free := match x.last with | some l => l + 64 * x.cfg.minInterval | none => 0
  if free ≤ f then
    if 8 ≤ s.pendingFires x then s.dropLimit g q f flags else s.acceptFire g q f width flags
  else if x.cfg.drop || x.held.isSome then s.dropDead g q f flags
  else if 8 ≤ s.pendingFires x then s.dropLimit g q f flags
  else
    ((s.setTarget g { x with held := some (⟨f, 0, width, flags ||| 2 ^ 14, q⟩, free) }).tgCount g 4).journalFire g 1 f (flags ||| 2 ^ 14) free

/-- A fire of the domain that does not control the target is suppressed (12 R439). -/
def State.suppressFire (s : State) (g f flags : Nat) : State := (s.tgCount g 8).journalFire g 4 f flags 0

/-- A fire is decided (12 R433, R439, R441). -/
def State.decideFire (s : State) (g q f width flags : Nat) (position : Bool) : State :=
  let x := s.target g
  let c := x.cfg
  let dom := if position then 2 else 1
  if c.kind = 0 then s
  else if c.control = 0 then s.testFire g q f width flags
  else
    match x.handover with
    | none => if dom = c.control then s.testFire g q f width flags else s.suppressFire g f flags
    | some (th, new) =>
      if f < 256 * th then (if dom = c.control then s.testFire g q f width flags else s.suppressFire g f flags)
      else if dom != new then s.suppressFire g f flags
      else
        let free := match x.last with | some l => l + 64 * c.minInterval | none => 0
        let deferred := f < free
        let s1 := s.setTarget g { x with cfg := { c with control := new }, handover := none, held := none }
        let s2 := if x.held.isSome then s1.tgCount g 5 else s1
        let s3 := if deferred then s2.tgCount g 12 else s2
        (s3.acceptFire g q (max f free) width (flags ||| (if deferred then 2 ^ 12 else 0))).tgLimited g q 3 0x0606
          (b2n deferred + new * 2)

/-! ### Compare slots (10 R361, 11 R407 to R409, 12 R437) -/

/-- Arm a time compare at an instant, from another instant: none when it is out of range. The difference is that of signed 64-bit device
times, which a wrap leaves right (10 R361). -/
def armTime (target : Int) (now : Nat) : Option SeqSlot :=
  let t := ofInt 72 target
  let d := toInt 72 (t + 2 ^ 72 - now % 2 ^ 72)
  if d ≤ -(2 : Int) ^ 55 || (2 : Int) ^ 55 ≤ d then none
  else if d ≤ 4096 then some { armed := some t, fire := some (now + 4096, .late), raw := none, prev := some t }
  else some { armed := some t, fire := some (t, .onTime), raw := none, prev := some t }

/-- Arm a position compare at X from an instant: none when it is out of range (11 R408). -/
def armPosition (x : Encoder) (target now : Nat) (rev : Bool) : Option SeqSlot :=
  let d0 := diff32 (target / 256) (x.rawAt now)
  let d := if rev then -d0 else d0
  if (2 : Int) ^ 30 ≤ d || d ≤ -(2 : Int) ^ 30 then none
  else some { armed := some target, fire := if d ≤ 0 then some (now + 4096, .late) else none, raw := none, prev := some target }

/-- The raw count meets a target (11 R407). -/
def metRaw (x : Encoder) (c target : Nat) (rev : Bool) : Bool :=
  let d0 := diff32 c (target / 256)
  let d := if rev then -d0 else d0
  if x.st == .locked then 1 ≤ d else 0 ≤ d

/-- Change every armed position slot of a channel. -/
def State.mapSlots (s : State) (e : Nat) (f : Sequencer → Nat → Nat → SeqSlot → SeqSlot) : State :=
  { s with seqs := tabMap s.seqs (fun _ q =>
      { q with slots := tabMap q.slots (fun k y =>
          match y.armed with
          | some t => if q.slotPos k && q.slotEnc k = e then f q k t y else y
          | none => y) }) }

/-- A counting edge at a stamp: slots that the raw count meets fire at its visibility (11 R407). -/
def State.slotsOnEdge (s : State) (e visible : Nat) : State :=
  let x := s.enc e
  s.mapSlots e (fun q k t y =>
    if y.raw.isNone && metRaw x x.count t (q.slotRev k) then { y with raw := some visible } else y)

/-- A jump: slots that the new count meets fire 16 ns after it (11 R409). -/
def State.slotsOnJump (s : State) (e tj : Nat) : State :=
  let x := s.enc e
  s.mapSlots e (fun q k t y =>
    let d0 := diff32 x.count (t / 256)
    let d := if q.slotRev k then -d0 else d0
    if 0 ≤ d then { y with fire := some (tj + 4096, .late) } else y)

/-- The instant at which a LOCKED channel's line of positions meets a target that it moves towards: how long after the update tk, in
1/256 ns (11 R407, 12 R437). -/
def Encoder.meets (x : Encoder) (target : Nat) (rev : Bool) : Option Nat :=
  let d0 := diff56 (target * 2 ^ 16) x.p
  let d := if rev then -d0 else d0
  let v := if rev then -x.v else x.v
  if x.st != .locked || v ≤ 0 || d ≤ 0 then none else some (cdiv (d.toNat * 65536) v.toNat)

/-- The predicted fire of a slot at the update tk: the instant and how, and how short of its lead in ns (11 R407, 12 R437). -/
def State.predict (s : State) (x : Encoder) (q : Sequencer) (k target : Nat) : Option (Nat × FireHow × Nat) :=
  match x.meets target (q.slotRev k) with
  | none => none
  | some after =>
    let tk := 256 * x.tk
    let lead := if q.slotPre k then s.lead (s.target (q.slotLead k)).cfg else 0
    if lead + 256000 < after then none
    else if lead < after then some (alignUp 64 (tk + after - lead), .onTime, 0)
    else some (tk + 4096, .short, (lead + 4096 - after) / 256)

/-- An update: the predictions of the channel's slots are made anew; one that is due already stays (11 R407, 12 R437). -/
def State.slotsOnUpdate (s : State) (e : Nat) : State :=
  let x := s.enc e
  let go (y : SeqSlot) : Bool := match y.fire with | some f => 256 * x.tk < f.1 && f.2 == .onTime | none => true
  let shorts := s.seqs.flatMap (fun q => (List.range 8).filterMap (fun k =>
    match (q.2.slot k).armed with
    | some t => if q.2.slotPos k && q.2.slotEnc k = e && go (q.2.slot k) then
        (match s.predict x q.2 k t with | some (_, .short, n) => some (q.1, q.2.slotLead k, n) | _ => none) else none
    | none => none))
  let s1 := s.mapSlots e (fun q k t y =>
    if go y then { y with fire := (s.predict x q k t).map (fun r => (r.1, r.2.1)) } else y)
  shorts.foldl (fun t r => (t.tgCount r.2.1 10).tgLimited r.2.1 r.1 2 0x0607 (min r.2.2 (2 ^ 24 - 1))) s1

/-- The instant at which an armed slot fires, and how, as known now. -/
def SeqSlot.instant (y : SeqSlot) : Option (Nat × FireHow) :=
  match y.fire, y.raw with
  | some f, some r => if r < f.1 then some (r, .raw) else some f
  | some f, none => some f
  | none, some r => some (r, .raw)
  | none, none => none

/-! ### Counting (11 R388 to R391, R397, R398) -/

/-- One count of a channel at a stamp. -/
def State.countBy (s : State) (e i : Nat) (forward : Bool) : State :=
  let x := s.enc e
  let f := forward != x.cfg.reverse
  let c := if f then (x.count + 1) % 2 ^ 32 else (x.count + 2 ^ 32 - 1) % 2 ^ 32
  let m := if f then c else x.count
  (((s.captureEncoder e i (b2n !f) none).setEnc e ((x.push i c m).prune s.dt256)).divide e i 1 f).slotsOnEdge e (i + 320 * (x.cfg.filter + 4))

/-- A jump to a new count at tj (11 R398). -/
def State.encJump (s : State) (e tj new hi : Nat) : State :=
  let x := s.enc e
  let before := x.rawAt tj
  let delta := (new + 2 ^ 32 - before) % 2 ^ 32
  let move (c : Nat) : Nat := (c + delta) % 2 ^ 32
  let moveP (p : Nat) : Nat := (p + delta * 2 ^ 24) % 2 ^ 56
  -- The marks serve the observer alone, so they move with its P; the counts up to tj stay.
  let marked (d : CountEdge) : CountEdge := if d.jump then d else { d with mark := move d.mark }
  let later := (x.edges.filter (fun (d : CountEdge) => tj < d.stamp)).map
    (fun (d : CountEdge) => { marked d with count := move d.count })
  let jumpEdge : CountEdge := { stamp := tj, count := new % 2 ^ 32, mark := delta, jump := true }
  let after := (x.points.filter (fun (q : ObsPoint) => tj < q.stamp)).map (fun (q : ObsPoint) => { q with p := moveP q.p })
  let until_ := x.points.filter (fun (q : ObsPoint) => q.stamp ≤ tj)
  let here : ObsPoint := match until_.head? with
    | some q => { q with stamp := tj, p := moveP q.p }
    | none => { stamp := tj, st := x.st, p := moveP x.p, v := x.v, tk := x.tk }
  let y := { x with
    count := move x.count
    edges := later ++ jumpEdge :: (x.edges.filter (fun (d : CountEdge) => d.stamp ≤ tj)).map marked
    points := after ++ here :: until_
    p := moveP x.p
    readings := x.readings.map (fun (r : Nat × Nat × Nat) => (r.1, r.2.1, move r.2.2)) }
  let s1 := (s.setEnc e y).encRecord e tj 2 0x0503 hi (before + new % 2 ^ 32 * 2 ^ 32)
  (s1.journal (e + 16 * hi) 0x22 islandTrig (tj / 256) (leBytes 4 before ++ leBytes 4 new)).slotsOnJump e tj

/-! ### Sequencers (12 R425 to R429) -/

/-- The fabric slot that a happening kept busy is free again. -/
def State.freeSlot (s : State) (h : Hap) : State :=
  match h.from_ with
  | some (n, k) => s.setSlot n k { (s.channel n).slot k with busy := none }
  | none => s

/-- A happening is offered to a sequencer; a halted one discards it (12 R425, R426, 13 R455). -/
def State.offer (s : State) (q : Nat) (h : Hap) : State :=
  let x := s.seqr q
  let early := match x.startAt with | some i => h.at_ < i | none => false
  if x.running && !early then s.setSeq q { x with haps := x.haps ++ [h] } else s.freeSlot h

/-- A sequencer halts: every slot is disarmed, every timer stops, waiting happenings are discarded (12 R429). -/
def State.haltSeq (s : State) (q : Nat) : State :=
  let x := s.seqr q
  let y := { x with running := false, startAt := none, timers := [], haps := []
                    slots := tabMap x.slots (fun _ k => { k with armed := none, fire := none, raw := none }) }
  x.haps.foldl (fun t h => t.freeSlot h) (s.setSeq q y)

/-- A sequencer halts and says so. -/
def State.haltReport (s : State) (q : Nat) : State :=
  (s.haltSeq q).trigRecord none q 3 0x0601 ((s.seqr q).st * 4)

/-- Every running sequencer halts (12 R419). -/
def State.haltAll (s : State) : State :=
  (tabKeys s.seqs (fun x => x.running)).foldl (fun t q => t.haltReport q) s

/-- What a chain of transitions carries from the happening that started it (12 R438, R439). -/
structure Chain where
  pos : Bool
  how : FireHow
  slot : Nat
  deriving DecidableEq, Repr

/-- A refused action (12 R428). -/
def State.refuseAction (s : State) (q op arg : Nat) : State :=
  (s.seqCount q 0x23).seqLimited q 2 0x0603 (op + arg * 16)

/-- FIRE or FIRE_AT at f (12 R438). -/
def State.fireAction (s : State) (q g f width : Nat) (c : Chain) : State :=
  let raw := c.pos && c.how == .raw
  if raw && (s.seqr q).slotUnpred c.slot then ((s.tgCount g 7).tgLimited g q 2 0x0605 c.slot).journalFire g 5 f 0 0
  else
    let s1 := if raw then s.tgCount g 11 else s
    s1.decideFire g q f width (if raw then 2 ^ 11 else 0) c.pos

/-- ARM: slot k of sequencer q has been armed at a stamp (16 R546). -/
def State.journalArm (s : State) (q k a : Nat) : State :=
  let x := s.seqr q
  let tgt := (x.slot k).armed.getD 0
  s.journal k 0x30 islandTrig (a / 256)
    (leBytes 1 q ++ leBytes 1 (b2n (x.slotPos k) + 2 * b2n (x.slotRev k)) ++ leBytes 1 (tgt % 256) ++ zeros 5 ++ leBytes 8 (tgt / 256))

/-- The ARM action (12 R423, R428). -/
def State.armAction (s : State) (q k : Nat) (prev : Bool) (const : Int) (a : Nat) : Option State :=
  let x := s.seqr q
  let put (y : Option SeqSlot) : Option State :=
    y.map (fun z => (s.setSeq q { x with slots := tabPut x.slots k z }).journalArm q k a)
  if x.slotPos k then
    let e := s.enc (x.slotEnc k)
    let low := ofInt 40 const
    if e.cfg.mode = 0 || toInt 40 low != const then none
    else
      let base := if prev then (x.slot k).prev
        else (e.posAt (x.slotEnc k) a).map (fun p => p.count * 256 + p.frac)
      match base with
      | none => none
      | some b => put (armPosition e ((b + low) % 2 ^ 40) a (x.slotRev k))
  else
    let base := if prev then (x.slot k).prev else some a
    match base with
    | none => none
    | some b => put (armTime (b + const * 256) a)

/-- One action word at the instant a; the second part says that it is HALT, the third a counter that reached 0. -/
def State.action (s : State) (q word a : Nat) (c : Chain) : State × Bool × Option Nat :=
  let x := s.seqr q
  let op := word % 16
  let arg := nbits word 4 3
  let flag := nbit word 7
  let const := x.const (nbits word 8 4)
  let idx := nbits word 16 8
  let long := 0 ≤ const && const < (2 : Int) ^ 47
  let no := (s.refuseAction q op arg, false, none)
  match op with
  | 1 => (s.fireAction q idx a (if flag then ofInt 32 const else (s.target idx).cfg.width) c, false, none)
  | 2 => if long then (s.fireAction q idx (a + 256 * const.toNat) (s.target idx).cfg.width c, false, none) else no
  | 3 => match s.armAction q arg flag const a with | some t => (t, false, none) | none => no
  | 4 => (s.setSeq q { x with slots := tabPut x.slots arg { x.slot arg with armed := none, fire := none, raw := none } }, false, none)
  | 5 =>
    if long && 40 ≤ const then
      let p := 256 * const.toNat
      (s.setSeq q { x with timers := tabPut x.timers arg ⟨a + p, if flag then some p else none⟩ }, false, none)
    else no
  | 6 => (s.setSeq q { x with timers := tabDel x.timers arg }, false, none)
  | 7 =>
    let ch := s.channel idx
    if ch.prodKind = 5 && ch.prodIndex = q && ch.owner != 7 && s.mode != .dark then (s.emitOn idx a 5120, false, none)
    else (s.seqCount q 0x24, false, none)
  | 8 => (s.setSeq q { x with c := tabPut x.c arg (ofInt 32 const) }, false, none)
  | 9 =>
    let v := tabGet 0 x.c arg
    let w := (v + 2 ^ 32 - 1) % 2 ^ 32
    (s.setSeq q { x with c := tabPut x.c arg w }, false, if v = 1 then some arg else none)
  | 10 => (s, true, none)
  | _ => (s, false, none)

/-- A happening matches a source (12 R422, R426). -/
def Hap.matches (h : Hap) (src : Nat × Nat × Nat) : Bool :=
  src.1 = h.kind && src.2.1 = h.index &&
    (h.kind != 3 || src.2.2 = 2 || (src.2.2 = 0 && h.rising) || (src.2.2 = 1 && !h.rising))

/-- The lowest-numbered transition of the current state that matches, with the happening it takes, if that is no ALWAYS. -/
def Sequencer.pick (x : Sequencer) (haps : List Hap) (always : Bool) : Option (Nat × Option Hap) :=
  firstSome ((List.range 4).map (fun j =>
    let src := x.source (x.st, j)
    if src.1 = 0 then none
    else if src.1 = 6 then (if always then some (j, none) else none)
    else (haps.find? (fun h => h.matches src)).map (fun h => (j, some h))))

/-- Transitions of one instant (12 R426): n counts down from 9, and the ninth halts the sequencer with SEQ_FAULT. The
happenings left over are returned with the state and whether a transition was taken. -/
def State.runInstant (q a : Nat) : Nat → State → List Hap → Bool → Chain → Bool → State × List Hap × Bool
  | 0, s, haps, _, _, took => (s, haps, took)
  | n + 1, s, haps, always, chain, took =>
    match (s.seqr q).pick haps always with
    | none => (s, haps, took)
    | some (j, h) =>
      if n = 0 then
        (((s.trigRecord none q 1 0x0602 ((s.seqr q).st * 4))).haltSeq q, haps, true)
      else
        let c : Chain := match h with | some x => ⟨x.pos, x.how, x.slot⟩ | none => chain
        let x := s.seqr q
        let st := x.st
        let s0 := match h with | some y => s.freeSlot y | none => s
        let new := lbits x.image (transOff st j + 3) 1 0 6
        let src := x.source (st, j)
        let s1 := ((s0.setSeq q { s0.seqr q with st := new }).seqCount q 0x21).journal new 0x32 islandTrig (a / 256)
          (leBytes 1 q ++ leBytes 1 j ++ leBytes 1 st ++ leBytes 1 src.1 ++ leBytes 2 src.2.1)
        let r := (List.range 3).foldl (fun (acc : State × Bool × List Hap) w =>
          let o := acc.1.action q (x.action st j w) a c
          (o.1, acc.2.1 || o.2.1, match o.2.2 with
            | some k => acc.2.2 ++ [{ kind := 5, index := k, rising := false, at_ := a, pos := c.pos, how := c.how
                                      slot := c.slot, from_ := none }]
            | none => acc.2.2)) (s1, false, [])
        let rest := match h with | some y => haps.erase y | none => haps
        if r.2.1 then (r.1.haltReport q, rest ++ r.2.2, true)
        else State.runInstant q a n r.1 (rest ++ r.2.2) true c true

/-- Offer the happenings of one instant, taken at instant a; what matches nothing is discarded and counted (12 R426, R427). -/
def State.takeInstant (s : State) (q a : Nat) (haps : List Hap) (always : Bool) : State :=
  let r := State.runInstant q a 9 s haps always ⟨false, .onTime, 0⟩ false
  let s1 := r.2.1.foldl (fun t h => (t.freeSlot h).seqCount q 0x22) r.1
  if r.2.2 then s1.setSeq q { s1.seqr q with busyUntil := a + 2560 } else s1

/-- Halt sequencers, cut pulses and cancel fires on entry to Dark: every output line goes to SAFE (12 R442). -/
def State.gioSafe (s : State) : State :=
  let s1 := { s with targets := tabMap s.targets (fun _ x => { x with pend := [], held := none, pulse := none })
                     lanes := tabMap s.lanes (fun _ x => { x with trigs := [] }) }
  let s2 := (tabKeys s1.gio (fun x => x.dir = 1)).foldl (fun t g =>
    let x := t.gioLine g
    if x.safe = 2 then t.setGio g { x with driven := false } else t.drive g t.dt256 (x.safe = 1)) s1
  { s2 with dark := { s2.dark with safe := true } }

end Sys2Proof.Machine
end

