-- ==== Sys2Proof/Machine/Fabric.lean ====
section
/-!
DEFINITION. EVENT_BIND, EVENT_RELEASE and the PERIODIC producer (13_event_fabric).
-/

namespace Sys2Proof.Machine

/-! ### Owners (13 R460 to R462) -/

/-- The channel is free, or port p owns it or the Lantern that owns it. -/
def State.channelMine (s : State) (n p : Nat) : Bool :=
  let x := s.channel n
  x.owner = 7 || x.owner = p || (x.owner = 5 && (s.lantern x.lantern).owner = some p)

/-- NOT_OWNER when the channel has another owner (13 R467). -/
def State.channelStatus (s : State) (n p : Nat) : Option Status :=
  if s.channelMine n p then none else some (Status.notOwner (s.channel n).owner)

/-- The owner of the resource that a producer names (13 R461). -/
def State.prodOwner (s : State) (kind index : Nat) : Option Nat :=
  match kind with
  | 2 => (s.gioLine index).owner
  | 3 => (s.enc index).owner
  | 4 => (s.enc index).owner
  | 5 => (s.seqr index).owner
  | 6 => (s.target index).owner
  | 9 => (tabGet Sconce.reset s.sconces index).owner
  | 10 => (tabGet Sconce.reset s.sconces index).owner
  | 11 => (tabGet Stream.reset s.streams index).owner
  | _ => none

/-- The owner of the resource that a consumer names (13 R461). -/
def State.consOwner (s : State) (kind index arg : Nat) : Option Nat :=
  match kind with
  | 1 => some (index / 1024)
  | 2 => (s.lantern index).owner
  | 3 => (s.seqr index).owner
  | 4 => if arg = 0 then (tabGet Stream.reset s.streams index).owner else none
  | 5 => (s.group index).owner
  | _ => none

/-- A group that no port owns becomes owned by the port that names it (13 R461). -/
def State.takeGroup (s : State) (g p : Nat) : State :=
  let x := s.group g
  if x.owner.isNone then s.setGroup g { x with owner := some p } else s

/-! ### Records (13 R472) -/

/-- The port whose ring 1 takes a channel's records: none while no port owns the Lantern that owns it. -/
def State.channelHome (s : State) (n : Nat) : Option Nat :=
  let x := s.channel n
  if x.owner = 5 then (s.lantern x.lantern).owner else if x.owner < 4 then some x.owner else none

/-- An event lost at slot k of channel n: EVENT_LOST with its cause bits, at most once in 100 ms for a slot, and only while a port takes the
channel's records. The second part says that it has been written. -/
def State.eventLost (s : State) (n k kind bits : Nat) : State × Bool :=
  let x := s.channel n
  let last := tabFind x.reports (k % 8)
  let count := (match last with | some r => r.2 | none => 0) + 1
  let due : Bool := match last with | some r => r.1 + 100000000 ≤ s.ns | none => true
  match s.channelHome n with
  | some p =>
    if due then
      ((s.setChannel n { x with reports := tabPut x.reports (k % 8) (s.ns, 0) }).record p 1 2 0x0702 islandNoc (n + k % 8 * 2 ^ 8)
        (kind + bits + min count (2 ^ 32 - 1) * 2 ^ 32), true)
    else (s.setChannel n { x with reports := tabPut x.reports (k % 8) ((match last with | some r => r.1 | none => 0), count) }, false)
  | none => (s, false)

/-! ### BIND (13 R465 to R467) -/

/-- Slot k of a BIND: KIND, INDEX and ARG. -/
def bindSlot (e : Entry) (k : Nat) : Nat × Nat × Nat :=
  let o := 0x18 + 4 * k
  (bitsAt e o 2 0 4, bitsAt e o 2 4 12, fld e (o + 2) 1)

/-- The layout of a consumer slot (13 R452, R466). -/
def bindSlotChecks (e : Entry) (k : Nat) : List Chk :=
  let o := 0x18 + 4 * k
  let x := bindSlot e k
  [enc o (6 ≤ x.1), (o, 0, x.1 = 0 && x.2.1 != 0), (o + 2, 0, (x.1 = 0 || x.1 = 1 || x.1 = 3) && x.2.2 != 0),
    enc (o + 2) ((x.1 = 2 && 32 ≤ x.2.2) || (x.1 = 4 && 2 ≤ x.2.2) || (x.1 = 5 && 3 ≤ x.2.2)), rsv e (o + 3) 1 0 8]

/-- INDEX of a consumer slot is out of its range (13 R452). -/
def bindSlotRange (e : Entry) (k : Nat) : Nat × Bool :=
  let x := bindSlot e k
  (0x18 + 4 * k, (x.1 = 2 && 64 ≤ x.2.1) || (x.1 = 3 && 32 ≤ x.2.1) ||
    (x.1 = 4 && (if x.2.2 = 0 then 2048 else 8) ≤ x.2.1) || (x.1 = 5 && 16 ≤ x.2.1))

/-- Slot k repeats an earlier one (13 R467). -/
def bindSlotTwice (e : Entry) (k : Nat) : Nat × Bool :=
  (0x18 + 4 * k, (bindSlot e k).1 != 0 && (List.range k).any (fun j => bindSlot e j = bindSlot e k))

/-- The number of resources of a producer kind, 0 when its INDEX is reserved (13 R451). -/
def prodCount (kind : Nat) : Nat := [0, 0, 48, 16, 16, 32, 256, 0, 0, 512, 512, 2048, 8].getD kind 0

/-- The layout of BIND (13 R465). -/
def bindLayout (e : Entry) : List Chk :=
  let kind := bitsAt e 0xC 1 0 4
  let arg := fld e 0xD 1
  let args := if kind = 2 || kind = 4 then 3 else if kind = 8 then 2 else 0
  [rsv e 8 1 3 5, rsv e 0xA 1 2 6, rsv e 0xB 1 6 2, (0xB, 0, !bitAt e 0xA 1 && bitsAt e 0xB 1 0 6 != 0), rsv e 0xC 1 4 4,
    enc 0xC (0xD ≤ kind), (0xD, 0, args = 0 && arg != 0), enc 0xD (args != 0 && args ≤ arg), rsvIf (prodCount kind = 0) e 0xE 2,
    enc 0x10 (17 ≤ bitsAt e 0x10 1 0 5), rsv e 0x10 1 5 3, rsv e 0x11 1 0 8, rsv e 0x12 1 0 8, rsv e 0x13 1 0 8,
    rsvIf (kind != 7) e 0x14 4] ++ (List.range 8).flatMap (bindSlotChecks e)

/-- The checks of EVENT_BIND BIND (13 R467). -/
def bindChecks (c : RingCmd) (s : State) : Checks :=
  let e := c.e
  let n := fld e 9 1
  let secure := bitAt e 0xA 0
  let lt := bitsAt e 0xB 1 0 6
  let kind := bitsAt e 0xC 1 0 4
  let index := fld e 0xE 2
  let group := bitsAt e 0x10 1 0 5
  let other (o : Option Nat) : Option Status := if secure then none else ownerStatus o c.p
  let slots := (List.range 8).map (bindSlot e)
  { layout := bindLayout e
    ranges := [(0xE, prodCount kind != 0 && prodCount kind ≤ index), (0x14, kind = 7 && fld e 0x14 4 < 40)] ++
      (List.range 8).map (bindSlotRange e) ++ (List.range 8).map (bindSlotTwice e)
    rings := firstSome ((List.range 8).map (fun k =>
      let x := bindSlot e k
      let r := s.ring (x.2.1 / 1024) (x.2.1 % 1024)
      if x.1 = 1 && !(r.live && r.kind = 2) then some (Status.badRing x.2.1 (0x18 + 4 * k)) else none))
    owner := firstSome ([s.channelStatus n c.p, if secure then s.claimStatus c.p else none, other (s.prodOwner kind index)] ++
      slots.map (fun x => other (s.consOwner x.1 x.2.1 x.2.2)) ++
      [if group = 0 then none else other (s.group (group - 1)).owner,
       if bitAt e 0xA 1 && (s.lantern lt).owner != some c.p then some (Status.notOwner 5) else none])
    state := if !secure && (kind = 0xC || slots.any (fun x => x.1 = 4 && x.2.2 = 1)) then some (s.badState 0x40) else none }

/-- A slot of a replaced binding: unchanged, it keeps its pending event and counters (13 R467). -/
def rebindSlot (old : Slot) (x : Nat × Nat × Nat) : Slot :=
  if old.kind = x.1 && old.index = x.2.1 && old.arg = x.2.2 then old
  else { Slot.reset with kind := x.1, index := x.2.1, arg := x.2.2 }

/-- Slot k leaves the binding of channel n. While events of its consumer are on their way, keep it busy or pend, it goes on under a number
of its own, so that they reach the consumer they were bound to (13 R467, R470); `keep` says that a pending event stays. -/
def State.retireSlot (keep : Bool) (s : State) (n k : Nat) : State :=
  let x := s.channel n
  let y := x.slot k
  let m := k + 8 * (x.past.length + 1)
  let busy := y.busy.isSome || (keep && y.pending.isSome) || s.flights.any (fun f => f.ch = n && f.slot = k)
  let old := if busy then tabPut x.past m { y with pending := if keep then y.pending else none } else x.past
  let s1 := s.setChannel n { x with slots := tabDel x.slots k, past := old }
  { s1 with
    flights := s1.flights.map (fun f => if f.ch = n && f.slot = k then { f with slot := m } else f)
    seqs := tabMap s1.seqs (fun _ q => { q with haps := q.haps.map (fun h =>
      if h.from_ = some (n, k) then { h with from_ := some (n, m) } else h) }) }

/-- The period last passed at an instant in ns, for the PERIODIC producer. -/
def tickAt (period now : Nat) : Option Nat :=
  if period = 0 || now = 0 then none else some (alignUp period now - period)

/-- BIND accepted (13 R467). -/
def State.bind (s : State) (p n : Nat) (e : Entry) : State :=
  let x := s.channel n
  let period := fld e 0x14 4
  let owned := bitAt e 0xA 1
  let changed := (List.range 8).filter (fun k =>
    (x.slot k).kind != 0 && !((x.slot k).kind = (bindSlot e k).1 && (x.slot k).index = (bindSlot e k).2.1 && (x.slot k).arg = (bindSlot e k).2.2))
  let s0 := changed.foldl (fun t k => t.retireSlot false n k) s
  let z := s0.channel n
  let base := if x.owner = 7 then { Channel.reset with past := z.past, reports := z.reports } else z
  let new : Tab Slot := ((List.range 8).map (fun k => (k, rebindSlot (base.slot k) (bindSlot e k)))).filter (fun k => k.2.kind != 0)
  let y := { base with
    owner := if owned then 5 else p, secure := bitAt e 0xA 0, lantern := bitsAt e 0xB 1 0 6, prodKind := bitsAt e 0xC 1 0 4
    prodArg := fld e 0xD 1, prodIndex := fld e 0xE 2, group := bitsAt e 0x10 1 0 5, period := period
    slots := new, tick := if period = x.period && x.owner != 7 then x.tick else tickAt period s.dt }
  let s2 := (changed.filter (fun k => (x.slot k).pending.isSome)).foldl (fun t k => (t.eventLost n k (x.slot k).kind (2 ^ 9)).1)
    (s0.setChannel n y)
  let groups := (if y.group = 0 then [] else [y.group - 1]) ++ (new.filter (fun k => k.2.kind = 5)).map (fun k => k.2.index)
  groups.foldl (fun t g => t.takeGroup g p) s2

/-- What an accepted EVENT_BIND BIND (13 R465 to R467) does. -/
def eventBindEffect (c : RingCmd) (s : State) : State × Done :=
  (s.bind c.p (fld c.e 9 1) c.e, .ok)

/-- EVENT_BIND BIND (13 R465 to R467). -/
def execEventBind (t : Nat) (c : RingCmd) (s : State) : Host.Outcome State Fault Refusal :=
  (s.elapse t).command c 0x40 (bindChecks c) (eventBindEffect c)

/-! ### SIGNAL, GROUPS, STATUS and release (13 R468 to R470) -/

/-- The checks of EVENT_BIND SIGNAL (13 R468). -/
def eventSignalChecks (c : RingCmd) (s : State) : Checks :=
  let n := fld c.e 9 1
  { layout := rsv c.e 8 1 3 5 :: restRsv c.e [(8, 2)]
    owner := firstSome [s.channelStatus n c.p, if (s.channel n).owner = 7 then some (Status.notOwner 7) else none]
    state := if (s.channel n).prodKind = 1 then none else some (s.badState 0x41) }

/-- What an accepted EVENT_BIND SIGNAL (13 R468) does. -/
def eventSignalEffect (c : RingCmd) (s : State) : State × Done :=
  let n := fld c.e 9 1
  (s.emitOn n (256 * s.dt) 51200, .ok)

/-- EVENT_BIND SIGNAL (13 R468). -/
def execEventSignal (t : Nat) (c : RingCmd) (s : State) : Host.Outcome State Fault Refusal :=
  (s.elapse t).command c 0x40 (eventSignalChecks c) (eventSignalEffect c)

/-- The checks of EVENT_BIND GROUPS (13 R468). -/
def eventGroupsChecks (c : RingCmd) (s : State) : Checks :=
  let set := fld c.e 0xC 2
  let clr := fld c.e 0xE 2
  let named := (List.range 16).filter (fun g => nbit set g || nbit clr g)
  { layout := rsv c.e 8 1 3 5 :: restRsv c.e [(8, 1), (0xC, 4)], ranges := [(0xC, set &&& clr != 0)]
    owner := firstSome (named.map (fun g => ownerStatus (s.group g).owner c.p)) }

/-- What an accepted EVENT_BIND GROUPS (13 R468) does. -/
def eventGroupsEffect (c : RingCmd) (s : State) : State × Done :=
  let set := fld c.e 0xC 2
  let clr := fld c.e 0xE 2
  let named := (List.range 16).filter (fun g => nbit set g || nbit clr g)
  (named.foldl (fun t g => (t.takeGroup g c.p).switchGroup g (256 * t.dt) (if nbit set g then 0 else 1)) s, .ok)

/-- EVENT_BIND GROUPS (13 R468). -/
def execEventGroups (t : Nat) (c : RingCmd) (s : State) : Host.Outcome State Fault Refusal :=
  (s.elapse t).command c 0x40 (eventGroupsChecks c) (eventGroupsEffect c)

/-- The status block of a channel (13 R469). -/
def State.channelBlock (s : State) (n : Nat) : List Byte :=
  let x := s.channel n
  let free := x.owner = 7
  let now := 256 * s.dt
  let on : Bool := x.group = 0 || s.groupAt (x.group - 1) now
  leBytes 1 n ++ leBytes 1 (x.owner + b2n x.secure * 8 + b2n on * 16) ++ leBytes 1 (if x.owner = 5 then x.lantern else 0) ++
  leBytes 1 (if free then 0 else x.prodKind) ++ leBytes 2 (if free then 0 else x.prodIndex) ++
  leBytes 1 (if free then 0 else x.group) ++ leBytes 1 (sumL ((List.range 8).map (fun k => b2n (x.slot k).pending.isSome * 2 ^ k))) ++
  leBytes 8 s.dt ++ leBytes 4 x.events ++ leBytes 4 x.gated ++ leBytes 4 x.overrun ++
  leBytes 2 (sumL ((List.range 16).map (fun g => b2n (s.groupAt g now) * 2 ^ g))) ++ zeros 2 ++
  (List.range 8).flatMap (fun k => leBytes 4 (x.slot k).lost)

/-- The checks of EVENT_BIND STATUS (13 R468, R469). -/
def eventStatusChecks (c : RingCmd) (s : State) : Checks :=
  let n := fld c.e 9 1
  let va := bufferVa c.e 0x10
  { layout := [rsv c.e 8 1 3 5, bufferChk c.e 0x10] ++ restRsv c.e [(8, 2), (0x10, 8)], ranges := [(0x10, va % 64 != 0)]
    owner := s.channelStatus n c.p, handles := s.addrStatus c.p va 64 0x10 }

/-- What an accepted EVENT_BIND STATUS (13 R468, R469) does. -/
def eventStatusEffect (c : RingCmd) (s : State) : State × Done :=
  let n := fld c.e 9 1
  let va := bufferVa c.e 0x10
  s.queueBlock c va (s.channelBlock n)

/-- EVENT_BIND STATUS (13 R468, R469). -/
def execEventStatus (t : Nat) (c : RingCmd) (s : State) : Host.Outcome State Fault Refusal :=
  (s.elapse t).command c 0x40 (eventStatusChecks c) (eventStatusEffect c)

/-- A channel is freed: what was stamped before is still delivered, pending events included (13 R470). -/
def State.freeChannel (s : State) (n : Nat) : State :=
  let s1 := (List.range 8).foldl (fun t k => t.retireSlot true n k) s
  let x := s1.channel n
  s1.setChannel n { Channel.reset with
    past := x.past, reports := x.reports, events := x.events, gated := x.gated, overrun := x.overrun }

/-- The checks of EVENT_RELEASE (13 R470). -/
def eventReleaseChecks (c : RingCmd) (s : State) : Checks :=
  let n := fld c.e 9 1
  { layout := restRsv c.e [(9, 1)], owner := s.channelStatus n c.p
    state := if (s.channel n).owner = 7 then some (s.badState 0x43) else none }

/-- What an accepted EVENT_RELEASE (13 R470) does. -/
def eventReleaseEffect (c : RingCmd) (s : State) : State × Done :=
  let n := fld c.e 9 1
  (s.freeChannel n, .ok)

/-- EVENT_RELEASE (13 R470). -/
def execEventRelease (t : Nat) (c : RingCmd) (s : State) : Host.Outcome State Fault Refusal :=
  (s.elapse t).command c 0x41 (eventReleaseChecks c) (eventReleaseEffect c)

/-- PERIODIC: the next whole multiple of PERIOD has been reached (13 R451). -/
def execPeriodic (t : Nat) (ch : Fin 256) (s : State) : Host.Outcome State Fault Refusal :=
  let s1 := s.elapse t
  let x := s1.channel ch
  let next := match x.tick with | some k => k + x.period | none => 0
  if x.prodKind = 7 && x.owner != 7 && s1.mode != .dark && s1.mode != .keep && s1.reached (256 * next) then
    .next ((s1.setChannel ch { x with tick := some next }).emitOn ch (256 * next) 0)
  else .next s1

end Sys2Proof.Machine
end

