-- ==== Sys2Proof/Machine/Pixels.lean ====
section
/-!
DEFINITION. Corrections and statistics (06): pure functions of a frame's lines and the parameter groups in force at its
boundary. A stage maps lines to lines and gives, for each pixel, a number that says what it counted.
-/

namespace Sys2Proof.Machine

/-- A parameter group in force for the frame (05 R211). -/
def Frame.grp (f : Frame) (g : Nat) : List Byte := tabGet (zeros 32) f.par g

/-- A table in force for the frame, empty when none is named. -/
def Frame.img (f : Frame) (k : Nat) : List Byte := (tabFind f.images k).getD []

/-- WIDTH (05 R210). -/
def Frame.width (f : Frame) : Nat := lfld (f.grp 1) 0 2

/-- The element at column x of line y; 0 outside. -/
def pxAt (ls : List Line) (x y : Nat) : Nat :=
  match ls[y]? with
  | some l => l.pix.getD x 0
  | none => 0

/-- Run a per-pixel stage: its value and its count code for column x, line y, the line and the value. -/
def runStage (ls : List Line) (g : Nat → Nat → Line → Nat → Nat × Nat) : List Line × List Nat :=
  let r := ls.zipIdx.map (fun p => (p.1, p.1.pix.zipIdx.map (fun q => g q.2 p.2 p.1 q.1)))
  (r.map (fun p => { p.1 with pix := p.2.map (·.1) }), (r.map (fun p => p.2.map (·.2))).flatten)

/-- A pixel was padded by frame assembly (06 R222). -/
def Line.padded (l : Line) (x : Nat) : Bool := l.padFrom ≤ x

/-- The working value x16 (06 R220). -/
def toWorking (d : Nat) (ls : List Line) : List Line :=
  ls.map (fun l => { l with pix := l.pix.map (fun v => v * 2 ^ (16 - d)) })

/-- Channel of the pixel at (x, y) under the channel map of group 0x02 (06 R224). -/
def channelAt (g : List Byte) (x y : Nat) : Nat :=
  let u := (x + lbits g 1 1 0 3) % (lbits g 0 1 0 3 + 1)
  let v := (y + lbits g 1 1 4 3) % (lbits g 0 1 4 3 + 1)
  nbits (lfld g 0x10 16) (2 * (8 * v + u)) 2

/-! ### Black level (06 R226 to R228) -/

/-- Count codes: 1 CLIP_LOW, 2 CLIP_HIGH, 3 DPC_STATIC, 4 DPC_DYNAMIC, 5 DPC_UNCORRECTED. -/
def blackPixel (g2 g3 col : List Byte) (x y : Nat) (l : Line) (v : Nat) : Nat × Nat :=
  if lbits g3 0 1 0 1 = 0 || l.padded x then (v, 0)
  else
    let c := channelAt g2 x y
    let off : Int := if lbits g3 0 1 1 1 = 1 && x < lfld col 0x20 2 then toInt 16 (lfld col (0x40 + 2 * x) 2) else 0
    let r : Int := (v : Int) - lfld g3 (4 + 2 * c) 2 - off + lfld g3 2 2
    if r < 0 then (0, 1) else if 65535 < r then (65535, 2) else (r.toNat, 0)

/-- The black-level stage. -/
def blackLevel (f : Frame) (ls : List Line) : List Line × List Nat :=
  runStage ls (blackPixel (f.grp 2) (f.grp 3) (f.img 3))

/-! ### Defective pixels (06 R229 to R235) -/

/-- Insert into an ascending list. -/
def insertSorted (v : Nat) : List Nat → List Nat
  | [] => [v]
  | a :: t => if v ≤ a then v :: a :: t else a :: insertSorted v t

/-- Values in ascending order. -/
def sortNat (l : List Nat) : List Nat := l.foldr insertSorted []

/-- Mean of two values, rounded as 06 R230 gives. -/
def mean2 (a b : Nat) : Nat := (a + b + 1) / 2

/-- The median of values (06 R230). -/
def median (l : List Nat) : Nat :=
  let t := sortNat l
  let n := t.length
  if n % 2 = 1 then t.getD ((n - 1) / 2) 0 else mean2 (t.getD (n / 2 - 1) 0) (t.getD (n / 2) 0)

/-- The entries of a static defect map: column, line and method (06 R231). -/
def defectEntries (img : List Byte) : List (Nat × Nat × Nat) :=
  (List.range (lfld img 0x20 4)).map (fun k =>
    (lbits img (0x40 + 8 * k) 2 0 15, lfld img (0x42 + 8 * k) 3, lbits img (0x45 + 8 * k) 1 0 2))

/-- METHOD of the entry that names a pixel, a point entry before a column entry (06 R233). -/
def defectMethod (es : List (Nat × Nat × Nat)) (x y : Nat) : Option Nat :=
  match es.find? (fun e => e.1 == x && e.2.1 == y && y != 0xFFFFFF) with
  | some e => some e.2.2
  | none => (es.find? (fun e => e.1 == x && e.2.1 == 0xFFFFFF)).map (·.2.2)

/-- The value of a valid neighbour of channel c (06 R229), if (x, y) is one. -/
def neighbour (ls : List Line) (g2 : List Byte) (es : List (Nat × Nat × Nat)) (c : Nat) (x y : Int) : Option Nat :=
  if x < 0 || y < 0 then none
  else match ls[y.toNat]? with
    | none => none
    | some l =>
      if l.pix.length ≤ x.toNat || l.padded x.toNat || channelAt g2 x.toNat y.toNat != c ||
          (defectMethod es x.toNat y.toNat).isSome then none
      else some (l.pix.getD x.toNat 0)

/-- Offsets −n to n. -/
def offsets (n : Nat) : List Int := (List.range (2 * n + 1)).map (fun k => (k : Int) - n)

/-- One pixel of the defect stage: its replacement or itself. -/
def defectPixel (ls : List Line) (g2 g4 : List Byte) (es : List (Nat × Nat × Nat)) (x y : Nat) (l : Line) (v : Nat) :
    Nat × Nat :=
  if l.padded x then (v, 0)
  else
    let c := channelAt g2 x y
    let nb := fun (dx dy : Int) => neighbour ls g2 es c (x + dx) (y + dy)
    let win := ((offsets 2).map (fun dy => (offsets 2).filterMap (fun dx => if dx = 0 && dy = 0 then none else nb dx dy))).flatten
    let viaMedian : Nat × Nat := if 2 ≤ win.length then (median win, 3) else (v, 5)
    let pair (a b : Option Nat) : Nat × Nat :=
      match a, b with
      | some p, some q => (mean2 p q, 3)
      | some p, none => (p, 3)
      | none, some q => (q, 3)
      | none, none => viaMedian
    match defectMethod es x y with
    | some 1 => pair (firstSome [nb (-1) 0, nb (-2) 0]) (firstSome [nb 1 0, nb 2 0])
    | some 2 => pair (firstSome [nb 0 (-1), nb 0 (-2)]) (firstSome [nb 0 1, nb 0 2])
    | some _ => viaMedian
    | none =>
      if win.length < 4 then (v, 0)
      else
        let m := median win
        let lo := minD 65535 win
        let hi := maxL win
        let rel := lfld g4 1 1 * m / 256
        if (lbits g4 0 1 1 1 = 1 && hi + lfld g4 2 2 + rel < v) || (lbits g4 0 1 2 1 = 1 && v + lfld g4 4 2 + rel < lo)
        then (m, 4) else (v, 0)

/-- The defect stage. -/
def defects (f : Frame) (ls : List Line) : List Line × List Nat :=
  let g4 := f.grp 4
  if lbits g4 0 1 0 3 = 0 then (ls, [])
  else runStage ls (defectPixel ls (f.grp 2) g4 (if lbits g4 0 1 0 1 = 1 then defectEntries (f.img 4) else []))

/-! ### Lens shading (06 R236 to R238) -/

/-- Node gain of channel c (06 R237). -/
def gridGain (t : List Byte) (c i j : Nat) : Nat :=
  let gx := lfld t 0x20 1
  let gy := lfld t 0x21 1
  lfld t (0x40 + 2 * ((c * gy + min j (gy - 1)) * gx + min i (gx - 1))) 2

/-- One pixel of the shading stage. -/
def shadePixel (g2 t : List Byte) (x y : Nat) (l : Line) (v : Nat) : Nat × Nat :=
  let c := channelAt g2 x y
  if l.padded x || lbits t 0x23 1 0 3 ≤ c then (v, 0)
  else
    let gx := lfld t 0x20 1
    let gy := lfld t 0x21 1
    let kw := lbits t 0x22 1 0 4
    let kh := lbits t 0x22 1 4 4
    let endX : Bool := gx - 1 ≤ x / 2 ^ kw
    let endY : Bool := gy - 1 ≤ y / 2 ^ kh
    let i := if endX then gx - 1 else x / 2 ^ kw
    let fx := if endX then 0 else x % 2 ^ kw
    let j := if endY then gy - 1 else y / 2 ^ kh
    let fy := if endY then 0 else y % 2 ^ kh
    let n := gridGain t c
    let num := (n i j * (2 ^ kw - fx) + n (i + 1) j * fx) * (2 ^ kh - fy) +
      (n i (j + 1) * (2 ^ kw - fx) + n (i + 1) (j + 1) * fx) * fy
    let g := (num + 2 ^ (kw + kh - 1)) / 2 ^ (kw + kh)
    let r := (v * g + 2 ^ 13) / 2 ^ 14
    if 65535 < r then (65535, 2) else (r, 0)

/-- The shading stage. -/
def shading (f : Frame) (ls : List Line) : List Line × List Nat :=
  if lbits (f.grp 5) 0 1 0 1 = 0 then (ls, []) else runStage ls (shadePixel (f.grp 2) (f.img 5))

/-- The three corrections on lines at tap 0's output: y3, and the count codes of every pixel. -/
def corrections (f : Frame) (ls : List Line) : List Line × List Nat :=
  let a := blackLevel f (toWorking f.depth ls)
  let b := defects f a.1
  let c := shading f b.1
  (c.1, a.2 ++ b.2 ++ c.2)

/-! ### Statistics (06 R240 to R244) -/

/-- How often a code was counted, saturating at 32 bits. -/
def codeCount (codes : List Nat) (k : Nat) : Nat := min (2 ^ 32 - 1) ((codes.filter (· == k)).length)

/-- The unpadded pixels of a frame with channel and value, inside columns [x0, x1) and lines [y0, y1). -/
def pixelsIn (g2 : List Byte) (ls : List Line) (x0 x1 y0 y1 : Nat) : List (Nat × Nat) :=
  (ls.zipIdx.map (fun p =>
    if y0 ≤ p.2 && p.2 < y1 then
      p.1.pix.zipIdx.filterMap (fun q =>
        if x0 ≤ q.2 && q.2 < x1 && !p.1.padded q.2 then some (channelAt g2 q.2 p.2, q.1) else none)
    else [])).flatten

/-- Channels of a 4-bit mask, ascending. -/
def maskBits (m : Nat) : List Nat := (List.range 4).filter (fun k => nbit m k)

/-- The histogram bins of a channel, not saturated. -/
def histogramOf (pxs : List (Nat × Nat)) (c : Nat) : List Nat :=
  let vs := (pxs.filter (·.1 == c)).map (·.2)
  (List.range 256).map (fun b => (vs.filter (fun v => v / 256 == b)).length)

/-- Statistics are due for the frame (06 R243). -/
def Frame.hasStats (f : Frame) : Bool := lbits (f.grp 6) 0 1 0 1 = 1 || lbits (f.grp 6) 0 1 2 1 = 1

/-- The histograms of a frame whose pre-correction lines and y3 are given. -/
def histograms (f : Frame) (pre post : List Line) : List (List Nat) :=
  let g := f.grp 6
  if lbits g 0 1 0 1 = 0 then []
  else
    let ls := if lbits g 0 1 1 1 = 1 then post else pre
    let x0 := lfld g 2 2
    let w := lfld g 4 2
    let y0 := lfld g 6 3
    let h := lfld g 9 3
    let pxs := pixelsIn (f.grp 2) ls x0 (if w = 0 then f.width else x0 + w) y0 (if h = 0 then ls.length else y0 + h)
    (maskBits (lbits g 1 1 0 4)).map (histogramOf pxs)

/-- The zones of a frame: SUM and COUNT (06 R241). -/
def zones (f : Frame) (pre post : List Line) : List (Nat × Nat) :=
  let g := f.grp 6
  if lbits g 0 1 2 1 = 0 then []
  else
    let ls := if lbits g 0 1 3 1 = 1 then post else pre
    let zw := lfld g 0xE 2
    let zh := lfld g 0x13 2
    ((List.range (lbits g 0x16 1 0 6 + 1)).map (fun v =>
      ((List.range (lbits g 0x15 1 0 6 + 1)).map (fun u =>
        let x := lfld g 0xC 2 + u * zw
        let y := lfld g 0x10 3 + v * zh
        let pxs := pixelsIn (f.grp 2) ls x (x + zw) y (y + zh)
        (maskBits (lbits g 1 1 4 4)).map (fun c =>
          let vs := (pxs.filter (·.1 == c)).map (·.2)
          (sumL vs, vs.length)))).flatten)).flatten

/-- Padded pixels of lines. -/
def padPixels (ls : List Line) : Nat := sumL (ls.map (fun l => l.pix.length - l.padFrom))

/-- The statistics record (06 R244): `tap0` are the lines that leave Lantern tap 0. -/
def statsRecord (f : Frame) (sconce : Nat) (tap0 : List Line) : List Byte :=
  let g := f.grp 6
  let cor := corrections f tap0
  let pre := toWorking f.depth f.lines
  let hs := histograms f pre cor.1
  let zs := zones f pre cor.1
  let hist := lbits g 0 1 0 1
  let zone := lbits g 0 1 2 1
  let sat := b2n (hs.any (fun h => h.any (fun b => 2 ^ 32 ≤ b)))
  let body := (hs.map (fun h => (h.map (fun b => leBytes 4 (min b (2 ^ 32 - 1)))).flatten)).flatten ++
    (zs.map (fun z => leBytes 5 z.1 ++ leBytes 3 z.2)).flatten
  let n := 64 + body.length
  let rec0 := fun (crc : Nat) =>
    leBytes 2 1 ++ leBytes 2 sconce ++ leBytes 1 (lbits g 0 1 0 4 + 16 * sat) ++
    leBytes 1 ((if hist = 1 then lbits g 1 1 0 4 else 0) + 16 * (if zone = 1 then lbits g 1 1 4 4 else 0)) ++
    leBytes 1 (if zone = 1 then lbits g 0x15 1 0 6 + 1 else 0) ++ leBytes 1 (if zone = 1 then lbits g 0x16 1 0 6 + 1 else 0) ++
    leBytes 8 f.number ++ leBytes 4 n ++ leBytes 4 crc ++ leBytes 8 (padPixels f.lines) ++
    leBytes 4 (codeCount cor.2 3) ++ leBytes 4 (codeCount cor.2 4) ++ leBytes 4 (codeCount cor.2 5) ++
    leBytes 4 (codeCount cor.2 1) ++ leBytes 4 (codeCount cor.2 2) ++ zeros 12 ++ body
  rec0 (crc32c (rec0 0))

end Sys2Proof.Machine
end

