-- ==== Sys2Proof/Machine/Colour.lean ====
section
/-!
DEFINITION. Colour reconstruction and the output branches (07): pure functions of a frame's lines, its parameter groups and a
stream's output table.
-/

namespace Sys2Proof.Machine

/-! ### Mosaic and demosaic (07 R250 to R255) -/

/-- PLANES (07 R250). -/
def planesOf (g10 : List Byte) : Nat := lbits g10 2 1 0 2 + 1

/-- The kind of plane k. -/
def planeKind (g10 : List Byte) (k : Nat) : Nat := lbits g10 4 2 (3 * k) 3

/-- The kind of the pixel at (x, y). -/
def kindAt (g10 : List Byte) (x y : Nat) : Nat :=
  let u := (x + lbits g10 1 1 0 3) % (lbits g10 0 1 0 3 + 1)
  let v := (y + lbits g10 1 1 4 3) % (lbits g10 0 1 4 3 + 1)
  nbits (lfld g10 8 24) (3 * (8 * v + u)) 3

/-- The value of (x, y) when it is a valid neighbour of the kind (07 R252). -/
def kindNeighbour (ls : List Line) (g10 : List Byte) (kind : Nat) (x y : Int) : Option Nat :=
  if x < 0 || y < 0 then none
  else match ls[y.toNat]? with
    | none => none
    | some l =>
      if l.pix.length ≤ x.toNat || l.padded x.toNat || kindAt g10 x.toNat y.toNat != kind then none
      else some (l.pix.getD x.toNat 0)

/-- |a − b|. -/
def absDiff (a b : Nat) : Nat := max a b - min a b

/-- The guide value of a pixel (07 R253). -/
def guidePixel (ls : List Line) (g10 : List Byte) (bias kg : Nat) (x y : Nat) (l : Line) (v : Nat) : Nat :=
  if kindAt g10 x y = kg || l.padded x then v
  else
    let nb := fun (dx dy : Int) => kindNeighbour ls g10 kg (x + dx) (y + dy)
    let left := firstSome [nb (-1) 0, nb (-2) 0, nb (-3) 0, nb (-4) 0]
    let right := firstSome [nb 1 0, nb 2 0, nb 3 0, nb 4 0]
    let up := firstSome [nb 0 (-1), nb 0 (-2), nb 0 (-3), nb 0 (-4)]
    let down := firstSome [nb 0 1, nb 0 2, nb 0 3, nb 0 4]
    let join (a b : Option Nat) : Option Nat :=
      match a, b with
      | some p, some q => some (mean2 p q)
      | some p, none => some p
      | none, q => q
    let gap (a b : Option Nat) : Nat :=
      match a, b with
      | some p, some q => absDiff p q
      | _, _ => 65535
    match join left right, join up down with
    | some h, some w =>
      if gap left right + bias < gap up down then h
      else if gap up down + bias < gap left right then w
      else mean2 h w
    | some h, none => h
    | none, some w => w
    | none, none =>
      let win := ((offsets 4).map (fun dy => (offsets 4).filterMap (fun dx => nb dx dy))).flatten
      if win.isEmpty then v else (sumL win + win.length / 2) / win.length

/-- The signed mean of n values with sum s (07 R252). -/
def signedMean (s : Int) (n : Nat) : Int := (2 * s + n) / (2 * n)

/-- A value of another plane by the colour difference to the guide (07 R254). -/
def planePixel (ls guide : List Line) (g10 : List Byte) (kind : Nat) (x y : Nat) (l : Line) (v : Nat) : Nat :=
  if kindAt g10 x y = kind || l.padded x then v
  else
    let ring (d : Nat) : List Int := ((offsets 4).map (fun dy => (offsets 4).filterMap (fun dx =>
      if max dx.natAbs dy.natAbs = d then
        (kindNeighbour ls g10 kind (x + dx) (y + dy)).map (fun q =>
          (q : Int) - (pxAt guide ((x : Int) + dx).toNat ((y : Int) + dy).toNat : Int))
      else none))).flatten
    let gd := pxAt guide x y
    match [ring 1, ring 2, ring 3, ring 4].find? (fun r => !r.isEmpty) with
    | none => gd
    | some r => (clampInt 0 65535 (gd + signedMean (r.foldl (· + ·) 0) r.length)).toNat

/-- The colour planes of a frame from the lines that leave tap 1: PLANES grids as lines (07 R253 to R255). -/
def demosaic (f : Frame) (ls : List Line) : List (List Line) :=
  let g10 := f.grp 0x10
  let n := planesOf g10
  if lbits (f.grp 0x11) 0 1 0 1 = 0 then List.replicate n ls
  else
    let gi := lbits g10 2 1 4 2
    let bias := lfld (f.grp 0x11) 2 2
    let kg := planeKind g10 gi
    let guide := (runStage ls (fun x y l v => (guidePixel ls g10 bias kg x y l v, 0))).1
    (List.range n).map (fun k =>
      if k = gi then guide
      else (runStage ls (fun x y l v => (planePixel ls guide g10 (planeKind g10 k) x y l v, 0))).1)

/-! ### Infrared separation, matrix, tone (07 R256 to R259) -/

/-- Row i of an s4.12 matrix at an offset, applied to values. -/
def matRow (t : List Byte) (off i : Nat) (p : List Nat) : Int :=
  (((List.range 4).map (fun j => toInt 16 (lfld t (off + 2 * (4 * i + j)) 2) * (p.getD j 0 : Int))).foldl (· + ·) 0 + 2048) / 4096

/-- Clamp to 16 bits unsigned. -/
def clamp16 (i : Int) : Nat := (clampInt 0 65535 i).toNat

/-- Infrared separation of one pixel: Q_0 to Q_3. -/
def irSeparate (f : Frame) (p : List Nat) : List Nat :=
  let n := planesOf (f.grp 0x10)
  (List.range 4).map (fun i =>
    if n ≤ i then 0
    else if lbits (f.grp 0x11) 0 1 1 1 = 1 then clamp16 (matRow (f.img 0x11) 0x20 i p) else p.getD i 0)

/-- The colour matrix of one pixel: ch_0 to ch_3. -/
def colourMatrix (f : Frame) (q : List Nat) : List Nat :=
  let n := planesOf (f.grp 0x10)
  (List.range 4).map (fun i =>
    if lbits (f.grp 0x11) 0 1 2 1 = 1 then
      clamp16 (matRow (f.img 0x11) 0x40 i q + toInt 32 (lfld (f.img 0x11) (0x60 + 4 * i) 4))
    else if i < n then q.getD i 0 else q.getD 0 0)

/-- The tone curve of channel c (07 R259). -/
def toneCurve (f : Frame) (c v : Nat) : Nat :=
  if lbits (f.grp 0x11) 0 1 3 1 = 0 then v
  else
    let t := fun i => lfld (f.img 0x12) (0x40 + 2 * (1024 * c + i)) 2
    let i := v / 64
    let k := v % 64
    if i = 1023 then t 1023 else (t i * (64 - k) + t (i + 1) * k + 32) / 64

/-- The planes' values at (x, y). -/
def atPlanes (ps : List (List Line)) (x y : Nat) : List Nat := ps.map (fun p => pxAt p x y)

/-- A per-pixel map over planes: output channel k of g, as lines like those of the first plane. -/
def mapPlanes (ls : List Line) (g : Nat → Nat → List Nat) : List (List Line) :=
  let all := ls.zipIdx.map (fun p => (p.1, (List.range p.1.pix.length).map (fun x => g x p.2)))
  (List.range 4).map (fun k => all.map (fun p => { p.1 with pix := p.2.map (fun v => v.getD k 0) }))

/-- The values of a frame at each stage of colour, all from the lines that leave tap 1. -/
structure ColourStages where
  planes : List (List Line)
  matrix : List (List Line)
  tone : List (List Line)

/-- The colour stages (07 R248). -/
def colourStages (f : Frame) (ls : List Line) : ColourStages :=
  let ps := demosaic f ls
  let q := mapPlanes ls (fun x y => irSeparate f (atPlanes ps x y))
  let ch := mapPlanes ls (fun x y => colourMatrix f (atPlanes q x y))
  let tn := mapPlanes ls (fun x y => ((atPlanes ch x y).zipIdx).map (fun p => toneCurve f p.2 p.1))
  { planes := q, matrix := ch, tone := tn }

/-! ### YCbCr and output bits (07 R260, R261) -/

/-- Coefficients by YC_STD: rows Y, Cb, Cr. -/
def ycRows (std : Nat) : List (List Int) :=
  match std with
  | 0 => [[4899, 9617, 1868], [-2765, -5427, 8192], [8192, -6860, -1332]]
  | 1 => [[3483, 11718, 1183], [-1877, -6315, 8192], [8192, -7441, -751]]
  | _ => [[4304, 11108, 972], [-2288, -5904, 8192], [8192, -7533, -659]]

/-- Ys, Cs of Cb and Cs of Cr. -/
def toYcc (std : Nat) (rgb : List Nat) : List Int :=
  ((ycRows std).map (fun r => (((r.zip rgb).map (fun p => p.1 * (p.2 : Int))).foldl (· + ·) 0 + 8192) / 16384)).zipIdx.map
    (fun p => if p.2 = 0 then p.1 else clampInt (-32768) 32767 p.1)

/-- Clamp to d bits. -/
def clampBits (d : Nat) (i : Int) : Nat := (clampInt 0 ((2 : Int) ^ d - 1) i).toNat

/-- A value to d bits at full range. -/
def fullBits (d : Nat) (v : Int) : Nat := if d = 16 then clampBits 16 v else clampBits d ((v + 2 ^ (15 - d)) / 2 ^ (16 - d))

/-- Y to d bits. -/
def lumaBits (full : Bool) (d : Nat) (v : Int) : Nat :=
  if full then fullBits d v else clampBits d ((219 * 2 ^ (d - 8) * v + 2 ^ 15) / 2 ^ 16 + 16 * 2 ^ (d - 8))

/-- Cb or Cr to d bits. -/
def chromaBits (full : Bool) (d : Nat) (v : Int) : Nat :=
  if full then fullBits d (v + 32768) else clampBits d ((224 * 2 ^ (d - 8) * v + 2 ^ 15) / 2 ^ 16 + 128 * 2 ^ (d - 8))

/-! ### Output tables (07 R263, R264) -/

/-- FORMAT of an output table. -/
def tFormat (t : List Byte) : Nat := lfld t 0x21 1

/-- ROI_COUNT. -/
def tRois (t : List Byte) : Nat := lbits t 0x22 1 0 5

/-- Block size of binning or decimation: 1, 2 or 4. -/
def tBlock (t : List Byte) : Nat := 2 ^ (max (lbits t 0x23 1 0 2) (lbits t 0x23 1 3 2))

/-- The regions of a table: X0, W, Y0, H; the whole frame when there is none. -/
def tRegions (t : List Byte) : List (Nat × Nat × Nat × Nat) :=
  if tRois t = 0 then [(0, 0, 0, 0)]
  else (List.range (tRois t)).map (fun k =>
    (lbits t (0x40 + 16 * k) 2 0 15, lfld t (0x42 + 16 * k) 2, lfld t (0x44 + 16 * k) 3, lfld t (0x47 + 16 * k) 3))

/-- The format is 4:2:2. -/
def fmt422 (fmt : Nat) : Bool := fmt == 5 || fmt == 6 || fmt == 0x20

/-- The format is planar. -/
def fmtPlanar (fmt : Nat) : Bool := 0x18 ≤ fmt && fmt ≤ 0x1B

/-- Source columns and lines of a region in a frame of n delivered lines (07 R270, R267). -/
def regionClip (t : List Byte) (width n : Nat) (r : Nat × Nat × Nat × Nat) : Nat × Nat :=
  let cols := (if r.2.1 = 0 then width else min (r.1 + r.2.1) width) - r.1
  let rows := (if r.2.2.2 = 0 then n else min (r.2.2.1 + r.2.2.2) n) - r.2.2.1
  (if fmt422 (tFormat t) then cols / 2 * 2 else cols, rows)

/-- Output pixels of each line and output lines of a region. -/
def regionOut (t : List Byte) (width n : Nat) (r : Nat × Nat × Nat × Nat) : Nat × Nat :=
  let c := regionClip t width n r
  (c.1 / tBlock t, c.2 / tBlock t)

/-- Bytes of a line of W pixels (07 R268). -/
def fmtLineBytes (fmt d w : Nat) : Nat :=
  match fmt with
  | 0x01 | 0x03 => 3 * w
  | 0x02 | 0x04 => 4 * w
  | 0x05 => 2 * w
  | 0x06 => 4 * w
  | 0x10 | 0x18 => w
  | 0x11 | 0x19 => 3 * cdiv w 2
  | 0x12 | 0x13 | 0x1A | 0x1B | 0x30 => 2 * w
  | 0x31 => cdiv (w * d) 8
  | _ => 0

/-- Line stride (07 R272). -/
def tStride (t : List Byte) (d w : Nat) : Nat := alignUp ([1, 16, 64, 256].getD (lbits t 0x25 1 0 2) 1) (fmtLineBytes (tFormat t) d w)

/-- Planes or channels that a machine-vision table delivers, ascending. -/
def tPlanes (t : List Byte) : List Nat := if fmtPlanar (tFormat t) then maskBits (lbits t 0x24 1 4 4) else [lbits t 0x24 1 2 2]

/-- Planes of the payload: 1 unless the format is planar. -/
def tPlaneCount (t : List Byte) : Nat := if fmtPlanar (tFormat t) then (tPlanes t).length else 1

/-- Bytes of a coded image (07 R275). -/
def codedBytes (t : List Byte) (w h : Nat) : Nat :=
  max (w * h * (if tFormat t = 0x20 then 20 else 36) * 2 / lfld t 0x26 2) 4096

/-- The table is of the coding branch. -/
def tCoding (t : List Byte) : Bool := lbits t 0x20 1 0 2 == 1

/-- Where a region starts and ends, after one that ended at `e`: its start, its end, each plane's start (07 R272). -/
def regionPlace (t : List Byte) (d width n : Nat) (start : Nat) (r : Nat × Nat × Nat × Nat) : Nat × Nat × List Nat :=
  let o := regionOut t width n r
  let s := tStride t d o.1 * o.2
  let starts := (List.range (tPlaneCount t)).map (fun k => start + k * alignUp 256 s)
  (start, if o.2 = 0 then start else starts.getLastD start + s, starts)

/-- Places of the regions of a frame of n delivered lines. -/
def regionPlaces (t : List Byte) (d width n : Nat) : List (Nat × Nat × List Nat) :=
  let base := if 2 ≤ tRois t then 256 else 0
  ((tRegions t).foldl (fun (a : List (Nat × Nat × List Nat) × Nat) r =>
    let q := regionPlace t d width n (alignUp 256 a.2) r
    (a.1 ++ [q], q.2.1)) ([], base)).1

/-- The coded image: columns and lines (07 R276). -/
def codedImage (t : List Byte) (width n : Nat) : Nat × Nat :=
  let c := regionClip t width n ((tRegions t).headD (0, 0, 0, 0))
  (c.1, max 16 c.2)

/-- PAYLOAD_BYTES of a frame of n delivered lines. -/
def payloadBytes (t : List Byte) (d width n : Nat) : Nat :=
  if tCoding t then let c := codedImage t width n; codedBytes t c.1 c.2
  else ((regionPlaces t d width n).getLastD (0, 0, [])).2.1

/-- Output lines of a frame of n delivered lines: HEIGHT. -/
def outHeight (t : List Byte) (width n : Nat) : Nat :=
  if tCoding t then (codedImage t width n).2 else sumL ((tRegions t).map (fun r => (regionOut t width n r).2))

/-- WIDTH of the tag. -/
def outWidth (t : List Byte) (width n : Nat) : Nat :=
  if tCoding t then (codedImage t width n).1 else maxL ((tRegions t).map (fun r => (regionOut t width n r).1))

/-- Where the line tags and the statistics record lie in a buffer: their offsets and the end of the layout (03 R119). -/
def bufferPlaces (payload tags stats : Nat) : Nat × Nat × Nat :=
  let a := alignUp 256 payload
  let e := if tags = 0 then payload else a + tags
  let b := alignUp 256 e
  (a, b, if stats = 0 then e else b + stats)

/-- MAX_FRAME_BYTES (03 R119, 07 R266, R276). -/
def maxFrameBytes (t : List Byte) (d width height : Nat) (lineTags stats : Bool) : Nat :=
  (bufferPlaces (payloadBytes t d width height) (if lineTags then 16 * outHeight t width height else 0)
    (if stats then 102464 else 0)).2.2

/-! ### Output lines (07 R268 to R271) -/

/-- Flags of a line tag that the lines of a block share: their OR. -/
def orFlags (ls : List Line) : Nat := ls.foldl (fun a l => a ||| l.flags) 0

/-- One output value from a block of source values (07 R270). -/
def blockValue (t : List Byte) (vs : List Nat) : Nat :=
  let n := vs.length
  if lbits t 0x23 1 3 2 != 0 || n ≤ 1 then vs.headD 0
  else if lbits t 0x23 1 2 1 = 1 then min (sumL vs) 65535
  else (sumL vs + n / 2) / n

/-- Channels whose position some of these lines took while out of lock (03 R124). -/
def orUnpredicted (ls : List Line) : List Nat :=
  (ls.flatMap (fun l => l.unpredicted ++ (l.pos.filter (·.unpredicted)).map (·.ch))).dedup

/-- Output line j of a region over the planes given: its elements plane after plane, the stamp and positions of its first
source line, the OR of their flags, POS_UNPREDICTED among them (07 R270, R271). -/
def outLine (t : List Byte) (width n : Nat) (src : List Line) (planes : List (List Line)) (r : Nat × Nat × Nat × Nat) (j : Nat) :
    Line :=
  let f := tBlock t
  let w := (regionOut t width n r).1
  let y := r.2.2.1 + f * j
  let block := (src.drop y).take f
  let first := block.headD { num := none, stamp := 0, flags := 0, padFrom := 0, pix := [], pos := [] }
  let vals := planes.map (fun p => (List.range w).map (fun i =>
    blockValue t (((List.range f).map (fun b => (List.range f).map (fun a => pxAt p (r.1 + f * i + a) (y + b)))).flatten)))
  let pad := minD (w * planes.length) (block.map (fun l => (l.padFrom - r.1) / f))
  { num := none, stamp := first.stamp, flags := orFlags block, padFrom := if pad < w then pad else w * planes.length
    pix := vals.flatten, pos := first.pos, unpredicted := orUnpredicted block }

/-- Output lines of a table, region by region. -/
def outLines (t : List Byte) (width n : Nat) (src : List Line) (planes : List (List Line)) : List (List Line) :=
  (tRegions t).map (fun r => (List.range (regionOut t width n r).2).map (outLine t width n src planes r))

/-- Samples as packed groups of bits, the first sample lowest. -/
def packBits (d : Nat) : List Nat → Nat
  | [] => 0
  | v :: t => v % 2 ^ d + 2 ^ d * packBits d t

/-- Pairs of a list. -/
def pairs {α : Type} : List α → List (α × α)
  | a :: b :: t => (a, b) :: pairs t
  | _ => []

/-- Bytes of a display line of triples t_0 to t_2 (07 R268). -/
def displayLine (f : Frame) (fmt : Nat) (px : List (List Nat)) : List Byte :=
  let g := f.grp 0x11
  let full : Bool := lbits g 0xC 1 2 1 == 1
  let std := lbits g 0xC 1 0 2
  let word3 := fun (c : List Nat) => leBytes 4 (packBits 10 c)
  match fmt with
  | 0x01 => (px.map (fun p => p.map (fun v => BitVec.ofNat 8 (fullBits 8 v)))).flatten
  | 0x02 => (px.map (fun p => word3 (p.map (fun v => fullBits 10 v)))).flatten
  | 0x03 => (px.map (fun p => ((toYcc std p).zipIdx.map (fun c =>
      BitVec.ofNat 8 (if c.2 = 0 then lumaBits full 8 c.1 else chromaBits full 8 c.1))))).flatten
  | 0x04 => (px.map (fun p => word3 ((toYcc std p).zipIdx.map (fun c =>
      if c.2 = 0 then lumaBits full 10 c.1 else chromaBits full 10 c.1)))).flatten
  | _ =>
    let d := if fmt = 0x05 then 8 else 10
    let n := if fmt = 0x05 then 1 else 2
    ((pairs (px.map (toYcc std))).map (fun p =>
      let c := fun k => (p.1.getD k 0 + p.2.getD k 0 + 1) / 2
      leBytes n (chromaBits full d (c 1)) ++ leBytes n (lumaBits full d (p.1.getD 0 0)) ++
      leBytes n (chromaBits full d (c 2)) ++ leBytes n (lumaBits full d (p.2.getD 0 0)))).flatten

/-- Bytes of a line of 16-bit values of one machine-vision plane. -/
def visionLine (fmt : Nat) (vs : List Nat) : List Byte :=
  match fmt with
  | 0x10 | 0x18 => vs.map (fun v => BitVec.ofNat 8 (fullBits 8 v))
  | 0x11 | 0x19 => leBytes (3 * cdiv vs.length 2) (packBits 12 (vs.map (fun v => fullBits 12 v)))
  | 0x12 | 0x1A => (vs.map (fun v => leBytes 2 (fullBits 12 v))).flatten
  | _ => (vs.map (fun v => leBytes 2 v)).flatten

/-- Bytes of a raw line (07 R268, R269). -/
def rawLine (fmt d : Nat) (vs : List Nat) : List Byte :=
  if fmt = 0x30 then (vs.map (fun v => leBytes 2 v)).flatten else leBytes (cdiv (vs.length * d) 8) (packBits d vs)

/-- The lists of a list cut into k pieces of n. -/
def chunks {α : Type} (n : Nat) : Nat → List α → List (List α)
  | 0, _ => []
  | k + 1, l => l.take n :: chunks n k (l.drop n)

/-- Bytes at offset off over a buffer of zeros. -/
def placeAt (buf : List Byte) (off : Nat) (data : List Byte) : List Byte :=
  buf.take off ++ zeros (off - buf.length) ++ data ++ buf.drop (off + data.length)

/-- One directory entry (07 R273). -/
def dirEntry (r : Nat × Nat × Nat × Nat) (start w h : Nat) : List Byte :=
  leBytes 4 (start / 256) ++ leBytes 2 r.1 ++ leBytes 2 w ++ leBytes 3 r.2.2.1 ++ leBytes 3 h ++ zeros 2

/-- The bytes of one plane of a region: its lines at the stride. -/
def planeBytes (stride : Nat) (ls : List (List Byte)) : List Byte :=
  let all := (ls.map (fun l => fitTo stride l)).flatten
  all

/-- The payload of a frame from the regions' output lines (07 R272): each line as the list of its planes' bytes. -/
def layoutPayload (t : List Byte) (d width n : Nat) (regions : List (List (List (List Byte)))) : List Byte :=
  let places := regionPlaces t d width n
  let rs := tRegions t
  let total := payloadBytes t d width n
  let dir := if 2 ≤ tRois t then
      fitTo 256 (((rs.zip places).map (fun p => let o := regionOut t width n p.1; dirEntry p.1 p.2.1 o.1 o.2)).flatten)
    else []
  let buf := placeAt (zeros total) 0 dir
  ((rs.zip (places.zip regions)).foldl (fun b p =>
    let stride := tStride t d (regionOut t width n p.1).1
    ((p.2.1.2.2.zipIdx).foldl (fun b q => placeAt b q.1 (planeBytes stride (p.2.2.map (fun l => l.getD q.2 [])))) b)) buf).take total

end Sys2Proof.Machine
end

