-- ==== Sys2Proof/Machine/JpegXs.lean ====
section
/-!
DEFINITION. The codestream of the coding branch (07 R274, R275). The manual names ISO/IEC 21122-1 and gives the length, the profile, the
levels, the wavelet, the slices and the quantiser; the order and codes of the markers and fields are PRESUMED as that standard gives them
(entry 29). What neither fixes (rate allocation, and with it the weights and the coded data of each slice) is a free value of the wavelet
coefficients.
-/

namespace Sys2Proof.Machine

/-! ### The reversible transforms -/

/-- The element of a line extended symmetrically at both ends. -/
def mirrorAt (l : List Int) (i : Int) : Int :=
  let n : Int := l.length
  let j := if i < 0 then -i else if n ≤ i then 2 * (n - 1) - i else i
  l.getD j.toNat 0

/-- The reversible 5/3 wavelet of a line: low and high halves. -/
def wavelet53 (l : List Int) : List Int × List Int :=
  if l.length ≤ 1 then (l, [])
  else
    let hi := (List.range (l.length / 2)).map (fun (k : Nat) =>
      let i : Int := 2 * k + 1
      mirrorAt l i - (mirrorAt l (i - 1) + mirrorAt l (i + 1)) / 2)
    let at_ (k : Int) : Int := hi.getD (min k.natAbs (hi.length - 1)) 0
    let lo := (List.range ((l.length + 1) / 2)).map (fun (k : Nat) =>
      l.getD (2 * k) 0 + (at_ ((k : Int) - (if k = 0 then 0 else 1)) + at_ (if 2 * k + 1 < l.length then (k : Int) else (k : Int) - 1) + 2) / 4)
    (lo, hi)

/-- Columns of lines. -/
def columnsOf (l : List (List Int)) : List (List Int) :=
  (List.range (l.headD []).length).map (fun i => l.map (fun r => r.getD i 0))

/-- A plane split by lines into a low and a high half. -/
def splitAcross (p : List (List Int)) : List (List Int) × List (List Int) :=
  let q := p.map wavelet53
  (q.map (·.1), q.map (·.2))

/-- A plane split by columns into a low and a high half. -/
def splitDown (p : List (List Int)) : List (List Int) × List (List Int) :=
  let q := (columnsOf p).map wavelet53
  (columnsOf (q.map (·.1)), columnsOf (q.map (·.2)))

/-- The bands of a plane after NLX horizontal and NLY vertical levels, the last lowpass first. -/
def waveletBands : Nat → Nat → List (List Int) → List (List (List Int))
  | 0, _, p => [p]
  | x + 1, y, p =>
    let v := if y = 0 then (p, []) else splitDown p
    let a := splitAcross v.1
    let b := splitAcross v.2
    waveletBands x (y - 1) a.1 ++ (if y = 0 then [a.2] else [a.2, b.1, b.2])

/-- The reversible colour transform of R, G, B samples. -/
def colourTransform (s : List (List (List Int))) : List (List (List Int)) :=
  let g (k : Nat) (p : Nat × Nat) : Int := ((s.getD k []).getD p.2 []).getD p.1 0
  let go (f : Int → Int → Int → Int) : List (List Int) :=
    (List.range (s.headD []).length).map (fun y => (List.range ((s.headD []).headD []).length).map (fun x =>
      f (g 0 (x, y)) (g 1 (x, y)) (g 2 (x, y))))
  [go (fun r v b => (r + 2 * v + b) / 4), go (fun _ v b => b - v), go (fun r v _ => r - v)]

/-! ### Markers -/

/-- The profile value of a format (ISO/IEC 21122-2). -/
def xsProfile (format : Nat) : Nat := if format = 0x20 then 0x3540 else if format ≤ 0x22 then 0x3A40 else 0x4A40

/-- The format codes R, G and B and signals the colour transform. -/
def xsRgb (format : Nat) : Bool := format = 0x22 || format = 0x24

/-- NLX of a table. -/
def tNlx (t : List Byte) : Nat := lbits t 0x28 1 0 3

/-- NLY of a table. -/
def tNly (t : List Byte) : Nat := lbits t 0x28 1 4 2

/-- Bands of one component. -/
def xsBands (t : List Byte) : Nat := 2 * min (tNlx t) (tNly t) + max (tNlx t) (tNly t) + 1

/-- The picture header: codestream length, profile, XS_LEVEL, size, slices of 16 lines, three components, dead-zone quantisation, NLX and
NLY. Its last byte, whose fields the manual leaves to the encoder but for the quantiser, is free beside that. -/
def xsPicture (t : List Byte) (bytes w h free : Nat) : List Byte :=
  beBytes 2 0xFF12 ++ beBytes 2 26 ++ beBytes 4 bytes ++ beBytes 2 (xsProfile (tFormat t)) ++ beBytes 2 (lfld t 0x2A 2) ++ beBytes 2 w ++
  beBytes 2 h ++ beBytes 2 0 ++ beBytes 2 (16 / 2 ^ tNly t) ++ [3, 4, 8, 20] ++ beBytes 1 0x84 ++
  beBytes 1 (b2n (xsRgb (tFormat t))) ++ beBytes 1 (16 * tNlx t + tNly t) ++ beBytes 1 (free / 64 * 64 + free % 16)

/-- The component table: bits and subsampling of each component. -/
def xsComponents (t : List Byte) : List Byte :=
  let d := if tFormat t = 0x20 then 10 else 12
  let sx := if tFormat t = 0x20 then 0x21 else 0x11
  beBytes 2 0xFF13 ++ beBytes 2 8 ++ beBytes 1 d ++ [0x11] ++ beBytes 1 d ++ beBytes 1 sx ++ beBytes 1 d ++ beBytes 1 sx

/-- The weights table: a gain and a priority for each band, which the manual leaves free. -/
def xsWeights (t : List Byte) (free : Nat → Nat) : List Byte :=
  let n := 6 * xsBands t
  beBytes 2 0xFF14 ++ beBytes 2 (n + 2) ++ (List.range n).map (fun i => BitVec.ofNat 8 (free i))

/-- The header of slice j. -/
def xsSliceHead (j : Nat) : List Byte := beBytes 2 0xFF20 ++ beBytes 2 4 ++ beBytes 2 j

/-- Slices and their data: n slices from number j on in `room` bytes. The length of a slice's data is free within what the slices after
it leave; the last one takes the rest. -/
def xsSlices (len : Nat → Nat) (data : Nat → Nat → Byte) : Nat → Nat → Nat → List Byte
  | 0, _, _ => []
  | n + 1, j, room =>
    let most := room - 6 * (n + 1)
    let m := if n = 0 then most else min (len j) most
    xsSliceHead j ++ (List.range m).map (data j) ++ xsSlices len data n (j + 1) (room - 6 - m)

/-- The codestream of a coded image of w columns and h lines: exactly B bytes, from its start marker to its end marker (07 R274, R275). The
free values depend on the table and the wavelet coefficients alone. -/
def xsCodestream (t : List Byte) (w h : Nat) (samples : List (List (List Nat))) : List Byte :=
  let size := codedBytes t w h
  let ints := samples.map (fun p => p.map (fun r => r.map (fun v => (v : Int))))
  let coeffs := (if xsRgb (tFormat t) then colourTransform ints else ints).map (waveletBands (tNlx t) (tNly t))
  let head := beBytes 2 0xFF10 ++ beBytes 2 0xFF50 ++ beBytes 2 2 ++ xsPicture t size w h (Config.xsOptions t coeffs).toNat ++
    xsComponents t ++ xsWeights t (fun i => (Config.xsWeight t coeffs i).toNat)
  head ++ xsSlices (Config.xsSliceLength t coeffs) (Config.xsSliceByte t coeffs) (cdiv h 16) 0 (size - head.length - 2) ++ beBytes 2 0xFF11

end Sys2Proof.Machine
end

