-- ==== Sys2Proof/Machine/Pipeline.lean ====
section
/-!
DEFINITION. A frame on its way through a slice: the lines at each Lantern tap and at the branches, as far as the lines behind
them have come (08 R281, R282; 06 R239; 07 R255). A stage's lines stand as soon as the lines it reads do (DEDUCED, entry 30).
-/

namespace Sys2Proof.Machine

/-- The Lantern active at a tap for the frame, and its CH_MASK; the table holds number + 64 × mask, and 1,024 more once the Lantern has left
the frame. -/
def Frame.lanternAt (f : Frame) (tap : Nat) : Option (Nat × Nat) :=
  match tabFind f.taps tap with
  | some v => if v < 1024 then some (v % 64, v / 64) else none
  | none => none

/-- CH_MASK of the Lantern whose lines a frame has at tap 2, 0 for none. -/
def Frame.mask2 (f : Frame) : Nat := match tabFind f.taps 2 with | some v => v / 64 % 16 | none => 0

/-- Lantern n leaves the frame's tap: the lines it has not returned pass unchanged (08 R280). -/
def Frame.leave (f : Frame) (n tap : Nat) : Frame :=
  match tabFind f.taps tap with
  | some v => if v < 1024 && v % 64 = n && !f.tapDone.contains tap then { f with taps := tabPut f.taps tap (v + 1024) } else f
  | none => f

/-- Lines after a tap: those the kernel returned, and after them the tap's input when no kernel is active there. -/
def Frame.after (f : Frame) (tap : Nat) (inp : List Line × Bool) : List Line × Bool :=
  let ret := tabGet [] f.returned tap
  match f.lanternAt tap with
  | none => (ret ++ inp.1.drop ret.length, inp.2)
  | some _ => (ret, f.tapDone.contains tap)

/-- All but the last n lines while more may come. -/
def holdBack (n : Nat) (p : List Line × Bool) : List Line × Bool := if p.2 then p else (p.1.take (p.1.length - n), false)

/-- Lines at tap 0 and whether the frame has closed there. -/
def Frame.tap0 (f : Frame) : List Line × Bool := (f.lines, f.closed)

/-- Lines that leave tap 0. -/
def Frame.past0 (f : Frame) : List Line × Bool := f.after 0 f.tap0

/-- Lines at tap 1: y3. -/
def Frame.tap1 (f : Frame) : List Line × Bool :=
  let p := f.past0
  holdBack (if lbits (f.grp 4) 0 1 0 3 = 0 then 0 else 2) ((corrections f p.1).1, p.2)

/-- Lines that leave tap 1. -/
def Frame.past1 (f : Frame) : List Line × Bool := f.after 1 f.tap1

/-- The colour stages of the lines that leave tap 1. -/
def Frame.colour (f : Frame) : ColourStages := colourStages f f.past1.1

/-- How many lines have left the colour stages, and whether these are all. -/
def Frame.coloured (f : Frame) : Nat × Bool :=
  let p := f.past1
  let q := holdBack (if lbits (f.grp 0x11) 0 1 0 1 = 0 then 0 else 8) p
  (q.1.length, q.2)

/-- Elements of channels of one line, one after another. -/
def joinChannels (tone : List (List Line)) (mask y : Nat) : List Nat :=
  ((maskBits mask).map (fun c => match (tone.getD c [])[y]? with | some l => l.pix | none => [])).flatten

/-- Lines at tap 2: the channels of the binding's mask (08 R281). -/
def Frame.tap2 (f : Frame) : List Line × Bool :=
  let n := f.coloured
  let mask := f.mask2
  let tone := f.colour.tone
  (((f.past1.1.take n.1).zipIdx).map (fun p =>
    let px := joinChannels tone mask p.2
    { p.1 with pix := px, padFrom := if p.1.padFrom < p.1.pix.length then p.1.padFrom else px.length }), n.2)

/-- The tone channels that leave tap 2, and whether all their lines have (08 R282). -/
def Frame.past2 (f : Frame) : List (List Line) × Bool :=
  let n := f.coloured
  let tone := f.colour.tone
  let ret := tabGet [] f.returned 2
  let w := f.width
  let kernels := (List.range 4).map (fun c =>
    match (maskBits f.mask2).idxOf? c with
    | some k => ret.map (fun l => { l with pix := (l.pix.drop (k * w)).take w })
    | none => ((tone.getD c []).zip ret).map (fun q => { q.1 with flags := q.1.flags ||| q.2.flags }))
  match f.lanternAt 2 with
  | none => (tone.zipIdx.map (fun q => (kernels.getD q.2 []) ++ (q.1.take n.1).drop ret.length), n.2)
  | some _ => (kernels, f.tapDone.contains 2)

/-- The planes a machine-vision table takes, the lines they lie on, and whether these are all (07 R248). -/
def Frame.vision (f : Frame) (t : List Byte) : List Line × List (List Line) × Bool :=
  let pick := fun (g : List (List Line)) => (tPlanes t).map (fun k => g.getD k [])
  match lbits t 0x24 1 0 2 with
  | 0 => let p := f.past1; (p.1, [p.1], p.2)
  | 1 => let n := f.coloured; (f.past1.1.take n.1, pick (f.colour.planes.map (·.take n.1)), n.2)
  | 2 => let n := f.coloured; (f.past1.1.take n.1, pick (f.colour.matrix.map (·.take n.1)), n.2)
  | _ => let p := f.past2; (p.1.getD 0 [], pick p.1, p.2)

/-- Lines at tap 3: the output lines of the machine-vision branch (08 R281). -/
def Frame.tap3 (f : Frame) : List Line × Bool :=
  if f.mv.isEmpty then ([], f.closed)
  else
    let v := f.vision f.mv
    ((outLines f.mv f.width v.1.length v.1 v.2.1).flatten, v.2.2)

/-- Lines at a tap and whether the frame has closed there. -/
def Frame.tapLines (f : Frame) : Nat → List Line × Bool
  | 0 => f.tap0
  | 1 => f.tap1
  | 2 => f.tap2
  | _ => f.tap3

/-- Elements of a window line at a tap (08 R281). -/
def Frame.elements (f : Frame) (tap : Nat) : Nat :=
  match tap with
  | 2 => f.width * (maskBits f.mask2).length
  | 3 => if f.mv.isEmpty then 0 else outWidth f.mv f.width 0 * tPlaneCount f.mv
  | _ => f.width

/-- Every tap of the frame is done (08 R286). -/
def Frame.tapsDone (f : Frame) : Bool := f.closed && f.taps.all (fun p => 1024 ≤ p.2 || f.tapDone.contains p.1)

/-! ### A branch's output (07 R268 to R272) -/

/-- A branch's source lines and whether these are all; with the bytes of each output line, region by region, as planes. -/
structure BranchOut where
  lines : List (List Line)
  bytes : List (List (List (List Byte)))
  rows : Nat
  done : Bool

/-- The output lines of a machine-vision table as they leave tap 3. -/
def Frame.visionOut (f : Frame) (t : List Byte) : List (List Line) × Nat × Bool :=
  let v := f.vision t
  match f.lanternAt 3 with
  | some _ => ([tabGet [] f.returned 3], v.1.length, f.tapDone.contains 3)
  | none =>
    let ret := tabGet [] f.returned 3
    let ls := outLines t f.width v.1.length v.1 v.2.1
    (if ret.isEmpty then ls else [ret ++ ls.flatten.drop ret.length], v.1.length, v.2.2)

/-- What a branch has ready of a frame. Coding has bytes only as a whole and is not here. -/
def Frame.branchOut (f : Frame) (t : List Byte) : BranchOut :=
  match lbits t 0x20 1 0 2 with
  | 2 =>
    let v := f.visionOut t
    let np := tPlaneCount t
    { lines := v.1, rows := v.2.1, done := v.2.2
      bytes := v.1.map (fun r => r.map (fun l => (chunks (l.pix.length / max 1 np) np l.pix).map (visionLine (tFormat t)))) }
  | 3 =>
    let ls := outLines t f.width f.lines.length f.lines [f.lines]
    { lines := ls, rows := f.lines.length, done := f.closed
      bytes := ls.map (fun r => r.map (fun l => [rawLine (tFormat t) f.depth l.pix])) }
  | _ =>
    let p := f.past2
    let src := p.1.getD 0 []
    let planes := (List.range 3).map (fun k => p.1.getD k [])
    let ls := outLines t f.width src.length src planes
    { lines := ls, rows := src.length, done := p.2
      bytes := ls.map (fun r => r.map (fun l =>
        let w := l.pix.length / 3
        [displayLine f (tFormat t) ((List.range w).map (fun x => [l.pix.getD x 0, l.pix.getD (w + x) 0, l.pix.getD (2 * w + x) 0]))])) }

/-- Samples of a coded image: component by component (07 R274, R276). -/
def Frame.codedSamples (f : Frame) (t : List Byte) : List (List (List Nat)) :=
  let p := f.past2
  let n := (p.1.getD 0 []).length
  let g := f.grp 0x11
  let full : Bool := lbits g 0xC 1 2 1 == 1
  let std := lbits g 0xC 1 0 2
  let fmt := tFormat t
  let d := if fmt = 0x20 then 10 else 12
  let yc : Bool := fmt == 0x20 || fmt == 0x21 || fmt == 0x23
  let r := (tRegions t).headD (0, 0, 0, 0)
  let size := regionClip t f.width n r
  let rgb := fun (x y : Nat) => (List.range 3).map (fun k => pxAt (p.1.getD k []) (r.1 + x) (r.2.2.1 + y))
  let sample := fun (k x y : Nat) =>
    if size.2 ≤ y then (if !yc then 0 else if k = 0 then (if full then 0 else 16 * 2 ^ (d - 8)) else (if full then 2 ^ (d - 1) else 128 * 2 ^ (d - 8)))
    else if !yc then fullBits d ((rgb x y).getD k 0)
    else if k = 0 then lumaBits full d ((toYcc std (rgb x y)).getD 0 0)
    else if fmt = 0x20 then
      chromaBits full d (((toYcc std (rgb (2 * x) y)).getD k 0 + (toYcc std (rgb (2 * x + 1) y)).getD k 0 + 1) / 2)
    else chromaBits full d ((toYcc std (rgb x y)).getD k 0)
  (List.range 3).map (fun k => (List.range (max 16 size.2)).map (fun y =>
    (List.range (if fmt = 0x20 && k != 0 then size.1 / 2 else size.1)).map (fun x => sample k x y)))

/-- The codestream: exactly B bytes (07 R275). -/
def Frame.codestream (f : Frame) (t : List Byte) : List Byte :=
  let n := (f.past2.1.getD 0 []).length
  let c := codedImage t f.width n
  xsCodestream t c.1 c.2 (f.codedSamples t)

/-- The line tags' lines of a coded frame: the region's, and those added to make 16, with the stamp of the last delivered line of the region,
else of the frame (07 R271, R276). Of a frame without delivered lines that stamp is a free value. -/
def Frame.codedLines (f : Frame) (t : List Byte) : List Line :=
  let src := f.past2.1.getD 0 []
  let r := (tRegions t).headD (0, 0, 0, 0)
  let c := regionClip t f.width src.length r
  let ls := (src.drop r.2.2.1).take c.2
  let none_ : Line := { num := none, stamp := (Config.noLineStamp f.b f.number).toNat, flags := 0, padFrom := 0, pix := [], pos := [] }
  let last := ls.getLastD (src.getLastD none_)
  ls ++ List.replicate (16 - c.2) { last with flags := 1, pos := [], unpredicted := [] }

/-- The frame's payload is complete in the branch of a table. -/
def Frame.branchDone (f : Frame) (t : List Byte) : Bool :=
  if lbits t 0x20 1 0 2 = 1 then f.past2.2 else (f.branchOut t).done

/-- The whole payload of a frame in the branch of a table. -/
def Frame.payload (f : Frame) (t : List Byte) : List Byte :=
  if tCoding t then f.codestream t
  else let b := f.branchOut t; layoutPayload t f.depth f.width b.rows b.bytes

/-- Output lines in table order, for the line tags. -/
def Frame.outputLines (f : Frame) (t : List Byte) : List Line :=
  if tCoding t then f.codedLines t else (f.branchOut t).lines.flatten

/-- Payload bytes that stand already, from offset 0 on (14 R475): whole lines of a single region's first plane while the frame
goes on, and everything once it is done. -/
def Frame.staged (f : Frame) (t : List Byte) : Nat :=
  if f.branchDone t then (f.payload t).length
  else if tCoding t || 2 ≤ tRois t then 0
  else
    let b := f.branchOut t
    let ls := b.lines.headD []
    tStride t f.depth (regionOut t f.width b.rows ((tRegions t).headD (0, 0, 0, 0))).1 * ls.length

end Sys2Proof.Machine
end

