-- ==== Sys2Proof/Machine/Store.lean ====
section
/-!
DEFINITION. A memory of bytes in one canonical form: addresses strictly rising, no entry equal to 0, which is what an
unlisted address reads as (08 R289; entry 4). The local stores of the Lanterns are such memories.
-/

namespace Sys2Proof.Machine

/-- The byte at an address. -/
def memGet : List Host.Cell → Nat → Byte
  | [], _ => 0
  | (b, v) :: t, a => if b = a then v else memGet t a

/-- Write a byte. -/
def memPut : List Host.Cell → Nat → Byte → List Host.Cell
  | [], a, v => if v = 0 then [] else [(a, v)]
  | (b, w) :: t, a, v =>
    if a < b then (if v = 0 then (b, w) :: t else (a, v) :: (b, w) :: t)
    else if a = b then (if v = 0 then t else (a, v) :: t)
    else (b, w) :: memPut t a v

/-- Write bytes at rising addresses. -/
def memWrite : List Host.Cell → Nat → List Byte → List Host.Cell
  | m, _, [] => m
  | m, a, v :: t => memWrite (memPut m a v) (a + 1) t

/-- The n bytes at an address. -/
def memRead (m : List Host.Cell) (a n : Nat) : List Byte := (List.range n).map (fun k => memGet m (a + k))

/-- The canonical form. -/
def Memory.wf : List Host.Cell → Bool
  | [] => true
  | [(_, v)] => v != 0
  | (a, v) :: (b, w) :: t => v != 0 && decide (a < b) && Memory.wf ((b, w) :: t)

end Sys2Proof.Machine
end

