-- ==== Sys2Proof/Machine/LanternOps.lean ====
section
/-!
DEFINITION. The Lanterns: kernels, the lines at their taps, interrupts, entry to routines and handlers, traps and the supply of
lines (08 R285 to R314; 09 R316 to R321, R342 to R352).
-/

namespace Sys2Proof.Machine

/-! ### Kernels and frames in work -/

/-- The kernel of the active bank. -/
def Lantern.kernel (x : Lantern) : Option Kernel := if x.bank then x.bank1 else x.bank0

/-- The kernel of the inactive bank. -/
def Lantern.other (x : Lantern) : Option Kernel := if x.bank then x.bank0 else x.bank1

/-- A 2-byte field of the active kernel's header (08 R294). -/
def Lantern.hdr (x : Lantern) (off : Nat) : Nat :=
  match x.kernel with
  | some k => lfld k.header off 2
  | none => 0xFFFF

/-- The kernel of the bank that is active from the last boundary on, and that of the inactive bank then: what a swap requested now would
make active (08 R297, R299). -/
def Lantern.banks (x : Lantern) : Option Kernel × Option Kernel :=
  x.swapAt.foldl (fun p q =>
    let r := if q.off then p else (p.2, p.1)
    (r.1, firstSome [q.load, r.2])) (x.kernel, x.other)

/-- A kernel is written into the inactive bank of Lantern x as it stands. -/
def Lantern.putOther (x : Lantern) (k : Option Kernel) : Lantern :=
  match k with
  | none => x
  | some _ => if x.bank then { x with bank0 := k } else { x with bank1 := k }

/-- A kernel is loaded into the inactive bank; while the kernel of the bank that the last boundary left still works on earlier frames, it
waits until that bank is free (08 R296: the active kernel runs on, untouched). -/
def Lantern.loadKernel (x : Lantern) (k : Kernel) : Lantern :=
  match x.swapAt.getLast? with
  | none => x.putOther (some k)
  | some q => { x with swapAt := x.swapAt.dropLast ++ [{ q with load := some k }] }

/-- ABOVE of the active kernel. -/
def Lantern.above (x : Lantern) : Nat := match x.kernel with | some k => lbits k.header 0x18 1 0 3 | none => 0

/-- BELOW of the active kernel. -/
def Lantern.below (x : Lantern) : Nat := match x.kernel with | some k => lbits k.header 0x18 1 4 3 | none => 0

/-- CODE_WORDS of the active kernel. -/
def Lantern.codeWords (x : Lantern) : Nat := match x.kernel with | some k => k.code.length | none => 0

/-- The instruction at PC (09 R322). -/
def Lantern.fetch (x : Lantern) : Option Nat :=
  match x.kernel with
  | some k => k.code[x.pc]?
  | none => none

/-- The frames of a sconce that a Lantern works on, oldest first. -/
def State.framesOf (s : State) (n : Nat) : List Frame :=
  let x := s.lantern n
  (s.sconce x.sconce).frames.filter (fun f => (f.lanternAt x.tap).any (fun p => p.1 == n) && !f.tapDone.contains x.tap)

/-- Change the frame of this number in a sconce. -/
def Sconce.modFrame (x : Sconce) (num : Nat) (g : Frame → Frame) : Sconce :=
  { x with frames := x.frames.map (fun f => if f.number = num then g f else f) }

/-- The frame a Lantern has in work. -/
def State.workFrame (s : State) (n : Nat) : Option Frame :=
  match (s.lantern n).frame with
  | none => none
  | some num => (s.framesOf n).find? (fun f => f.number == num)

/-- Lines of a frame that the kernel at a tap has returned. -/
def Frame.returnedAt (f : Frame) (tap : Nat) : List Line := tabGet [] f.returned tap

/-- Lines that have come to the Lantern's tap, over all its frames. -/
def State.tapCount (s : State) (n : Nat) : Nat := sumL ((s.framesOf n).map (fun f => (f.tapLines (s.lantern n).tap).1.length))

/-- Lines that wait beyond L + BELOW, L being the oldest line that has not left the tap (08 R302). -/
def waitingLines (below tap : Nat) : List Frame → Nat
  | [] => 0
  | f :: t =>
    let left := (f.tapLines tap).1.length - (f.returnedAt tap).length
    if left = 0 then waitingLines below tap t
    else left - 1 - min below (left - 1) + sumL (t.map (fun g => (g.tapLines tap).1.length))

/-! ### Counters and records (08 R310, R314, R315) -/

/-- SUBJECT of a Lantern's records. -/
def Lantern.subject (x : Lantern) (n : Nat) : Nat := n + 256 * x.sconce

/-- A record about Lantern n. -/
def State.lanternRecord (s : State) (n cls typ data : Nat) : State :=
  let x := s.lantern n
  s.report x.owner cls typ (islandLantern n) (x.subject n) data

/-- Counter `code` rises by k. -/
def State.lanternCount (s : State) (n code k : Nat) : State :=
  s.modLantern n (fun x => { x with counters := tabPut x.counters code (satAdd 32 (tabGet 0 x.counters code) k) })

/-- A counter rises and its record is written, at most one in 100 ms, with the count since the record before it (08 R310). -/
def State.lanternLimited (s : State) (n code cls typ low : Nat) : State :=
  let s1 := s.lanternCount n code 1
  let x := s1.lantern n
  let v := tabGet 0 x.counters code
  let last := tabFind x.reports typ
  let old := match last with | some r => r.2 | none => 0
  let open_ : Bool := match last with | some r => r.1 + 100000000 ≤ s.ns | none => true
  if open_ then
    (s1.setLantern n { x with reports := tabPut x.reports typ (s.ns, v)
                              firstStruck := if typ = 0x0303 then none else x.firstStruck }).lanternRecord n cls typ (low + (v - old) * 2 ^ 32)
  else s1

/-! ### Interrupt controller (08 R307 to R312) -/

/-- Sources of a class that are pending. -/
def Lantern.pendingOf (x : Lantern) (fast : Bool) : List Nat :=
  (List.range 64).filter (fun k => nbit x.irqPending k && (nbit x.irqClass k == fast))

/-- A class has a vector in the active kernel. -/
def Lantern.vector (x : Lantern) (fast : Bool) : Option Nat :=
  let v := x.hdr (if fast then 0x16 else 0x14)
  if v = 0xFFFF then none else some v

/-- Deliverable sources of a class, ascending (08 R309). -/
def Lantern.deliverable (x : Lantern) (fast : Bool) : List Nat :=
  if (x.vector fast).isNone then []
  else (x.pendingOf fast).filter (fun k => !nbit x.irqMask k && !nbit x.irqActive k)

/-- The least of some instants. -/
def earliestOf : List Nat → Option Nat
  | [] => none
  | a :: t => some (t.foldl Nat.min a)

/-- The pending sources as they are now: when each pended, and when the earliest pending normal one did (08 R311). -/
def Lantern.timeEarliest (x : Lantern) (now : Nat) : Lantern :=
  let at_ : Tab Nat := ((List.range 64).filter (nbit x.irqPending)).map (fun k => (k, (tabFind x.pendedAt k).getD now))
  let e := earliestOf ((at_.filter (fun p => !nbit x.irqClass p.1)).map (·.2))
  { x with pendedAt := at_, earliest := e, holdoffDone := e == x.earliest && x.holdoffDone }

/-- Set sources pending by a mask; the reserved ones never pend. -/
def Lantern.setPending (x : Lantern) (mask now : Nat) : Lantern :=
  { x with irqPending := x.irqPending ||| (mask % 2 ^ 52) }.timeEarliest now

/-- Withdraw pending requests. A pin source in MODE 3 is pending again while its line is high (08 R312). -/
def Lantern.clearPending (x : Lantern) (mask now : Nat) : Lantern :=
  { x with irqPending := x.irqPending &&& (mask ^^^ (2 ^ 64 - 1)) ||| x.pinHigh * 2 ^ 32
           pendedAt := x.pendedAt.filter (fun p => !nbit mask p.1) }.timeEarliest now

/-- An event reaches a source: it pends, and COUNT rises when it was pending or active (08 R310). -/
def Lantern.event (x : Lantern) (src now : Nat) : Lantern :=
  if 52 ≤ src then x
  else
    let y := if nbit x.irqPending src || nbit x.irqActive src
      then { x with irqCount := tabPut x.irqCount src (min 255 (tabGet 0 x.irqCount src + 1)) } else x
    y.setPending (2 ^ src) now

/-- An event reaches a source of Lantern n. -/
def State.pend (s : State) (n src : Nat) : State := s.modLantern n (fun x => x.event src s.ns)

/-- A write to DOORBELL (08 R308). -/
def State.doorbell (s : State) (n v : Nat) : State :=
  if v < 32 then s.pend n v else s.lanternLimited n 0x06 2 0x0306 (v % 256)

/-- A handler's slot with the source that its next CLAIM returns. -/
def SaveSlot.give (q : SaveSlot) (k : Option Nat) : SaveSlot := { q with given := k }

/-- The slot of a class's handler gives this source. -/
def Lantern.giveSource (x : Lantern) (fast : Bool) (k : Option Nat) : Lantern :=
  if fast then { x with fast := x.fast.map (fun q => q.give k) } else { x with normal := x.normal.map (fun q => q.give k) }

/-- Source k is claimed: its pending bit is cleared and its active bit is set (08 R309). -/
def Lantern.take (x : Lantern) (k now : Nat) : Lantern := { x.clearPending (2 ^ k) now with irqActive := x.irqActive ||| 2 ^ k }

/-- A read of a class's CLAIM: the source claimed, or 0xFF (08 R309). The first read in a handler that Replay has delivered returns the
journaled source, whatever is pending (09 R352). -/
def Lantern.claim (x : Lantern) (fast : Bool) (now : Nat) : Lantern × Nat :=
  match (if fast then x.fast else x.normal).bind (·.given) with
  | some k => ((x.giveSource fast none).take k now, k)
  | none =>
    match x.deliverable fast with
    | [] => (x, 0xFF)
    | k :: _ => (x.take k now, k)

/-- A write to COMPLETE. -/
def Lantern.completeSource (x : Lantern) (v : Nat) : Lantern :=
  if v < 64 then { x with irqActive := x.irqActive &&& ((2 ^ v) ^^^ (2 ^ 64 - 1)) } else x

/-- Lantern clocks as ns, rounded up: 1.4 GHz (01 R20). -/
def lanternNs (clocks : Nat) : Nat := cdiv (clocks * 5) 7

/-- Moderation allows a normal source (08 R311). -/
def Lantern.moderated (x : Lantern) : Bool :=
  x.waiting.isSome || x.irqHoldoff == 0 || x.holdoffDone ||
    (x.irqThreshold != 0 && min x.irqThreshold 64 ≤ (x.pendingOf false).length)

/-! ### Special registers and routines (09 R319 to R321) -/

/-- A special register as stored. -/
def Lantern.spr (x : Lantern) (k : Nat) : Nat := tabGet 0 x.sr k

/-- Write a special register as stored. -/
def Lantern.setSpr (x : Lantern) (k v : Nat) : Lantern := { x with sr := tabPut x.sr k (v % 2 ^ 32) }

/-- Exactly n elements of a line, zeros past its end. -/
def fitLine (n : Nat) (px : List Nat) : List Nat := px.take n ++ List.replicate (n - px.length) 0

/-- State at the entry of a routine: registers zero, the Entry values, no handler, PC at the word (09 R320). The output line has the E
elements of the frame in work. -/
def Lantern.enter (x : Lantern) (r : Routine) (pc elements now : Nat) : Lantern :=
  let sr0 := [(3, x.spr 3), (4, 0), (5, elements % 2 ^ 32), (6, 0), (7, 0), (8, 3), (9, x.spr 9), (0xA, x.spr 0xA), (0xB, x.spr 0xB),
    (0xF, 0), (0x12, x.spr 0x12)]
  { x with routine := r, s := [], v := [], p := [], pc := pc, sr := sr0, normal := none, fast := none, waiting := none
           lineStart := now, outLine := fitLine elements x.outLine }

/-- A copy of line L for the output line (08 R287). -/
def Frame.lineAt (f : Frame) (tap y : Nat) : List Nat :=
  match (f.tapLines tap).1[y]? with
  | some l => l.pix
  | none => []

/-- LINE_ENTRY of line y of frame f. -/
def State.enterLine (s : State) (n : Nat) (f : Frame) (y : Nat) : State :=
  let x := s.lantern n
  let z := { x with frame := some f.number, lineY := y, outLine := f.lineAt x.tap y, sawClosed := (f.tapLines x.tap).2 }
  s.setLantern n (z.enter .lineEntry (x.hdr 0xE) (f.elements x.tap) s.ns)

/-- FRAME_ENTRY of frame f. -/
def State.enterFrame (s : State) (n : Nat) (f : Frame) : State :=
  let x := s.lantern n
  s.setLantern n (({ x with frame := some f.number, lineY := 0, sawClosed := (f.tapLines x.tap).2 }).enter .frameEntry (x.hdr 0x10) (f.elements x.tap) s.ns)

/-- FRAME_EXIT of frame f. -/
def State.exitFrame (s : State) (n : Nat) (f : Frame) : State :=
  let x := s.lantern n
  s.setLantern n (({ x with frame := some f.number, lineY := (f.returnedAt x.tap).length }).enter .frameExit (x.hdr 0x12)
    (f.elements x.tap) s.ns)

/-! ### Frames begin, end and change kernels (08 R286, R297) -/

/-- One swap takes over: the bank changes, the data block goes to the local store and the shadow bank is zero (08 R297, 09 R321). -/
def Lantern.swapIn (x : Lantern) : Lantern :=
  let y := { x with bank := !x.bank, shadow := [] }
  match y.kernel with
  | none => y
  | some k => { y with store := memWrite y.store (lfld k.header 0x2C 4) k.data }

/-- Swaps whose boundary has passed take over once the frames before it are finished (08 R297); the shadow bank is zero after each, also
one that deactivates (09 R321). -/
def takeSwaps (older : Nat → Bool) (x : Lantern) : List SwapDue → Lantern
  | [] => { x with swapAt := [] }
  | q :: t =>
    if older q.first then { x with swapAt := q :: t }
    else takeSwaps older ((if q.off then { x with shadow := [] } else x.swapIn).putOther q.load) t

/-- The Lantern's swaps take over as far as its frames allow. -/
def State.takeOver (s : State) (n : Nat) : State :=
  let x := s.lantern n
  s.setLantern n (takeSwaps (fun m => (s.framesOf n).any (fun f => f.number < m)) x x.swapAt)

/-- Frame f is finished at the Lantern's tap. -/
def State.frameDone (s : State) (n : Nat) (f : Frame) : State :=
  let x := s.lantern n
  let s1 := s.modSconce x.sconce (fun c => c.modFrame f.number (fun g => { g with tapDone := x.tap :: g.tapDone }))
  (s1.setLantern n { x with routine := .idle, frame := none, lineY := 0, sawClosed := false }).takeOver n

/-- Frame f has closed at the tap and every line has left it. -/
def Frame.drained (f : Frame) (tap : Nat) : Bool :=
  let p := f.tapLines tap
  p.2 && p.1.length ≤ (f.returnedAt tap).length

/-- The first frame at an idle Lantern is finished, when its kernel has no routine left to run for it (08 R286). -/
def State.settleFrame (s : State) (n : Nat) : State :=
  let x := s.lantern n
  match x.routine, s.framesOf n with
  | .idle, f :: _ =>
    if f.drained x.tap && x.hdr 0x12 = 0xFFFF && (x.frame.isSome || x.hdr 0x10 = 0xFFFF) then s.frameDone n f else s
  | _, _ => s

/-- What an arrival at the tap shows: SLACK_WARN and FRAME_CLOSED pend, and a drained frame is finished (08 R307). -/
def State.lanternArrival (s : State) (n : Nat) : State :=
  let x := s.lantern n
  if x.st == .free then s
  else
    let w := waitingLines x.below x.tap (s.framesOf n)
    let limit := (x.slack + 1) / 2
    let s1 := if x.waited < limit && limit ≤ w then s.pend n 50 else s
    let closed : Bool := match s.workFrame n with | some f => (f.tapLines x.tap).2 | none => false
    let runs : Bool := x.routine == .lineEntry || x.routine == .frameEntry
    let s2 := if closed && !x.sawClosed && runs then s1.pend n 51 else s1
    (s2.modLantern n (fun y => { y with waited := w, sawClosed := closed })).settleFrame n

/-- Every Lantern of a sconce looks at its tap, the lower taps first. -/
def State.tapsMoved (s : State) (k : Nat) : State :=
  ([0, 1, 2, 3] : List Nat).foldl (fun t tap =>
    (tabKeys t.lanterns (fun x => x.st != .free && x.sconce == k && x.tap == tap)).foldl (fun u n => u.lanternArrival n) t) s

/-! ### Lines leave the tap (08 R284, R287, R303) -/

/-- Padded elements get their pad value back at taps 0 and 1, and tap 0 keeps the low PIXEL_DEPTH bits (08 R284). -/
def restorePads (tap depth : Nat) (src : Line) (px : List Nat) : List Nat :=
  if 2 ≤ tap then px
  else px.zipIdx.map (fun q =>
    if src.padded q.2 then src.pix.getD q.2 0 else if tap = 0 then q.1 % 2 ^ depth else q.1)

/-- Line y of frame f leaves the tap with these elements; `over` adds the OVERRUN bit. -/
def State.lineLeaves (s : State) (n : Nat) (f : Frame) (y : Nat) (px : List Nat) (struck : Bool) : State :=
  let x := s.lantern n
  match (f.tapLines x.tap).1[y]? with
  | none => s
  | some l =>
    let out := { l with pix := restorePads x.tap f.depth l (fitLine l.pix.length px),
                        flags := if struck then l.flags ||| 0x20 else l.flags }
    s.modSconce x.sconce (fun c => c.modFrame f.number (fun g =>
      { g with returned := tabPut g.returned x.tap (g.returnedAt x.tap ++ [out]) }))

/-- The elements the slice supplies in place of the kernel's (08 R303). -/
def Lantern.supply (x : Lantern) (f : Frame) (y : Nat) : List Nat :=
  let l := f.lineAt x.tap y
  if x.policy then l.map (fun _ => if x.tap = 0 then x.fill % 2 ^ f.depth else x.fill) else l

/-- Line y of frame f is supplied by the slice, and the kernel's ACTIVE bits are cleared (08 R303, R304). -/
def State.supplyLine (s : State) (n : Nat) (f : Frame) (y : Nat) : State :=
  let x := s.lantern n
  (s.lineLeaves n f y (x.supply f y) true).modLantern n (fun z => { z with irqActive := 0 })

/-- The routine has ended: the Lantern is idle, PROGRESS is cleared, handlers are gone. -/
def State.lanternIdle (s : State) (n : Nat) : State :=
  let x := s.lantern n
  let y := { x with routine := .idle, normal := none, fast := none, waiting := none }.setSpr 4 0
  ((s.setLantern n y).settleFrame n).tapsMoved x.sconce

/-- The routine ends in order: LEND (09 R338). -/
def State.endRoutine (s : State) (n : Nat) : State :=
  let x := s.lantern n
  match s.workFrame n with
  | none => s.lanternIdle n
  | some f =>
    match x.routine with
    | .lineEntry => ((s.lineLeaves n f x.lineY x.outLine false).lanternCount n 0x01 1).lanternIdle n
    | .frameExit => ((s.frameDone n f).lanternIdle n)
    | _ => s.lanternIdle n

/-- A trap ends the routine (08 R303, R305; 09 R343): EPC, CAUSE, TRAPS and the record, then the line is supplied. -/
def State.trap (s : State) (n cause pc : Nat) : State :=
  let s0 := s.modLantern n (fun x => ((x.setSpr 9 pc).setSpr 0xB cause))
  let s1 := s0.lanternLimited n 0x03 1 0x0304 (cause + 256 * pc)
  let x := s1.lantern n
  match s1.workFrame n with
  | none => s1.lanternIdle n
  | some f =>
    match x.routine with
    | .lineEntry => (s1.supplyLine n f x.lineY).lanternIdle n
    | .frameExit => ((s1.modLantern n (fun z => { z with irqActive := 0 })).frameDone n f).lanternIdle n
    | _ => (s1.modLantern n (fun z => { z with irqActive := 0 })).lanternIdle n

/-- An overrun strikes the oldest line at the tap (08 R302 to R304). -/
def State.overrun (s : State) (n : Nat) : State :=
  let x := s.lantern n
  match (s.framesOf n).find? (fun f => (f.returnedAt x.tap).length < (f.tapLines x.tap).1.length) with
  | none => s
  | some f =>
    let y := (f.returnedAt x.tap).length
    let s0 := s.journal n 0x52 (islandLantern n) s.dt ([0] ++ leBytes 3 y ++ zeros 4 ++ leBytes 8 f.number)
    let first := x.firstStruck.getD y
    let s1 := ((s0.supplyLine n f y).modLantern n (fun z => { z with firstStruck := some first })).lanternLimited n 0x02 2 0x0303
      (first % 2 ^ 24)
    match x.routine with
    | .idle => s1.tapsMoved x.sconce
    | .lineEntry => s1.lanternIdle n
    | .frameEntry | .frameExit =>
      -- The routine is abandoned, its frame with it unless it holds L; FRAME_ENTRY of the frame that holds L comes next (08 R304).
      let s2 := ((s1.framesOf n).filter (fun g => g.number < f.number)).foldl (fun t g => t.frameDone n g) s1
      (s2.modLantern n (fun z => { z with frame := none })).lanternIdle n

/-! ### Handlers (09 R345 to R350) -/

/-- What a handler's entry saves. -/
def Lantern.save (x : Lantern) : SaveSlot :=
  { pc := x.pc, progress := x.spr 4, xacc := x.spr 7, xlen := x.spr 5, xshift := x.spr 6, given := none }

/-- What a handler's return restores. -/
def Lantern.restore (x : Lantern) (q : SaveSlot) : Lantern :=
  (((x.setSpr 4 q.progress).setSpr 7 q.xacc).setSpr 5 q.xlen).setSpr 6 q.xshift

/-- The normal handler can be entered now (08 R309, R311; 09 R345). -/
def Lantern.normalReady (x : Lantern) : Bool :=
  x.routine != .idle && x.normal.isNone && x.fast.isNone && nbit (x.spr 8) 0 && !(x.deliverable false).isEmpty && x.moderated

/-- The fast handler can be entered now. -/
def Lantern.fastReady (x : Lantern) : Bool :=
  x.routine != .idle && x.fast.isNone && nbit (x.spr 8) 1 && !(x.deliverable true).isEmpty

/-- Entry to the normal handler (09 R346). -/
def Lantern.enterNormal (x : Lantern) : Lantern :=
  { ((x.setSpr 9 x.pc).setSpr 4 0) with normal := some x.save, pc := (x.vector false).getD 0, waiting := none }

/-- Entry to the fast handler (09 R347). -/
def Lantern.enterFast (x : Lantern) : Lantern :=
  { ((x.setSpr 0xA x.pc).setSpr 4 0) with fast := some x.save, pc := (x.vector true).getD 0, waiting := none }

/-- Return from the innermost handler (09 R350), when one runs. -/
def Lantern.handlerReturn (x : Lantern) : Option Lantern :=
  match x.fast with
  | some q => some { x.restore q with fast := none, pc := x.spr 0xA }
  | none =>
    match x.normal with
    | some q => some { x.restore q with normal := none, pc := x.spr 9 }
    | none => none

end Sys2Proof.Machine
end

