-- ==== Sys2Proof/Machine/LanternMem.lean ====
section
/-!
DEFINITION. The address space of a Lantern: its ranges, the gather port and the interrupt controller's registers
(08 R289 to R293, R308; 09 R329, R330).
-/

namespace Sys2Proof.Machine

/-- The ranges of the address map as a kernel may reach them (08 R289, 09 R330). -/
inductive LtRange where
  | store | window | out | gather | irq | blocks | fault
  deriving DecidableEq, Repr

/-- The range an address lies in. -/
def Lantern.rangeOf (x : Lantern) (a : Nat) : LtRange :=
  if a < 0x200000 then .store
  else if 0x1000000 ≤ a && a < 0x10F0000 then
    let r := (a - 0x1000000) / 0x10000
    if 7 ≤ r + x.above && r ≤ 7 + x.below then .window else .fault
  else if 0x2000000 ≤ a && a < 0x2010000 then .out
  else if 0x3000000 ≤ a && a < 0x3000020 then .gather
  else if 0x4000000 ≤ a && a < 0x4000100 then .irq
  else if (0x5000000 ≤ a && a < 0x50001E0) || (0x5000200 ≤ a && a < 0x5000220) then .blocks
  else .fault

/-- Byte k of a 16-bit element. -/
def elemByte (v k : Nat) : Byte := BitVec.ofNat 8 (v / 2 ^ (8 * (k % 2)))

/-- The line in the window slot at L + r of the frame in work, r = k − 7, if it holds one: the ABOVE lines before L, L, the BELOW lines
after it, and up to SLACK further lines that have arrived (08 R285, R290). -/
def State.windowLine (s : State) (n k : Nat) : Option (Nat × Line) :=
  let x := s.lantern n
  match s.workFrame n with
  | none => none
  | some f =>
    if x.lineY + k < 7 || x.above + k < 7 || 7 + x.below + x.slack < k then none
    else ((f.tapLines x.tap).1[x.lineY + k - 7]?).map (fun l => (x.lineY + k - 7, l))

/-- A window status block (08 R290). -/
def State.statusBlock (s : State) (n k : Nat) : List Byte :=
  match s.windowLine n k with
  | none => zeros 32
  | some p => fitTo 32 (leBytes 8 p.2.stamp ++ leBytes 3 p.1 ++ [0] ++ leBytes 2 p.2.flags ++ [1, 0] ++ leBytes 4 p.2.padFrom)

/-- The frame control block (08 R291). -/
def State.controlBlock (s : State) (n : Nat) : List Byte :=
  let x := s.lantern n
  match s.workFrame n with
  | none => zeros 32
  | some f =>
    let e := f.elements x.tap
    let ch := match x.tap with
      | 2 => (maskBits f.mask2).length
      | 3 => if f.mv.isEmpty then 1 else tPlaneCount f.mv
      | _ => 1
    fitTo 32 (leBytes 8 f.number ++ leBytes 4 e ++ leBytes 2 (e / max 1 ch) ++ leBytes 1 ch ++
      leBytes 1 (x.tap + 4 * b2n (f.tapLines x.tap).2) ++ leBytes 8 f.b)

/-- The byte at an address of the local store, the window, the output line or a block. -/
def State.ltByte (s : State) (n a : Nat) : Byte :=
  let x := s.lantern n
  match x.rangeOf a with
  | .store => memGet x.store a
  | .window =>
    match s.windowLine n ((a - 0x1000000) / 0x10000) with
    | some p => elemByte (p.2.pix.getD (a % 0x10000 / 2) 0) a
    | none => 0
  | .out => elemByte (x.outLine.getD (a % 0x10000 / 2) 0) a
  | .blocks =>
    if a < 0x5000200 then (s.statusBlock n ((a - 0x5000000) / 32)).getD (a % 32) 0 else (s.controlBlock n).getD (a % 32) 0
  | _ => 0

/-- The value of m bytes at an address. -/
def State.ltRead (s : State) (n a m : Nat) : Nat := leVal ((List.range m).map (fun k => s.ltByte n (a + k)))

/-- Write one byte of the local store or the output line; beyond the line's elements nothing changes. -/
def Lantern.putByte (x : Lantern) (a : Nat) (v : Byte) : Lantern :=
  match x.rangeOf a with
  | .store => { x with store := memPut x.store a v }
  | .out =>
    let i := a % 0x10000 / 2
    let old := x.outLine.getD i 0
    let new := if a % 2 = 0 then old / 256 * 256 + v.toNat else old % 256 + 256 * v.toNat
    { x with outLine := setAt x.outLine i new }
  | _ => x

/-- Write bytes at rising addresses. -/
def Lantern.putBytes (x : Lantern) : Nat → List Byte → Lantern
  | _, [] => x
  | a, v :: t => (x.putByte a v).putBytes (a + 1) t

/-- An outstanding gather will write one of the m bytes at an address (08 R293). -/
def Lantern.stalls (x : Lantern) (a m : Nat) : Bool :=
  match x.gather with
  | none => false
  | some g => a < g.dest + g.indices.length * 2 ^ g.elem && g.dest < a + m

/-- Addresses a vector access or an extended operation may read. -/
def Lantern.readable (x : Lantern) (a : Nat) : Bool :=
  match x.rangeOf a with
  | .store | .window | .out => true
  | _ => false

/-- Addresses a vector access or an extended operation may write. -/
def Lantern.writable (x : Lantern) (a : Nat) : Bool :=
  match x.rangeOf a with
  | .store | .out => true
  | _ => false

/-! ### Gather port (08 R292, R293) -/

/-- A 4-byte read of the gather port. -/
def Lantern.gatherRead (x : Lantern) (off : Nat) : Nat :=
  match off with
  | 0x00 => x.gSrc
  | 0x04 => x.gIndex
  | 0x08 => x.gDest
  | 0x0C => x.gCount + x.gElem * 2 ^ 16
  | 0x14 => b2n x.gather.isSome + 2 * b2n x.gRange + 4 * b2n x.gRefused
  | _ => 0

/-- A write of GO: a gather starts, or REFUSED is set. -/
def State.gatherGo (s : State) (n : Nat) : State :=
  let x := s.lantern n
  let size := 2 ^ x.gElem
  if x.gather.isSome || 0x200000 < x.gIndex + 4 * x.gCount || 0x200000 < x.gDest + size * x.gCount || x.gElem = 7 ||
      x.gCount = 0 then
    s.setLantern n { x with gRefused := true }
  else
    let idx := (List.range x.gCount).map (fun k => leVal (memRead x.store (x.gIndex + 4 * k) 4))
    let y := { x with gRefused := false, gRange := false
                      gather := some { segment := (match x.kernel with | some k => k.segment | none => []), src := x.gSrc, dest := x.gDest, elem := x.gElem, indices := idx } }
    ((s.setLantern n y).lanternCount n 0x04 1).auxAdd (.gather n)

/-- A 4-byte write of the gather port. -/
def State.gatherWrite (s : State) (n off v : Nat) : State :=
  let x := s.lantern n
  match off with
  | 0x00 => s.setLantern n { x with gSrc := v }
  | 0x04 => s.setLantern n { x with gIndex := v }
  | 0x08 => s.setLantern n { x with gDest := v }
  | 0x0C => s.setLantern n { x with gCount := v % 2 ^ 16, gElem := nbits v 16 3 }
  | 0x10 => if nbit v 0 then s.gatherGo n else s
  | _ => s

/-- The bytes of a gather's elements, zeros for one beyond the segment, and whether one was (08 R293). -/
def gatherBytes (g : GatherJob) : List Byte × Bool :=
  let size := 2 ^ g.elem
  let parts := g.indices.map (fun i =>
    let a := g.src + i * size
    if g.segment.length < a + size then (zeros size, true) else ((g.segment.drop a).take size, false))
  ((parts.map (·.1)).flatten, parts.any (·.2))

/-- The outstanding gather completes: its bytes are written, and sources 48 and 49 pend (08 R293). -/
def State.gatherDone (s : State) (n : Nat) : State × List Byte :=
  let x := s.lantern n
  match x.gather with
  | none => (s, [])
  | some g =>
    let r := gatherBytes g
    let s1 := (s.setLantern n { x with gather := none, gRange := r.2, store := memWrite x.store g.dest r.1 }).pend n 48
    (if r.2 then (s1.pend n 49).lanternLimited n 0x05 2 0x0305 0 else s1, r.1)

/-! ### Interrupt controller registers (08 R308) -/

/-- The low or high word of a 64-bit field. -/
def half (v : Nat) (high : Bool) : Nat := if high then v / 2 ^ 32 else v % 2 ^ 32

/-- A word placed in the low or high half. -/
def toHalf (v : Nat) (high : Bool) : Nat := if high then v * 2 ^ 32 else v

/-- A 4-byte read of the controller: the value and the Lantern after it. COUNT clears the bytes read; a CLAIM claims. -/
def Lantern.irqRead (x : Lantern) (off now : Nat) : Lantern × Nat :=
  let h : Bool := off / 4 % 2 == 1
  if off < 0x18 then (x, half x.irqPending h)
  else if off < 0x28 then (x, half x.irqMask h)
  else if off < 0x30 then (x, half x.irqClass h)
  else if off < 0x38 then (x, half x.irqActive h)
  else if off = 0x38 then x.claim false now
  else if off = 0x3C then x.claim true now
  else if off = 0x48 then (x, x.irqHoldoff + x.irqThreshold * 2 ^ 16)
  else if 0x80 ≤ off && off < 0xC0 then
    let b := fun k => tabGet 0 x.irqCount (off - 0x80 + k)
    ({ x with irqCount := x.irqCount.filter (fun p => p.1 / 4 != (off - 0x80) / 4) },
      b 0 + 2 ^ 8 * b 1 + 2 ^ 16 * b 2 + 2 ^ 24 * b 3)
  else if 0xC0 ≤ off then (x, tabGet 0 x.pinConfig ((off - 0xC0) / 4))
  else (x, 0)

/-- Mask sources, or unmask them. -/
def Lantern.setMask (x : Lantern) (mask : Nat) (on : Bool) : Lantern :=
  { x with irqMask := if on then x.irqMask ||| mask else x.irqMask &&& (mask ^^^ (2 ^ 64 - 1)) }

/-- The line of pin source k stands high for MODE 3, or it does not. -/
def Lantern.setHigh (x : Lantern) (k : Nat) (on : Bool) : Lantern :=
  { x with pinHigh := if on then x.pinHigh ||| 2 ^ k else x.pinHigh &&& (2 ^ k ^^^ (2 ^ 16 - 1)) }

/-- Pin source k sees its line at this filtered level, with an edge or without (08 R307, R312). -/
def Lantern.pinSees (x : Lantern) (k : Nat) (level edge : Bool) (now : Nat) : Lantern :=
  let c := tabGet 0 x.pinConfig k
  let m := nbits c 6 2
  if nbits c 16 8 = 0 || 48 ≤ nbits c 0 6 then x.setHigh k false
  else if m = 3 then
    if level then
      let y := x.setHigh k true
      if edge then y.event (32 + k) now else y.setPending (2 ^ (32 + k)) now
    else (x.setHigh k false).clearPending (2 ^ (32 + k)) now
  else
    let y := x.setHigh k false
    if edge && (m = 2 || (m = 0 && level) || (m = 1 && !level)) then y.event (32 + k) now else y

/-- The levels that have been stable for FILTER samples by now are seen (08 R312). -/
def Lantern.pinsSettle (x : Lantern) (now : Nat) : Lantern :=
  let due := x.pinWait.filter (fun q => q.2.1 ≤ now)
  due.foldl (fun y q => y.pinSees q.1 q.2.2 true q.2.1) { x with pinWait := x.pinWait.filter (fun q => !(q.2.1 ≤ now)) }

/-- Lantern n as its pins show it now. -/
def State.settled (s : State) (n : Nat) : State :=
  if (s.lantern n).pinWait.isEmpty then s else s.modLantern n (fun x => x.pinsSettle s.ns)

/-- The line of pin source k shows a new level that has been stable for `had` samples at 800 MHz: it is seen once it has been stable for
FILTER of them, unless it goes back before (08 R312). -/
def Lantern.pinEdge (x : Lantern) (k : Nat) (level : Bool) (had now : Nat) : Lantern :=
  let want := nbits (tabGet 0 x.pinConfig k) 16 8
  match tabFind x.pinWait k with
  | some q => if q.2 == level then x else { x with pinWait := tabDel x.pinWait k }
  | none =>
    if want ≤ had then x.pinSees k level true now
    else { x with pinWait := tabPut x.pinWait k (now + cdiv ((want - had) * 5) 4, level) }

/-- A 4-byte write of the controller. -/
def State.irqWrite (s : State) (n off v : Nat) : State :=
  let x := s.lantern n
  let h : Bool := off / 4 % 2 == 1
  if off < 0x08 then s
  else if off < 0x10 then s.setLantern n (x.setPending (toHalf v h) s.ns)
  else if off < 0x18 then s.setLantern n (x.clearPending (toHalf v h) s.ns)
  else if off < 0x20 then s.setLantern n (x.setMask (toHalf v h) true)
  else if off < 0x28 then s.setLantern n (x.setMask (toHalf v h) false)
  else if off < 0x30 then
    let c := if h then x.irqClass % 2 ^ 32 + v * 2 ^ 32 else x.irqClass / 2 ^ 32 * 2 ^ 32 + v
    s.setLantern n ({ x with irqClass := c }.timeEarliest s.ns)
  else if off = 0x40 then s.setLantern n (x.completeSource (v % 256))
  else if off = 0x44 then s.doorbell n (v % 256)
  else if off = 0x48 then s.setLantern n { x with irqHoldoff := v % 2 ^ 16, irqThreshold := nbits v 16 7 }
  else if 0xC0 ≤ off then
    let k := (off - 0xC0) / 4
    let c := v &&& 0x00FF00FF
    s.setLantern n ({ x with pinConfig := tabPut x.pinConfig k c, pinWait := tabDel x.pinWait k }.pinSees k
      (tabGet Gio.reset s.gio (nbits c 0 6)).seen false s.ns)
  else s

end Sys2Proof.Machine
end

