-- ==== Sys2Proof/Machine/RateOps.lean ====
section
/-!
DEFINITION. What the admission ledger computes with: a lane's format table, a sconce's depth, and its exact rates in pixels, lines
and frames each second (05 R192, R193, R216; 08 R300; 14 R490).
-/

namespace Sys2Proof.Machine

/-! ### Format tables (05 R192, R193) -/

/-- Table number i of the table area. -/
def State.table (s : State) (i : Nat) : Option Table := tabFind s.tables i

/-- A sconce's active or pending parameters name the table. -/
def State.tableUsed (s : State) (i : Nat) : Bool :=
  s.sconces.any (fun x => x.2.configured && (x.2.format = some i || x.2.ids.any (fun q => q.2 = i) ||
    x.2.sets.any (fun p => p.ids.any (fun q => q.2 = i))))

/-- Tables without an owner that no parameters name any more are freed (05 R191); a replay session keeps those it loaded (16 R565). -/
def State.freeTables (s : State) : State :=
  { s with tables := s.tables.filter (fun t => t.2.owner.isSome || s.tableUsed t.1 || s.session.loaded.any (fun q => q.2 = t.1)) }

/-- The entries of a format table, 16 bytes each. -/
def formatEntries (img : List Byte) : List (List Byte) :=
  (List.range (lfld img 0x20 2)).map (fun k => (img.drop (0x40 + 16 * k)).take 16)

/-- ROLE of an entry. -/
def feRole (e : List Byte) : Nat := lbits e 3 1 0 4
/-- SCONCE of an entry. -/
def feSconce (e : List Byte) : Nat := lbits e 4 2 0 9
/-- SCONCE2 of an entry, when enabled. -/
def feSconce2 (e : List Byte) : Option Nat := if lbits e 6 2 15 1 = 1 then some (lbits e 6 2 0 9) else none
/-- PIXEL_DEPTH of an entry. -/
def feDepth (e : List Byte) : Nat := lbits e 9 1 0 5

/-- The entry matches a packet's SENSOR, VC and DT (05 R193). -/
def feMatches (e : List Byte) (sensor vc dt : Nat) : Bool :=
  (lbits e 1 1 4 1 = 1 || lfld e 0 1 = sensor) && (lbits e 1 1 5 1 = 1 || lbits e 1 1 0 4 = vc) && lbits e 2 1 0 6 = dt

/-- The classifier sconce of a lane (05 R183). -/
def State.classifierOf (s : State) (l : Nat) : Option Nat :=
  (tabKeys s.sconces (fun x => x.configured && x.classifier && x.lane == l)).head?

/-- The entries that classify a lane's packets. -/
def State.entriesOf (s : State) (l : Nat) : List (List Byte) :=
  match s.classifierOf l with
  | none => []
  | some k =>
    match (s.sconce k).format with
    | none => []
    | some i => match s.table i with | some t => formatEntries t.image | none => []

/-- The PIXEL_DEPTH with which pixels route to sconce k, if any entry does. -/
def State.depthFound (s : State) (k : Nat) : Option Nat :=
  ((s.entriesOf (s.sconce k).lane).find? (fun e => feRole e == 5 && feSconce e == k)).map feDepth

/-- PIXEL_DEPTH of sconce k; 8 bits while no PIXEL entry routes to it (05 R216). -/
def State.depthOf (s : State) (k : Nat) : Nat := (s.depthFound k).getD 8

/-! ### Rates as exact fractions (05 R216; 14 R490) -/

/-- Pixel payload of a lane at full rate in bits each second by uplink rate code (14 R490). -/
def laneBits (code : Nat) : Nat := [103000000000, 51500000000, 25700000000, 9800000000].getD code 0

/-- Source rate of sconce k in pixels each second (05 R216). -/
def State.sourceRate (s : State) (k : Nat) : Rat :=
  let x := s.sconce k
  if x.maxRate = 0 then (laneBits (s.lane x.lane).upRate : Rat) / (s.depthOf k : Nat) else (x.maxRate * 10000000 : Nat)

/-- The assembly blocks of sconce k in force and pending. -/
def State.blocksOf (s : State) (k : Nat) : List (List Byte) :=
  let x := s.sconce k
  (tabGet (zeros 32) x.par 1 :: (x.sets.filter (fun p => p.group == 1)).map (·.data)) ++
    ((x.frames.filter (fun f => !f.closed)).map (fun f => f.grp 1))

/-- WIDTH of an assembly block. -/
def abWidth (b : List Byte) : Nat := lfld b 0 2
/-- HEIGHT of an assembly block. -/
def abHeight (b : List Byte) : Nat := lbits b 2 4 0 24
/-- LINE_MODE of an assembly block. -/
def abLineMode (b : List Byte) : Nat := lbits b 6 1 0 2
/-- FRAME_MODE of an assembly block. -/
def abFrameMode (b : List Byte) : Nat := lbits b 6 1 2 2
/-- STEP of an assembly block. -/
def abStep (b : List Byte) : Nat := lfld b 0x10 4

/-- The greatest of some fractions, 0 for none. -/
def maxRat (l : List Rat) : Rat := l.foldl (fun a b => if a < b then b else a) 0

/-- Charged rate of sconce k: lines shorter than 256 pixels count as 256 (05 R216). -/
def State.chargedRate (s : State) (k : Nat) : Rat :=
  let src := s.sourceRate k
  maxRat ((s.blocksOf k).map (fun b => if 256 ≤ abWidth b then src else src * 256 / (max 1 (abWidth b) : Nat)))

/-- Line rate of sconce k (14 R490). -/
def State.lineRate (s : State) (k : Nat) : Rat :=
  maxRat ((s.blocksOf k).map (fun b => s.sourceRate k / (max 1 (abWidth b) : Nat)))

/-- Frame rate of sconce k (14 R490). -/
def State.frameRate (s : State) (k : Nat) : Rat :=
  maxRat ((s.blocksOf k).map (fun b =>
    let r := s.sourceRate k / (max 1 (abWidth b) : Nat)
    match abFrameMode b with
    | 2 => r
    | 3 => maxRat [(1000000000 : Rat) / (max 1 (abStep b) : Nat), r / (max 1 (abHeight b) : Nat)]
    | _ => r / (max 1 (abHeight b) : Nat)))

/-- The greatest WIDTH of sconce k in force or pending. -/
def State.widthOf (s : State) (k : Nat) : Nat := maxL ((s.blocksOf k).map abWidth)

/-- The greatest HEIGHT of sconce k in force or pending. -/
def State.heightOf (s : State) (k : Nat) : Nat := maxL ((s.blocksOf k).map abHeight)

/-- The output table of the sconce's machine-vision branch: that of its Configured and Running streams, else of one that is Stopping and
still takes its last frame; empty when no stream has one (07 R262, 03 R127). -/
def State.visionTable (s : State) (k : Nat) : List Byte :=
  let of (pick : Stream → Bool) : Option (Nat × Stream) := s.streams.find? (fun x => pick x.2 && x.2.sconce == k && x.2.branch == 2)
  match firstSome [of Stream.holds, of (fun x => x.st == .stopping)] with
  | some x => x.2.table
  | none => []

/-- Line rate at a Lantern's tap: the sconce's charged rate over its greatest WIDTH (08 R300). -/
def State.tapRate (s : State) (n : Nat) : Rat :=
  let x := s.lantern n
  let r := s.chargedRate x.sconce / (max 256 (s.widthOf x.sconce) : Nat)
  if x.tap = 3 then r / (tBlock (s.visionTable x.sconce) : Nat) else r

/-- Elements at a Lantern's tap for the greatest WIDTH (08 R300). -/
def State.tapElements (s : State) (n : Nat) : Nat :=
  let x := s.lantern n
  let w := s.widthOf x.sconce
  match x.tap with
  | 2 => w * (maskBits x.chMask).length
  | 3 => let t := s.visionTable x.sconce; if t.isEmpty then 0 else outWidth t w 0 * tPlaneCount t
  | _ => w

/-- Budget of a Lantern in clocks for each line (08 R300). -/
def State.lanternBudget (s : State) (n : Nat) : Nat :=
  let r := s.tapRate n
  if r = 0 then 2 ^ 32 - 1 else min ((1330000000 : Rat) / r).floor.toNat (2 ^ 32 - 1)

/-- Need of a kernel at a Lantern's tap (08 R300). -/
def State.kernelNeed (s : State) (n : Nat) (k : Kernel) : Nat :=
  lfld k.header 0x1C 4 + lfld k.header 0x20 2 * cdiv (s.tapElements n) 32

/-- The kernels a Lantern is charged for: while Active that of the last boundary, and the one a pending swap brings in (08 R297,
R300). -/
def Lantern.charged (x : Lantern) : List Kernel :=
  (if x.st == .active then [x.banks.1] else []).reduceOption ++
    (match x.swap with | some (_, _, false) => [x.banks.2].reduceOption | _ => [])

end Sys2Proof.Machine
end

