-- ==== Sys2Proof/Machine/CapSnap.lean ====
section
/-!
DEFINITION. Snapshots of a capture and what a frame boundary and a frame's close do to it (16 R557, R560, R563).
-/

namespace Sys2Proof.Machine

/-- The Lanterns bound to sconce k, by tap. -/
def State.boundTo (s : State) (k : Nat) : List Nat := tabKeys s.lanterns (fun x => x.st != .free && x.sconce == k)

/-! ### The parts of a snapshot (16 R557) -/

/-- The parameter groups of a snapshot, in order. -/
def snapGroups : List Nat := [1, 2, 3, 4, 5, 6, 0x10, 0x11]

/-- KIND and IMAGE_CRC of a table. -/
def State.tableMark (s : State) (i : Nat) : List Byte :=
  match s.table i with
  | some t => leBytes 4 (lfld t.image 0 2) ++ leBytes 4 (lfld t.image 8 4)
  | none => zeros 8

/-- Part 0x00: the frame number, the groups in force, the tables they name, the pending sets. -/
def State.snapParams (s : State) (k m : Nat) : List Byte :=
  let x := s.sconce k
  let tables := [3, 4, 5, 0x11, 0x12].filterMap (tabFind x.ids)
  fitTo 32 (leBytes 8 m) ++ (snapGroups.map (fun g => fitTo 32 (tabGet (zeros 32) x.par g))).flatten ++
    fitTo 0xE0 ((tables.map s.tableMark).flatten) ++
    (x.sets.map (fun p =>
      fitTo 32 (leBytes 1 p.group ++ leBytes 1 (b2n p.at_.isSome) ++ zeros 2 ++ leBytes 4 p.commitSeq ++ leBytes 8 (p.at_.getD 0)) ++
        fitTo 32 p.data)).flatten

/-- IMAGE_CRC of a kernel, 0 for none. -/
def kernelCrc (k : Option Kernel) : Nat := match k with | some q => lfld q.header 8 4 | none => 0

/-- Operand bytes 0x08 to 0x0F of the LANTERN_BIND that made a binding (08 R298). -/
def Lantern.bindBytes (x : Lantern) (n : Nat) : List Byte :=
  leBytes 1 n ++ leBytes 1 (x.tap + 4 * b2n x.policy) ++ leBytes 2 x.sconce ++ leBytes 1 x.slack ++ leBytes 1 x.chMask ++ leBytes 2 x.fill

/-- Part 0x10 + tap: the binding, the banks, the registers that outlast routines, the interrupt controller. -/
def State.snapLantern (s : State) (n : Nat) : List Byte :=
  let x := s.lantern n
  let regs := fitTo 0x40 (x.bindBytes n ++ leBytes 4 (kernelCrc x.banks.1) ++ leBytes 4 (kernelCrc x.banks.2) ++ leBytes 4 (x.spr 9) ++ leBytes 4 (x.spr 0xA) ++ leBytes 4 (x.spr 0xB))
  let shadow := ((List.range 16).map (fun j => leBytes 4 (tabGet 0 x.shadow (16 + j)))).flatten
  regs ++ shadow ++ zeros 0x80 ++ ((List.range 64).map (fun j => leBytes 4 (x.irqRead (4 * j) s.ns).2)).flatten

/-- Part 0x20 + tap: the local store. -/
def Lantern.storeBytes (x : Lantern) : List Byte := (List.range 0x200000).map (memGet x.store)

/-- Part 0x30 + channel: the last OBSERVER body, the raw count and the filtered levels. -/
def State.snapEncoder (s : State) (e b : Nat) : List Byte :=
  let x := s.enc e
  fitTo 32 (x.journalBody (256 * (x.tk / 10000 * 10000)) 0 ++ leBytes 4 (x.rawAt (256 * b)) ++
    leBytes 1 (b2n x.a + 2 * b2n x.b + 4 * b2n x.z))

/-- Part 0x40: the targets of the sconce with their match queues. -/
def State.snapTargets (s : State) (k : Nat) : List Byte :=
  (s.targets.map (fun g =>
    if g.2.cfg.kind != 0 && g.2.cfg.sconceEn && g.2.cfg.sconce == k then
      fitTo 32 (leBytes 1 g.1 ++ zeros 7 ++ leBytes 8 (match g.2.last with | some f => f / 256 | none => 0) ++
        leBytes 8 (match g.2.held with | some h => h.1.f / 256 | none => 0)) ++
      (((s.sconce k).fires.filter (fun q => q.target == g.1)).map (fun q => leBytes 8 (q.fire / 256))).flatten
    else [])).flatten

/-- The snapshot of sconce k at boundary b of frame m joins its capture. -/
def State.snapshot (s : State) (k m b : Nat) (c : Capture) : Capture :=
  let put (d : Capture) (part : Nat) (body : List Byte) : Capture := d.add k 2 0 0 part body.length b body
  let ns := s.boundTo k
  let c1 := put (c.closeEncs k) 0 (s.snapParams k m)
  let c2 := ns.foldl (fun d n => put d (0x10 + (s.lantern n).tap) (s.snapLantern n)) c1
  let c3 := ns.foldl (fun d n => put d (0x20 + (s.lantern n).tap) (s.lantern n).storeBytes) c2
  let c4 := (s.captureChannels k).foldl (fun d e => put d (0x30 + e) (s.snapEncoder e b)) c3
  let t := s.snapTargets k
  let c5 := if t.isEmpty then c4 else put c4 0x40 t
  { c5 with snap := some b, copied := [], whole := true, st := 1 }

/-! ### Boundaries and closes (16 R557, R560, R563) -/

/-- Every Lantern bound to the sconce has been copied. -/
def State.copiesReady (s : State) (k : Nat) (c : Capture) : Bool := (s.boundTo k).all (fun n => c.copied.contains n)

/-- The entry of a gap joins the blocks of a capture that had fallen behind (16 R560). -/
def Capture.endGap (c : Capture) (k : Nat) : Capture :=
  if c.st = 3 then
    let d := c.closeBlock k
    { d with queue := d.queue ++ [{ kind := 2, sconce := k, content := [], gapFrames := c.lostFrames }], gaps := c.gaps + 1, lostFrames := 0 }
  else c

/-- A capture ends: an END item, the last block, and a capture-end entry. -/
def Capture.finish (c : Capture) (k at_ : Nat) : Capture :=
  let c1 := (((c.endGap k).closeEncs k).add k 5 0 0 0 0 at_ []).closeBlock k
  let e : CapBlock := { kind := 3, sconce := k, content := [], gapFrames := 0 }
  { c1 with queue := c1.queue ++ [e], st := 2, whole := false }

/-- Frame m of sconce k opens with boundary b: its capture starts, takes a snapshot, resumes after a gap, or ends. -/
def State.captureOpens (s : State) (k m b : Nat) : State :=
  match s.capture k with
  | none => s
  | some c =>
    if c.st = 2 then s
    else if c.ending then ((s.setCapture k (c.finish k b)).captureState k c.port 2 m).captureFlush k
    else if c.st = 0 then
      if s.copiesReady k c then (((s.setCapture k (s.snapshot k m b c)).captureState k c.port 1 m).captureFlush k).captureCheck k else s
    else if c.st = 1 then
      let due : Bool := match c.snap with | some v => v + c.period * 1000000 ≤ b | none => true
      if due && s.copiesReady k c then ((s.setCapture k (s.snapshot k m b c)).captureFlush k).captureCheck k
      else s.setCapture k { c with whole := true }
    else if c.held < captureBuffer / 2 && s.copiesReady k c then
      ((s.setCapture k (s.snapshot k m b (c.endGap k))).captureFlush k).captureCheck k
    else s.setCapture k { c with lostFrames := c.lostFrames + 1 }

/-- Frame m of sconce k has closed: RECORDED when its capture holds every item of it (16 R560). -/
def State.captureCloses (s : State) (k m : Nat) : State :=
  match s.capture k with
  | some c =>
    if c.st = 1 && c.whole then
      s.modSconce k (fun x => x.modFrame m (fun f => { f with recorded := true }))
    else s
  | none => s

/-- Every capture ends at the next boundary of its sconce: the FV8128 leaves Record (16 R556). -/
def State.capturesEnd (s : State) : State :=
  { s with recorder := { s.recorder with caps := tabMap s.recorder.caps (fun _ c => { c with ending := true }) } }

/-- A local store has been copied for the captures of its sconce (16 R557). -/
def State.captureCopied (s : State) (n : Nat) : State :=
  let k := (s.lantern n).sconce
  match s.capture k with
  | some c => if (s.lantern n).st != .free && !c.copied.contains n then s.setCapture k { c with copied := n :: c.copied } else s
  | none => s

/-! ### Images loaded during a capture (16 R558) -/

/-- The sconces whose captures take a loaded image: code 1 a table by a port that owns the sconce, 2 a Lantern bound to it, 3 a
sequencer that fires one of its targets. -/
def State.imageSconces (s : State) (code who : Nat) : List Nat :=
  (s.recorder.caps.map (·.1)).filter (fun k =>
    match code with
    | 1 => (s.sconce k).owner = some who
    | 2 => (s.boundTo k).contains who
    | _ => (s.seqr who).firesOf.any (fun g => (s.target g).cfg.sconceEn && (s.target g).cfg.sconce == k))

/-- An image committed during captures becomes an IMAGE item of each that uses it. -/
def State.captureImage (s : State) (code who : Nat) (image : List Byte) : State :=
  (s.imageSconces code who).foldl (fun t k => t.captureItem k 3 0 0 code image.length s.dt image) s

end Sys2Proof.Machine
end

