-- ==== Sys2Proof/Machine/PortOps.lean ====
section
/-!
DEFINITION. Operations of the host ports: set-up registers and their actions, polls and ring faults, the control claim and
error reporting (02_host_ports, 03 R84 to R100, 21_setup_registers).
-/

namespace Sys2Proof.Machine

/-! ### Error reporting (02 R71 to R73) -/

/-- Bit of an uncorrectable error in the AER registers (02 R71; places PRESUMED as PCI Express numbers them). -/
def aerPoisoned : Nat := 12
/-- Flow Control Protocol Error. -/
def aerFlowControl : Nat := 13
/-- Completion Timeout. -/
def aerTimeout : Nat := 14
/-- Completer Abort. -/
def aerCompleterAbort : Nat := 15
/-- Unexpected Completion. -/
def aerUnexpected : Nat := 16
/-- Malformed TLP. -/
def aerMalformed : Nat := 18
/-- ECRC Error. -/
def aerEcrc : Nat := 19
/-- Unsupported Request. -/
def aerUnsupported : Nat := 20
/-- Uncorrectable Internal Error. -/
def aerInternal : Nat := 22
/-- Data Link Protocol Error. -/
def aerDataLink : Nat := 4
/-- Advisory Non-Fatal Error, a bit of the correctable registers. -/
def aerAdvisory : Nat := 13
/-- Corrected Internal Error, a bit of the correctable registers. -/
def aerCorrectedInternal : Nat := 14

/-- Set bit n of a register. -/
def setBit (v n : Nat) : Nat := v ||| 2 ^ n

/-- An uncorrectable error's status bit is set; one that is not masked fills the First Error Pointer and the header log, unless
the bit that the pointer names is still set (02 R71; PRESUMED as PCI Express gives it, entry 86). -/
def Port.logUncorrectable (x : Port) (bit header : Nat) : Port :=
  let first := !nbit x.aerUncMask bit && !nbit x.aerUnc x.firstError
  { x with aerUnc := setBit x.aerUnc bit
           firstError := if first then bit else x.firstError
           headerLog := if first then header else x.headerLog }

/-- Log an uncorrectable error with its header and send its message at the programmed severity, unless it is masked. -/
def State.aerUncorrectable (s : State) (p bit header : Nat) : State :=
  let x := s.port p
  let s1 := s.setPort p (x.logUncorrectable bit header)
  if nbit x.aerUncMask bit then s1
  else s1.say (.err p (if nbit x.aerUncSev bit then .fatal else .nonFatal))

/-- Log a correctable error and send ERR_COR, unless it is masked. -/
def State.aerCorrectable (s : State) (p bit : Nat) : State :=
  let x := s.port p
  let s1 := s.setPort p { x with aerCor := setBit x.aerCor bit }
  if nbit x.aerCorMask bit then s1 else s1.say (.err p .cor)

/-- An advisory non-fatal error: the error's own bit and header are logged, and the message is ERR_COR (02 R71). One whose
programmed severity is fatal is no advisory error (PRESUMED as PCI Express gives it, entry 86). -/
def State.aerAdvise (s : State) (p bit header : Nat) : State :=
  let x := s.port p
  if nbit x.aerUncSev bit then s.aerUncorrectable p bit header
  else (s.setPort p (x.logUncorrectable bit header)).aerCorrectable p aerAdvisory

/-! ### Capacity of a link (02 R48) -/

/-- C in units of 0.1 GB/s × 16 at this rate, payload size and width 16 times over, so that every width is exact: the x16
figure of 02 R48 times the width. -/
def linkCapacity16 (rate mps width : Nat) : Nat :=
  let row := if mps ≥ 512 then 0 else if mps = 256 then 1 else 2
  let c := if rate = 640 then [1150, 1104, 1035].getD row 0
    else if rate = 320 then [575, 552, 518].getD row 0
    else if rate = 160 then [287, 276, 258].getD row 0 else 0
  c * width

/-- A port's C in bytes per second (02 R48), at the width to which its link trained: L0p widens it again when needed (02 R64). -/
def Port.capacity (x : Port) : Nat := linkCapacity16 x.rate x.mps x.fullWidth * 100000000 / 16

/-- DATA of PORT_LINK and PORT_DEGRADED (03 R116). -/
def Port.linkData (x : Port) : Nat :=
  x.rate % 2 ^ 16 + x.width % 2 ^ 8 * 2 ^ 16 + (linkCapacity16 x.rate x.mps x.width / 16) % 2 ^ 16 * 2 ^ 32

/-- A port that stays at 8.0 GT/s or below is reported as degraded in its event ring, once for each time (02 R49). -/
def State.reportDegraded (s : State) (p : Nat) : State :=
  let x := s.port p
  let low := x.link == .up && x.rate ≤ 80
  if low && !x.degraded && (x.ring 1).st != .outOfService then
    (s.setPort p { x with degraded := true }).record p 1 2 0x0003 (islandPort p) p x.linkData
  else if !low then s.setPort p { x with degraded := false } else s

/-! ### Control claim (02 R75 to R77) -/

/-- The claim leaves the port of an enabled journal ring: the ring is disabled, and the new holder q gets JOURNAL_GAP (16 R554). -/
def State.journalClaim (s : State) (q : Nat) : State :=
  if s.jn.ringEn && s.jn.ring / 1024 != q then
    let n := (tabGet (0, 0) s.jn.gapReport 1).2
    ({ s with jn := { s.jn with ringEn := false, oldRing := none, gapReport := tabPut s.jn.gapReport 1 (s.ns, 0) } }).record q 1 2 0x0A01 islandEmber 0
      (1 + n % 2 ^ 56 * 256)
  else s

/-- The claim passes to port q; ring 1 of each port listed gets a CLAIM record (02 R75, R77, 03 R116). -/
def State.giveClaim (s : State) (q : Nat) (tell : List Nat) : State :=
  let old := s.claim.getD s.claimLast
  (tell.foldl (fun (t : State) p => t.record p 1 3 0x0005 islandSup q old) { s with claim := some q, claimLast := q }).journalClaim q

/-- The command ring of port p has left service or the port has reset: a claim it held passes to the lowest-numbered other
port whose command ring is in service, or to none (02 R77). -/
def State.claimLost (s : State) (p : Nat) : State :=
  if s.claim = some p then
    match portNumbers.filter (fun q => q != p && (s.ring q 0).live) with
    | q :: _ => s.giveClaim q [q]
    | [] => { s with claim := none, claimLast := p }
  else s

/-- The command ring of port p has come into service: a claim that no port holds returns to it (02 R77). -/
def State.claimReturn (s : State) (p : Nat) : State :=
  match s.claim with
  | none => s.giveClaim p [p]
  | some _ => s

/-! ### Ring faults (03 R93, 21 R670) -/

/-- Ring i of port p is faulted with this cause and reports it to its event ring. A fault of ring 0 acts as TAKE_DOWN acts
on it; the records of ring 1 are held. -/
def State.faultRing (s : State) (p i cause : Nat) : State :=
  let r := s.ring p i
  if !r.live then s
  else
    let dead : Ring := { Ring.reset with st := .faulted, cause := cause }
    let gone := if i = 1 then { dead with held := r.held, collapsed := r.collapsed, eventRing := 1, kind := 2 } else dead
    let s1 := s.setRing p i gone
    let s2 := s1.record p r.eventRing 1 0x000A (islandPort p) (ringId p i) cause
    if i = 0 then s2.claimLost p else s2

/-- Deassert INTA once every ring whose moderation had fired has been handed back whole (02 R67). -/
def State.checkInta (s : State) (p : Nat) : State :=
  let x := s.port p
  if x.intStatus && x.intaRings.all (fun i => !(x.ring i).live || (x.ring i).caughtUp) then
    (s.setPort p { x with intStatus := false, intaRings := [] }).say (.intx p false)
  else s

/-! ### Set-up registers (21) -/

/-- SETUP_STATUS.READY: firmware runs and the port accepts actions (21 R667). -/
def State.setupReady (s : State) (p : Nat) : Bool :=
  (s.port p).ready && (s.start.fw == .copyA || s.start.fw == .copyB) && s.mode != .dark && s.mode != .keep

/-- The base and size registers of ring 0, ring 1 or the page are locked (21 R668). -/
def State.locked (s : State) (p : Nat) (which : Nat) : Bool :=
  let x := s.port p
  let act (l : List SetupAction) : Bool := match x.busy with | some a => l.contains a.1 | none => false
  match which with
  | 0 => (x.ring 0).live || act [.bringUp, .restartRing0]
  | 1 => (x.ring 1).live || act [.bringUp, .restartRing1]
  | _ => x.doorbell || act [.bringUp]

/-- A write is discarded: REJECT is set and REJECT_INFO names the offset and the reason (00 R11, 21 R665, R667). -/
def State.rejectWrite (s : State) (p off reason : Nat) : State :=
  s.modPort p (fun x => { x with reject := true, rejectOffset := off, rejectReason := reason })

/-- Reason for which an action is refused: 3, 4, 5, 6, 7 in this order (21 R669). -/
def State.actionRefusal (s : State) (p : Nat) (a : SetupAction) : Option Nat :=
  let x := s.port p
  let r0 := x.ring 0
  let r1 := x.ring 1
  let busy := x.busy.isSome
  if !s.setupReady p then some 3
  else match a with
    | .bringUp =>
      if busy || r0.st != .outOfService || r1.st != .outOfService || x.doorbell then some 4
      else if x.cmdBase = 0 || x.evtBase = 0 || x.dbBase = 0 then some 6
      else if !x.bme then some 7 else none
    | .takeDown =>
      if busy || !x.doorbell then some 4
      else if x.rings.any (fun r => 2 ≤ r.1 && r.2.live) then some 5 else none
    | .restartRing0 => if busy || r0.st != .faulted || r1.st != .inService then some 4 else none
    | .restartRing1 => if busy || r1.st != .faulted || !x.doorbell then some 4 else none

/-- Ring 0 as its registers give it (21 R667, R669). -/
def Port.ring0 (x : Port) : Ring :=
  { Ring.reset with st := .inService, kind := 1, log2size := x.cmdSize, base := x.cmdBase, eventRing := 1 }

/-- Ring 1 as its registers give it: vector 0, holdoff 0, threshold 1, naming itself (21 R669, 02 R66). -/
def Port.ring1 (x : Port) : Ring :=
  { Ring.reset with st := .inService, kind := 2, log2size := x.evtSize, base := x.evtBase, threshold := 1, eventRing := 1 }

/-- The records that ring 1 gets when it first comes into service after start-up (17 R583, R584, R592, 21 R671). -/
def State.firstRecords (s : State) (p : Nat) : State :=
  if (s.port p).reported then s
  else
    let u := s.start
    let data := u.kind + u.fromMode.code * 2 ^ 8 + u.cause * 2 ^ 16 + b2n (u.fw == .copyB) * 2 ^ 24
    let s1 := (s.modPort p (fun x => { x with reported := true })).recordAt u.time p 1
      (if u.fromMode == .dark then 2 else 3) 0x0B02 islandEmber 0 data
    if u.fw == .copyB then s1.record p 1 2 0x0B03 islandSup 0 (1 + u.failStep * 2 ^ 8) else s1

/-- BRING_UP accepted: the page, ring 1, then ring 0 come into service (21 R669, 03 R98). -/
def State.bringUp (s : State) (p : Nat) : State :=
  let s1 := s.modPort p (fun x => { x with doorbell := true, epoch := 0, pollInterval := 5, nextPoll := s.ns, lastActive := s.ns })
  let s2 := (s1.setRing p 1 (s1.port p).ring1).firstRecords p
  let s3 := s2.reportDegraded p
  (s3.setRing p 0 (s3.port p).ring0).claimReturn p

/-- TAKE_DOWN accepted: ring 0, then ring 1 and the page leave service (21 R669). DEDUCED (entry 87): their entries need no
hand-back any more, and INTA is deasserted when no other ring that had fired waits for one (02 R67). -/
def State.takeDown (s : State) (p : Nat) : State :=
  let s1 := (s.setRing p 0 Ring.reset).setRing p 1 Ring.reset
  ((s1.modPort p (fun x => { x with doorbell := false, degraded := false })).checkInta p).claimLost p

/-- RESTART_RING0 accepted (21 R669). -/
def State.restart0 (s : State) (p : Nat) : State := (s.setRing p 0 (s.port p).ring0).claimReturn p

/-- RESTART_RING1 accepted: back in service with the held records written, any RING_OVERFLOW first (21 R669). -/
def State.restart1 (s : State) (p : Nat) : State :=
  let r := s.ring p 1
  (s.setRing p 1 { (s.port p).ring1 with held := r.held, collapsed := r.collapsed }).drainRing p 1

/-- A SETUP_CONTROL action: refused with its reason, or accepted with BUSY set for at most 10 µs (21 R669). In Dark a write
has no effect (21 R666). -/
def State.setupAction (s : State) (p : Nat) (a : SetupAction) : State :=
  if s.mode == .dark then s
  else match s.actionRefusal p a with
    | some why => s.rejectWrite p 0x050 why
    | none =>
      let s1 := s.modPort p (fun x => { x with busy := some (a, s.ns + 10000) })
      match a with
      | .bringUp => s1.bringUp p
      | .takeDown => s1.takeDown p
      | .restartRing0 => s1.restart0 p
      | .restartRing1 => s1.restart1 p

/-- A 4-byte write to a set-up register (21 R664 to R668). -/
def State.setupWrite (s : State) (p off v : Nat) : State :=
  let lo (b : Nat) : Nat := b / 2 ^ 32 * 2 ^ 32 + v % 2 ^ 32 / 4096 * 4096
  let hi (b : Nat) : Nat := b % 2 ^ 32 + v % 2 ^ 32 * 2 ^ 32
  let badSize := v % 32 < 6 || 16 < v % 32
  if s.mode == .dark then s
  else if off = 0x004 then if nbit v 17 then s.modPort p (fun x => { x with reject := false }) else s
  else if off = 0x00C then s.modPort p (fun x => { x with scratch := v % 2 ^ 32 })
  else if off = 0x020 || off = 0x024 || off = 0x028 then
    if s.locked p 0 then s.rejectWrite p off 2
    else if off = 0x020 then s.modPort p (fun x => { x with cmdBase := lo x.cmdBase })
    else if off = 0x024 then s.modPort p (fun x => { x with cmdBase := hi x.cmdBase })
    else if badSize then s.rejectWrite p off 1
    else s.modPort p (fun x => { x with cmdSize := v % 32 })
  else if off = 0x030 || off = 0x034 || off = 0x038 then
    if s.locked p 1 then s.rejectWrite p off 2
    else if off = 0x030 then s.modPort p (fun x => { x with evtBase := lo x.evtBase })
    else if off = 0x034 then s.modPort p (fun x => { x with evtBase := hi x.evtBase })
    else if badSize then s.rejectWrite p off 1
    else s.modPort p (fun x => { x with evtSize := v % 32 })
  else if off = 0x040 || off = 0x044 then
    if s.locked p 2 then s.rejectWrite p off 2
    else if off = 0x040 then s.modPort p (fun x => { x with dbBase := lo x.dbBase })
    else s.modPort p (fun x => { x with dbBase := hi x.dbBase })
  else if off = 0x050 then
    match v % 8 with
    | 0 => s
    | 1 => s.setupAction p .bringUp
    | 2 => s.setupAction p .takeDown
    | 3 => s.setupAction p .restartRing0
    | 4 => s.setupAction p .restartRing1
    | _ => s.rejectWrite p off 1
  else s

/-- The value a read of a set-up register gives (21 R667). -/
def State.setupRead (s : State) (p off : Nat) : Nat :=
  let x := s.port p
  let r0 := x.ring 0
  let r1 := x.ring 1
  let mode := if s.start.fw == .failed then 1 else s.mode.code
  match off with
  | 0x000 => 0x10B28128 + p * 2 ^ 24
  | 0x004 => b2n (s.setupReady p) + b2n (s.start.fw == .failed) * 2 + b2n (s.start.fw == .copyB) * 4 + mode * 8 +
      b2n (s.claim = some p) * 64 + b2n x.busy.isSome * 128 + r0.st.code * 256 + r1.st.code * 1024 +
      b2n x.doorbell * 4096 + (if r0.st == .faulted then r0.cause else 0) * 2 ^ 13 +
      (if r1.st == .faulted then r1.cause else 0) * 2 ^ 15 + b2n x.reject * 2 ^ 17
  | 0x008 => x.rejectOffset + x.rejectReason * 2 ^ 12
  | 0x00C => x.scratch
  | 0x010 => match s.start.fw with
    | .copyA => (Config.firmwareVersion false).toNat
    | .copyB => (Config.firmwareVersion true).toNat
    | _ => 0
  | 0x020 => x.cmdBase % 2 ^ 32
  | 0x024 => x.cmdBase / 2 ^ 32
  | 0x028 => x.cmdSize
  | 0x030 => x.evtBase % 2 ^ 32
  | 0x034 => x.evtBase / 2 ^ 32
  | 0x038 => x.evtSize
  | 0x040 => x.dbBase % 2 ^ 32
  | 0x044 => x.dbBase / 2 ^ 32
  | _ => 0

/-! ### Kick and poll (03 R95 to R100, 02 R61) -/

/-- A kick: the next poll begins as soon as it may, and the configured interval is restored (03 R100, 02 R61). -/
def State.kick (s : State) (p : Nat) : State :=
  let x := s.port p
  if x.doorbell && s.canFetch p then s.setPort p { x with nextPoll := s.ns, inL1 := false, kicked := some s.dt } else s

/-- DOORBELL: a poll, or a kick, brings a new host index of a command ring (16 R546). -/
def State.journalDoorbell (s : State) (p i h : Nat) : State :=
  let k := (s.port p).kicked
  s.journal (b2n k.isSome) 0x03 (islandPort p) (k.getD s.dt) (leBytes 2 (ringId p i) ++ leBytes 2 h)

/-- The FV8128 reads host index H of ring i (03 R87, R93, R98). -/
def State.readIndex (s : State) (p i h : Nat) : State :=
  let r := s.ring p i
  if !r.live then s
  else if hostFilled r.kind then
    if idxDiff h r.d > r.size - 1 then s.faultRing p i 1
    else
      let s1 := s.setRing p i { r with h := h }
      if r.kind = 1 && r.h != h then s1.journalDoorbell p i h else s1
  else if idxDiff r.d h > r.size - 1 then s.faultRing p i 3
  else (s.setRing p i { r with h := h }).drainRing p i

/-- One index word: two rings (03 R96). -/
def State.readWord (s : State) (p : Nat) (w : Nat × BitVec 32) : State :=
  (s.readIndex p (2 * w.1) (w.2.toNat % 65536)).readIndex p (2 * w.1 + 1) (w.2.toNat / 65536)

/-- A word of the poll holds an index that differs from the one known: the poll finds work (02 R61). -/
def Port.hasWork (x : Port) (ws : List (Nat × BitVec 32)) : Bool :=
  ws.any (fun w =>
    ((x.ring (2 * w.1)).live && (x.ring (2 * w.1)).h != w.2.toNat % 65536) ||
    ((x.ring (2 * w.1 + 1)).live && (x.ring (2 * w.1 + 1)).h != w.2.toNat / 65536))

/-- A poll that reads these index words: POLL_EPOCH is written, incremented, when at least one word was read, after all
of them (03 R98). -/
def State.poll (s : State) (p : Nat) (ws : List (Nat × BitVec 32)) (next : Nat) : State :=
  let s1 := s.modPort p (fun x => { x with nextPoll := next })
  let s2 := if ws.isEmpty then s1
    else
      let e := ((s1.port p).epoch + 1) % 2 ^ 32
      (s1.modPort p (fun x => { x with epoch := e })).say (.hostWrite p ((s1.port p).dbBase + 0x840) (leBytes 4 e))
  ((ws.foldl (fun t w => if w.1 < 512 then t.readWord p w else t) s2).modPort p (fun x => { x with kicked := none })).checkInta p

/-- A poll may run: the page is in service, the port reads its host, and the last poll's interval has passed. -/
def State.pollAllowed (s : State) (p : Nat) : Bool :=
  (s.port p).doorbell && s.canFetch p && (s.port p).nextPoll ≤ s.ns

/-- Signal once every ring whose moderation fired while interrupts were off (02 R68). -/
def State.signalFired (s : State) (p : Nat) : State :=
  let x := s.port p
  (tabKeys x.rings (fun r => r.live && r.fired)).foldl
    (fun t i => (t.modRing p i (fun r => { r with fired := false })).fireRing p i) s

/-- The port may send MSI-X messages: MSI-X is enabled and the port may write (02 R58, R59, R66, R68). -/
def Port.canSignal (x : Port) : Bool := x.msixEnable && x.canWrite

/-- Every pending vector that neither its own mask nor the function mask holds is sent once (02 R66). -/
def State.flushPending (s : State) (p : Nat) : State :=
  let x := s.port p
  if x.fnMask || !x.canSignal then s
  else (x.pba.filter (fun v => !(tabGet MsixEntry.reset x.msixTable v).masked)).foldl
    (fun t v => (t.modPort p (fun y => { y with pba := y.pba.filter (· != v) })).sendVector p v) s

/-- Unmask vector v: a pending message is sent once (02 R66). -/
def State.unmaskVector (s : State) (p v : Nat) : State :=
  (s.modPort p (fun x => { x with msixTable := tabMod MsixEntry.reset x.msixTable v (fun e => { e with masked := false }) })).flushPending p

/-- Statuses and records that were held while the port could not write are written in order, then the interrupts that were held
are signalled (02 R58, R59, R66, R68). -/
def State.flushPort (s : State) (p : Nat) : State :=
  let live := tabKeys (s.port p).rings (fun r => r.live)
  ((live.foldl (fun t i =>
    let r := t.ring p i
    let t1 := t.setRing p i { r with heldDone := [] }
    (r.heldDone.foldl (fun u h => u.finish p i h.index h.entry ⟨h.status, h.detail⟩) t1).drainRing p i) s).flushPending p).signalFired p

end Sys2Proof.Machine
end

