-- ==== Sys2Proof/Machine/SpareOps.lean ====
section
/-!
DEFINITION. The spare pools: physical and logical units, spare-ins and their records, wear, and exhaustion (01 R38, R39;
15 R507 to R518, R541, R544).
-/

namespace Sys2Proof.Machine

/-! ### Pools and units (01 R38, 15 R509) -/

/-- Pool of wicks. -/
def poolWicks : Nat := 1
/-- Pool of slices. -/
def poolSlices : Nat := 2
/-- Pool of Lanterns. -/
def poolLanterns : Nat := 3
/-- Pool of JPEG XS encoders. -/
def poolEncoders : Nat := 4
/-- Pool of HBM rows. -/
def poolRows : Nat := 5
/-- Pool of HBM data lanes. -/
def poolDataLanes : Nat := 6
/-- Pool of regulator phases. -/
def poolPhases : Nat := 7
/-- Pool of PLLs. -/
def poolPlls : Nat := 8
/-- Pool of NV journal blocks. -/
def poolNv : Nat := 9
/-- Pool of supervisors. -/
def poolSup : Nat := 10

/-- Physical units of pools 0x01 to 0x04. -/
def poolSize (pool : Nat) : Nat := [0, 136, 68, 72, 34].getD pool 0

/-- Logical units of pools 0x01 to 0x04. -/
def poolUnits (pool : Nat) : Nat := [0, 128, 64, 64, 32].getD pool 0

/-- The logical unit of physical unit k at the first power-on: the spares are the highest physical indices, of each chiplet for
wicks (15 R509, 01 R38). -/
def firstLogical (pool k : Nat) : Option Nat :=
  if pool = poolWicks then (if k % 34 < 32 then some (k / 34 * 32 + k % 34) else none)
  else if k < poolUnits pool then some k else none

/-- A physical unit at the first power-on. -/
def firstPhys (pool k : Nat) : Phys :=
  let l := if pool ≤ 4 then firstLogical pool k else none
  { st := if pool ≤ 4 && l.isNone then 1 else 0, logical := l, errs := [], mismatches := 0, trend := none, used := 0, groups := [], lost := 0 }

/-- Physical unit k of a pool. -/
def State.phys (s : State) (pool k : Nat) : Phys := tabGet (firstPhys pool k) s.health.units (pool * 65536 + k)

/-- Put physical unit k of a pool. -/
def State.setPhys (s : State) (pool k : Nat) (u : Phys) : State :=
  { s with health := { s.health with units := tabPut s.health.units (pool * 65536 + k) u } }

/-- The physical unit in service for a logical unit. -/
def State.physOf (s : State) (pool n : Nat) : Option Nat :=
  (List.range (poolSize pool)).find? (fun k => (s.phys pool k).st = 0 && (s.phys pool k).logical = some n)

/-- A self-test runs on the slice of sconce k, or on a Lantern bound to it (20 R660). -/
def State.selfTested (s : State) (k : Nat) : Bool :=
  s.tests.any (fun q => (q.test = 5 && s.physOf poolSlices (k / 8) = some q.unit) ||
    (q.test = 6 && (List.range 64).any (fun n => s.physOf poolLanterns n = some q.unit && (s.lantern n).st != .free && (s.lantern n).sconce = k)))

/-- DETAIL [15:8] of a unit: the chiplet of a wick or PLL, the stack of an HBM channel, the rail (15 R509). -/
def unitInstance (pool k : Nat) : Nat :=
  if pool = poolWicks then k / 34 else if pool = poolRows || pool = poolDataLanes then k / 16
  else if pool = poolPhases || pool = poolPlls then k else 0

/-- A unit is spoken for by a spare-in that is pending. -/
def State.claimed (s : State) (pool k : Nat) : Bool :=
  s.plans.any (fun q => q.pool = pool && q.new_ = k) || s.takeOvers.any (fun q => q.pool = pool && q.new_ = k)

/-- Free spares of pools 0x01 to 0x04 that may serve a logical unit, lowest first; a wick serves its own chiplet (01 R38). -/
def State.freeSpares (s : State) (pool n : Nat) : List Nat :=
  (List.range (poolSize pool)).filter (fun k =>
    (s.phys pool k).st = 1 && !s.claimed pool k && (pool != poolWicks || k / 34 = n / 32))

/-- The logical slice has no physical unit and none is taking over (15 R514). -/
def State.unitLost (s : State) (pool n : Nat) : Bool :=
  (s.physOf pool n).isNone && !s.takeOvers.any (fun q => q.pool = pool && q.logical = n)

/-! ### Records (15 R508, R544) -/

/-- A record of this chapter: to ring 1 of every port in service. DESIGN CHOICE (entry 85): its ISLAND, which 15 R544 does not
name, is the supervisor complex. -/
def State.spareRecord (s : State) (cls typ subject data : Nat) : State := s.reportPorts s.inService cls typ islandSup subject data

/-- Every port in service logs a Corrected Internal Error (02 R72). -/
def State.correctedInternal (s : State) : State :=
  (portNumbers.filter s.inService).foldl (fun t p => t.aerCorrectable p aerCorrectedInternal) s

/-- DATA of SPARE_IN. -/
def spareData (old new kind words : Nat) : Nat := old % 65536 + new % 65536 * 2 ^ 16 + kind * 2 ^ 32 + words % 2 ^ 24 * 2 ^ 40

/-- A spare has come into service: SPARE_IN, the journal and AER; SPARE_LOW when none is left (15 R508, R514). -/
def State.spareReport (s : State) (pool n old new kind words inst : Nat) (last : Bool) : State :=
  let d := spareData old new kind words
  let s1 := s.journal 0 0x60 islandSup s.dt (leBytes 8 d ++ zeros 8)
  let s2 := (s1.spareRecord (if kind = 0 then 3 else 2) 0x0901 (n % 65536 + pool * 2 ^ 16) d).correctedInternal
  if last then s2.spareRecord 2 0x0902 (n % 65536 + pool * 2 ^ 16) inst else s2

/-- Spare new of pools 0x01 to 0x04 serves logical unit n in place of old, which has failed (15 R508). -/
def State.spareDone (s : State) (pool n old new kind words : Nat) : State :=
  let s1 := s.setPhys pool old { s.phys pool old with st := 4, logical := none }
  let s2 := s1.setPhys pool new { s1.phys pool new with st := 0, logical := some n }
  s2.spareReport pool n old new kind words (unitInstance pool old) (s2.freeSpares pool n).isEmpty

/-- A pool has no spare for a fault: POOL_EXHAUSTED, and UNIT_LOST when a unit goes with it (15 R514). -/
def State.exhausted (s : State) (pool n phys inst : Nat) (lost : Bool) : State :=
  let s1 := s.spareRecord 1 0x0903 (n % 65536 + pool * 2 ^ 16) inst
  if lost then s1.spareRecord 1 0x090D (n % 65536 + pool * 2 ^ 16) phys else s1

/-! ### Spares of the parts of a unit (15 R509, R541) -/

/-- Groups of 32 data lanes of an HBM channel, each with one spare lane (01 R38): 1,024 pins a stack (R33) over 16 channels (15 R541). -/
def hbmLaneGroups : Nat := 1024 / 16 / 32

/-- Spares left of unit k of pools 0x05 to 0x09. -/
def State.sparesLeft (s : State) (pool k : Nat) : Nat :=
  let u := s.phys pool k
  if pool = poolRows then Config.hbmSpareRows - u.used
  else if pool = poolDataLanes then hbmLaneGroups - u.groups.length
  else if pool = poolPhases then 2 - u.used
  else if pool = poolPlls then 1 - u.used
  else if pool = poolNv then 1048576 - u.used
  else 0

/-- A part of a unit of pools 0x05 to 0x09 is replaced by a spare: it is used up and reported. -/
def State.usePart (s : State) (pool k part kind : Nat) : State :=
  let u := s.phys pool k
  let y := if pool = poolDataLanes then { u with groups := part / 32 :: u.groups } else { u with used := u.used + 1 }
  let s1 := s.setPhys pool k y
  s1.spareReport pool k part (Config.spareIndex pool k part) kind 0 (unitInstance pool k) (s1.sparesLeft pool k = 0)

/-! ### Planned spare-ins at a frame boundary (15 R511, R512) -/

/-- Sconce k leaves the old slice for the spare of a pending plan; the slice's spare-in ends with its last sconce. -/
def State.sconceMovesTo (s : State) (q : SparePlan) (k : Nat) : State :=
  let q1 := { q with moved := k :: q.moved }
  let s1 := (s.modSconce k (fun x => { x with spareIn := true }))
  let plans := s1.plans.map (fun p => if p == q then q1 else p)
  if 8 ≤ q1.moved.length then
    ({ s1 with plans := s1.plans.filter (fun p => !(p == q)) }).spareDone poolSlices q.logical q.old q.new_ q.kind 0
  else { s1 with plans := plans }

/-- A frame of sconce k opens with boundary b: its slice's plan moves it, and a Lantern bound to it whose spare has the local
store takes over (15 R511, R512). -/
def State.plansAtBoundary (s : State) (k b : Nat) : State :=
  let s1 := match s.plans.find? (fun q => q.pool = poolSlices && q.logical = k / 8 && q.commit < b && !q.moved.contains k) with
    | some q => s.sconceMovesTo q k
    | none => s
  let due := s1.plans.filter (fun q => q.pool = poolLanterns && q.copied && q.commit < b &&
    (s1.lantern q.logical).st != .free && (s1.lantern q.logical).sconce = k)
  due.foldl (fun t q =>
    (({ t with plans := t.plans.filter (fun p => !(p == q)) }).spareDone poolLanterns q.logical q.old q.new_ q.kind 0).modSconce k
      (fun x => { x with spareIn := true })) s1

/-- The frame flags that spares give the frame of sconce k that opens now: SPARE_IN, and FAULT_LOST while a bound Lantern has
no physical unit (15 R511, R514). -/
def State.spareFlags (s : State) (k : Nat) : Nat :=
  let dead := s.lanterns.any (fun x => x.2.st != .free && x.2.sconce == k && s.unitLost poolLanterns x.1)
  b2n (s.sconce k).spareIn * 2 ^ 15 + b2n dead * 2 ^ 16

/-! ### Patrol (15 R519 to R522) -/

/-- Physical slices the patrol may use, lowest first: free spares that no spare-in has taken (15 R519, R522). -/
def State.patrolSlices (s : State) : List Nat :=
  (List.range (poolSize poolSlices)).filter (fun k => (s.phys poolSlices k).st = 1 && !s.claimed poolSlices k)

/-- The patrol can run: in Acquire and Record, with a free spare slice (15 R519, R522). -/
def State.patrolRuns (s : State) : Bool := (s.mode == .acquire || s.mode == .record) && !s.patrolSlices.isEmpty

/-- PATROL_SUSPENDED when the patrol has stopped or can go on (15 R522). -/
def State.patrolCheck (s : State) : State :=
  let stop : Bool := !s.patrolRuns
  if stop == s.patrol.suspended then s
  else ({ s with patrol := { s.patrol with suspended := stop } }).spareRecord 2 0x0905 (poolSlices * 2 ^ 16) (b2n stop)

/-- The sconce that the rotation visits next: the next above the last one that feeds a Running stream, else the lowest (15 R521). -/
def State.patrolNext (s : State) : Option Nat :=
  let fed := tabKeys s.sconces (fun _ => true) |>.filter (fun k => s.streams.any (fun x => x.2.st == .running && x.2.sconce == k))
  match s.patrol.last with
  | some l => firstSome [fed.find? (fun k => l < k), fed.head?]
  | none => fed.head?

/-- A patrol frame is still in progress. -/
def State.patrolBusy (s : State) : Bool :=
  match s.patrol.cur with
  | some q => (s.sconce q.1).frames.any (fun f => f.number == q.2 && !f.closed)
  | none => false

/-- Frame m of sconce k, which opens at b, is patrolled: the voting pass of its sconce, or the rotation's next (15 R521). -/
def State.patrolTakes (s : State) (k b : Nat) : Bool :=
  s.health.patrolOn && !s.patrol.suspended && !s.patrolBusy &&
    (match s.patrol.vote with
     | some v => v.1 == k
     | none => s.patrolNext == some k && s.patrol.closed + 1000 * s.health.patrolGap ≤ b)

/-- The frame that opens is the patrol's. -/
def State.patrolOpens (s : State) (k m : Nat) : State := { s with patrol := { s.patrol with last := some k, cur := some (k, m) } }

/-- Frame m of sconce k has closed at an instant: the interval to the next patrol runs from there. -/
def State.patrolCloses (s : State) (k m tEnd : Nat) : State :=
  if s.patrol.cur = some (k, m) then { s with patrol := { s.patrol with closed := tEnd } } else s

end Sys2Proof.Machine
end

