-- ==== Sys2Proof/Machine/StreamOps.lean ====
section
/-!
DEFINITION. Streams: their records, staging and spool, their place on a port or its partner, tags and line tags, the end of a
stop, failover and discard (03 R115 to R127; 14 R473 to R478, R494 to R503; 02 R57, R78 to R82).
-/

namespace Sys2Proof.Machine

/-! ### Rings and records of a stream -/

/-- Code of a stream's state (03 R126). -/
def StreamState.code : StreamState → Nat
  | .free => 0 | .configured => 1 | .running => 2 | .stopping => 3

/-- A record for the EVENT_RING of a completion ring (03 R125, R676). -/
def State.ringEvent (s : State) (cRing cls typ island subject data : Nat) : State :=
  let p := cRing / 1024
  s.record p (s.ring p (cRing % 1024)).eventRing cls typ island subject data

/-- A record about stream n for its completion ring's EVENT_RING; SUBJECT is the stream alone. -/
def State.streamEvent (s : State) (n cls typ data : Nat) : State :=
  s.ringEvent (s.stream n).cRing cls typ islandNoc n data

/-- A record of 14: SUBJECT also names the port (14 R506). -/
def State.moverEvent (s : State) (n cls typ data : Nat) : State :=
  let x := s.stream n
  s.ringEvent x.cRing cls typ islandNoc (n + x.cRing / 1024 * 2 ^ 16) data

/-- A record of 14 that names the instant of its happening. -/
def State.moverEventAt (s : State) (time n cls typ data : Nat) : State :=
  let x := s.stream n
  let p := x.cRing / 1024
  s.recordAt time p (s.ring p (x.cRing % 1024)).eventRing cls typ islandNoc (n + p * 2 ^ 16) data

/-- STREAM_STATE: the new state and a frame number (03 R116). -/
def State.streamState (s : State) (n : Nat) (st : StreamState) (frame : Nat) : State :=
  (s.modStream n (fun x => { x with st := st })).streamEvent n 3 0x000D (st.code + frame % 2 ^ 56 * 256)

/-- Stream counter `code` rises by k (14 R505). -/
def State.streamCount (s : State) (n code k : Nat) : State :=
  s.modStream n (fun x => { x with counters := tabMod 0 x.counters code (fun v => satAdd 32 v k) })

/-- The delivery and completion rings of frame m: until a move's last frame is delivered, frames before it use the old port's,
which are by then the partner's (14 R502). -/
def Stream.ringsFor (x : Stream) (m : Nat) : Nat × Nat :=
  match x.moveAt, x.partner with
  | some q, some p => if m < q then p else (x.dRing, x.cRing)
  | _, _ => (x.dRing, x.cRing)

/-- The port that delivers frame m. -/
def Stream.portFor (x : Stream) (m : Nat) : Nat := (x.ringsFor m).1 / 1024

/-- The stream delivers: it is Running or Stopping. -/
def Stream.active (x : Stream) : Bool := x.st == .running || x.st == .stopping

/-! ### Frame movers (14 R473) -/

/-- Streams but n with a context on a frame mover of a port. -/
def State.contexts (s : State) (n port fm : Nat) : Nat :=
  (s.streams.filter (fun x => x.1 != n && (x.2.active || x.2.startPending.isSome) && x.2.dRing / 1024 == port && x.2.mover == fm)).length

/-- The frame mover of a port that stream n is given: the one with the fewest contexts, the lowest number in a tie. -/
def State.moverPick (s : State) (n port : Nat) : Nat :=
  ((List.range 32).foldl (fun (b : Nat × Nat) k => let c := s.contexts n port k; if c < b.2 then (k, c) else b) (0, 2048)).1

/-! ### Spool (14 R495 to R501) -/

/-- Bytes held in a port's spool. -/
def State.spoolHeld (s : State) (port : Nat) : Nat :=
  sumL (s.streams.map (fun x => x.2.maxBytes * (x.2.frames.filter (fun f => f.spool == some port)).length))

/-- A port's spool share in bytes. -/
def State.spoolShare (s : State) (port : Nat) : Nat := (s.port port).spoolGiB * 2 ^ 30

/-- SPOOL_LEVEL when a spool rises through 75% of its share or falls back below 50% (14 R501). -/
def State.spoolLevel (s : State) (port : Nat) : State :=
  let x := s.port port
  let held := s.spoolHeld port
  let share := s.spoolShare port
  let tell := fun (t : State) (cls rise : Nat) => t.record port 1 cls 0x0803 islandNoc (port * 2 ^ 16) (rise + held % 2 ^ 40 * 256)
  if !x.spoolHigh && share * 3 ≤ held * 4 && held != 0 then tell (s.setPort port { x with spoolHigh := true }) 2 1
  else if x.spoolHigh && held * 2 < share || (x.spoolHigh && held = 0) then tell (s.setPort port { x with spoolHigh := false }) 3 0
  else s

/-- SPOOL_LEVEL of every port. -/
def State.spoolLevels (s : State) : State := portNumbers.foldl (fun t p => t.spoolLevel p) s

/-- A frame is dropped for want of spool room: FRAMES_DROPPED, the gap, and SPOOL_DROP at most once in 100 ms (14 R497). -/
def State.spoolDrop (s : State) (n m : Nat) : State :=
  let s1 := (s.streamCount n 0x03 1).modStream n (fun x => { x with gap := x.gap + 1 })
  let x := s1.stream n
  let first := if x.dropReport.2.1 = 0 then m else x.dropReport.2.2
  let k := x.dropReport.2.1 + 1
  let open_ : Bool := match x.dropReport.1 with | some t => t + 100000000 ≤ s.ns | none => true
  if open_ then
    (s1.setStream n { x with dropReport := (some s.ns, 0, 0) }).moverEvent n 2 0x0802 (first % 2 ^ 32 + k % 2 ^ 32 * 2 ^ 32)
  else s1.setStream n { x with dropReport := (x.dropReport.1, k, first) }

/-! ### The end of a stop (03 R127, 14 R500) -/

/-- SUCCESS for the STREAM_STOPs that have waited. -/
def State.stopsDone (s : State) (cs : List (Nat × Nat)) : State := cs.foldl (fun t c => t.finishWaiting c.1 c.2 .success) s

/-- The stop of stream n completes with frame m: Configured, the record, SUCCESS for the commands that wait. -/
def State.stopDone (s : State) (n m : Nat) : State :=
  let x := s.stream n
  let y := { x with stopAt := none, stopCmds := [], frames := x.frames.filter (fun f => f.number ≤ m), blocked := none
                    drainSpool := false, stopped := false, draining := false, move := none, moveAt := none, startPending := none }
  ((s.setStream n y).streamState n .configured m).stopsDone x.stopCmds

/-- Frame m of stream n has left, by its tag or by its loss: a stop that waits for it ends. -/
def State.frameLeft (s : State) (n m : Nat) : State :=
  let x := s.stream n
  let s1 := match x.moveAt with
    | some q => if x.frames.any (fun f => f.number < q) then s else s.setStream n { x with moveAt := none }
    | none => s
  match (s1.stream n).stopAt with
  | some (some q) => if q ≤ m then s1.stopDone n q else s1
  | _ => s1

/-! ### A frame is staged (14 R474, R497) -/

/-- Frame f of the stream's sconce opens: it takes a staging slot, or room in the spool, or is dropped whole. -/
def State.stage (s : State) (n m : Nat) : State :=
  let x := s.stream n
  let port := x.portFor m
  let slots := (x.frames.filter (fun f => f.spool.isNone)).length
  let fresh : StreamFrame := { number := m, spool := none, delay := x.redeliver, desc := none, written := 0, stats := 0, ready := none, fault := false }
  let last := if x.frames.isEmpty then s.ns else x.lastWrite
  if slots < 2 then s.setStream n { x with frames := x.frames ++ [fresh], redeliver := false, lastWrite := last }
  else if s.spoolHeld port + x.maxBytes ≤ s.spoolShare port then
    let blocked := x.blocked.isSome
    let y := { x with frames := x.frames ++ [{ fresh with spool := some port, delay := true }], redeliver := false
                      spooledInBlock := if blocked then x.spooledInBlock + 1 else x.spooledInBlock }
    ((s.setStream n y).streamCount n 0x02 1).spoolLevel port
  else (s.spoolDrop n m).frameLeft n m

/-- The step of a pace that a frame used has ended with it (14 R483): one frame under mode 1; under mode 2 a frame that was being
written when the pace was set has run free of it. -/
def Stream.paceEnd (x : Stream) : Nat :=
  if x.pace = 1 then x.paceLeft - 1 else if 2 ^ 62 ≤ x.paceLeft then x.paceLeft % 2 ^ 32 else x.paceLeft

/-- Frame m leaves a stream, delivered or discarded: its descriptor is consumed. -/
def State.dropFrame (s : State) (n m : Nat) : State :=
  (s.modStream n (fun x =>
    let head : Bool := match x.frames with | f :: _ => f.number == m | [] => false
    { x with frames := x.frames.filter (fun f => f.number != m), paceLeft := if head then x.paceEnd else x.paceLeft })).spoolLevels

/-! ### Boundaries of a stream (03 R126, R127; 14 R502) -/

/-- Swap a stream to its partner's rings; it belongs to the partner's port from now on (02 R82, 14 R502). -/
def Stream.swapPorts (x : Stream) : Stream :=
  match x.partner with
  | none => x
  | some p => { x with owner := some (p.1 / 1024), dRing := p.1, cRing := p.2, partner := some (x.dRing, x.cRing) }

/-- STREAM_MOVED and FAILOVER data: from port, to port, first frame on the new port (03 R116). -/
def moveData (a b m : Nat) : Nat := a + 4 * b + m % 2 ^ 56 * 256

/-- APPLY: what takes effect at the boundary b of frame m of sconce k (16 R546): 0 parameter set, 1 kernel swap, 2 stream start,
3 stream stop, with its group or Lantern and the COMMIT_SEQ of its command. -/
def State.journalApply (s : State) (qual k who commit m b : Nat) : State :=
  s.journal qual 0x05 (islandSlice k) b (leBytes 2 k ++ leBytes 1 who ++ [0] ++ leBytes 4 commit ++ leBytes 8 m)

/-- A boundary with stamp b is one that a change committed at c awaits. The boundaries of a replay bear recorded stamps, so there
every boundary that is presented comes after the commit (16 R566). -/
def State.awaited (s : State) (c b : Nat) : Bool := s.mode == .replay || c < b

/-- A frame boundary of sconce k with stamp b and frame number m, at one of its streams. -/
def State.streamOpens (s : State) (n b m : Nat) : State :=
  let x0 := s.stream n
  -- A pending start takes effect.
  let s1 := match x0.startPending with
    | some c =>
      if s.awaited c b then
        let y := { x0 with startPending := none, first := m, gap := 0, stopAt := if x0.stopAt.isSome then some none else none }
        let s2 := ((s.setStream n y).journalApply 2 x0.sconce 0 x0.startSeq m b).streamState n .running m
        if x0.stopAt.isSome then s2.streamState n .stopping 0 else s2
      else s
    | none => s
  let x1 := s1.stream n
  if !x1.active then s1
  else
    -- An armed move takes effect.
    let s2 := match x1.move with
      | some (c, at_) =>
        if s.awaited c b && (match at_ with | some q => q ≤ m | none => true) then
          let from_ := x1.dRing / 1024
          let y := { x1.swapPorts with move := none, moveAt := if x1.frames.isEmpty then none else some m }
          let t := s1.setStream n y
          let d := moveData from_ (y.dRing / 1024) m
          let u := t.ringEvent y.cRing 2 0x0007 islandNoc n d
          let v := u.ringEvent x1.cRing 2 0x0007 islandNoc n d
          v.setStream n { v.stream n with mover := v.moverPick n (y.dRing / 1024) }
        else s1
      | none => s1
    let x2 := s2.stream n
    match x2.stopAt with
    | some none =>
      ((s2.setStream n { x2 with stopAt := some (some m) }).journalApply 3 x2.sconce 0 x2.stopSeq m b).stage n m
    | some (some q) => if q < m then s2 else s2.stage n m
    | none => s2.stage n m

/-- The streams that take frames of sconce k, ascending. -/
def State.streamsOf (s : State) (k : Nat) : List Nat :=
  tabKeys s.streams (fun x => x.st != .free && x.sconce == k)

/-- A frame boundary at every stream of sconce k, in ascending order (14 R497). -/
def State.streamsOpen (s : State) (k b m : Nat) : State := (s.streamsOf k).foldl (fun t n => t.streamOpens n b m) s

/-- A Running stream takes frame m. -/
def Stream.takes (x : Stream) (m : Nat) : Bool :=
  x.active && x.first ≤ m && (match x.stopAt with | some (some q) => m ≤ q | _ => true)

/-! ### Frames are let go -/

/-- Stream frames of a sconce's frame m. -/
def State.wanted (s : State) (k m : Nat) : Bool :=
  (s.streamsOf k).any (fun n => (s.stream n).frames.any (fun f => f.number == m))

/-- Frames of a sconce that have left every tap, been corrected, and that no stream needs, are forgotten. -/
def State.letGo (s : State) (k : Nat) : State :=
  s.modSconce k (fun x => { x with frames := x.frames.filter (fun f => !(f.tapsDone && f.corrected && !s.wanted k f.number)) })

/-! ### Tags (03 R120 to R124) -/

/-- A position in a tag: count and fraction, 0 when the channel has none at the stamp (11 R404). -/
def posOf (ps : List Pos) (ch : Option Nat) : Option Pos :=
  match ch with
  | none => none
  | some c => ps.find? (fun p => p.ch == c)

/-- A line was taken while a channel was out of lock (03 R121, R124). -/
def Line.outOfLock (l : Line) (ch : Option Nat) : Bool :=
  (match posOf l.pos ch with | some q => q.unpredicted | none => false) || (match ch with | some c => l.unpredicted.contains c | none => false)

/-- One line tag (03 R124). -/
def lineTag (encA : Option Nat) (encField : Nat) (l : Line) : List Byte :=
  let p := posOf l.pos encA
  let v := match p with | some q => (q.count, q.frac) | none => (0, 0)
  leBytes 8 l.stamp ++ leBytes 4 v.1 ++ leBytes 1 v.2 ++ leBytes 1 (encField % 16 + 128 * b2n p.isSome) ++
    leBytes 2 (l.flags ||| 64 * b2n (l.outOfLock encA))

/-- The line-tag table of a frame for a stream. -/
def Stream.lineTagTable (x : Stream) (f : Frame) : List Byte :=
  if x.lineTags then ((f.outputLines x.table).map (lineTag x.encA x.encFields.1)).flatten else []

/-- The frame writes a statistics record for this stream (06 R243). -/
def Stream.wantsStats (x : Stream) (f : Frame) : Bool := x.stats && f.hasStats

/-- Places of a frame in its buffer: payload bytes, line tags and statistics as (offset, bytes). -/
def Stream.places (x : Stream) (f : Frame) (sconce : Nat) : Nat × (Nat × Nat) × (Nat × Nat) :=
  let pay := (f.payload x.table).length
  let tags := (x.lineTagTable f).length
  let st := if x.wantsStats f then (statsRecord f sconce f.past0.1).length else 0
  let p := bufferPlaces pay tags st
  (pay, (p.1, tags), (p.2.1, st))

/-- FAULT_LOST of a frame for a stream (03 R121): a hard fault struck it in its sconce, its kernel or its coding. -/
def StreamFrame.lost (sf : StreamFrame) (f : Frame) : Bool := sf.fault || nbit f.flags 16

/-- The payload that a frame's tag covers: with FAULT_LOST its bytes are not valid, and the manual gives none (03 R121). -/
def Stream.payloadOf (x : Stream) (f : Frame) (sf : StreamFrame) : List Byte :=
  let p := f.payload x.table
  if sf.lost f then (List.range p.length).map (Config.lostByte f.b f.number) else p

/-- Flags of a frame tag (03 R121). -/
def Stream.tagFlags (x : Stream) (f : Frame) (sf : StreamFrame) (overruns : Nat) : Nat :=
  let lines := f.outputLines x.table
  let coded16 : Bool := tCoding x.table && (f.codedLines x.table).length = 16 &&
    (regionClip x.table f.width (f.past2.1.getD 0 []).length ((tRegions x.table).headD (0, 0, 0, 0))).2 < 16
  let trigPos := match f.trig with | some g => g.pos | none => f.pos
  let unp := fun (p : Option Pos) => match p with | some q => q.unpredicted | none => false
  let posU : Bool := unp (posOf trigPos x.encA) || unp (posOf trigPos x.encB) ||
    lines.any (fun l => l.outOfLock x.encA) || f.unpredicted
  let g := match f.trig with | some g => g.flags | none => 0
  (f.flags ||| g) ||| (b2n coded16 * 1) ||| (b2n (0 < overruns) * 2 ^ 9) ||| (b2n (sf.delay) * 2 ^ 18) |||
    (b2n f.trig.isNone * 2 ^ 19) ||| (b2n f.holdover * 2 ^ 22) ||| (b2n f.recorded * 2 ^ 23) ||| (b2n posU * 2 ^ 24) |||
    (b2n f.patrol * 2 ^ 20) ||| (b2n (sf.lost f) * 2 ^ 16)

/-- The 128 bytes of a frame tag with OWN 0 (03 R120). -/
def State.tagBytes (s : State) (n : Nat) (f : Frame) (sf : StreamFrame) : List Byte :=
  let x := s.stream n
  let t := x.table
  let rings := x.ringsFor f.number
  let pl := x.places f x.sconce
  let lines := f.outputLines t
  let struck := (lines.filter (fun l => nbit l.flags 5)).length
  let pos := match f.trig with | some g => g.pos | none => f.pos
  let a := posOf pos x.encA
  let b := posOf pos x.encB
  let cnt := fun (p : Option Pos) => match p with | some q => q.count | none => 0
  let frc := fun (p : Option Pos) => match p with | some q => q.frac | none => 0
  let nl := if tCoding t then (f.past2.1.getD 0 []).length else (f.branchOut t).rows
  let body : List Byte :=
    ([0, 1] : List Byte) ++ leBytes 2 n ++ leBytes 2 x.sconce ++ leBytes 1 (f.vc + 16 * x.branch) ++ leBytes 1 (f.dt.getD 0 % 64) ++
    leBytes 1 f.sensor ++ leBytes 1 (tFormat t) ++ leBytes 2 rings.1 ++
    leBytes 4 (match sf.desc with | some d => d.1.id | none => 0) ++ leBytes 8 f.number ++
    leBytes 8 (match f.trig with | some g => g.fire / 256 | none => 0) ++ leBytes 8 (f.tExp.getD 0) ++ leBytes 8 f.b ++ leBytes 8 f.tEnd ++
    leBytes 4 (cnt a) ++ leBytes 1 (frc a) ++ leBytes 1 (x.encFields.1 % 16 + 128 * b2n a.isSome) ++
    leBytes 1 (x.encFields.2 % 16 + 128 * b2n b.isSome) ++ leBytes 1 (frc b) ++ leBytes 4 (cnt b) ++
    leBytes 2 (outWidth t f.width nl) ++ zeros 2 ++ leBytes 4 (outHeight t f.width nl) ++ leBytes 4 struck ++
    leBytes 8 pl.1 ++ leBytes 4 (if x.lineTags then pl.2.1.1 / 256 else 0) ++
    leBytes 4 (if x.wantsStats f then pl.2.2.1 / 256 else 0) ++ leBytes 4 (crc32c (x.payloadOf f sf)) ++
    leBytes 4 (x.tagFlags f sf struck) ++ leBytes 4 x.gap ++ leBytes 4 f.malformed ++ leBytes 8 s.dt ++ zeros 4
  body ++ leBytes 4 (crc32c body)

/-! ### Loss of a port (02 R57, R79, R80; 14 R499) -/

/-- The port can take a stream over: its rings are in service. -/
def State.ringsLive (s : State) (d c : Nat) : Bool :=
  (s.ring (d / 1024) (d % 1024)).live && (s.ring (c / 1024) (c % 1024)).live

/-- The frames of a stream start afresh through another port; the first, when it was in flight, is delivered again in full and carries
SPOOL_DELAY (02 R80, 14 R499). A frame is in flight once it has its descriptor, or while the block of its stream keeps it from one. -/
def Stream.restart (x : Stream) : List StreamFrame :=
  let again (f : StreamFrame) : StreamFrame := { f with desc := none, written := 0, stats := 0, ready := none }
  match x.frames with
  | [] => []
  | f :: t => { again f with delay := f.delay || f.desc.isSome || x.blocked.isSome } :: t.map again

/-- Stream n fails over to its partner: the frame in flight is delivered again in full (02 R79, R80; 14 R499). A later cause of 02 R79
finds the pair the other way round and fails the stream over again (DESIGN CHOICE, entry 90: 02 R82 lets only a command return it,
02 R79 makes no exception). -/
def State.failOver (s : State) (n : Nat) : State :=
  let x := s.stream n
  match x.partner with
  | none => s
  | some p =>
    let from_ := x.dRing / 1024
    let first := match x.frames with | f :: _ => f.number | [] => (s.sconce x.sconce).next
    let y := { x.swapPorts with frames := x.restart, move := none, moveAt := none, blocked := none, drainSpool := false
                                spooledInBlock := 0, redeliver := false, lastWrite := s.ns, stopped := false, draining := false
                                paceLeft := if 2 ^ 62 ≤ x.paceLeft then 0 else x.paceLeft }
    let s1 := s.setStream n y
    let s2 := s1.setStream n { y with mover := s1.moverPick n (p.1 / 1024) }
    s2.ringEvent p.2 2 0x0006 islandNoc n (moveData from_ (p.1 / 1024) first)

/-- Stream n loses its port without a partner: its frames are discarded and it becomes Free; its counters stay (02 R57, R538). -/
def State.streamFreed (s : State) (n : Nat) : State :=
  let x := s.stream n
  let s1 := s.streamCount n 0x04 x.frames.length
  let s2 := s1.stopsDone x.stopCmds
  ((s2.setStream n { Stream.reset with counters := (s1.stream n).counters }).letGo x.sconce).spoolLevels

/-- The port can carry on for a stream: its rings are in service and it may write (02 R79). -/
def State.partnerReady (s : State) (x : Stream) : Bool :=
  match x.partner with
  | some p => s.ringsLive p.1 p.2 && (s.port (p.1 / 1024)).canWrite
  | none => false

/-- A move of stream n whose earlier frames still left through port p: they go through the new port from now on, the one in flight again
in full, as after a failover (02 R79, R80; 14 R502). -/
def State.moveCut (s : State) (n p : Nat) : State :=
  let x := s.stream n
  match x.moveAt, x.partner, x.frames with
  | some _, some q, f :: _ =>
    if q.1 / 1024 = p then
      let s1 := s.setStream n { x with moveAt := none, frames := x.restart, blocked := none, drainSpool := false, spooledInBlock := 0, lastWrite := s.ns }
      s1.ringEvent x.cRing 2 0x0006 islandNoc n (moveData p (x.dRing / 1024) f.number)
    else s
  | _, _, _ => s

/-- What R57 does to stream n, which port p owns or delivers. A partner whose rings are out of service cannot take over, and a port
that has reset can spool nothing, so a delivering stream then goes as one without a partner (02 R79). -/
def State.streamPortLost (s : State) (n p : Nat) : State :=
  let x := s.stream n
  if x.owner != some p && x.dRing / 1024 != p then s.moveCut n p
  else if x.partner.isNone || (x.active && !s.partnerReady x) then s.streamFreed n
  else if x.active then s.failOver n
  else s.setStream n { x.swapPorts with partner := none }

end Sys2Proof.Machine
end

