-- ==== Sys2Proof/Machine/Boundary.lean ====
section
/-!
DEFINITION. What happens at a frame boundary and at a frame's close beside the assembly itself: kernels change, streams start,
stop and move, frames are staged, fires are matched, events are produced, and the corrections' records are made
(05 R187, R211; 06 R246; 08 R297, R301; 12 R436; 13 R451; 14 R497, R502).
-/

namespace Sys2Proof.Machine

/-! ### Fires and frames (12 R436) -/

/-- Fires too old for a boundary at b (in 1/256 ns) are removed and reported. -/
def State.expireFires (s : State) (k b : Nat) : State :=
  let old := (s.sconce k).fires.filter (fun q => !q.line && q.fire + q.window < b)
  old.foldl (fun t q => (t.tgCount q.target 9).tgLimited q.target q.seq 2 0x0608 0)
    (s.modSconce k (fun x => { x with fires := x.fires.filter (fun q => q.line || b ≤ q.fire + q.window) }))

/-- The fire a frame takes under MATCH 0: the oldest of the lowest-numbered target that has one. -/
def frameMatch (fires : List QueuedFire) (b : Nat) : Option QueuedFire :=
  let ok := fires.filter (fun q => !q.line && q.fire ≤ b && b ≤ q.fire + q.window)
  ok.foldl (fun best q => match best with
    | none => some q
    | some p => if q.target < p.target || (q.target = p.target && q.fire < p.fire) then some q else some p) none

/-- The fire a frame takes under MATCH 1: the latest at or before b of the lowest-numbered target. -/
def lineMatch (fires : List QueuedFire) (b : Nat) : Option QueuedFire :=
  let ok := fires.filter (fun q => q.line && q.fire ≤ b)
  ok.foldl (fun best q => match best with
    | none => some q
    | some p => if q.target < p.target || (q.target = p.target && p.fire ≤ q.fire) then some q else some p) none

/-- Of the fires that targets of the two kinds offer, that of the target with the lowest number (12 R436). -/
def firstFireOf (a b : Option QueuedFire) : Option QueuedFire :=
  match a, b with
  | some x, some y => if y.target < x.target then some y else some x
  | some x, none => some x
  | none, y => y

/-- OR of the tag flags of fires. -/
def fireFlags (l : List QueuedFire) : Nat := l.foldl (fun a q => a ||| q.flags) 0

/-- The last two of a sconce's frames: change the last but one. -/
def modPrevious (g : Frame → Frame) : List Frame → List Frame
  | [] => []
  | [f] => [f]
  | [a, b] => [g a, b]
  | a :: t => a :: modPrevious g t

/-- Match the frame that has just opened in sconce k with boundary b. -/
def State.matchFire (s : State) (k m b : Nat) : State :=
  let s1 := s.expireFires k (256 * b)
  let x := s1.sconce k
  let take (q : QueuedFire) : FrameTrigger :=
    { fire := q.fire, pos := q.pos.getD (s1.allPos q.fire), flags := q.flags, fireId := q.fireId }
  match firstFireOf (frameMatch x.fires (256 * b)) (lineMatch x.fires (256 * b)) with
  | none => s1
  | some q =>
    if !q.line then
      let y : Sconce := { x with fires := x.fires.filter (fun p => p.fireId != q.fireId) }
      s1.setSconce k (y.modFrame m (fun f => { f with trig := some (take q) }))
    else
      let older := x.fires.filter (fun p => p.line && p.target == q.target && p.fire < q.fire)
      let keep := x.fires.filter (fun p => !(p.line && p.target == q.target && p.fire ≤ q.fire))
      let prev := modPrevious (fun f => match f.trig with
        | some g => { f with trig := some { g with flags := g.flags ||| fireFlags older } }
        | none => f) x.frames
      let y : Sconce := { x with fires := keep, frames := prev }
      s1.setSconce k (y.modFrame m (fun f => { f with trig := some (take q) }))

/-! ### Kernels at a boundary (08 R297, R301) -/

/-- The pending swap of Lantern n meets the boundary b of frame m. -/
def State.swapAtBoundary (s : State) (n b m : Nat) : State :=
  let x := s.lantern n
  match x.swap with
  | none => s
  | some (c, at_, off) =>
    if c < b && (match at_ with | some q => q ≤ m | none => true) then
      let y := { x with swap := none, swapAt := x.swapAt ++ [{ first := m, off := off, load := none }], st := if off then .bound else .active }
      let s0 := (s.setLantern n y).journalApply 1 x.sconce n x.swapSeq m b
      let s1 := s0.lanternRecord n 3 0x0302 (b2n off + m % 2 ^ 56 * 256)
      s1.modLantern n (fun z => z.setSpr 3 (s1.lanternBudget n))
    else s

/-- The taps of a frame that opens now: each Active Lantern with its CH_MASK. One without a physical unit passes lines
unchanged (15 R514). -/
def State.activeTaps (s : State) (k : Nat) : Tab Nat :=
  (s.boundTo k).foldl (fun t n =>
    let x := s.lantern n
    if x.st == .active && !s.unitLost poolLanterns n then tabPut t x.tap (n + 64 * x.chMask) else t) []

/-- Frame m of sconce k has opened with boundary b; `assembly` says that a group 0x01 change took effect with it. -/
def State.openHook (s : State) (k m b : Nat) (assembly : Bool) : State :=
  let ns := s.boundTo k
  let s1 := ns.foldl (fun t n => t.swapAtBoundary n b m) s
  let s2 := if assembly then ns.foldl (fun t n => t.modLantern n (fun z => z.setSpr 3 (t.lanternBudget n))) s1 else s1
  let sp := s2.plansAtBoundary k b
  let taps := sp.activeTaps k
  let bits := b2n (sp.mode == .replay) * 2 ^ 17 ||| sp.spareFlags k
  let mv := sp.visionTable k
  let patrolled := sp.patrolTakes k b
  let s3 := (if patrolled then sp.patrolOpens k m else sp).modSconce k (fun x =>
    { x.modFrame m (fun f => { f with taps := taps, mv := mv, flags := f.flags ||| bits, patrol := patrolled }) with spareIn := false })
  let s4 := ns.foldl (fun t n => t.takeOver n) s3
  ((((s4.matchFire k m b).captureOpens k m b).streamsOpen k b m).emit0 9 k (256 * b) 1024000).tapsMoved k

/-! ### The corrections finish a frame (06 R246) -/

/-- DEFECT_UNCORRECTED for k pixels, at most one in 100 ms with the count since the record before it. -/
def State.uncorrected (s : State) (k n : Nat) : State :=
  if n = 0 then s
  else
    let x := s.sconce k
    let last := tabFind x.limits 0x0210
    let sum := (match last with | some r => r.2 | none => 0) + n
    let open_ : Bool := match last with | some r => r.1 + 100000000 ≤ s.ns | none => true
    if open_ then
      (s.setSconce k { x with limits := tabPut x.limits 0x0210 (s.ns, 0) }).report x.owner 2 0x0210 (islandSlice k) k sum
    else s.setSconce k { x with limits := tabPut x.limits 0x0210 ((match last with | some r => r.1 | none => 0), sum) }

/-- Frame f's corrections are finished: its records. -/
def State.finishCorrections (s : State) (k : Nat) (f : Frame) : State :=
  let tap0 := f.past0.1
  let cor := corrections f tap0
  let s1 := s.modSconce k (fun x => x.modFrame f.number (fun g => { g with corrected := true }))
  let s2 := s1.uncorrected k (codeCount cor.2 5)
  if (histograms f (toWorking f.depth f.lines) cor.1).any (fun h => h.any (fun b => 2 ^ 32 ≤ b)) then
    s2.report (s2.sconce k).owner 3 0x0211 (islandSlice k) k f.number
  else s2

/-- Every closed frame of sconce k that has left tap 0 and is not yet corrected. -/
def State.correctFrames (s : State) (k : Nat) : State :=
  ((s.sconce k).frames.filter (fun f => !f.corrected && f.past0.2)).foldl (fun t f => t.finishCorrections k f) s

/-- The pipeline of sconce k moves on: kernels look at their taps, corrections finish, frames nobody needs are forgotten. -/
def State.sconceMoves (s : State) (k : Nat) : State := ((s.tapsMoved k).correctFrames k).letGo k

/-- Frame m of sconce k has closed. -/
def State.closeHook (s : State) (k m : Nat) : State :=
  let x := s.sconce k
  let tEnd := match x.frames.find? (fun f => f.number == m) with | some f => f.tEnd | none => s.dt
  let taken := (s.streamsOf k).any (fun n => (s.stream n).takes m)
  let s1 := if taken then s
    else s.modSconce k (fun y => { y with counters := tabMod 0 y.counters 0x0C (fun v => satAdd 32 v 1) })
  (((s1.patrolCloses k m tEnd).captureCloses k m).emit0 0xA k (256 * tEnd) 1024000).sconceMoves k

end Sys2Proof.Machine
end

