-- ==== Sys2Proof/Machine/Encoder.lean ====
section
/-!
DEFINITION. ENCODER_CONFIG and what happens at the encoder pins (11_position_feedback).
-/

namespace Sys2Proof.Machine

/-! ### Claims of GIO lines (12 R443) -/

/-- A pulse target or a divider drives the line. -/
def State.lineDriven (s : State) (g : Nat) : Bool :=
  s.targets.any (fun x => x.2.cfg.kind = 2 && x.2.cfg.lane = g) ||
  s.encoders.any (fun x => match x.2.div with | some d => d.gioA = g || d.gioB = g | none => false)

/-- Hall decoding of a channel other than e claims the line as an input. -/
def State.hallClaims (s : State) (e : Option Nat) (g : Nat) : Bool :=
  s.encoders.any (fun x => some x.1 != e && x.2.cfg.mode = 6 && (x.2.cfg.hallU = g || x.2.cfg.hallV = g || x.2.cfg.hallW = g))

/-- A target or divider of port p may claim the line: an output of GIO_CONFIG that no feature drives. -/
def State.lineStatus (s : State) (p g : Nat) : Option Status :=
  firstSome [ownerStatus (s.gioLine g).owner p,
    if (s.gioLine g).dir != 1 || s.lineDriven g then some (s.badState 0x21) else none]

/-! ### Operands (11 R412 to R414) -/

/-- CONFIGURE's fields (11 R413). -/
def encCfgOf (e : Entry) : EncCfg :=
  { mode := bitsAt e 0xA 1 0 4, reverse := bitAt e 0xA 4, term := bitAt e 0xA 5, obsEn := bitAt e 0xA 6
    filter := fld e 0xB 1, zMode := bitsAt e 0xC 1 0 2, zGate := bitAt e 0xC 2, stepEdge := bitAt e 0xC 3
    obsBw := fld e 0xE 2, trackLimit := fld e 0x10 2, lossCount := fld e 0x12 1, zPreset := fld e 0x14 4
    hallU := bitsAt e 0x18 1 0 6, hallV := bitsAt e 0x19 1 0 6, hallW := bitsAt e 0x1A 1 0 6
    posBits := bitsAt e 0x1C 1 0 6, frameBits := bitsAt e 0x1D 1 0 6, posShift := bitsAt e 0x1E 1 0 6
    gray := bitAt e 0x1F 0, parityEn := bitAt e 0x1F 1, parityOdd := bitAt e 0x1F 2, serClk := fld e 0x20 1
    serPeriod := fld e 0x22 2, serTimeout := fld e 0x24 2 }

/-- Channel of an ENCODER_CONFIG. -/
def encCh (e : Entry) : Nat := bitsAt e 9 1 0 4

/-- The reserved bits of bytes 8 and 9, and every byte past them that the OP does not use (11 R412). -/
def encHead (e : Entry) (fields : List (Nat × Nat)) : List Chk :=
  [rsv e 8 1 3 5, rsv e 9 1 4 4] ++ restRsv e ((8, 2) :: fields)

/-- Clock cycles of a serial frame that carry bits: data with parity, or CDS, data, nE, nW and CRC (11 R392, R393). -/
def EncCfg.frameClocks (c : EncCfg) : Nat := if c.mode = 8 then c.frameBits + 9 else c.frameBits + b2n c.parityEn

/-- The layout of CONFIGURE (11 R413). The serial fields in mode 0, and GRAY, PARITY_EN and PARITY_ODD in mode 8, are treated as reserved too
(DESIGN CHOICE, entry 101). -/
def encCfgLayout (e : Entry) : List Chk :=
  let c := encCfgOf e
  let ser := c.serial
  encHead e [(0xA, 0x1C)] ++
  [enc 0xA (9 ≤ c.mode), rsv e 0xA 1 7 1, (0xC, 0, 6 ≤ c.mode && c.zMode != 0), (0xC, 0, c.mode != 4 && c.stepEdge),
    rsv e 0xC 1 4 4, rsv e 0xD 1 0 8, rsvIf (!c.obsEn) e 0xE 2, rsvIf (!c.obsEn) e 0x10 2, rsv e 0x13 1 0 8,
    rsvIf (c.mode != 6) e 0x18 1, rsvIf (c.mode != 6) e 0x19 1, rsvIf (c.mode != 6) e 0x1A 1, rsv e 0x18 1 6 2,
    rsv e 0x19 1 6 2, rsv e 0x1A 1 6 2, rsv e 0x1B 1 0 8, rsvIf (!ser) e 0x1C 1, rsvIf (!ser) e 0x1D 1,
    rsvIf (!ser) e 0x1E 1, rsvIf (c.mode != 7) e 0x1F 1, rsv e 0x1C 1 6 2, rsv e 0x1D 1 6 2, rsv e 0x1E 1 6 2,
    rsv e 0x1F 1 3 5, rsvIf (!ser) e 0x20 1, rsv e 0x21 1 0 8, rsvIf (!ser) e 0x22 2, rsvIf (!ser) e 0x24 2]

/-- The ranges of CONFIGURE (11 R413). -/
def encCfgRanges (e : Entry) : List (Nat × Bool) :=
  let c := encCfgOf e
  let ser := c.serial
  [(0xB, c.filter = 0), (0xE, c.obsEn && (c.obsBw < 10 || 20000 < c.obsBw)), (0x10, c.obsEn && c.trackLimit = 0),
    (0x12, c.lossCount = 0), (0x18, 48 ≤ c.hallU), (0x19, 48 ≤ c.hallV), (0x1A, 48 ≤ c.hallW),
    (0x1C, ser && (c.posBits < 8 || 32 < c.posBits)), (0x1C, ser && c.frameBits < c.posShift + c.posBits),
    (0x1D, ser && 40 < c.frameBits), (0x1E, ser && 32 < c.posShift), (0x20, ser && (c.serClk = 0 || 100 < c.serClk)),
    (0x22, ser && c.serPeriod = 0), (0x24, ser && c.serTimeout = 0),
    (0x1D, ser && c.serPeriod * 1000 * c.serClk < c.frameClocks * 10000 + c.serTimeout * 100 * c.serClk)]

/-- The two configurations differ in a counting field (11 R415). -/
def EncCfg.countingDiffers (a b : EncCfg) : Bool :=
  !(a.mode == b.mode && a.reverse == b.reverse && a.filter == b.filter && a.stepEdge == b.stepEdge &&
    a.hallU == b.hallU && a.hallV == b.hallV && a.hallW == b.hallW && a.posBits == b.posBits &&
    a.frameBits == b.frameBits && a.posShift == b.posShift && a.gray == b.gray && a.parityEn == b.parityEn &&
    a.parityOdd == b.parityOdd && a.serClk == b.serClk && a.serPeriod == b.serPeriod && a.serTimeout == b.serTimeout)

/-- A Running stream names the channel. -/
def State.encStream (s : State) (e : Nat) : Option Nat :=
  (tabKeys s.streams (fun x => x.st == .running && (x.encA = some e || x.encB = some e))).head?

/-- An armed compare names the channel. -/
def State.encArmed (s : State) (e : Nat) : Bool :=
  s.seqs.any (fun q => q.2.slots.any (fun k => k.2.armed.isSome && q.2.slotPos k.1 && q.2.slotEnc k.1 = e))

/-- CHUNK_ENC of an assembly block (05 R210) names the channel: under POSITION frames. -/
def chunkNames (block : List Byte) (e : Nat) : Bool := lbits block 6 1 2 2 = 2 && lbits block 0xE 1 0 4 = e

/-- A sconce's assembly parameters, in force or pending, name the channel. -/
def State.encChunked (s : State) (e : Nat) : Bool :=
  s.sconces.any (fun x => x.2.configured && (chunkNames (tabGet [] x.2.par 1) e ||
    x.2.sets.any (fun g => g.group = 1 && chunkNames g.data e)))

/-- What keeps a channel's counting fields as they are (11 R415). -/
def State.encHeld (s : State) (e : Nat) : Option Status :=
  firstSome [(s.encStream e).map Status.busy,
    if s.encArmed e || (s.enc e).div.isSome || s.encChunked e then some (s.badState 0x22) else none]

/-! ### Effects (11 R401, R415) -/

/-- The last update instant at or before now, in ns. -/
def State.lastUpdateNs (s : State) : Nat := s.dt256 / 256 / 1000 * 1000

/-- The gains of a configuration (11 R399). -/
def EncCfg.gains (c : EncCfg) : Nat × Nat := if c.obsEn then (gain1 c.obsBw, gain2 c.obsBw) else (0, 0)

/-- Hall state of the configured lines (11 R390). -/
def State.hallNow (s : State) (c : EncCfg) : Option Nat :=
  if c.mode = 6 then
    some (b2n (s.gioLine c.hallU).seen + 2 * b2n (s.gioLine c.hallV).seen + 4 * b2n (s.gioLine c.hallW).seen)
  else none

/-- A channel without count, counters and history from a stamp on; its inputs stand, and so do the times of its last records. -/
def Encoder.cleared (x : Encoder) (i : Nat) : Encoder :=
  { Encoder.reset with since := i, a := x.a, b := x.b, z := x.z, moved := x.moved, reports := tabMap x.reports (fun _ r => (0, r.2)) }

/-- CONFIGURE accepted (11 R415). -/
def State.encConfigure (s : State) (p e : Nat) (c : EncCfg) : State :=
  let x := s.enc e
  let g := c.gains
  let on := c.obsEn && c.mode != 0
  let armed := c.zMode = 2
  if c.countingDiffers x.cfg then
    let y := { x.cleared s.dt256 with
      owner := some p, cfg := c, hall := s.hallNow c
      faults := if c.mode = 0 then [] else x.faults, st := if on then .acquiring else .off, tk := s.lastUpdateNs
      k1 := g.1, k2 := g.2, zArmed := armed, serDue := s.ns }
    (s.setEnc e (y.note s.dt256)).obsChange e s.dt256 0 x.st 0
  else
    let y := { x with owner := some p, cfg := c, k1 := g.1, k2 := g.2, zArmed := armed }
    if on && x.st == .off then
      let z := { y with st := .acquiring, p := x.count * 2 ^ 24, v := clampV (x.reseedV s.dt256), tk := s.lastUpdateNs
                        clean := 0, bad := 0 }
      (s.setEnc e (z.note s.dt256)).obsChange e s.dt256 0 x.st 0
    else if !on && x.st != .off then
      let z := { y with st := .off, clean := 0, bad := 0 }
      (s.setEnc e (z.note s.dt256)).obsChange e s.dt256 0 x.st 0
    else s.setEnc e y

/-- The divider of a channel stops: its lines hold their levels and are released (11 R411). -/
def State.stopDivider (s : State) (e : Nat) : State := s.setEnc e { s.enc e with div := none }

/-- The checks of ENCODER_CONFIGURE (11 R413, R415). -/
def encoderConfigureChecks (c : RingCmd) (s : State) : Checks :=
  let ch := encCh c.e
  let cfg := encCfgOf c.e
  { layout := encCfgLayout c.e, ranges := encCfgRanges c.e, owner := ownerStatus (s.enc ch).owner c.p
    state := firstSome [if cfg.countingDiffers (s.enc ch).cfg then s.encHeld ch else none,
      if cfg.mode = 6 && [cfg.hallU, cfg.hallV, cfg.hallW].any (s.hallClaims (some ch)) then some (s.badState 0x21)
      else none] }

/-- What an accepted ENCODER_CONFIGURE (11 R413, R415) does. -/
def encoderConfigureEffect (c : RingCmd) (s : State) : State × Done :=
  let ch := encCh c.e
  let cfg := encCfgOf c.e
  (s.encConfigure c.p ch cfg, .ok)

/-- ENCODER_CONFIGURE (11 R413, R415). -/
def execEncoderConfigure (t : Nat) (c : RingCmd) (s : State) : Host.Outcome State Fault Refusal :=
  (s.elapse t).command c 0x39 (encoderConfigureChecks c) (encoderConfigureEffect c)

/-- The checks of SET_COUNT (11 R398, R415). -/
def setCountChecks (c : RingCmd) (s : State) : Checks :=
  let ch := encCh c.e
  let x := s.enc ch
  { layout := encHead c.e [(0xC, 4)], owner := ownerStatus x.owner c.p
    state := firstSome [if s.encArmed ch then some (s.badState 0x22) else none,
      if x.cfg.mode = 0 || x.cfg.serial then some (s.badState 0x20) else none] }

/-- What an accepted SET_COUNT (11 R398, R415) does. -/
def setCountEffect (c : RingCmd) (s : State) : State × Done :=
  let ch := encCh c.e
  ((s.setEnc ch { s.enc ch with owner := some c.p }).encJump ch (256 * s.dt) (fld c.e 0xC 4) 1, .ok)

/-- SET_COUNT: a jump at the commit stamp (11 R398, R415). -/
def execSetCount (t : Nat) (c : RingCmd) (s : State) : Host.Outcome State Fault Refusal :=
  (s.elapse t).command c 0x39 (setCountChecks c) (setCountEffect c)

/-- The layout of DIVIDER (11 R414). -/
def dividerLayout (e : Entry) : List Chk :=
  if bitAt e 0xA 0 then
    encHead e [(0xA, 0xA)] ++ [rsv e 0xA 1 2 6, rsv e 0xB 1 6 2, rsv e 0xC 1 6 2, rsv e 0xD 1 0 8]
  else encHead e [(0xA, 1)] ++ namedRsv e [(0xE, 2), (0x10, 2), (0x12, 2)] [] ++ [rsv e 0xA 1 1 7]

/-- The checks of DIVIDER (11 R410, R411, R414). -/
def dividerChecks (c : RingCmd) (s : State) : Checks :=
  let e := c.e
  let ch := encCh e
  let on := bitAt e 0xA 0
  let a := bitsAt e 0xB 1 0 6
  let b := bitsAt e 0xC 1 0 6
  let x := s.enc ch
  { layout := dividerLayout e
    ranges := if on then [(0xB, 48 ≤ a), (0xC, 48 ≤ b), (0xB, a = b), (0xE, fld e 0xE 2 = 0), (0x10, fld e 0x10 2 = 0),
        (0x12, fld e 0x12 2 < 40)] else []
    owner := firstSome [ownerStatus x.owner c.p, if on then ownerStatus (s.gioLine a).owner c.p else none,
      if on then ownerStatus (s.gioLine b).owner c.p else none]
    state := if on then
        firstSome [if x.div.isSome then some (s.badState 0x23) else none, s.lineStatus c.p a, s.lineStatus c.p b,
          if x.cfg.mode = 0 then some (s.badState 0x20) else none]
      else none }

/-- What an accepted DIVIDER (11 R410, R411, R414) does. -/
def dividerEffect (c : RingCmd) (s : State) : State × Done :=
  let e := c.e
  let ch := encCh e
  let on := bitAt e 0xA 0
  let a := bitsAt e 0xB 1 0 6
  let b := bitsAt e 0xC 1 0 6
  let x := s.enc ch
  let d : Divider :=
    { reverse := bitAt e 0xA 1, gioA := a, gioB := b, n := fld e 0xE 2, m := fld e 0x10 2, minEdge := fld e 0x12 2
      acc := 0, queue := [], fwd := true, next := 0
      phase := if (s.gioLine b).driven then (if (s.gioLine a).driven then 2 else 3)
        else if (s.gioLine a).driven then 1 else 0 }
  (s.setEnc ch { x with owner := some c.p, div := if on then some d else none }, .ok)

/-- DIVIDER: starts or stops the pulse divider (11 R410, R411, R414). -/
def execDivider (t : Nat) (c : RingCmd) (s : State) : Host.Outcome State Fault Refusal :=
  (s.elapse t).command c 0x39 (dividerChecks c) (dividerEffect c)

/-- The status block of a channel (11 R416). -/
def State.encBlock (s : State) (e : Nat) : List Byte :=
  let x := s.enc e
  let i := s.dt256
  let pos := x.posAt e i
  let div := x.div
  let n (k : Nat) : List Byte := leBytes 4 (tabGet 0 x.counters k)
  leBytes 1 x.cfg.mode ++
  leBytes 1 (x.st.code + b2n x.zArmed * 4 + b2n x.sensorWarn * 8 + b2n div.isSome * 16) ++ zeros 2 ++
  leBytes 4 (x.rawAt i) ++ leBytes 8 s.dt ++
  leBytes 4 (match pos with | some p => p.count | none => 0) ++ leBytes 1 (match pos with | some p => p.frac | none => 0) ++
  zeros 3 ++ leBytes 4 (ofInt 32 x.v) ++ leBytes 4 x.zCount ++ leBytes 8 (x.zTime / 256) ++ leBytes 1 (x.zTime % 256) ++
  zeros 3 ++ leBytes 4 x.k1 ++ leBytes 4 x.k2 ++ leBytes 4 (match div with | some d => d.queue.length | none => 0) ++
  zeros 8 ++ n 1 ++ n 2 ++ n 3 ++ n 4 ++ n 5 ++ n 6 ++ n 7 ++ n 8 ++ n 9 ++ zeros 28

/-- The checks of ENCODER_STATUS (11 R416). -/
def encoderStatusChecks (c : RingCmd) (s : State) : Checks :=
  let ch := encCh c.e
  let va := bufferVa c.e 0x10
  { layout := encHead c.e [(0x10, 8)] ++ [bufferChk c.e 0x10], ranges := [(0x10, va % 64 != 0)]
    owner := ownerStatus (s.enc ch).owner c.p, handles := s.addrStatus c.p va 128 0x10 }

/-- What an accepted ENCODER_STATUS (11 R416) does. -/
def encoderStatusEffect (c : RingCmd) (s : State) : State × Done :=
  let ch := encCh c.e
  let va := bufferVa c.e 0x10
  (s.setEnc ch { s.enc ch with owner := some c.p }).queueBlock c va (s.encBlock ch)

/-- ENCODER_STATUS (11 R416). -/
def execEncoderStatus (t : Nat) (c : RingCmd) (s : State) : Host.Outcome State Fault Refusal :=
  (s.elapse t).command c 0x39 (encoderStatusChecks c) (encoderStatusEffect c)

/-- The checks of ENCODER_RELEASE (11 R415). -/
def encoderReleaseChecks (c : RingCmd) (s : State) : Checks :=
  let ch := encCh c.e
  { layout := encHead c.e [], owner := ownerStatus (s.enc ch).owner c.p, state := s.encHeld ch }

/-- What an accepted ENCODER_RELEASE (11 R415) does. -/
def encoderReleaseEffect (c : RingCmd) (s : State) : State × Done :=
  let ch := encCh c.e
  let x := s.enc ch
  let s1 := if x.st == .off then s.setEnc ch (x.cleared s.dt256) else s.encConfigure c.p ch EncCfg.reset
  (s1.setEnc ch { s1.enc ch with owner := none, div := none }, .ok)

/-- ENCODER_RELEASE: the channel goes Off, unowned and without claims (11 R415). -/
def execEncoderRelease (t : Nat) (c : RingCmd) (s : State) : Host.Outcome State Fault Refusal :=
  (s.elapse t).command c 0x39 (encoderReleaseChecks c) (encoderReleaseEffect c)

/-! ### Edges (11 R386 to R391) -/

/-- The stamp of an edge on the 250 ps grid (10 R359). -/
def State.edgeAt (s : State) (sub : Nat) : Nat := (s.dt256 + sub) / 64 * 64

/-- The stamp of a filtered encoder edge on the 1.25 ns grid (11 R387). -/
def State.sampleAt (s : State) (sub : Nat) : Nat := (s.dt256 + sub) / 320 * 320

/-- The filtered level of input k after a new level with this stamp: it changes only when the level before it had stood for FILTER samples
since its own edge, and not while the pair is in fault (11 R386, R387). -/
def Encoder.passes (x : Encoder) (k : Nat) (old new_ : Bool) (i : Nat) : Bool :=
  if x.faults.contains k then old
  else match tabFind x.moved k with
    | some j => if j + 320 * x.cfg.filter ≤ i then new_ else old
    | none => new_

/-- Inputs A and B have taken these filtered levels at a stamp. -/
def Encoder.takeAB (x : Encoder) (a b : Bool) (i : Nat) : Encoder :=
  let m1 := if x.a != a then tabPut x.moved 0 i else x.moved
  { x with a := a, b := b, moved := if x.b != b then tabPut m1 1 i else m1 }

/-- Channels count in every mode but Keep (11 R417). -/
def State.encLive (s : State) : Bool := s.mode != .keep

/-- A decode error: counted, and the observer goes to LOST (11 R388, R390). -/
def State.decodeError (s : State) (e i code : Nat) : State :=
  ((s.captureEncoder e i 3 none).encCount e code 1).forceLost e i 2

/-- The count step of a change of (A, B) in a quadrature mode: none, forward or reverse (11 R388). -/
def quadStep (mode : Nat) (a b a' b' : Bool) : Option Bool :=
  if mode = 1 then (if a != a' && !b' then some a' else none)
  else if mode = 2 then (if a != a' then some (a' != b') else none)
  else if a != a' then some (a' != b') else if b != b' then some (a' == b') else none

/-- QUADRATURE_EDGE (11 R388). -/
def execQuadratureEdge (t : Nat) (e : Fin 16) (a b : Bool) (sub : Fin 512) (s : State) : Host.Outcome State Fault Refusal :=
  let s1 := s.elapse t
  let x := s1.enc e
  let i := s1.sampleAt sub
  let a' := x.passes 0 x.a a i
  let b' := x.passes 1 x.b b i
  if s1.encLive && 1 ≤ x.cfg.mode && x.cfg.mode ≤ 3 then
    let s2 := s1.setEnc e (x.takeAB a' b' i)
    if x.a != a' && x.b != b' then .next (s2.decodeError e i 1)
    else match quadStep x.cfg.mode x.a x.b a' b' with
      | some f => .next (s2.countBy e i f)
      | none => .next s2
  else .next s1

/-- STEP_EDGE (11 R389). -/
def execStepEdge (t : Nat) (e : Fin 16) (step dir : Bool) (sub : Fin 512) (s : State) : Host.Outcome State Fault Refusal :=
  let s1 := s.elapse t
  let x := s1.enc e
  let i := s1.sampleAt sub
  let a' := x.passes 0 x.a step i
  let b' := x.passes 1 x.b dir i
  if s1.encLive && x.cfg.mode = 4 then
    let s2 := s1.setEnc e (x.takeAB a' b' i)
    if x.a != a' && a' != x.cfg.stepEdge then .next (s2.countBy e i b') else .next s2
  else .next s1

/-- UP_DOWN_EDGE: both inputs rising in one sample leave the count as it is (11 R389). -/
def execUpDownEdge (t : Nat) (e : Fin 16) (up down : Bool) (sub : Fin 512) (s : State) : Host.Outcome State Fault Refusal :=
  let s1 := s.elapse t
  let x := s1.enc e
  let i := s1.sampleAt sub
  let a' := x.passes 0 x.a up i
  let b' := x.passes 1 x.b down i
  let ra := !x.a && a'
  let rb := !x.b && b'
  if s1.encLive && x.cfg.mode = 5 then
    let s2 := s1.setEnc e (x.takeAB a' b' i)
    if ra != rb then .next (s2.countBy e i ra) else .next s2
  else .next s1

/-- The next state of the forward Hall sequence 1, 3, 2, 6, 4, 5; 0 for a state outside it (11 R390). -/
def hallNext (h : Nat) : Nat := [0, 3, 6, 2, 5, 1, 4, 0].getD h 0

/-- HALL_CHANGE (11 R390). -/
def execHallChange (t : Nat) (e : Fin 16) (u v w : Bool) (sub : Fin 512) (s : State) : Host.Outcome State Fault Refusal :=
  let s1 := s.elapse t
  let x := s1.enc e
  let h := b2n u + 2 * b2n v + 4 * b2n w
  let i := s1.edgeAt sub
  if s1.encLive && x.cfg.mode = 6 && x.hall != some h then
    let s2 := s1.setEnc e { x with hall := some h }
    match x.hall with
    | none => .next s2
    | some old =>
      if h != 0 && hallNext old = h then .next (s2.countBy e i true)
      else if old != 0 && hallNext h = old then .next (s2.countBy e i false)
      else .next (s2.decodeError e i 2)
  else .next s1

/-- An accepted Z edge (11 R397). -/
def State.zMark (s : State) (e i : Nat) : State :=
  let x := s.enc e
  let jump := x.cfg.zMode = 3 || (x.cfg.zMode = 2 && x.zArmed)
  let s1 := ((s.captureEncoder e i 2 none).setEnc e { x with zCount := x.rawAt i, zTime := i, zArmed := false }).encCount e 8 1
  let s2 := if x.cfg.zMode != 0 then s1.emit0 3 e i (320 * (x.cfg.filter + 8)) else s1
  if jump then s2.encJump e i x.cfg.zPreset 0 else s2

/-- Z_EDGE (11 R397). -/
def execZEdge (t : Nat) (e : Fin 16) (level : Bool) (sub : Fin 512) (s : State) : Host.Outcome State Fault Refusal :=
  let s1 := s.elapse t
  let x := s1.enc e
  let i := s1.edgeAt sub
  let z := x.passes 2 x.z level i
  if s1.encLive && 1 ≤ x.cfg.mode && x.cfg.mode ≤ 5 then
    let s2 := s1.setEnc e { x with z := z, moved := if x.z != z then tabPut x.moved 2 i else x.moved }
    if !x.z && z && (!x.cfg.zGate || (x.a && x.b)) then .next (s2.zMark e i) else .next s2
  else .next s1

/-- The mode uses the pair: 0 A, 1 B, 2 Z (11 R385). -/
def EncCfg.usesPair (c : EncCfg) (k : Nat) : Bool :=
  (1 ≤ c.mode && c.mode ≤ 5 && k ≤ 2) || (c.serial && k = 0)

/-- WIRE_FAULT: an input pair enters or leaves fault (11 R386). -/
def execWireFault (t : Nat) (e : Fin 16) (pair : Fin 4) (enter : Bool) (s : State) : Host.Outcome State Fault Refusal :=
  let s0 := s.elapse t
  let x := s0.enc e
  let k := pair.val
  let s1 := if s0.encLive && x.cfg.usesPair k && x.faults.contains k != enter then s0.captureEncoder e s0.dt256 (if enter then 4 else 5) none else s0
  if s1.encLive && x.cfg.usesPair k && x.faults.contains k != enter then
    let data := b2n enter + 2 ^ (k + 1)
    if enter then
      let s2 := (s1.setEnc e { x with faults := k :: x.faults }).encRecord e s1.dt256 1 0x0504 0 data
      let s3 := s2.encCount e 3 1
      .next (if k ≤ 1 then s3.forceLost e s1.dt256 3 else s3)
    else .next ((s1.setEnc e { x with faults := x.faults.filter (· != k) }).encRecord e s1.dt256 3 0x0504 0 data)
  else .next s1

/-! ### Serial sensors (11 R392 to R394) -/

/-- SERIAL_FRAME_START: the sensor is clocked every SER_PERIOD (11 R392, R394). -/
def execSerialFrameStart (t : Nat) (e : Fin 16) (s : State) : Host.Outcome State Fault Refusal :=
  let s1 := s.elapse t
  let x := s1.enc e
  if s1.encLive && x.cfg.serial && x.serDue ≤ s1.ns && x.serOpen.isNone then
    .next ((s1.setEnc e { x with serOpen := some (s1.edgeAt 0), serDue := x.serDue + 1000 * x.cfg.serPeriod }).say
      (.encoderClock e x.cfg.frameClocks))
  else .next s1

/-- A reading is discarded (11 R394). -/
def State.discardReading (s : State) (e code : Nat) : State :=
  let x := s.enc e
  let n := x.discards + 1
  if x.cfg.lossCount ≤ n then ((s.setEnc e { x with discards := 0 }).encCount e code 1).forceLost e s.dt256 4
  else (s.setEnc e { x with discards := n }).encCount e code 1

/-- A good reading of position pos, stamped i (11 R394). -/
def State.goodReading (s : State) (e i pos : Nat) (warn : Bool) : State :=
  let x := s.enc e
  let d0 : Int := match x.readings with
    | r :: _ => toInt x.cfg.posBits (pos + 2 ^ x.cfg.posBits - r.2.1 % 2 ^ x.cfg.posBits)
    | [] => 0
  let d := if x.cfg.reverse then -d0 else d0
  let c := if x.readings.isEmpty then pos else ofInt 32 (x.count + d)
  let y := { x with sensorWarn := warn, discards := 0, readings := (i, pos, c) :: x.readings.take 1 }
  (((s.captureEncoder e i 6 (some c)).setEnc e ((y.push i c c).prune s.dt256)).divide e i d.natAbs (0 ≤ d)).slotsOnEdge e s.dt256

/-- SERIAL_READING (11 R394). -/
def execSerialReading (t : Nat) (e : Fin 16) (r : SerialReading) (s : State) : Host.Outcome State Fault Refusal :=
  let s1 := s.elapse t
  let x := s1.enc e
  match x.serOpen with
  | none => .next s1
  | some i =>
    let s2 := s1.setEnc e { x with serOpen := none }
    let biss := x.cfg.mode = 8
    if biss && (r.noStart || x.faults.contains 0) then .next (s2.discardReading e 5)
    else if !readingOk x.cfg r || x.faults.contains 0 then .next (s2.discardReading e 4)
    else if biss && !r.nE then .next (s2.discardReading e 6)
    else .next (s2.goodReading e i (readingPos x.cfg r) (biss && !r.nW))

/-! ### Observer and divider (11 R399 to R402, R411) -/

/-- OBSERVER_UPDATE: the next whole microsecond is updated once it has been reached (11 R399, R400). It uses every reading stamped by then,
so it waits for the end of a serial frame that began by then (DEDUCED, entry 100). -/
def execObserverUpdate (t : Nat) (e : Fin 16) (s : State) : Host.Outcome State Fault Refusal :=
  let s1 := s.elapse t
  let x := s1.enc e
  let tu := (x.tk / 1000 + 1) * 1000
  let open_ : Bool := match x.serOpen with | some i => i ≤ 256 * tu | none => false
  if s1.encLive && x.st != .off && s1.reached (256 * tu) && !open_ then .next ((s1.obsUpdate e tu).slotsOnUpdate e) else .next s1

/-- DIVIDER_OUTPUT_EDGE: a waiting output count is placed (11 R411). In Dark the divider stops (11 R417). -/
def execDividerOutputEdge (t : Nat) (e : Fin 16) (s : State) : Host.Outcome State Fault Refusal :=
  let s1 := s.elapse t
  if s1.encLive && s1.mode != .dark then .next (s1.divideOut e) else .next s1

end Sys2Proof.Machine
end

