-- ==== Sys2Proof/Machine/TimeOps.lean ====
section
/-!
DEFINITION. The time base: states, steps, the servo, PTP messages and the stamp queue (10_time_base). Instants on the wire
count 1/256 ns; offsets and delays count 2^-16 ns, as PTP's correctionField does.
-/

namespace Sys2Proof.Machine

/-! ### Supply -/

/-- A feed is in range. -/
def Supply.fed (x : Supply) : Bool := x.main.inRange || x.back.inRange

/-- The Ember runs: from a feed or from HOLD, or from the internal capacitance until a collapse (19 R627). -/
def Supply.live (x : Supply) : Bool := x.fed || x.holdOnly || x.collapseAt.isSome

/-! ### States and records (10 R368, R369, R383) -/

/-- Code of a state of the time base (10 R368). -/
def TimeState.code : TimeState → Nat
  | .freeRun => 0 | .acquiring => 1 | .locked => 2 | .holdover => 3 | .settling => 4

/-- A whole number of ns in an offset, towards minus infinity. -/
def nsOf (o : Int) : Int := o / 65536

/-- The time base changes state and says so (10 R383). -/
def State.timeTo (s : State) (st : TimeState) : State :=
  let old := s.tb.st
  if old == st then s
  else
    let tb := { s.tb with
      st := st, good := 0, bad := 0
      settle := if st == TimeState.settling then [] else s.tb.settle
      holdSince := if old == TimeState.holdover && st == TimeState.settling then s.tb.holdSince else s.ns }
    ({ s with tb := tb }).reportPorts s.inService (if st == TimeState.locked || st == TimeState.freeRun then 3 else 2) 0x0401 islandEmber 0
      (st.code + old.code * 2 ^ 8 + ofInt 32 (clampInt (-(2 : Int) ^ 31) ((2 : Int) ^ 31 - 1) (nsOf s.tb.offset)) * 2 ^ 32)

/-- A source is in use. -/
def TimeState.inUse : TimeState → Bool
  | .acquiring => true | .locked => true | .settling => true | _ => false

/-- RATE_ADJ within its limits (10 R354). -/
def clampRate (r : Int) : Int := clampInt (-4294967) 4294967 r

/-- The holdover rate (10 R371): the mean of the frequency estimates of the last 16 updates made in LOCKED, or the last estimate. -/
def TimeBase.holdRate (x : TimeBase) : Int :=
  if x.st == .locked && !x.estimates.isEmpty then clampRate ((x.estimates.foldl (· + ·) 0) / x.estimates.length / 2 ^ 32)
  else clampRate (x.estimate / 2 ^ 32)

/-- The source is lost (10 R369): HOLDOVER at the holdover rate, or, in SETTLING, the offsets measured count no more. -/
def State.sourceLoss (s : State) : State :=
  match s.tb.st with
  | .acquiring => ({ s with rateAdj := s.tb.holdRate }).timeTo .holdover
  | .locked => ({ s with rateAdj := s.tb.holdRate }).timeTo .holdover
  | .settling => { s with tb := { s.tb with settle := [] } }
  | _ => s

/-- A PTP source of the time base is taken away by a reset, a take-over, Keep or Dark; the PPS_IN servo goes on (10 R357). -/
def State.timeHoldover (s : State) : State :=
  if s.tb.cfg.role = 0 then s
  else
    let s1 := if s.tb.st == .settling then s.timeTo .holdover else s.sourceLoss
    { s1 with tb := { s1.tb with parent := none, foreign := [], syncOpen := none, delayOpen := []
                                 pdelayOpen := [], lastPair := none, tpUp := false } }

/-- A frame that opens now carries HOLDOVER (10 R372); in Replay the last SERVO record says so (16 R567). -/
def State.holdoverFlag (s : State) : Bool :=
  if s.mode == .replay then (match s.session.servo with | some v => v != 2 | none => false)
  else !(s.tb.cfg.role = 0 && s.tb.cfg.source = 0) && s.tb.st != .locked

/-! ### Steps (10 R370) -/

/-- The open frame of a sconce. -/
def Sconce.openFrame (x : Sconce) : Option Frame := x.frames.find? (fun f => !f.closed)

/-- A Lantern gives up the frame it has in work. -/
def Lantern.dropWork (x : Lantern) : Lantern :=
  { x with routine := .idle, frame := none, lineY := 0, normal := none, fast := none, waiting := none, sawClosed := false
           sr := tabPut x.sr 4 0 }

/-- Sconce k discards its open frame uncounted; the next LINE_START sets the expected number (05 R186, R201; 10 R370). -/
def State.discardOpen (s : State) (k : Nat) : State :=
  let x := s.sconce k
  match x.openFrame with
  | none => s
  | some f =>
    let s1 := s.setSconce k { x with frames := x.frames.filter (·.closed), line := none, late := false, expected := none, boundary := none }
    { s1 with
      lanterns := tabMap s1.lanterns (fun _ y => if y.st != .free && y.sconce == k && y.frame == some f.number then y.dropWork else y)
      streams := tabMap s1.streams (fun _ y =>
        if y.sconce == k then { y with frames := y.frames.filter (fun g => g.number != f.number) } else y) }

/-- Line stores stand empty: their instants belong to the device time before a step or a change to or from Replay. -/
def State.clearStores (s : State) : State :=
  { s with sliceBusy := [], sconces := tabMap s.sconces (fun _ x => { x with store := [] }) }

/-- Every sconce discards its open frame. -/
def State.discardAll (s : State) : State := ((s.sconces.map (·.1)).foldl State.discardOpen s).clearStores

/-- The conditions of a step (10 R370). -/
def State.mayStep (s : State) : Bool :=
  (s.mode == .standby || s.mode == .configure) &&
  s.streams.all (fun x => x.2.st != .running && x.2.st != .stopping) &&
  s.seqs.all (fun q => !q.2.running && q.2.slots.all (fun k => k.2.armed.isNone))

/-- A step to a device time in 2^-32 ns (10 R370, R383). -/
def State.timeStep (s : State) (new : Nat) : State :=
  let old := s.dt
  let s1 := { s with time := new % 2 ^ 96 }
  let last : Int := match s.tb.ppsHigh with | some e => (s1.dt : Int) + (e - s.ns : Nat) | none => (s1.dt : Int) - 1
  let tb := { s1.tb with steps := (s1.tb.steps + 1) % 2 ^ 32, ppsLast := last }
  let s2 := { s1.discardAll with
    tb := tb
    channels := tabMap s1.channels (fun _ x => if x.prodKind = 7 then { x with tick := tickAt x.period s1.dt } else x)
    encoders := tabMap s1.encoders (fun _ x => { x with tk := s1.lastUpdateNs }) }
  let step := ofInt 64 ((s1.dt : Int) - old)
  (s2.reportPorts s2.inService 2 0x0403 islandEmber 0 step).journal 0 0x11 islandEmber s1.dt (leBytes 8 step)

/-- Ports that get records of the time base other than the three that go to every port (10 R383). -/
def State.timeRecord (s : State) (cls typ subject data : Nat) : State := s.report none cls typ islandEmber subject data

/-! ### The servo (10 R367 to R371) -/

/-- The grandmaster identity of the source in use: the FV8128's own without a parent (10 R382). -/
def State.gmIdentity (s : State) : Nat :=
  match s.tb.parent with | some m => m.identity | none => Config.serialNumber.toNat

/-- The journal record of an update (10 R367, 16 R546). -/
def State.servoRecord (s : State) : State :=
  s.journal s.tb.st.code 0x10 islandEmber s.dt (leBytes 8 (ofInt 64 s.tb.offset) ++ leBytes 4 (ofInt 32 s.rateAdj))

/-- 100 ppm as RATE_ADJ (10 R354, R370). -/
def slewLimit : Int := 858993

/-- The servo's loop steers (10 R367): of second order, its proportional term 2 × 0.707 ω × offset and its frequency estimate the sum of
ω² × offset × the time since the update before. The natural frequency ω that belongs to SERVO_BW, and the rounding, are free values
(entry 40). While a step is deferred, the phase is slewed at up to 100 ppm on top of the frequency estimate (10 R370), which stays. -/
def State.servoStep (s : State) (since : Nat) (deferred : Bool) : State :=
  let w : Int := Config.servoOmega s.tb.cfg.servoBw
  let off := s.tb.offset
  let e := (Config.servoRounding s.fresh).toNat
  let prop := 1414 * w * off / (10 ^ 12 * 2 ^ 15)
  let limit : Int := 4294967 * 2 ^ 32
  let est := if deferred then s.tb.estimate
    else clampInt (-limit) limit (s.tb.estimate - w * w * since * off / (10 ^ 18 * 2 ^ 15) + (e / 2 : Nat))
  let rate := clampRate (est / 2 ^ 32 - (if deferred then clampInt (-slewLimit) slewLimit prop else prop) +
    (if deferred then 0 else (e % 2 : Nat)))
  let tb := { s.tb with estimate := est, estimates := if s.tb.st == .locked then est :: s.tb.estimates.take 15 else s.tb.estimates }
  (({ s with rateAdj := rate, tb := tb }).freshen).servoRecord

/-- An update in ACQUIRING (10 R370): an offset at or beyond STEP_LIMIT makes a step, or a deferral with a bounded slew; the loop steers on
any other. -/
def State.stepOrSlew (s : State) (off : Int) (since : Nat) : State :=
  if s.tb.cfg.stepLimit * 65536 ≤ off.natAbs then
    if s.mayStep then (s.servoRecord).timeStep (ofInt 96 ((s.time : Int) - off * 65536))
    else
      let free : Bool := match s.tb.deferredAt with | some a => a + 10000000000 ≤ s.ns | none => true
      (if free then
        ({ s with tb := { s.tb with deferredAt := some s.ns } }).timeRecord 2 0x0404 0 (ofInt 64 (nsOf off))
       else s).servoStep since true
  else s.servoStep since false

/-- Adoption of the source that has settled (10 R369). -/
def State.adopt (s : State) (off : Int) (since : Nat) : State :=
  let s1 := s.timeTo .acquiring
  let s2 := match s1.tb.parent with
    | some m =>
      if s1.tb.adopted = some m.identity then s1
      else ({ s1 with tb := { s1.tb with adopted := some m.identity } }).reportPorts s1.inService 2 0x0402 islandEmber
        (m.stepsRemoved % 2 ^ 16 + m.cls * 2 ^ 16) m.identity
    | none => s1
  s2.stepOrSlew off since

/-- The greatest less the least of a list of offsets. -/
def spread : List Int → Int
  | [] => 0
  | a :: t => t.foldl max a - t.foldl min a

/-- The configuration that waits for the servo's next update takes effect (10 R379). -/
def State.applyCfg (s : State) : State :=
  match s.tb.cfgNext with
  | some c => { s with tb := { s.tb with cfg := c, cfgNext := none } }
  | none => s

/-- One offset measurement (10 R367, R369): an update of the servo, which is journaled in every state. In SETTLING it steers nothing. -/
def State.servo (s : State) (off : Int) : State :=
  let s0 := s.applyCfg
  let since := match s0.tb.servoAt with | some a => s.ns - a | none => 0
  let x := { s0.tb with offset := off, lastUpdate := s.dt, servoAt := some s.ns }
  let s1 := { s0 with tb := x }
  let n := off.natAbs
  match x.st with
  | .settling =>
    let l := off :: x.settle.take (x.cfg.settleCount - 1)
    let s2 := { s1 with tb := { x with settle := l } }
    if x.cfg.settleCount ≤ l.length && spread l ≤ x.cfg.settleWindow * 65536 then s2.adopt off since else s2.servoRecord
  | .acquiring =>
    let good := if n ≤ x.cfg.lockThreshold * 65536 then x.good + 1 else 0
    let s2 := ({ s1 with tb := { x with good := good } }).stepOrSlew off since
    if 8 ≤ good then s2.timeTo .locked else s2
  | .locked =>
    let bad := if 4 * x.cfg.lockThreshold * 65536 < n then x.bad + 1 else 0
    let s2 := ({ s1 with tb := { x with bad := bad } }).servoStep since false
    if 2 ≤ bad then s2.timeTo .acquiring else s2
  | _ => s1

/-- A source is available: SETTLING from FREE_RUN and HOLDOVER (10 R369). From FREE_RUN no source was lost, so the rate in force stays and is
the frequency estimate that the servo begins from (DEDUCED, entry 97). -/
def State.sourceAvailable (s : State) : State :=
  match s.tb.st with
  | .freeRun => ({ s with tb := { s.tb with estimate := s.rateAdj * 2 ^ 32 } }).timeTo .settling
  | .holdover => s.timeTo .settling
  | _ => s

/-! ### PTP messages (10 R364; IEEE 1588-2019) -/

/-- An interval of 2^n s in ns. -/
def intervalNs (n : Int) : Nat := if 0 ≤ n then 1000000000 * 2 ^ n.toNat else 1000000000 / 2 ^ (-n).toNat

/-- The big-endian field of n bytes at an offset of a message. -/
def mfld (m : List Byte) (off n : Nat) : Nat := beVal ((m.drop off).take n)

/-- A Timestamp of a message in 2^-16 ns. -/
def mstamp (m : List Byte) (off : Nat) : Int := ((mfld m off 6 * 1000000000 + mfld m (off + 6) 4 : Nat) : Int) * 65536

/-- correctionField in 2^-16 ns. -/
def mcorr (m : List Byte) : Int := toInt 64 (mfld m 8 8)

/-- sourcePortIdentity. -/
def msender (m : List Byte) : Nat := mfld m 20 10

/-- The identity of one of the FV8128's PTP ports. -/
def ownPort (n : Nat) : Nat := Config.serialNumber.toNat * 65536 + n

/-- A Timestamp of a stamp in 1/256 ns: 48-bit seconds and 32-bit ns. -/
def stampBytes (i : Nat) : List Byte := beBytes 6 (i / 256 / 1000000000) ++ beBytes 4 (i / 256 % 1000000000)

/-- A PTP message that the FV8128 sends: flagField, correctionField, portNumber, sequenceId, controlField,
logMessageInterval and body. The timescale is PTP's (10 R355). -/
def ptpMessage (domain typ : Nat) (twoStep : Bool) (corr port seq control log : Nat) (body : List Byte) : List Byte :=
  beBytes 1 typ ++ beBytes 1 0x12 ++ beBytes 2 (34 + body.length) ++ beBytes 1 domain ++ [0] ++
  beBytes 1 (if twoStep then 2 else 0) ++ beBytes 1 8 ++ beBytes 8 corr ++ zeros 4 ++ beBytes 10 (ownPort port) ++
  beBytes 2 seq ++ beBytes 1 control ++ beBytes 1 log ++ body

/-- A sent message of type 0 to 3 joins the stamp queue when its bit of STAMP_MASK is 1 (10 R376). -/
def State.queueStamp (s : State) (x : TxStamp) : State :=
  if !nbit s.tb.cfg.stampMask x.msgType then s
  else if s.tb.stamps.length < 16 then
    -- Ties stand in ascending portNumber.
    let after := (s.tb.stamps.reverse.takeWhile (fun y => y.stamp == x.stamp && x.port < y.port)).reverse
    { s with tb := { s.tb with stamps := s.tb.stamps.take (s.tb.stamps.length - after.length) ++ [x] ++ after } }
  else
    let n := satAdd 32 s.tb.overflow 1
    let free : Bool := match s.tb.overflowAt with | some a => a + 1000000000 ≤ s.ns | none => true
    let s1 := { s with tb := { s.tb with overflow := n } }
    if free then ({ s1 with tb := { s1.tb with overflowAt := some s.ns } }).timeRecord 2 0x0407 0 n else s1

/-- The instant at which a message that is sent now passes the pin, on the 250 ps grid. -/
def State.txStamp (s : State) : Nat := s.dt256 / 64 * 64

/-- The fraction of a stamp as a correctionField. -/
def stampCorr (i : Nat) : Nat := i % 256 * 256

/-- Send one message under a transport, and stamp it when it is an event message (10 R364, R376). -/
def State.ptpSend (s : State) (annexE : Bool) (port typ seq : Nat) (m : List Byte) : State :=
  let x := s.lane (port - 2)
  let mac := if port = 1 then s.tb.cfg.tpMac else x.mac
  let ip := if !annexE then 0 else if port = 1 then s.tb.cfg.tpIpv4 else x.ipv4
  let s1 := s.say (.ptp port annexE mac ip m)
  if typ ≤ 3 then s1.queueStamp { seqId := seq, port := port, msgType := typ, stamp := s.txStamp } else s1

/-- The transport of what a port sends of itself: the timing port's as configured, a lane's a free value (10 R364). -/
def State.ownTransport (s : State) (port : Nat) : Bool := if port = 1 then s.tb.cfg.transport = 1 else Config.lanePtpAnnexE port

/-- delayAsymmetry of a port in 2^-16 ns (10 R366): ASYMMETRY of TIME_CONFIG in s16.16 ns, of a lane in s8.8 ns. -/
def State.asymmetryOf (s : State) (port : Nat) : Int :=
  if port = 1 then s.tb.cfg.asymmetry else toInt 16 (s.lane (port - 2)).asymmetry * 256

/-- A message is discarded and counted (10 R363 to R365). -/
def State.ptpDiscard (s : State) : State := { s with tb := { s.tb with discarded := satAdd 32 s.tb.discarded 1 } }

/-- Answer a Pdelay_Req received at an instant with Pdelay_Resp and its Follow_Up (two-step), in the transport of the request. -/
def State.answerPdelay (s : State) (annexE : Bool) (port : Nat) (m : List Byte) (rx : Nat) : State :=
  let d := s.tb.cfg.domain
  let seq := mfld m 30 2
  let who := (m.drop 20).take 10
  let s1 := s.ptpSend annexE port 3 seq (ptpMessage d 3 true (stampCorr rx) port seq 5 0x7F (stampBytes rx ++ who))
  s1.ptpSend annexE port 0xA seq (ptpMessage d 0xA false (ofInt 64 (mcorr m + stampCorr s.txStamp)) port seq 5 0x7F
    (stampBytes s.txStamp ++ who))

/-- Answer a Delay_Req received at an instant, in the transport of the request. -/
def State.answerDelay (s : State) (annexE : Bool) (port : Nat) (m : List Byte) (rx : Nat) : State :=
  let d := s.tb.cfg.domain
  let seq := mfld m 30 2
  s.ptpSend annexE port 9 seq (ptpMessage d 9 false (ofInt 64 (mcorr m - stampCorr rx)) port seq 3 (ofInt 8 s.tb.cfg.logMinDelay)
    (stampBytes rx ++ (m.drop 20).take 10))

/-! ### The timing port's client (10 R364) -/

/-- The dataset of an Announce. -/
def announceMaster (m : List Byte) : Master :=
  { priority1 := mfld m 47 1, cls := mfld m 48 1, accuracy := mfld m 49 1, variance := mfld m 50 2, priority2 := mfld m 52 1
    identity := mfld m 53 8, stepsRemoved := mfld m 61 2, timeSource := mfld m 63 1, sender := msender m }

/-- Lexicographic order. -/
def lexLt : List Nat → List Nat → Bool
  | a :: t, b :: u => if a < b then true else if b < a then false else lexLt t u
  | [], _ :: _ => true
  | _, [] => false

/-- One dataset is better than another, by the comparison of Clause 9.3: of two grandmasters by their attributes, and of two paths to one
grandmaster by their steps and then their senders (PRESUMED, entry 98). -/
def Master.better (a b : Master) : Bool :=
  if a.identity = b.identity then lexLt [a.stepsRemoved, a.sender] [b.stepsRemoved, b.sender]
  else lexLt [a.priority1, a.cls, a.accuracy, a.variance, a.priority2, a.identity]
    [b.priority1, b.cls, b.accuracy, b.variance, b.priority2, b.identity]

/-- A foreign master is qualified: two Announces within 4 announce intervals, the last one no older (10 R364). -/
def Foreign.qualified (f : Foreign) (now : Nat) : Bool :=
  match f.before with
  | some b => f.last - b ≤ 4 * intervalNs f.interval && now ≤ f.last + 4 * intervalNs f.interval
  | none => false

/-- The best qualified foreign master. -/
def State.bestMaster (s : State) : Option Master :=
  (s.tb.foreign.filter (fun f => f.qualified s.ns)).foldl (fun b f =>
    match b with
    | none => some f.m
    | some m => if f.m.better m then some f.m else b) none

/-- The BMCA chooses (10 R364, R369). -/
def State.bmca (s : State) : State :=
  match s.bestMaster with
  | none => s
  | some m =>
    let same : Bool := match s.tb.parent with | some p => p.identity = m.identity | none => false
    let path : Bool := match s.tb.parent with | some p => p.sender = m.sender | none => false
    let tb := if path then { s.tb with parent := some m }
      else { s.tb with parent := some m, syncOpen := none, lastSync := none, lastPair := none, delayOpen := tabDel s.tb.delayOpen 1 }
    let s1 := { s with tb := tb }
    match s.tb.st with
    | .freeRun => s1.sourceAvailable
    | .holdover => s1.sourceAvailable
    | .settling => if same then s1 else { s1 with tb := { s1.tb with settle := [] } }
    | _ => if same then s1 else ({ s1 with rateAdj := s.tb.holdRate }).timeTo .settling

/-- An Announce on the timing port. -/
def State.announce (s : State) (m : List Byte) : State :=
  let d := announceMaster m
  let old := s.tb.foreign.find? (fun f => f.m.sender = d.sender)
  let f : Foreign := { m := d, last := s.ns, before := old.map (·.last), interval := toInt 8 (mfld m 33 1) }
  ({ s with tb := { s.tb with foreign := f :: s.tb.foreign.filter (fun g => g.m.sender != d.sender) } }).bmca

/-- A Sync of the parent is complete: t1 with its corrections and t2, in 2^-16 ns. The port's delayAsymmetry counts with the corrections
(10 R366). -/
def State.syncDone (s : State) (t1 t2 : Int) : State :=
  let t := t1 + s.asymmetryOf 1
  ({ s with tb := { s.tb with lastPair := some (t, t2), syncOpen := none } }).servo (t2 - t - tabGet 0 s.tb.meanPath 1)

/-- A port's mean path delay is known. -/
def State.pathDelay (s : State) (port : Nat) (d : Int) : State := { s with tb := { s.tb with meanPath := tabPut s.tb.meanPath port d } }

/-- Pdelay_Resp or its Follow_Up for a Pdelay_Req of this port (10 R364): half of t4 - t1 less t3 - t2 and the corrections, to which the
port's delayAsymmetry belongs. -/
def State.peerAnswer (s : State) (port : Nat) (m : List Byte) (rx : Nat) : State :=
  let seq := mfld m 30 2
  let mine : Bool := mfld m 44 10 = ownPort port
  if mfld m 0 1 % 16 = 3 then
    match tabFind s.tb.delayOpen port with
    | some (q, t1) =>
      if mine && q = seq then
        let span : Int := ((rx : Int) - t1) * 256 - mcorr m - s.asymmetryOf port
        let s1 := { s with tb := { s.tb with delayOpen := tabDel s.tb.delayOpen port } }
        if nbit (mfld m 6 1) 1 then { s1 with tb := { s1.tb with pdelayOpen := tabPut s1.tb.pdelayOpen port (seq, mstamp m 34, span) } }
        else s1.pathDelay port (span / 2)
      else s
    | none => s
  else
    match tabFind s.tb.pdelayOpen port with
    | some (q, t2, span) =>
      if mine && q = seq then
        ({ s with tb := { s.tb with pdelayOpen := tabDel s.tb.pdelayOpen port } }).pathDelay port
          ((span - (mstamp m 34 - t2) - mcorr m) / 2)
      else s
    | none => s

/-- The message comes from the parent. -/
def State.fromParent (s : State) (m : List Byte) : Bool :=
  match s.tb.parent with | some p => p.sender = msender m | none => false

/-- A PTP message of the domain on the timing port as client (10 R364). A message of the other profile, Signaling and Management are
discarded and counted; one that this port does not wait for has no effect. -/
def State.clientReceive (s : State) (m : List Byte) (rx : Nat) : State :=
  let seq := mfld m 30 2
  let peer := s.tb.cfg.profile = 1
  match mfld m 0 1 % 16 with
  | 0 =>
    if s.fromParent m then
      let s1 := { s with tb := { s.tb with lastSync := some (s.ns, toInt 8 (mfld m 33 1)) } }
      if nbit (mfld m 6 1) 1 then { s1 with tb := { s1.tb with syncOpen := some (seq, rx, mcorr m) } }
      else s1.syncDone (mstamp m 34 + mcorr m) ((rx : Int) * 256)
    else s
  | 8 =>
    match s.tb.syncOpen with
    | some (q, t2, c) => if s.fromParent m && q = seq then s.syncDone (mstamp m 34 + mcorr m + c) ((t2 : Int) * 256) else s
    | none => s
  | 9 =>
    if peer then s.ptpDiscard
    else match tabFind s.tb.delayOpen 1, s.tb.lastPair with
      | some (q, t3), some (t1, t2) =>
        if s.fromParent m && mfld m 44 10 = ownPort 1 && q = seq then
          ({ s with tb := { s.tb with delayOpen := tabDel s.tb.delayOpen 1 } }).pathDelay 1
            (((t2 - t1) + (mstamp m 34 - mcorr m - (t3 : Int) * 256)) / 2)
        else s
      | _, _ => s
  | 1 => if peer then s.ptpDiscard else s
  | 2 => if peer then s.answerPdelay (s.ownTransport 1) 1 m rx else s.ptpDiscard
  | 3 | 10 => if peer then s.peerAnswer 1 m rx else s.ptpDiscard
  | 11 => if mfld m 61 2 < 255 && msender m / 65536 != Config.serialNumber.toNat then s.announce m else s
  | 12 | 13 => s.ptpDiscard
  | _ => s

/-- A PTP message of the domain on a lane port as master (10 R363, R364). -/
def State.masterReceive (s : State) (annexE : Bool) (port : Nat) (m : List Byte) (rx : Nat) : State :=
  let peer := s.tb.cfg.profile = 1
  match mfld m 0 1 % 16 with
  | 1 => if peer then s.ptpDiscard else s.answerDelay annexE port m rx
  | 2 => if peer then s.answerPdelay annexE port m rx else s.ptpDiscard
  | 3 | 10 => if peer then s.peerAnswer port m rx else s.ptpDiscard
  | 9 => if peer then s.ptpDiscard else s
  | 11 | 12 | 13 => s.ptpDiscard
  | _ => s

/-- The message is one of PTP version 2, and whole. -/
def ptpWhole (m : List Byte) : Bool := 34 ≤ m.length && mfld m 1 1 % 16 = 2

/-- The message is of the domain, and of no other profile's SDO. -/
def State.ptpOurs (s : State) (m : List Byte) : Bool := mfld m 4 1 = s.tb.cfg.domain && mfld m 0 1 / 16 = 0

/-- The firmware runs PTP: a supervisor runs, and the mode is neither Keep nor Dark (10 R357). -/
def State.ptpLive (s : State) : Bool :=
  s.mode != .keep && s.mode != .dark && (s.start.fw == .copyA || s.start.fw == .copyB) && !s.sup.live.isEmpty

/-- A frame is received at an instant on the timing port, or one with a PTP message on a lane in Ethernet mode (10 R363 to R365). The
timing port discards and counts every frame that is no PTP message of its domain and transport, or that is longer than 1,522 bytes. -/
def State.ptpReceive (s : State) (x : PtpPort) (tr : PtpTransport) (length : Nat) (m : List Byte) (rx : Nat) : State :=
  if !s.ptpLive then s
  else match x with
    | .timing =>
      let want := if s.ownTransport 1 then PtpTransport.annexE else .annexF
      if !s.tb.tpUp then s
      else if !(tr == want && length ≤ 1522 && ptpWhole m && s.ptpOurs m) then s.ptpDiscard
      else if s.tb.cfg.role = 0 then s
      else s.clientReceive m rx
    | .lane l =>
      let y := s.lane l
      if !(y.mode == .ethernet && y.st == .up) || tr == .other then s
      else if s.tb.cfg.role = 1 then s.ptpDiscard
      else if !ptpWhole m then s
      else if s.ptpOurs m then s.masterReceive (tr == .annexE) (l + 2) m rx
      else s.ptpDiscard

/-! ### What the ports send (10 R364) -/

/-- The dataset a lane port announces. -/
def State.announced (s : State) : Master :=
  let c := s.tb.cfg
  let own : Master := { priority1 := c.priority1, cls := if s.tb.st == .locked && c.role = 0 && c.source = 1 then 13 else 248
                        accuracy := 0xFE, variance := 0xFFFF, priority2 := c.priority2, identity := Config.serialNumber.toNat
                        stepsRemoved := 0, timeSource := if c.role = 0 && c.source = 1 then 0x90 else 0xA0, sender := 0 }
  if c.role = 2 && s.tb.st == .locked then
    match s.tb.parent with
    | some m => { m with stepsRemoved := m.stepsRemoved + 1 }
    | none => own
  else own

/-- When a port's Sync (2 n), Announce (2 n + 1) or delay request is next due. -/
def State.ptpDueAt (s : State) (n at_ : Nat) : State := { s with tb := { s.tb with ptpDue := tabPut s.tb.ptpDue n at_ } }

/-- A Sync with its Follow_Up leaves a lane port. -/
def State.sendPtpSync (s : State) (l : Nat) : State :=
  let c := s.tb.cfg
  let port := l + 2
  let seq := tabGet 0 s.tb.syncSeq port
  let log := ofInt 8 c.logSync
  let i := s.txStamp
  let s1 := { s with tb := { s.tb with syncSeq := tabPut s.tb.syncSeq port ((seq + 1) % 65536)
                                       ptpDue := tabPut s.tb.ptpDue (2 * port) (s.ns + intervalNs c.logSync) } }
  let e := s.ownTransport port
  (s1.ptpSend e port 0 seq (ptpMessage c.domain 0 true 0 port seq 0 log (zeros 10))).ptpSend e port 8 seq
    (ptpMessage c.domain 8 false (stampCorr i) port seq 2 log (stampBytes i))

/-- An Announce leaves a lane port. -/
def State.sendPtpAnnounce (s : State) (l : Nat) : State :=
  let c := s.tb.cfg
  let port := l + 2
  let seq := tabGet 0 s.tb.annSeq port
  let m := s.announced
  let body := zeros 10 ++ beBytes 2 (Config.utcOffset s.fresh).toNat ++ [0] ++ beBytes 1 m.priority1 ++ beBytes 1 m.cls ++
    beBytes 1 m.accuracy ++ beBytes 2 m.variance ++ beBytes 1 m.priority2 ++ beBytes 8 m.identity ++ beBytes 2 m.stepsRemoved ++
    beBytes 1 m.timeSource
  let s1 := { s with tb := { s.tb with annSeq := tabPut s.tb.annSeq port ((seq + 1) % 65536)
                                       ptpDue := tabPut s.tb.ptpDue (2 * port + 1) (s.ns + intervalNs c.logAnnounce) } }
  (s1.freshen).ptpSend (s.ownTransport port) port 0xB seq (ptpMessage c.domain 0xB false 0 port seq 5 (ofInt 8 c.logAnnounce) body)

/-- When a port's delay request is next due: the timing port's under 2, lane port p's under 512 + p. -/
def delayKey (port : Nat) : Nat := if port = 1 then 2 else 512 + port

/-- A port sends Delay_Req or Pdelay_Req (10 R364), its correctionField less the port's delayAsymmetry (R366). -/
def State.sendDelayReq (s : State) (port : Nat) : State :=
  let c := s.tb.cfg
  let seq := tabGet 0 s.tb.delaySeq port
  let typ := if c.profile = 1 then 2 else 1
  let body := if c.profile = 1 then zeros 20 else zeros 10
  let s1 := { s with tb := { s.tb with delaySeq := tabPut s.tb.delaySeq port ((seq + 1) % 65536)
                                       delayOpen := tabPut s.tb.delayOpen port (seq, s.txStamp)
                                       ptpDue := tabPut s.tb.ptpDue (delayKey port) (s.ns + intervalNs c.logMinDelay) } }
  s1.ptpSend (s.ownTransport port) port typ seq
    (ptpMessage c.domain typ false (ofInt 64 (-(s.asymmetryOf port))) port seq (if c.profile = 1 then 5 else 1) 0x7F body)

end Sys2Proof.Machine
end

