-- ==== Sys2Proof/Machine/Assembly.lean ====
section
/-!
DEFINITION. Frame assembly: classification, unpacking, lines and frames with their checks and policies, chunking, timeouts and
truncation (05 R183, R184, R193 to R219).
-/

namespace Sys2Proof.Machine

/-! ### Counters and records (05 R209, R217 to R219) -/

/-- A record of sconce k. -/
def State.asmRecord (s : State) (k cls typ data : Nat) : State := s.report (s.sconce k).owner cls typ (islandSlice k) k data

/-- Counter `code` of sconce k rises by n; 0x01 to 0x0A write ASSEMBLY_ERRORS at most once in 100 ms (05 R218). -/
def State.asmCount (s : State) (k code n : Nat) : State :=
  if n = 0 then s
  else
    let x := s.sconce k
    let v := satAdd 32 (tabGet 0 x.counters code) n
    let s1 := s.setSconce k { x with counters := tabPut x.counters code v }
    let old := tabFind x.reports code
    let base := match old with | some r => r.1 | none => 0
    let open_ : Bool := match old with | some r => r.2 + 100000000 ≤ s.ns | none => true
    if code ≤ 0x0A && open_ then
      (s1.modSconce k (fun y => { y with reports := tabPut y.reports code (v, s.ns) })).asmRecord k 2 0x0203
        (code + (v - base) % 2 ^ 32 * 2 ^ 32)
    else s1

/-- A record of which at most one is written in 100 ms, with the count since the one before it. -/
def State.asmLimited (s : State) (k typ : Nat) (data : Nat → Nat) : State :=
  let x := s.sconce k
  let last := tabFind x.limits typ
  let sum := (match last with | some r => r.2 | none => 0) + 1
  let open_ : Bool := match last with | some r => r.1 + 100000000 ≤ s.ns | none => true
  if open_ then (s.setSconce k { x with limits := tabPut x.limits typ (s.ns, 0) }).asmRecord k 2 typ (data sum)
  else s.setSconce k { x with limits := tabPut x.limits typ ((match last with | some r => r.1 | none => 0), sum) }

/-! ### Assembly parameters (05 R210, R211) -/

/-- POL_SHORT_LINE of an assembly block. -/
def abCutShort (b : List Byte) : Bool := lbits b 7 1 0 1 = 1
/-- POL_LONG_LINE of an assembly block. -/
def abCutLong (b : List Byte) : Bool := lbits b 7 1 1 1 = 1
/-- POL_SHORT_FRAME of an assembly block. -/
def abCutFrame (b : List Byte) : Bool := lbits b 7 1 2 1 = 1
/-- CHUNK_ENC of an assembly block. -/
def abEnc (b : List Byte) : Nat := lbits b 0xE 1 0 4
/-- ORIGIN of an assembly block: DT64, or a count in the low 32 bits. -/
def abOrigin (b : List Byte) : Nat := lfld b 0x14 8
/-- LINE_TIMEOUT in ns. -/
def abLineTimeout (b : List Byte) : Nat := 100 * lfld b 0xA 2
/-- FRAME_TIMEOUT in ns. -/
def abFrameTimeout (b : List Byte) : Nat := 100000 * lfld b 0xC 2

/-- PAD_VALUE modulo 2^PIXEL_DEPTH (05 R202). -/
def Frame.padValue (f : Frame) : Nat := lfld (f.grp 1) 8 2 % 2 ^ f.depth

/-- The assembly parameters that judge a packet: the open frame's, or between frames those in force (05 R211). -/
def Sconce.asm (x : Sconce) : List Byte :=
  match x.openFrame with
  | some f => f.grp 1
  | none => tabGet (zeros 32) x.par 1

/-- Change the open frame of sconce k. -/
def State.modOpen (s : State) (k : Nat) (g : Frame → Frame) : State :=
  s.modSconce k (fun x => { x with frames := x.frames.map (fun f => if f.closed then f else g f) })

/-- Set flag bits of the open frame of sconce k. -/
def State.flagOpen (s : State) (k bits : Nat) : State := s.modOpen k (fun f => { f with flags := f.flags ||| bits })

/-- Frame flag PADDED or CUT (03 R121). -/
def padOrCut (cut : Bool) : Nat := if cut then 2 else 1
/-- Frame flag SHORT_LINE. -/
def flShortLine : Nat := 2 ^ 2
/-- Frame flag LONG_LINE. -/
def flLongLine : Nat := 2 ^ 3
/-- Frame flag SHORT_FRAME. -/
def flShortFrame : Nat := 2 ^ 4
/-- Frame flag LONG_FRAME. -/
def flLongFrame : Nat := 2 ^ 5
/-- Frame flag MISSING_END. -/
def flMissingEnd : Nat := 2 ^ 6
/-- Frame flag LATE_LINE. -/
def flLateLine : Nat := 2 ^ 7
/-- Frame flag TRUNCATED. -/
def flTruncated : Nat := 2 ^ 8

/-! ### Chunk boundaries (05 R207 to R209) -/

/-- The value of a line start that POSITION or TIME tests: a count, or DT64; none without a valid position. -/
def chunkValue (g : List Byte) (stamp : Nat) (pos : List Pos) : Option Nat :=
  match abFrameMode g with
  | 2 => (posOf pos (some (abEnc g))).map (·.count)
  | 3 => some stamp
  | _ => none

/-- The position that a POSITION test of a line start takes was taken in ACQUIRING or LOST (11 R404). -/
def chunkOutOfLock (g : List Byte) (pos : List Pos) : Bool :=
  abFrameMode g = 2 && (match posOf pos (some (abEnc g)) with | some p => p.unpredicted | none => false)

/-- The first boundary beyond a value, in the direction of STEP (05 R207). -/
def firstBoundary (g : List Byte) (v : Nat) : Nat :=
  if abFrameMode g = 2 then
    let step := toInt 32 (abStep g)
    let origin : Int := (abOrigin g % 2 ^ 32 : Nat)
    let d := toInt 32 (ofInt 32 (if 0 < step then (v : Int) - origin else origin - v))
    ofInt 32 (origin + (d / (step.natAbs : Int) + 1) * step)
  else
    let origin : Int := (abOrigin g : Nat)
    let d := toInt 64 (ofInt 64 ((v : Int) - origin))
    ofInt 64 (origin + (d / (abStep g : Int) + 1) * (abStep g : Int))

/-- A value has reached boundary b (05 R207). -/
def reachedBoundary (g : List Byte) (v b : Nat) : Bool :=
  if abFrameMode g = 2 then
    if 0 < toInt 32 (abStep g) then 0 ≤ toInt 32 (ofInt 32 ((v : Int) - b)) else 0 ≤ toInt 32 (ofInt 32 ((b : Int) - v))
  else 0 ≤ toInt 64 (ofInt 64 ((v : Int) - b))

/-! ### A frame opens (05 R206, R211, R212, R214) -/

/-- The table keys that a group's tables replace: 3 column, 4 defect map, 5 shading, 0x11 colour, 0x12 tone. -/
def groupKeys (group : Nat) : List Nat := if group = 0x11 then [0x11, 0x12] else if 3 ≤ group && group ≤ 5 then [group] else []

/-- One pending set takes effect. -/
def Sconce.applySet (x : Sconce) (p : PendingSet) : Sconce :=
  let ids := (groupKeys p.group).foldl (fun t k => match tabFind p.ids k with | some v => tabPut t k v | none => tabDel t k) x.ids
  { x with par := tabPut x.par p.group p.data, ids := ids }

/-- The pending sets that frame n with boundary b takes, those of later c last (05 R212, R214). -/
def Sconce.dueSets (x : Sconce) (b n : Nat) : List PendingSet :=
  x.sets.filter (fun p => p.c < b && (match p.at_ with | some q => q ≤ n | none => true))

/-- A frame of sconce k opens with boundary b; vc and sensor are those of the packet that opens it (05 R206, R211). -/
def State.openFrame (s : State) (k vc sensor cam b : Nat) : State :=
  let x0 := s.sconce k
  let n := x0.next
  let due := x0.dueSets b n
  let left := x0.sets.filter (fun p => !due.contains p)
  let x := due.foldl Sconce.applySet { x0 with sets := left }
  let groups := (due.map (·.group)).foldl (fun (t : Tab Nat) g => tabPut t g g) []
  let s0 := due.foldl (fun t p => t.journalApply 0 k p.group p.commitSeq n b) (s.setSconce k x)
  let s1 := groups.foldl (fun t g => t.asmRecord k 3 0x0201 (g.1 + n % 2 ^ 56 * 256)) s0
  let pos := s.allPos (256 * b)
  let g := tabGet (zeros 32) x.par 1
  let bound := match x.boundary with
    | some v => some v
    | none => (chunkValue g b pos).map (firstBoundary g)
  let images := x.ids.filterMap (fun q => (s.table q.2).map (fun t => (q.1, t.image)))
  let f : Frame :=
    { number := n, b := b, cam := cam, vc := vc, sensor := sensor, dt := none, tExp := x.exposure, tEnd := b, closed := false
      par := x.par, images := images, depth := s.depthOf k, lines := [], flags := 0, malformed := 0, trig := none, pos := pos
      mv := [], taps := [], returned := [], tapDone := [], corrected := false, boundary := bound, noPosition := false
      unpredicted := chunkOutOfLock g pos
      lastStamp := b, lineEnd := b, recorded := false, patrol := false, holdover := s.holdoverFlag }
  let y := { x with frames := x.frames ++ [f], exposure := none, boundary := none, line := none, late := false
                    expected := if abFrameMode g = 0 then some 0 else x.expected }
  ((s1.setSconce k y).freeTables).openHook k n b (groups.any (fun q => q.1 == 1))

/-! ### A frame closes (05 R187, R200, R209) -/

/-- T_FRAME_END of a chunk that a line closes (05 R200). -/
def Frame.chunkEnd (f : Frame) : Nat := if abLineMode (f.grp 1) = 0 then f.lineEnd else f.lastStamp

/-- The open frame of sconce k is closed; `keep` keeps its boundary for the next frame (05 R208). -/
def State.shutFrame (s : State) (k tEnd : Nat) (keep : Bool) : State :=
  let x := s.sconce k
  match x.openFrame with
  | none => s
  | some f =>
    let y := { x with frames := x.frames.map (fun q => if q.closed then q else { q with closed := true, tEnd := tEnd })
                      next := (x.next + 1) % 2 ^ 64, line := none, late := false
                      boundary := if keep then f.boundary else none }
    let s1 := (s.setSconce k y).asmCount k 0x0B 1
    let s2 := if f.noPosition then
        (s1.asmCount k 0x0D 1).asmLimited k 0x0205 (fun n => f.number % 2 ^ 32 + n % 2 ^ 32 * 2 ^ 32)
      else s1
    s2.closeHook k f.number

/-- A line joins the open frame of sconce k: discarded beyond HEIGHT of a MARKED frame, closing a chunk at HEIGHT
(05 R201, R202, R207, R208). `damaged` counts it in MALFORMED_LINES. -/
def State.addLine (s : State) (k : Nat) (l : Line) (damaged : Bool) (bits endStamp : Nat) : State :=
  match (s.sconce k).openFrame with
  | none => s
  | some f =>
    let g := f.grp 1
    if abFrameMode g = 0 && abHeight g ≤ f.lines.length then s.flagOpen k (flLongFrame ||| 2)
    else
      let v := chunkValue g l.stamp l.pos
      let f1 := { f with lines := f.lines ++ [l], unpredicted := f.unpredicted || chunkOutOfLock g l.pos, flags := f.flags ||| bits
                         malformed := if damaged then min (f.malformed + 1) (2 ^ 24 - 1) else f.malformed
                         noPosition := f.noPosition || (abFrameMode g = 2 && v.isNone)
                         boundary := match f.boundary with | some b => some b | none => v.map (firstBoundary g)
                         lineEnd := endStamp }
      let s1 := s.modOpen k (fun _ => f1)
      if abFrameMode g != 0 && abHeight g ≤ f1.lines.length then
        let s2 := if abFrameMode g = 1 then s1 else s1.flagOpen k flLongFrame
        s2.shutFrame k f1.chunkEnd (abFrameMode g != 1)
      else s1

/-- A line of pad values. -/
def Frame.padLine (f : Frame) (num : Option Nat) (stamp : Nat) (pos : List Pos) (bits : Nat) : Line :=
  { num := num, stamp := stamp, flags := bits, padFrom := 0, pix := List.replicate f.width f.padValue, pos := pos }

/-- A missing line with this number under the short-line policy (05 R201, R202, R217). Line tag bits: PADDED 0, SHORT 2. A link drop
(`trunc`) sets neither SHORT nor SHORT_LINE (05 R204). -/
def State.missingLine (s : State) (k : Nat) (num : Option Nat) (stamp : Nat) (trunc : Bool) : State :=
  let short := if trunc then 0 else flShortLine
  match (s.sconce k).openFrame with
  | none => s
  | some f =>
    if abCutShort (f.grp 1) then s.flagOpen k (short ||| 2)
    else s.addLine k (f.padLine num stamp (s.allPos (256 * stamp)) (if trunc then 1 else 5)) true (short ||| 1) stamp

/-- d missing lines from number m on, revealed by a packet with this stamp: they fill frame after frame (05 R201). -/
def State.missingLines (s : State) (k vc sensor stamp : Nat) : Nat → Nat → State
  | 0, _ => s
  | d + 1, m =>
    let s1 := if (s.sconce k).openFrame.isSome then s else s.openFrame k vc sensor 0 stamp
    (s1.missingLine k (some (m % 65536)) stamp false).missingLines k vc sensor stamp d (m + 1)

/-! ### A line closes (05 R202, R204, R217) -/

/-- How long the slice takes a line of so many pixels, in 1/7 ns: 16 pixels a clock of 1.4 GHz, and at least 16 clocks (05 R216, 06
R239). -/
def lineTime (pixels : Nat) : Nat := 5 * max 16 (cdiv pixels 16)

/-- A completed line of so many pixels is written into the share of sconce k, at its close stamp; the flag says that it finds the share
full (05 R215, R217). The share is 4 × WIDTH × 2 bytes. The slice takes the lines of its sconces in the order of their close stamps, each
once the line before it has passed (DEDUCED, entry 94). -/
def State.storeLine (s : State) (k stamp pixels : Nat) : State × Bool :=
  let x := s.sconce k
  let held := x.store.filter (fun q => 7 * stamp < q.2)
  if 8 * s.widthOf k < held.foldl (fun n q => n + q.1) (2 * pixels) then (s.setSconce k { x with store := held }, true)
  else
    let fin := max (7 * stamp) (tabGet 0 s.sliceBusy (k / 8)) + lineTime pixels
    ({ s.setSconce k { x with store := held ++ [(2 * pixels, fin)] } with sliceBusy := tabPut s.sliceBusy (k / 8) fin }, false)

/-- The open line of sconce k closes at a stamp. `trunc`: a link drop closes it. -/
def State.closeLine (s : State) (k stamp : Nat) (trunc : Bool) : State :=
  let x := s.sconce k
  match x.line, x.openFrame with
  | some o, some f =>
    let s1 := s.setSconce k { x with line := none }
    let g := f.grp 1
    let w := f.width
    let n := o.pix.length
    let mk := fun (bits from_ : Nat) (px : List Nat) =>
      ({ num := if abLineMode g = 0 then some o.number else none, stamp := o.stamp, flags := bits, padFrom := from_, pix := px, pos := o.pos } : Line)
    if abFrameMode g = 0 && abHeight g ≤ f.lines.length then s1.flagOpen k (flLongFrame ||| 2)
    else if n < w && abCutShort g then
        let short := if trunc then 0 else flShortLine
        (s1.modOpen k (fun q => { q with malformed := min (q.malformed + 1) (2 ^ 24 - 1) })).flagOpen k (short ||| 2)
    else
      let r := s1.storeLine k stamp w
      let s2 := r.1
      if r.2 then
        ((s2.asmCount k 0x0A 1).asmLimited k 0x0204 id).missingLine k (if abLineMode g = 0 then some o.number else none) stamp trunc
      else if n < w then
        s2.addLine k (mk (if trunc then 1 else 5) n (o.pix ++ List.replicate (w - n) f.padValue)) true ((if trunc then 0 else flShortLine) ||| 1) stamp
      else if w < n then
        if abCutLong g then s2.addLine k (mk (2 ||| 8) w (o.pix.take w)) true (flLongLine ||| 2) stamp
        else s2.addLine k (mk (1 ||| 8) 0 (List.replicate w f.padValue)) true (flLongLine ||| 1) stamp
      else s2.addLine k (mk 0 w o.pix) false 0 stamp
  | _, _ => s

/-- The open frame of sconce k closes at an instant with its line and its length checked (05 R202, R203). -/
def State.closeFrame (s : State) (k tEnd : Nat) (missing : Bool) : State :=
  match (s.sconce k).openFrame with
  | none => s
  | some f0 =>
    let s1 := (if missing then s.flagOpen k flMissingEnd else s).closeLine k tEnd false
    match (s1.sconce k).openFrame with
    | none => s1
    | some f =>
      let g := f.grp 1
      let n := f.lines.length
      if f.number != f0.number then s1
      else if abFrameMode g = 0 && n < abHeight g then
        if abCutFrame g then (s1.flagOpen k (flShortFrame ||| 2)).shutFrame k tEnd false
        else
          let pad := f.padLine none tEnd (s1.allPos (256 * tEnd)) 1
          ((s1.modOpen k (fun q => { q with
            lines := q.lines ++ List.replicate (abHeight g - n) pad, malformed := min (q.malformed + (abHeight g - n)) (2 ^ 24 - 1)
            flags := q.flags ||| flShortFrame ||| 1 })).shutFrame k tEnd false)
      else s1.shutFrame k tEnd false

/-- FRAME_CLOSE of the open frame of sconce k at an instant: 1 line timeout, 2 frame timeout, 3 link drop (16 R546). -/
def State.journalClose (s : State) (why k at_ : Nat) : State :=
  match (s.sconce k).openFrame with
  | none => s
  | some f => s.journal why 0x06 (islandSlice k) at_ (leBytes 2 k ++ zeros 2 ++ leBytes 3 f.lines.length ++ [0] ++ leBytes 8 f.number)

/-- A link drop completes the open frame of sconce k (05 R204). -/
def State.truncate (s : State) (k at_ : Nat) : State :=
  match (s.sconce k).openFrame with
  | none => s
  | some f0 =>
    let s1 := ((s.journalClose 3 k at_).flagOpen k flTruncated).closeLine k at_ true
    let s2 := match (s1.sconce k).openFrame with
      | none => s1
      | some f =>
        let g := f.grp 1
        let n := f.lines.length
        if f.number = f0.number && abFrameMode g ≤ 1 && n < abHeight g then
          if abCutFrame g then (s1.flagOpen k 2).shutFrame k at_ false
          else
            let pad := f.padLine none at_ (s1.allPos (256 * at_)) 1
            (s1.modOpen k (fun q => { q with
              lines := q.lines ++ List.replicate (abHeight g - n) pad, malformed := min (q.malformed + (abHeight g - n)) (2 ^ 24 - 1)
              flags := q.flags ||| 1 })).shutFrame k at_ false
        else s1.shutFrame k at_ false
    s2.modSconce k (fun x => { x with expected := none, boundary := none })

/-- The frames in progress of a lane's sconces are completed at a drop (04 R174, R175). -/
def State.truncateLane (s : State) (l : Nat) : State :=
  (tabKeys s.sconces (fun x => x.configured && x.lane == l)).foldl (fun t k => (t.truncate k t.dt).sconceMoves k) s

/-! ### Line starts (05 R199, R201, R207) -/

/-- A line of sconce k starts: a chunk that it passes closes, and a frame opens when none is open. -/
def State.startLine (s : State) (k vc sensor stamp : Nat) : State :=
  match (s.sconce k).openFrame with
  | none => s.openFrame k vc sensor 0 stamp
  | some f =>
    let g := f.grp 1
    let pos := s.allPos (256 * stamp)
    let s1 := if chunkOutOfLock g pos then s.modOpen k (fun q => { q with unpredicted := true }) else s
    match chunkValue g stamp pos, f.boundary with
    | some v, some b =>
      if reachedBoundary g v b then (s1.shutFrame k f.chunkEnd false).openFrame k vc sensor 0 stamp else s1
    | some v, none => s1.modOpen k (fun q => { q with boundary := some (firstBoundary g v) })
    | none, _ => s1

/-- A line begins to form in the open frame. -/
def State.beginLine (s : State) (k stamp num : Nat) : State :=
  s.modSconce k (fun x => { x with line := some { stamp := stamp, number := num, pix := [], pos := s.allPos (256 * stamp), lastStamp := stamp } })

/-! ### Markers (05 R201, R202, R205, R206) -/

/-- FRAME_START with a camera frame number. -/
def State.frameStart (s : State) (k vc sensor cam stamp : Nat) : State :=
  if abFrameMode (s.sconce k).asm != 0 then s.asmCount k 6 1
  else
    let s1 := s.closeFrame k stamp true
    let x := s1.sconce k
    let s2 := match x.cam with
      | none => s1
      | some c =>
        let d := (cam + 65536 - c % 65536) % 65536
        if d = 1 then s1
        else if 2 ≤ d && d ≤ 32768 then
          (s1.asmCount k 8 (d - 1)).asmRecord k 2 0x0202 ((d - 1) + x.next % 2 ^ 48 * 2 ^ 16)
        else s1.asmCount k 8 1
    (s2.modSconce k (fun y => { y with cam := some cam })).openFrame k vc sensor cam stamp

/-- FRAME_END with a camera frame number. -/
def State.frameEnd (s : State) (k cam stamp : Nat) : State :=
  let x := s.sconce k
  if abFrameMode x.asm != 0 then s.asmCount k 6 1
  else match x.openFrame with
    | none => s.asmCount k 5 1
    | some f => s.closeFrame k stamp (f.cam != cam || (x.line.isSome && abLineMode (f.grp 1) = 0))

/-- A late line: LATE_LINES, the frame's flag, and LATE on the delivered line with its number (05 R202). -/
def State.lateLine (s : State) (k m : Nat) : State :=
  let mark := fun (l : Line) => if l.num = some m then { l with flags := l.flags ||| 16 } else l
  ((s.asmCount k 7 1).modOpen k (fun f => { f with flags := f.flags ||| flLateLine, lines := f.lines.map mark })).modSconce k
    (fun x => { x with late := true })

/-- LINE_START with line number m. A frame that it opens under another LINE_MODE forms its lines under that one (05 R211). -/
def State.lineStart (s : State) (k vc sensor m stamp : Nat) : State :=
  if abLineMode (s.sconce k).asm != 0 then s.asmCount k 6 1
  else
    let s0 := s.modSconce k (fun x => { x with late := false })
    let s1 := if (s0.sconce k).line.isSome then (s0.flagOpen k flMissingEnd).closeLine k stamp false else s0
    let x := s1.sconce k
    if x.openFrame.isNone && abFrameMode x.asm = 0 then s1.asmCount k 5 1
    else
      let e := x.expected.getD m
      let d := (m + 65536 - e % 65536) % 65536
      if 32768 ≤ d then s1.lateLine k m
      else
        let cut := abCutShort x.asm
        let s2 := if d = 0 then s1
          else if cut && x.openFrame.isSome then s1.missingLine k none stamp false
          else if cut then s1
          else s1.missingLines k vc sensor stamp d e
        let s3 := s2.startLine k vc sensor stamp
        let s4 := if 0 < d && cut && x.openFrame.isNone then s3.flagOpen k (flShortLine ||| 2) else s3
        let s5 := (s4.modSconce k (fun y => { y with expected := some ((m + 1) % 65536) })).modOpen k (fun f => { f with lastStamp := stamp })
        if abLineMode (s5.sconce k).asm = 0 then s5.beginLine k stamp m else s5

/-- LINE_END. -/
def State.lineEnd (s : State) (k stamp : Nat) : State :=
  let x := s.sconce k
  if abLineMode x.asm != 0 then s.asmCount k 6 1
  else if x.late then s.modSconce k (fun y => { y with late := false })
  else if x.openFrame.isNone && abFrameMode x.asm = 0 then s.asmCount k 5 1
  else if x.line.isNone then s.asmCount k 4 1
  else (s.modOpen k (fun f => { f with lastStamp := stamp })).closeLine k stamp false

/-- EXPOSURE_REPORT (05 R206). -/
def State.exposureReport (s : State) (k v : Nat) : State :=
  let x := s.sconce k
  match x.openFrame with
  | some f => if f.tExp.isSome then s.asmCount k 9 1 else s.modOpen k (fun q => { q with tExp := some v })
  | none => if x.exposure.isSome then s.asmCount k 9 1 else s.setSconce k { x with exposure := some v }

/-! ### Pixels (05 R196 to R199) -/

/-- Pixels and bytes of a group, and the width of a field, of an entry's unpack rule (05 R196, R197). -/
def unpackShape (e : List Byte) : Nat × Nat × Nat :=
  match lbits e 8 1 0 5 with
  | 1 => (1, 1, 8) | 2 => (4, 5, 10) | 3 => (2, 3, 12) | 4 => (4, 7, 14) | 5 => (1, 2, 16) | 6 => (1, 2, 16)
  | _ => (lfld e 0xC 1, lfld e 0xB 1, lfld e 0xD 1)

/-- The pixels of one group (05 R197). -/
def unpackGroup (e : List Byte) (b : List Byte) : List Nat :=
  let sh := unpackShape e
  let rule := lbits e 8 1 0 5
  let depth := feDepth e
  let msb := 6 ≤ rule && lbits e 0xA 1 0 1 = 1
  let big := rule = 7 && lbits e 0xA 1 1 1 = 1
  let d := sh.2.2
  (List.range sh.1).map (fun j =>
    let v := if big then nbits (beVal b) (8 * sh.2.1 - d * (j + 1)) d else nbits (leVal b) (d * j) d
    if msb then v / 2 ^ (d - depth) else v % 2 ^ depth)

/-- The pixels of a payload, and whether it ends in part of a group (05 R198). -/
def unpackPixels (e : List Byte) (payload : List Byte) : List Nat × Bool :=
  let gb := (unpackShape e).2.1
  if gb = 0 then ([], false)
  else
    let n := payload.length / gb
    (((List.range n).map (fun i => unpackGroup e ((payload.drop (i * gb)).take gb))).flatten, payload.length % gb != 0)

/-- Pixels join the open line of sconce k; the first pixel packet of a frame gives its DT (05 R206). -/
def State.takePixels (s : State) (k dt stamp : Nat) (px : List Nat) : State :=
  (s.modOpen k (fun f => { f with lastStamp := stamp, dt := match f.dt with | some d => some d | none => some dt })).modSconce k
    (fun x => match x.line, x.openFrame with
      | some o, some f => { x with line := some { o with pix := (o.pix ++ px).take (f.width + 1), lastStamp := stamp } }
      | _, _ => x)

/-- The open line, or the one that a pixel packet starts: a chunk that it passes closes, a frame opens, and under MARKED lines of that
frame no line begins (05 R199, R211). -/
def State.lineFor (s : State) (k vc sensor stamp : Nat) : State :=
  if (s.sconce k).line.isSome then s
  else
    let s1 := s.startLine k vc sensor stamp
    if abLineMode (s1.sconce k).asm = 0 then s1 else s1.beginLine k stamp 0

/-- IMPLICIT lines: pixels fill lines of WIDTH (05 R199). A frame that opens on the way forms the rest under its own LINE_MODE (05 R211).
The first number bounds the lines. -/
def State.implicitLines (s : State) (k vc sensor dt stamp : Nat) : Nat → List Nat → State
  | 0, _ => s
  | _, [] => s
  | n + 1, px =>
    let s1 := s.lineFor k vc sensor stamp
    let x := s1.sconce k
    match x.openFrame, x.line with
    | some f, some o =>
      if abLineMode x.asm = 2 then (s1.takePixels k dt stamp px).closeLine k stamp false else
      let room := f.width - o.pix.length
      let s2 := s1.takePixels k dt stamp (px.take room)
      let s3 := if room ≤ px.length then s2.closeLine k stamp false else s2
      s3.implicitLines k vc sensor dt stamp n (px.drop room)
    | _, _ => s1.asmCount k 4 1

/-- A pixel packet routed to sconce k by entry e. GVSP payload belongs to no line but under IMPLICIT (05 R195). -/
def State.pixelPacket (s : State) (k : Nat) (e : List Byte) (vc sensor dt stamp : Nat) (payload : List Byte) : State :=
  let x := s.sconce k
  let g := x.asm
  if x.openFrame.isNone && abFrameMode g = 0 then s.asmCount k 5 1
  else if abLineMode g = 0 && x.late then s
  else if (abLineMode g = 0 && x.line.isNone) || (abLineMode g != 1 && (s.lane x.lane).mode == .ethernet) then s.asmCount k 4 1
  else
    let u := unpackPixels e payload
    let s1 := if u.2 then s.asmCount k 3 1 else s
    match abLineMode g with
    | 0 => s1.takePixels k dt stamp u.1
    | 1 => s1.implicitLines k vc sensor dt stamp u.1.length u.1
    | _ =>
      let s2 := s1.lineFor k vc sensor stamp
      match abLineMode (s2.sconce k).asm with
      | 0 => s2.asmCount k 4 1
      | 1 => s2.implicitLines k vc sensor dt stamp u.1.length u.1
      | _ => (s2.takePixels k dt stamp u.1).closeLine k stamp false

/-! ### Classification (05 R183, R184, R193) -/

/-- A packet that a lane's wick hands to the format table. Its stamp is the present device time (04 R147). -/
structure AsmPkt where
  sensor : Nat
  vc : Nat
  dt : Nat
  wc : Nat
  payload : List Byte
  stamp : Nat
  deriving DecidableEq, Repr

/-- The packet at one receiver. -/
def State.routeTo (s : State) (k : Nat) (e : List Byte) (q : AsmPkt) : State :=
  let s1 := match feRole e with
    | 1 => s.frameStart k q.vc q.sensor q.wc q.stamp
    | 2 => s.frameEnd k q.wc q.stamp
    | 3 => s.lineStart k q.vc q.sensor q.wc q.stamp
    | 4 => s.lineEnd k q.stamp
    | 5 => s.pixelPacket k e q.vc q.sensor q.dt q.stamp q.payload
    | 6 => s.exposureReport k (lfld q.payload 0 8)
    | _ => s
  let short := q.dt ≤ 3
  (s1.captureItem k 1 q.dt q.vc q.sensor q.wc q.stamp (if short then [] else q.payload)).sconceMoves k

/-- Frames are assembled in every mode in which the lanes hand packets on (17 R574): not in Keep, Dark or Replay. -/
def State.assembles (s : State) : Bool := s.mode != .keep && s.mode != .dark && s.mode != .replay

/-- Classify a packet of lane l and route it (05 R184, R193). A sconce without a physical slice delivers no frame (15 R514). -/
def State.classify (s : State) (l : Nat) (q : AsmPkt) : State :=
  if !s.assembles then s
  else match s.classifierOf l with
    | none => s
    | some c =>
      match (s.entriesOf l).find? (fun e => feMatches e q.sensor q.vc q.dt) with
      | none => s.asmCount c 1 1
      | some e =>
        if feRole e = 0 then s
        else
          let dest := feSconce e :: (match feSconce2 e with | some k => [k] | none => [])
          dest.foldl (fun t k =>
            let x := t.sconce k
            if !(x.configured && x.lane == l) then t.asmCount c 2 1
            else if t.unitLost poolSlices (k / 8) || t.selfTested k then t
            else t.routeTo k e q) s

/-! ### Timeouts (05 R203) -/

/-- LINE_TIMEOUT: no packet has reached the open line in time. -/
def State.lineTimeout (s : State) (k : Nat) : State :=
  let x := s.sconce k
  match x.line with
  | some o =>
    let w := abLineTimeout x.asm
    if w != 0 && o.lastStamp + w ≤ s.dt then (((s.journalClose 1 k (o.lastStamp + w)).flagOpen k flMissingEnd).closeLine k (o.lastStamp + w) false).sconceMoves k
    else s
  | none => s

/-- FRAME_TIMEOUT: no packet has reached the open frame in time. -/
def State.frameTimeout (s : State) (k : Nat) : State :=
  match (s.sconce k).openFrame with
  | some f =>
    let w := abFrameTimeout (f.grp 1)
    if w != 0 && f.lastStamp + w ≤ s.dt then ((s.journalClose 2 k (f.lastStamp + w)).closeFrame k (f.lastStamp + w) true).sconceMoves k
    else s
  | none => s

end Sys2Proof.Machine
end

