-- ==== Sys2Proof/Machine/Images.lean ====
section
/-!
DEFINITION. Images that commands read from host memory: their checks in the order of 05 R675, and the wait for the transfer.
-/

namespace Sys2Proof.Machine

/-- A reserved bit field of an image: bits [lo+k-1:lo] of the n bytes at off. -/
def irsv (l : List Byte) (off n lo k : Nat) : Chk := (off, 0, lbits l off n lo k != 0)

/-- Reserved bytes [a, b) of an image, each at fault at its own offset. -/
def irsvBytes (l : List Byte) (a b : Nat) : List Chk :=
  (List.range (b - a)).map (fun k => (a + k, 0, lfld l (a + k) 1 != 0))

/-- The status of a failing layout of an image: DETAIL [31] is 1 (03 R106). -/
def imageLayout (l : List Chk) : Option Status :=
  (firstChk l).map (fun c => if c.2.1 = 0 then ⟨2, 2 ^ 31 + c.1⟩ else ⟨3, 2 ^ 31 + c.1⟩)

/-- BAD_IMAGE at the lowest offset at fault. -/
def imageFaults (l : List (Nat × Bool)) : Option Status :=
  match (l.filter (·.2)).map (·.1) with
  | [] => none
  | o :: t => some (Status.image (minD o (o :: t)))

/-- TRANSFER_FAULT at an offset of the image. -/
def Status.transfer (off : Nat) : Status := ⟨0xC, 2 ^ 31 + off⟩

/-- A failed read below an offset ends the checks there; one beyond it does not. -/
def readFault (d : HostData) (below : Nat) : Option Status :=
  match d.failed with
  | some o => if o < below then some (Status.transfer o) else none
  | none => none

/-- CRC-32C of an image with its IMAGE_CRC field zero (05 R188). -/
def imageCrc (l : List Byte) : Nat := crc32c (l.take 8 ++ zeros 4 ++ l.drop 12)

/-- IMAGE_CRC fails (05 R675 step 5). -/
def crcStatus (l : List Byte) : Option Status := if imageCrc l = lfld l 8 4 then none else some (Status.image 8)

/-- The steps 4 to 6 of 05 R675: header layout, other header checks, CRC, body layout, counts, implied length, the rest. -/
structure ImageChecks where
  head : List Chk
  headFaults : List (Nat × Bool)
  body : List Chk
  counts : List (Nat × Bool)
  implied : Nat
  rest : Option Status

/-- The first failing check of an image of which headLen bytes are its header. -/
def ImageChecks.first (k : ImageChecks) (d : HostData) (l : List Byte) (headLen len : Nat) : Option Status :=
  firstSome [readFault d headLen, imageLayout k.head, imageFaults ((4, lfld l 4 4 != len) :: k.headFaults),
    readFault d len, crcStatus l, imageLayout k.body, imageFaults k.counts,
    if k.implied = len then none else some (Status.image 4), k.rest]

/-- The image of a command as read: LENGTH bytes. -/
def imageBytes (d : HostData) (len : Nat) : List Byte := fitTo len d.bytes

/-- A command waits until an auxiliary mover has read its image (14 R479). -/
def State.queueImage (s : State) (c : RingCmd) : State × Done :=
  ((s.freshen).auxAdd (.image (s.loadCmd c) c.data), .waits s.fresh)

end Sys2Proof.Machine
end

