-- ==== Sys2Proof/Machine/LedgerOps.lean ====
section
/-!
DEFINITION. The admission ledger (14 R489 to R493; 03 R108; 05 R216; 07 R277; 08 R300; 16 R561, R566). Demands and limits are exact
fractions: pixels, bytes or clocks each second. A command is tested on the state as it would stand after it.
-/

namespace Sys2Proof.Machine

/-! ### Terms of sconces and streams -/

/-- R_line of a sconce, 0 while it is not configured. -/
def State.rLine (s : State) (k : Nat) : Rat := if (s.sconce k).configured then s.lineRate k else 0

/-- F_max of a sconce, 0 while it is not configured. -/
def State.fMax (s : State) (k : Nat) : Rat := if (s.sconce k).configured then s.frameRate k else 0

/-- The charged rate of a sconce, 0 while it is not configured (05 R216). -/
def State.charge (s : State) (k : Nat) : Rat := if (s.sconce k).configured then s.chargedRate k else 0

/-- Configured sconces, ascending. -/
def State.configured (s : State) : List Nat := tabKeys s.sconces (fun x => x.configured)

/-- A sum of fractions. -/
def sumR (l : List Rat) : Rat := l.foldl (· + ·) 0

/-- The stream holds a charge: it is not Free and has not been evicted (03 R126, 15 R513). -/
def Stream.charged (x : Stream) : Bool := x.st != .free && !x.uncharged

/-- Streams that hold a charge. -/
def State.chargedStreams (s : State) : List Stream := (s.streams.map (·.2)).filter Stream.charged

/-- L_b of a stream: bytes for each source line (14 R492). -/
def State.lineBytes (s : State) (x : Stream) : Rat :=
  let t := x.table
  let w := s.widthOf x.sconce
  let d := s.depthOf x.sconce
  let h := s.heightOf x.sconce
  if tCoding t then
    ((codedImage t w h).1 * (if tFormat t = 0x20 then 20 else 36) * 2 : Nat) / (max 1 (lfld t 0x26 2) : Nat) + (b2n x.lineTags * 16 : Nat)
  else
    let f := tBlock t
    sumR ((tRegions t).map (fun r => ((tStride t d (regionOut t w h r).1 * tPlaneCount t : Nat) : Rat) / (f : Nat))) +
      ((b2n x.lineTags * 16 : Nat) : Rat) / (f : Nat)

/-- M_b of a stream: fixed bytes of each frame (14 R492). -/
def State.frameBytes (s : State) (x : Stream) : Rat :=
  let t := x.table
  let stats : Rat := (b2n x.stats * 102464 : Nat)
  if tCoding t then 4096 + 16 * s.lineBytes x + stats
  else (255 * ((tRegions t).length * tPlaneCount t + 2) + (if 2 ≤ tRois t then 256 else 0) : Nat) + stats

/-- Egress demand of a stream in bytes each second (14 R492). -/
def State.egress (s : State) (x : Stream) : Rat :=
  s.lineBytes x * s.rLine x.sconce + (s.frameBytes x + 128) * s.fMax x.sconce

/-- Coded pixel rate of a stream, 0 outside the coding branch (07 R277). -/
def State.codedRate (s : State) (x : Stream) : Rat :=
  if tCoding x.table then
    let w := s.widthOf x.sconce
    let h := s.heightOf x.sconce
    let c := codedImage x.table w h
    s.charge x.sconce * (c.1 * c.2 : Nat) / (max 1 (w * h) : Nat)
  else 0

/-! ### Captures and replay (16 R561, R566) -/

/-- K of a capture of sconce k. -/
def State.captureK (s : State) (k : Nat) : Rat :=
  let b := cdiv (s.widthOf k * s.depthOf k) 8
  let n := cdiv b 65535
  (b + 32 * (2 * n + 3) : Nat) * s.rLine k + 256 * s.fMax k + (800000000 * (s.captureChannels k).length : Nat)

/-- Captures that hold a charge, with their sconces: those that have not ended. -/
def State.captures (s : State) : List (Nat × Capture) := s.recorder.caps.filter (fun c => c.2.st != 2)

/-- Inbound demand of port p: a session's captures and its journal (16 R566). -/
def State.inbound (s : State) (p : Nat) : Rat :=
  if s.session.port = p && (s.session.st == .loading || s.session.st == .running || s.session.st == .paused || s.session.st == .starved) then
    (sumR (s.session.caps.map (fun c => s.captureK c.target)) + 200000000) / (max 1 s.session.speed : Nat)
  else 0

/-! ### Resources (14 R491, R493) -/

/-- 0.95 × C of a port. -/
def State.portLimit (s : State) (p : Nat) : Rat := ((s.port p).capacity : Rat) * 95 / 100

/-- Egress demand of port p: its streams, its failover reservations, its host captures (02 R78, 16 R561). -/
def State.portDemand (s : State) (p : Nat) : Rat :=
  sumR (s.chargedStreams.map (fun x =>
    (if x.dRing / 1024 = p then s.egress x else 0) +
    (match x.partner with | some q => if q.1 / 1024 = p then s.egress x else 0 | none => 0))) +
  sumR ((s.captures.filter (fun c => c.2.toHost && c.2.port == p)).map (fun c => s.captureK c.1))

/-- The port carries a stream or a reservation. -/
def State.carries (s : State) (p : Nat) : Bool :=
  s.chargedStreams.any (fun x => x.dRing / 1024 == p || (match x.partner with | some q => q.1 / 1024 == p | none => false))

/-- The column tables, defect maps and shading grids of sconce k in force or pending. -/
def State.readTables (s : State) (k : Nat) : List Nat :=
  let x := s.sconce k
  let ids := (x.ids ++ x.sets.flatMap (·.ids)).filter (fun q => q.1 = 3 || q.1 = 4 || q.1 = 5)
  (ids.map (·.2)).dedup

/-- HBM bandwidth in demand. -/
def State.hbmDemand (s : State) : Rat :=
  let a := sumR (s.chargedStreams.map s.egress)
  let b := sumR ((portNumbers.filter s.carries).map s.portLimit)
  let c := sumR (s.configured.map (fun k =>
    s.fMax k * (sumL ((s.readTables k).map (fun i => match s.table i with | some t => t.image.length | none => 0)) : Nat)))
  let d := sumR (s.lanterns.map (fun x =>
    if x.2.st == .free then 0
    else maxRat (x.2.charged.map (fun q => (lfld q.header 0x24 4 : Rat))) * s.tapRate x.1))
  let e := sumR (s.captures.map (fun c => s.captureK c.1 * (if c.2.toHost then 2 else 1)))
  a + b + c + d + e

/-- Bytes of HBM capacity in demand: staging, spool shares, the record area (14 R493). -/
def State.hbmBytes (s : State) : Nat :=
  sumL (s.chargedStreams.map (fun x => alignUp (2 ^ 21) (2 * x.maxBytes))) +
    2 ^ 30 * sumL (portNumbers.map (fun p => (s.port p).spoolGiB)) + 2 ^ 30 * s.recorder.areaGiB

/-- Encoder instances lost (15 R514). -/
def State.encodersLost (s : State) : Nat := ((List.range 32).filter (s.unitLost poolEncoders)).length

/-- A line of the ledger: resource code, unit, demand, limit. -/
structure LedgerRow where
  code : Nat
  unit : Nat
  demand : Rat
  limit : Rat
  deriving DecidableEq, Repr

/-- Need and budget of Lantern n in clocks for each line, both 0 when no kernel is charged (08 R300). -/
def State.lanternRow (s : State) (n : Nat) : LedgerRow :=
  let x := s.lantern n
  if x.st == .free || x.charged.isEmpty then ⟨3, n, 0, 0⟩
  else ⟨3, n, (maxL (x.charged.map (s.kernelNeed n)) : Nat), (s.lanternBudget n : Nat)⟩

/-- Every resource in the order of 03 R108. -/
def State.ledgerRows (s : State) : List LedgerRow :=
  (List.range 64).map (fun j => ⟨1, j, sumR ((s.configured.filter (fun k => k / 8 == j)).map s.charge), 21280000000⟩) ++
  [⟨2, 0, sumR (s.configured.map s.charge), 1361920000000⟩] ++
  (List.range 64).map s.lanternRow ++
  [⟨4, 0, sumR (s.chargedStreams.map s.codedRate), ((384 - 12 * s.encodersLost : Nat) : Rat) * 950000000⟩,
   ⟨5, 0, s.hbmDemand, if s.health.stacksLost.isEmpty then 4940000000000 else 4322500000000⟩] ++
  portNumbers.map (fun p => ⟨6, p, s.portDemand p, s.portLimit p⟩) ++
  portNumbers.map (fun p => ⟨7, p, s.inbound p, s.portLimit p⟩) ++
  [⟨8, 0, (s.hbmBytes : Nat), ((if s.health.stacksLost.isEmpty then 184 else 160) * 2 ^ 30 : Nat)⟩]

/-- Encoder instances that a stream needs (07 R277). -/
def State.codersNeeded (s : State) (x : Stream) : Nat := (s.codedRate x / 11400000000).ceil.toNat

/-- Coding streams need more instances than there are (07 R277). -/
def State.encodersShort (s : State) : Bool :=
  32 - s.encodersLost < sumL (s.chargedStreams.map s.codersNeeded)

/-- A resource is short. -/
def State.rowShort (s : State) (r : LedgerRow) : Bool :=
  r.limit < r.demand || (r.code = 4 && s.encodersShort) ||
    (r.code = 8 && 160 < sumL (portNumbers.map (fun p => (s.port p).spoolGiB)))

/-- The first resource found short. -/
def State.shortRow (s : State) : Option LedgerRow := s.ledgerRows.find? s.rowShort

/-- LEDGER_REFUSED for the state after a command, when a resource is short (14 R489). -/
def State.ledgerStatus (s : State) : Option Status := s.shortRow.map (fun r => Status.ledger r.code r.unit)

/-- A whole number of units, rounded up. -/
def ratUp (x : Rat) (unit : Nat) : Nat := (x / unit).ceil.toNat

/-- A whole number of units, rounded down. -/
def ratDown (x : Rat) (unit : Nat) : Nat := (x / unit).floor.toNat

/-- The unit in which the LEDGER block gives a resource (15 R542). -/
def ledgerUnit (code : Nat) : Nat :=
  match code with
  | 3 => 1
  | 8 => 1048576
  | _ => 10000000

end Sys2Proof.Machine
end

