-- ==== Sys2Proof/Machine/Tables.lean ====
section
/-!
DEFINITION. Table images and the table area: the checks of every table kind, TABLE_LOAD and TABLE_RELEASE (05 R188 to R194, R675;
06 R228, R231, R232, R237; 07 R257, R259, R263 to R265).
-/

namespace Sys2Proof.Machine

/-! ### The table area (05 R189, R191) -/

/-- The table that a handle of port p names, by its internal number. -/
def State.tableOf (s : State) (p handle : Nat) : Option Nat :=
  (s.tables.find? (fun t => t.2.owner = some p && t.2.handle = handle)).map (·.1)

/-- A handle of port p that names a table of this kind. -/
def State.tableOfKind (s : State) (p handle kind : Nat) : Option Nat :=
  match s.tableOf p handle with
  | some i => match s.table i with
    | some t => if lfld t.image 0 2 = kind then some i else none
    | none => none
  | none => none

/-- Bytes that the kernel of a bank takes in the table area: its image. -/
def kernelBytes (k : Option Kernel) : Nat := match k with | some q => lfld q.header 4 4 | none => 0

/-- Bytes of the table area in use. -/
def State.tableBytes (s : State) : Nat :=
  sumL (s.tables.map (fun t => t.2.image.length)) + sumL (s.lanterns.map (fun x =>
    kernelBytes x.2.bank0 + kernelBytes x.2.bank1 + sumL (x.2.swapAt.map (fun q => kernelBytes q.load))))

/-- Bytes of the table area: 4 GiB. -/
def tableArea : Nat := 2 ^ 32

/-- A number no table has. -/
def State.tableNumber (s : State) : Nat := maxL (s.tables.map (·.1)) + 1

/-! ### Headers (05 R188) -/

/-- The kinds in use. -/
def tableKinds : List Nat := [1, 0x10, 0x11, 0x12, 0x21, 0x22, 0x23]

/-- The layout of a table's header. -/
def tableHead (l : List Byte) : List Chk :=
  [enc 0 (!tableKinds.contains (lfld l 0 2)), enc 2 (lfld l 2 1 != 1), irsv l 3 1 0 8] ++ irsvBytes l 0xC 0x20

/-- LENGTH is a multiple of 32, from 64 to 268,435,456. -/
def tableLength (l : List Byte) : List (Nat × Bool) :=
  let n := lfld l 4 4
  [(4, n % 32 != 0 || n < 64 || 268435456 < n)]

/-- Entries of n bytes that an image can hold from 0x40 on, at most k. -/
def entriesFit (l : List Byte) (n k : Nat) : Nat := min k ((l.length - 0x40) / n)

/-- The first faulty entry of a list of (offset, fault). -/
def restFaults (l : List (Nat × Bool)) : Option Status := imageFaults l

/-! ### Format tables (05 R192 to R194, R196) -/

/-- A data type the format table may name (05 R194, 04 R144). -/
def formatDt (dt : Nat) : Bool := dt ≤ 4 || dt = 0x10 || (0x20 ≤ dt && dt ≤ 0x27) || (0x30 ≤ dt && dt ≤ 0x37)

/-- PIXEL_DEPTH is in the range of its rule, for its data type (05 R196). -/
def depthAllowed (rule depth field dt : Nat) : Bool :=
  match rule with
  | 1 => depth = 8 | 2 => depth = 10 | 3 => depth = 12 | 4 => depth = 14 | 5 => depth = 16
  | 6 => if dt = 0x25 then depth = 10 else if dt = 0x26 then depth = 12 else if dt = 0x27 then depth = 14 else 8 ≤ depth && depth ≤ 16
  | 7 => 8 ≤ depth && depth ≤ field
  | _ => false

/-- The layout of a format entry at offset o. -/
def formatEntryChecks (l : List Byte) (o : Nat) : List Chk :=
  let role := lbits l (o + 3) 1 0 4
  let rule := lbits l (o + 8) 1 0 5
  let depth := lbits l (o + 9) 1 0 5
  let pixel : Bool := role == 5
  let two : Bool := 1 ≤ role && role ≤ 4
  [irsv l (o + 1) 1 6 2, irsv l (o + 2) 1 6 2, enc (o + 3) (7 ≤ role), irsv l (o + 3) 1 4 4, irsv l (o + 4) 2 9 7,
    irsv l (o + 6) 2 9 6, (o + 6, 0, !two && lbits l (o + 6) 2 15 1 != 0), (o + 8, 0, !pixel && rule != 0), irsv l (o + 8) 1 5 3,
    enc (o + 8) (8 ≤ rule), (o + 9, 0, !pixel && depth != 0), irsv l (o + 9) 1 5 3,
    irsv l (o + 0xA) 1 2 6, (o + 0xB, 0, !(pixel && rule = 7) && lfld l (o + 0xB) 1 != 0), (o + 0xC, 0, !(pixel && rule = 7) && lfld l (o + 0xC) 1 != 0),
    (o + 0xD, 0, !(pixel && rule = 7) && lfld l (o + 0xD) 1 != 0), irsv l (o + 0xE) 1 0 8, irsv l (o + 0xF) 1 0 8]

/-- A format entry is faulty (05 R194). -/
def formatEntryFault (l : List Byte) (o : Nat) : Bool :=
  let role := lbits l (o + 3) 1 0 4
  let dt := lbits l (o + 2) 1 0 6
  let rule := lbits l (o + 8) 1 0 5
  let depth := lbits l (o + 9) 1 0 5
  let gb := lfld l (o + 0xB) 1
  let gp := lfld l (o + 0xC) 1
  let fb := lfld l (o + 0xD) 1
  !formatDt dt || (1 ≤ role && role ≤ 4 && 3 < dt) || (role = 6 && dt != 4) ||
    (role = 5 && (dt ≤ 4 || rule = 0 || !depthAllowed rule depth fb dt ||
      (0x20 ≤ dt && dt ≤ 0x24 && rule != dt - 0x1F) || (0x25 ≤ dt && dt ≤ 0x27 && rule != 6) ||
      (rule = 7 && (gb = 0 || 16 < gb || gp = 0 || 16 < gp || 16 < fb || 8 * gb < gp * fb))))

/-- A format table's checks. -/
def formatChecks (l : List Byte) : ImageChecks :=
  let n := lfld l 0x20 2
  let k := entriesFit l 16 n
  { head := tableHead l, headFaults := tableLength l
    body := irsvBytes l 0x22 0x40 ++ (List.range k).flatMap (fun j => formatEntryChecks l (0x40 + 16 * j)) ++
      irsvBytes l (0x40 + 16 * n) (64 + 32 * cdiv n 2)
    counts := [(0x20, n = 0 || 256 < n)], implied := 64 + 32 * cdiv n 2
    rest := restFaults ((List.range k).map (fun j => (0x40 + 16 * j, formatEntryFault l (0x40 + 16 * j)))) }

/-! ### Correction tables (06 R228, R231, R232, R237) -/

/-- A column table's checks. -/
def columnChecks (l : List Byte) : ImageChecks :=
  let n := lfld l 0x20 2
  { head := tableHead l, headFaults := tableLength l
    body := irsvBytes l 0x22 0x40 ++ irsvBytes l (0x40 + 2 * n) (64 + 32 * cdiv n 16)
    counts := [(0x20, n = 0 || 32768 < n)], implied := 64 + 32 * cdiv n 16, rest := none }

/-- The key of a defect entry: Y × 2^15 + X. -/
def defectKey (l : List Byte) (k : Nat) : Nat := lfld l (0x42 + 8 * k) 3 * 2 ^ 15 + lbits l (0x40 + 8 * k) 2 0 15

/-- A defect map's checks. -/
def defectChecks (l : List Byte) : ImageChecks :=
  let n := lfld l 0x20 4
  let k := entriesFit l 8 n
  let col := fun j => lfld l (0x42 + 8 * j) 3 = 0xFFFFFF
  let before := fun j => ((List.range j).filter (fun i => col i)).length
  { head := tableHead l, headFaults := tableLength l
    body := irsvBytes l 0x24 0x40 ++ (List.range k).flatMap (fun j =>
      let o := 0x40 + 8 * j
      [irsv l o 2 15 1, enc (o + 5) (lbits l (o + 5) 1 0 2 = 3), irsv l (o + 5) 1 2 6, irsv l (o + 6) 1 0 8, irsv l (o + 7) 1 0 8]) ++
      irsvBytes l (0x40 + 8 * n) (64 + 32 * cdiv n 4)
    counts := [(0x20, 1048576 < n)], implied := 64 + 32 * cdiv n 4
    rest := restFaults ((List.range k).map (fun j => (0x40 + 8 * j,
      (j != 0 && defectKey l j ≤ defectKey l (j - 1)) ||
        (col j && (4096 ≤ before j || lbits l (0x45 + 8 * j) 1 0 2 = 2))))) }

/-- A shading grid's checks. -/
def shadingChecks (l : List Byte) : ImageChecks :=
  let gx := lfld l 0x20 1
  let gy := lfld l 0x21 1
  let ch := lbits l 0x23 1 0 3
  let n := gx * gy * ch
  { head := tableHead l, headFaults := tableLength l
    body := [enc 0x22 (lbits l 0x22 1 0 4 = 0 || lbits l 0x22 1 4 4 = 0), enc 0x23 (ch = 0 || 4 < ch), irsv l 0x23 1 3 5] ++
      irsvBytes l 0x24 0x40 ++ irsvBytes l (0x40 + 2 * n) (alignUp 32 (64 + 2 * n))
    counts := [(0x20, gx = 0 || 129 < gx), (0x21, gy = 0 || 97 < gy)], implied := alignUp 32 (64 + 2 * n), rest := none }

/-! ### Colour, tone and output tables (07 R257, R259, R263 to R265) -/

/-- A colour table's checks. -/
def colourChecks (l : List Byte) : ImageChecks :=
  { head := tableHead l, headFaults := tableLength l, body := irsvBytes l 0x70 0x80, counts := [], implied := 128
    rest := restFaults ((List.range 4).map (fun i =>
      let v := toInt 32 (lfld l (0x60 + 4 * i) 4)
      (0x60 + 4 * i, v < -65535 || 65535 < v))) }

/-- A tone table's checks. -/
def toneChecks (l : List Byte) : ImageChecks :=
  { head := tableHead l, headFaults := tableLength l, body := irsvBytes l 0x20 0x40, counts := [], implied := 8256, rest := none }

/-- The branch of a format, none when the code is reserved (07 R268). -/
def formatBranch (fmt : Nat) : Option Nat :=
  if 1 ≤ fmt && fmt ≤ 6 then some 0
  else if 0x20 ≤ fmt && fmt ≤ 0x24 then some 1
  else if (0x10 ≤ fmt && fmt ≤ 0x13) || (0x18 ≤ fmt && fmt ≤ 0x1B) then some 2
  else if fmt = 0x30 || fmt = 0x31 then some 3
  else none

/-- The layout of an output table (07 R263, R264). -/
def outputBody (l : List Byte) (n k : Nat) : List Chk :=
  let br := lbits l 0x20 1 0 2
  let mv : Bool := br == 2
  let coding : Bool := br == 1
  [irsv l 0x20 1 2 6, enc 0x21 (formatBranch (lfld l 0x21 1)).isNone, enc 0x22 (17 ≤ n), irsv l 0x22 1 5 3,
    (0x23, 0, !mv && lbits l 0x23 1 0 5 != 0), enc 0x23 (lbits l 0x23 1 0 2 = 3 || lbits l 0x23 1 3 2 = 3), irsv l 0x23 1 5 3,
    (0x24, 0, !mv && lfld l 0x24 1 != 0), irsv l 0x25 1 2 6, (0x26, 0, !coding && lfld l 0x26 2 != 0),
    (0x28, 0, !coding && lfld l 0x28 1 != 0), irsv l 0x28 1 3 1, irsv l 0x28 1 6 2, irsv l 0x29 1 0 8,
    (0x2A, 0, !coding && lfld l 0x2A 2 != 0)] ++ irsvBytes l 0x2C 0x40 ++
  (List.range k).flatMap (fun j =>
    let o := 0x40 + 16 * j
    irsv l o 2 15 1 :: irsvBytes l (o + 0xA) (o + 0x10)) ++ irsvBytes l (0x40 + 16 * n) (64 + 32 * cdiv n 2)

/-- The faults of an output table's fields (07 R265). -/
def outputFaults (l : List Byte) (k : Nat) : List (Nat × Bool) :=
  let br := lbits l 0x20 1 0 2
  let fmt := lfld l 0x21 1
  let mono : Bool := 0x10 ≤ fmt && fmt ≤ 0x13
  let ch := lbits l 0x24 1 2 2
  let mask := lbits l 0x24 1 4 4
  let f := tBlock l
  [(0x21, formatBranch fmt != some br), (0x22, br < 2 && 1 < lbits l 0x22 1 0 5),
    (0x23, lbits l 0x23 1 0 2 != 0 && lbits l 0x23 1 3 2 != 0),
    (0x24, (mono && mask != 0) || (fmtPlanar fmt && (mask = 0 || ch != 0)) ||
      (br = 2 && lbits l 0x24 1 0 2 = 0 && (ch != 0 || 1 < mask))),
    (0x26, br = 1 && (lfld l 0x26 2 < 32 || 320 < lfld l 0x26 2)),
    (0x28, br = 1 && (lbits l 0x28 1 0 3 = 0 || 5 < lbits l 0x28 1 0 3 || (if 0x23 ≤ fmt then 2 else 1) < lbits l 0x28 1 4 2))] ++
  (List.range k).flatMap (fun j =>
    let o := 0x40 + 16 * j
    let x := lbits l o 2 0 15
    let w := lfld l (o + 2) 2
    let y := lfld l (o + 4) 3
    let h := lfld l (o + 7) 3
    [(o, 32768 < x + w || x % f != 0),
      (o + 2, w % f != 0 || (fmt422 fmt && w % 2 = 1) || (br = 1 && w != 0 && (w < 32 || 16384 < w))),
      (o + 4, y % f != 0), (o + 7, h % f != 0 || (br = 1 && 16384 < h))])

/-- An output table's checks. -/
def outputChecks (l : List Byte) : ImageChecks :=
  let n := lbits l 0x22 1 0 5
  let k := entriesFit l 16 n
  { head := tableHead l, headFaults := tableLength l, body := outputBody l n k, counts := []
    implied := 64 + 32 * cdiv n 2, rest := restFaults (outputFaults l k) }

/-- The checks of a table image by its KIND. -/
def tableChecks (l : List Byte) : ImageChecks :=
  match lfld l 0 2 with
  | 0x10 => columnChecks l
  | 0x11 => defectChecks l
  | 0x12 => shadingChecks l
  | 0x21 => colourChecks l
  | 0x22 => toneChecks l
  | 0x23 => outputChecks l
  | _ => formatChecks l

/-! ### TABLE_LOAD and TABLE_RELEASE (05 R189, R190) -/

/-- The state rows of TABLE_LOAD (05 R675): HANDLE in use, then room. -/
def State.tableState (s : State) (p handle len : Nat) : Option Status :=
  if (s.tableOf p handle).isSome then some (s.badState 1)
  else if tableArea < s.tableBytes + len then some (s.badState 2) else none

/-- The checks of TABLE_LOAD (05 R189, R190). -/
def tableLoadChecks (c : RingCmd) (s : State) : Checks :=
  let e := c.e
  let va := bufferVa e 0x10
  { layout := bufferChk e 0x10 :: restRsv e [(8, 4), (0x10, 12)]
    ranges := [(8, fld e 8 4 = 0), (0x10, va % 64 != 0)]
    handles := s.addrStatus c.p va (fld e 0x18 4) 0x10
    state := s.tableState c.p (fld e 8 4) (fld e 0x18 4) }

/-- What an accepted TABLE_LOAD (05 R189, R190) does. -/
def tableLoadEffect (c : RingCmd) (s : State) : State × Done :=
  s.queueImage c

/-- TABLE_LOAD (05 R189, R190): it waits for its image. -/
def execTableLoad (t : Nat) (c : RingCmd) (s : State) : Host.Outcome State Fault Refusal :=
  (s.elapse t).command c 0x21 (tableLoadChecks c) (tableLoadEffect c)

/-- The image of a TABLE_LOAD has been read (05 R190, R675). -/
def State.tableLoaded (s : State) (p : Nat) (e : Entry) (d : HostData) : State × Status :=
  let len := fld e 0x18 4
  let l := imageBytes d len
  match firstSome [s.tableState p (fld e 8 4) len, (tableChecks l).first d l 0x20 len] with
  | some st => (s, st)
  | none =>
    ({ s with tables := tabPut s.tables s.tableNumber { owner := some p, handle := fld e 8 4, image := l } }, .success)

/-- The checks of TABLE_RELEASE (05 R189, R190). -/
def tableReleaseChecks (c : RingCmd) (s : State) : Checks :=
  let h := fld c.e 8 4
  { layout := restRsv c.e [(8, 4)]
    handles := if (s.tableOf c.p h).isNone then some (Status.notFound 8) else none
    state := match s.tableOf c.p h with | some i => if s.tableUsed i then some (s.badState 1) else none | none => none }

/-- What an accepted TABLE_RELEASE (05 R189, R190) does. -/
def tableReleaseEffect (c : RingCmd) (s : State) : State × Done :=
  let h := fld c.e 8 4
  (match s.tableOf c.p h with | some i => { s with tables := tabDel s.tables i } | none => s, .ok)

/-- TABLE_RELEASE (05 R189, R190). -/
def execTableRelease (t : Nat) (c : RingCmd) (s : State) : Host.Outcome State Fault Refusal :=
  (s.elapse t).command c 0x22 (tableReleaseChecks c) (tableReleaseEffect c)

end Sys2Proof.Machine
end

