-- ==== Sys2Proof/Machine/SconceCmd.lean ====
section
/-!
DEFINITION. SCONCE_CONFIG, its release, and PARAM_SET with every parameter group (05 R185, R186, R210 to R216; 06 R224, R225, R227,
R235, R238, R242; 07 R250, R251, R256, R267).
-/

namespace Sys2Proof.Machine

/-! ### The assembly block (05 R210) -/

/-- Layout of an assembly block at command offset 0x18. -/
def assemblyLayout (e : Entry) : List Chk :=
  let fm := bitsAt e 0x1E 1 2 2
  [rsv e 0x1A 4 24 8, enc 0x1E (bitsAt e 0x1E 1 0 2 = 3), rsv e 0x1E 1 4 4, rsv e 0x1F 1 3 5,
    (0x26, 0, fm != 2 && bitsAt e 0x26 1 0 4 != 0), rsv e 0x26 1 4 4, rsv e 0x27 1 0 8, rsvIf (fm < 2) e 0x28 4,
    rsvIf (fm < 2) e 0x2C 8, (0x2C, 0, fm = 2 && fld e 0x30 4 != 0)] ++
  (List.range 4).map (fun k => rsv e (0x34 + k) 1 0 8)

/-- Ranges of an assembly block; `long` says that a packed line exceeds a packet. -/
def assemblyRanges (e : Entry) (long : Bool) : List (Nat × Bool) :=
  let fm := bitsAt e 0x1E 1 2 2
  let w := fld e 0x18 2
  let step := fld e 0x28 4
  [(0x18, w = 0 || 0x8000 < w || long), (0x1A, bitsAt e 0x1A 4 0 24 = 0),
    (0x28, (fm = 2 && (step = 0 || 2 ^ 30 < (toInt 32 step).natAbs)) || (fm = 3 && step < 1000))]

/-- Bytes of a line of w pixels in groups of an entry's rule. -/
def packedLine (f : List Byte) (w : Nat) : Nat :=
  let sh := unpackShape f
  if sh.1 = 0 then 0 else cdiv w sh.1 * sh.2.1

/-- In PACKET mode a line of WIDTH pixels is longer than a packet under a PIXEL entry that routes to sconce k (05 R210). -/
def packedTooLong (entries : List (List Byte)) (k : Nat) (e : Entry) : Bool :=
  bitsAt e 0x1E 1 0 2 = 2 && entries.any (fun f => feRole f == 5 && feSconce f == k && 65535 < packedLine f (fld e 0x18 2))

/-- TARGET_RANGE for a TIME-mode ORIGIN too far from device time (05 R210). -/
def State.originStatus (s : State) (e : Entry) : Option Status :=
  if bitsAt e 0x1E 1 2 2 = 3 && 2 ^ 47 < (toInt 64 (fld e 0x2C 8 + 2 ^ 64 - s.dt)).natAbs then some (Status.target 0x2C) else none

/-- The 32-byte block at command offset 0x18. -/
def blockOf (e : Entry) : List Byte := leBytes 32 (fld e 0x18 32)

/-! ### SCONCE_CONFIG (05 R185, R186) -/

/-- The sconce a command names at 0x08. -/
def cmdSconce (e : Entry) : Nat := bitsAt e 8 2 0 9

/-- A Running or Stopping stream of sconce k, the lowest. -/
def State.sconceBusy (s : State) (k : Nat) : Option Nat :=
  (s.streamsOf k).find? (fun n => (s.stream n).active)

/-- The first PIXEL entry that declares another PIXEL_DEPTH than an earlier one to the same sconce (05 R186). -/
def depthConflict (es : List (List Byte)) : Option Nat :=
  (List.range es.length).find? (fun j =>
    let f := es.getD j []
    feRole f == 5 && (es.take j).any (fun g => feRole g == 5 && feSconce g == feSconce f && feDepth g != feDepth f))

/-- What of a sconce outlasts a new configuration or its release: the limits of its event records run on, with counters from 0 (05 R218,
06 R246). -/
def Sconce.limitsOf (x y : Sconce) : Sconce := { x with limits := y.limits, reports := tabMap y.reports (fun _ r => (0, r.2)) }

/-- SCONCE_CONFIG accepted (05 R186). -/
def State.sconceConfig (s : State) (p : Nat) (e : Entry) : State :=
  let k := cmdSconce e
  let lane := bitsAt e 0xB 1 0 7
  let s1 := s.discardOpen k
  let x : Sconce := { Sconce.limitsOf Sconce.reset (s1.sconce k) with
    configured := true, owner := some p, lane := lane, classifier := bitAt e 0xA 1
    format := if bitAt e 0xA 1 then s.tableOfKind p (fld e 0xC 4) 1 else none
    maxRate := fld e 0x10 2, par := [(1, blockOf e)], fires := (s1.sconce k).fires }
  (((s1.setSconce k x).modLane lane (fun y => { y with owner := some p })).freeTables)

/-- The checks of SCONCE_CONFIG (05 R185, R186). -/
def sconceConfigChecks (c : RingCmd) (s : State) : Checks :=
  let e := c.e
  let k := cmdSconce e
  let lane := bitsAt e 0xB 1 0 7
  let cls := bitAt e 0xA 1
  let after := s.sconceConfig c.p e
  { layout := [rsv e 8 2 9 7, rsv e 0xA 1 2 6, rsv e 0xB 1 7 1, rsvIf (!cls) e 0xC 4] ++ assemblyLayout e ++
      restRsv e [(8, 10), (0x18, 0x20)]
    ranges := assemblyRanges e (packedTooLong (after.entriesOf lane) k e)
    owner := firstSome [ownerStatus (s.sconce k).owner c.p, ownerStatus (s.lane lane).owner c.p]
    handles := if cls && (s.tableOfKind c.p (fld e 0xC 4) 1).isNone then some (Status.notFound 0xC) else none
    state := firstSome [
      (s.sconceBusy k).map Status.busy,
      if cls && (match s.classifierOf lane with | some j => j != k | none => false) then some (s.badState 1) else none,
      if !(s.boundTo k).isEmpty then some (s.badState 9) else none,
      if s.unitLost poolSlices (k / 8) then some (s.badState 0x60) else none,
      s.originStatus e]
    ledger := after.ledgerStatus
    image := if cls then (depthConflict (after.entriesOf lane)).map (fun j => Status.image (0x40 + 16 * j)) else none }

/-- What an accepted SCONCE_CONFIG (05 R185, R186) does. -/
def sconceConfigEffect (c : RingCmd) (s : State) : State × Done :=
  let e := c.e
  (s.sconceConfig c.p e, .ok)

/-- SCONCE_CONFIG (05 R185, R186). -/
def execSconceConfig (t : Nat) (c : RingCmd) (s : State) : Host.Outcome State Fault Refusal :=
  (s.elapse t).command c 0x20 (sconceConfigChecks c) (sconceConfigEffect c)

/-- The checks of SCONCE_CONFIG (05 R186). -/
def sconceReleaseChecks (c : RingCmd) (s : State) : Checks :=
  let e := c.e
  let k := cmdSconce e
  let x := s.sconce k
  { layout := [rsv e 8 2 9 7, rsv e 0xA 1 1 7] ++ restRsv e [(8, 3)]
    owner := ownerStatus x.owner c.p
    state := firstSome [
      (s.sconceBusy k).map Status.busy,
      if x.configured && x.classifier && s.sconces.any (fun y => y.1 != k && y.2.configured && y.2.lane == x.lane)
        then some (s.badState 2) else none,
      if !x.configured then some (s.badState 0xD) else none,
      if !(s.boundTo k).isEmpty then some (s.badState 9) else none,
      if s.unitLost poolSlices (k / 8) then some (s.badState 0x60) else none] }

/-- What an accepted SCONCE_CONFIG (05 R186) does. -/
def sconceReleaseEffect (c : RingCmd) (s : State) : State × Done :=
  let e := c.e
  let k := cmdSconce e
  (((s.discardOpen k).setSconce k (Sconce.limitsOf Sconce.reset (s.sconce k))).freeTables, .ok)

/-- SCONCE_CONFIG with RELEASE 1 (05 R186). -/
def execSconceRelease (t : Nat) (c : RingCmd) (s : State) : Host.Outcome State Fault Refusal :=
  (s.elapse t).command c 0x20 (sconceReleaseChecks c) (sconceReleaseEffect c)

/-! ### The groups of PARAM_SET -/

/-- Reserved bytes [a, b) of the block of a PARAM_SET, by block offset. -/
def blockRsv (e : Entry) (a b : Nat) : List Chk := (List.range (b - a)).map (fun k => rsv e (0x18 + a + k) 1 0 8)

/-- PERIOD_X and PERIOD_Y of groups 0x02 and 0x10. -/
def periodsOf (e : Entry) : Nat × Nat := (bitsAt e 0x18 1 0 3 + 1, bitsAt e 0x18 1 4 3 + 1)

/-- Entries (v, u) of an 8 × 8 map that lie in the period. -/
def inPeriod (px py k : Nat) : Bool := k % 8 < px && k / 8 < py

/-- The first entry of w bits outside the period that is not 0, of an 8 × 8 map at block offset o. -/
def mapRsv (e : Entry) (o w : Nat) : List Chk :=
  let p := periodsOf e
  let v := fld e (0x18 + o) (8 * w)
  (List.range 64).map (fun k => (0x18 + o + k * w / 8, 0, !inPeriod p.1 p.2 k && nbits v (w * k) w != 0))

/-- Layout of the period and phase bytes. -/
def periodRsv (e : Entry) : List Chk := [rsv e 0x18 1 3 1, rsv e 0x18 1 7 1, rsv e 0x19 1 3 1, rsv e 0x19 1 7 1]

/-- A phase that is not below its period. -/
def phaseRange (e : Entry) : Nat × Bool :=
  (0x19, (periodsOf e).1 ≤ bitsAt e 0x19 1 0 3 || (periodsOf e).2 ≤ bitsAt e 0x19 1 4 3)

/-- Kinds of the planes of group 0x10 (07 R250). -/
def planeKinds (e : Entry) : List Nat := (List.range (bitsAt e 0x1A 1 0 2 + 1)).map (fun k => bitsAt e 0x1C 2 (3 * k) 3)

/-- Kinds in the period of group 0x10. -/
def periodKinds (e : Entry) : List Nat :=
  let p := periodsOf e
  ((List.range 64).filter (inPeriod p.1 p.2)).map (fun k => nbits (fld e 0x20 24) (3 * k) 3)

/-- Layout of a group's block. -/
def groupLayout (g : Nat) (e : Entry) : List Chk :=
  match g with
  | 1 => assemblyLayout e
  | 2 => periodRsv e ++ blockRsv e 2 0x10 ++ mapRsv e 0x10 2
  | 3 => rsv e 0x18 1 2 6 :: rsv e 0x19 1 0 8 :: blockRsv e 0x10 0x20
  | 4 => rsv e 0x18 1 3 5 :: (blockRsv e 6 8 ++ blockRsv e 0xC 0x20)
  | 5 => rsv e 0x18 1 1 7 :: (blockRsv e 1 4 ++ blockRsv e 8 0x20)
  | 6 =>
    let hist := bitAt e 0x18 0
    let zone := bitAt e 0x18 2
    [rsv e 0x18 1 4 4, rsvIf (!hist) e 0x1A 2, rsvIf (!hist) e 0x1C 2, rsvIf (!hist) e 0x1E 3, rsvIf (!hist) e 0x21 3,
      rsvIf (!zone) e 0x24 2, rsvIf (!zone) e 0x26 2, rsvIf (!zone) e 0x28 3, rsvIf (!zone) e 0x2B 2, rsvIf (!zone) e 0x2D 1,
      rsv e 0x2D 1 6 2, rsvIf (!zone) e 0x2E 1, rsv e 0x2E 1 6 2, enc 0x2E (48 ≤ bitsAt e 0x2E 1 0 6)] ++ blockRsv e 0x17 0x20
  | 0x10 =>
    let p := periodsOf e
    let planes := bitsAt e 0x1A 1 0 2 + 1
    periodRsv e ++ [rsv e 0x1A 1 2 2, rsv e 0x1A 1 6 2, rsv e 0x1B 1 0 8, rsv e 0x1C 2 12 4] ++
      (List.range 4).map (fun k => (0x1C + 3 * k / 8, 0, planes ≤ k && bitsAt e 0x1C 2 (3 * k) 3 != 0)) ++
      (List.range planes).map (fun k => enc (0x1C + 3 * k / 8) (5 ≤ bitsAt e 0x1C 2 (3 * k) 3)) ++
      blockRsv e 6 8 ++ mapRsv e 8 3 ++
      (List.range 64).map (fun k => enc (0x20 + 3 * k / 8) (inPeriod p.1 p.2 k && 5 ≤ nbits (fld e 0x20 24) (3 * k) 3))
  | _ => rsv e 0x18 1 4 4 :: rsv e 0x19 1 0 8 :: enc 0x24 (bitsAt e 0x24 1 0 2 = 3) :: rsv e 0x24 1 3 5 :: blockRsv e 0xD 0x20

/-- Ranges of a group's block. Of two planes that name one kind, the lower is the field at fault (00 R12, 07 R251). -/
def groupRanges (g : Nat) (e : Entry) (long : Bool) : List (Nat × Bool) :=
  match g with
  | 1 => assemblyRanges e long
  | 2 => [phaseRange e]
  | 3 => [(0x18, bitAt e 0x18 1 && !bitAt e 0x18 0), (0x24, !bitAt e 0x18 1 && fld e 0x24 4 != 0)]
  | 4 => [(0x20, !bitAt e 0x18 0 && fld e 0x20 4 != 0)]
  | 5 => [(0x1C, !bitAt e 0x18 0 && fld e 0x1C 4 != 0)]
  | 6 =>
    let hist := bitAt e 0x18 0
    let zone := bitAt e 0x18 2
    [(0x19, (hist && bitsAt e 0x19 1 0 4 = 0) || (zone && bitsAt e 0x19 1 4 4 = 0)), (0x1A, hist && 32767 < fld e 0x1A 2),
      (0x1C, hist && 32768 < fld e 0x1C 2), (0x24, zone && 32767 < fld e 0x24 2),
      (0x26, zone && (fld e 0x26 2 = 0 || 4096 < fld e 0x26 2)), (0x2B, zone && (fld e 0x2B 2 = 0 || 4095 < fld e 0x2B 2))]
  | 0x10 =>
    let ks := planeKinds e
    let ps := periodKinds e
    let planes := ks.length
    let plane (k : Nat) : Bool := (ks.drop (k + 1)).contains (ks.getD k 0) || !ps.contains (ks.getD k 0)
    let p := periodsOf e
    [phaseRange e, (0x1A, planes ≤ bitsAt e 0x1A 1 4 2)] ++
      (List.range planes).map (fun k => (0x1C + 3 * k / 8, plane k)) ++
      (List.range 64).map (fun k => (0x20 + 3 * k / 8, inPeriod p.1 p.2 k && !ks.contains (nbits (fld e 0x20 24) (3 * k) 3)))
  | _ => [(0x1C, !bitAt e 0x18 1 && !bitAt e 0x18 2 && fld e 0x1C 4 != 0), (0x20, !bitAt e 0x18 3 && fld e 0x20 4 != 0)]

/-- The tables a group's block names: key in `Frame.images`, command offset of the handle, KIND. -/
def groupTables (g : Nat) (e : Entry) : List (Nat × Nat × Nat) :=
  match g with
  | 3 => if bitAt e 0x18 1 then [(3, 0x24, 0x10)] else []
  | 4 => if bitAt e 0x18 0 then [(4, 0x20, 0x11)] else []
  | 5 => if bitAt e 0x18 0 then [(5, 0x1C, 0x12)] else []
  | 0x11 => (if bitAt e 0x18 1 || bitAt e 0x18 2 then [(0x11, 0x1C, 0x21)] else []) ++
      (if bitAt e 0x18 3 then [(0x12, 0x20, 0x22)] else [])
  | _ => []

/-- NOT_FOUND at the first handle that names no table of the port, or one of another KIND (06 R225). -/
def State.groupHandles (s : State) (p g : Nat) (e : Entry) : Option Status :=
  firstSome ((groupTables g e).map (fun q =>
    if (s.tableOfKind p (fld e q.2.1 4) q.2.2).isNone then some (Status.notFound q.2.1) else none))

/-! ### PARAM_SET (05 R212 to R214) -/

/-- The groups in use (06 R225, 07 R250, R256). -/
def groupDefined (g : Nat) : Bool := (1 ≤ g && g ≤ 6) || g = 0x10 || g = 0x11

/-- A stream whose WIDTH or HEIGHT a group 0x01 block would exceed (07 R267). -/
def State.dimsBusy (s : State) (k : Nat) (e : Entry) : Option Nat :=
  (tabKeys s.streams (fun x => x.holds && x.sconce == k)).find? (fun n => let d := (s.stream n).dims; d.1 < fld e 0x18 2 || d.2 < bitsAt e 0x1A 4 0 24)

/-- PARAM_SET accepted: a pending set with its commit stamp (05 R212). -/
def State.paramSet (s : State) (p : Nat) (e : Entry) : State :=
  let k := cmdSconce e
  let g := fld e 0xA 1
  let ids : Tab Nat := (groupTables g e).filterMap (fun q => (s.tableOfKind p (fld e q.2.1 4) q.2.2).map (fun i => (q.1, i)))
  let at_ := if bitAt e 0xB 0 then some (fld e 0x10 8) else none
  s.modSconce k (fun x => { x with
    owner := some p
    sets := x.sets ++ [{ group := g, data := blockOf e, ids := ids, c := s.dt, at_ := at_, commitSeq := s.commitSeq }] })

/-- The checks of PARAM_SET (05 R213, R214). -/
def paramSetChecks (c : RingCmd) (s : State) : Checks :=
  let e := c.e
  let k := cmdSconce e
  let g := fld e 0xA 1
  let x := s.sconce k
  { layout := [rsv e 8 2 9 7, enc 0xA (!groupDefined g), rsv e 0xB 1 1 7, rsvIf (!bitAt e 0xB 0) e 0x10 8] ++
      (if groupDefined g then groupLayout g e else []) ++ restRsv e [(8, 4), (0x10, 0x28)]
    ranges := groupRanges g e (packedTooLong (s.entriesOf x.lane) k e)
    owner := ownerStatus x.owner c.p, handles := s.groupHandles c.p g e
    state := firstSome [
      if !x.configured then some (s.badState 0xD) else none,
      if 4 ≤ x.sets.length then some (s.badState 3) else none,
      if bitAt e 0xB 0 && fld e 0x10 8 < x.next + b2n x.openFrame.isSome then some (s.badState 4) else none,
      if g = 1 then (s.dimsBusy k e).map Status.busy else none,
      if g = 1 then s.originStatus e else none]
    ledger := if g = 1 || g = 3 || g = 4 || g = 5 then (s.paramSet c.p e).ledgerStatus else none }

/-- What an accepted PARAM_SET (05 R213, R214) does. -/
def paramSetEffect (c : RingCmd) (s : State) : State × Done :=
  let e := c.e
  (s.paramSet c.p e, .ok)

/-- PARAM_SET (05 R213, R214). -/
def execParamSet (t : Nat) (c : RingCmd) (s : State) : Host.Outcome State Fault Refusal :=
  (s.elapse t).command c 0x23 (paramSetChecks c) (paramSetEffect c)

end Sys2Proof.Machine
end

