-- ==== Sys2Proof/Machine/LanternCmd.lean ====
section
/-!
DEFINITION. KERNEL_LOAD, KERNEL_SWAP, LANTERN_BIND and its release (08 R280, R283, R294 to R301; 05 R191, R675).
-/

namespace Sys2Proof.Machine

/-- The Lantern a command names at 0x08. -/
def cmdLantern (e : Entry) : Nat := bitsAt e 8 1 0 6

/-- The Lantern, and its sconce while bound, belong to the port or to no port (08 R299). -/
def State.lanternOwner (s : State) (n p : Nat) : Option Status :=
  let x := s.lantern n
  firstSome [ownerStatus x.owner p, if x.st == .free then none else ownerStatus (s.sconce x.sconce).owner p]

/-- A bound Lantern without an owner becomes the port's when the port owns its sconce (08 R299). -/
def State.lanternTaken (s : State) (n p : Nat) : State :=
  let x := s.lantern n
  if x.st != .free && x.owner.isNone && (s.sconce x.sconce).owner = some p then s.setLantern n { x with owner := some p } else s

/-! ### Kernel images (08 R294, R295) -/

/-- An entry index or vector that lies outside the code. -/
def entryFault (l : List Byte) (off : Nat) (free : Bool) : Nat × Bool :=
  let v := lfld l off 2
  (off, lfld l 0xC 2 ≤ v && !(free && v = 0xFFFF))

/-- The checks of a kernel image (08 R295). DATA_TARGET + DATA_BYTES beyond the local store is named at DATA_BYTES, the lower of the two
fields (00 R12); the length the header implies is checked once CODE_WORDS, DATA_BYTES and SEGMENT_BYTES pass (05 R675). -/
def kernelChecks (l : List Byte) (len : Nat) : ImageChecks :=
  let code := lfld l 0xC 2
  let data := lfld l 0x28 4
  let seg := lfld l 0x30 4
  let codeBad : Bool := code = 0 || 8192 < code
  let dataBad : Bool := 65536 < data || data % 64 != 0
  let segBad : Bool := 67108864 < seg || seg % 64 != 0
  let bytes := 64 + 64 * cdiv code 16 + data + seg
  { head := [enc 0 (lfld l 0 2 != 0x0100), enc 2 (lfld l 2 1 != 1), enc 3 (lbits l 3 1 0 4 = 0), irsv l 3 1 4 4, irsv l 0x18 1 3 1,
      irsv l 0x18 1 7 1] ++ irsvBytes l 0x19 0x1C ++ irsvBytes l 0x22 0x24 ++ irsvBytes l 0x34 0x40
    headFaults :=
      [(0xC, codeBad), (0x28, dataBad || 2 ^ 21 < lfld l 0x2C 4 + data), (0x2C, lfld l 0x2C 4 % 64 != 0), (0x30, segBad)] ++
      (if codeBad || dataBad || segBad then [] else [(4, bytes != len)])
    body := irsvBytes l (64 + 4 * code) (64 + 64 * cdiv code 16)
    counts := [], implied := len
    rest := imageFaults [entryFault l 0xE false, entryFault l 0x10 true, entryFault l 0x12 true, entryFault l 0x14 true,
      entryFault l 0x16 true] }

/-- The kernel of an image. -/
def kernelOf (l : List Byte) : Kernel :=
  let code := lfld l 0xC 2
  let o := 64 + 64 * cdiv code 16
  let data := lfld l 0x28 4
  { header := l.take 64, code := (List.range code).map (fun k => lfld l (64 + 4 * k) 4), data := (l.drop o).take data
    segment := (l.drop (o + data)).take (lfld l 0x30 4) }

/-! ### KERNEL_LOAD (08 R296) -/

/-- The kernel that a KERNEL_LOAD now replaces; none while the bank it will write still holds a kernel in work. -/
def Lantern.replaced (x : Lantern) : Option Kernel :=
  match x.swapAt.getLast? with
  | none => x.other
  | some q => q.load

/-- The state rows of KERNEL_LOAD: a swap pending, then room (05 R675). The mark ends at the swap's boundary (08 R280). -/
def State.kernelState (s : State) (n len : Nat) : Option Status :=
  let x := s.lantern n
  if x.swap.isSome then some (s.badState 0xA)
  else if tableArea < s.tableBytes - kernelBytes x.replaced + len then some (s.badState 2) else none

/-- The checks of KERNEL_LOAD (08 R296). -/
def kernelLoadChecks (c : RingCmd) (s : State) : Checks :=
  let e := c.e
  let n := cmdLantern e
  let va := bufferVa e 0x10
  { layout := [rsv e 8 1 6 2, bufferChk e 0x10] ++ restRsv e [(8, 1), (0x10, 12)], ranges := [(0x10, va % 64 != 0)]
    owner := s.lanternOwner n c.p, handles := s.addrStatus c.p va (fld e 0x18 4) 0x10
    state := s.kernelState n (fld e 0x18 4) }

/-- What an accepted KERNEL_LOAD (08 R296) does. -/
def kernelLoadEffect (c : RingCmd) (s : State) : State × Done :=
  s.queueImage c

/-- KERNEL_LOAD (08 R296): it waits for its image. -/
def execKernelLoad (t : Nat) (c : RingCmd) (s : State) : Host.Outcome State Fault Refusal :=
  (s.elapse t).command c 0x28 (kernelLoadChecks c) (kernelLoadEffect c)

/-- The image of a KERNEL_LOAD has been read: the inactive bank takes it (08 R295, R296). -/
def State.kernelLoaded (s : State) (p : Nat) (e : Entry) (d : HostData) : State × Status :=
  let n := cmdLantern e
  let len := fld e 0x18 4
  let l := imageBytes d len
  match firstSome [s.lanternOwner n p, s.kernelState n len, (kernelChecks l len).first d l 0x40 len] with
  | some st => (s, st)
  | none =>
    let s1 := s.lanternTaken n p
    (s1.setLantern n ((s1.lantern n).loadKernel (kernelOf l)), .success)

/-! ### KERNEL_SWAP (08 R297) -/

/-- A frame of sconce k with this number has already opened. -/
def State.hasOpened (s : State) (k m : Nat) : Bool :=
  let x := s.sconce k
  m < x.next + b2n x.openFrame.isSome

/-- KERNEL_SWAP accepted: the swap waits for its boundary. -/
def State.kernelSwap (s : State) (p : Nat) (e : Entry) : State :=
  let n := cmdLantern e
  let s1 := s.lanternTaken n p
  s1.modLantern n (fun x => { x with
    swap := some (s.dt, if bitAt e 9 1 then some (fld e 0x10 8) else none, bitAt e 9 0), swapSeq := s.commitSeq })

/-- BAD_IMAGE for a kernel that does not fit the binding (08 R299). -/
def Lantern.misfit (x : Lantern) : Option Status :=
  match x.banks.2 with
  | none => none
  | some k =>
    if !nbit (lfld k.header 3 1) x.tap then some (Status.image 3)
    else if 16 < lbits k.header 0x18 1 0 3 + 1 + lbits k.header 0x18 1 4 3 + x.slack then some (Status.image 0x18) else none

/-- The checks of KERNEL_SWAP (08 R297, R299). -/
def kernelSwapChecks (c : RingCmd) (s : State) : Checks :=
  let e := c.e
  let n := cmdLantern e
  let off := bitAt e 9 0
  let x := s.lantern n
  { layout := [rsv e 8 1 6 2, rsv e 9 1 2 6, rsvIf (!bitAt e 9 1) e 0x10 8] ++ restRsv e [(8, 2), (0x10, 8)]
    owner := s.lanternOwner n c.p
    state := firstSome [
      if x.st == .free then some (s.badState 0xB) else none,
      if !off && x.banks.2.isNone then some (s.badState 0xC) else none,
      if bitAt e 9 1 && s.hasOpened x.sconce (fld e 0x10 8) then some (s.badState 4) else none]
    ledger := (s.kernelSwap c.p e).ledgerStatus
    image := if off then none else x.misfit }

/-- What an accepted KERNEL_SWAP (08 R297, R299) does. -/
def kernelSwapEffect (c : RingCmd) (s : State) : State × Done :=
  let e := c.e
  (s.kernelSwap c.p e, .ok)

/-- KERNEL_SWAP (08 R297, R299). -/
def execKernelSwap (t : Nat) (c : RingCmd) (s : State) : Host.Outcome State Fault Refusal :=
  (s.elapse t).command c 0x29 (kernelSwapChecks c) (kernelSwapEffect c)

/-! ### LANTERN_BIND (08 R298, R299) -/

/-- DATA of a BINDING record. -/
def bindingData (bound : Bool) (tap : Nat) : Nat := b2n bound + 2 * tap

/-- LANTERN_BIND accepted: Bound, counters cleared, the interrupt controller and the gather port at reset. The banks and the local
store keep their contents; the shadow bank is zero (08 R299, 09 R316), and the times of the last records stand (08 R310). -/
def State.lanternBind (s : State) (p : Nat) (e : Entry) : State :=
  let n := cmdLantern e
  let x := s.lantern n
  s.setLantern n { Lantern.reset with
    st := .bound, owner := some p, sconce := bitsAt e 0xA 2 0 9, tap := bitsAt e 9 1 0 2, policy := bitAt e 9 2
    slack := bitsAt e 0xC 1 0 4, chMask := bitsAt e 0xD 1 0 4, fill := fld e 0xE 2, bank0 := x.bank0, bank1 := x.bank1, bank := x.bank
    store := x.store, s := x.s, v := x.v, p := x.p, pc := x.pc
    sr := [9, 0xA, 0xB].foldl tabDel x.sr, gSrc := x.gSrc, gIndex := x.gIndex, gDest := x.gDest
    gCount := x.gCount, gElem := x.gElem, gather := x.gather, gRange := x.gRange, gRefused := x.gRefused
    reports := tabMap x.reports (fun _ r => (r.1, 0)) }

/-- The checks of LANTERN_BIND (08 R298, R299). -/
def lanternBindChecks (c : RingCmd) (s : State) : Checks :=
  let e := c.e
  let n := cmdLantern e
  let k := bitsAt e 0xA 2 0 9
  let tap := bitsAt e 9 1 0 2
  let x := s.lantern n
  { layout := [rsv e 8 1 7 1, rsv e 9 1 3 5, rsv e 0xA 2 9 7, rsv e 0xC 1 4 4, rsv e 0xD 1 4 4,
      (0xD, 0, tap != 2 && bitsAt e 0xD 1 0 4 != 0)] ++ restRsv e [(8, 8)]
    ranges := [(0xC, bitsAt e 0xC 1 0 4 = 0),
      (0xD, tap = 2 && (bitsAt e 0xD 1 0 4 = 0 || 32768 < s.widthOf k * (maskBits (bitsAt e 0xD 1 0 4)).length))]
    owner := firstSome [s.lanternOwner n c.p, ownerStatus (s.sconce k).owner c.p]
    state := firstSome [
      if !(s.sconce k).configured then some (s.badState 0xD) else none,
      if x.st != .free then some (s.badState 8) else none,
      if (s.boundTo k).any (fun m => (s.lantern m).tap == tap) then some (s.badState 7) else none,
      if tap = 3 && 1 < tRois (s.visionTable k) then some (s.badState 6) else none]
    ledger := (s.lanternBind c.p e).ledgerStatus }

/-- What an accepted LANTERN_BIND (08 R298, R299) does. -/
def lanternBindEffect (c : RingCmd) (s : State) : State × Done :=
  let e := c.e
  let n := cmdLantern e
  let k := bitsAt e 0xA 2 0 9
  let tap := bitsAt e 9 1 0 2
  let s1 := (s.lanternBind c.p e).modSconce k (fun y => { y with owner := some c.p })
  (s1.lanternRecord n 3 0x0301 (bindingData true tap), .ok)

/-- LANTERN_BIND (08 R298, R299). -/
def execLanternBind (t : Nat) (c : RingCmd) (s : State) : Host.Outcome State Fault Refusal :=
  (s.elapse t).command c 0x2A (lanternBindChecks c) (lanternBindEffect c)

/-- The binding of Lantern n ends: it is Free, the lines that have not left its tap pass unchanged (08 R280), and the channels it owns are released (08 R299, 13 R460). -/
def State.lanternFree (s : State) (n : Nat) : State :=
  let x := s.lantern n
  let s0 := s.modSconce x.sconce (fun c => { c with frames := c.frames.map (fun f => f.leave n x.tap) })
  let s1 := s0.lanternRecord n 3 0x0301 (bindingData false x.tap)
  let s2 := (tabKeys s1.channels (fun ch => ch.owner == 5 && ch.lantern == n)).foldl State.freeChannel s1
  s2.setLantern n { takeSwaps (fun _ => false) x x.swapAt with
    st := .free, owner := none, sconce := 0, tap := 0, policy := false, slack := 0, chMask := 0, fill := 0, swap := none
    routine := .idle, frame := none, normal := none, fast := none, waiting := none, outLine := [] }

/-- The checks of LANTERN_BIND (08 R298, R299). -/
def lanternReleaseChecks (c : RingCmd) (s : State) : Checks :=
  let e := c.e
  let n := cmdLantern e
  let x := s.lantern n
  { layout := rsv e 8 1 7 1 :: restRsv e [(8, 1)]
    owner := s.lanternOwner n c.p
    state := if x.st == .active || x.swap.isSome then some (s.badState 9) else none }

/-- What an accepted LANTERN_BIND (08 R298, R299) does. -/
def lanternReleaseEffect (c : RingCmd) (s : State) : State × Done :=
  let e := c.e
  let n := cmdLantern e
  ((if (s.lantern n).st == .free then s else s.lanternFree n), .ok)

/-- LANTERN_BIND with RELEASE 1 (08 R298, R299). -/
def execLanternRelease (t : Nat) (c : RingCmd) (s : State) : Host.Outcome State Fault Refusal :=
  (s.elapse t).command c 0x2A (lanternReleaseChecks c) (lanternReleaseEffect c)

end Sys2Proof.Machine
end

