-- ==== Sys2Proof/Machine/Journal.lean ====
section
/-!
DEFINITION. The Tallow journal: staging, its two targets, the frozen store, and JOURNAL_CONFIG (16 R545 to R555).
-/

namespace Sys2Proof.Machine

/-! ### Targets (16 R548 to R551) -/

/-- The NV target has this record still to take: it is enabled or was when the record was emitted, the store is not frozen, this is not
Replay, and a freeze that is coming still covers the record (16 R548, R551, R552, R554). -/
def State.nvWants (s : State) (q : Nat × JRec) : Bool :=
  s.jn.nvPos ≤ q.1 && (s.jn.nvEn || q.1 < s.jn.nvUntil) && s.jn.frozen.isNone && s.mode != .replay &&
    (match s.jn.freezeAt with | some t => q.2.time ≤ t | none => true)

/-- A ring that is no target any more has this record still to take (16 R554). -/
def Journal.oldWants (j : Journal) (n : Nat) : Bool := match j.oldRing with | some o => o.2.1 ≤ n && n < o.2.2 | none => false

/-- Records that no enabled target waits for leave staging (16 R548). -/
def State.trimStaging (s : State) : State :=
  { s with jn := { s.jn with
      staged := s.jn.staged.filter (fun q => (s.jn.ringEn && s.jn.ringPos ≤ q.1) || s.jn.oldWants q.1 || s.nvWants q) } }

/-- A GAP record for one target: 0 the NV store, 1 the ring (16 R546, R549). -/
def State.gapRecord (s : State) (target : Nat) (g : Nat × Nat) : State × JRec :=
  let n := s.journalSeq islandEmber
  ({ s with jn := { s.jn with seq := tabPut s.jn.seq islandEmber ((n + 1) % 2 ^ 32) } },
    { qual := target, typ := 0x70, island := islandEmber, seq := n, time := g.2, body := fitTo 16 (leBytes 8 g.1) })

/-- JOURNAL_GAP for n more skipped records of a target, at most one in 100 ms (16 R549). -/
def State.gapEvent (s : State) (target n : Nat) : State :=
  let last := tabFind s.jn.gapReport target
  let sum := n + (match last with | some r => r.2 | none => 0)
  let open_ : Bool := match last with | some r => r.1 + 100000000 ≤ s.ns | none => true
  let put (v : Nat × Nat) : State := { s with jn := { s.jn with gapReport := tabPut s.jn.gapReport target v } }
  if open_ then (put (s.ns, 0)).reportPorts s.inService 2 0x0A01 islandEmber 0 (target + sum % 2 ^ 56 * 256)
  else put ((match last with | some r => r.1 | none => 0), sum)

/-- A ring is a journal ring that may take an entry. -/
def State.ringTakesEntry (s : State) (rid : Nat) : Bool :=
  let p := rid / 1024
  let r := s.ring p (rid % 1024)
  r.live && r.kind == 8 && r.room && (s.port p).canWrite

/-- The journal ring may take an entry. -/
def State.ringRoom (s : State) : Bool := s.jn.ringEn && s.ringTakesEntry s.jn.ring

/-- One record for the journal ring. -/
def State.ringPut (s : State) (r : JRec) : State := s.writeEntry (s.jn.ring / 1024) (s.jn.ring % 1024) r.bytes

/-- A GAP that waits goes to the ring ahead of the records that follow (16 R549). -/
def State.ringGapOut (s : State) : State :=
  match s.jn.ringGap with
  | none => s
  | some g =>
    if s.ringRoom then
      let q := s.gapRecord 1 g
      (({ q.1 with jn := { q.1.jn with ringGap := none, ringGaps := satAdd 32 q.1.jn.ringGaps 1 } }).ringPut q.2)
    else s

/-- A ring that is no target any more takes one of the records emitted before (16 R554); out of service, it is given up. -/
def State.oldTakes (s : State) (q : Nat × JRec) : State :=
  match s.jn.oldRing with
  | none => s
  | some (rid, pos, until_) =>
    if until_ ≤ pos || !(s.ring (rid / 1024) (rid % 1024)).live then { s with jn := { s.jn with oldRing := none } }
    else if pos ≤ q.1 && s.ringTakesEntry rid then
      ({ s with jn := { s.jn with oldRing := some (rid, q.1 + 1, until_) } }).writeEntry (rid / 1024) (rid % 1024) q.2.bytes
    else s

/-- The journal ring takes staged records in order as far as it has room (16 R548). -/
def State.ringTakes (s : State) : State :=
  (s.jn.staged.foldl (fun t q =>
    let u := (t.oldTakes q).ringGapOut
    if u.ringRoom && u.jn.ringGap.isNone && u.jn.ringPos ≤ q.1 then
      ({ u with jn := { u.jn with ringPos := q.1 + 1 } }).ringPut q.2
    else u) s.ringGapOut).trimStaging

/-- Records the NV store holds: 1 GiB, less the blocks retired with no spare left (16 R550, 15 R514). -/
def State.nvSize (s : State) : Nat := 33554432 - 2 * (s.phys poolNv 0).lost

/-- The NV store appends a record and overwrites its oldest (16 R550). -/
def State.nvPut (s : State) (n : Option Nat) (r : JRec) : State :=
  { s with jn := { s.jn with nv := (s.jn.nv ++ [(n, r)]).drop (s.jn.nv.length + 1 - s.nvSize) } }

/-- A block of the NV store has failed: a spare block takes its place, or it is retired (15 R509, R514). -/
def State.nvBlockBad (s : State) (part : Nat) : State :=
  if s.sparesLeft poolNv 0 = 0 then
    let u := s.phys poolNv 0
    (s.setPhys poolNv 0 { u with lost := u.lost + 1 }).exhausted poolNv 0 part 0 true
  else s.usePart poolNv 0 part 1

/-- A GAP that waits for the NV store is written. -/
def State.nvGapOut (s : State) : State :=
  match s.jn.nvGap with
  | none => s
  | some g =>
    let q := s.gapRecord 0 g
    ({ q.1 with jn := { q.1.jn with nvGap := none, nvGaps := satAdd 32 q.1.jn.nvGaps 1 } }).nvPut none q.2

/-- The next k records that the NV target takes. -/
def State.nvTakes (s : State) (k : Nat) : State :=
  (((s.jn.staged.filter s.nvWants).take k).foldl (fun t q =>
    ({ t with jn := { t.jn with nvPos := q.1 + 1 } }).nvPut (some q.1) q.2) s).trimStaging

/-- The NV target has a record or a GAP to write, and its rate lets it (16 R550). -/
def State.nvReady (s : State) : Bool :=
  s.jn.nvFree ≤ s.ns && s.jn.frozen.isNone && s.mode != .replay && (s.jn.nvGap.isSome || s.jn.staged.any s.nvWants)

/-- A block of 64 bytes has been written: the next one waits for the time it takes at NV_RATE, or at 200 MB/s before a freeze (16 R550,
R551). -/
def State.nvPaced (s : State) : State :=
  { s with jn := { s.jn with nvFree := s.ns + cdiv 64000 (max 1 (if s.jn.freezeAt.isSome then 200 else s.jn.nvRate)) } }

/-- NV_BLOCK_WRITE: one block of two records; a block that fails its check is rewritten to a spare (16 R550, 15 R509). -/
def execNvBlockWrite (t : Nat) (bad : Bool) (s : State) : Host.Outcome State Fault Refusal :=
  let s1 := s.elapse t
  if !s1.nvReady then .next s1
  else
    let s2 := (if s1.jn.nvGap.isSome then (s1.nvGapOut).nvTakes 1 else s1.nvTakes 2).nvPaced
    .next (if bad then s2.nvBlockBad 0 else s2)

/-! ### Emission (16 R546 to R549) -/

/-- Records held in staging at most: 64 MiB. -/
def stagingSize : Nat := 2097152

/-- Records that a lagging target skips: 1 MiB. -/
def skipRecords : Nat := 32768

/-- Sequence number a comes before b by their signed 32-bit difference (01 R21). -/
def seqBefore (a b : Nat) : Bool := 2 ^ 31 ≤ (a % 2 ^ 32 + 2 ^ 32 - b % 2 ^ 32) % 2 ^ 32

/-- Record a comes before record b (01 R24). -/
def JRec.before (a b : JRec) : Bool :=
  a.time < b.time || (a.time == b.time && (a.island < b.island || (a.island == b.island && seqBefore a.seq b.seq)))

/-- The first record of staging by the order of 01 R24. -/
def firstRec : List JRec → Option JRec
  | [] => none
  | r :: l => match firstRec l with
    | none => some r
    | some q => if q.before r then some q else some r

/-- The enabled target that lags furthest skips its oldest 32,768 records (16 R549). -/
def State.skipOldest (s : State) : State :=
  let j := s.jn
  let forRing := (j.staged.filter (fun q => j.ringEn && j.ringPos ≤ q.1)).take skipRecords
  let forNv := (j.staged.filter s.nvWants).take skipRecords
  let gap (old : Option (Nat × Nat)) (l : List (Nat × JRec)) : Option (Nat × Nat) :=
    match old, l with
    | some g, _ => some (g.1 + l.length, g.2)
    | none, q :: _ => some (l.length, q.2.time)
    | none, [] => none
  let ring : Bool := match forRing, forNv with
    | [], _ => false
    | _ :: _, [] => true
    | a :: _, b :: _ => a.1 ≤ b.1
  if ring then
    (({ s with jn := { j with ringPos := (forRing.getLastD (0, ⟨0, 0, 0, 0, 0, []⟩)).1 + 1, ringGap := gap j.ringGap forRing } }).gapEvent 1
      forRing.length).trimStaging
  else if forNv.isEmpty then s
  else
    (({ s with jn := { j with nvPos := (forNv.getLastD (0, ⟨0, 0, 0, 0, 0, []⟩)).1 + 1, nvGap := gap j.nvGap forNv } }).gapEvent 0
      forNv.length).trimStaging

/-- Records in staging: those that wait for their emission, and those that a target has still to take (16 R547, R548). -/
def Journal.inStaging (j : Journal) : Nat := j.waiting.length + j.staged.length

/-- A record is emitted: it takes the next record number, and the targets may take it from now on (16 R547 to R549). More records than
staging holds make a target skip its oldest before that. A SYNC carries its own number. -/
def State.emitRecord (s : State) (r : JRec) : State :=
  let s0 := if stagingSize < s.jn.inStaging then s.skipOldest else s
  let j := s0.jn
  let n := j.next
  let q : JRec := if r.typ = 0x7F then { r with body := fitTo 16 (leBytes 8 n) } else r
  ({ s0 with jn := { j with
      next := (n + 1) % 2 ^ 64, firstTime := if n = 0 then some q.time else j.firstTime, waiting := j.waiting.filter (fun w => w != r)
      staged := j.staged ++ [(n, q)] } }).ringTakes

/-- Types that the journal takes in Replay: commands, doorbells, UNIT records and what the replay itself makes, with FATAL, GAP, MARK and
SYNC (16 R552). -/
def replayTypes : List Nat := [0x01, 0x02, 0x03, 0x04, 0x05, 0x06, 0x51, 0x52, 0x60, 0x61, 0x70, 0x71, 0x7F]

/-- JOURNAL_EMIT: staging emits its first record once device time has passed TIME + 100 µs (16 R547). In Replay, records of live happenings
are not among them (16 R552). -/
def execJournalEmit (t : Nat) (s : State) : Host.Outcome State Fault Refusal :=
  let s1 := s.elapse t
  match firstRec s1.jn.waiting with
  | none => .next s1
  | some r =>
    if s1.dt ≤ r.time + 100000 then .next s1
    else if s1.mode == .replay && !replayTypes.contains r.typ then
      .next { s1 with jn := { s1.jn with waiting := s1.jn.waiting.filter (fun w => w != r) } }
    else .next (s1.emitRecord r)

/-- SYNC: each whole millisecond of device time makes one record (16 R546). -/
def execSync (t : Nat) (s : State) : Host.Outcome State Fault Refusal :=
  let s1 := s.elapse t
  let ms := s1.dt / 1000000
  if s1.jn.lastSync < ms then
    let due := min ms (s1.jn.lastSync + 1)
    let at_ := if s1.jn.lastSync = 0 then ms else due
    .next (({ s1 with jn := { s1.jn with lastSync := at_ } }).journal (b2n s1.jn.frozen.isSome) 0x7F islandEmber (at_ * 1000000) [])
  else if ms < s1.jn.lastSync then .next { s1 with jn := { s1.jn with lastSync := ms } }
  else .next s1

/-- The record number of the FATAL record whose TIME + 100 ms is this limit, as the NV store holds it. -/
def State.fatalNumber (s : State) (limit : Nat) : Option Nat :=
  firstSome (s.jn.nv.map (fun q => if q.2.typ = 0x61 && q.2.time + 100000000 = limit then q.1 else none))

/-- FATAL_FREEZE: the NV target has written every record stamped up to TIME + 100 ms and freezes (16 R551). -/
def execFatalFreeze (t : Nat) (s : State) : Host.Outcome State Fault Refusal :=
  let s1 := s.elapse t
  match s1.jn.freezeAt with
  | none => .next s1
  | some limit =>
    if limit + 100000 < s1.dt && s1.jn.waiting.all (fun r => limit < r.time) then
      let s2 := (s1.nvGapOut).nvTakes stagingSize
      match s2.fatalNumber limit with
      | some n =>
        let s3 : State := { s2 with jn := { s2.jn with frozen := some n, freezeAt := none } }
        .next ((s3.trimStaging).reportPorts s.inService 2 0x0A02 islandEmber 0 n)
      | none => .next { s2 with jn := { s2.jn with freezeAt := none } }
    else .next s1

/-! ### JOURNAL_CONFIG (16 R553 to R555) -/

/-- The layout every JOURNAL_CONFIG has, with its further operand bytes. -/
def jcLayout (e : Entry) (fields : List (Nat × Nat)) : List Chk := rsv e 8 1 3 5 :: restRsv e ((8, 1) :: fields)

/-- The checks of TARGETS (16 R553, R554). -/
def journalTargetsChecks (c : RingCmd) (s : State) : Checks :=
  let e := c.e
  let ringEn := bitAt e 9 0
  let rid := ringId c.p (bitsAt e 0xA 2 0 10)
  { layout := [rsv e 9 1 2 6, rsv e 0xA 2 10 6, rsvIf (!ringEn) e 0xA 2] ++ jcLayout e [(9, 4)]
    ranges := [(0xC, fld e 0xC 1 = 0 || 200 < fld e 0xC 1)]
    rings := if ringEn then s.ownRing c.p rid 8 0xA else none }

/-- What an accepted TARGETS (16 R553, R554) does: it applies to records emitted from now on, and a target that it disables still gets those
emitted before. Records that the NV store had not got when it is enabled anew count as skipped. -/
def journalTargetsEffect (c : RingCmd) (s : State) : State × Done :=
  let e := c.e
  let ringEn := bitAt e 9 0
  let nvEn := bitAt e 9 1
  let rid := ringId c.p (bitsAt e 0xA 2 0 10)
  let j := s.jn
  let fresh := ringEn && !(j.ringEn && j.ring = rid)
  let left := j.staged.filter s.nvWants
  let gap : Option (Nat × Nat) := match j.nvGap, left with
    | some g, _ => some (g.1 + left.length, g.2)
    | none, q :: _ => some (left.length, q.2.time)
    | none, [] => none
  let back := nvEn && !j.nvEn
  let j1 := { j with
    ringEn := ringEn, ring := if ringEn then rid else 0, nvEn := nvEn, nvRate := fld e 0xC 1
    ringPos := if fresh then j.next else j.ringPos
    ringGap := if fresh then (if 0 < j.next then some (j.next, j.firstTime.getD 0) else none) else if ringEn then j.ringGap else none
    oldRing := if j.ringEn && !(ringEn && j.ring = rid) && j.staged.any (fun q => j.ringPos ≤ q.1) then some (j.ring, j.ringPos, j.next) else j.oldRing
    nvPos := if back then j.next else j.nvPos, nvUntil := j.next, nvGap := if back then gap else j.nvGap }
  let s1 : State := { s with jn := j1 }
  let s2 := if back && !left.isEmpty then s1.gapEvent 0 left.length else s1
  (((if fresh && 0 < j.next then s2.gapEvent 1 j.next else s2).trimStaging).ringTakes, .ok)

/-- TARGETS (16 R553, R554). -/
def execJournalTargets (t : Nat) (c : RingCmd) (s : State) : Host.Outcome State Fault Refusal :=
  (s.elapse t).command c 0x4B (journalTargetsChecks c) (journalTargetsEffect c)

/-- The checks of MARK (16 R553, R554). -/
def journalMarkChecks (c : RingCmd) (_ : State) : Checks :=
  { layout := jcLayout c.e [(0x10, 16)] }

/-- What an accepted MARK (16 R553, R554) does. -/
def journalMarkEffect (c : RingCmd) (s : State) : State × Done :=
  (s.journal 0 0x71 islandSup s.dt (leBytes 16 (fld c.e 0x10 16)), .ok)

/-- MARK (16 R553, R554): its record stands at the commit stamp. -/
def execJournalMark (t : Nat) (c : RingCmd) (s : State) : Host.Outcome State Fault Refusal :=
  (s.elapse t).command c 0x4B (journalMarkChecks c) (journalMarkEffect c)

/-- The records of the NV store from record number m on; from the oldest for all ones. -/
def State.nvFrom (s : State) (m : Nat) : List (Option Nat × JRec) :=
  if m = 2 ^ 64 - 1 then s.jn.nv else s.jn.nv.dropWhile (fun q => q.1 != some m)

/-- The checks of READ_NV (16 R553, R554). -/
def readNvChecks (c : RingCmd) (s : State) : Checks :=
  let e := c.e
  let n := fld e 0x18 4
  let va := bufferVa e 0x20
  let l := s.nvFrom (fld e 0x10 8)
  { layout := bufferChk e 0x20 :: jcLayout e [(0x10, 12), (0x20, 8)]
    ranges := [(0x10, l.isEmpty), (0x18, n = 0 || 1048576 < n || l.length < n), (0x20, va % 64 != 0)]
    handles := s.addrStatus c.p va (32 * n) 0x20 }

/-- What an accepted READ_NV (16 R553, R554) does. -/
def readNvEffect (c : RingCmd) (s : State) : State × Done :=
  let e := c.e
  let n := fld e 0x18 4
  let va := bufferVa e 0x20
  let bytes := (((s.nvFrom (fld e 0x10 8)).take n).map (fun q => q.2.bytes)).flatten
  let parts := splitParts va bytes (s.translate c.p va (32 * n) 0).2
  ((s.freshen).hostPutParts c.p parts, .waits s.fresh)

/-- READ_NV (16 R553, R554): it waits for the copy. -/
def execReadNv (t : Nat) (c : RingCmd) (s : State) : Host.Outcome State Fault Refusal :=
  (s.elapse t).command c 0x4B (readNvChecks c) (readNvEffect c)

/-- The checks of THAW (16 R551, R554). -/
def thawChecks (c : RingCmd) (s : State) : Checks :=
  { layout := jcLayout c.e [], state := if s.jn.frozen.isNone then some (s.badState 0x70) else none }

/-- What an accepted THAW (16 R551, R554) does. -/
def thawEffect (_ : RingCmd) (s : State) : State × Done :=
  ({ s with jn := { s.jn with frozen := none, nvPos := s.jn.next } }, .ok)

/-- THAW (16 R551, R554): writing resumes at the oldest block. -/
def execThaw (t : Nat) (c : RingCmd) (s : State) : Host.Outcome State Fault Refusal :=
  (s.elapse t).command c 0x4B (thawChecks c) (thawEffect c)

/-- The STATUS block (16 R555). -/
def State.journalBlock (s : State) : List Byte :=
  let j := s.jn
  let nums := j.nv.filterMap (·.1)
  leBytes 1 (b2n j.frozen.isSome + 2 * b2n j.ringEn + 4 * b2n j.nvEn) ++ [0] ++ leBytes 2 (j.ring % 1024) ++ leBytes 1 j.nvRate ++ zeros 3 ++
    leBytes 8 s.dt ++ leBytes 8 j.next ++ leBytes 8 (nums.headD 0) ++ leBytes 8 (nums.getLastD 0) ++ leBytes 4 j.inStaging ++
    leBytes 4 j.nvGaps ++ leBytes 4 j.ringGaps ++ zeros 12

/-- The checks of STATUS (16 R555). -/
def journalStatusChecks (c : RingCmd) (s : State) : Checks :=
  let va := bufferVa c.e 0x20
  { layout := bufferChk c.e 0x20 :: jcLayout c.e [(0x20, 8)], ranges := [(0x20, va % 64 != 0)]
    handles := s.addrStatus c.p va 64 0x20 }

/-- What an accepted STATUS (16 R555) does. -/
def journalStatusEffect (c : RingCmd) (s : State) : State × Done :=
  let va := bufferVa c.e 0x20
  s.queueBlock c va s.journalBlock

/-- STATUS (16 R555). -/
def execJournalStatus (t : Nat) (c : RingCmd) (s : State) : Host.Outcome State Fault Refusal :=
  (s.elapse t).command c 0x4B (journalStatusChecks c) (journalStatusEffect c)

end Sys2Proof.Machine
end

