-- ==== Sys2Proof/Machine/Ports.lean ====
section
/-!
DEFINITION. What happens on a host port: writes of its host, its link, its interrupts, its polls and its errors
(02_host_ports, 03 R95 to R100, 21_setup_registers).
-/

namespace Sys2Proof.Machine

/-! ### Writes of the host (02 R44 to R46, 21) -/

/-- A write of one doubleword of the MSI-X table (02 R44, R66): address low, address high, data, vector control. -/
def State.msixWrite (s : State) (p off v : Nat) : State :=
  let n := (off - 0x8000) / 16
  let put (f : MsixEntry → MsixEntry) : State :=
    s.modPort p (fun x => { x with msixTable := tabMod MsixEntry.reset x.msixTable n f })
  match (off - 0x8000) / 4 % 4 with
  | 0 => put (fun e => { e with addr := e.addr / 2 ^ 32 * 2 ^ 32 + v / 4 * 4 })
  | 1 => put (fun e => { e with addr := e.addr % 2 ^ 32 + v * 2 ^ 32 })
  | 2 => put (fun e => { e with data := v })
  | _ => if nbit v 0 then put (fun e => { e with masked := true }) else s.unmaskVector p n

/-- A write of 4 bytes to BAR0 (02 R44). -/
def State.bar0Write (s : State) (p off v : Nat) : State :=
  if s.mode == .dark then s
  else if off < 0x1000 then s.setupWrite p off v
  else if off = 0x1000 then s.kick p
  else if 0x8000 ≤ off then s.msixWrite p off v
  else s

/-- A memory request breaks 02 R45: reads are answered with Completer Abort, writes discarded, both logged as advisory. -/
def State.badAccess (s : State) (p : Nat) (read : Bool) (header : Nat) : State :=
  let s1 := if read then s.say (.answer p .completerAbort) else s
  s1.aerAdvise p aerCompleterAbort header

/-- The port's link is up and it answers requests in full (02 R54). -/
def State.answers (s : State) (p : Nat) : Bool := (s.port p).link == .up && (s.port p).ready

/-- Bytes of a Max_Payload_Size code of Device Control, at most the 1,024 supported (02 R42). -/
def mpsOf (code : Nat) : Nat := min 1024 (128 * 2 ^ code)

/-- A configuration request of the host: with the link up it is answered, with Request Retry Status until the port is ready (02 R54,
R56, R57). -/
def State.configRequest (s : State) (p : Nat) (f : State → State) : State :=
  if (s.port p).link != .up then s
  else if !(s.port p).ready then s.say (.answer p .retryStatus)
  else f s

/-- A memory request of the host to BAR0 of a port that is ready: an Unsupported Request while Memory Space Enable is 0, with the
header of its TLP (02 R46, R54, R71). -/
def State.memoryRequest (s : State) (p : Nat) (header : BitVec 128) (f : State → State) : State :=
  if !s.answers p then s
  else if !(s.port p).mse then s.aerUncorrectable p aerUnsupported header.toNat
  else f s

/-- KICK: a write to BAR0 offset 0x1000 (03 R100, 02 R61). -/
def execKick (t : Nat) (w : HostTlp) (s : State) : Host.Outcome State Fault Refusal :=
  .next ((s.elapse t).memoryRequest w.port w.header (fun u => u.bar0Write w.port 0x1000 0))

/-- A write of a SETUP_CONTROL action by the host (21 R669): it reaches the register as any BAR0 write does. -/
def State.hostAction (s : State) (w : HostTlp) (a : SetupAction) : State :=
  s.memoryRequest w.port w.header (fun u => u.setupAction w.port a)

/-- BRING_UP (21 R669). -/
def execBringUp (t : Nat) (w : HostTlp) (s : State) : Host.Outcome State Fault Refusal :=
  .next ((s.elapse t).hostAction w .bringUp)

/-- TAKE_DOWN (21 R669). -/
def execTakeDown (t : Nat) (w : HostTlp) (s : State) : Host.Outcome State Fault Refusal :=
  .next ((s.elapse t).hostAction w .takeDown)

/-- RESTART_RING0 (21 R669). -/
def execRestartRing0 (t : Nat) (w : HostTlp) (s : State) : Host.Outcome State Fault Refusal :=
  .next ((s.elapse t).hostAction w .restartRing0)

/-- RESTART_RING1 (21 R669). -/
def execRestartRing1 (t : Nat) (w : HostTlp) (s : State) : Host.Outcome State Fault Refusal :=
  .next ((s.elapse t).hostAction w .restartRing1)

/-- SETUP_ACTION_COMPLETE: BUSY clears (21 R669). -/
def execSetupActionComplete (t : Nat) (p : Fin 4) (s : State) : Host.Outcome State Fault Refusal :=
  .next ((s.elapse t).modPort p (fun x => { x with busy := none }))

/-! ### Link and readiness (02 R54 to R57) -/

/-- A rate of 02 R42 in units of 0.1 GT/s. -/
def legalRate (r : Nat) : Bool := [25, 50, 80, 160, 320, 640].contains r

/-- A width of 02 R42. -/
def legalWidth (w : Nat) : Bool := [1, 2, 4, 8, 16].contains w

/-- LINK_UP: training completes; configuration requests are answered with Request Retry Status until ready (02 R54). -/
def execLinkUp (t : Nat) (p : Fin 4) (rate width : Nat) (s : State) : Host.Outcome State Fault Refusal :=
  let s1 := s.elapse t
  let x := s1.port p
  if x.link != .up && s1.start.pll && x.refClk && legalRate rate && legalWidth width then
    .next ((s1.setPort p { x with link := .up, rate := rate, width := width, fullWidth := width }).reportDegraded p)
  else .next s1

/-- The port becomes ready: it sends a DRS Message when that is enabled, and logs failed firmware (02 R54, R55). -/
def State.becomeReady (s : State) (p : Nat) : State :=
  let x := s.port p
  let s1 := s.setPort p { x with ready := true, flrUntil := none }
  let s2 := if x.drsEnable then s1.say (.drs p) else s1
  if s2.start.fw == .failed then s2.aerUncorrectable p aerInternal 0 else s2

/-- PORT_READY (02 R54 to R56). -/
def execPortReady (t : Nat) (p : Fin 4) (s : State) : Host.Outcome State Fault Refusal :=
  let s1 := s.elapse t
  let x := s1.port p
  if x.link == .up && !x.ready && x.flrUntil.isNone && s1.mode != .keep then .next (s1.becomeReady p) else .next s1

/-- FLR_COMPLETE: the function-level reset ends and configuration requests complete again (02 R57). -/
def execFlrComplete (t : Nat) (p : Fin 4) (s : State) : Host.Outcome State Fault Refusal :=
  let s1 := s.elapse t
  let x := s1.port p
  if x.flrUntil.isSome then .next (s1.setPort p { x with ready := true, flrUntil := none }) else .next s1

/-- The port is in D0 again: it keeps all state and writes what it held (02 R58). -/
def State.d0Return (s : State) (p : Nat) : State :=
  let x := s.port p
  if x.d3hot then (s.setPort p { x with d3hot := false }).flushPort p else s

/-- D0_RETURN (02 R58). -/
def execD0Return (t : Nat) (p : Fin 4) (s : State) : Host.Outcome State Fault Refusal :=
  .next ((s.elapse t).configRequest p (fun u => u.d0Return p))

/-- Bus Master Enable is set: fetching resumes within 1 µs and what was held is written (02 R59). -/
def State.masterOn (s : State) (p : Nat) : State :=
  let x := s.port p
  if x.bme then s else (s.setPort p { x with bme := true, nextPoll := min x.nextPoll (s.ns + 1000) }).flushPort p

/-- BUS_MASTER_ENABLE (02 R59). -/
def execBusMasterEnable (t : Nat) (p : Fin 4) (s : State) : Host.Outcome State Fault Refusal :=
  .next ((s.elapse t).configRequest p (fun u => u.masterOn p))

/-! ### Interrupts (02 R66 to R70) -/

/-- Interrupt Disable is set: Deassert_INTA when INTA is asserted, and Interrupt Status clears (02 R67); after its ERR_FATAL of Dark
the port sends no message (02 R74). -/
def State.intOff (s : State) (p : Nat) : State :=
  let x := s.port p
  let s1 := s.setPort p { x with intDisable := true, intStatus := false, intaRings := [] }
  if x.intStatus && !x.silent then s1.say (.intx p false) else s1

/-- MSI-X Enable is cleared: the rings whose message waits on its vector count as fired while interrupts were off, so that no firing is
dropped (02 R68, R70). -/
def State.msixOff (s : State) (p : Nat) : State :=
  s.modPort p (fun x =>
    { x with msixEnable := false, vecWait := []
             rings := tabMap x.rings (fun _ r => if r.live && (tabFind x.vecWait r.vector).isSome then { r with fired := true } else r) })

/-- MSI-X Enable is set: pending messages whose vectors are not masked are sent (02 R66, R68). -/
def State.msixOn (s : State) (p : Nat) : State := (s.modPort p (fun x => { x with msixEnable := true })).flushPending p

/-- MSI-X Enable and Interrupt Disable are written; rings that fired while interrupts were off are signalled once (02 R68). -/
def State.enableWrite (s : State) (p : Nat) (msix disable : Bool) : State :=
  let s1 := if disable then s.intOff p else s.modPort p (fun x => { x with intDisable := false })
  let s2 := if msix then s1.msixOn p else s1.msixOff p
  if msix || !disable then s2.signalFired p else s2

/-- INTERRUPT_ENABLE_CHANGE (02 R68). -/
def execInterruptEnableChange (t : Nat) (p : Fin 4) (msix disable : Bool) (s : State) :
    Host.Outcome State Fault Refusal :=
  .next ((s.elapse t).configRequest p (fun u => u.enableWrite p msix disable))

/-- INTERRUPT_DISABLE (02 R67). -/
def execInterruptDisable (t : Nat) (p : Fin 4) (s : State) : Host.Outcome State Fault Refusal :=
  .next ((s.elapse t).configRequest p (fun u => u.intOff p))

/-- MSIX_VECTOR_UNMASK: a pending message is sent once (02 R66). -/
def execMsixVectorUnmask (t : Nat) (w : HostTlp) (v : Fin 2048) (s : State) :
    Host.Outcome State Fault Refusal :=
  .next ((s.elapse t).memoryRequest w.port w.header (fun u => if u.mode == .dark then u else u.unmaskVector w.port v))

/-- HOLDOFF_EXPIRY: the interrupt for the unannounced entries is sent (02 R69). -/
def execHoldoffExpiry (t : Nat) (p : Fin 4) (r : Fin 1024) (s : State) : Host.Outcome State Fault Refusal :=
  let s1 := s.elapse t
  let q := s1.ring p r
  if q.live && q.timer.isSome && s1.due q.timer then
    .next ((s1.setRing p r { q with timer := none, count := 0 }).fireRing p r)
  else .next s1

/-- MSIX_SPACING_EXPIRY: the waiting message is sent 100 ns after the one before it (02 R70). -/
def execMsixSpacingExpiry (t : Nat) (p : Fin 4) (v : Fin 2048) (s : State) : Host.Outcome State Fault Refusal :=
  let s1 := s.elapse t
  let x := s1.port p
  match tabFind x.vecWait v with
  | some due =>
    if due ≤ s1.ns && x.canSignal then .next ((s1.setPort p { x with vecWait := tabDel x.vecWait v }).sendVector p v)
    else .next s1
  | none => .next s1

/-! ### Errors (02 R71) -/

/-- The AER bit of a bad TLP (02 R71). -/
def tlpErrorBit : TlpError → Nat
  | .malformed => aerMalformed | .ecrc => aerEcrc | .flowControl => aerFlowControl | .dataLink => aerDataLink

/-- MALFORMED_TLP: an ECRC error counts only with checking enabled (02 R71). -/
def execMalformedTlp (t : Nat) (p : Fin 4) (k : TlpError) (header : BitVec 128) (s : State) :
    Host.Outcome State Fault Refusal :=
  let s1 := s.elapse t
  let x := s1.port p
  let own := k == .flowControl || k == .dataLink
  if x.link == .up && (k != .ecrc || x.ecrcCheck) then
    .next (s1.aerUncorrectable p (tlpErrorBit k) (if own then 0 else header.toNat))
  else .next s1

/-- UNSUPPORTED_REQUEST (02 R46, R71). -/
def execUnsupportedRequest (t : Nat) (p : Fin 4) (k : BadRequest) (header : BitVec 128) (s : State) :
    Host.Outcome State Fault Refusal :=
  let s1 := s.elapse t
  if s1.answers p && (k != .memorySpaceOff || !(s1.port p).mse) then
    .next ((s1.say (.answer p .unsupported)).aerUncorrectable p aerUnsupported header.toNat)
  else .next s1

/-- COMPLETER_ABORT: a BAR0 access of wrong size or alignment (02 R45, R71). -/
def execCompleterAbort (t : Nat) (p : Fin 4) (read : Bool) (header : BitVec 128) (s : State) :
    Host.Outcome State Fault Refusal :=
  let s1 := s.elapse t
  if s1.answers p && (s1.port p).mse then .next (s1.badAccess p read header.toNat) else .next s1

/-- POISONED_TLP_RECEIVED: a poisoned write to BAR0 is discarded and reported as advisory (02 R71). -/
def execPoisonedTlpReceived (t : Nat) (p : Fin 4) (header : BitVec 128) (s : State) : Host.Outcome State Fault Refusal :=
  let s1 := s.elapse t
  if s1.answers p && (s1.port p).mse then .next (s1.aerAdvise p aerPoisoned header.toNat) else .next s1

/-- UNEXPECTED_COMPLETION: discarded and reported (02 R71). -/
def execUnexpectedCompletion (t : Nat) (p : Fin 4) (header : BitVec 128) (s : State) : Host.Outcome State Fault Refusal :=
  let s1 := s.elapse t
  if (s1.port p).link == .up then .next (s1.aerUncorrectable p aerUnexpected header.toNat) else .next s1

/-- The ring that a read source names; the summary bitmap belongs to none. -/
def readSourceRing : ReadSource → Option Nat
  | .entry r | .index r | .replay r => some r
  | .summary => none

/-- The port makes reads of this source (02 R71). -/
def State.readsSource (s : State) (p : Nat) (x : ReadSource) : Bool :=
  s.canFetch p && (match x with
    | .entry r => (s.ring p r).live && hostFilled (s.ring p r).kind
    | .index r => (s.ring p r).live
    | .replay r => (s.ring p r).live && (s.ring p r).kind == 7
    | .summary => (s.port p).doorbell)

/-- The ring of a read that has failed three times is faulted; a read of the summary bitmap is for no ring, and only the error is
reported (02 R71; DESIGN CHOICE, entry 88). -/
def State.readFails (s : State) (p : Nat) (x : ReadSource) : State :=
  match readSourceRing x with
  | some i => s.faultRing p i 2
  | none => s

/-- HOST_READ_FAILURE: `tries` reads of three failed; with fewer a repetition succeeded (02 R71, 03 R116). -/
def execHostReadFailure (t : Nat) (p : Fin 4) (x : ReadSource) (tries : Nat) (timeout : Bool) (header : BitVec 128)
    (s : State) : Host.Outcome State Fault Refusal :=
  let s1 := s.elapse t
  let bit := if timeout then aerTimeout else aerPoisoned
  let h := if timeout then 0 else header.toNat
  if !s1.readsSource p x || tries = 0 then .next s1
  else if tries < 3 then .next (s1.aerAdvise p bit h)
  else .next ((s1.aerUncorrectable p bit h).readFails p x)

/-! ### Polls (03 R98, 02 R61) -/

/-- A stream delivers through port p: it is Running or Stopping there, or frames before the boundary of its move still leave through
the port (02 R60, 14 R502). -/
def State.delivers (s : State) (p : Nat) : Bool :=
  s.streams.any (fun x => x.2.active && (x.2.owner = some p || x.2.frames.any (fun f => x.2.portFor f.number = p)))

/-- An auxiliary mover reads an image or a list from the host of port p: a non-posted request is outstanding (02 R60, 14 R479). -/
def State.auxReads (s : State) (p : Nat) : Bool :=
  s.aux.any (fun x => x.2.runs && (match x.2.queue.head? with
    | some (.image c _) | some (.mapList c _) => c.ring / 1024 = p
    | _ => false))

/-- The conditions of 02 R60 without its 20 µs. -/
def State.quiet (s : State) (p : Nat) : Bool :=
  let x := s.port p
  x.aspmL1 && !s.delivers p && !s.auxReads p && x.vecWait.isEmpty && x.pba.isEmpty

/-- The port polls as an idle port (02 R60, R61). -/
def State.idlePolls (s : State) (p : Nat) : Bool :=
  (s.port p).inL1 && s.quiet p && (s.port p).lastActive + 20000 ≤ s.ns

/-- ASPM_L1_ENTRY: the link enters L1 and the next poll begins 100 µs after the last (02 R60, R61). -/
def execAspmL1Entry (t : Nat) (p : Fin 4) (s : State) : Host.Outcome State Fault Refusal :=
  let s1 := s.elapse t
  let x := s1.port p
  if s1.answers p && !x.inL1 && s1.quiet p && x.lastActive + 20000 ≤ s1.ns then
    .next ((s1.setPort p { x with inL1 := true, nextPoll := x.nextPoll + 100000 - 50 * x.pollInterval }).say (.l1 p))
  else .next s1

/-- Rings that the FV8128 fills may have room again: the journal ring and the record rings take what waits (16 R548, R559). -/
def State.refill (s : State) : State := (s.ringTakes).recorderFlush

/-- POLL: the index words are read, POLL_EPOCH is written and hand-backs are taken (03 R98). -/
def execPoll (t : Nat) (p : Fin 4) (ws : List (Nat × BitVec 32)) (s : State) : Host.Outcome State Fault Refusal :=
  let s1 := s.elapse t
  if s1.pollAllowed p && !s1.idlePolls p then
    .next (((s1.modPort p (fun x => { x with inL1 := false })).poll p ws (s1.ns + 50 * (s1.port p).pollInterval)).refill)
  else .next s1

/-- IDLE_POLL: the next poll follows after 100 µs unless this one finds work (02 R61). -/
def execIdlePoll (t : Nat) (p : Fin 4) (ws : List (Nat × BitVec 32)) (s : State) : Host.Outcome State Fault Refusal :=
  let s1 := s.elapse t
  let x := s1.port p
  if s1.pollAllowed p && s1.idlePolls p then
    if x.hasWork ws then
      .next (((s1.setPort p { x with inL1 := false }).poll p ws (s1.ns + 50 * x.pollInterval)).refill)
    else .next ((s1.poll p ws (s1.ns + 100000)).refill)
  else .next s1

end Sys2Proof.Machine
end

