-- ==== Sys2Proof/Machine/Trigger.lean ====
section
/-!
DEFINITION. The commands of the Lamplighter and what happens in it (12_triggering).
-/

namespace Sys2Proof.Machine

/-! ### SEQ_LOAD (12 R420 to R424) -/

/-- The layout of slot descriptor k (12 R421). -/
def seqSlotChecks (l : List Byte) (k : Nat) : List Chk :=
  let o := 0x20 + 8 * k
  let pos := lbits l o 1 0 1 = 1
  irsvBytes l (o + 2) (o + 8) ++
  (if pos then [(o + 1, 0, lbits l o 1 2 1 = 0 && lfld l (o + 1) 1 != 0)] else [irsv l o 1 1 7, irsv l (o + 1) 1 0 8])

/-- The layout of an action word (12 R423): fields its OP does not use are reserved. -/
def seqActionChecks (l : List Byte) (o : Nat) : List Chk :=
  let op := lbits l o 1 0 4
  [(o, 1, 0xB ≤ op), (o, 0, !([3, 4, 5, 6, 8, 9].contains op) && lbits l o 1 4 3 != 0),
    (o, 0, !([1, 3, 5].contains op) && lbits l o 1 7 1 != 0),
    (o + 1, 0, !([1, 2, 3, 5, 8].contains op) && lbits l (o + 1) 1 0 4 != 0), irsv l (o + 1) 1 4 4,
    (o + 2, 0, !([1, 2, 7].contains op) && lfld l (o + 2) 1 != 0), irsv l (o + 3) 1 0 8]

/-- The layout of a transition (12 R422). -/
def seqTransChecks (l : List Byte) (o : Nat) : List Chk :=
  let kind := lbits l o 1 0 4
  if kind = 0 then irsv l o 1 4 4 :: irsvBytes l (o + 1) (o + 16)
  else
    ([(o, 1, 7 ≤ kind), irsv l o 1 4 4, (o + 1, 0, kind = 6 && lfld l (o + 1) 1 != 0),
      if kind = 3 then enc (o + 2) (lbits l (o + 2) 1 0 2 = 3) else irsv l (o + 2) 1 0 2, irsv l (o + 2) 1 2 6,
      irsv l (o + 3) 1 6 2] : List Chk) ++
    seqActionChecks l (o + 4) ++ seqActionChecks l (o + 8) ++ seqActionChecks l (o + 12)

/-- NEXT, SRC_INDEX and ARG of a transition are in range (12 R424). -/
def seqTransFaults (l : List Byte) (states o : Nat) : List (Nat × Bool) :=
  let kind := lbits l o 1 0 4
  let limit := [1, 8, 4, 48, 256, 2, 1].getD kind 256
  let arg (a : Nat) : Nat × Bool :=
    let op := lbits l a 1 0 4
    (a, lbits l a 1 4 3 ≥ (if op = 5 || op = 6 then 4 else if op = 8 || op = 9 then 2 else 8))
  if kind = 0 then [] else [(o + 1, limit ≤ lfld l (o + 1) 1), (o + 3, states ≤ lbits l (o + 3) 1 0 6), arg (o + 4),
    arg (o + 8), arg (o + 12)]

/-- The checks of a sequencer image (12 R420 to R424, 05 R675). -/
def seqImageChecks (l : List Byte) : ImageChecks :=
  let n := lfld l 2 1
  let m := min n ((l.length - 224) / 64)
  let trans := (List.range (4 * m)).map (fun k => 0xE0 + 16 * k)
  { head := [(0, 1, lfld l 0 2 != 0x0200), irsv l 3 1 0 8] ++ irsvBytes l 0xC 0x20
    headFaults := []
    body := (List.range 8).flatMap (seqSlotChecks l) ++ trans.flatMap (seqTransChecks l)
    counts := [(2, n = 0 || 64 < n)]
    implied := 224 + 64 * n
    rest := imageFaults (trans.flatMap (seqTransFaults l n)) }

/-- The image of a SEQ_LOAD has been read: it is checked and replaces the table (12 R424). -/
def State.seqLoaded (s : State) (p : Nat) (e : Entry) (d : HostData) : State × Status :=
  let q := bitsAt e 8 1 0 5
  let len := fld e 0x18 4
  let l := imageBytes d len
  let x := s.seqr q
  match firstSome [ownerStatus x.owner p, if x.running then some (s.badState 0x30) else none,
      (seqImageChecks l).first d l 0x20 len] with
  | some st => (s, st)
  | none => (s.setSeq q { Sequencer.reset with owner := some p, image := l, reports := x.reports }, .success)

/-- The checks of SEQ_LOAD (12 R424). -/
def seqLoadChecks (c : RingCmd) (s : State) : Checks :=
  let e := c.e
  let x (s : State) : Sequencer := s.seqr (bitsAt e 8 1 0 5)
  let va := bufferVa e 0x10
  { layout := [rsv e 8 1 5 3, bufferChk e 0x10] ++ restRsv e [(8, 1), (0x10, 12)]
    ranges := [(0x10, va % 64 != 0)]
    owner := ownerStatus (x s).owner c.p, handles := s.addrStatus c.p va (fld e 0x18 4) 0x10
    state := if (x s).running then some (s.badState 0x30) else none }

/-- What an accepted SEQ_LOAD (12 R424) does. -/
def seqLoadEffect (c : RingCmd) (s : State) : State × Done :=
  s.queueImage c

/-- SEQ_LOAD (12 R424): it waits for its image. -/
def execSeqLoad (t : Nat) (c : RingCmd) (s : State) : Host.Outcome State Fault Refusal :=
  (s.elapse t).command c 0x3A (seqLoadChecks c) (seqLoadEffect c)

/-! ### TARGET_CONFIG (12 R430, R443, R444) -/

/-- The descriptor of a TARGET_CONFIG (12 R430). -/
def targetOf (e : Entry) : TargetCfg :=
  { kind := bitsAt e 9 1 0 2, polarity := bitAt e 9 2, drop := bitAt e 9 3, control := bitsAt e 9 1 4 2
    lineMatch := bitAt e 9 6, scheduled := bitAt e 9 7, lane := bitsAt e 0xA 1 0 7, input := bitsAt e 0xB 1 0 3
    sensor := fld e 0xC 1, sconce := bitsAt e 0xE 2 0 9, sconceEn := bitsAt e 0xE 2 15 1 = 1, minWidth := fld e 0x10 4
    maxWidth := fld e 0x14 4, width := fld e 0x18 4, minInterval := fld e 0x1C 4, latency := fld e 0x20 4
    delay := fld e 0x24 4, window := fld e 0x28 4 }

/-- The layout of TARGET_CONFIG (12 R430). -/
def targetLayout (e : Entry) : List Chk :=
  let c := targetOf e
  let down := c.kind = 1
  let pulse := c.kind = 2
  [enc 9 (c.kind = 3), enc 9 (c.control = 3), (9, 0, down && c.polarity), (9, 0, pulse && c.scheduled), rsv e 0xA 1 7 1,
    (0xA, 0, pulse && nbit c.lane 6), rsv e 0xB 1 3 5, (0xB, 0, pulse && c.input != 0), rsvIf pulse e 0xC 1,
    rsv e 0xD 1 0 8, rsv e 0xE 2 9 6, rsvIf down e 0x10 4, rsvIf down e 0x14 4, rsvIf down e 0x18 4,
    rsvIf (!c.sconceEn) e 0x28 4] ++ restRsv e [(8, 0x24)]

/-- The ranges of TARGET_CONFIG (12 R430, R444). A condition of two fields names the lower of their offsets (03 R112). -/
def State.targetRanges (s : State) (e : Entry) : List (Nat × Bool) :=
  let c := targetOf e
  let pulse := c.kind = 2
  let merged := (s.lane c.lane).mode == .merged
  [(0xA, pulse && 48 ≤ c.lane),
    (0xC, c.kind = 1 && (if merged then 15 < c.sensor && c.sensor != 0xFF else c.sensor != 0)),
    (0x10, pulse && (c.minWidth < 8 || c.maxWidth < c.minWidth)), (0x14, pulse && c.minInterval < c.maxWidth + 16),
    (0x20, 4000000 < c.latency), (0x24, 4000000 < c.delay), (0x28, c.sconceEn && c.window = 0)]

/-- A running sequencer's table names the target, or a fire of it is pending (12 R444). -/
def State.targetBusy (s : State) (g : Nat) : Bool :=
  s.seqs.any (fun q => q.2.running && q.2.firesOf.contains g) || 0 < s.pendingFires (s.target g)

/-- A line that its target no longer drives shows its static level (12 R442). -/
def State.lineStatic (s : State) (g : Nat) : State := s.drive g s.dt256 (s.gioLine g).level

/-- TARGET_CONFIG accepted (12 R430, R444). A pulse in progress on a line that the target gives up is cut with it. -/
def State.targetConfig (s : State) (p g : Nat) (c : TargetCfg) : State :=
  let x := s.target g
  let held := x.cfg.kind = 2 && c.kind = 2 && x.cfg.lane = c.lane
  let s1 := if x.cfg.kind = 2 && !held then s.lineStatic x.cfg.lane else s
  let s2 := if c.kind = 2 && (!held || x.pulse.isNone) && !s.silentOutputs then s1.drive c.lane s.dt256 c.polarity else s1
  let drop (t : State) : State :=
    { t with sconces := tabMap t.sconces (fun _ k => { k with fires := k.fires.filter (fun f => f.target != g) }) }
  let pulse := if held then x.pulse else none
  let handover := if c.control = x.cfg.control then x.handover else none
  if c.kind = 0 then (drop s2).setTarget g { Target.reset with reports := x.reports }
  else if c.kind != x.cfg.kind then
    (drop s2).setTarget g { x with owner := some p, cfg := c, pulse := pulse, handover := handover, counters := [], fires := 0 }
  else s2.setTarget g { x with owner := some p, cfg := c, pulse := pulse, handover := handover }

/-- The checks of TARGET_CONFIG (12 R430, R443, R444). -/
def targetConfigChecks (c : RingCmd) (s : State) : Checks :=
  let g := fld c.e 8 1
  let k := targetOf c.e
  let x := s.target g
  let differs := k.kind != x.cfg.kind || k.lane != x.cfg.lane || k.input != x.cfg.input || k.sensor != x.cfg.sensor ||
    k.control != x.cfg.control || k.kind = 0
  let mine := x.cfg.kind = 2 && x.cfg.lane = k.lane
  { layout := targetLayout c.e, ranges := s.targetRanges c.e
    owner := firstSome [ownerStatus x.owner c.p,
      if k.sconceEn then ownerStatus (tabGet Sconce.reset s.sconces k.sconce).owner c.p else none,
      if k.kind = 2 then ownerStatus (s.gioLine k.lane).owner c.p else none]
    state := firstSome [
      if k.sconceEn && !(tabGet Sconce.reset s.sconces k.sconce).configured then some (s.badState 0x0D) else none,
      if k.kind = 1 && (s.lane k.lane).mode == .ethernet then some (s.badState (s.lane k.lane).st.code) else none,
      if x.cfg.kind != 0 && differs && s.targetBusy g then some (s.badState 0x31) else none,
      if k.kind = 2 && ((s.gioLine k.lane).dir != 1 || (s.lineDriven k.lane && !mine)) then some (s.badState 0x21)
      else none] }

/-- What an accepted TARGET_CONFIG (12 R430, R443, R444) does. -/
def targetConfigEffect (c : RingCmd) (s : State) : State × Done :=
  let g := fld c.e 8 1
  let k := targetOf c.e
  (s.targetConfig c.p g k, .ok)

/-- TARGET_CONFIG (12 R430, R443, R444). -/
def execTargetConfig (t : Nat) (c : RingCmd) (s : State) : Host.Outcome State Fault Refusal :=
  (s.elapse t).command c 0x3B (targetConfigChecks c) (targetConfigEffect c)

/-! ### TRIGGER_ARM and TRIGGER_HANDOVER (12 R429, R440) -/

/-- The layout that every TRIGGER_ARM has (12 R429). -/
def armHead (e : Entry) (slot : Bool) : List Chk :=
  [rsv e 8 1 3 5, rsv e 9 1 5 3, rsv e 0xA 1 3 5, rsvIf (!slot) e 0xA 1] ++ restRsv e [(8, 3), (0x10, 9)]

/-- The sequencer of a TRIGGER_ARM. -/
def armSeq (e : Entry) : Nat := bitsAt e 9 1 0 5

/-- The checks of TRIGGER_START (12 R429). -/
def triggerStartChecks (c : RingCmd) (s : State) : Checks :=
  let q := armSeq c.e
  let v := fld c.e 0x10 8
  let target (s : State) : Int := if v = 0 then 256 * (s.dt + 16) else 256 * v
  let x := s.seqr q
  let names := if x.image.isEmpty then [] else x.firesOf
  { layout := armHead c.e false ++ [rsv c.e 0x18 1 0 8]
    owner := firstSome (ownerStatus x.owner c.p :: names.map (fun g => ownerStatus (s.target g).owner c.p))
    state := firstSome [if x.image.isEmpty then some (s.badState 0x35) else none,
      if x.running then some (s.badState 0x30) else none,
      if names.any (fun g => (s.target g).cfg.kind = 0) then some (s.badState 0x32) else none,
      if (armTime (target s) (256 * s.dt)).isNone then some (Status.target 0x10) else none] }

/-- What an accepted TRIGGER_START (12 R429) does. -/
def triggerStartEffect (c : RingCmd) (s : State) : State × Done :=
  let q := armSeq c.e
  let v := fld c.e 0x10 8
  let target (s : State) : Int := if v = 0 then 256 * (s.dt + 16) else 256 * v
  let at_ := match armTime (target s) (256 * s.dt) with
    | some y => (match y.fire with | some f => f.1 | none => 0)
    | none => 0
  (s.setSeq q { s.seqr q with owner := some c.p, running := true, startAt := some at_, st := 0, busyUntil := 0, haps := [] },
    .ok)

/-- TRIGGER_START (12 R429). -/
def execTriggerStart (t : Nat) (c : RingCmd) (s : State) : Host.Outcome State Fault Refusal :=
  (s.elapse t).command c 0x3C (triggerStartChecks c) (triggerStartEffect c)

/-- The checks of TRIGGER_HALT (12 R429). -/
def triggerHaltChecks (c : RingCmd) (s : State) : Checks :=
  let q := armSeq c.e
  { layout := armHead c.e false ++ [rsv c.e 0x18 1 0 8], owner := ownerStatus (s.seqr q).owner c.p }

/-- What an accepted TRIGGER_HALT (12 R429) does. -/
def triggerHaltEffect (c : RingCmd) (s : State) : State × Done :=
  let q := armSeq c.e
  (s.haltReport q, .ok)

/-- TRIGGER_HALT (12 R429). -/
def execTriggerHalt (t : Nat) (c : RingCmd) (s : State) : Host.Outcome State Fault Refusal :=
  (s.elapse t).command c 0x3C (triggerHaltChecks c) (triggerHaltEffect c)

/-- The compare that a TRIGGER_ARM arms: none when its target is out of range (10 R361, 11 R408). -/
def State.slotArm (s : State) (e : Entry) : Option SeqSlot :=
  let x := s.seqr (armSeq e)
  let k := bitsAt e 0xA 1 0 3
  let v := fld e 0x10 8
  if x.slotPos k then
    armPosition (s.enc (x.slotEnc k)) (nbits v 0 32 * 256 + nbits v 32 8) (256 * s.dt) (x.slotRev k)
  else armTime (256 * v + fld e 0x18 1) (256 * s.dt)

/-- The checks of TRIGGER_SLOT_ARM (12 R429). -/
def triggerSlotArmChecks (c : RingCmd) (s : State) : Checks :=
  let e := c.e
  let q := armSeq e
  let k := bitsAt e 0xA 1 0 3
  let x := s.seqr q
  let pos := x.slotPos k
  { layout := armHead e true ++
      (if pos then [rsv e 0x10 8 40 24, rsv e 0x18 1 0 8]
       else [enc 0x18 (bitsAt e 0x18 1 0 6 != 0)])
    owner := ownerStatus x.owner c.p
    state := firstSome [if x.image.isEmpty then some (s.badState 0x35) else none,
      if pos && (s.enc (x.slotEnc k)).cfg.mode = 0 then some (s.badState 0x36) else none,
      if (s.slotArm e).isNone then some (Status.target 0x10) else none] }

/-- What an accepted TRIGGER_SLOT_ARM (12 R429) does. -/
def triggerSlotArmEffect (c : RingCmd) (s : State) : State × Done :=
  let e := c.e
  let q := armSeq e
  let k := bitsAt e 0xA 1 0 3
  match s.slotArm e with
  | some y => ((s.setSeq q { s.seqr q with slots := tabPut (s.seqr q).slots k y }).journalArm q k (256 * s.dt), .ok)
  | none => (s, .ok)

/-- TRIGGER_SLOT_ARM (12 R429). -/
def execTriggerSlotArm (t : Nat) (c : RingCmd) (s : State) : Host.Outcome State Fault Refusal :=
  (s.elapse t).command c 0x3C (triggerSlotArmChecks c) (triggerSlotArmEffect c)

/-- The checks of TRIGGER_SLOT_DISARM (12 R429). -/
def triggerSlotDisarmChecks (c : RingCmd) (s : State) : Checks :=
  let q := armSeq c.e
  { layout := armHead c.e true ++ [rsv c.e 0x18 1 0 8], owner := ownerStatus (s.seqr q).owner c.p }

/-- What an accepted TRIGGER_SLOT_DISARM (12 R429) does. -/
def triggerSlotDisarmEffect (c : RingCmd) (s : State) : State × Done :=
  let q := armSeq c.e
  let k := bitsAt c.e 0xA 1 0 3
  let x := s.seqr q
  (s.setSeq q { x with slots := tabPut x.slots k { x.slot k with armed := none, fire := none, raw := none } }, .ok)

/-- TRIGGER_SLOT_DISARM (12 R429). -/
def execTriggerSlotDisarm (t : Nat) (c : RingCmd) (s : State) : Host.Outcome State Fault Refusal :=
  (s.elapse t).command c 0x3C (triggerSlotDisarmChecks c) (triggerSlotDisarmEffect c)

/-- The checks of TRIGGER_HANDOVER (12 R440). -/
def triggerHandoverChecks (c : RingCmd) (s : State) : Checks :=
  let g := fld c.e 8 1
  let new := bitsAt c.e 9 1 0 2
  let th := fld c.e 0x10 8
  let x := s.target g
  let d := toInt 64 (th + 2 ^ 64 - s.dt % 2 ^ 64)
  { layout := [enc 9 (new = 0 || new = 3), rsv c.e 9 1 2 6] ++ restRsv c.e [(8, 2), (0x10, 8)]
    owner := ownerStatus x.owner c.p
    state := firstSome [if x.cfg.control = 0 || x.cfg.control = new then some (s.badState 0x33) else none,
      if x.handover.isSome then some (s.badState 0x34) else none,
      if d < 1000 || (2 : Int) ^ 47 ≤ d then some (Status.target 0x10) else none] }

/-- What an accepted TRIGGER_HANDOVER (12 R440) does. -/
def triggerHandoverEffect (c : RingCmd) (s : State) : State × Done :=
  let g := fld c.e 8 1
  let new := bitsAt c.e 9 1 0 2
  let th := fld c.e 0x10 8
  (s.setTarget g { s.target g with handover := some (th, new) }, .ok)

/-- TRIGGER_HANDOVER (12 R440). -/
def execTriggerHandover (t : Nat) (c : RingCmd) (s : State) : Host.Outcome State Fault Refusal :=
  (s.elapse t).command c 0x3D (triggerHandoverChecks c) (triggerHandoverEffect c)

/-! ### GIO_CONFIG (12 R442, R443) -/

/-- GIO_CONFIG accepted. -/
def State.gioConfig (s : State) (p g : Nat) (e : Entry) : State :=
  let dir := bitsAt e 9 1 0 2
  let x := s.gioLine g
  if dir = 2 then s.setGio g { Gio.reset with seen := x.seen, moved := x.moved }
  else
    let y := { x with owner := some p, dir := dir, level := bitAt e 9 2, safe := bitsAt e 9 1 3 2, filter := fld e 0xA 1
                      driven := dir = 1 && x.driven }
    let s1 := s.setGio g y
    if dir = 1 && !s.lineDriven g then s1.drive g s.dt256 (bitAt e 9 2) else s1

/-- The checks of GIO_CONFIG (12 R442, R443). -/
def gioConfigChecks (c : RingCmd) (s : State) : Checks :=
  let e := c.e
  let g := bitsAt e 8 1 0 6
  let dir := bitsAt e 9 1 0 2
  let x := s.gioLine g
  { layout := [rsv e 8 1 6 2, enc 9 (dir = 3), enc 9 (dir = 1 && bitsAt e 9 1 3 2 = 3), rsv e 9 1 5 3, rsvIf (dir = 1) e 0xA 1] ++
      restRsv e [(8, 3)]
    ranges := [(8, 48 ≤ g), (0xA, dir = 0 && fld e 0xA 1 = 0)]
    owner := ownerStatus x.owner c.p
    state := if (s.lineDriven g && (dir != 1 || bitAt e 9 2 != x.level)) || (dir = 1 && s.hallClaims none g) then
        some (s.badState 0x21) else none }

/-- What an accepted GIO_CONFIG (12 R442, R443) does. -/
def gioConfigEffect (c : RingCmd) (s : State) : State × Done :=
  let e := c.e
  let g := bitsAt e 8 1 0 6
  (s.gioConfig c.p g e, .ok)

/-- GIO_CONFIG (12 R442, R443). -/
def execGioConfig (t : Nat) (c : RingCmd) (s : State) : Host.Outcome State Fault Refusal :=
  (s.elapse t).command c 0x3E (gioConfigChecks c) (gioConfigEffect c)

/-! ### What happens in the Lamplighter (12 R425 to R441) -/

/-- COMPARE_FIRE: how slot k of sequencer q fires at i; with it the update of the prediction, or the stamp of the counting edge
(16 R546). -/
def State.journalCompare (s : State) (q k i : Nat) (how : FireHow) : State :=
  let x := s.seqr q
  let e := s.enc (x.slotEnc k)
  let pos := x.slotPos k
  let service := match how with
    | .onTime => if pos then 1 else 0
    | .raw => 2
    | .late => 3
    | .short => 4
  let ref := if how == .raw then (i - 320 * (e.cfg.filter + 4)) / 256 else if pos then e.tk else 0
  s.journal k 0x31 islandTrig (i / 256) (leBytes 1 q ++ leBytes 1 service ++ leBytes 1 (i % 256) ++ zeros 5 ++ leBytes 8 ref)

/-- A slot fires: it is disarmed and its firing is offered to its sequencer (12 R422, R428). -/
def State.fireSlot (s : State) (q k i : Nat) (how : FireHow) : State :=
  let x := s.seqr q
  let s1 := (s.setSeq q { x with slots := tabPut x.slots k { x.slot k with armed := none, fire := none, raw := none } }).journalCompare q k i how
  s1.offer q { kind := 1, index := k, rising := false, at_ := i, pos := x.slotPos k, how := how, slot := k, from_ := none }

/-- An armed slot of the kind is fired once its instant is reached. -/
def State.compareFire (s : State) (q k : Nat) (pos : Bool) : State :=
  let x := s.seqr q
  let y := x.slot k
  match y.instant with
  | some (i, how) => if y.armed.isSome && x.slotPos k == pos && s.reached i then s.fireSlot q k i how else s
  | none => s

/-- TIME_COMPARE_FIRE (10 R360, R361). -/
def execTimeCompareFire (t : Nat) (q : Fin 32) (slot : Fin 8) (s : State) : Host.Outcome State Fault Refusal :=
  .next ((s.elapse t).compareFire q slot false)

/-- POSITION_COMPARE_FIRE (11 R407 to R409, 12 R437). -/
def execPositionCompareFire (t : Nat) (q : Fin 32) (slot : Fin 8) (s : State) : Host.Outcome State Fault Refusal :=
  .next ((s.elapse t).compareFire q slot true)

/-- SEQUENCER_TIMER_EXPIRY: a periodic timer restarts at its expiry (12 R423). -/
def execSequencerTimerExpiry (t : Nat) (q : Fin 32) (tm : Fin 4) (s : State) : Host.Outcome State Fault Refusal :=
  let s1 := s.elapse t
  let x := s1.seqr q
  match tabFind x.timers tm with
  | some y =>
    if s1.reached y.due then
      let timers := match y.period with
        | some p => tabPut x.timers tm { y with due := y.due + p }
        | none => tabDel x.timers tm
      .next ((s1.setSeq q { x with timers := timers }).offer q
        { kind := 2, index := tm, rising := false, at_ := y.due, pos := false, how := .onTime, slot := 0, from_ := none })
    else .next s1
  | none => .next s1

/-- A slot or a timer of the sequencer falls due by instant i and has not been offered yet. -/
def Sequencer.dueBy (x : Sequencer) (i : Nat) : Bool :=
  (List.range 8).any (fun k => (x.slot k).armed.isSome && (match (x.slot k).instant with | some f => f.1 ≤ i | none => false)) ||
    x.timers.any (fun y => y.2.due ≤ i)

/-- SEQUENCER_START_INSTANT: state 0 is entered, and its ALWAYS transition offered with the happenings of that instant (12 R425, R426,
R429). -/
def execSequencerStartInstant (t : Nat) (q : Fin 32) (s : State) : Host.Outcome State Fault Refusal :=
  let s1 := s.elapse t
  let x := s1.seqr q
  match x.startAt with
  | some i =>
    let now := x.haps.filter (fun k => k.at_ = i)
    if x.running && s1.reached i && !x.dueBy i then
      .next (((s1.setSeq q { x with startAt := none, st := 0, haps := x.haps.filter (fun k => k.at_ != i) }).trigRecord none q 3 0x0601 1).takeInstant
        q i now true)
    else .next s1
  | none => .next s1

/-- The happening named by the row is this one (12 R422). -/
def Hap.named (h : Hap) (x : Happening) : Bool :=
  h.kind = x.kind && h.index = x.index && (h.kind != 3 || h.rising == (x.edge = 0))

/-- TRANSITION: the happenings of the earliest action instant are taken, once the sequencer is free and its slots and timers that fall due
by that instant have been offered (12 R426, R427). -/
def execTransition (t : Nat) (q : Fin 32) (h : Happening) (s : State) : Host.Outcome State Fault Refusal :=
  let s1 := s.elapse t
  let x := s1.seqr q
  match x.haps.map (·.at_) with
  | [] => .next s1
  | a :: rest =>
    let first := minD a (a :: rest)
    let now := x.haps.filter (fun k => k.at_ = first)
    let i := max first x.busyUntil
    if x.running && x.startAt.isNone && s1.reached i && !x.dueBy first && now.any (fun k => k.named h) then
      .next ((s1.setSeq q { x with haps := x.haps.filter (fun k => k.at_ != first) }).takeInstant q i now false)
    else .next s1

/-- HELD_FIRE_RELEASE: the held fire is accepted at t_last + MIN_INTERVAL (12 R433). -/
def execHeldFireRelease (t : Nat) (tg : Fin 256) (s : State) : Host.Outcome State Fault Refusal :=
  let s1 := s.elapse t
  let x := s1.target tg
  match x.held with
  | some (f, i) =>
    if s1.reached i then .next ((s1.setTarget tg { x with held := none }).acceptFire tg f.id i f.width f.flags) else .next s1
  | none => .next s1

/-- GIO_PULSE_START: the leading edge stands at the output instant (12 R431). -/
def execGioPulseStart (t : Nat) (tg : Fin 256) (s : State) : Host.Outcome State Fault Refusal :=
  let s1 := s.elapse t
  let x := s1.target tg
  match x.pend with
  | f :: rest =>
    if x.cfg.kind = 2 && s1.reached f.o then
      .next ((s1.setTarget tg { x with pend := rest, pulse := some (f.o + 64 * f.width) }).drive x.cfg.lane f.o (!x.cfg.polarity))
    else .next s1
  | [] => .next s1

/-- GIO_PULSE_END: the pulse ends after its width (12 R432). -/
def execGioPulseEnd (t : Nat) (tg : Fin 256) (s : State) : Host.Outcome State Fault Refusal :=
  let s1 := s.elapse t
  let x := s1.target tg
  match x.pulse with
  | some i =>
    if x.cfg.kind = 2 && s1.reached i then .next ((s1.setTarget tg { x with pulse := none }).drive x.cfg.lane i x.cfg.polarity)
    else .next s1
  | none => .next s1

end Sys2Proof.Machine
end

