-- ==== Sys2Proof/Machine/Arrivals.lean ====
section
/-!
DEFINITION. Events on their way: edges of GIO lines, arrivals at the consumers of the event fabric, consumers that become free, and
the entry of Lantern handlers (08 R307 to R313; 09 R345 to R352; 12 R425; 13 R452 to R456, R463, R471).
-/

namespace Sys2Proof.Machine

/-! ### GIO edges (12 R425, R442; 08 R312; 13 R451) -/

/-- The Lantern pin sources that observe a line see its level, which the line's own filter has passed. -/
def State.pinsSee (s : State) (g : Nat) (level : Bool) : State :=
  (tabKeys s.lanterns (fun x => x.st != .free)).foldl (fun t n =>
    t.modLantern n (fun x => ((List.range 16).filter (fun k => nbits (tabGet 0 x.pinConfig k) 0 6 = g)).foldl
      (fun y k => y.pinEdge k level (max 1 (s.gioLine g).filter) s.ns) (x.pinsSettle s.ns))) s

/-- GIO_EDGE: line g has changed to a level that its filter has passed, so the level before it stood for FILTER samples (12 R425, R442). -/
def execGioEdge (t : Nat) (g : Fin 48) (level : Bool) (sub : Fin 512) (s : State) : Host.Outcome State Fault Refusal :=
  let s1 := s.elapse t
  let x := s1.gioLine g
  let i := (s1.dt256 + sub) / 64 * 64
  let early : Bool := match x.moved with | some j => i < j + 320 * x.filter | none => false
  if x.seen == level || s1.mode == .keep || early then .next s1
  else
    let s2 := s1.setGio g { x with seen := level, moved := some i }
    if s1.mode == .dark then .next s2
    else
      let s3 := s2.journal g 0x40 islandTrig (i / 256) (leBytes 1 (b2n level) ++ leBytes 1 (i % 256))
      let h : Hap := { kind := 3, index := g, rising := level, at_ := i + (x.filter + 8) * 320, pos := false, how := .onTime, slot := 0, from_ := none }
      let s4 := (tabKeys s3.seqs (fun q => q.names 3 g)).foldl (fun t q => t.offer q h) s3
      let s5 := s4.emit 2 g (fun a => a = 2 || (a = 0 && level) || (a = 1 && !level)) i ((max x.filter 1 + 8) * 320)
      .next (s5.pinsSee g level)

/-! ### Arrivals (13 R452 to R456) -/

/-- Slot k of channel n loses an event: LOST, and EVENT_LOST at most once in 100 ms (13 R455, R472). -/
def State.slotLoses (s : State) (n k bits : Nat) : State :=
  let y := (s.channel n).slot k
  ((s.setSlot n k { y with lost := satAdd 32 y.lost 1, lostSince := satAdd 32 y.lostSince 1 }).eventLost n k y.kind bits).1

/-- The ring of a RING slot can take a record now (13 R455, R456). -/
def State.ringSlotTakes (s : State) (rid : Nat) : Bool :=
  let p := rid / 1024
  let r := s.ring p (rid % 1024)
  (s.port p).canWrite && r.held.isEmpty && r.collapsed.isEmpty && r.room

/-- FABRIC_EVENT of an event (13 R463). -/
def State.fabricRecord (s : State) (n k rid : Nat) (v : FabEvent) : State :=
  let y := (s.channel n).slot k
  (s.setSlot n k { y with lostSince := 0 }).recordAt (v.stamp / 256) (rid / 1024) (rid % 1024) 3 0x0701 islandNoc (n + k % 8 * 2 ^ 8)
    (v.prodKind + v.stamp % 256 * 2 ^ 8 + v.prodIndex * 2 ^ 16 + y.lostSince * 2 ^ 32)

/-- An event is lost for a ring out of service: one EVENT_LOST for each time the ring leaves, written with the first loss that the 100 ms
of 13 R472 allow (13 R456). -/
def State.ringSlotGone (s : State) (n k : Nat) : State :=
  let y := (s.channel n).slot k
  let z := { y with lost := satAdd 32 y.lost 1, lostSince := satAdd 32 y.lostSince 1 }
  if y.ringGone then s.setSlot n k z
  else
    let r := (s.setSlot n k z).eventLost n k y.kind (2 ^ 8)
    r.1.setSlot n k { z with ringGone := r.2 }

/-- A consumer that can be busy is busy, or has an event in hand before this one: it becomes pending, or is lost (13 R455). -/
def State.slotWaits (s : State) (n k : Nat) (v : FabEvent) : State × Nat :=
  let y := (s.channel n).slot k
  if y.pending.isSome then (s.slotLoses n k 0, 2) else (s.setSlot n k { y with pending := some v }, 1)

/-- The slot is busy, or holds an event that comes first. -/
def Slot.occupied (y : Slot) : Bool := y.busy.isSome || y.pending.isSome

/-- A step is released to a stream or an auxiliary mover: whether it has one to run (14 R483). -/
def State.releaseStep (s : State) (index arg : Nat) : State × Bool :=
  if arg = 0 then
    let x := s.stream index
    if x.active && x.pace != 0 then (s.setStream index { x with paceLeft := x.paceLeft + (if x.pace = 2 then x.paceBytes else 1) }, true)
    else (s, false)
  else
    let x := s.auxMover index
    if x.pace = 1 then (s.setAux index { x with paceLeft := x.paceLeft + 1 }, true) else (s, false)

/-- The step released to a mover has been used (14 R483, 13 R452). -/
def State.stepUsed (s : State) (index arg : Nat) : Bool :=
  if arg = 0 then let x := s.stream index; !x.active || x.pace = 0 || x.paceLeft % 2 ^ 32 = 0
  else (s.auxMover index).pace = 0 || (s.auxMover index).paceLeft = 0

/-- A happening of a sequencer from slot k of channel n. -/
def channelHap (n k at_ : Nat) : Hap :=
  { kind := 4, index := n, rising := false, at_ := at_, pos := false, how := .onTime, slot := 0, from_ := some (n, k) }

/-- An event reaches slot k of its channel. -/
def State.arrive (s : State) (f : Flight) : State :=
  let y := (s.channel f.ch).slot f.slot
  let v : FabEvent := ⟨f.stamp, f.prodKind, f.prodIndex⟩
  let put (z : Slot) : State := s.setSlot f.ch f.slot z
  let log (r : State × Nat) : State := r.1.journalFabric f.ch f.slot f.kind f.stamp r.2
  match f.kind with
  | 1 =>
    if !(s.ring (f.index / 1024) (f.index % 1024)).live then s.ringSlotGone f.ch f.slot
    else
      let s1 := put { y with ringGone := false }
      if y.occupied then (s1.slotWaits f.ch f.slot v).1
      else if s.ringSlotTakes f.index then s1.fabricRecord f.ch f.slot f.index v
      else s1.setSlot f.ch f.slot { y with ringGone := false, busy := some v }
  | 2 => log (s.pend f.index f.arg, 0)
  | 3 =>
    if !(s.seqr f.index).running then log (s, 0)
    else if y.occupied then log (s.slotWaits f.ch f.slot v)
    else log ((put { y with busy := some v }).offer f.index (channelHap f.ch f.slot f.arrive), 0)
  | 4 =>
    if y.occupied then (s.slotWaits f.ch f.slot v).1
    else
      let r := s.releaseStep f.index f.arg
      if r.2 then r.1.setSlot f.ch f.slot { y with busy := some v } else r.1
  | 5 => log (s.switchGroup f.index f.arrive f.arg, 0)
  | _ => s

/-- EVENT_ARRIVAL: the earliest event on its way to a slot arrives at its instant; events of one instant arrive in ascending channel
number (13 R453, R454). In Keep and Dark none is delivered (13 R471). -/
def execEventArrival (t : Nat) (ch : Fin 256) (slot : Fin 8) (s : State) : Host.Outcome State Fault Refusal :=
  let s1 := s.elapse t
  match s1.flights.find? (fun f => f.ch = ch.val && f.slot % 8 = slot.val) with
  | none => .next s1
  | some f =>
    let ahead := s1.flights.any (fun g => g.kind = f.kind && g.index = f.index &&
      (g.arrive < f.arrive || (g.arrive = f.arrive && g.ch < f.ch)))
    if s1.reached f.arrive && !ahead && s1.mode != .dark && s1.mode != .keep then
      .next (({ s1 with flights := s1.flights.erase f }).arrive f)
    else .next s1

/-- The consumer of slot k of channel n, present or past, becomes free and takes the pending event; none while it is busy or nothing is
to be taken (13 R455). -/
def State.consumerFree (s : State) (n k : Nat) : Option State :=
  let y := (s.channel n).slot k
  match y.kind with
  | 1 =>
    let gone := !(s.ring (y.index / 1024) (y.index % 1024)).live
    let take (u : State) (v : FabEvent) : State := if gone then u.ringSlotGone n k else u.fabricRecord n k y.index v
    match y.busy with
    | some b =>
      if gone || s.ringSlotTakes y.index then
        let s2 := take (s.setSlot n k { y with busy := none, pending := none }) b
        match y.pending with
        | none => some s2
        | some q =>
          if gone || s2.ringSlotTakes y.index then some (take s2 q)
          else some (s2.setSlot n k { (s2.channel n).slot k with busy := some q })
      else none
    | none => none
  | 3 =>
    match y.busy, y.pending with
    | none, some q =>
      let s1 := s.setSlot n k { y with busy := if (s.seqr y.index).running then some q else none, pending := none }
      let s2 := if (s.seqr y.index).running then s1.offer y.index (channelHap n k s.dt256) else s1
      some (s2.journalFabric n k 3 q.stamp 0)
    | _, _ => none
  | 4 =>
    if y.busy.isSome && s.stepUsed y.index y.arg then
      let s2 := s.setSlot n k { y with busy := none, pending := none }
      match y.pending with
      | none => some s2
      | some q =>
        let r := s2.releaseStep y.index y.arg
        some (if r.2 then r.1.setSlot n k { y with busy := some q, pending := none } else r.1)
    else none
  | _ => none

/-- CONSUMER_FREE: the consumer of a slot becomes free and takes the pending event; slots of earlier bindings come first (13 R455, R470).
In Keep and Dark nothing is delivered (13 R471). -/
def execConsumerFree (t : Nat) (ch : Fin 256) (slot : Fin 8) (s : State) : Host.Outcome State Fault Refusal :=
  let s1 := s.elapse t
  let past : List Nat := ((s1.channel ch).past.map (·.1)).filter (fun k => k % 8 = slot.val)
  if s1.mode == .dark || s1.mode == .keep then .next s1
  else .next ((firstSome ((past ++ [slot.val]).map (fun k => s1.consumerFree ch k))).getD s1)

/-! ### Handlers of Lanterns (08 R309 to R313; 09 R345 to R352) -/

/-- LINE_Y of an interrupt's journal record: L in a line; in FRAME_ENTRY the low 24 bits of what LINE_IDX reads there, so that it is no line;
in FRAME_EXIT the count of lines (DESIGN CHOICE, entry 95). -/
def Lantern.irqLine (x : Lantern) : Nat := if x.routine == .frameEntry then 2 ^ 24 - 1 else x.lineY

/-- The journaled interrupt that Lantern n has reached in Replay: by its recorded number, frame, line and RETIRED (09 R352). -/
def State.replayIrq (s : State) (n : Nat) (fast : Bool) : Option JRec :=
  let x := s.lantern n
  (s.session.kept ++ s.session.recs).find? (fun r => r.typ = 0x51 && tabFind s.session.lanterns (r.qual % 64) = some n &&
    lfld r.body 8 8 = x.frame.getD 0 && lfld r.body 1 3 = x.irqLine && lfld r.body 4 4 = x.spr 0xF &&
    nbit x.irqClass (lbits r.body 0 1 0 6) == fast)

/-- A handler of Lantern n is entered for a source: INTERRUPTS_TAKEN and the journal (08 R313, R314). -/
def State.handlerEnters (s : State) (n src : Nat) (y : Lantern) : State :=
  let x := s.lantern n
  ((s.setLantern n y).lanternCount n 7 1).journal n 0x51 (islandLantern n) s.dt
    (leBytes 1 src ++ leBytes 3 x.irqLine ++ leBytes 4 (x.spr 0xF) ++ leBytes 8 (x.frame.getD 0))

/-- The handler of a class is entered with the source that Replay gives it. -/
def Lantern.enterHandler (x : Lantern) (fast : Bool) (given : Option Nat) : Lantern :=
  (if fast then x.enterFast else x.enterNormal).giveSource fast given

/-- The handler of a class is entered: in Replay at the journaled points and at no other, with the journaled source, whatever pends. -/
def State.handlerEntry (s : State) (n : Nat) (fast : Bool) : State :=
  let x := s.lantern n
  if s.mode == .keep || s.mode == .dark then s
  else if s.mode == .replay then
    match s.replayIrq n fast with
    | none => s
    | some r =>
      let src := lbits r.body 0 1 0 6
      let free : Bool := x.routine != .idle && x.fast.isNone && (fast || x.normal.isNone) && (x.vector fast).isSome
      if free then
        ({ s with session := { s.session with kept := s.session.kept.erase r, recs := s.session.recs.erase r } }).handlerEnters n src (x.enterHandler fast (some src))
      else s
  else if if fast then x.fastReady else x.normalReady then s.handlerEnters n ((x.deliverable fast).headD 0) (x.enterHandler fast none)
  else s

/-- NORMAL_HANDLER_ENTRY (09 R346). -/
def execNormalHandlerEntry (t : Nat) (n : Fin 64) (s : State) : Host.Outcome State Fault Refusal :=
  .next (((s.elapse t).settled n).handlerEntry n false)

/-- FAST_HANDLER_ENTRY (09 R347). -/
def execFastHandlerEntry (t : Nat) (n : Fin 64) (s : State) : Host.Outcome State Fault Refusal :=
  .next (((s.elapse t).settled n).handlerEntry n true)

end Sys2Proof.Machine
end

