-- ==== Sys2Proof/Machine/Lanes.lean ====
section
/-!
DEFINITION. What happens on a camera lane in the VLP modes, and LANE_CONFIG and LANE_REQUEST (04_camera_lanes).
-/

namespace Sys2Proof.Machine

/-! ### Packets (04 R141 to R147) -/

/-- A CONTROL_RESPONSE arrives; its result block goes through an auxiliary mover (04 R152, R154; 14 R479). -/
def State.controlResponse (s : State) (l sensor : Nat) (payload : List Byte) : State :=
  let x := s.lane l
  match x.requests.find? (fun r => r.sensor = sensor) with
  | some r =>
    if r.reqSeq = lfld payload 0 2 && 0 < r.sent then
      match r.result with
      | some a => (s.takeRequest l r.arg).auxAdd (.block r.ring r.arg (r.ring / 1024) [(a, resultBlock payload s.dt)])
      | none => s.endRequest l r.arg .success
    else s.laneCount l 0x0C 1
  | none => s.laneCount l 0x0C 1

/-- A lane drops from UP: the frames in progress are completed, then the lane retrains (04 R138, R174, R175). -/
def State.laneDrop (s : State) (l cause : Nat) : State := (s.truncateLane l).laneDropped l cause

/-- An accepted uplink packet, by its data type (04 R144). t4 is its arrival in 2^-32 ns. -/
def State.packetBody (s : State) (l : Nat) (k : LanePkt) (t4 : Nat) : State :=
  let x := s.lane l
  let pay := pktPayload k
  let dt := hdrDt k
  if dt = 0x3E then if x.st == .up then s.laneDrop l 4 else s.helloArrives l pay
  else if x.st != .up then s
  else if dt = 6 then s.syncResponse l pay t4
  else if dt = 7 then s.controlResponse l (hdrSensor k) pay
  else if dt = 8 then s.laneRecord l 3 0x010D (hdrSensor k) 0 (lfld pay 0 8)
  else s.classify l { sensor := hdrSensor k, vc := hdrVc k, dt := dt, wc := hdrWc k, payload := pay, stamp := s.dt }

/-- An uplink packet passes the pin: the wick checks it and hands it on (04 R145). -/
def State.packet (s : State) (l : Nat) (k : LanePkt) (t4 : Nat) : State :=
  if (s.lane l).receives s.ns && s.mode != .dark && s.mode != .keep then
    let r := s.wick l k
    if r.2 then r.1.packetBody l k t4 else r.1
  else s

/-- UNDEFINED_DT (04 R145). -/
def execUndefinedDt (t : Nat) (l : Fin 128) (k : LanePkt) (s : State) : Host.Outcome State Fault Refusal :=
  let s1 := s.elapse t
  .next (s1.packet l k s1.time)

/-- HELLO of a camera (04 R138, R139). -/
def execHello (t : Nat) (l : Fin 128) (k : LanePkt) (s : State) : Host.Outcome State Fault Refusal :=
  let s1 := s.elapse t
  .next (s1.packet l k s1.time)

/-- FRAME_START (05 R200, R205, R211). -/
def execFrameStart (t : Nat) (l : Fin 128) (k : LanePkt) (s : State) : Host.Outcome State Fault Refusal :=
  let s1 := s.elapse t
  .next (s1.packet l k s1.time)

/-- FRAME_END (05 R202). -/
def execFrameEnd (t : Nat) (l : Fin 128) (k : LanePkt) (s : State) : Host.Outcome State Fault Refusal :=
  let s1 := s.elapse t
  .next (s1.packet l k s1.time)

/-- LINE_START (05 R201, R207). -/
def execLineStart (t : Nat) (l : Fin 128) (k : LanePkt) (s : State) : Host.Outcome State Fault Refusal :=
  let s1 := s.elapse t
  .next (s1.packet l k s1.time)

/-- LINE_END (05 R202). -/
def execLineEnd (t : Nat) (l : Fin 128) (k : LanePkt) (s : State) : Host.Outcome State Fault Refusal :=
  let s1 := s.elapse t
  .next (s1.packet l k s1.time)

/-- PIXEL_PACKET (05 R196 to R199). -/
def execPixelPacket (t : Nat) (l : Fin 128) (k : LanePkt) (s : State) : Host.Outcome State Fault Refusal :=
  let s1 := s.elapse t
  .next (s1.packet l k s1.time)

/-- EXPOSURE_REPORT (05 R206). -/
def execExposureReport (t : Nat) (l : Fin 128) (k : LanePkt) (s : State) : Host.Outcome State Fault Refusal :=
  let s1 := s.elapse t
  .next (s1.packet l k s1.time)

/-- CAMERA_EVENT (04 R144, R182). -/
def execCameraEvent (t : Nat) (l : Fin 128) (k : LanePkt) (s : State) : Host.Outcome State Fault Refusal :=
  let s1 := s.elapse t
  .next (s1.packet l k s1.time)

/-- CONTROL_RESPONSE (04 R152). -/
def execControlResponse (t : Nat) (l : Fin 128) (k : LanePkt) (s : State) : Host.Outcome State Fault Refusal :=
  let s1 := s.elapse t
  .next (s1.packet l k s1.time)

/-- TIME_SYNC_RESPONSE: its arrival within the tick is taken at 250 ps (04 R157). -/
def execTimeSyncResponse (t : Nat) (l : Fin 128) (k : LanePkt) (frac : BitVec 32) (s : State) :
    Host.Outcome State Fault Refusal :=
  let s1 := s.elapse t
  .next (s1.packet l k ((s1.time + 2 * frac.toNat) / 2 ^ 30 * 2 ^ 30))

/-- HCRC_ERROR: a word that is neither idle nor a header with a valid header CRC begins hunt (04 R136, R145). -/
def execHcrcError (t : Nat) (l : Fin 128) (w : BitVec 64) (s : State) : Host.Outcome State Fault Refusal :=
  let s1 := s.elapse t
  let x := s1.lane l
  if x.receives s1.ns && s1.mode != .dark && s1.mode != .keep && !x.hunt && w.toNat != 0x0707070707070707 && !hdrOk w then
    .next (s1.enterHunt l (fld w 0 1 = 0xFB))
  else .next s1

/-! ### Bring-up (04 R137 to R139) -/

/-- The lane is in a VLP mode, in this state, and its receiver runs. -/
def State.vlpIn (s : State) (l : Nat) (st : LaneState) : Bool :=
  (s.lane l).vlp && (s.lane l).st == st && !(s.lane l).refStopped && s.mode != .dark

/-- SIGNAL_ENERGY_PRESENT: WAIT_SIGNAL to ADAPT. -/
def execSignalEnergyPresent (t : Nat) (l : Fin 128) (s : State) : Host.Outcome State Fault Refusal :=
  let s1 := s.elapse t
  if s1.vlpIn l .waitSignal then .next (s1.laneTo l .adapt) else .next s1

/-- ADAPT_LOCK: ADAPT to ALIGN, or the next phase of RETRAIN. -/
def execAdaptLock (t : Nat) (l : Fin 128) (s : State) : Host.Outcome State Fault Refusal :=
  let s1 := s.elapse t
  if s1.vlpIn l .adapt then .next (s1.laneTo l .align)
  else if s1.vlpIn l .retrain && (s1.lane l).phase = 0 then .next (s1.modLane l (fun x => { x with phase := 1 }))
  else .next s1

/-- ADAPT_TIMEOUT: back to WAIT_SIGNAL. -/
def execAdaptTimeout (t : Nat) (l : Fin 128) (s : State) : Host.Outcome State Fault Refusal :=
  let s1 := s.elapse t
  if s1.vlpIn l .adapt && s1.due (s1.lane l).limit then .next (s1.laneTo l .waitSignal) else .next s1

/-- ALIGN_FOUND: ALIGN to HELLO, with the DIRECTION of the blocks; or the last phase of RETRAIN. -/
def execAlignFound (t : Nat) (l : Fin 128) (direction : Byte) (s : State) : Host.Outcome State Fault Refusal :=
  let s1 := s.elapse t
  let s2 := s1.modLane l (fun x => { x with direction := direction.toNat })
  if s1.vlpIn l .align then .next (s2.laneTo l .hello)
  else if s1.vlpIn l .retrain && (s1.lane l).phase = 1 then
    .next (s2.modLane l (fun x => { x with phase := 2, beaconDue := s1.ns }))
  else .next s1

/-- ALIGN_TIMEOUT: back to ADAPT. -/
def execAlignTimeout (t : Nat) (l : Fin 128) (s : State) : Host.Outcome State Fault Refusal :=
  let s1 := s.elapse t
  if s1.vlpIn l .align && s1.due (s1.lane l).limit then .next (s1.laneTo l .adapt) else .next s1

/-- HELLO_TIMEOUT: back to WAIT_SIGNAL. -/
def execHelloTimeout (t : Nat) (l : Fin 128) (s : State) : Host.Outcome State Fault Refusal :=
  let s1 := s.elapse t
  if s1.vlpIn l .hello && s1.due (s1.lane l).limit then .next (s1.laneTo l .waitSignal) else .next s1

/-- HELLO_SEND: every 10 µs while HELLOs are exchanged; in Dark only HALT is sent (04 R165). -/
def execHelloSend (t : Nat) (l : Fin 128) (s : State) : Host.Outcome State Fault Refusal :=
  let s1 := s.elapse t
  if (s1.lane l).helloing && (s1.lane l).beaconDue ≤ s1.ns && s1.mode != .dark then .next (s1.sendHello l) else .next s1

/-- LANE_DROP on cause 1 to 3 in the VLP modes, 1 or 5 in Ethernet mode (04 R138, R175). -/
def execLaneDrop (t : Nat) (l : Fin 128) (cause : Nat) (s : State) : Host.Outcome State Fault Refusal :=
  let s1 := s.elapse t
  let x := s1.lane l
  let ok := if x.mode == .ethernet then cause = 1 || cause = 5 else 1 ≤ cause && cause ≤ 3
  if x.st == .up && ok && s1.mode != .dark then .next (s1.laneDrop l cause) else .next s1

/-- RETRAIN_TIMEOUT: the limit of 10 ms from the drop. -/
def execRetrainTimeout (t : Nat) (l : Fin 128) (s : State) : Host.Outcome State Fault Refusal :=
  let s1 := s.elapse t
  if s1.vlpIn l .retrain && s1.due (s1.lane l).limit then .next (s1.laneTo l .waitSignal) else .next s1

/-- LANE_LOST: 100 ms after the drop (04 R174, R175). -/
def execLaneLost (t : Nat) (l : Fin 128) (s : State) : Host.Outcome State Fault Refusal :=
  .next ((s.elapse t).laneLost l)

/-! ### Control requests (04 R151 to R155) -/

/-- RETRANSMIT: the 2 µs response timer expires. -/
def execRetransmit (t : Nat) (l : Fin 128) (sensor : Byte) (s : State) : Host.Outcome State Fault Refusal :=
  .next ((s.elapse t).retransmit l sensor.toNat)

/-- LANE_REQUEST_TIMEOUT: 250 ms after the fetch. -/
def execLaneRequestTimeout (t : Nat) (l : Fin 128) (sensor : Byte) (s : State) : Host.Outcome State Fault Refusal :=
  .next ((s.elapse t).expireRequests l sensor.toNat)

/-- The lane that a lane command names. -/
def cmdLane (e : Entry) : Nat := bitsAt e 8 1 0 7

/-- The checks of LANE_REQUEST (04 R154). -/
def laneRequestChecks (c : RingCmd) (s : State) : Checks :=
  let e := c.e
  let x := s.lane (cmdLane e)
  let sensor := fld e 9 1
  let op := fld e 0xA 1
  let len := fld e 0xB 1
  let res := bitAt e 8 7
  let used := if op = 1 then 4 * min len 8 else 0
  { layout := [enc 0xA (1 < op)] ++ (List.range 0x20).map (fun k => (0x10 + k, 0, used ≤ k && fld e (0x10 + k) 1 != 0)) ++
      [rsv e 0x30 8 45 19]
    ranges := [(9, if x.mode == .vlp then sensor != 0 else 15 < sensor && sensor != 0xFF), (0xB, len = 0 || 8 < len),
      (0x30, res && bufferVa e 0x30 % 64 != 0)]
    owner := ownerStatus x.owner c.p
    handles := if res then s.addrStatus c.p (bufferVa e 0x30) 64 0x30 else none
    state := if x.vlp then none else some (s.badState x.st.code) }

/-- A control request joins its lane's list (04 R151, R154). -/
def State.laneRequest (s : State) (c : RingCmd) : State × Done :=
  let e := c.e
  let l := cmdLane e
  let x := s.lane l
  let sensor := fld e 9 1
  let n := tabGet 0 x.reqSeq sensor
  let bus := ((s.translate c.p (bufferVa e 0x30) 64 0x30).2.headD (0, 0, 0)).2.2
  let r : LaneReq :=
    { ring := ringId c.p c.i, arg := s.fresh, since := s.ns, sensor := sensor, op := fld e 0xA 1, length := fld e 0xB 1
      address := fld e 0xC 4, data := leBytes 32 (fld e 0x10 32), result := if bitAt e 8 7 then some bus else none
      reqSeq := n, sent := 0, timer := none, dropped := false }
  let y := { x with owner := some c.p, requests := x.requests ++ [r], reqSeq := tabPut x.reqSeq sensor ((n + 1) % 65536) }
  (((s.freshen).setLane l y).sendRequests l, .waits s.fresh)

/-- What an accepted LANE_REQUEST (04 R154) does. -/
def laneRequestEffect (c : RingCmd) (s : State) : State × Done :=
  s.laneRequest c

/-- LANE_REQUEST (04 R154): waits for the camera's answer. -/
def execLaneRequest (t : Nat) (c : RingCmd) (s : State) : Host.Outcome State Fault Refusal :=
  (s.elapse t).command c 0x31 (laneRequestChecks c) (laneRequestEffect c)

/-! ### Time sync and triggers (04 R156 to R165) -/

/-- TIME_SYNC falls due. -/
def execTimeSync (t : Nat) (l : Fin 128) (s : State) : Host.Outcome State Fault Refusal :=
  let s1 := s.elapse t
  let x := s1.lane l
  if x.vlp && x.syncPeriod != 0 && x.syncDue ≤ s1.ns && s1.mode != .dark then .next (s1.dueSync l) else .next s1

/-- TSYNC_MISSED: no answer within 100 µs. -/
def execTsyncMissed (t : Nat) (l : Fin 128) (s : State) : Host.Outcome State Fault Refusal :=
  let s1 := s.elapse t
  match (s1.lane l).syncOpen with
  | (_, _, at_) :: _ => if at_ + 100000 ≤ s1.ns then .next (s1.syncMiss l) else .next s1
  | [] => .next s1

/-- The first trigger of a target that a lane is to send, and the lane without it. -/
def Lane.takeTrig (x : Lane) (tg : Nat) (scheduled : Bool) : Option (TrigPkt × Lane) :=
  match x.trigs.find? (fun k => k.target = tg && (k.scheduled && x.syncLocked) == scheduled) with
  | some k => some (k, { x with trigs := x.trigs.filter (fun q => q.fireId != k.fireId) })
  | none => none

/-- TRIGGER_IMMEDIATE leaves L_D after the fire instant; a scheduled trigger of an unlocked lane goes as one (04 R159, R161). -/
def execTriggerImmediate (t : Nat) (l : Fin 128) (tg : Fin 256) (s : State) : Host.Outcome State Fault Refusal :=
  let s1 := s.elapse t
  match (s1.lane l).takeTrig tg false with
  | some (k, y) =>
    if s1.reached k.due then
      .next ((s1.setLane l y).dueTrig l (if k.scheduled then { k with scheduled := false, onTime := k.due + 128 } else k) k.due)
    else .next s1
  | none => .next s1

/-- A number's place in a descending list. -/
def placeDesc (a : Nat) : List Nat → List Nat
  | [] => [a]
  | b :: t => if b ≤ a then a :: b :: t else b :: placeDesc a t

/-- The instant from which a scheduled trigger may leave (04 R162): fewer than SCHED_DEPTH sent ones still lie ahead. -/
def Lane.schedLeave (x : Lane) (k : TrigPkt) : Nat :=
  let sent := x.schedSent.foldl (fun l a => placeDesc a l) []
  match sent[max 1 x.schedDepth - 1]? with
  | some a => max k.schedDue (256 * a)
  | none => k.schedDue

/-- TRIGGER_SCHEDULED at its send instant (04 R162). -/
def execTriggerScheduled (t : Nat) (l : Fin 128) (tg : Fin 256) (s : State) : Host.Outcome State Fault Refusal :=
  let s1 := s.elapse t
  match (s1.lane l).takeTrig tg true with
  | some (k, y) =>
    let leave := (s1.lane l).schedLeave k
    if s1.reached leave then
      .next ((s1.setLane l { y with schedSent := y.schedSent.filter (fun a => s1.dt ≤ a) }).dueTrig l k leave)
    else .next s1
  | none => .next s1

/-- HALT every 10 µs in Dark (04 R165). -/
def execHalt (t : Nat) (l : Fin 128) (s : State) : Host.Outcome State Fault Refusal :=
  let s1 := s.elapse t
  let x := s1.lane l
  if s1.mode == .dark && x.vlp && x.st == .up && x.beaconDue ≤ s1.ns then .next (s1.sendHalt l) else .next s1

/-! ### Merged sensors (04 R167) -/

/-- SHARE_WINDOW_END: 100 µs after the window began. -/
def execShareWindowEnd (t : Nat) (l : Fin 128) (s : State) : Host.Outcome State Fault Refusal :=
  let s1 := s.elapse t
  .next (s1.shareWindow l)

/-! ### Timeouts of assembly (05 R203) -/

/-- LINE_TIMEOUT. -/
def execLineTimeout (t : Nat) (c : Fin 512) (s : State) : Host.Outcome State Fault Refusal :=
  let s1 := s.elapse t
  if s1.assembles then .next (s1.lineTimeout c) else .next s1

/-- FRAME_TIMEOUT. -/
def execFrameTimeout (t : Nat) (c : Fin 512) (s : State) : Host.Outcome State Fault Refusal :=
  let s1 := s.elapse t
  if s1.assembles then .next (s1.frameTimeout c) else .next s1

end Sys2Proof.Machine
end

