-- ==== Sys2Proof/Machine/DarkOps.lean ====
section
/-!
DEFINITION. Alerts of the management target, fatal records, and the decision of Dark (15 R528, R529, R535; 18 R604, R608).
-/

namespace Sys2Proof.Machine

/-! ### Alerts (18 R604, R608) -/

/-- MG_ALERT# is driven low. -/
def State.alertDrop (s : State) : State :=
  if s.mg.alertLow then s else ({ s with mg := { s.mg with alertLow := true } }).say (.pin "MG_ALERT#" 0 false)

/-- MG_ALERT# is released. -/
def State.alertRelease (s : State) : State :=
  if s.mg.alertLow then ({ s with mg := { s.mg with alertLow := false } }).say (.pin "MG_ALERT#" 0 true) else s

/-- An alert condition has arisen: the FV8128 calls under METHOD (18 R608). -/
def State.callHost (s : State) : State :=
  let method := s.mg.notify % 4
  let s1 : State := if method != 0 && s.mg.notifying.isNone then { s with mg := { s.mg with notifying := some (0, s.ns) } } else s
  if method = 1 then s1 else s1.alertDrop

/-- The condition of ALERT_STATUS bit k occurs (18 R604). -/
def State.alert (s : State) (k : Nat) : State :=
  let m := s.mg
  let rises := !nbit m.alertStatus k && nbit m.alertMask k
  let s1 : State := { s with mg := { m with alertStatus := setBit m.alertStatus k } }
  if rises then s1.callHost else s1

/-- ALERT_STATUS.FATAL. -/
def alertFatal : Nat := 0
/-- ALERT_STATUS.SUPPLY. -/
def alertSupply : Nat := 1
/-- ALERT_STATUS.THERMAL. -/
def alertThermal : Nat := 2
/-- ALERT_STATUS.CG_FAULT. -/
def alertCg : Nat := 3
/-- ALERT_STATUS.MODE. -/
def alertMode : Nat := 4
/-- ALERT_STATUS.START_DONE. -/
def alertStart : Nat := 5

/-! ### Fatal records and Dark (15 R528, R529, R535) -/

/-- A fatal record is made: it takes a slot, the oldest giving way when all 32 are full, and the journal (15 R535, 16 R551). -/
def State.fatalRecord (s : State) (typ data : Nat) : State :=
  let n := tabGet 0 s.seq islandEmber
  let e : EvRec := { cls := 0, typ := typ, island := islandEmber, count := 1, time := s.dt, seq := n, subject := 0, data := data }
  let full := s.fatal ++ [e]
  let freeze : Option Nat :=
    if s.jn.nvEn && s.jn.frozen.isNone && s.jn.freezeAt.isNone then some (s.dt + 100000000) else s.jn.freezeAt
  let s1 : State := { s with seq := tabPut s.seq islandEmber ((n + 1) % 2 ^ 32)
                             fatal := full.drop (full.length - 32)
                             jn := { s.jn with freezeAt := freeze } }
  (s1.journal 0 0x61 islandEmber s.dt (leBytes 2 typ ++ zeros 6 ++ leBytes 8 data)).alert alertFatal

/-- The mode changes: a UNIT record and ALERT_STATUS.MODE (16 R546, 18 R604). The record is made before the main domain is lost. -/
def State.setMode (s : State) (m : Mode) : State :=
  let s1 := s.journal 2 0x60 (if m == .keep || m == .dark then islandEmber else islandSup) s.dt (leBytes 1 m.code ++ leBytes 1 s.mode.code)
  ({ s1 with mode := m }).alert alertMode

/-- Dark is decided: its instant is t0 of 15 R529, and no command is fetched after it. Keep knows no Dark (17 R579), and neither does
start-up, which ignores what would cause it (17 R585), nor the state in which only a reset helps (17 R583). -/
def State.enterDark (s : State) (cause : Nat) : State :=
  if s.mode == .dark || s.mode == .keep || s.start.fw == .failed then s
  else
    let back := (s.tests.filter (fun q => q.test ≤ 3)).foldl (fun v q => v.diagLaneBack q.unit) s
    let s1 := ((back.fatalRecord 0x090C cause).timeHoldover).setMode .dark
    { s1 with dark := { cause := cause, t0 := s.ns, safe := false, drained := false }, tests := []
              start := { s1.start with transition := none, modeWait := none, keepAt := none } }

/-- SUPERVISOR of HEALTH: 0 pair and standby, 1 pair alone, 2 single (15 R540). -/
def Supervisors.code (x : Supervisors) : Nat := if x.live.length < 2 then 2 else if x.standby.isNone then 1 else 0

/-- The live cores freeze and the standby begins to take over: it resumes within 50 µs, and a PTP source is lost meanwhile
(15 R525, 10 R357). -/
def State.freezePair (s : State) : State :=
  let s1 := s.timeHoldover
  { s1 with sup := { s.sup with frozen := s.sup.live, live := [], resumeBy := some (s.ns + 50000) }, tb := { s1.tb with tpUp := s.tb.tpUp } }

/-- A frame of a stream that Dark lets finish: it closed before t0 and its delivery had begun (15 R529). -/
def State.darkKeeps (s : State) (x : Stream) (f : StreamFrame) : Bool :=
  (f.written != 0 || f.ready.isSome) && (s.sconce x.sconce).frames.any (fun g => g.number == f.number && g.closed)

/-- The outputs go safe: GIO at SAFE, DARK# low, HALT on the lanes, open frames and those whose delivery had not begun discarded,
the fabric stopped (15 R529). -/
def State.darkSafe (s : State) : State :=
  let s1 := s.gioSafe.say (.pin "DARK#" 0 false)
  let s2 := (tabKeys s1.lanes (fun x => x.vlp && x.st == .up)).foldl (fun t l => t.sendHalt l) s1
  let s3 := s2.discardAll
  { s3 with streams := tabMap s3.streams (fun _ x => { x with frames := x.frames.filter (s3.darkKeeps x) }) }

/-- Port p ends its drain: the DARK record if its ring 1 has room, ERR_FATAL, and silence (02 R74). -/
def State.darkPort (s : State) (p : Nat) : State :=
  let r := s.ring p 1
  let s1 := match s.fatal.getLast? with
    | some e => if r.live && r.held.isEmpty && r.collapsed.isEmpty && r.room && (s.port p).canWrite then s.putRecord p 1 e else s
    | none => s
  (s1.aerUncorrectable p aerInternal 0).modPort p (fun x => { x with silent := true })

end Sys2Proof.Machine
end

