-- ==== Sys2Proof/Machine/Dark.lean ====
section
/-!
DEFINITION. Supervisors, guards and Dark; the windows of the event log; the health values' hourly write (15 R515, R524 to R535).
-/

namespace Sys2Proof.Machine

/-! ### Supervisors (15 R525, R526) -/

/-- A change of the supervisors is reported. -/
def State.supReport (s : State) : State :=
  let n := s.sup.code
  if n = s.sup.told then s
  else ({ s with sup := { s.sup with told := n } }).spareRecord 2 0x0906 0 (n + s.health.cores.length * 256)

/-- The live cores stop: the standby takes over within 50 µs, or without one Dark follows (15 R525, R528). -/
def State.pairStops (s : State) (cause : Nat) : State :=
  match s.sup.standby with
  | none => s.enterDark cause
  | some _ => s.freezePair

/-- The supervisors run: neither Keep nor Dark, and firmware has started. -/
def State.supRuns (s : State) : Bool := s.mode != .keep && s.mode != .dark && s.start.fw != .failed && !s.sup.live.isEmpty

/-- LOCKSTEP_MISMATCH: a pair's outputs differ (15 R525, R528). -/
def execLockstepMismatch (t : Nat) (s : State) : Host.Outcome State Fault Refusal :=
  let s1 := s.elapse t
  .next (if s1.supRuns && s1.sup.live.length = 2 then s1.pairStops 3 else s1)

/-- HEARTBEAT_LATE: a heartbeat is 40 µs late (15 R525, R528). -/
def execHeartbeatLate (t : Nat) (s : State) : Host.Outcome State Fault Refusal :=
  let s1 := s.elapse t
  .next (if s1.supRuns then s1.pairStops 2 else s1)

/-- Spare-ins of the pool of supervisors end: SPARE_IN, and SUCCESS for a FORCE that waits (15 R508, R518). -/
def State.coresTaken (s : State) : State :=
  let done := s.takeOvers.filter (fun q => q.pool = poolSup)
  done.foldl (fun t q =>
    let u := t.spareReport poolSup q.logical q.old q.new_ q.kind 0 0 t.sup.standby.isNone
    match q.cmd with | some c => u.finishWaiting c.1 c.2 .success | none => u)
    { s with takeOvers := s.takeOvers.filter (fun q => q.pool != poolSup) }

/-- STANDBY_RESUME: the standby goes on from the last checkpoint, and commands wait no more; after 50 µs Dark follows (15 R525, R528). -/
def execStandbyResume (t : Nat) (s : State) : Host.Outcome State Fault Refusal :=
  let s1 := s.elapse t
  match s1.sup.resumeBy with
  | none => .next s1
  | some d =>
    if s1.mode == .keep || s1.mode == .dark then .next s1
    else if d < s1.ns then .next (({ s1 with sup := { s1.sup with resumeBy := none } }).enterDark 1)
    else
      let s2 : State := { s1 with sup := { s1.sup with live := s1.sup.standby.toList, standby := none, resumeBy := none } }
      .next ((s2.correctedInternal.supReport).coresTaken)

/-- SUPERVISOR_SELF_TEST_DONE: the lowest core that passes joins the standby in a new pair, the other becomes the standby, and one that
fails is retired (15 R526). -/
def execSupervisorSelfTestDone (t : Nat) (pass : List (Fin 3)) (s : State) : Host.Outcome State Fault Refusal :=
  let s1 := s.elapse t
  let x := s1.sup
  let ok := ([0, 1, 2] : List Nat).filter (fun k => x.frozen.contains k && pass.any (fun q => q.val = k))
  let bad := x.frozen.filter (fun k => !ok.contains k)
  if x.frozen.isEmpty || !s1.supRuns then .next s1
  else
    let y := { x with live := x.live ++ ok.take 1, standby := ok.tail.head?, frozen := [] }
    .next ({ s1 with sup := y, health := { s1.health with cores := s1.health.cores ++ bad } }).supReport

/-- GUARD_FAULT: a guard finds guard g failed; g stays out (15 R527). -/
def execGuardFault (t : Nat) (g : Fin 2) (s : State) : Host.Outcome State Fault Refusal :=
  let s1 := s.elapse t
  if s1.guards.length = 2 then .next (({ s1 with guards := s1.guards.filter (fun k => k != g.val) }).spareRecord 1 0x0907 0 g.val)
  else .next s1

/-! ### Dark (15 R528 to R530) -/

/-- DARK: what the decision brings. A take-over whose 50 µs have passed is a decision too, of cause 1 (15 R528, R529). -/
def execDark (t : Nat) (s : State) : Host.Outcome State Fault Refusal :=
  let s1 := s.elapse t
  let late : Bool := match s1.sup.resumeBy with | some d => d < s1.ns | none => false
  let s2 := if late then s1.enterDark 1 else s1
  .next (if s2.mode == .dark && !s2.dark.safe then s2.darkSafe else s2)

/-- DARK_DRAIN_END of a port, at the latest 10 ms after the decision (15 R529, 02 R74). -/
def execDarkDrainEnd (t : Nat) (p : Fin 4) (s : State) : Host.Outcome State Fault Refusal :=
  let s1 := s.elapse t
  if s1.mode == .dark && s1.dark.safe && !(s1.port p).silent then
    let s2 := s1.darkPort p
    .next { s2 with dark := { s2.dark with drained := portNumbers.all (fun q => (s2.port q).silent) } }
  else .next s1

/-- DARK_PIN_LOW: DARK# has been low from outside for 1 µs (15 R530). -/
def execDarkPinLow (t : Nat) (s : State) : Host.Outcome State Fault Refusal := .next ((s.elapse t).enterDark 6)

/-! ### The event log and the health values (15 R515, R534) -/

/-- EVENT_WINDOW_END: windows whose 1 ms has passed write what they collapsed (15 R534). -/
def execEventWindowEnd (t : Nat) (s : State) : Host.Outcome State Fault Refusal := .next (s.elapse t).closeWindows

/-- HEALTH_NV_WRITE: once each hour (15 R515). -/
def execHealthNvWrite (t : Nat) (s : State) : Host.Outcome State Fault Refusal :=
  let s1 := s.elapse t
  if s1.healthAt + 3600000000000 ≤ s1.ns then .next { s1 with healthNv := s1.health, healthAt := s1.ns } else .next s1

end Sys2Proof.Machine
end

