-- ==== Sys2Proof/Machine/StreamCmd.lean ====
section
/-!
DEFINITION. The commands of streams, movers and the translation area (03 R125 to R127, R673; 07 R262, R266, R283; 14 R482 to R493,
R502).
-/

namespace Sys2Proof.Machine

/-! ### Fields of stream commands -/

/-- The stream a command names at 0x08. -/
def cmdStream (e : Entry) : Nat := bitsAt e 8 2 0 11

/-- Layout of a command whose only operand is a stream (03 R673). -/
def streamOnly (e : Entry) : List Chk := rsv e 8 2 11 5 :: restRsv e [(8, 2)]

/-- BAD_STATE with the stream's state code, or 0x01 while a start is pending (03 R126, R673). -/
def State.streamBad (s : State) (x : Stream) : Status := s.badState (if x.startPending.isSome then 1 else x.st.code)


/-! ### STREAM_CONFIG (03 R125, R127; 07 R262, R266) -/

/-- Layout of STREAM_CONFIG. -/
def streamLayout (e : Entry) : List Chk :=
  let partner := bitAt e 0xD 2
  [rsv e 8 2 11 5, rsv e 0xA 2 9 7, rsv e 0xC 1 2 6, rsv e 0xD 1 3 5, rsv e 0xE 2 12 4, rsv e 0x10 2 12 4, rsv e 0x12 2 12 4,
    rsv e 0x14 2 12 4, rsvIf (!partner) e 0x12 2, rsvIf (!partner) e 0x14 2, rsv e 0x16 1 4 3, rsv e 0x17 1 4 3] ++
  restRsv e [(8, 0x15)]

/-- The rings of STREAM_CONFIG: its own, then the partner's on one other port. -/
def State.streamRings (s : State) (p : Nat) (e : Entry) : Option Status :=
  let pd := fld e 0x12 2
  let pc := fld e 0x14 2
  firstSome ([s.ownRing p (fld e 0xE 2) 3 0xE, s.ownRing p (fld e 0x10 2) 4 0x10] ++
    (if bitAt e 0xD 2 then
      [if pd / 1024 = p then some (Status.badRing pd 0x12) else s.ownRing (pd / 1024) pd 3 0x12, s.ownRing (pd / 1024) pc 4 0x14]
    else []))

/-- The image of the output table that STREAM_CONFIG names, empty when there is none. -/
def State.outputTable (s : State) (p : Nat) (e : Entry) : List Byte :=
  match s.tableOfKind p (fld e 0x18 4) 0x23 with
  | some i => match s.table i with | some t => t.image | none => []
  | none => []

/-- The output table does not fit the sconce or the branch (07 R266). -/
def State.outputMisfit (s : State) (p : Nat) (e : Entry) : Bool :=
  let t := s.outputTable p e
  let k := bitsAt e 0xA 2 0 9
  let w := s.widthOf k
  let h := s.heightOf k
  let c := regionClip t w h ((tRegions t).headD (0, 0, 0, 0))
  !t.isEmpty && (lbits t 0x20 1 0 2 != bitsAt e 0xC 1 0 2 ||
    ((s.sconce k).configured && ((tCoding t && (c.1 < 32 || 16384 < c.1 || 16384 < c.2)) ||
      2 ^ 40 < maxFrameBytes t (s.depthOf k) w h (bitAt e 0xD 0) (bitAt e 0xD 1))))

/-- Another Configured or Running stream of the sconce's branch holds another output table (07 R262); a Stopping one is neither
(03 R126). -/
def State.outputConflict (s : State) (p : Nat) (e : Entry) : Bool :=
  let t := s.outputTable p e
  s.streams.any (fun x => x.1 != cmdStream e && x.2.holds && x.2.sconce == bitsAt e 0xA 2 0 9 &&
    x.2.branch == bitsAt e 0xC 1 0 2 && (x.2.handle != fld e 0x18 4 || x.2.table != t))

/-- The stream as STREAM_CONFIG makes it. -/
def State.streamConfigured (s : State) (p : Nat) (e : Entry) : State :=
  let k := bitsAt e 0xA 2 0 9
  let t := s.outputTable p e
  let w := s.widthOf k
  let h := s.heightOf k
  let ch (o : Nat) : Option Nat := if bitAt e o 7 then some (bitsAt e o 1 0 4) else none
  let s1 := s.setStream (cmdStream e) { Stream.reset with
    st := .configured, owner := some p, sconce := k, branch := bitsAt e 0xC 1 0 2, lineTags := bitAt e 0xD 0
    stats := bitAt e 0xD 1, dRing := fld e 0xE 2, cRing := fld e 0x10 2
    partner := if bitAt e 0xD 2 then some (fld e 0x12 2, fld e 0x14 2) else none, encA := ch 0x16, encB := ch 0x17
    encFields := (bitsAt e 0x16 1 0 4, bitsAt e 0x17 1 0 4), handle := fld e 0x18 4, table := t, weight := fld e 0x1C 1
    maxBytes := maxFrameBytes t (s.depthOf k) w h (bitAt e 0xD 0) (bitAt e 0xD 1), dims := (w, h) }
  s1.modSconce k (fun x => { x with owner := some p })

/-- The checks of STREAM_CONFIG (03 R125, R127). -/
def streamConfigChecks (c : RingCmd) (s : State) : Checks :=
  let e := c.e
  let n := cmdStream e
  let k := bitsAt e 0xA 2 0 9
  let x := s.stream n
  { layout := streamLayout e
    ranges := [(0x18, s.outputMisfit c.p e), (0x1C, fld e 0x1C 1 = 0)]
    rings := s.streamRings c.p e
    owner := firstSome [ownerStatus x.owner c.p, ownerStatus (s.sconce k).owner c.p]
    handles := if (s.tableOfKind c.p (fld e 0x18 4) 0x23).isNone then some (Status.notFound 0x18) else none
    state := firstSome [
      if x.active || x.startPending.isSome then some (s.streamBad x) else none,
      if !(s.sconce k).configured then some (s.badState 0xD) else none,
      if s.outputConflict c.p e then some (s.badState 5) else none,
      if bitsAt e 0xC 1 0 2 = 2 && 1 < tRois (s.outputTable c.p e) && (s.boundTo k).any (fun m => (s.lantern m).tap == 3)
        then some (s.badState 6) else none]
    ledger := (s.streamConfigured c.p e).ledgerStatus }

/-- What an accepted STREAM_CONFIG (03 R125, R127) does. -/
def streamConfigEffect (c : RingCmd) (s : State) : State × Done :=
  let e := c.e
  let n := cmdStream e
  let s1 := s.streamConfigured c.p e
  (if (s.stream n).st == .free then s1.streamState n .configured 0 else s1, .ok)

/-- STREAM_CONFIG (03 R125, R127). -/
def execStreamConfig (t : Nat) (c : RingCmd) (s : State) : Host.Outcome State Fault Refusal :=
  (s.elapse t).command c 0x10 (streamConfigChecks c) (streamConfigEffect c)

/-! ### STREAM_START, STREAM_STOP, STREAM_RELEASE (03 R126, R127) -/

/-- The width R63 requires of port p: the narrowest whose 0.95 × C meets its egress and inbound demand (02 R63). -/
def State.neededWidth (s : State) (p : Nat) : Nat :=
  let x := s.port p
  let fits (w : Nat) : Bool :=
    let c : Rat := (linkCapacity16 x.rate x.mps w * 100000000 / 16 : Nat) * 95 / 100
    s.portDemand p ≤ c && s.inbound p ≤ c
  (([1, 2, 4, 8, 16].filter (fun w => w ≤ x.fullWidth)).find? fits).getD x.fullWidth

/-- The port widens its link as far as its demand, its failover reservations included, needs (02 R63, R64). -/
def State.widen (s : State) (p : Nat) : State :=
  let w := s.neededWidth p
  if (s.port p).width < w then (s.modPort p (fun x => { x with width := w })).say (.l0p p w true) else s

/-- The checks of STREAM_START (14 R473); while a MODE_SET waits for streams to stop it is refused (17 R576). -/
def streamStartChecks (c : RingCmd) (s : State) : Checks :=
  let n := cmdStream c.e
  let charge (s : State) : State := s.modStream n (fun x => { x with uncharged := false })
  let x := s.stream n
  { layout := streamOnly c.e, owner := ownerStatus x.owner c.p
    state := if s.start.modeWait.isSome then some (s.badState 0x83)
      else if x.st == .configured && x.startPending.isNone then none else some (s.streamBad x)
    ledger := if x.uncharged then (charge s).ledgerStatus else none }

/-- What an accepted STREAM_START (14 R473) does. -/
def streamStartEffect (c : RingCmd) (s : State) : State × Done :=
  let n := cmdStream c.e
  let charge (s : State) : State := s.modStream n (fun x => { x with uncharged := false })
  let x := s.stream n
  let fm := s.moverPick n (x.dRing / 1024)
  let s1 := (charge s).modStream n (fun x =>
    { x with startPending := some s.dt, startSeq := s.commitSeq, mover := fm, lastWrite := s.ns
             stopped := false, draining := false, pace := 0, paceBytes := 0, paceLeft := 0 })
  let s2 := s1.widen (x.dRing / 1024)
  (match x.partner with | some q => s2.widen (q.1 / 1024) | none => s2, .ok)

/-- STREAM_START: the start is pending until the sconce's next boundary, and the stream has a frame mover (14 R473). A stream
that was evicted is charged again (15 R513). -/
def execStreamStart (t : Nat) (c : RingCmd) (s : State) : Host.Outcome State Fault Refusal :=
  (s.elapse t).command c 0x11 (streamStartChecks c) (streamStartEffect c)

/-- A Running stream is stopped, by commands that wait or without one: the frame in progress, or else the next one, is its last
(03 R127). -/
def State.streamStopBy (s : State) (n : Nat) (cmds : List (Nat × Nat)) (seq : Nat) : State :=
  let x := s.stream n
  let cur := match (s.sconce x.sconce).openFrame with | some f => if x.first ≤ f.number then some f else none | none => none
  let y := { x with stopCmds := cmds, stopSeq := seq, stopAt := some (cur.map (·.number)) }
  let s1 := (s.setStream n y).streamState n .stopping 0
  match cur with
  | none => s1
  | some f =>
    let s2 := s1.journalApply 3 x.sconce 0 seq f.number f.b
    if x.frames.any (fun g => g.number == f.number) then s2 else s2.stopDone n f.number

/-- STREAM_STOP of a Running stream. -/
def State.streamStop (s : State) (n rid arg : Nat) : State := s.streamStopBy n [(rid, arg)] s.commitSeq

/-- The checks of STREAM_STOP (03 R127). -/
def streamStopChecks (c : RingCmd) (s : State) : Checks :=
  let n := cmdStream c.e
  let x := s.stream n
  { layout := streamOnly c.e, owner := ownerStatus x.owner c.p
    state := if x.st == .running || x.startPending.isSome then none else some (s.streamBad x) }

/-- What an accepted STREAM_STOP (03 R127) does. -/
def streamStopEffect (c : RingCmd) (s : State) : State × Done :=
  let n := cmdStream c.e
  let rid := ringId c.p c.i
  let a := s.fresh
  let s0 := s.freshen
  if (s.stream n).st == .running then
    let s1 := s0.streamStop n rid a
    if (s1.stream n).st == .configured then (s1, .ok) else (s1, .waits a)
  else (s0.modStream n (fun x => { x with stopCmds := x.stopCmds ++ [(rid, a)], stopAt := some none, stopSeq := s.commitSeq }), .waits a)

/-- STREAM_STOP (03 R127): it waits for the stream's last frame. -/
def execStreamStop (t : Nat) (c : RingCmd) (s : State) : Host.Outcome State Fault Refusal :=
  (s.elapse t).command c 0x12 (streamStopChecks c) (streamStopEffect c)

/-- The checks of STREAM_RELEASE (03 R127). -/
def streamReleaseChecks (c : RingCmd) (s : State) : Checks :=
  let n := cmdStream c.e
  let x := s.stream n
  { layout := streamOnly c.e, owner := ownerStatus x.owner c.p
    state := if x.st == .configured && x.startPending.isNone then none else some (s.streamBad x) }

/-- What an accepted STREAM_RELEASE (03 R127) does. -/
def streamReleaseEffect (c : RingCmd) (s : State) : State × Done :=
  let n := cmdStream c.e
  let x := s.stream n
  let s1 := (s.streamState n .free 0).setStream n { Stream.reset with counters := x.counters }
  ((s1.letGo x.sconce).spoolLevels, .ok)

/-- STREAM_RELEASE (03 R127): the stream is Free; its counters stay readable. -/
def execStreamRelease (t : Nat) (c : RingCmd) (s : State) : Host.Outcome State Fault Refusal :=
  (s.elapse t).command c 0x14 (streamReleaseChecks c) (streamReleaseEffect c)

/-! ### STREAM_MOVE (14 R502) -/

/-- The checks of STREAM_MOVE. -/
def streamMoveChecks (c : RingCmd) (s : State) : Checks :=
  let e := c.e
  let n := cmdStream e
  let x := s.stream n
  { layout := [rsv e 8 2 11 5, rsv e 0xA 1 1 7] ++ restRsv e [(8, 3), (0x10, 8)]
    rings := match x.partner with
      | some q => if s.ringsLive q.1 q.2 then none else some (Status.badRing q.1 8)
      | none => none
    owner := ownerStatus x.owner c.p
    state := firstSome [if x.partner.isNone then some (s.badState 0x51) else none,
      if x.st != .running then some (s.badState 0x50) else none]
    ledger := (s.setStream n x.swapPorts).ledgerStatus }

/-- What an accepted STREAM_MOVE does. -/
def streamMoveEffect (c : RingCmd) (s : State) : State × Done :=
  let e := c.e
  let n := cmdStream e
  let apply := bitAt e 0xA 0
  (s.modStream n (fun x => { x with move := some (s.dt, if apply then some (fld e 0x10 8) else none) }), .ok)

/-- STREAM_MOVE arms the move. -/
def execStreamMove (t : Nat) (c : RingCmd) (s : State) : Host.Outcome State Fault Refusal :=
  (s.elapse t).command c 0x13 (streamMoveChecks c) (streamMoveEffect c)

/-! ### MOVER_CONTROL (14 R482, R483) -/

/-- AUX of a MOVER_CONTROL. -/
def mcAux (e : Entry) : Bool := bitAt e 8 3
/-- INDEX of a MOVER_CONTROL. -/
def mcIndex (e : Entry) : Nat := bitsAt e 0xA 2 0 11

/-- The checks STOP, SNUFF, RESUME and PACE share. -/
def State.moverChecks (s : State) (c : RingCmd) (pace : Bool) : Checks :=
  let e := c.e
  let x := s.stream (mcIndex e)
  let mode := bitsAt e 0xC 1 0 2
  { layout := [rsv e 8 1 4 4, rsv e 9 1 0 8, rsv e 0xA 2 11 5] ++
      (if pace then [Sys2Proof.Machine.enc 0xC (mode = 3 || (mode = 2 && mcAux e)), rsv e 0xC 1 2 6, rsvIf (mode < 2) e 0x10 4] ++
        restRsv e [(8, 5), (0x10, 4)]
      else rsvIf true e 0x10 4 :: restRsv e [(8, 4), (0x10, 4)])
    ranges := [(0xA, mcAux e && 8 ≤ mcIndex e),
      (0x10, pace && mode = 2 && (fld e 0x10 4 < 4096 || 2 ^ 30 < fld e 0x10 4 || fld e 0x10 4 % 4096 != 0))]
    owner := if mcAux e then s.claimStatus c.p else ownerStatus x.owner c.p
    state := if mcAux e || x.active then none else some (s.badState 0x50) }

/-- The frame a stream's context is writing. -/
def Stream.writing (x : Stream) : Option StreamFrame :=
  match x.frames with
  | f :: _ => if 0 < f.written || f.ready.isSome then some f else none
  | [] => none

/-- The checks of MOVER_STOP (14 R483). -/
def moverStopChecks (c : RingCmd) (s : State) : Checks :=
  s.moverChecks c false

/-- What an accepted MOVER_STOP (14 R483) does. -/
def moverStopEffect (c : RingCmd) (s : State) : State × Done :=
  let n := mcIndex c.e
  if mcAux c.e then
    let x := s.auxMover n
    if x.stopped then (s, .ok)
    else if x.runs then (s.setAux n { x with draining := true }, .ok)
    else ((s.setAux n { x with stopped := true }).auxRecord n 3 0x0804, .ok)
  else
    let x := s.stream n
    if x.stopped then (s, .ok)
    else if x.writing.isSome then (s.setStream n { x with draining := true }, .ok)
    else ((s.setStream n { x with stopped := true }).moverEvent n 3 0x0804 (x.lastTag % 2 ^ 56 * 256), .ok)

/-- MOVER_STOP (14 R483): an orderly stop. -/
def execMoverStop (t : Nat) (c : RingCmd) (s : State) : Host.Outcome State Fault Refusal :=
  (s.elapse t).command c 0x15 (moverStopChecks c) (moverStopEffect c)

/-- SNUFF of a stream: the frame being written is discarded and the context stops (14 R483). -/
def State.snuff (s : State) (n : Nat) : State :=
  let x := s.stream n
  let stop (t : State) : State := t.modStream n (fun y => { y with stopped := true, draining := false })
  match x.writing with
  | none => (stop s).moverEvent n 2 0x0805 0
  | some f =>
    let s1 := (s.streamCount n 5 1).modStream n (fun y => { y with gap := y.gap + 1 })
    let s2 := (stop s1).moverEvent n 2 0x0805 (f.number % 2 ^ 56 * 256)
    ((s2.dropFrame n f.number).frameLeft n f.number).letGo x.sconce

/-- The checks of MOVER_SNUFF (14 R483). -/
def moverSnuffChecks (c : RingCmd) (s : State) : Checks :=
  s.moverChecks c false

/-- What an accepted MOVER_SNUFF (14 R483) does. -/
def moverSnuffEffect (c : RingCmd) (s : State) : State × Done :=
  let n := mcIndex c.e
  if mcAux c.e then ((s.setAux n { s.auxMover n with stopped := true, draining := false }).auxRecord n 2 0x0805, .ok)
  else (s.snuff n, .ok)

/-- MOVER_SNUFF (14 R483). -/
def execMoverSnuff (t : Nat) (c : RingCmd) (s : State) : Host.Outcome State Fault Refusal :=
  (s.elapse t).command c 0x15 (moverSnuffChecks c) (moverSnuffEffect c)

/-- The checks of MOVER_RESUME (14 R483). -/
def moverResumeChecks (c : RingCmd) (s : State) : Checks :=
  s.moverChecks c false

/-- What an accepted MOVER_RESUME (14 R483) does. -/
def moverResumeEffect (c : RingCmd) (s : State) : State × Done :=
  let n := mcIndex c.e
  if mcAux c.e then (s.setAux n { s.auxMover n with stopped := false, draining := false }, .ok)
  else (s.modStream n (fun x => { x with stopped := false, draining := false }), .ok)

/-- MOVER_RESUME (14 R483). -/
def execMoverResume (t : Nat) (c : RingCmd) (s : State) : Host.Outcome State Fault Refusal :=
  (s.elapse t).command c 0x15 (moverResumeChecks c) (moverResumeEffect c)

/-- The checks of MOVER_PACE (14 R482, R483). -/
def moverPaceChecks (c : RingCmd) (s : State) : Checks :=
  s.moverChecks c true

/-- What an accepted MOVER_PACE (14 R482, R483) does. -/
def moverPaceEffect (c : RingCmd) (s : State) : State × Done :=
  let n := mcIndex c.e
  let mode := bitsAt c.e 0xC 1 0 2
  if mcAux c.e then
    let x := s.auxMover n
    (s.setAux n { x with pace := mode, paceLeft := b2n x.runs }, .ok)
  else
    (s.modStream n (fun x => { x with pace := mode, paceBytes := fld c.e 0x10 4
                                      paceLeft := if x.writing.isSome then (if mode = 2 then 2 ^ 63 else 1) else 0 }), .ok)

/-- MOVER_PACE (14 R482, R483): from the next frame or transfer; the frame being written goes on. -/
def execMoverPace (t : Nat) (c : RingCmd) (s : State) : Host.Outcome State Fault Refusal :=
  (s.elapse t).command c 0x15 (moverPaceChecks c) (moverPaceEffect c)

/-- The checks of MOVER_SPOOL (14 R482, R483, R493). -/
def moverSpoolChecks (c : RingCmd) (s : State) : Checks :=
  let e := c.e
  let gib := fld e 0x14 1
  let after (s : State) : State := s.modPort c.p (fun x => { x with spoolGiB := gib })
  { layout := [rsv e 8 1 3 1, rsv e 8 1 4 4, rsv e 9 1 0 8, rsv e 0xA 2 0 16, rsvIf true e 0x10 4] ++ restRsv e [(8, 4), (0x10, 5)]
    ranges := [(0x14, 160 < gib)]
    state := if gib * 2 ^ 30 < s.spoolHeld c.p then some (s.badState 0x52) else none
    ledger := (after s).ledgerStatus }

/-- What an accepted MOVER_SPOOL (14 R482, R483, R493) does. -/
def moverSpoolEffect (c : RingCmd) (s : State) : State × Done :=
  let e := c.e
  let gib := fld e 0x14 1
  let after (s : State) : State := s.modPort c.p (fun x => { x with spoolGiB := gib })
  ((after s).spoolLevel c.p, .ok)

/-- MOVER_SPOOL (14 R482, R483, R493): the port's spool share. -/
def execMoverSpool (t : Nat) (c : RingCmd) (s : State) : Host.Outcome State Fault Refusal :=
  (s.elapse t).command c 0x15 (moverSpoolChecks c) (moverSpoolEffect c)

/-! ### MAP_LOAD (14 R484, R487, R488) -/

/-- log2 of the page size of a MAP_LOAD. -/
def mapLog2 (e : Entry) : Nat := [12, 21, 30].getD (bitsAt e 8 1 2 2) 30
/-- PAGES of a MAP_LOAD. -/
def mapPages (e : Entry) : Nat := fld e 0xC 4
/-- VA of a MAP_LOAD. -/
def mapVa (e : Entry) : Nat := bitsAt e 0x10 8 0 45

/-- Entries that the translation area holds: 2 GiB of 8 bytes. -/
def mapRoom : Nat := 2 ^ 28

/-- Layout of a MAP_LOAD. -/
def mapLayout (e : Entry) (unmap : Bool) : List Chk :=
  [enc 8 (bitsAt e 8 1 2 2 = 3), rsv e 8 1 4 4, rsv e 0x10 8 45 19, rsvIf unmap e 0x18 8] ++
    restRsv e [(8, 1), (0xC, 4), (0x10, 16)]

/-- Ranges of a MAP_LOAD; m is what BUS is a multiple of. -/
def mapRanges (e : Entry) (m : Nat) : List (Nat × Bool) :=
  let size := 2 ^ mapLog2 e
  [(0xC, mapPages e = 0 || 1048576 < mapPages e || 2 ^ 45 < mapVa e + mapPages e * size), (0x10, mapVa e % size != 0),
    (0x18, fld e 0x18 8 % m != 0)]

/-- The entries of the range of a MAP_LOAD, whole or in part. -/
def State.mapTouched (s : State) (e : Entry) : List MapEntry :=
  let stop := mapVa e + mapPages e * 2 ^ mapLog2 e
  s.map.filter (fun m => m.va < stop && mapVa e < m.va + 2 ^ m.log2)

/-- The state rows of RUN and LIST: pages already mapped, then room (14 R488). -/
def State.mapState (s : State) (e : Entry) : Option Status :=
  if !(s.mapTouched e).isEmpty then some (s.badState 0x53)
  else if mapRoom < s.map.length + mapPages e then some (s.badState 2) else none

/-- Every page of the range is mapped by f. -/
def State.mapWrite (s : State) (p : Nat) (e : Entry) (f : Nat → Nat) : State :=
  let size := 2 ^ mapLog2 e
  let new_ := (List.range (mapPages e)).map (fun k => { va := mapVa e + k * size, log2 := mapLog2 e, port := p, bus := f k : MapEntry })
  { s with map := s.map.filter (fun m => m.va < mapVa e) ++ new_ ++ s.map.filter (fun m => mapVa e ≤ m.va) }

/-- A MAP_LOAD that takes effect when it is accepted is journaled then (16 R546). -/
def State.journalNow (s : State) (c : RingCmd) : State :=
  let r := s.ring c.p c.i
  s.journalCommand (ringId c.p c.i) ((r.d - 1) % r.size) c.e 0

/-- The checks of MAP_RUN (14 R487, R488). -/
def mapRunChecks (c : RingCmd) (s : State) : Checks :=
  let e := c.e
  { layout := mapLayout e false, ranges := mapRanges e (2 ^ mapLog2 e), state := s.mapState e }

/-- What an accepted MAP_RUN (14 R487, R488) does. -/
def mapRunEffect (c : RingCmd) (s : State) : State × Done :=
  let e := c.e
  ((s.journalNow c).mapWrite c.p e (fun k => fld e 0x18 8 + k * 2 ^ mapLog2 e), .ok)

/-- MAP_RUN (14 R487, R488). -/
def execMapRun (t : Nat) (c : RingCmd) (s : State) : Host.Outcome State Fault Refusal :=
  (s.elapse t).command c 0x16 (mapRunChecks c) (mapRunEffect c)

/-- The checks of MAP_LIST (14 R487, R488). -/
def mapListChecks (c : RingCmd) (s : State) : Checks :=
  let e := c.e
  { layout := mapLayout e false, ranges := mapRanges e 8, state := s.mapState e }

/-- What an accepted MAP_LIST (14 R487, R488) does. -/
def mapListEffect (c : RingCmd) (s : State) : State × Done :=
  ((s.freshen).auxAdd (.mapList (s.loadCmd c) c.data), .waits s.fresh)

/-- MAP_LIST (14 R487, R488): it waits for the list. -/
def execMapList (t : Nat) (c : RingCmd) (s : State) : Host.Outcome State Fault Refusal :=
  (s.elapse t).command c 0x16 (mapListChecks c) (mapListEffect c)

/-- The list of a MAP_LIST has been read (14 R488). -/
def State.mapListed (s : State) (p : Nat) (e : Entry) (d : HostData) : State × Status :=
  let l := fitTo (8 * mapPages e) d.bytes
  let entry (k : Nat) : Nat := lfld l (8 * k) 8
  let bad := (List.range (mapPages e)).find? (fun k => entry k % 2 ^ mapLog2 e != 0)
  let range : Option Status := match bad with
    | some k => if (readFault d (8 * k + 1)).isSome then none else some ⟨4, 2 ^ 31 + 8 * k⟩
    | none => none
  match firstSome [s.mapState e, range, readFault d (8 * mapPages e)] with
  | some st => (s, st)
  | none => (s.mapWrite p e entry, .success)

/-- The checks of MAP_UNMAP (14 R487, R488). -/
def mapUnmapChecks (c : RingCmd) (s : State) : Checks :=
  let e := c.e
  let ms := s.mapTouched e
  { layout := mapLayout e true, ranges := mapRanges e 1
    owner := (ms.find? (fun m => m.port != c.p)).map (fun m => Status.notOwner m.port)
    state := if ms.length = mapPages e && ms.all (fun m => m.log2 == mapLog2 e) then none else some (s.badState 0x54) }

/-- What an accepted MAP_UNMAP (14 R487, R488) does. -/
def mapUnmapEffect (c : RingCmd) (s : State) : State × Done :=
  let e := c.e
  ({ s.journalNow c with map := s.map.filter (fun m => !(s.mapTouched e).contains m) }, .ok)

/-- MAP_UNMAP (14 R487, R488). -/
def execMapUnmap (t : Nat) (c : RingCmd) (s : State) : Host.Outcome State Fault Refusal :=
  (s.elapse t).command c 0x16 (mapUnmapChecks c) (mapUnmapEffect c)

end Sys2Proof.Machine
end

