-- ==== Sys2Proof/Machine/Delivery.lean ====
section
/-!
DEFINITION. Delivery to host memory: descriptors, grants, frame tags, blocks and stalls, the ends of auxiliary transfers, and the
commands that end inside the device (03 R111, R117 to R124; 14 R473 to R481, R494 to R504; 02 R51, R52, R80, R81).
-/

namespace Sys2Proof.Machine

/-! ### Descriptors (03 R117, R118; 14 R485) -/

/-- Layout of a buffer descriptor. -/
def descLayout (d : BitVec 256) : List Chk :=
  [rsv d 0 1 0 7, rsv d 8 8 45 19, rsv d 0x10 8 40 24] ++ ([1, 2, 3, 0x18, 0x19, 0x1A, 0x1B, 0x1C, 0x1D, 0x1E, 0x1F].map (fun o => rsv d o 1 0 8))

/-- Range faults of a descriptor: a sum of two fields is at fault at the lower of them (00 R12). -/
def descRanges (d : BitVec 256) : List (Nat × Bool) :=
  let a := bitsAt d 8 8 0 45
  let n := bitsAt d 0x10 8 0 40
  [(8, a % 256 != 0 || 2 ^ 45 < a + n), (0x10, n % 256 != 0 || n < 256)]

/-- The status of a descriptor: offsets lie in a descriptor, so DETAIL [31] is 1 (03 R106). -/
def State.descStatus (s : State) (n p : Nat) (d : BitVec 256) : Option Status :=
  let x := s.stream n
  let inDesc (o : Option Status) : Option Status := o.map (fun st => { st with detail := 2 ^ 31 + st.detail })
  firstSome [inDesc (layoutStatus (descLayout d)), inDesc (rangeStatus (descRanges d)),
    if bitsAt d 0x10 8 0 40 < x.maxBytes then some ⟨0x11, n⟩ else none, s.addrStatus p (bitsAt d 8 8 0 45) x.maxBytes 8]

/-- The first frame of a stream that has no descriptor. -/
def Stream.wantsDesc (x : Stream) : Option StreamFrame := x.frames.find? (fun f => f.desc.isNone)

/-- Change frame m of a stream. -/
def Stream.modFrame (x : Stream) (m : Nat) (g : StreamFrame → StreamFrame) : Stream :=
  { x with frames := x.frames.map (fun f => if f.number = m then g f else f) }

/-- The port carries transfers to and from its host: its link is up and it may write (02 R58, R59, R74). -/
def State.portMoves (s : State) (p : Nat) : Bool := (s.port p).link == .up && (s.port p).ready && (s.port p).canWrite && s.mode != .keep

/-- DESCRIPTOR_FETCH: port p fetches entry d of the delivery ring for the next frame of a stream (03 R118, 14 R485). -/
def execDescriptorFetch (t : Nat) (p : Fin 4) (st : Fin 2048) (d : BitVec 256) (s : State) : Host.Outcome State Fault Refusal :=
  let s1 := s.elapse t
  let x := s1.stream st
  match x.wantsDesc with
  | none => .next s1
  | some f =>
    let rid := (x.ringsFor f.number).1
    let r := s1.ring p (rid % 1024)
    if rid / 1024 = p && s1.portMoves p && r.live && r.kind == 3 && r.h != r.dIndex && bitAt d 0 7 == r.own r.d then
      let s2 := (s1.setRing p (rid % 1024) { r with d := r.d + 1 }).modPort p (fun y => { y with lastActive := s1.ns })
      match s1.descStatus st p d with
      | some q =>
        .next ((s2.streamCount st 6 1).record p r.eventRing 1 0x000C islandNoc (rid + r.dIndex * 2 ^ 16) (q.code + q.detail % 2 ^ 32 * 2 ^ 32))
      | none =>
        let a := bitsAt d 8 8 0 45
        let q : Desc := { id := fld d 4 4, addr := a, len := bitsAt d 0x10 8 0 40, pages := (s1.translate p a x.maxBytes 8).2 }
        .next (s2.modStream st (fun y => y.modFrame f.number (fun g => { g with desc := some (q, r.dIndex) })))
    else .next s1

/-! ### Blocks and stalls (14 R494 to R498) -/

/-- The frame of stream n's sconce with this number. -/
def State.frameOf (s : State) (n m : Nat) : Option Frame :=
  (s.sconce (s.stream n).sconce).frames.find? (fun f => f.number == m)

/-- STALL_END once a block has ended and the spool holds none of the stream's frames (14 R498). -/
def State.stallEnd (s : State) (n : Nat) : State :=
  let x := s.stream n
  if x.drainSpool && x.frames.all (fun f => f.spool.isNone) then
    (s.setStream n { x with drainSpool := false, spooledInBlock := 0 }).streamEvent n 3 0x0009 x.spooledInBlock
  else s

/-- The block of a stream ends; the frame in flight carries SPOOL_DELAY (14 R498). -/
def State.unblock (s : State) (n : Nat) : State :=
  let x := s.stream n
  match x.blocked, x.frames with
  | none, _ => s
  | some _, [] => (s.setStream n { x with blocked := none, drainSpool := true, lastWrite := s.ns }).stallEnd n
  | some _, f :: t =>
    (s.setStream n { x with blocked := none, drainSpool := true, lastWrite := s.ns, frames := { f with delay := true } :: t }).stallEnd n

/-- A cause of a block holds for the stream (14 R494). Cause 3 also covers what the host withholds, which the event says; a block by
D3hot or Bus Master Enable stands without a frame too. -/
def State.blockCause (s : State) (n cause : Nat) (told : Bool) : Bool :=
  let x := s.stream n
  match x.frames with
  | [] => cause = 3 && (told || !s.portMoves (x.dRing / 1024))
  | f :: _ =>
    let rings := x.ringsFor f.number
    match cause with
    | 1 => f.desc.isNone && (let r := s.ring (rings.1 / 1024) (rings.1 % 1024); !r.live || r.h == r.dIndex)
    | 2 => f.ready.isSome && (let r := s.ring (rings.2 / 1024) (rings.2 % 1024); !r.live || !r.room)
    | 3 => told || !s.portMoves (x.portFor f.number)
    | 4 => x.stopped
    | 5 => x.pace != 0 && x.paceLeft = 0
    | _ => false

/-- Stream n is blocked from an elapsed instant on with a cause: BLOCKS and the record, whose TIME is the blocking instant
(14 R494). -/
def State.blockStream (s : State) (n cause since : Nat) : State :=
  let x := s.stream n
  let m := match x.frames with | f :: _ => f.number | [] => 0
  ((s.setStream n { x with blocked := some (cause, since, false) }).streamCount n 7 1).moverEventAt (s.dt - (s.ns - since)) n 3 0x0801
    (cause + m % 2 ^ 56 * 256)

/-- The stamp from which the first `need` payload bytes of a frame stand; none while they do not (14 R475). -/
def Frame.standsSince (f : Frame) (t : List Byte) (need : Nat) : Option Nat :=
  if f.closed && f.branchDone t then some f.tEnd
  else if f.staged t < need then none
  else
    let stride := tStride t f.depth (regionOut t f.width (f.branchOut t).rows ((tRegions t).headD (0, 0, 0, 0))).1
    some (match f.lines[(need - 1) / max 1 stride + 1]? with | some l => l.stamp | none => f.lineEnd)

/-- The stamp from which stream n has had something of its first frame to issue: its delivery begins with the first 4 KiB, goes on
with the next byte, and ends with its tag (14 R475, R494). -/
def State.workSince (s : State) (n : Nat) : Option Nat :=
  let x := s.stream n
  match x.frames with
  | [] => none
  | sf :: _ =>
    match sf.ready, s.frameOf n sf.number with
    | some r, _ => some r
    | none, some f => f.standsSince x.table (if sf.desc.isSome && sf.written != 0 then sf.written + 1 else 4096)
    | none, none => none

/-- STREAM_BLOCKED: 100 µs without a write while the stream has a frame to deliver (14 R494). -/
def execStreamBlocked (t : Nat) (st : Fin 2048) (cause : Nat) (s : State) : Host.Outcome State Fault Refusal :=
  let s1 := s.elapse t
  let x := s1.stream st
  match s1.workSince st with
  | none => .next s1
  | some w =>
    let since := max x.lastWrite (s1.ns - (s1.dt - w))
    if x.active && x.blocked.isNone && since + 100000 ≤ s1.ns && s1.blockCause st cause true then
      .next (s1.blockStream st cause since)
    else .next s1

/-- The block of stream n is declared a stall: its record, with the shortfall that a ledger re-check found, then failover when the
partner can take over (14 R496; 02 R53, R79). -/
def State.stallStream (s : State) (n data : Nat) : State :=
  let x := s.stream n
  let s1 := (s.setStream n { x with blocked := x.blocked.map (fun b => (b.1, b.2.1, true)) }).streamEvent n 2 0x0008 data
  if x.active && s1.partnerReady x then s1.failOver n else s1

/-- STALL: a block of cause 1 to 3 has lasted 50 ms (14 R496). -/
def execStall (t : Nat) (st : Fin 2048) (s : State) : Host.Outcome State Fault Refusal :=
  let s1 := s.elapse t
  match (s1.stream st).blocked with
  | some (c, since, false) => if c ≤ 3 && since + 50000000 ≤ s1.ns then .next (s1.stallStream st 0) else .next s1
  | _ => .next s1

/-- STALL_END: the cause of the block has gone; the stream resumes and its spool drains (14 R498). -/
def execStallEnd (t : Nat) (st : Fin 2048) (s : State) : Host.Outcome State Fault Refusal :=
  let s1 := s.elapse t
  match (s1.stream st).blocked with
  | some (c, _, _) => if s1.blockCause st c false then .next s1 else .next (s1.unblock st)
  | none => .next s1

/-- Frames of the stream before the boundary of its move still leave through port p, its partner's by now (14 R502). -/
def Stream.tailOn (x : Stream) (p : Nat) : Bool :=
  x.dRing / 1024 != p && (match x.frames with | f :: _ => x.portFor f.number = p | [] => false)

/-- Stream n, which delivers through port p, is blocked with cause 3, a stall at once; it fails over where the other port of its pair
can take it, one whose stall was declared earlier too (14 R494, R496; 02 R58, R59, R79). -/
def State.portStall (s : State) (p n : Nat) : State :=
  let s1 := if (s.stream n).blocked.isSome then s else s.blockStream n 3 s.ns
  let s2 := match (s1.stream n).blocked with
    | some (_, since, false) => (s1.modStream n (fun x => { x with blocked := some (3, since, false) })).stallStream n 0
    | _ => if s1.partnerReady (s1.stream n) && (s1.stream n).dRing / 1024 = p then s1.failOver n else s1
  let x := s2.stream n
  if x.tailOn p && s2.ringsLive x.dRing x.cRing && (s2.port (x.dRing / 1024)).canWrite then s2.moveCut n p else s2

/-- D3hot and the clearing of Bus Master Enable: every stream that delivers through port p stalls, ascending (02 R58, R59). -/
def State.portStalls (s : State) (p : Nat) : State :=
  (tabKeys s.streams (fun x => x.active && (x.dRing / 1024 == p || x.tailOn p))).foldl (fun t n => t.portStall p n) s

/-! ### Grants (14 R475 to R478) -/

/-- Cut n bytes at a bus address into writes of at most mps bytes that cross no 4 KiB boundary (14 R476); k bounds them. -/
def cutWrites (mps : Nat) : Nat → Nat → List Byte → List (Nat × List Byte)
  | 0, _, _ => []
  | k + 1, a, l =>
    if l.isEmpty then []
    else
      let n := min l.length (min (max 1 mps) (4096 - a % 4096))
      (a, l.take n) :: cutWrites mps k (a + n) (l.drop n)

/-- The part of [va, va + bytes) that lies on one page of a descriptor, with its bus address. -/
def pagePart (va : Nat) (l : List Byte) (q : Nat × Nat × Nat) : Nat × List Byte :=
  let lo := max va q.1
  let hi := min (va + l.length) (q.1 + q.2.1)
  (q.2.2 + (lo - q.1), (l.drop (lo - va)).take (hi - lo))

/-- Writes of payload, line tags or a statistics record, with Relaxed Ordering when the host has enabled it (02 R51). -/
def State.bufferParts (s : State) (p : Nat) (parts : List (Nat × List Byte)) : State :=
  parts.foldl (fun t q => t.say (.bufferWrite p q.1 (s.port p).relaxed q.2)) s

/-- Write bytes at an offset of a descriptor's buffer through port p, by the translations held with it. -/
def State.putBuffer (s : State) (p : Nat) (d : Desc) (off : Nat) (l : List Byte) : State :=
  ((d.pages.map (pagePart (d.addr + off) l)).filter (fun q => !q.2.isEmpty)).foldl
    (fun t q => t.bufferParts p (cutWrites (t.port p).mps q.2.length q.1 q.2)) s

/-- The statistics record a frame's delivery writes; with FAULT_LOST its content is not valid, and its CRC matches it (06 R245). -/
def Stream.statsOf (x : Stream) (f : Frame) (sf : StreamFrame) : List Byte :=
  let r := statsRecord f x.sconce f.past0.1
  if sf.lost f then
    let tail := (List.range (r.length - 0x18)).map (Config.lostByte f.b f.number)
    let crc := crc32c (r.take 0x14 ++ zeros 4 ++ tail)
    r.take 0x14 ++ leBytes 4 crc ++ tail
  else r

/-- Every byte of the frame's payload and line tags is written: its statistics record is asked for, or its entry is ready
(14 R475, R479, R503). -/
def State.afterGrant (s : State) (n : Nat) (f : Frame) (sf : StreamFrame) : State :=
  let x := s.stream n
  if !(f.closed && f.branchDone x.table && f.corrected) then s
  else
    let pl := x.places f x.sconce
    if sf.written < pl.1 + pl.2.1.2 then s
    else if x.wantsStats f && sf.stats = 0 then
      (s.modStream n (fun y => y.modFrame f.number (fun g => { g with stats := 1 }))).auxAdd (.statistics n f.number)
    else if (x.wantsStats f && sf.stats = 1) || sf.ready.isSome then s
    else s.modStream n (fun y => y.modFrame f.number (fun g => { g with ready := some s.dt }))

/-- The next bytes of a frame: offset in the buffer, how many of the written count they are, at most lim (14 R475). -/
def Stream.nextBytes (x : Stream) (f : Frame) (sf : StreamFrame) (lim : Nat) : Nat × List Byte :=
  let done : Bool := f.closed && f.branchDone x.table
  let staged := f.staged x.table
  if !done then
    if staged < 4096 then (0, [])
    else (sf.written, (((x.payloadOf f sf).take staged).drop sf.written).take (min 4096 lim))
  else
    let pl := x.places f x.sconce
    if sf.written < pl.1 then (sf.written, ((x.payloadOf f sf).drop sf.written).take (min 4096 lim))
    else (pl.2.1.1 + (sf.written - pl.1), ((x.lineTagTable f).drop (sf.written - pl.1)).take (min 4096 lim))

/-- The context may write: it is not stopped, and its pace allows it (14 R483). -/
def Stream.mayWrite (x : Stream) : Bool := !x.stopped && (x.pace = 0 || 0 < x.paceLeft)

/-- PAYLOAD_WRITE_GRANT: up to 4 KiB of the frame that the stream's context writes (14 R476, R478). -/
def execPayloadWriteGrant (t : Nat) (st : Fin 2048) (s : State) : Host.Outcome State Fault Refusal :=
  let s1 := s.elapse t
  let x := s1.stream st
  match x.frames with
  | [] => .next s1
  | sf :: _ =>
    match sf.desc, s1.frameOf st sf.number with
    | some d, some f =>
      let p := x.portFor sf.number
      if !(x.mayWrite && s1.portMoves p && sf.ready.isNone) then .next s1
      else
        let w := x.nextBytes f sf (if x.pace = 2 then x.paceLeft else 4096)
        let sf1 := { sf with written := sf.written + w.2.length }
        if w.2.isEmpty then .next (s1.afterGrant st f sf)
        else
          let s2 := (s1.unblock st).putBuffer p d.1 w.1 w.2
          let s3 := s2.modStream st (fun y => { y.modFrame sf.number (fun g => { g with written := sf1.written }) with
            lastWrite := s1.ns, paceLeft := if y.pace = 2 && y.paceLeft < 2 ^ 62 then y.paceLeft - w.2.length else y.paceLeft })
          .next (s3.afterGrant st f sf1)
    | _, _ => .next s1

/-! ### Frame tags (14 R475, R503, R504; 03 R120) -/

/-- What R503 orders entries by: readiness, completion ring, frame, slice, stream. -/
def entryBefore (a b : Nat × Nat × Nat × Nat × Nat) : Bool :=
  a.1 < b.1 || (a.1 == b.1 && (a.2.1 < b.2.1 || (a.2.1 == b.2.1 && (a.2.2.1 < b.2.2.1 || (a.2.2.1 == b.2.2.1 &&
    (a.2.2.2.1 < b.2.2.2.1 || (a.2.2.2.1 == b.2.2.2.1 && a.2.2.2.2 < b.2.2.2.2)))))))

/-- The order key of a stream whose entry is ready and can be written now. -/
def State.entryKey (s : State) (n : Nat) : Option (Nat × Nat × Nat × Nat × Nat) :=
  let x := s.stream n
  match x.frames with
  | [] => none
  | sf :: _ =>
    let rid := (x.ringsFor sf.number).2
    let r := s.ring (rid / 1024) (rid % 1024)
    match sf.ready with
    | some k =>
      if s.portMoves (rid / 1024) && r.live && r.kind == 4 && r.room && !x.stopped then some (k, rid, sf.number, x.sconce / 8, n) else none
    | none => none

/-- The entry of stream n is the first that can be written (14 R503). -/
def State.entryFirst (s : State) (n : Nat) : Bool :=
  match s.entryKey n with
  | none => false
  | some k => s.streams.all (fun x => match s.entryKey x.1 with | some q => !entryBefore q k | none => true)

/-- Regions of a frame that deliver no line, as a mask (07 R267, R278). -/
def Frame.emptyRegions (f : Frame) (t : List Byte) : Nat :=
  if tCoding t then 0
  else sumL (((f.branchOut t).lines.zipIdx).map (fun p => if p.1.isEmpty then 2 ^ p.2 else 0))

/-- Planes a machine-vision tap names at or above PLANES, as a mask (07 R267, R278). -/
def Frame.absentPlanes (f : Frame) (t : List Byte) : Nat :=
  if lbits t 0x20 1 0 2 != 2 || lbits t 0x24 1 0 2 != 1 then 0
  else sumL (((tPlanes t).filter (fun k => planesOf (f.grp 0x10) ≤ k)).map (fun k => 2 ^ k))

/-- A record of 07 R278, at most one for each stream in 100 ms. -/
def State.outputEvent (s : State) (n typ cls hi data : Nat) : State :=
  let x := s.stream n
  let open_ : Bool := match tabFind x.limits typ with | some t => t + 100000000 ≤ s.ns | none => true
  if open_ then
    (s.setStream n { x with limits := tabPut x.limits typ s.ns }).ringEvent x.cRing cls typ (islandSlice x.sconce) (n + hi % 2 ^ 16 * 2 ^ 16) data
  else s

/-- ROI_EMPTY and PLANE_ABSENT of a frame (07 R267). -/
def State.outputEvents (s : State) (n : Nat) (f : Frame) : State :=
  let t := (s.stream n).table
  let e := f.emptyRegions t
  let a := f.absentPlanes t
  let low := ((List.range 32).find? (fun k => nbit e k)).getD 0
  let s1 := if e = 0 then s else s.outputEvent n 0x0220 3 e (low + f.number % 2 ^ 56 * 256)
  if a = 0 then s1 else s1.outputEvent n 0x0221 2 0 (a % 16 + f.number % 2 ^ 56 * 256)

/-- FRAME_TAG_WRITE: the entry that is first in the collector is written (14 R475, R503, R504). -/
def execFrameTagWrite (t : Nat) (st : Fin 2048) (s : State) : Host.Outcome State Fault Refusal :=
  let s1 := s.elapse t
  let x := s1.stream st
  match x.frames with
  | [] => .next s1
  | sf0 :: _ =>
    match s1.frameOf st sf0.number with
    | none => .next s1
    | some f =>
      if !s1.entryFirst st then .next s1
      else
        let s2 := s1.unblock st
        let y := s2.stream st
        let sf := (y.frames.head?).getD sf0
        let rid := (y.ringsFor sf.number).2
        let s3 := (s2.outputEvents st f).writeEntry (rid / 1024) (rid % 1024) (s2.tagBytes st f sf)
        let s4 := (s3.streamCount st 1 1).modStream st (fun z => { z with gap := 0, lastTag := sf.number, lastWrite := s3.ns })
        let s5 := ((s4.dropFrame st sf.number).emit0 0xB st (256 * s4.dt) 25600).stallEnd st
        let s6 := if (s5.stream st).draining then
            (s5.modStream st (fun z => { z with draining := false, stopped := true })).moverEvent st 3 0x0804 (sf.number % 2 ^ 56 * 256)
          else s5
        .next ((s6.frameLeft st sf.number).letGo x.sconce)

/-! ### The ends of auxiliary transfers (14 R479 to R481) -/

/-- The command of ring identifier rid waits with this number. -/
def State.waitsFor (s : State) (rid arg : Nat) : Option Waiting :=
  match (s.ring (rid / 1024) (rid % 1024)).waiting with
  | some w => if w.arg = arg then some w else none
  | none => none

/-- The effect of a load whose image has been read (05 R190, 08 R295, 12 R424). -/
def State.loaded (s : State) (p : Nat) (e : Entry) (d : HostData) : State × Status :=
  match fld e 0 1 with
  | 0x21 => s.tableLoaded p e d
  | 0x28 => s.kernelLoaded p e d
  | _ => s.seqLoaded p e d

/-- The journal's number of a load's kind, the object it loads, and who captures it: the port of a table, the Lantern of a kernel, the
sequencer of a program (16 R546, R558). -/
def loadNames (p : Nat) (e : Entry) : Nat × Nat × Nat :=
  match fld e 0 1 with
  | 0x21 => (1, p, fld e 8 4)
  | 0x28 => (2, cmdLantern e, cmdLantern e)
  | _ => (3, bitsAt e 8 1 0 5, bitsAt e 8 1 0 5)

/-- The effect of a load whose port has been reset: a bank or a sequencer is loaded for the owner it had then, and a table, which no
port owns and nothing uses, is freed at once (02 R57, 05 R191). -/
def State.loadedAfterReset (s : State) (p : Nat) (e : Entry) (d : HostData) : State × Status :=
  let r := s.loaded p e d
  match fld e 0 1 with
  | 0x21 => (s, r.2)
  | 0x28 => (r.1.modLantern (cmdLantern e) (fun x => { x with owner := (s.lantern (cmdLantern e)).owner }), r.2)
  | _ => (r.1.setSeq (bitsAt e 8 1 0 5) { r.1.seqr (bitsAt e 8 1 0 5) with owner := (s.seqr (bitsAt e 8 1 0 5)).owner }, r.2)

/-- The image of a load has been read: it is checked and loaded; the commit is journaled, then the image, for the journal and for captures,
and a command that still waits gets its status (16 R546, R558). One whose ring is gone writes no status (02 R57). -/
def State.imageEnds (s : State) (c : LoadCmd) (d : HostData) : State × List Byte :=
  let e := c.entry
  let p := c.ring / 1024
  let image := imageBytes d (fld e 0x18 4)
  let r := if c.gone then s.loadedAfterReset p e d else s.loaded p e d
  let nm := loadNames p e
  let s1 := r.1.journalLoad c r.2
  let s2 := if r.2.code = 0 then
      (s1.journal nm.1 0x04 islandSup s1.dt
        (leBytes 4 nm.2.2 ++ leBytes 4 image.length ++ leBytes 4 (lfld image 8 4) ++ leBytes 4 s1.commitSeq)).captureImage nm.1 nm.2.1 image
    else s1
  (s2.finishWaiting c.ring c.arg r.2, image)

/-- The list of a MAP_LOAD has been read and its entries are written (14 R488); those of a port that has been reset are removed again at
once (02 R57, 14 R484). -/
def State.mapEnds (s : State) (c : LoadCmd) (d : HostData) : State × List Byte :=
  let r := s.mapListed (c.ring / 1024) c.entry d
  (((if c.gone then s else r.1).journalLoad c r.2).finishWaiting c.ring c.arg r.2, imageBytes d (8 * mapPages c.entry))

/-- A status or result block has been written (14 R479). One whose command is gone is not (02 R57). -/
def State.blockEnds (s : State) (rid arg port : Nat) (parts : List (Nat × List Byte)) : State × List Byte :=
  match s.waitsFor rid arg with
  | none => (s, [])
  | some _ => ((s.hostPutParts port parts).finishWaiting rid arg .success, (parts.map (·.2)).flatten)

/-- The statistics record of a frame has been written (06 R243). -/
def State.statsEnds (s : State) (n m : Nat) : State × List Byte :=
  let x := s.stream n
  match x.frames.find? (fun g => g.number == m), s.frameOf n m with
  | some sf, some f =>
    match sf.desc with
    | some d =>
      if sf.stats = 1 then
        let rec_ := x.statsOf f sf
        let s1 := (s.putBuffer (x.portFor m) d.1 (x.places f x.sconce).2.2.1 rec_).modStream n (fun y =>
          { y.modFrame m (fun g => { g with stats := 2 }) with lastWrite := s.ns })
        (s1.afterGrant n f { sf with stats := 2 }, rec_)
      else (s, [])
    | none => (s, [])
  | _, _ => (s, [])

/-- The port that a transfer uses can carry it. -/
def State.auxCan (s : State) (j : AuxJob) : Bool :=
  match j with
  | .image c _ | .mapList c _ => (s.waitsFor c.ring c.arg).isNone || s.portMoves (c.ring / 1024)
  | .block rid arg port _ => (s.waitsFor rid arg).isNone || s.portMoves port
  | .statistics n m => !(s.stream n).frames.any (fun g => g.number == m && g.stats = 1) || s.portMoves ((s.stream n).portFor m)
  | .gather _ => true

/-- What the end of a transfer does, and the bytes it moved. -/
def State.auxEffect (s : State) (j : AuxJob) : State × List Byte :=
  match j with
  | .image c d => s.imageEnds c d
  | .mapList c d => s.mapEnds c d
  | .block rid arg port parts => s.blockEnds rid arg port parts
  | .statistics n m => s.statsEnds n m
  | .gather n => s.gatherDone n

/-- AUX_DONE: the transfer that mover ax runs completes (14 R481). -/
def execAuxDone (t : Nat) (ax : Fin 8) (s : State) : Host.Outcome State Fault Refusal :=
  let s1 := s.elapse t
  let x := s1.auxMover ax
  match x.queue with
  | [] => .next s1
  | j :: _ =>
    if x.runs && s1.auxCan j && s1.mode != .dark && s1.mode != .keep then
      let r := s1.auxEffect j
      .next (r.1.auxEnd ax r.2)
    else .next s1

end Sys2Proof.Machine
end

