-- ==== Sys2Proof/Machine/PortLoss.lean ====
section
/-!
DEFINITION. Loss and change of a host port: resets, D3hot, Bus Master Enable, a change of the link's capacity, L0p
(02 R53, R56 to R59, R63 to R65, R77).
-/

namespace Sys2Proof.Machine

/-! ### Port resets (02 R56, R57) -/

/-- A port's registers return to reset values; AER keeps its sticky bits, and what belongs to the link, the link partner and the device
stays. -/
def Port.functionReset (x : Port) : Port :=
  { Port.reset with
    link := x.link, rate := x.rate, width := x.width, fullWidth := x.fullWidth, drsEnable := x.drsEnable, aerUnc := x.aerUnc
    aerCor := x.aerCor, aerUncMask := x.aerUncMask, aerCorMask := x.aerCorMask, aerUncSev := x.aerUncSev, firstError := x.firstError
    headerLog := x.headerLog, ecrcCheck := x.ecrcCheck, ecrcGen := x.ecrcGen, reported := x.reported, silent := x.silent
    spoolGiB := x.spoolGiB, spoolHigh := x.spoolHigh, refClk := x.refClk }

/-- A sequencer of the reset port is halted and released, its image and counters kept (02 R57). -/
def State.seqReleased (s : State) (q : Nat) : State :=
  let s1 := if (s.seqr q).running then s.haltReport q else s
  s1.setSeq q { s1.seqr q with owner := none }

/-- A target of the reset port is released and its line returns to its idle level (02 R57, 12 R442). -/
def State.targetReleased (s : State) (g : Nat) : State :=
  let x := s.target g
  let s1 := if x.cfg.kind = 2 then s.drive x.cfg.lane s.dt256 x.cfg.polarity else s
  ({ s1 with sconces := tabMap s1.sconces (fun _ k => { k with fires := k.fires.filter (fun f => f.target != g) }) }).setTarget g Target.reset

/-- A load whose command port p issued goes on without that port (02 R57). -/
def AuxJob.orphan (p : Nat) (j : AuxJob) : AuxJob :=
  match j with
  | .image c d => .image { c with gone := c.gone || c.ring / 1024 = p } d
  | .mapList c d => .mapList { c with gone := c.gone || c.ring / 1024 = p } d
  | _ => j

/-- What the port owned: streams, then the rest by the table of 02 R57. -/
def State.portObjects (s : State) (p : Nat) : State :=
  let mine (o : Option Nat) : Bool := o == some p
  let s1 := (tabKeys s.streams (fun x => x.st != .free)).foldl (fun t n => t.streamPortLost n p) s
  let s2 : State := { s1 with
    sconces := tabMap s1.sconces (fun _ x => if mine x.owner then { x with owner := none } else x)
    lanes := tabMap s1.lanes (fun _ x => if mine x.owner then { x with owner := none } else x)
    encoders := tabMap s1.encoders (fun _ x => if mine x.owner then { x with owner := none, div := none } else x)
    gio := tabMap s1.gio (fun _ x => if mine x.owner then { x with owner := none } else x)
    lanterns := tabMap s1.lanterns (fun _ x => if mine x.owner then { x with owner := none } else x)
    groups := tabMap s1.groups (fun _ x => if mine x.owner then Group.reset else x)
    tables := tabMap s1.tables (fun _ x => if mine x.owner then { x with owner := none } else x)
    map := s1.map.filter (fun m => m.port != p)
    aux := tabMap s1.aux (fun _ x => { x with queue := x.queue.map (AuxJob.orphan p) })
    auxWait := s1.auxWait.map (AuxJob.orphan p) }
  let s3 := (tabKeys s2.channels (fun x => x.owner == p)).foldl (fun t n => t.freeChannel n) s2
  let s4 := (tabKeys s3.seqs (fun x => mine x.owner)).foldl (fun t q => t.seqReleased q) s3
  ((tabKeys s4.targets (fun x => mine x.owner)).foldl (fun t g => t.targetReleased g) s4).freeTables

/-- PORT_RESET: ring 1 of every other port in service gets the record (03 R116, 02 R57 to R59). -/
def State.portResetRecord (s : State) (p kind : Nat) : State :=
  s.reportPorts (fun q => q != p && s.inService q) 2 0x0004 (islandPort p) p kind

/-- The journal ring is disabled when it is a ring of the reset port p (17 R587). -/
def State.journalRingLost (s : State) (p : Nat) : State :=
  if s.jn.ringEn && s.jn.ring / 1024 = p then { s with jn := { s.jn with ringEn := false, oldRing := none } } else s

/-- A function-level reset, hot reset or DL_Down of port p by its kind 0, 1 or 2 (02 R57, R77, 17 R587). -/
def State.portReset (s : State) (p kind : Nat) (f : Port → Port) : State :=
  let s1 := s.modPort p (fun x => f x.functionReset)
  let s2 := s1.portObjects p
  let s3 := (s2.portResetRecord p kind).journal 1 0x60 (islandPort p) s.dt (leBytes 1 p ++ leBytes 1 kind)
  (s3.claimLost p).journalRingLost p

/-- FUNCTION_LEVEL_RESET (02 R57): configuration requests get Request Retry Status for up to 10 ms. -/
def execFunctionLevelReset (t : Nat) (p : Fin 4) (s : State) : Host.Outcome State Fault Refusal :=
  .next ((s.elapse t).configRequest p (fun u =>
    u.portReset p 0 (fun x => { x with ready := false, flrUntil := some (u.ns + 10000000) })))

/-- The link of a port has gone: it passes through Detect and trains again (02 R56). -/
def Port.linkLost (x : Port) : Port :=
  { x with link := .detect, ready := false, rate := 0, width := 0, fullWidth := 0, degraded := false }

/-- HOT_RESET (02 R56). -/
def execHotReset (t : Nat) (p : Fin 4) (s : State) : Host.Outcome State Fault Refusal :=
  let s1 := s.elapse t
  if (s1.port p).link == .up then .next (s1.portReset p 1 Port.linkLost) else .next s1

/-- DL_DOWN (02 R56). -/
def execDlDown (t : Nat) (p : Fin 4) (s : State) : Host.Outcome State Fault Refusal :=
  let s1 := s.elapse t
  if (s1.port p).link == .up then .next (s1.portReset p 2 Port.linkLost) else .next s1

/-! ### D3hot and Bus Master Enable (02 R58, R59) -/

/-- The port enters D3hot: streams stall at once, the claim passes, nothing is fetched or written (02 R58, R77). -/
def State.d3hotEntry (s : State) (p : Nat) : State :=
  let x := s.port p
  if x.d3hot then s else (((s.setPort p { x with d3hot := true }).portStalls p).portResetRecord p 3).claimLost p

/-- D3HOT_ENTRY (02 R58). -/
def execD3hotEntry (t : Nat) (p : Fin 4) (s : State) : Host.Outcome State Fault Refusal :=
  .next ((s.elapse t).configRequest p (fun u => u.d3hotEntry p))

/-- Bus Master Enable is cleared: streams stall at once (02 R59). -/
def State.masterOff (s : State) (p : Nat) : State :=
  let x := s.port p
  if x.bme then ((s.setPort p { x with bme := false }).portStalls p).portResetRecord p 4 else s

/-- BUS_MASTER_DISABLE (02 R59). -/
def execBusMasterDisable (t : Nat) (p : Fin 4) (s : State) : Host.Outcome State Fault Refusal :=
  .next ((s.elapse t).configRequest p (fun u => u.masterOff p))

/-! ### A change of the link's capacity (02 R53) -/

/-- Egress that the streams delivering through port p demand, with the reservations of other ports' streams. -/
def State.overload (s : State) (p : Nat) (gone : List Nat) : Rat :=
  let own := sumR ((s.streams.filter (fun x => x.2.charged && x.2.dRing / 1024 = p && !gone.contains x.1)).map (fun x => s.egress x.2))
  let all := sumR ((s.streams.filter (fun x => x.2.charged && x.2.dRing / 1024 = p)).map (fun x => s.egress x.2))
  own + (s.portDemand p - all) - s.portLimit p

/-- The partner of a stream can carry it: its rings are in service and its demand, which holds the reservation, fits (02 R53). -/
def State.partnerRoom (s : State) (x : Stream) : Bool :=
  match x.partner with
  | some q => s.partnerReady x && s.portDemand (q.1 / 1024) ≤ s.portLimit (q.1 / 1024)
  | none => false

/-- Streams in ascending number move to their partners until the remainder fits; each move takes effect at the stream's next
boundary. The streams moved. -/
def State.shed (s : State) (p : Nat) : List Nat → List Nat → State × List Nat
  | [], gone => (s, gone)
  | n :: l, gone =>
    if s.overload p gone ≤ 0 then (s, gone)
    else
      let x := s.stream n
      if x.active && s.partnerRoom x then
        State.shed (s.setStream n { x with move := some (s.dt, none) }) p l (n :: gone)
      else State.shed s p l gone

/-- A stream that cannot move is handled as stalled: its records, with the shortfall in 0.1 GB/s (02 R53, 03 R116). -/
def State.shortStall (s : State) (n data : Nat) : State :=
  let s1 := if (s.stream n).blocked.isSome then s else s.blockStream n 3 s.ns
  (s1.modStream n (fun x => { x with blocked := x.blocked.map (fun b => (b.1, b.2.1, true)) })).streamEvent n 2 0x0008 data

/-- The ledger's re-check of port p after its C fell (02 R53). -/
def State.recheck (s : State) (p : Nat) : State :=
  let ns := tabKeys s.streams (fun x => x.charged && x.dRing / 1024 == p)
  let r := s.shed p ns []
  let short := s.overload p r.2
  if short ≤ 0 then r.1
  else (ns.filter (fun n => !r.2.contains n && (s.stream n).active)).foldl (fun t n => t.shortStall n (ratUp short 100000000)) r.1

/-- Port p takes the values y, which its C rests on: the record of the new rate, width and C, and the re-check when C has not risen
(02 R53). -/
def State.capacityChange (s : State) (p : Nat) (y : Port) : State :=
  let rises : Bool := (s.port p).capacity < y.capacity
  let s1 := ((s.setPort p y).record p 1 3 0x0002 (islandPort p) p y.linkData).reportDegraded p
  if rises then s1 else s1.recheck p

/-- LINK_CAPACITY_CHANGE: the link's new rate and width (02 R53). -/
def execLinkCapacityChange (t : Nat) (p : Fin 4) (rate width : Nat) (s : State) : Host.Outcome State Fault Refusal :=
  let s1 := s.elapse t
  let x := s1.port p
  if x.link == .up && legalRate rate && legalWidth width then
    .next (s1.capacityChange p { x with rate := rate, width := width, fullWidth := width })
  else .next s1

/-! ### Writes of the host to registers (02 R41 to R46, R53, R54; 21 R664) -/

/-- Device Control: Enable Relaxed Ordering, and Max_Payload_Size, which applies at once; a change of C is reported and a fall of it is
re-checked (02 R51, R53). -/
def State.deviceControl (s : State) (p v : Nat) : State :=
  let x := s.port p
  let y := { x with relaxed := nbit v 4, mps := mpsOf (nbits v 5 3) }
  if y.capacity = x.capacity then s.setPort p y else s.capacityChange p y

/-- A write to a configuration register (02 R41 to R73). Severity bit 22 stays 1 (02 R73). -/
def State.configWrite (s : State) (p : Nat) (r : CfgReg) (v : Nat) : State :=
  let up (f : Port → Port) : State := s.modPort p f
  match r with
  | .command => up (fun x => { x with mse := nbit v 1 })
  | .bar0Low => up (fun x => { x with bar0 := x.bar0 / 2 ^ 32 * 2 ^ 32 + v / 65536 * 65536 })
  | .bar0High => up (fun x => { x with bar0 := x.bar0 % 2 ^ 32 + v * 2 ^ 32 })
  | .deviceControl => s.deviceControl p v
  | .linkControl => up (fun x => { x with aspmL1 := nbit v 1 })
  | .deviceControl3 => up (fun x => { x with l0pEnable := nbit v 3 })
  | .msixControl => (up (fun x => { x with fnMask := nbit v 14 })).flushPending p
  | .aerUncStatus => up (fun x => { x with aerUnc := x.aerUnc &&& (0xFFFFFFFF ^^^ v) })
  | .aerUncMask => up (fun x => { x with aerUncMask := v })
  | .aerUncSeverity => up (fun x => { x with aerUncSev := setBit v aerInternal })
  | .aerCorStatus => up (fun x => { x with aerCor := x.aerCor &&& (0xFFFFFFFF ^^^ v) })
  | .aerCorMask => up (fun x => { x with aerCorMask := v })
  | .aerControl => up (fun x => { x with ecrcGen := nbit v 6, ecrcCheck := nbit v 8 })
  | .drsControl => up (fun x => { x with drsEnable := nbit v 0 })

/-- A write of `size` bytes to BAR0: 4 or 8 bytes at their own alignment, the latter as two writes, the lower address first; any other
is discarded and logged as a Completer Abort (02 R45). -/
def State.bar0Access (s : State) (p off size v : Nat) (header : BitVec 128) : State :=
  if size = 4 && off % 4 = 0 then s.bar0Write p off (v % 2 ^ 32)
  else if size = 8 && off % 8 = 0 then (s.bar0Write p off (v % 2 ^ 32)).bar0Write p (off + 4) (v / 2 ^ 32)
  else s.badAccess p false header.toNat

/-- REGISTER_WRITE: a write of the host to BAR0 or to configuration space (21 R664, 02 R44 to R46, R54). The link partner's setting of
Device Readiness Status is not the port's own register (DESIGN CHOICE, entry 89): it changes with the link up, ready or not. -/
def execRegisterWrite (t : Nat) (p : Fin 4) (w : RegWrite) (s : State) : Host.Outcome State Fault Refusal :=
  let s1 := s.elapse t
  match w with
  | .config .drsControl v => if (s1.port p).link == .up then .next (s1.configWrite p .drsControl v.toNat) else .next s1
  | .config r v => .next (s1.configRequest p (fun u => u.configWrite p r v.toNat))
  | .bar0 off size v header => .next (s1.memoryRequest p header (fun u => u.bar0Access p off.toNat size v.toNat header))

/-! ### L0p (02 R63 to R65) -/

/-- L0P_REQUEST: the link partner asks for a width; one that would narrow the link below what R63 requires is declined (02 R65). -/
def execL0pRequest (t : Nat) (p : Fin 4) (width : Nat) (s : State) : Host.Outcome State Fault Refusal :=
  let s1 := s.elapse t
  let x := s1.port p
  if s1.answers p && x.l0pEnable && legalWidth width && width ≤ x.fullWidth then
    if width < x.width && width < s1.neededWidth p then .next (s1.say (.l0p p width false))
    else .next ((s1.setPort p { x with width := width }).say (.l0p p width true))
  else .next s1

/-- L0P_NARROW: while streams deliver, the port narrows its link to the width R63 requires (02 R63). -/
def execL0pNarrow (t : Nat) (p : Fin 4) (s : State) : Host.Outcome State Fault Refusal :=
  let s1 := s.elapse t
  let x := s1.port p
  let w := s1.neededWidth p
  if s1.answers p && x.l0pEnable && s1.delivers p && w < x.width then
    .next ((s1.setPort p { x with width := w }).say (.l0p p w true))
  else .next s1

end Sys2Proof.Machine
end

