-- ==== Sys2Proof/Machine/FaultOps.lean ====
section
/-!
DEFINITION. What a hard fault costs, how a spare takes over, what exhaustion of a pool does, and planned spare-ins
(01 R38 to R40; 04 R181; 15 R507 to R516).
-/

namespace Sys2Proof.Machine

/-- Frame flag FAULT_LOST (03 R121). -/
def flFaultLost : Nat := 2 ^ 16

/-- The units have power: neither Keep nor Dark. -/
def State.unitsLive (s : State) : Bool := s.mode != .keep && s.mode != .dark && s.start.fw != .failed

/-! ### What a hard fault costs (15 R509, R512) -/

/-- The open frame of sconce k is delivered with FAULT_LOST. -/
def State.strikeSconce (s : State) (k : Nat) : State := s.flagOpen k flFaultLost

/-- Frame m of sconce k carries FAULT_LOST, and no kernel works on it at a tap. -/
def State.strikeTap (s : State) (k tap m : Nat) : State :=
  s.modSconce k (fun x => x.modFrame m (fun f =>
    { f with flags := f.flags ||| flFaultLost, taps := tabMap f.taps (fun j v => if j = tap && v < 1024 then v + 1024 else v) }))

/-- A Lantern loses its engine's state: banks and local store remain, the interrupt controller, the shadow bank, EPC, FEPC and CAUSE are
as after LANTERN_BIND (15 R512, 09 R321). -/
def Lantern.struck (x : Lantern) : Lantern :=
  { x.dropWork with
    outLine := [], shadow := [], sr := [9, 0xA, 0xB].foldl tabDel x.dropWork.sr, gather := none, irqPending := 0, irqMask := 2 ^ 64 - 1
    irqClass := 0, irqActive := 0, irqHoldoff := 0, irqThreshold := 0, irqCount := [], pinConfig := [], pinHigh := 0
    pinWait := [], pendedAt := [], earliest := none, holdoffDone := false }

/-- The frame in flight on Lantern n: the one in work, else the open one if the kernel is at a tap of it. -/
def State.inFlight (s : State) (n : Nat) : Option Nat :=
  let x := s.lantern n
  match x.frame with
  | some m => some m
  | none => ((s.framesOf n).find? (fun f => !f.closed)).map (·.number)

/-- Lantern n fails: the frame in flight is lost, or with `all` every frame its kernel has not finished. -/
def State.strikeLantern (s : State) (n : Nat) (all : Bool) : State :=
  let x := s.lantern n
  let ms := if all then (s.framesOf n).map (·.number) else (s.inFlight n).toList
  let s1 := ms.foldl (fun t m => t.strikeTap x.sconce x.tap m) (s.setLantern n x.struck)
  if x.st == .free then s1 else s1.sconceMoves x.sconce

/-- The encoder instances that code stream n: as many as the ledger counts, the slices going to them in rotation (07 R277). -/
def State.codersOf (s : State) (n : Nat) : List Nat := (List.range (s.codersNeeded (s.stream n))).map (Config.codingInstance n)

/-- Encoder instance i fails: the frame in flight of each stream it codes carries FAULT_LOST for that stream. -/
def State.strikeCoding (s : State) (i : Nat) : State :=
  { s with streams := tabMap s.streams (fun n x =>
      if x.active && tCoding x.table && (s.codersOf n).contains i then
        match (s.sconce x.sconce).openFrame with
        | some f => { x with frames := x.frames.map (fun g => if g.number == f.number then { g with fault := true } else g) }
        | none => x
      else x) }

/-- Sconces fed by a lane. -/
def State.fedBy (s : State) (l : Nat) : List Nat := tabKeys s.sconces (fun x => x.configured && x.lane == l)

/-- Logical unit n of a pool fails; `moved` are the sconces of a slice that a planned spare-in has already moved, `due` the instant by
which the spare serves. -/
def State.strikeUnit (s : State) (pool n : Nat) (moved : List Nat) (due : Nat) : State :=
  if pool = poolWicks then (s.fedBy n).foldl State.strikeSconce (s.modLane n (fun x => { x with wickDown := some due }))
  else if pool = poolSlices then
    (((List.range 8).map (fun j => 8 * n + j)).filter (fun k => !moved.contains k)).foldl State.strikeSconce s
  else if pool = poolLanterns then s.strikeLantern n false
  else s.strikeCoding n

/-! ### Eviction (15 R513) -/

/-- Streams that may be evicted for a resource: Running ones that hold their charge, for the encoders those that code. -/
def State.evictable (s : State) (code : Nat) : List Nat :=
  tabKeys s.streams (fun x => x.st == .running && !x.uncharged && (code != 4 || tCoding x.table))

/-- Running streams stop in descending number, each at its next frame boundary, until the admitted set fits; k bounds them. -/
def State.evict (s : State) : Nat → State
  | 0 => s
  | k + 1 =>
    match s.shortRow with
    | none => s
    | some r =>
      match (s.evictable r.code).getLast? with
      | none => s
      | some n =>
        let s1 := (s.modStream n (fun x => { x with uncharged := true })).reportPorts s.inService 1 0x090A islandSup n r.code
        (s1.streamStopBy n [] 0).evict k

/-! ### Exhaustion (15 R513, R514) -/

/-- Lane l stays down and reports LANE_LOST. -/
def State.laneDead (s : State) (l : Nat) : State :=
  let s1 := s.truncateLane l
  let s2 := s1.modLane l (fun x => { x with refStopped := true, wickDown := none })
  if (s2.lane l).mode == .off then s2
  else
    (((s2.loseRequests l).laneTo l .waitSignal).modLane l (fun x => { x with lost := true, dropAt := some (s.dt, s.ns) })).laneRecord
      l 1 0x0103 0 0 s.dt

/-- Logical slice n has no physical unit: its sconces deliver no frame, and Running streams on them return to Configured. -/
def State.sliceDead (s : State) (n : Nat) : State :=
  ((List.range 8).map (fun j => 8 * n + j)).foldl (fun t k =>
    (tabKeys t.streams (fun x => x.active && x.sconce == k)).foldl (fun u m =>
      (u.modStream m (fun x => { x with frames := [] })).stopDone m (u.stream m).lastTag) (t.discardOpen k)) s

/-- Capacity of an HBM stack, in GiB (01 R18). -/
def stackGiB : Nat := 24

/-- The spool share that a port keeps when a stack is lost: the capacity lost comes first out of the spool reservation, and each share
gives in proportion, rounded down (01 R40, 15 R513). -/
def shareLeft (total share : Nat) : Nat := share * (total - stackGiB) / total

/-- An HBM stack is lost and the FV8128 continues (01 R40, 15 R513): every frame staged or spooled carries FAULT_LOST, the spool shares
and then the record area give up the capacity lost, and the ledger re-checks. -/
def State.stackLost (s : State) (k : Nat) : State :=
  if s.health.stacksLost.contains k then s
  else
    let s1 : State := { s with health := { s.health with stacksLost := k :: s.health.stacksLost } }
    if !s.health.stacksLost.isEmpty then s1.enterDark 5
    else
      let lost := sumL (s1.streams.map (fun x => x.2.frames.length))
      let spool := sumL (s1.ports.map (fun x => x.2.spoolGiB))
      let s2 : State := { s1 with
        streams := tabMap s1.streams (fun _ x => { x with frames := x.frames.map (fun f => { f with fault := true }) })
        ports := tabMap s1.ports (fun _ x => { x with spoolGiB := shareLeft spool x.spoolGiB }) }
      let s3 : State := { s2 with recorder := { s2.recorder with areaGiB := s2.recorder.areaGiB - (stackGiB - spool) } }
      let s4 : State := { s3 with recorder := { s3.recorder with blocks := dropBlocks s3.areaRoom 0 s3.recorder.blocks } }
      (((s4.spareRecord 1 0x0909 0 (k + lost % 2 ^ 40 * 256)).correctedInternal).spoolLevels).evict 2048

/-- Logical unit n of pools 0x01 to 0x04 has failed and no spare is left. -/
def State.unitDead (s : State) (pool n : Nat) : State :=
  if pool = poolWicks then s.laneDead n
  else if pool = poolSlices then s.sliceDead n
  else if pool = poolLanterns then s.strikeLantern n true
  else s.evict 2048

/-! ### Hard faults of pools 0x01 to 0x04 (15 R509, R518) -/

/-- The planned spare-in of a logical unit that is pending. -/
def State.planOf (s : State) (pool n : Nat) : Option SparePlan := s.plans.find? (fun q => q.pool = pool && q.logical = n)

/-- Physical unit k, in service for logical unit n, fails: a pending planned spare-in of it becomes forced, else the lowest free spare
takes over, else the unit is lost. -/
def State.failUnit (s : State) (pool n k kind : Nat) (cmd : Option (Nat × Nat)) : State :=
  let plan := s.planOf pool n
  let spare := match plan with | some q => some q.new_ | none => (s.freeSpares pool n).head?
  let moved := match plan with | some q => q.moved | none => []
  let due := s.ns + (if pool = poolWicks then 500000 else 1000000)
  let s0 : State := { s with plans := s.plans.filter (fun q => !(q.pool = pool && q.logical = n)) }
  let s1 := (s0.setPhys pool k { s0.phys pool k with st := 4, logical := none }).strikeUnit pool n moved due
  (match spare with
   | some j => { s1 with takeOvers := s1.takeOvers ++ [({ pool := pool, logical := n, old := k, new_ := j, kind := kind, due := due, cmd := cmd } : TakeOver)] }
   | none => (s1.exhausted pool n k (unitInstance pool k) true).unitDead pool n).patrolCheck

/-- A free spare fails: a spare-in that counted on it takes another; a slice's sconces that had moved to it lose their frame in flight
and move again. -/
def State.failSpare (s : State) (pool k : Nat) : State :=
  let s1 := s.setPhys pool k { s.phys pool k with st := 4, logical := none }
  let s2 := match s1.plans.find? (fun (q : SparePlan) => q.pool = pool && q.new_ = k) with
    | none => s1
    | some q =>
      let t := q.moved.foldl State.strikeSconce { s1 with plans := s1.plans.filter (fun p => !(p == q)) }
      match (t.freeSpares pool q.logical).head? with
      | some j => { t with plans := t.plans ++ [{ q with new_ := j, moved := [], copied := false }] }
      | none => t.exhausted pool q.logical k (unitInstance pool k) false
  (match s2.takeOvers.find? (fun (q : TakeOver) => q.pool = pool && q.new_ = k) with
   | none => s2
   | some q =>
     let t : State := { s2 with takeOvers := s2.takeOvers.filter (fun p => !(p == q)) }
     match (t.freeSpares pool q.logical).head? with
     | some j => { t with takeOvers := t.takeOvers ++ [{ q with new_ := j }] }
     | none =>
       let u := (t.exhausted pool q.logical k (unitInstance pool k) true).unitDead pool q.logical
       match q.cmd with | some c => u.finishWaiting c.1 c.2 .success | none => u).patrolCheck

/-! ### Hard faults of pools 0x05 to 0x09 (15 R509, R514) -/

/-- Spares of a unit of pools 0x05 to 0x09 that no spare-in has claimed. -/
def State.partsFree (s : State) (pool k : Nat) : Nat :=
  s.sparesLeft pool k - (s.takeOvers.filter (fun q => q.pool = pool && q.logical = k)).length -
    (s.plans.filter (fun q => q.pool = pool && q.logical = k)).length

/-- The spare lane of a group of an HBM channel is in use or claimed. -/
def State.groupSpared (s : State) (k g : Nat) : Bool :=
  (s.phys poolDataLanes k).groups.contains g ||
    s.takeOvers.any (fun q => q.pool = poolDataLanes && q.logical = k && q.old / 32 = g) ||
    s.plans.any (fun q => q.pool = poolDataLanes && q.logical = k && q.old / 32 = g)

/-- A spare begins to take over for a part of a unit. -/
def State.partTakes (s : State) (pool k part limit : Nat) : State :=
  { s with takeOvers := s.takeOvers ++ [⟨pool, k, part, Config.spareIndex pool k part, 1, s.ns + limit, none⟩] }

/-- Lanes of a lane chiplet. -/
def chipletLanes (k : Nat) : List Nat := if k < 4 then (List.range 32).map (fun j => 32 * k + j) else []

/-- The PLL of chiplet k fails (15 R509): lanes that are UP go through RETRAIN, cause 2 as the receiver loses its clock; on chiplet 4,
the host interface, the port named acts as after DL_Down. -/
def State.pllStruck (s : State) (k port : Nat) : State :=
  if k < 4 then ((chipletLanes k).filter (fun l => (s.lane l).st == .up)).foldl (fun t l => t.laneDrop l 2) s
  else if (s.port port).link == .up then s.portReset port 2 Port.linkLost else s

/-- The PLL of chiplet k is gone: its lanes, or the port, stay down. -/
def State.pllDead (s : State) (k port : Nat) : State :=
  if k < 4 then (chipletLanes k).foldl State.laneDead s
  else ((if (s.port port).link == .up then s.portReset port 2 Port.linkLost else s).modPort port (fun x => { x with refClk := false }))

/-- A part of unit k of pools 0x05 to 0x09 fails. An HBM row's fault is HBM_UNCORRECTABLE's. -/
def State.failPart (s : State) (pool k part : Nat) : State :=
  if pool = poolDataLanes then
    if s.groupSpared k (part / 32) || s.partsFree pool k = 0 then
      (s.exhausted pool k part (unitInstance pool k) true).stackLost (k / 16)
    else s.partTakes pool k part 1000000
  else if pool = poolPhases then
    if s.partsFree pool k = 0 then (s.exhausted pool k part (unitInstance pool k) true).enterDark 4 else s.partTakes pool k part 10000
  else if pool = poolPlls then
    if s.partsFree pool k = 0 then
      ((s.setPhys pool k { s.phys pool k with st := 4, groups := part % 4 :: (s.phys pool k).groups }).exhausted pool k part (unitInstance pool k) true).pllDead k (part % 4)
    else (s.pllStruck k (part % 4)).partTakes pool k part 200000
  else if pool = poolNv then s.nvBlockBad part
  else s

/-! ### The end of a take-over (15 R509, R510, R512) -/

/-- The spare is in service. Words of a local store that cannot be read are written as zero. -/
def State.takeOverEnds (s : State) (q : TakeOver) (lostWords : List Nat) : State :=
  let words := if q.pool = poolLanterns then (lostWords.filter (fun w => w < 32768)).dedup else []
  let s0 : State := { s with takeOvers := s.takeOvers.filter (fun r => !(r == q)) }
  let s1 := if words.isEmpty then s0
    else s0.modLantern q.logical (fun x => { x with store := words.foldl (fun m w => memWrite m (64 * w) (zeros 64)) x.store })
  let s2 := if q.pool = poolWicks then s1.modLane q.logical (fun x => { x with wickDown := none }) else s1
  let s3 := if q.pool ≤ 4 then s2.spareDone q.pool q.logical q.old q.new_ q.kind words.length
    else s2.usePart q.pool q.logical q.old q.kind
  (match q.cmd with | some c => s3.finishWaiting c.1 c.2 .success | none => s3).patrolCheck

/-! ### Planned spare-ins (15 R511, R512, R516) -/

/-- A planned spare-in starts. Sconces without an open frame move at once. -/
def State.startPlan (s : State) (pool n old new kind : Nat) : State :=
  let q : SparePlan := { pool := pool, logical := n, old := old, new_ := new, commit := s.dt, moved := [], copied := false, kind := kind }
  let s1 : State := { s with plans := s.plans ++ [q] }
  (if pool = poolSlices then
    ((List.range 8).map (fun j => 8 * n + j)).foldl (fun t k =>
      match t.planOf pool n with
      | some p => if (t.sconce k).openFrame.isNone then t.sconceMovesTo p k else t
      | none => t) s1
   else s1).patrolCheck

/-- Physical unit k of pools 0x01 to 0x04 is due for a planned spare-in. -/
def State.planUnit (s : State) (pool k : Nat) : State :=
  match (s.phys pool k).logical with
  | none => s
  | some n =>
    if (s.planOf pool n).isSome then s
    else match (s.freeSpares pool n).head? with
      | some j => s.startPlan pool n k j 0
      | none => s.exhausted pool n k (unitInstance pool k) false

/-- A part of unit k of pools 0x05 to 0x08 is due for a planned spare-in: a phase is shed at once, the others at their switch. -/
def State.planPart (s : State) (pool k part : Nat) : State :=
  if s.plans.any (fun q => q.pool = pool && q.logical = k && q.old = part) then s
  else if s.partsFree pool k = 0 || (pool = poolDataLanes && s.groupSpared k (part / 32)) then
    s.exhausted pool k part (unitInstance pool k) false
  else if pool = poolPhases then s.usePart pool k part 0
  else s.startPlan pool k part (Config.spareIndex pool k part) 0

/-! ### Wear (15 R515, R516) -/

/-- AUTO of a pool. -/
def State.autoOf (s : State) (pool : Nat) : Bool := tabGet true s.health.auto pool

/-- Default WEAR_LIMIT of a pool (15 R516). -/
def wearDefault (pool : Nat) : Nat := [0, 64, 64, 64, 64, 16, 4096, 1, 1].getD pool 0

/-- WEAR_LIMIT of a pool. -/
def State.wearOf (s : State) (pool : Nat) : Nat := tabGet (wearDefault pool) s.health.wear pool

/-- Corrected errors of a physical unit in the last 24 h. -/
def State.corrected24 (s : State) (pool k : Nat) : Nat :=
  ((s.phys pool k).errs.filter (fun q => s.ns < q.1 + 86400000000000)).length

/-- WEAR_TREND of a physical unit. -/
def State.wearTrend (s : State) (pool k : Nat) : State :=
  let u := s.phys pool k
  (s.setPhys pool k { u with trend := some s.ns }).spareRecord 2 0x0908 ((if pool ≤ 4 then u.logical.getD 0 else k) % 65536 + pool * 2 ^ 16)
    (k % 65536 + s.corrected24 pool k * 2 ^ 32)

/-- A unit, or a part of one, corrects an error (15 R516). -/
def State.correct (s : State) (pool k part : Nat) : State :=
  let u := s.phys pool k
  let live := (s.ns, part) :: u.errs.filter (fun q => s.ns < q.1 + 86400000000000)
  let s1 := s.setPhys pool k { u with errs := live }
  let n := if pool ≤ 4 || pool = poolPlls then live.length else (live.filter (fun q => q.2 = part)).length
  let limit := s.wearOf pool
  let told : Bool := match u.trend with | some a => s.ns < a + 86400000000000 | none => false
  let s2 := if limit ≤ 2 * n && !told then s1.wearTrend pool k else s1
  if n < limit then s2
  else if s.autoOf pool then
    if pool ≤ 4 then (if u.st = 0 then s2.planUnit pool k else s2) else s2.planPart pool k part
  else if n = limit && told then s2.wearTrend pool k
  else s2

end Sys2Proof.Machine
end

