-- ==== Sys2Proof/Machine/Spares.lean ====
section
/-!
DEFINITION. Faults and spare-ins (15 R507 to R523): HARD_FAULT, SPARE_TAKEOVER, CORRECTED_ERROR, HBM faults, planned spare-ins,
SPARE_MANAGE, the patrol.
-/

namespace Sys2Proof.Machine

/-! ### Supervisors as a pool (15 R524 to R526) -/

/-- A core of the pair is taken out: the standby takes over, and SPARE_IN follows when it resumes. -/
def State.coreOut (s : State) (n kind : Nat) (cmd : Option (Nat × Nat)) : State :=
  match s.sup.standby with
  | none => s
  | some b =>
    let q : TakeOver := { pool := poolSup, logical := n, old := s.sup.live.getD n 0, new_ := b, kind := kind, due := s.ns + 50000, cmd := cmd }
    ({ s with takeOvers := s.takeOvers ++ [q] }).freezePair

/-! ### Faults (15 R507, R509, R513, R516) -/

/-- HARD_FAULT: a physical unit of pools 0x01 to 0x04, a part of a unit of pools 0x05 to 0x09, or a supervisor core (15 R507, R509). -/
def execHardFault (t : Nat) (pool unit part : Nat) (s : State) : Host.Outcome State Fault Refusal :=
  let s1 := s.elapse t
  if !s1.unitsLive then .next s1
  else if 1 ≤ pool && pool ≤ 4 && unit < poolSize pool then
    let u := s1.phys pool unit
    match u.logical with
    | some n => if u.st = 0 then .next (s1.failUnit pool n unit 1 none) else .next s1
    | none => if u.st = 1 then .next (s1.failSpare pool unit) else .next s1
  else if pool = poolSup then
    if !s1.sup.live.contains unit then .next s1
    else if s1.sup.standby.isSome then .next (s1.coreOut (s1.sup.live.idxOf unit) 1 none)
    else .next (s1.enterDark (if s1.sup.live.length = 2 then 3 else 2))
  else .next (s1.failPart pool unit part)

/-- SPARE_TAKEOVER: the spare for a logical unit, or for a part of a unit, comes into service (15 R509). -/
def execSpareTakeover (t : Nat) (pool unit : Nat) (lostWords : List Nat) (s : State) : Host.Outcome State Fault Refusal :=
  let s1 := s.elapse t
  match s1.takeOvers.find? (fun q => q.pool = pool && q.logical = unit) with
  | some q => if s1.unitsLive && pool != poolSup then .next (s1.takeOverEnds q lostWords) else .next s1
  | none => .next s1

/-- CORRECTED_ERROR of a physical unit, or of a part of one (15 R515, R516). -/
def execCorrectedError (t : Nat) (pool unit part : Nat) (s : State) : Host.Outcome State Fault Refusal :=
  let s1 := s.elapse t
  if s1.unitsLive && 1 ≤ pool && pool ≤ 8 && (4 < pool || unit < poolSize pool) then .next (s1.correct pool unit part) else .next s1

/-- A byte of these frames lay in a row with an uncorrectable error: they are delivered with FAULT_LOST (15 R513). -/
def State.strikeFrames (s : State) (frames : List (Nat × Nat)) : State :=
  { s with streams := tabMap s.streams (fun _ x =>
      { x with frames := x.frames.map (fun f => if frames.contains (x.sconce, f.number) then { f with fault := true } else f) }) }

/-- HBM_UNCORRECTABLE: the row is replaced; in a fixed area the mirror restores it (15 R513). -/
def execHbmUncorrectable (t : Nat) (channel row : Nat) (x : HbmHit) (s : State) : Host.Outcome State Fault Refusal :=
  let s1 := s.elapse t
  if !s1.unitsLive then .next s1
  else
    let s2 := match x with | .data l => s1.strikeFrames l | .fixedArea => s1
    .next (if s2.partsFree poolRows channel = 0 then s2.exhausted poolRows channel row (unitInstance poolRows channel) true
      else s2.usePart poolRows channel row 1)

/-- HBM_STACK_LOST (15 R513). -/
def execHbmStackLost (t : Nat) (k : Fin 8) (s : State) : Host.Outcome State Fault Refusal :=
  let s1 := s.elapse t
  .next (if s1.unitsLive then s1.stackLost k else s1)

/-! ### The end of planned spare-ins (15 R509, R512) -/

/-- PLANNED_SPARE_IN_SWITCH: a wick, an encoder, an HBM row or data lane, or a PLL; no frame boundary is needed (15 R509). -/
def execPlannedSpareInSwitch (t : Nat) (pool unit : Nat) (s : State) : Host.Outcome State Fault Refusal :=
  let s1 := s.elapse t
  match s1.planOf pool unit with
  | none => .next s1
  | some q =>
    let s2 : State := { s1 with plans := s1.plans.filter (fun p => !(p == q)) }
    if !s1.unitsLive || pool = poolSlices || pool = poolLanterns then .next s1
    else if pool ≤ 4 then .next (s2.spareDone pool q.logical q.old q.new_ q.kind 0)
    else .next (s2.usePart pool q.logical q.old q.kind)

/-- LOCAL_STORE_COPY_COMPLETE: for a capture's next snapshot, and for a planned spare-in of the Lantern, which then takes over at the next
boundary of its sconce, or at once when it is not bound (15 R512, 16 R557). -/
def execLocalStoreCopyComplete (t : Nat) (n : Fin 64) (s : State) : Host.Outcome State Fault Refusal :=
  let s1 := (s.elapse t).captureCopied n
  match s1.planOf poolLanterns n with
  | none => .next s1
  | some q =>
    if !s1.unitsLive then .next s1
    else if (s1.lantern n).st == .free then
      .next (({ s1 with plans := s1.plans.filter (fun p => !(p == q)) }).spareDone poolLanterns q.logical q.old q.new_ q.kind 0)
    else .next { s1 with plans := s1.plans.map (fun p => if p == q then { q with copied := true } else p) }

/-! ### SPARE_MANAGE (15 R517, R518) -/

/-- POOL of a SPARE_MANAGE. -/
def smPool (e : Entry) : Nat := fld e 9 1
/-- UNIT of a SPARE_MANAGE. -/
def smUnit (e : Entry) : Nat := fld e 0xA 2
/-- SPARE of a SPARE_MANAGE. -/
def smSpare (e : Entry) : Nat := fld e 0xC 2

/-- The layout of SPARE_MANAGE with the operand fields that its OP uses. -/
def smLayout (e : Entry) (fields : List (Nat × Nat)) : List Chk :=
  [rsv e 8 1 3 5, enc 9 (smPool e = 0 || 0xA < smPool e)] ++ namedRsv e [(0xA, 2), (0xC, 2), (0x10, 4)] fields ++
    restRsv e ([(8, 2)] ++ fields)

/-- NO_SPARE: the pool and its instance (03 R106, 15 R509). -/
def Status.noSpare (pool inst : Nat) : Status := ⟨0x10, pool + inst * 256⟩

/-- A pool of which PLAN and FORCE take a logical unit. -/
def smPlans (pool : Nat) : Bool := (1 ≤ pool && pool ≤ 4) || pool = poolSup

/-- Free spares for a logical unit of a pool that PLAN and FORCE take. -/
def State.smFree (s : State) (pool n : Nat) : List Nat :=
  if pool = poolSup then s.sup.standby.toList else s.freeSpares pool n

/-- A logical unit that PLAN and FORCE may take out: it has a physical unit, and no spare takes over for it already. -/
def State.smHas (s : State) (pool n : Nat) : Bool :=
  if pool = poolSup then n < s.sup.live.length
  else (s.physOf pool n).isSome

/-- The instance of a logical unit, as NO_SPARE gives it. -/
def smInstance (pool n : Nat) : Nat := if pool = poolWicks then n / 32 else 0

/-- The checks of SPARE_PLAN (15 R518). -/
def sparePlanChecks (c : RingCmd) (s : State) : Checks :=
  let e := c.e
  let pool := smPool e
  let n := smUnit e
  let free := s.smFree pool n
  { layout := smLayout e [(0xA, 4)]
    ranges := [(0xC, smPlans pool && s.smHas pool n && smSpare e != 0xFFFF && !free.contains (smSpare e))]
    state := if !smPlans pool then some (s.badState 0x61)
      else if !s.smHas pool n || (s.planOf pool n).isSome then some (s.badState 0x62) else none
    ledger := if free.isEmpty then some (Status.noSpare pool (smInstance pool n)) else none }

/-- What an accepted SPARE_PLAN (15 R518) does. -/
def sparePlanEffect (c : RingCmd) (s : State) : State × Done :=
  let e := c.e
  let pool := smPool e
  let n := smUnit e
  let new := if smSpare e = 0xFFFF then (s.smFree pool n).headD 0 else smSpare e
  if pool = poolSup then (s.coreOut n 0 none, .ok)
  else (s.startPlan pool n ((s.physOf pool n).getD 0) new 0, .ok)

/-- SPARE_PLAN (15 R518). -/
def execSparePlan (t : Nat) (c : RingCmd) (s : State) : Host.Outcome State Fault Refusal :=
  (s.elapse t).command c 0x49 (sparePlanChecks c) (sparePlanEffect c)

/-- The checks of SPARE_FORCE (15 R518). -/
def spareForceChecks (c : RingCmd) (s : State) : Checks :=
  let e := c.e
  let pool := smPool e
  let n := smUnit e
  { layout := smLayout e [(0xA, 2)]
    state := if !smPlans pool then some (s.badState 0x61) else if !s.smHas pool n then some (s.badState 0x62) else none
    ledger := if (s.smFree pool n).isEmpty && (s.planOf pool n).isNone then some (Status.noSpare pool (smInstance pool n)) else none }

/-- What an accepted SPARE_FORCE (15 R518) does. -/
def spareForceEffect (c : RingCmd) (s : State) : State × Done :=
  let e := c.e
  let pool := smPool e
  let n := smUnit e
  let cmd := some (ringId c.p c.i, s.fresh)
  let s1 := s.freshen
  (if pool = poolSup then s1.coreOut n 2 cmd else s1.failUnit pool n ((s1.physOf pool n).getD 0) 2 cmd, .waits s.fresh)

/-- SPARE_FORCE: it waits for the spare (15 R518). -/
def execSpareForce (t : Nat) (c : RingCmd) (s : State) : Host.Outcome State Fault Refusal :=
  (s.elapse t).command c 0x49 (spareForceChecks c) (spareForceEffect c)

/-- The patrol checker uses this physical slice: the patrol slice, and the voter while a vote runs (15 R519, R521). -/
def State.patrolUses (s : State) (k : Nat) : Bool :=
  let l := s.patrolSlices
  s.patrolRuns && s.health.patrolOn && (l.head? = some k || (s.patrol.vote.isSome && l.tail.head? = some k))

/-- A physical unit that RETIRE may not name (15 R518). -/
def State.retireBusy (s : State) (pool k : Nat) : Bool :=
  if pool = poolSup then s.sup.live.contains k || s.sup.frozen.contains k || s.takeOvers.any (fun q => q.pool = poolSup && q.new_ = k)
  else if pool ≤ 4 then (s.phys pool k).st = 0 || s.claimed pool k || (pool = poolSlices && s.patrolUses k)
  else false

/-- How many physical units of a pool RETIRE can name; of pools 0x05 to 0x09, the units that hold spares. -/
def retireUnits (pool : Nat) : Nat :=
  if pool ≤ 4 then poolSize pool else if pool = poolRows || pool = poolDataLanes then 128 else if pool = poolPhases then Config.rails
  else if pool = poolPlls then 5 else if pool = poolNv then 1 else 3

/-- The spare leaves its pool for good: of pools 0x05 to 0x09, one spare of the unit. -/
def State.retireSpare (s : State) (pool k : Nat) : State :=
  if pool = poolSup then { s with sup := { s.sup with standby := none }, health := { s.health with cores := s.health.cores ++ [k] } }
  else
    let u := s.phys pool k
    if pool ≤ 4 then if u.st = 1 then s.setPhys pool k { u with st := 3 } else s
    else if s.partsFree pool k = 0 then s
    else if pool = poolDataLanes then
      match (List.range hbmLaneGroups).find? (fun g => !s.groupSpared k g) with
      | some g => s.setPhys pool k { u with groups := g :: u.groups }
      | none => s
    else s.setPhys pool k { u with used := u.used + 1 }

/-- The checks of SPARE_RETIRE (15 R518). -/
def spareRetireChecks (c : RingCmd) (s : State) : Checks :=
  let e := c.e
  let pool := smPool e
  let k := smUnit e
  { layout := smLayout e [(0xA, 2)], ranges := [(0xA, retireUnits pool ≤ k)]
    state := if s.retireBusy pool k then some (s.badState 0x63) else none }

/-- What an accepted SPARE_RETIRE (15 R518) does. -/
def spareRetireEffect (c : RingCmd) (s : State) : State × Done :=
  let e := c.e
  let pool := smPool e
  let k := smUnit e
  ((if pool = poolSup && s.sup.standby != some k then s else s.retireSpare pool k).patrolCheck, .ok)

/-- SPARE_RETIRE (15 R518). -/
def execSpareRetire (t : Nat) (c : RingCmd) (s : State) : Host.Outcome State Fault Refusal :=
  (s.elapse t).command c 0x49 (spareRetireChecks c) (spareRetireEffect c)

/-- The checks of SPARE_POLICY (15 R516, R518). -/
def sparePolicyChecks (c : RingCmd) (_ : State) : Checks :=
  let e := c.e
  { layout := rsv e 0xE 1 1 7 :: smLayout e [(0xE, 1), (0x10, 4)], ranges := [(0x10, fld e 0x10 4 = 0)] }

/-- What an accepted SPARE_POLICY (15 R516, R518) does. -/
def sparePolicyEffect (c : RingCmd) (s : State) : State × Done :=
  let e := c.e
  let pool := smPool e
  ({ s with health := { s.health with auto := tabPut s.health.auto pool (bitAt e 0xE 0), wear := tabPut s.health.wear pool (fld e 0x10 4) } }, .ok)

/-- SPARE_POLICY (15 R516, R518). -/
def execSparePolicy (t : Nat) (c : RingCmd) (s : State) : Host.Outcome State Fault Refusal :=
  (s.elapse t).command c 0x49 (sparePolicyChecks c) (sparePolicyEffect c)

/-! ### Patrol (15 R519 to R523) -/

/-- The checks of PATROL_CONFIG (15 R523). -/
def patrolConfigChecks (c : RingCmd) (_ : State) : Checks :=
  let e := c.e
  { layout := rsv e 8 1 1 7 :: restRsv e [(8, 1), (0xC, 4)], ranges := [(0xC, 1000000 < fld e 0xC 4)] }

/-- What an accepted PATROL_CONFIG (15 R523) does. -/
def patrolConfigEffect (c : RingCmd) (s : State) : State × Done :=
  let e := c.e
  ({ s with health := { s.health with patrolOn := bitAt e 8 0, patrolGap := fld e 0xC 4 } }, .ok)

/-- PATROL_CONFIG (15 R523). -/
def execPatrolConfig (t : Nat) (c : RingCmd) (s : State) : Host.Outcome State Fault Refusal :=
  (s.elapse t).command c 0x4A (patrolConfigChecks c) (patrolConfigEffect c)

/-- The latest frame of sconce c that the patrol has duplicated. -/
def State.patrolledFrame (s : State) (c : Nat) : Option Frame := ((s.sconce c).frames.filter (·.patrol)).getLast?

/-- Charge patrol mismatches to a physical slice. -/
def State.chargeMismatch (s : State) (k n : Nat) : State :=
  let u := s.phys poolSlices k
  s.setPhys poolSlices k { u with mismatches := satAdd 16 u.mismatches n }

/-- A vote on sconce c that began with frame m ends with verdict v (15 R521). -/
def State.patrolVerdict (s : State) (c m v : Nat) : State :=
  let live := (s.physOf poolSlices (c / 8)).getD 0
  let s1 := ({ s with patrol := { s.patrol with vote := none } }).spareRecord (if v = 0 then 3 else 1) 0x0904 c (v + m % 2 ^ 56 * 256)
  (if v = 1 then
    match s1.patrolSlices.head? with
    | some k => (s1.chargeMismatch k 1).retireSpare poolSlices k
    | none => s1
  else if v = 2 then
    let s2 := s1.chargeMismatch live 2
    if s2.autoOf poolSlices then s2.planUnit poolSlices live else s2.wearTrend poolSlices live
  else s1).patrolCheck

/-- PATROL_RESULT: the frame just patrolled does not match, which starts a vote when none runs; or the voting pass ends (15 R520, R521). -/
def execPatrolResult (t : Nat) (c : Fin 512) (r : PatrolOutcome) (s : State) : Host.Outcome State Fault Refusal :=
  let s1 := s.elapse t
  match r with
  | .mismatch =>
    match s1.patrolledFrame c with
    | none => .next s1
    | some f =>
      let s2 := s1.modSconce c (fun x => x.modFrame f.number (fun g => { g with flags := g.flags ||| 2 ^ 21 }))
      if s2.patrol.vote.isNone then .next { s2 with patrol := { s2.patrol with vote := some (c.val, f.number) } } else .next s2
  | .verdict v =>
    match s1.patrol.vote with
    | some q => if q.1 = c.val then .next (s1.patrolVerdict c q.2 v) else .next s1
    | none => .next s1

end Sys2Proof.Machine
end

