-- ==== Sys2Proof/Machine/HealthOps.lean ====
section
/-!
DEFINITION. The HEALTH report: pool entries, fatal slots and unit entries (15 R538, R540, R541; 18 R601).
-/

namespace Sys2Proof.Machine

/-- Supervisor core k as the report gives it: 0 in service, 1 standby, 3 retired, 4 frozen until its self-test. -/
def State.coreState (s : State) (k : Nat) : Nat :=
  if s.sup.live.contains k then 0 else if s.sup.standby = some k then 1 else if s.health.cores.contains k then 3 else 4

/-- Units of a pool that the report lists: of pools 0x05 and 0x06 the HBM channels, of 0x07 the rails, of 0x08 the chiplets with the host
interface as the fifth, of 0x09 the store, of 0x0A the cores. -/
def reportUnits (pool : Nat) : Nat := retireUnits pool

/-- STATE of physical unit k of a pool (15 R541). -/
def State.unitState (s : State) (pool k : Nat) : Nat :=
  if pool = poolSup then s.coreState k
  else if (pool = poolRows || pool = poolDataLanes) && s.health.stacksLost.contains (k / 16) then 4
  else
    let st := (s.phys pool k).st
    if st = 0 && s.plans.any (fun q => q.pool = pool && (if pool ≤ 4 then q.old = k else q.logical = k)) then 5
    else if pool = poolSlices && st = 1 && s.patrolUses k then 2
    else st

/-- How many of the listed units of a pool are in a state. -/
def State.unitsIn (s : State) (pool st : Nat) : Nat := ((List.range (reportUnits pool)).filter (fun k => s.unitState pool k = st)).length

/-- The sum over the units of a pool of parts 0x05 to 0x09. -/
def partSum (pool : Nat) (f : Nat → Nat) : Nat := ((List.range (reportUnits pool)).map f).sum

/-- Parts in use as spares or retired, of unit k of pools 0x05 to 0x09. -/
def State.partsUsed (s : State) (pool k : Nat) : Nat := if pool = poolDataLanes then (s.phys pool k).groups.length else (s.phys pool k).used

/-- PHYSICAL, IN_SERVICE, FREE and RETIRED of a pool; the NV store counts in units of 1,024 blocks (15 R540, R541). -/
def State.poolCounts (s : State) (pool : Nat) : Nat × Nat × Nat × Nat :=
  if pool ≤ 4 || pool = poolSup then
    (if pool = poolSup then 3 else poolSize pool, s.unitsIn pool 0 + s.unitsIn pool 5, s.unitsIn pool 1, s.unitsIn pool 3)
  else if pool = poolNv then (17408, (16777216 - (s.phys pool 0).lost) / 1024, s.sparesLeft pool 0 / 1024, (s.phys pool 0).lost / 1024)
  else
    let free := partSum pool (s.sparesLeft pool)
    let used := partSum pool (s.partsUsed pool)
    (Config.poolPhysical pool, Config.poolPhysical pool - free - used, free, used)

/-- The pool entry of HEALTH for a pool code, 16 bytes; codes 0 and 11 to 15 are zero (15 R540). -/
def State.poolEntry (s : State) (pool : Nat) : List Byte :=
  if pool = 0 || poolSup < pool then zeros 16
  else
    let c := s.poolCounts pool
    leBytes 2 (min c.1 0xFFFF) ++ leBytes 2 (min c.2.1 0xFFFF) ++ leBytes 2 (min c.2.2.1 0xFFFF) ++ leBytes 2 (min c.2.2.2 0xFFFF) ++
      leBytes 1 (b2n (s.autoOf pool)) ++ zeros 3 ++ leBytes 4 (s.wearOf pool)

/-- LOGICAL of physical unit k: of supervisors the place in the pair, of pools 0x05 to 0x09 none (15 R541, 01 R38). -/
def State.unitLogical (s : State) (pool k : Nat) : Nat :=
  if pool = poolSup then (if s.sup.live.contains k then s.sup.live.idxOf k else 0xFFFF)
  else if pool ≤ 4 then (s.phys pool k).logical.getD 0xFFFF
  else 0xFFFF

/-- INSTANCE of a unit (15 R541). -/
def unitPlace (pool k : Nat) : Nat :=
  if pool = poolWicks then k / 34 else if pool = poolRows || pool = poolDataLanes || pool = poolPhases || pool = poolPlls then k else 0

/-- SPARES_LEFT of a unit (15 R541). -/
def State.unitSpares (s : State) (pool k : Nat) : Nat :=
  if pool = poolRows || pool = poolDataLanes then s.sparesLeft poolRows k + s.sparesLeft poolDataLanes k
  else if pool = poolPhases then s.sparesLeft pool k
  else if pool = poolNv then s.sparesLeft pool k / 1024
  else 0

/-- The entry of a unit, 16 bytes (15 R541). -/
def State.unitEntry (s : State) (pool k : Nat) : List Byte :=
  leBytes 1 pool ++ leBytes 1 (s.unitState pool k) ++ leBytes 2 k ++ leBytes 2 (s.unitLogical pool k) ++ leBytes 2 (unitPlace pool k) ++
    leBytes 4 (s.corrected24 pool k) ++ leBytes 2 (s.phys pool k).mismatches ++ leBytes 2 (min (s.unitSpares pool k) 0xFFFF)

/-- The pool codes in order. -/
def poolCodes : List Nat := [1, 2, 3, 4, 5, 6, 7, 8, 9, 10]

/-- The unit entries of the report, at most 684 (15 R540). -/
def State.unitEntries (s : State) : List (List Byte) :=
  (poolCodes.flatMap (fun pool => (List.range (reportUnits pool)).map (fun k => s.unitEntry pool k))).take 684

/-- The 32 fatal slots, oldest first, empty ones zero (15 R535, R540). -/
def State.fatalSlots (s : State) : List Byte := fitTo 1024 (s.fatal.flatMap EvRec.bytes)

/-- GUARDS: bit g for guard g in service. -/
def State.guardBits (s : State) : Nat := (s.guards.map (fun g => 2 ^ g)).sum

/-- The HEALTH block (15 R540). -/
def State.healthBlock (s : State) : List Byte :=
  let units := s.unitEntries
  let head := leBytes 2 1 ++ leBytes 1 (s.sup.code + s.guardBits % 4 * 4 + s.supply.sel * 16) ++ zeros 5 ++ leBytes 8 s.dt ++
    leBytes 2 units.length ++ zeros 46
  fitTo 12288 (head ++ (List.range 16).flatMap s.poolEntry ++ s.fatalSlots ++ units.flatten)

end Sys2Proof.Machine
end

