-- ==== Sys2Proof/Machine/ResetOps.lean ====
section
/-!
DEFINITION. What resets, collapse and Keep clear; the beginning of start-up; the pins that go with them
(17 R573, R580, R586 to R590; 15 R536, R537).
-/

namespace Sys2Proof.Machine

/-! ### Supplies -/

/-- A feed of the two (19 R626): 0 VMAIN, 1 VBACK. -/
def Supply.feed (x : Supply) (f : Nat) : Feed := if f = 0 then x.main else x.back

/-- Put a feed. -/
def Supply.setFeed (x : Supply) (f : Nat) (y : Feed) : Supply := if f = 0 then { x with main := y } else { x with back := y }

/-! ### What is cleared (17 R587) -/

/-- The spare map takes a take-over that a reset cuts short: the spare is in service after it. -/
def State.mapTakeOver (s : State) (q : TakeOver) : State :=
  if q.pool ≤ 4 then s.setPhys q.pool q.new_ { s.phys q.pool q.new_ with st := 0, logical := some q.logical }
  else if q.pool = poolSup then s
  else
    let u := s.phys q.pool q.logical
    s.setPhys q.pool q.logical (if q.pool = poolDataLanes then { u with groups := q.old / 32 :: u.groups } else { u with used := u.used + 1 })

/-- A lane stays stopped whatever its mode: its wick is lost, or its chiplet has no PLL or no reference (15 R514, 19 R636). -/
def State.laneStopped (s : State) (l : Nat) : Bool :=
  s.unitLost poolWicks l || (s.phys poolPlls (l / 32)).st = 4 || s.supply.lrefAbsent.contains (l / 32)

/-- The supervisors after a reset: the cores not retired, in order (15 R524, R526). -/
def State.freshCores (s : State) : Supervisors :=
  let l := ([0, 1, 2] : List Nat).filter (fun k => !s.health.cores.contains k)
  let x : Supervisors := { live := l.take 2, standby := (l.drop 2).head?, frozen := [], resumeBy := none, told := 0 }
  { x with told := x.code }

/-- Pins that the main domain drove are released (17 R590). -/
def State.pinsOff (s : State) : State :=
  let s1 := if s.dark.safe then s.say (.pin "DARK#" 0 true) else s
  let s2 := if s.start.pwrGood then s1.say (.pin "PWR_GOOD" 0 false) else s1
  let s3 := s.start.cageReset.foldl (fun t b => t.say (.pin "CG_RST#" b false)) s2
  s.start.cagePower.foldl (fun t b => t.say (.pin "CG_PWREN" b false)) s3

/-- The main domain loses its state: what a power-on, warm or guard reset clears; the Ember's own is kept (17 R587). -/
def State.clearMain (s : State) : State :=
  let s0 := s.takeOvers.foldl State.mapTakeOver s.pinsOff
  let u := s0.start
  let s1 : State := { s0 with
    claim := some 0, claimLast := 0
    ports := tabMap s0.ports (fun _ x => { Port.reset with refClk := x.refClk })
    lanes := ((List.range 128).filter s0.laneStopped).map (fun l => (l, { Lane.reset with refStopped := true }))
    tables := [], sconces := [], streams := [], aux := [], auxWait := [], encoders := [], seqs := [], targets := [], gio := []
    map := [], lanterns := [], channels := [], flights := [], groups := []
    plans := [], takeOvers := [], sup := s0.freshCores, patrol := Patrol.reset, dark := DarkState.reset, windows := []
    jn := { s0.jn with ringEn := false, ring := 0, ringGap := none, oldRing := none }
    recorder := Recorder.reset, session := Session.reset, tests := []
    tb := { s0.tb with waiting := none }
    mg := { s0.mg with buses := [], xfer := if s0.mg.xfer.status = 1 then { s0.mg.xfer with status := 7 } else s0.mg.xfer }
    start := { u with running := false, pwrGood := false, pll := false, fw := .none, failStep := 0, hbm := false, hbmFailed := 0
                      tests := false, cagePower := [], cageReset := [], modeWait := none, transition := none, keepAt := none } }
  let s2 := s1.timeHoldover
  { s2 with tb := { s2.tb with tpUp := false } }

/-- The FV8128 goes to Keep, with its UNIT record, and the main domain is cleared. -/
def State.toKeep (s : State) : State := (if s.mode == .keep then s else s.setMode .keep).clearMain

/-- A reset is held. -/
def State.inReset (s : State) : Bool := s.start.porstLow || s.start.warmLow || s.start.guardUntil.isSome

/-- A reset of this kind is asserted; `time` is what RESET_REPORT gives (17 R588, R592). A reset that another one overtakes keeps
the mode before the first. -/
def State.assertReset (s : State) (kind time : Nat) : State :=
  let before := if s.inReset then s.start.fromMode else s.mode
  let cause := if s.inReset then s.start.cause else if s.mode == .dark then s.dark.cause else 0
  let s1 := s.toKeep
  { s1 with start := { s1.start with kind := kind, time := time, fromMode := before, cause := cause, guardUntil := none }
            mg := { s1.mg with xfer := CgXfer.reset } }

/-! ### Start-up begins (17 R573, R581) -/

/-- Start-up begins. After a loss of all supplies its RESET_REPORT is of kind 0 (17 R592). -/
def State.beginStart (s : State) : State :=
  let s1 := if s.start.keepAt.isSome then s.clearMain else s
  let u := s1.start
  let v := if u.coldSupply then { u with kind := 0, time := 0, fromMode := .keep, cause := 0 } else u
  { s1 with
    start := { v with running := true, t0 := s.ns, coldSupply := false }
    ports := tabMap s1.ports (fun _ x => { x with reported := false })
    supply := { s1.supply with collapsed := false, holdOnly := false } }

/-- Start-up may begin: a feed is in range, no reset is held, and the test access port does not hold the pins (17 R573, 20 R651). -/
def State.mayStart (s : State) : Bool := s.mode == .keep && s.supply.fed && !s.inReset && !s.start.running && !s.tap.startWaits

/-- Start-up begins from Keep without a reset: by WAKE or by a feed's return (17 R573, R592). -/
def State.wakeUp (s : State) (kind : Nat) : State :=
  ({ s with start := { s.start with kind := kind, time := s.dt, fromMode := .keep, cause := 0 } }).beginStart

/-! ### Collapse and loss of all supplies (15 R536, R537) -/

/-- No supply is left: only the NV store keeps what it holds, with the health values and fatal slots as last written to it. -/
def State.loseAll (s : State) : State :=
  let s1 := s.clearMain
  { s1 with
    time := 0, rateAdj := 0, mode := .keep, tb := TimeBase.reset, seq := [], health := s1.healthNv, guards := [0, 1]
    sup := ({ s1 with health := s1.healthNv }).freshCores
    jn := { Journal.reset with nv := s1.jn.nv, frozen := s1.jn.frozen }
    mg := { Mg.reset with address := s1.mg.address }
    supply := { Supply.reset with main := { inRange := false, near := false, qualified := false }, emberRef := s1.supply.emberRef
                                  lrefAbsent := s1.supply.lrefAbsent }
    start := { StartUp.reset with porstLow := s1.start.porstLow, warmLow := s1.start.warmLow } }

/-- Collapse: the main domain goes down; with HOLD the Ember goes on in Keep, and writes the health values (15 R515, R536). -/
def State.collapse (s : State) (hold : Bool) : State :=
  if !hold then s.loseAll
  else
    let s1 := s.toKeep
    ({ s1 with healthNv := s1.health, start := { s1.start with guardUntil := none }
               supply := { s1.supply with collapseAt := none, holdOnly := true, collapsed := true } }).alert alertSupply

end Sys2Proof.Machine
end

