-- ==== Sys2Proof/Machine/Time.lean ====
section
/-!
DEFINITION. TIME_CONFIG and what happens to the time base (10_time_base).
-/

namespace Sys2Proof.Machine

/-! ### TIME_CONFIG (10 R378 to R382) -/

/-- The operands of CONFIGURE (10 R379). -/
def timeCfgOf (e : Entry) : TimeCfg :=
  { role := bitsAt e 9 1 0 2, source := bitsAt e 9 1 2 2, profile := bitsAt e 9 1 4 1, transport := bitsAt e 9 1 5 1
    domain := fld e 0xA 1, servoBw := bitsAt e 0xB 1 0 3, tpRate := bitsAt e 0xB 1 3 2, tpFec := bitsAt e 0xB 1 5 2
    logSync := toInt 8 (fld e 0xC 1), logAnnounce := toInt 8 (fld e 0xD 1), logMinDelay := toInt 8 (fld e 0xE 1)
    announceTimeout := fld e 0xF 1, stepLimit := fld e 0x10 4, lockThreshold := fld e 0x14 2, settleCount := fld e 0x16 1
    settleWindow := fld e 0x18 2, ppsWidth := fld e 0x1A 2, ppsOutOffset := toInt 32 (fld e 0x1C 4)
    ppsInOffset := toInt 32 (fld e 0x20 4), asymmetry := toInt 32 (fld e 0x24 4), tpIpv4 := fld e 0x28 4
    priority1 := fld e 0x2C 1, priority2 := fld e 0x2D 1, stampMask := bitsAt e 0x2E 1 0 4, ppsInReport := bitAt e 0x2E 4
    tpMac := fld e 0x30 6 }

/-- Bytes 8 of every TIME_CONFIG, and the operand bytes its OP does not use (10 R378). -/
def timeHead (e : Entry) (fields : List (Nat × Nat)) : List Chk :=
  [rsv e 8 1 3 5] ++ restRsv e ((8, 1) :: fields)

/-- An integer lies outside [lo, hi]. -/
def outside (lo hi v : Int) : Bool := v < lo || hi < v

/-- The layout of CONFIGURE (10 R379). -/
def timeCfgLayout (e : Entry) : List Chk :=
  let c := timeCfgOf e
  timeHead e [(9, 0x2F)] ++
  [enc 9 (c.role = 3 || (c.role = 0 && 2 ≤ c.source)), rsv e 9 1 6 2, enc 0xB (5 ≤ c.servoBw || c.tpRate = 3 || c.tpFec = 3),
    rsv e 0xB 1 7 1, rsv e 0x17 1 0 8, rsv e 0x2E 1 5 3, rsv e 0x2F 1 0 8, rsv e 0x36 2 0 16]

/-- The ranges of CONFIGURE (10 R379). -/
def timeCfgRanges (e : Entry) : List (Nat × Bool) :=
  let c := timeCfgOf e
  [(9, c.role != 0 && c.source != 0), (9, c.role != 0 && c.tpRate = 0), (0xA, 127 < c.domain), (0xB, c.tpRate = 2 && c.tpFec != 0),
    (0xC, outside (-7) 1 c.logSync), (0xD, outside (-3) 4 c.logAnnounce), (0xE, outside (-7) 5 c.logMinDelay),
    (0xF, c.announceTimeout < 2 || 10 < c.announceTimeout), (0x10, c.stepLimit < 1000 || 1000000000 < c.stepLimit),
    (0x14, c.lockThreshold = 0), (0x16, c.settleCount < 4), (0x18, c.settleWindow = 0),
    (0x1A, c.ppsWidth = 0 || 50000 < c.ppsWidth), (0x1C, outside (-499999999) 499999999 c.ppsOutOffset),
    (0x20, outside (-499999999) 499999999 c.ppsInOffset)]

/-- The SET_TIME that waits for an edge, while its ring still holds it. -/
def State.timeWaits (s : State) : Option ((Nat × Nat) × Waiting) :=
  match s.tb.waiting with
  | none => none
  | some w =>
    match (s.ring (w.1 / 1024) (w.1 % 1024)).waiting with
    | some x => if x.arg = w.2 then some (w, x) else none
    | none => none

/-- Another TIME_CONFIG waits for an edge (10 R381). -/
def State.timeBusy (s : State) : Option Status := s.timeWaits.map (fun w => Status.busy w.1.1)

/-- CONFIGURE accepted (10 R369, R373, R379). Without a servo, under ROLE 0 with SOURCE FREE, the fields take effect at once (entry 99). -/
def State.timeConfigure (s : State) (c : TimeCfg) : State :=
  let o := s.tb.cfgNext.getD s.tb.cfg
  let live := s.tb.ppsOld.filter (fun q => s.dt < q.1)
  let old := if c.ppsOutOffset != o.ppsOutOffset || c.ppsWidth != o.ppsWidth
    then live ++ [(s.dt + 1000000000, o.ppsOutOffset, o.ppsWidth)] else live
  let source := c.role != o.role || c.source != o.source || c.profile != o.profile || c.transport != o.transport ||
    c.domain != o.domain || c.tpRate != o.tpRate || c.tpFec != o.tpFec
  if source then
    let free : Bool := c.role = 0 && c.source = 0
    let s1 := if free then s else if s.tb.st == TimeState.settling then s.timeTo .holdover else s.sourceLoss
    let s2 := { s1 with tb := { s1.tb with cfg := c, cfgNext := none, ppsOld := old, foreign := [], parent := none, syncOpen := none
                                           lastSync := none, delayOpen := [], lastPair := none, pdelayOpen := [], meanPath := [] } }
    let s3 := if s2.tb.tpUp && c.tpRate = 0 then
        ({ s2 with tb := { s2.tb with tpUp := false } }).timeRecord 3 0x0406 0 0
      else s2
    if free then s3.timeTo .freeRun else s3
  else if c.role = 0 && c.source = 0 then { s with tb := { s.tb with cfg := c, cfgNext := none, ppsOld := old } }
  else
    { s with tb := { s.tb with
        cfg := { s.tb.cfg with ppsOutOffset := c.ppsOutOffset, ppsWidth := c.ppsWidth }, cfgNext := some c, ppsOld := old } }

/-- The checks of TIME_CONFIGURE (10 R379, R381). -/
def timeConfigureChecks (c : RingCmd) (s : State) : Checks :=
  { layout := timeCfgLayout c.e, ranges := timeCfgRanges c.e, state := s.timeBusy }

/-- What an accepted TIME_CONFIGURE (10 R379, R381) does. -/
def timeConfigureEffect (c : RingCmd) (s : State) : State × Done :=
  (s.timeConfigure (timeCfgOf c.e), .ok)

/-- TIME_CONFIGURE (10 R379, R381). -/
def execTimeConfigure (t : Nat) (c : RingCmd) (s : State) : Host.Outcome State Fault Refusal :=
  (s.elapse t).command c 0x38 (timeConfigureChecks c) (timeConfigureEffect c)

/-- A phase load: the time base takes a device time (in ns) as that of an instant this many 2^-32 ns ago (10 R375, R381). The source goes
through SETTLING at the holdover rate (R368, R371). -/
def State.loadTime (s : State) (new : Nat) (ago : Int) : State :=
  let s1 := s.timeStep (ofInt 96 ((new : Int) * 2 ^ 32 + ago))
  if s1.tb.cfg.role = 0 && s1.tb.cfg.source = 1 then
    match s1.tb.st with
    | .settling => { s1 with tb := { s1.tb with settle := [] } }
    | .acquiring | .locked => ({ s1 with rateAdj := s1.tb.holdRate }).timeTo .settling
    | _ => s1.sourceAvailable
  else s1

/-- The rate of a SET_TIME, when it sets one. -/
def State.loadRate (s : State) (e : Entry) : State :=
  if bitAt e 9 1 then { s with rateAdj := toInt 32 (fld e 0x18 4) } else s

/-- The checks of SET_TIME (10 R375, R380, R381). -/
def setTimeChecks (c : RingCmd) (s : State) : Checks :=
  let e := c.e
  let phase := bitAt e 9 0
  let rate := bitAt e 9 1
  let pps := bitAt e 9 2
  { layout := timeHead e [(9, 1), (0x10, 12)] ++ [rsv e 9 1 3 5]
    ranges := [(9, !phase && (!rate || pps)), (0x18, outside (-4294967) 4294967 (toInt 32 (fld e 0x18 4)))]
    state := firstSome [s.timeBusy,
      if s.tb.cfg.role != 0 || (rate && s.tb.cfg.source = 1) then some (s.badState 0x10) else none,
      if phase && !s.mayStep then some (s.badState 0x11) else none] }

/-- What an accepted SET_TIME (10 R375, R380, R381) does. -/
def setTimeEffect (c : RingCmd) (s : State) : State × Done :=
  let e := c.e
  let phase := bitAt e 9 0
  let pps := bitAt e 9 2
  if pps then
    (({ s with tb := { s.tb with waiting := some (ringId c.p c.i, s.fresh) } }).freshen, .waits s.fresh)
  else
    let s1 := s.loadRate e
    (if phase then s1.loadTime (fld e 0x10 8) 0 else s1, .ok)

/-- SET_TIME (10 R375, R380, R381). -/
def execSetTime (t : Nat) (c : RingCmd) (s : State) : Host.Outcome State Fault Refusal :=
  (s.elapse t).command c 0x38 (setTimeChecks c) (setTimeEffect c)

/-- An entry of the READ_STAMPS block (10 R377). -/
def TxStamp.bytes (x : TxStamp) : List Byte :=
  let ns := x.stamp / 256
  leBytes 2 x.seqId ++ leBytes 2 x.port ++ leBytes 1 x.msgType ++ leBytes 1 (x.stamp / 64 % 4) ++ leBytes 6 (ns / 1000000000) ++
    leBytes 4 (ns % 1000000000)

/-- The checks of READ_STAMPS (10 R376, R377). -/
def readStampsChecks (c : RingCmd) (s : State) : Checks :=
  let va := bufferVa c.e 0x10
  { layout := timeHead c.e [(0x10, 8)] ++ [bufferChk c.e 0x10], ranges := [(0x10, va % 16 != 0)]
    handles := s.addrStatus c.p va 272 0x10, state := s.timeBusy }

/-- What an accepted READ_STAMPS (10 R376, R377) does. -/
def readStampsEffect (c : RingCmd) (s : State) : State × Done :=
  let va := bufferVa c.e 0x10
  let l := s.tb.stamps
  let b := leBytes 1 l.length ++ zeros 3 ++ leBytes 4 s.tb.overflow ++ zeros 8 ++ fitTo 256 (l.flatMap TxStamp.bytes)
  ({ s with tb := { s.tb with stamps := [], overflow := 0 } }).queueBlock c va b

/-- READ_STAMPS (10 R376, R377). -/
def execReadStamps (t : Nat) (c : RingCmd) (s : State) : Host.Outcome State Fault Refusal :=
  (s.elapse t).command c 0x38 (readStampsChecks c) (readStampsEffect c)

/-- The status block of the time base (10 R382). -/
def State.timeBlock (s : State) : List Byte :=
  let x := s.tb
  let gm : Master := match x.parent with | some m => m | none => { s.announced with stepsRemoved := 0 }
  let hold : Nat := match x.st with
    | .holdover => (s.ns - x.holdSince) / 1000000000
    | .settling => (s.ns - x.holdSince) / 1000000000
    | _ => 0
  leBytes 1 x.st.code ++ leBytes 1 (x.cfg.role + x.cfg.source * 4 + b2n x.tpUp * 16) ++ leBytes 2 gm.stepsRemoved ++
  leBytes 1 gm.cls ++ leBytes 1 gm.accuracy ++ zeros 2 ++ leBytes 8 s.gmIdentity ++ leBytes 8 s.dt ++ leBytes 8 (ofInt 64 x.offset) ++
  leBytes 4 (if x.cfg.role = 0 then 0 else ofInt 32 (tabGet 0 x.meanPath 1 / 256)) ++ leBytes 4 (ofInt 32 s.rateAdj) ++ leBytes 8 x.lastUpdate ++
  leBytes 4 hold ++ leBytes 4 x.steps ++ leBytes 4 x.discarded ++ leBytes 4 x.rejected

/-- The checks of TIME_STATUS (10 R382). -/
def timeStatusChecks (c : RingCmd) (s : State) : Checks :=
  let va := bufferVa c.e 0x10
  { layout := timeHead c.e [(0x10, 8)] ++ [bufferChk c.e 0x10], ranges := [(0x10, va % 64 != 0)]
    handles := s.addrStatus c.p va 64 0x10, state := s.timeBusy }

/-- What an accepted TIME_STATUS (10 R382) does. -/
def timeStatusEffect (c : RingCmd) (s : State) : State × Done :=
  let va := bufferVa c.e 0x10
  s.queueBlock c va s.timeBlock

/-- TIME_STATUS (10 R382). -/
def execTimeStatus (t : Nat) (c : RingCmd) (s : State) : Host.Outcome State Fault Refusal :=
  (s.elapse t).command c 0x38 (timeStatusChecks c) (timeStatusEffect c)

/-! ### PTP (10 R364, R365, R369) -/

/-- PTP_MESSAGE (10 R364). -/
def execPtpMessage (t : Nat) (x : PtpPort) (f : PtpFrame) (sub : Fin 512) (s : State) : Host.Outcome State Fault Refusal :=
  let s1 := s.elapse t
  .next (s1.ptpReceive x f.transport f.length f.message (s1.edgeAt sub))

/-- PTP_MASTER_TRANSMIT: a lane port that is master sends its Sync or Announce when it is due; an Announce that is due goes first, as on
the return to UP (04 R175; 10 R363, R364). Under the Peer-to-Peer profile it sends its Pdelay_Req too. -/
def execPtpMasterTransmit (t : Nat) (x : PtpPort) (k : PtpSend) (s : State) : Host.Outcome State Fault Refusal :=
  let s1 := s.elapse t
  match x with
  | .timing => .next s1
  | .lane l =>
    let y := s1.lane l
    let due (n : Nat) : Bool := tabGet 0 s1.tb.ptpDue n ≤ s1.ns
    if s1.ptpLive && s1.tb.cfg.role != 1 && y.mode == .ethernet && y.st == .up then
      match k with
      | .sync => .next (if due (2 * (l + 2)) && !due (2 * (l + 2) + 1) then s1.sendPtpSync l else s1)
      | .announce => .next (if due (2 * (l + 2) + 1) then s1.sendPtpAnnounce l else s1)
      | .pdelay => .next (if s1.tb.cfg.profile = 1 && due (delayKey (l + 2)) && !due (2 * (l + 2) + 1) then s1.sendDelayReq (l + 2) else s1)
    else .next s1

/-- PTP_DELAY_REQUEST_TRANSMIT: as a client the timing port measures its delay (10 R364). -/
def execPtpDelayRequestTransmit (t : Nat) (s : State) : Host.Outcome State Fault Refusal :=
  let s1 := s.elapse t
  let client := s1.tb.cfg.role = 1 || s1.tb.cfg.role = 2
  if s1.ptpLive && s1.tb.tpUp && client && tabGet 0 s1.tb.ptpDue 2 ≤ s1.ns && (s1.tb.cfg.profile = 1 || s1.tb.parent.isSome) then
    .next (s1.sendDelayReq 1)
  else .next s1

/-- The loss named by the row has come about (10 R369). -/
def State.lossDue (s : State) (k : LossKind) : Bool :=
  let x := s.tb
  match k with
  | .missingSync => x.cfg.role != 0 && (match x.lastSync with | some (a, n) => a + 3 * intervalNs n ≤ s.ns | none => false)
  | .announceTimeout =>
    x.cfg.role != 0 && (match x.parent with
      | some m => x.foreign.any (fun f => f.m.sender = m.sender && f.last + x.cfg.announceTimeout * intervalNs f.interval ≤ s.ns)
      | none => false)
  | .link => x.cfg.role != 0 && !x.tpUp
  | .ppsGap => x.cfg.role = 0 && x.cfg.source = 1 && (match x.ppsIn with | some a => a + 1500000000 ≤ s.ns | none => false)

/-- The source is lost: its master must qualify again, and another that qualifies is chosen (10 R369). -/
def State.loseSource (s : State) : State :=
  let gone (f : Foreign) : Bool := match s.tb.parent with | some m => f.m.sender != m.sender | none => true
  let s1 := s.sourceLoss
  ({ s1 with tb := { s1.tb with foreign := s1.tb.foreign.filter gone, parent := none, lastSync := none, syncOpen := none } }).bmca

/-- SOURCE_LOST (10 R369). -/
def execSourceLost (t : Nat) (k : LossKind) (s : State) : Host.Outcome State Fault Refusal :=
  let s1 := s.elapse t
  if s1.tb.st.inUse && s1.lossDue k then .next s1.loseSource else .next s1

/-- The timing port's link goes up or down (10 R365, R369, R383). -/
def State.tpLink (s : State) (up : Bool) : State :=
  if s.ptpLive && s.tb.tpUp != up && (s.tb.cfg.tpRate != 0 || !up) then
    let s2 := ({ s with tb := { s.tb with tpUp := up } }).timeRecord 3 0x0406 0 (b2n up + s.tb.cfg.tpRate * 2)
    if !up && s2.tb.cfg.role != 0 && s2.tb.st.inUse then s2.loseSource else s2
  else s

/-- TP_LINK: the link cannot rise while the reference of its chiplet is absent (19 R636). -/
def execTpLink (t : Nat) (up : Bool) (s : State) : Host.Outcome State Fault Refusal :=
  let s1 := s.elapse t
  .next (if up && s1.supply.lrefAbsent.contains 0 then s1 else s1.tpLink up)

/-! ### PPS (10 R373 to R375) -/

/-- The offset of an edge from the nearest whole second + PPS_IN_OFFSET, in 2^-16 ns (10 R367). -/
def State.ppsOffset (s : State) (i : Nat) : Int :=
  let m := ((i : Int) - 256 * s.tb.cfg.ppsInOffset) % 256000000000
  (if m < 128000000000 then m else m - 256000000000) * 256

/-- The SET_TIME that waits is carried out at an edge, or fails there (10 R375, R381). -/
def State.ppsLoad (s : State) (w : Nat × Nat) (x : Waiting) (i : Nat) : State :=
  let s1 := { s with tb := { s.tb with waiting := none } }
  if s1.mayStep then
    ((s1.loadRate x.entry).loadTime (fld x.entry 0x10 8) ((s.time : Int) - i * 2 ^ 24)).finishWaiting w.1 w.2 .success
  else s1.finishWaiting w.1 w.2 (s1.badState 0x11)

/-- An accepted PPS_IN edge (10 R374, R375). -/
def State.ppsEdge (s : State) (i : Nat) : State :=
  let s1 := if s.tb.cfg.ppsInReport then s.timeRecord 3 0x0405 (i % 256) (i / 256) else s
  let s2 := s1.emit 8 0 (fun a => a = 1) i 51200
  match s2.timeWaits with
  | some w => s2.ppsLoad w.1 w.2 i
  | none => if s2.tb.cfg.role = 0 && s2.tb.cfg.source = 1 then s2.sourceAvailable.servo (s2.ppsOffset i) else s2

/-- PPS_IN_EDGE (10 R369, R374). -/
def execPpsInEdge (t : Nat) (sub : Fin 512) (s : State) : Host.Outcome State Fault Refusal :=
  let s1 := s.elapse t
  let close : Bool := match s1.tb.ppsIn with | some a => s1.ns < a + 100000000 | none => false
  let s2 := { s1 with tb := { s1.tb with ppsIn := some s1.ns } }
  if close then .next { s2 with tb := { s2.tb with rejected := satAdd 32 s2.tb.rejected 1 } }
  else .next (s2.ppsEdge (s1.edgeAt sub))

/-- The latest instant k × 10^9 + offset up to a device time. -/
def ppsUpTo (time offset : Int) : Int := (time - offset) / 1000000000 * 1000000000 + offset

/-- The latest instant of each setting of PPS_OUT that has come by `now`, from device time `low` on: of the earlier settings, oldest first,
each up to its end, then of the configured one (10 R373). -/
def ppsRises (now : Int) (cfg : Int × Nat) : Int → List (Nat × Int × Nat) → List (Int × Nat)
  | low, [] => let p := ppsUpTo now cfg.1; if low ≤ p then [(p, cfg.2)] else []
  | low, q :: t =>
    let p := ppsUpTo (min now ((q.1 : Int) - 1)) q.2.1
    (if low ≤ p then [(p, q.2.2)] else []) ++ ppsRises now cfg (max low q.1) t

/-- The instant at which PPS_OUT rises now, and its width: the latest that has come and no earlier pulse rules out (10 R373). -/
def State.ppsRise (s : State) : Option (Int × Nat) :=
  (ppsRises (s.dt256 / 256 + 1 : Nat) (s.tb.cfg.ppsOutOffset, s.tb.cfg.ppsWidth) (s.tb.ppsLast + 1) s.tb.ppsOld).getLast?

/-- PPS_OUT_RISE, whenever the Ember is supplied (10 R373). -/
def execPpsOutRise (t : Nat) (s : State) : Host.Outcome State Fault Refusal :=
  let s1 := s.elapse t
  match s1.ppsRise with
  | some p =>
    if s1.supply.live && s1.tb.ppsHigh.isNone then
      let s2 := { s1 with tb := { s1.tb with ppsLast := p.1, ppsHigh := some (s1.ns + 10000 * p.2) } }
      .next ((s2.say (.pps true)).emit 8 0 (fun a => a = 0) (256 * p.1.toNat) 0)
    else .next s1
  | none => .next s1

/-- PPS_OUT_FALL (10 R373). -/
def execPpsOutFall (t : Nat) (s : State) : Host.Outcome State Fault Refusal :=
  let s1 := s.elapse t
  if s1.due s1.tb.ppsHigh then .next (({ s1 with tb := { s1.tb with ppsHigh := none } }).say (.pps false)) else .next s1

/-- SET_TIME_PPS_TIMEOUT: no accepted edge has come within 2 s (10 R381). -/
def execSetTimePpsTimeout (t : Nat) (s : State) : Host.Outcome State Fault Refusal :=
  let s1 := s.elapse t
  match s1.timeWaits with
  | some (w, x) =>
    if x.since + 2000000000 ≤ s1.ns then
      .next (({ s1 with tb := { s1.tb with waiting := none } }).finishWaiting w.1 w.2 (s1.badState 0x12))
    else .next s1
  | none => .next s1

end Sys2Proof.Machine
end

