-- ==== Sys2Proof/Machine/MgOps.lean ====
section
/-!
DEFINITION. The management target's transfers, alerts and the module buses: shared operations (18 R595 to R616).
-/

namespace Sys2Proof.Machine

/-! ### Transfers to the target (18 R596 to R600) -/

/-- The address byte of the target, with the write bit. -/
def Mg.addrByte (m : Mg) : Nat := (0x58 + m.address) * 2

/-- A transfer addressed to the target has come; in Keep its clock runs for 10 ms more (18 R600). -/
def State.mgSeen (s : State) : State := { s with mg := { s.mg with lastXfer := s.ns, clock := s.mg.clock || s.mode == .keep } }

/-- STATUS.REJECT is set. -/
def State.mgReject (s : State) : State := { s with mg := { s.mg with reject := true } }

/-- The PEC of a write of these bytes to a command code (18 R598). -/
def State.pecWrite (s : State) (code : Nat) (bytes : List Byte) : Nat :=
  crc8 (leBytes 1 s.mg.addrByte ++ leBytes 1 code ++ bytes)

/-- The PEC of a read answered with these bytes. -/
def State.pecRead (s : State) (code : Nat) (bytes : List Byte) : Nat :=
  crc8 (leBytes 1 s.mg.addrByte ++ leBytes 1 code ++ leBytes 1 (s.mg.addrByte + 1) ++ bytes)

/-- The target answers a read, with PEC when the controller acknowledges the last data byte (18 R598). -/
def State.mgSend (s : State) (code : Nat) (bytes : List Byte) (ackLast : Bool) : State :=
  s.say (.mgAnswer (bytes ++ (if ackLast then leBytes 1 (s.pecRead code bytes) else [])))

/-- A block answer: its count, then its bytes. -/
def mgBlock (l : List Byte) : List Byte := leBytes 1 l.length ++ l

/-- A write of n data bytes to a command code: too few are rejected, one more is PEC, two more are not acknowledged (18 R598). -/
def State.mgPut (s : State) (code n : Nat) (bytes : List Byte) (apply : List Byte → State → State) : State :=
  if bytes.length < n then s.mgReject
  else if bytes.length = n then apply bytes s
  else if bytes.length = n + 1 then
    (if (bytes.getD n 0).toNat = s.pecWrite code (bytes.take n) then apply (bytes.take n) s else s.say .mgNack)
  else s.say .mgNack

/-- A transfer to a register: `get` answers a read with its bytes and what reading does, `put` takes a write of n bytes. A direction the
code does not have is not acknowledged (18 R598). The target needs a supply (18 R597). -/
def State.mgAccess (s : State) (code : Nat) (x : MgTransfer) (get : Option (State → List Byte × State))
    (put : Option (Nat × (List Byte → State → State))) : State :=
  if !s.supply.live then s
  else
    let s1 := s.mgSeen
    match x, get, put with
    | .read ack, some g, _ => ((g s1).2).mgSend code (g s1).1 ack
    | .write l, _, some p => s1.mgPut code p.1 l p.2
    | _, _, _ => s1.say .mgNack

/-- A register that a read only reports. -/
def mgGet (f : State → List Byte) : Option (State → List Byte × State) := some (fun s => (f s, s))

/-- A write that takes the value when `ok`, and is rejected when a field holds a reserved value (18 R598). -/
def mgTake (ok : Nat → Bool) (f : Nat → State → State) (l : List Byte) (s : State) : State :=
  if ok (leVal l) then f (leVal l) s else s.mgReject

/-- MG_ALERT# is released once no enabled bit of ALERT_STATUS is set (18 R608). -/
def State.alertCheck (s : State) : State :=
  if s.mg.alertStatus &&& s.mg.alertMask = 0 then s.alertRelease else s

/-- The health values that reads give: as last written to the NV store in Keep (18 R601). -/
def State.healthRead (s : State) : State := if s.mode == .keep then { s with health := s.healthNv } else s

/-- The STATUS word (18 R603). -/
def State.mgStatus (s : State) : Nat :=
  let armed : Bool := match s.mg.armed with | some d => s.ns < d | none => false
  s.mode.code + s.supply.sel * 2 ^ 3 + b2n s.start.pwrGood * 2 ^ 4 + b2n s.supply.holdOnly * 2 ^ 5 + b2n (s.start.fw == .copyB) * 2 ^ 6 +
    b2n (s.start.fw == .failed) * 2 ^ 7 + b2n s.start.running * 2 ^ 8 + b2n armed * 2 ^ 9 + b2n s.mg.reject * 2 ^ 10 +
    b2n (s.mode == .dark) * 2 ^ 11

/-! ### Records of this chapter (18 R616) -/

/-- A record of a bus for the port that holds the control claim. -/
def State.cgRecord (s : State) (cls typ b data : Nat) : State := s.report none cls typ islandEmber b data

/-- A record of which one is written in any 100 ms: the new limit, and the number of records skipped before this one if it is written. -/
def onceIn (last : Option (Nat × Nat)) (now : Nat) : Option (Nat × Nat) × Option Nat :=
  match last with
  | none => (some (now, 0), some 0)
  | some (a, n) => if a + 100000000 ≤ now then (some (now, 0), some n) else (some (a, n + 1), none)

/-! ### Host Notify (18 R608, R609) -/

/-- The bytes of a Host Notify. -/
def State.notifyBytes (s : State) : List Byte := leBytes 1 s.mg.addrByte ++ leBytes 2 s.mg.alertStatus

/-- NOTIFY_FAILED. -/
def State.notifyFailed (s : State) : State :=
  let r := onceIn s.mg.report s.ns
  let s1 : State := ({ s with mg := { s.mg with report := r.1, notifying := none } }).alertDrop
  match r.2 with
  | some n => s1.cgRecord 2 0x0C05 17 (s1.mg.alertStatus + n % 2 ^ 32 * 2 ^ 32)
  | none => s1

/-- One try of a Host Notify, the n-th before it counted, and how it ends. -/
def State.notifyTry (s : State) (n : Nat) (x : NotifyEnd) : State :=
  let s1 := s.say (.mgNotify s.notifyBytes)
  match x with
  | .waits => s1
  | .acknowledged => { s1 with mg := { s1.mg with notifying := none } }
  | .notAcknowledged | .lost =>
    if 8 ≤ n + 1 then s1.notifyFailed else { s1 with mg := { s1.mg with notifying := some (n + 1, s1.ns + 1000000) } }

/-! ### Module buses (18 R610 to R614) -/

/-- A module bus. -/
def State.bus (s : State) (b : Nat) : CgBus := tabGet CgBus.reset s.mg.buses b

/-- Put a module bus. -/
def State.setBus (s : State) (b : Nat) (x : CgBus) : State := { s with mg := { s.mg with buses := tabPut s.mg.buses b x } }

/-- The transfer that runs, if it runs on bus b, completes with a status. -/
def State.xferEnds (s : State) (b st : Nat) : State :=
  if s.mg.xfer.status = 1 && s.mg.xfer.bus = b then { s with mg := { s.mg with xfer := { s.mg.xfer with status := st } } } else s

/-- A transfer runs on bus b and its bus does not recover or cycle. -/
def State.xferRuns (s : State) : Bool :=
  s.mg.xfer.status = 1 && (s.bus s.mg.xfer.bus).recovery.isNone && (s.bus s.mg.xfer.bus).cycle.isNone

/-- The bytes the FV8128 sends first in the transfer (18 R610). -/
def CgXfer.sends (x : CgXfer) : List Byte :=
  let w := leBytes 1 (x.addr * 2) ++ x.wdata
  if x.rlen = 0 then (if x.pec then w ++ leBytes 1 (crc8 w) else w)
  else if x.wdata.isEmpty then leBytes 1 (x.addr * 2 + 1)
  else w ++ leBytes 1 (x.addr * 2 + 1)

/-- The transfer's next try goes out. -/
def State.xferGo (s : State) : State := s.say (.cgTransfer s.mg.xfer.bus s.mg.xfer.sends)

/-- A power-cycle of bus b begins; that of TPM takes the timing port's source away (18 R614). -/
def State.cycleBus (s : State) (b : Nat) (byCg : Bool) : State :=
  let u := s.start
  let s1 := s.setBus b { s.bus b with cycle := some (1, s.ns + s.mg.cycleMs * 10000000, byCg), recovery := none }
  let s2 : State := { s1 with start := { u with cagePower := u.cagePower.filter (fun k => k != b), cageReset := u.cageReset.filter (fun k => k != b) } }
  let s3 := (s2.say (.pin "CG_PWREN" b false)).say (.pin "CG_RST#" b false)
  if b = 16 then s3.tpLink false else s3

/-- R613 power-cycles the module. -/
def State.hangCycle (s : State) (b : Nat) : State := (s.cycleBus b false).alert alertCg

/-- The bus is tested at the end of its power-cycle (18 R613, R614). -/
def State.cycleEnds (s : State) (b : Nat) (byCg idle : Bool) : State :=
  let s1 := s.setBus b { s.bus b with cycle := none, out := !idle }
  let s2 := s1.cgRecord 2 0x0C02 b (b2n byCg + b2n idle * 2 ^ 8)
  if idle then s2.xferEnds b 6
  else
    let a := if s2.mg.xfer.status = 1 && s2.mg.xfer.bus = b then s2.mg.xfer.addr else 0
    ((s2.cgRecord 1 0x0C03 b (a * 2 ^ 8)).alert alertCg).xferEnds b 8

/-- A CG_XFER block after its count: BUS, ADDR, SPEED, PEC, WLEN, RLEN and DATA (18 R610). -/
def cgParse (l : List Byte) : CgXfer :=
  { bus := lbits l 0 1 0 5, addr := lbits l 1 1 0 7, speed := lbits l 2 1 0 2, pec := (lbits l 2 1 2 1 == 1), wdata := l.drop 5, rlen := lfld l 4 1
    status := 1, tries := 1, data := [] }

/-- A field of a CG_XFER block holds a reserved value, or the count does not equal 5 + WLEN (18 R598, R610). -/
def cgBad (l : List Byte) : Bool :=
  16 < lbits l 0 1 0 5 || lbits l 2 1 0 2 = 3 || 32 < lfld l 3 1 || 32 < lfld l 4 1 || l.length != 5 + lfld l 3 1

/-- A CG_XFER block is taken (18 R610 to R613). -/
def State.cgStart (s : State) (l : List Byte) : State :=
  if cgBad l then s.mgReject
  else
    let x := cgParse l
    let put (st tries : Nat) : State := { s with mg := { s.mg with xfer := { x with status := st, tries := tries } } }
    if s.mode == .keep && !s.start.running then put 7 0
    else if (s.bus x.bus).out then put 8 0
    else if !s.start.cagePower.contains x.bus || (s.bus x.bus).cycle.isSome then put 7 0
    else (put 1 1).xferGo

end Sys2Proof.Machine
end

