-- ==== Sys2Proof/Machine/Buses.lean ====
section
/-!
DEFINITION. The management target, its alerts, and the module buses (18 R596 to R616).
-/

namespace Sys2Proof.Machine

/-! ### Registers that report (18 R601) -/

/-- IDENTITY (18 R601). -/
def execIdentity (t : Nat) (x : MgTransfer) (s : State) : Host.Outcome State Fault Refusal :=
  .next ((s.elapse t).mgAccess 0x01 x (mgGet (fun _ =>
    mgBlock (leBytes 2 0x1FD3 ++ leBytes 2 0x8128 ++ leBytes 1 0xB2 ++ zeros 3 ++ leBytes 8 Config.serialNumber.toNat))) none)

/-- STATUS: the read clears REJECT (18 R603). -/
def execMgStatus (t : Nat) (x : MgTransfer) (s : State) : Host.Outcome State Fault Refusal :=
  .next ((s.elapse t).mgAccess 0x02 x (some (fun u => (leBytes 2 u.mgStatus, { u with mg := { u.mg with reject := false } }))) none)

/-- TIME: device time as sampled at the acknowledge, and the state of the time base (18 R601). -/
def execTime (t : Nat) (x : MgTransfer) (s : State) : Host.Outcome State Fault Refusal :=
  .next ((s.elapse t).mgAccess 0x03 x (mgGet (fun u => mgBlock (leBytes 8 u.dt ++ leBytes 1 u.tb.st.code ++ zeros 7))) none)

/-- TEMP: v is the hottest die sensor (18 R601). -/
def execTemp (t : Nat) (x : MgTransfer) (v : BitVec 16) (s : State) : Host.Outcome State Fault Refusal :=
  .next ((s.elapse t).mgAccess 0x04 x (mgGet (fun u => leBytes 2 (if u.mode == .keep then 0x8000 else v.toNat))) none)

/-- FATAL_COUNT (18 R601, 15 R535). -/
def execFatalCount (t : Nat) (x : MgTransfer) (s : State) : Host.Outcome State Fault Refusal :=
  .next ((s.elapse t).mgAccess 0x08 x (mgGet (fun u => leBytes 1 u.fatal.length)) none)

/-- FATAL_INDEX (18 R601). -/
def execFatalIndex (t : Nat) (x : MgTransfer) (s : State) : Host.Outcome State Fault Refusal :=
  .next ((s.elapse t).mgAccess 0x09 x (mgGet (fun u => leBytes 1 u.mg.fatalIndex))
    (some (1, mgTake (fun v => v < 32) (fun v u => { u with mg := { u.mg with fatalIndex := v } }))))

/-- FATAL_SLOT: the read goes on to the next slot (18 R601). -/
def execFatalSlot (t : Nat) (x : MgTransfer) (s : State) : Host.Outcome State Fault Refusal :=
  .next ((s.elapse t).mgAccess 0x0A x (some (fun u =>
    (mgBlock ((u.fatalSlots.drop (32 * u.mg.fatalIndex)).take 32), { u with mg := { u.mg with fatalIndex := (u.mg.fatalIndex + 1) % 32 } }))) none)

/-- POOL_INDEX (18 R601). -/
def execPoolIndex (t : Nat) (x : MgTransfer) (s : State) : Host.Outcome State Fault Refusal :=
  .next ((s.elapse t).mgAccess 0x0C x (mgGet (fun u => leBytes 1 u.mg.poolIndex))
    (some (1, mgTake (fun v => 1 ≤ v && v ≤ 0xA) (fun v u => { u with mg := { u.mg with poolIndex := v } }))))

/-- POOL (18 R601, 15 R540). -/
def execPool (t : Nat) (x : MgTransfer) (s : State) : Host.Outcome State Fault Refusal :=
  .next ((s.elapse t).mgAccess 0x0D x (mgGet (fun u => mgBlock (u.healthRead.poolEntry u.mg.poolIndex))) none)

/-! ### Alerts (18 R604, R607, R608) -/

/-- ALERT_STATUS: a write clears the bits written as 1 (18 R604). -/
def execAlertStatus (t : Nat) (x : MgTransfer) (s : State) : Host.Outcome State Fault Refusal :=
  .next ((s.elapse t).mgAccess 0x10 x (mgGet (fun u => leBytes 2 u.mg.alertStatus))
    (some (2, mgTake (fun _ => true) (fun v u =>
      State.alertCheck { u with mg := { u.mg with alertStatus := u.mg.alertStatus &&& (v ^^^ 0xFFFF) } }))))

/-- ALERT_MASK (18 R601). -/
def execAlertMask (t : Nat) (x : MgTransfer) (s : State) : Host.Outcome State Fault Refusal :=
  .next ((s.elapse t).mgAccess 0x11 x (mgGet (fun u => leBytes 2 u.mg.alertMask))
    (some (2, mgTake (fun _ => true) (fun v u => State.alertCheck { u with mg := { u.mg with alertMask := v % 64 } }))))

/-- NOTIFY_CONFIG (18 R607). -/
def execNotifyConfig (t : Nat) (x : MgTransfer) (s : State) : Host.Outcome State Fault Refusal :=
  .next ((s.elapse t).mgAccess 0x12 x (mgGet (fun u => leBytes 1 u.mg.notify))
    (some (1, mgTake (fun v => v % 4 != 3 && v / 4 % 4 != 3) (fun v u => { u with mg := { u.mg with notify := v % 16 } }))))

/-- THERM_LIMIT; a write in Keep does not act (18 R601). -/
def execThermLimit (t : Nat) (x : MgTransfer) (s : State) : Host.Outcome State Fault Refusal :=
  .next ((s.elapse t).mgAccess 0x13 x (mgGet (fun u => leBytes 2 u.mg.therm))
    (some (2, mgTake (fun _ => true) (fun v u => if u.mode == .keep then u else { u with mg := { u.mg with therm := v } }))))

/-- ALERT_RESPONSE: the Alert Response Address is read while MG_ALERT# is low; the winner of the arbitration releases it (18 R608). -/
def execAlertResponse (t : Nat) (won : Bool) (s : State) : Host.Outcome State Fault Refusal :=
  let s1 := s.elapse t
  if s1.supply.live && s1.mg.alertLow then
    let s2 := s1.say (.mgAnswer (leBytes 1 s1.mg.addrByte))
    .next (if won then s2.alertRelease else s2)
  else .next s1

/-- HOST_NOTIFY: the first try of a Host Notify that waits (18 R608, R609). -/
def execHostNotify (t : Nat) (x : NotifyEnd) (s : State) : Host.Outcome State Fault Refusal :=
  let s1 := s.elapse t
  match s1.mg.notifying with
  | some (0, _) => .next (if s1.supply.live then s1.notifyTry 0 x else s1)
  | _ => .next s1

/-- HOST_NOTIFY_RETRY: 1 ms after a try that failed (18 R608). -/
def execHostNotifyRetry (t : Nat) (x : NotifyEnd) (s : State) : Host.Outcome State Fault Refusal :=
  let s1 := s.elapse t
  match s1.mg.notifying with
  | some (n + 1, at_) => .next (if s1.supply.live && at_ ≤ s1.ns then s1.notifyTry (n + 1) x else s1)
  | _ => .next s1

/-- THERMAL: TEMP has reached the limit; it is not sampled in Keep (18 R604, 19 R633). -/
def execThermal (t : Nat) (v : BitVec 16) (s : State) : Host.Outcome State Fault Refusal :=
  let s1 := s.elapse t
  .next (if s1.mode != .keep && decide (toInt 16 s1.mg.therm ≤ v.toInt) then s1.alert alertThermal else s1)

/-! ### Module buses (18 R610 to R614) -/

/-- CG_XFER: the count is checked before the block is taken (18 R598, R610, R611). -/
def execCgXfer (t : Nat) (x : MgTransfer) (s : State) : Host.Outcome State Fault Refusal :=
  let s1 := s.elapse t
  if !s1.supply.live then .next s1
  else
    let s2 := s1.mgSeen
    match x with
    | .read _ => .next (s2.say .mgNack)
    | .write l =>
      let n := lfld l 0 1
      if l.isEmpty then .next s2.mgReject
      else if n < 5 || 37 < n || s2.mg.xfer.status = 1 then .next (s2.say .mgNack)
      else .next (s2.mgPut 0x20 (n + 1) l (fun b u => u.cgStart (b.drop 1)))

/-- CG_RESULT (18 R612). -/
def execCgResult (t : Nat) (x : MgTransfer) (s : State) : Host.Outcome State Fault Refusal :=
  .next ((s.elapse t).mgAccess 0x21 x (mgGet (fun u =>
    let r := u.mg.xfer
    mgBlock (leBytes 1 r.status ++ leBytes 1 r.tries ++ leBytes 1 r.bus ++ leBytes 1 r.data.length ++ r.data))) none)

/-- CG_CYCLE: power-cycles the module of a bus; rejected in Keep (18 R601, R614). -/
def execCgCycle (t : Nat) (x : MgTransfer) (s : State) : Host.Outcome State Fault Refusal :=
  .next ((s.elapse t).mgAccess 0x22 x none
    (some (1, mgTake (fun v => v ≤ 16) (fun v u =>
      if u.mode == .keep && !u.start.running then u.mgReject
      else if (u.bus v).cycle.isSome || !u.start.cagePower.contains v then u
      else (u.xferEnds v 7).cycleBus v true))))

/-- CG_CYCLE_MS (18 R601). -/
def execCgCycleMs (t : Nat) (x : MgTransfer) (s : State) : Host.Outcome State Fault Refusal :=
  .next ((s.elapse t).mgAccess 0x23 x (mgGet (fun u => leBytes 1 u.mg.cycleMs))
    (some (1, mgTake (fun v => v != 0) (fun v u => { u with mg := { u.mg with cycleMs := v } }))))

/-- CG_XFER_COMPLETE: the transfer ends on its bus (18 R611, R612). -/
def execCgXferComplete (t : Nat) (x : CgEnd) (s : State) : Host.Outcome State Fault Refusal :=
  let s1 := s.elapse t
  let r := s1.mg.xfer
  let put (st : Nat) (data : List Byte) : State := { s1 with mg := { s1.mg with xfer := { r with status := st, data := data } } }
  if !s1.xferRuns then .next s1
  else match x with
    | .done data ok => .next (if data.length = r.rlen then put (if r.pec && r.rlen != 0 && !ok then 9 else 2) data else s1)
    | .noAddress => .next (put 3 [])
    | .noByte => .next (put 4 [])

/-- CG_ARBITRATION_RETRY: arbitration is lost; after the next STOP the transfer tries again, up to 8 tries (18 R611). -/
def execCgArbitrationRetry (t : Nat) (s : State) : Host.Outcome State Fault Refusal :=
  let s1 := s.elapse t
  let r := s1.mg.xfer
  if !s1.xferRuns then .next s1
  else if 8 ≤ r.tries then .next (s1.xferEnds r.bus 5)
  else .next ({ s1 with mg := { s1.mg with xfer := { r with tries := r.tries + 1 } } }).xferGo

/-- CG_HANG: the bus of the transfer hangs: SCL is held low, or SDA; `data` are the bytes clocked in so far (18 R612, R613). -/
def execCgHang (t : Nat) (sclLow : Bool) (data : List Byte) (s : State) : Host.Outcome State Fault Refusal :=
  let s1 := s.elapse t
  let r := s1.mg.xfer
  if !s1.xferRuns then .next s1
  else
    let s2 : State := { s1 with mg := { s1.mg with xfer := { r with data := data.take r.rlen } } }
    .next (if sclLow then s2.hangCycle r.bus else s2.setBus r.bus { s2.bus r.bus with recovery := some (0, s2.ns) })

/-- CG_RECOVERY: an attempt to recover bus b ends (18 R613). -/
def execCgRecovery (t : Nat) (b : Fin 17) (freed : Bool) (s : State) : Host.Outcome State Fault Refusal :=
  let s1 := s.elapse t
  let x := s1.bus b
  match x.recovery with
  | none => .next s1
  | some (n, at_) =>
    if s1.ns < at_ then .next s1
    else
      let lim := onceIn x.report s1.ns
      let s2 := (s1.say (.cgRecover b)).setBus b { x with report := lim.1, recovery := if freed then none else some (n + 1, s1.ns + 1000000) }
      let s3 := match lim.2 with
        | some k => s2.cgRecord 2 0x0C01 b (n + 1 + b2n freed * 2 ^ 8 + k % 2 ^ 32 * 2 ^ 32)
        | none => s2
      .next (if freed then s3.xferEnds b 6 else if 3 ≤ n + 1 then s3.hangCycle b else s3)

/-- MODULE_CYCLED: the next step of the power-cycle of bus b; `idle` says that SDA and SCL are high at its end (18 R613, R614). -/
def execModuleCycled (t : Nat) (b : Fin 17) (idle : Bool) (s : State) : Host.Outcome State Fault Refusal :=
  let s1 := s.elapse t
  match (s1.bus b).cycle with
  | none => .next s1
  | some (k, at_, byCg) =>
    if s1.ns < at_ then .next s1
    else if k = 1 then
      let s2 := s1.setBus b { s1.bus b with cycle := some (2, at_ + 100000000, byCg) }
      .next (({ s2 with start := { s2.start with cagePower := b.val :: s2.start.cagePower } }).say (.pin "CG_PWREN" b true))
    else
      let s2 : State := { s1 with start := { s1.start with cageReset := b.val :: s1.start.cageReset } }
      .next ((s2.say (.pin "CG_RST#" b true)).cycleEnds b byCg idle)

/-! ### Wake and guard reset (18 R605, R606) -/

/-- WAKE (18 R605). -/
def execWake (t : Nat) (x : MgTransfer) (s : State) : Host.Outcome State Fault Refusal :=
  .next ((s.elapse t).mgAccess 0x30 x none (some (0, fun _ u =>
    if u.start.porstLow || u.start.warmLow then u.mgReject
    else if u.mode == .keep && u.supply.holdOnly then u.mgReject
    else if u.mayStart then u.wakeUp 4
    else u)))

/-- GUARD_ARM: 0xA5 arms a guard reset for 10 ms (18 R601, R606). -/
def execGuardArm (t : Nat) (x : MgTransfer) (s : State) : Host.Outcome State Fault Refusal :=
  .next ((s.elapse t).mgAccess 0x31 x none
    (some (1, mgTake (fun v => v = 0xA5) (fun _ u => { u with mg := { u.mg with armed := some (u.ns + 10000000) } }))))

/-- GUARD_ARM_EXPIRY (18 R606). -/
def execGuardArmExpiry (t : Nat) (s : State) : Host.Outcome State Fault Refusal :=
  let s1 := s.elapse t
  .next (if s1.due s1.mg.armed then { s1 with mg := { s1.mg with armed := none } } else s1)

/-- The guards perform a guard reset: it acts as a warm reset and is held 1 ms (17 R586). -/
def State.guardReset (s : State) : State :=
  let s1 := s.assertReset 3 s.dt
  { s1 with start := { s1.start with guardUntil := some (s1.ns + 1000000) }, mg := { s1.mg with armed := none } }

/-- GUARD_RESET: 0x5A while it is armed, a feed is in range, no pin reset is held and no start-up runs (18 R606). -/
def execGuardReset (t : Nat) (x : MgTransfer) (s : State) : Host.Outcome State Fault Refusal :=
  .next ((s.elapse t).mgAccess 0x32 x none
    (some (1, mgTake (fun v => v = 0x5A) (fun _ u =>
      let armed : Bool := match u.mg.armed with | some d => u.ns < d | none => false
      if armed && u.supply.fed && !u.start.porstLow && !u.start.warmLow && !u.start.running then u.guardReset else u.mgReject))))

/-! ### The rest of the management bus (18 R598 to R600, R615) -/

/-- MG_UNDEFINED_COMMAND: a code outside the table is not acknowledged, and the transfer is ignored (18 R598, 00 R16). -/
def execMgUndefinedCommand (t : Nat) (code : Byte) (s : State) : Host.Outcome State Fault Refusal :=
  let s1 := s.elapse t
  let codes : List Nat := [1, 2, 3, 4, 8, 9, 0xA, 0xC, 0xD, 0x10, 0x11, 0x12, 0x13, 0x20, 0x21, 0x22, 0x23, 0x30, 0x31, 0x32]
  .next (if s1.supply.live && !codes.contains code.toNat then s1.mgSeen.say .mgNack else s1)

/-- MG_TIMEOUT: a transfer that has held SCL low for 25 ms is given up, and a write it cuts short is discarded (18 R599). -/
def execMgTimeout (t : Nat) (s : State) : Host.Outcome State Fault Refusal := .next (s.elapse t)

/-- KEEP_ADDRESS_WAKE: the Ember acknowledges its address and starts the clock of its bus logic (18 R600). -/
def execKeepAddressWake (t : Nat) (s : State) : Host.Outcome State Fault Refusal :=
  let s1 := s.elapse t
  .next (if s1.mode == .keep && s1.supply.live then s1.mgSeen else s1)

/-- KEEP_CLOCK_STOP: 10 ms without a transfer (18 R600). -/
def execKeepClockStop (t : Nat) (s : State) : Host.Outcome State Fault Refusal :=
  let s1 := s.elapse t
  .next (if s1.mode == .keep && s1.mg.clock && s1.mg.lastXfer + 10000000 ≤ s1.ns then { s1 with mg := { s1.mg with clock := false } } else s1)

/-- MG_HUNG: another device has held MG_SDA or MG_SCL low for 35 ms, or both lines have been high for 1 ms again (18 R615). -/
def execMgHung (t : Nat) (sda scl : Bool) (s : State) : Host.Outcome State Fault Refusal :=
  let s1 := s.elapse t
  if !s1.supply.live then .next s1
  else if sda || scl then
    if s1.mg.hung.isSome then .next { s1 with mg := { s1.mg with hung := some (sda, scl) } }
    else
      let s2 := s1.reportPorts s1.inService 1 0x0C04 islandEmber 17 (b2n sda + 2 * b2n scl + 2 ^ 8)
      .next ({ s2 with mg := { s2.mg with hung := some (sda, scl), notifying := none } }).alertDrop
  else if s1.mg.hung.isSome then
    let s2 := s1.reportPorts s1.inService 3 0x0C04 islandEmber 17 0
    .next { s2 with mg := { s2.mg with hung := none } }
  else .next s1

end Sys2Proof.Machine
end

