-- ==== Sys2Proof/Machine/Capture.lean ====
section
/-!
DEFINITION. RECORD_CONFIG (16 R561 to R563).
-/

namespace Sys2Proof.Machine

/-- The layout every RECORD_CONFIG has, with its further operand bytes. -/
def rcLayout (e : Entry) (fields : List (Nat × Nat)) : List Chk := rsv e 8 1 3 5 :: restRsv e ((8, 1) :: fields)

/-- The checks of RECORD AREA (16 R562, R563). -/
def recordAreaChecks (c : RingCmd) (s : State) : Checks :=
  let e := c.e
  let gib := fld e 9 1
  let after (s : State) : State := { s with recorder := { s.recorder with areaGiB := gib, fullStop := bitAt e 0xA 0 } }
  { layout := rsv e 0xA 1 1 7 :: rcLayout e [(9, 2)], ranges := [(9, 128 < gib)], owner := s.claimStatus c.p
    state := if gib * 2 ^ 30 < s.areaHeld || !s.recorder.caps.isEmpty then some (s.badState 0x71) else none
    ledger := (after s).ledgerStatus }

/-- What an accepted RECORD AREA (16 R562, R563) does. -/
def recordAreaEffect (c : RingCmd) (s : State) : State × Done :=
  let e := c.e
  let gib := fld e 9 1
  let after (s : State) : State := { s with recorder := { s.recorder with areaGiB := gib, fullStop := bitAt e 0xA 0 } }
  (after s, .ok)

/-- RECORD AREA (16 R562, R563). -/
def execRecordArea (t : Nat) (c : RingCmd) (s : State) : Host.Outcome State Fault Refusal :=
  (s.elapse t).command c 0x4C (recordAreaChecks c) (recordAreaEffect c)

/-- The capture that a RECORD START arms (16 R557, R562). -/
def captureOf (p : Nat) (e : Entry) : Capture :=
  { port := p, stream := bitsAt e 0xC 2 0 11, toHbm := bitAt e 0xE 0, toHost := bitAt e 0xE 1, slotLog2 := bitsAt e 0xF 1 0 5
    ring := ringId p (bitsAt e 0x10 2 0 10), area := bufferVa e 0x18, period := fld e 0x12 2, st := 0, ending := false, copied := []
    snap := none, seq := 0, buf := [], queue := [], whole := false, lostFrames := 0, items := 0, gaps := 0, enc := [], stopCmds := [] }

/-- The checks of RECORD START (16 R562, R563). -/
def recordStartChecks (c : RingCmd) (s : State) : Checks :=
  let e := c.e
  let k := captureOf c.p e
  let x := s.stream k.stream
  { layout := [rsv e 0xC 2 11 5, rsv e 0xE 1 2 6, rsv e 0xF 1 5 3, rsvIf (!k.toHost) e 0xF 1, rsv e 0x10 2 10 6, bufferChk e 0x18] ++
      rcLayout e [(0xC, 8), (0x18, 8)]
    ranges := [(0xE, (!k.toHbm && !k.toHost) || (k.toHbm && s.recorder.areaGiB = 0)),
      (0xF, k.toHost && (k.slotLog2 < 16 || 24 < k.slotLog2)), (0x12, k.period = 0 || 60000 < k.period),
      (0x18, k.toHost && k.area % 2 ^ 21 != 0)]
    rings := if k.toHost then s.ownRing c.p k.ring 6 0x10 else none
    owner := ownerStatus x.owner c.p
    handles := if k.toHost then s.addrStatus c.p k.area ((s.ring c.p (k.ring % 1024)).size * 2 ^ k.slotLog2) 0x18 else none
    state := firstSome [
      if s.mode != .record then some (s.badState 0x72) else none,
      if x.st == .free then some (s.badState x.st.code) else none,
      if (s.capture x.sconce).isSome then some (s.badState 0x73) else none]
    ledger := (s.setCapture x.sconce k).ledgerStatus }

/-- What an accepted RECORD START (16 R562, R563) does. -/
def recordStartEffect (c : RingCmd) (s : State) : State × Done :=
  let e := c.e
  let k := captureOf c.p e
  (s.setCapture (s.stream k.stream).sconce k, .ok)

/-- RECORD START (16 R562, R563). -/
def execRecordStart (t : Nat) (c : RingCmd) (s : State) : Host.Outcome State Fault Refusal :=
  (s.elapse t).command c 0x4C (recordStartChecks c) (recordStartEffect c)

/-- The checks of RECORD STOP (16 R563). -/
def recordStopChecks (c : RingCmd) (s : State) : Checks :=
  let e := c.e
  let n := bitsAt e 0xC 2 0 11
  { layout := rsv e 0xC 2 11 5 :: rcLayout e [(0xC, 2)], owner := ownerStatus (s.stream n).owner c.p
    state := if (s.stream n).st == .free then some (s.badState (s.stream n).st.code) else none }

/-- What an accepted RECORD STOP (16 R563) does. -/
def recordStopEffect (c : RingCmd) (s : State) : State × Done :=
  let e := c.e
  let n := bitsAt e 0xC 2 0 11
  match s.capture (s.stream n).sconce with
  | none => (s, .ok)
  | some k =>
    ((s.freshen).setCapture (s.stream n).sconce { k with ending := true, stopCmds := k.stopCmds ++ [(ringId c.p c.i, s.fresh)] }, .waits s.fresh)

/-- RECORD STOP: the capture ends at the next boundary, and the command waits for its last block (16 R563). -/
def execRecordStop (t : Nat) (c : RingCmd) (s : State) : Host.Outcome State Fault Refusal :=
  (s.elapse t).command c 0x4C (recordStopChecks c) (recordStopEffect c)

/-- The checks of RECORD EXPORT (16 R563). -/
def recordExportChecks (c : RingCmd) (s : State) : Checks :=
  let e := c.e
  let k := bitsAt e 0xC 2 0 9
  let rid := ringId c.p (bitsAt e 0x10 2 0 10)
  let va := bufferVa e 0x18
  { layout := [rsv e 0xC 2 9 7, rsv e 0x10 2 10 6, bufferChk e 0x18] ++ rcLayout e [(0xC, 2), (0x10, 2), (0x18, 8)]
    ranges := [(0x18, va % 2 ^ 21 != 0)], rings := s.ownRing c.p rid 6 0x10
    owner := ownerStatus (s.sconce k).owner c.p
    handles := s.addrStatus c.p va ((s.ring c.p (rid % 1024)).size * 2 ^ 24) 0x18 }

/-- What an accepted RECORD EXPORT (16 R563) does. -/
def recordExportEffect (c : RingCmd) (s : State) : State × Done :=
  let e := c.e
  let k := bitsAt e 0xC 2 0 9
  let rid := ringId c.p (bitsAt e 0x10 2 0 10)
  let va := bufferVa e 0x18
  let x : Export := { cmdRing := ringId c.p c.i, arg := s.fresh, ring := rid, area := va, slotLog2 := 24
                      blocks := s.recorder.blocks.filter (fun b => b.sconce == k) }
  let s1 := s.freshen
  (({ s1 with recorder := { s1.recorder with exports := s1.recorder.exports ++ [x] } }).recorderFlush, .waits s.fresh)

/-- RECORD EXPORT: the sconce's blocks are copied, oldest first, in slots of the greatest block (16 R563). -/
def execRecordExport (t : Nat) (c : RingCmd) (s : State) : Host.Outcome State Fault Refusal :=
  (s.elapse t).command c 0x4C (recordExportChecks c) (recordExportEffect c)

/-- The STATUS block of RECORD_CONFIG, whose layout the manual leaves open (16 R563). -/
def State.recordBlock (s : State) : List Byte :=
  let r := s.recorder
  let l := [r.areaGiB, b2n r.fullStop, s.areaHeld] ++ r.caps.flatMap (fun c => [c.1, c.2.items, c.2.gaps])
  (List.range 64).map (Config.recordStatus l)

/-- The checks of RECORD STATUS (16 R562, R563). -/
def recordStatusChecks (c : RingCmd) (s : State) : Checks :=
  let va := bufferVa c.e 0x20
  { layout := bufferChk c.e 0x20 :: rcLayout c.e [(0x20, 8)], ranges := [(0x20, va % 64 != 0)]
    handles := s.addrStatus c.p va 64 0x20 }

/-- What an accepted RECORD STATUS (16 R562, R563) does. -/
def recordStatusEffect (c : RingCmd) (s : State) : State × Done :=
  let va := bufferVa c.e 0x20
  s.queueBlock c va s.recordBlock

/-- RECORD STATUS (16 R562, R563). -/
def execRecordStatus (t : Nat) (c : RingCmd) (s : State) : Host.Outcome State Fault Refusal :=
  (s.elapse t).command c 0x4C (recordStatusChecks c) (recordStatusEffect c)

end Sys2Proof.Machine
end

