-- ==== Sys2Proof/Machine/Ethernet.lean ====
section
/-!
DEFINITION. Camera lanes in Ethernet mode, the downlink synthesiser, LANE_CONFIG and LANE_PACKET_SEND (04 R168 to R180).
-/

namespace Sys2Proof.Machine

/-! ### Frames on the wire (04 R169, R172) -/

/-- The CRC-32 of IEEE 802.3: reflected, all ones at the start and inverted at the end. -/
def crc32 (l : List Byte) : Nat := (l.foldl (crcByte 0xEDB88320) 0xFFFFFFFF) ^^^ 0xFFFFFFFF

/-- A big-endian field of a frame. -/
def efld (b : List Byte) (off n : Nat) : Nat := beVal ((b.drop off).take n)

/-- The ones' complement sum of the 16-bit words of some bytes, folded. -/
def onesSum : List Byte → Nat
  | [] => 0
  | [a] => a.toNat * 256
  | a :: b :: t => let v := a.toNat * 256 + b.toNat + onesSum t; v % 65536 + v / 65536

/-- A checksum over these bytes, its own field included, holds. -/
def onesOk (b : List Byte) : Bool := onesSum b % 65535 = 0

/-- A frame has an 802.1Q tag. -/
def ethTagged (b : List Byte) : Bool := efld b 12 2 = 0x8100

/-- EtherType and the bytes after it. -/
def ethBody (b : List Byte) : Nat × List Byte := if ethTagged b then (efld b 16 2, b.drop 18) else (efld b 12 2, b.drop 14)

/-- What an IPv4 UDP datagram carries: destination address and port, whether both checksums hold, and its data. -/
structure Udp where
  dst : Nat
  port : Nat
  ok : Bool
  data : List Byte
  deriving DecidableEq, Repr

/-- An unfragmented IPv4 UDP datagram. -/
def udpOf (p : List Byte) : Option Udp :=
  let ihl := 4 * (efld p 0 1 % 16)
  if efld p 0 1 / 16 = 4 && 20 ≤ ihl && efld p 9 1 = 17 && efld p 6 2 % 0x4000 = 0 then
    let u := p.drop ihl
    let len := efld u 4 2
    let body := u.take len
    let pseudo := (p.drop 12).take 8 ++ [0, 17] ++ beBytes 2 len ++ body
    some { dst := efld p 16 4, port := efld u 2 2
           ok := onesOk (p.take ihl) && (efld u 6 2 = 0 || onesOk pseudo), data := body.drop 8 }
  else none

/-! ### GVSP (04 R170, 05 R195) -/

/-- A GVSP packet presented to the format table on virtual channel k. -/
def State.gvspShow (s : State) (l k dt wc : Nat) (payload : List Byte) : State :=
  s.classify l { sensor := 0, vc := k, dt := dt, wc := wc, payload := payload, stamp := s.dt }

/-- A GVSP packet of channel k. Header places PRESUMED as GigE Vision 2 gives them: bit 7 of byte 4 the extended ID flag and
its bits 3 to 0 the format, bytes 8 to 15 the block ID, bytes 16 to 19 the packet ID. -/
def State.gvspPacket (s : State) (l k : Nat) (p : List Byte) : State :=
  let x := s.lane l
  let drop := s.laneCount l 0x12 1
  let form := efld p 4 1 % 16
  let block := efld p 8 8
  let pid := efld p 16 4
  let known : GvspBlock := match tabFind x.gvsp k with
    | some b => if b.blockId = block then b else { blockId := block, image := true, lastPacket := 0 }
    | none => { blockId := block, image := true, lastPacket := 0 }
  if efld p 4 1 < 128 then drop
  else if form = 1 then
    if pid < known.lastPacket then drop else
    let image : Bool := efld p 22 2 = 1
    let s1 := s.setLane l { x with gvsp := tabPut x.gvsp k { blockId := block, image := image, lastPacket := pid } }
    if image then s1.gvspShow l k 0 (block % 65536) [] else s1.laneCount l 0x12 1
  else if form = 2 || form = 3 then
    if !known.image || pid < known.lastPacket then drop
    else
      let s1 := s.setLane l { x with gvsp := tabPut x.gvsp k { known with lastPacket := pid } }
      if form = 2 then s1.gvspShow l k 1 (block % 65536) []
      else s1.gvspShow l k 0x30 0 (p.drop 20)
  else drop

/-! ### Packet ring (04 R171) -/

/-- The 32 bytes of a packet ring entry with OWN 0. -/
def packetEntry (lane len flags time dropped : Nat) : List Byte :=
  ([0, 0] : List Byte) ++ leBytes 1 lane ++ [0] ++ leBytes 2 len ++ leBytes 1 flags ++ [0] ++ leBytes 8 time ++ zeros 8 ++
    leBytes 4 dropped ++ zeros 4

/-- A frame without its check sequence goes to the lane's packet ring, or is dropped when the ring takes no entry. -/
def State.toPacketRing (s : State) (l : Nat) (b : List Byte) : State :=
  let x := s.lane l
  let p := x.packetRing / 1024
  let i := x.packetRing % 1024
  let r := s.ring p i
  let va := x.packetArea + 16384 * (r.d % r.size)
  let tr := s.translate p va b.length 0
  if r.live && r.kind = 5 && r.room && (s.port p).canWrite && tr.1.isNone then
    let dst := efld b 0 6
    let flags := b2n (ethTagged b) + 2 * b2n (dst = 2 ^ 48 - 1) + 4 * b2n (dst / 2 ^ 40 % 2 = 1 && dst != 2 ^ 48 - 1)
    ((s.hostPutParts p (splitParts va b tr.2)).setLane l { x with pktDropped := 0 }).writeEntry p i
      (packetEntry l b.length flags s.dt x.pktDropped)
  else (s.setLane l { x with pktDropped := satAdd 32 x.pktDropped 1 }).laneCount l 0x11 1

/-- A frame is received on a lane in Ethernet mode (04 R169). -/
def State.ethernetFrame (s : State) (l : Nat) (f : EthFrame) : State :=
  let x := s.lane l
  let n := f.bytes.length
  let b := f.bytes.take (n - 4)
  if !(x.mode == .ethernet && x.st == .up && x.wickWorks s.ns) || s.mode == .dark || s.mode == .keep then s
  else if n < 64 || 9216 < n || crc32 b != lfld f.bytes (n - 4) 4 then s.laneCount l 0x10 1
  else
    let e := ethBody b
    if e.1 = 0x88F7 then s.ptpReceive (.lane (Fin.ofNat 128 l)) .annexF n e.2 (s.edgeAt f.sub)
    else
      match (if e.1 = 0x0800 then udpOf e.2 else none) with
      | some u =>
        if u.port = 319 || u.port = 320 then s.ptpReceive (.lane (Fin.ofNat 128 l)) .annexE n u.data (s.edgeAt f.sub)
        else if u.dst = x.ipv4 && x.gvspPort ≤ u.port && u.port < x.gvspPort + 4 then
          if u.ok then s.gvspPacket l (u.port - x.gvspPort) u.data else s.laneCount l 0x10 1
        else s.toPacketRing l b
      | none => s.toPacketRing l b

/-- ETHERNET_FRAME (04 R169). -/
def execEthernetFrame (t : Nat) (l : Fin 128) (f : EthFrame) (s : State) : Host.Outcome State Fault Refusal :=
  .next ((s.elapse t).ethernetFrame l f)

/-- GVSP_PACKET: a frame that carries a GVSP packet (04 R169, R170). -/
def execGvspPacket (t : Nat) (l : Fin 128) (f : EthFrame) (s : State) : Host.Outcome State Fault Refusal :=
  .next ((s.elapse t).ethernetFrame l f)

/-! ### Frames sent (04 R172) -/

/-- A frame as it leaves: padded to 60 bytes, with its check sequence. -/
def wireFrame (b : List Byte) : List Byte :=
  let p := b ++ zeros (60 - b.length)
  p ++ leBytes 4 (crc32 p)

/-- A lane in Ethernet mode that can transmit sends what waits, and each command completes (04 R172, R175). -/
def State.flushSends (s : State) (l : Nat) : State :=
  let x := s.lane l
  if x.mode == .ethernet && x.st == .up && x.transmits && s.mode != .dark then
    x.sends.foldl (fun t q => (t.say (.ethernet l (wireFrame q.2.2))).finishWaiting q.1 q.2.1 .success)
      (s.setLane l { x with sends := [] })
  else s

/-- The checks of LANE_PACKET_SEND. -/
def packetSendChecks (c : RingCmd) (s : State) : Checks :=
  let e := c.e
  let x := s.lane (cmdLane e)
  let len := fld e 0xA 2
  { layout := [rsv e 8 1 7 1, bufferChk e 0xC] ++ restRsv e [(8, 1), (0xA, 10)]
    ranges := [(0xA, len < 14 || 9212 < len)]
    owner := ownerStatus x.owner c.p
    handles := s.addrStatus c.p (bufferVa e 0xC) len 0xC
    state := if x.mode == .ethernet then none else some (s.badState x.st.code) }

/-- What an accepted LANE_PACKET_SEND (04 R172) does. -/
def packetSendEffect (c : RingCmd) (s : State) : State × Done :=
  let len := fld c.e 0xA 2
  match readFault c.data len with
  | some st => (s, .status st)
  | none =>
    ((s.freshen).modLane (cmdLane c.e) (fun x =>
      { x with owner := some c.p, sends := x.sends ++ [(ringId c.p c.i, s.fresh, imageBytes c.data len)] }), .waits s.fresh)

/-- LANE_PACKET_SEND: the frame waits for the wire, and the command for the frame (04 R172). A read of the frame that fails
three times ends the command with TRANSFER_FAULT. -/
def execLanePacketSend (t : Nat) (c : RingCmd) (s : State) : Host.Outcome State Fault Refusal :=
  match (s.elapse t).command c 0x32 (packetSendChecks c) (packetSendEffect c) with
  | .next u => .next (u.flushSends (cmdLane c.e))
  | x => x

/-! ### Ethernet bring-up (04 R137, R175) -/

/-- PCS_ALIGNMENT_LOCK: the PCS reports alignment and the lane is UP; its PTP port resumes as master with an Announce, before anything
else that it sends (04 R175). -/
def execPcsAlignmentLock (t : Nat) (l : Fin 128) (s : State) : Host.Outcome State Fault Refusal :=
  let s1 := s.elapse t
  let x := s1.lane l
  if x.mode == .ethernet && (x.st == .waitSignal || x.st == .retrain) && !x.refStopped && s1.mode != .dark then
    let s2 := s1.laneUp l
    .next ((if s2.ptpLive && s2.tb.cfg.role != 1 then s2.sendPtpAnnounce l
      else s2.ptpDueAt (2 * (l.val + 2) + 1) s2.ns).flushSends l)
  else .next s1

/-- PCS_ALIGNMENT_LOSS for 10 µs: cause 5 (04 R138, R175). -/
def execPcsAlignmentLoss (t : Nat) (l : Fin 128) (s : State) : Host.Outcome State Fault Refusal :=
  let s1 := s.elapse t
  let x := s1.lane l
  if x.mode == .ethernet && x.st == .up && s1.mode != .dark then .next (s1.laneDrop l 5) else .next s1

/-- ETHERNET_RETRAIN_TIMEOUT: 500 ms from the drop. -/
def execEthernetRetrainTimeout (t : Nat) (l : Fin 128) (s : State) : Host.Outcome State Fault Refusal :=
  let s1 := s.elapse t
  let x := s1.lane l
  if x.mode == .ethernet && x.st == .retrain && s1.due x.limit then .next (s1.laneTo l .waitSignal) else .next s1

/-! ### Synthesiser (04 R177, R178) -/

/-- RATE_SWITCH: at the announced switch the transmitter stops and the synthesiser relocks. -/
def execRateSwitch (t : Nat) (l : Fin 128) (s : State) : Host.Outcome State Fault Refusal :=
  let s1 := s.elapse t
  let x := s1.lane l
  match x.switch with
  | some (i, r) =>
    if i ≤ s1.ns then .next (s1.setLane l { x with downRate := r, synth := .locking, switch := none }) else .next s1
  | none => .next s1

/-- SYNTHESISER_LOCK: the downlink is ready 20 µs later. -/
def execSynthesiserLock (t : Nat) (l : Fin 128) (s : State) : Host.Outcome State Fault Refusal :=
  let s1 := s.elapse t
  let x := s1.lane l
  match x.synth with
  | .locking => .next (s1.setLane l { x with synth := .locked (s1.ns + 20000) })
  | _ => .next s1

/-- DOWNLINK_READY: what waits is sent. The record is that of a rate change or a forced recalibration (04 R178). -/
def execDownlinkReady (t : Nat) (l : Fin 128) (s : State) : Host.Outcome State Fault Refusal :=
  let s1 := s.elapse t
  let x := s1.lane l
  match x.synth with
  | .locked r =>
    if r ≤ s1.ns then
      .next ((((s1.setLane l { x with synth := .ready, deferred := none }).laneRecord l 3 0x010A 0 0 s1.dt).laneFlush l).flushSends l)
    else .next s1
  | .background d =>
    if d ≤ s1.ns then .next (((s1.setLane l { x with synth := .ready }).laneFlush l).flushSends l) else .next s1
  | _ => .next s1

/-- An instant lies ahead by at most 50 µs, or has been reached and not yet been served. -/
def State.within50us (s : State) (i : Nat) : Bool := i ≤ s.dt256 + 256 * 50000

/-- An accepted fire of a downlink target on the lane has its output instant within 50 µs: one that the lane has not sent yet, one that
is sent ahead of its instant, or one that is held (12 R435). -/
def State.fireSoon (s : State) (l : Nat) : Bool :=
  s.targets.any (fun g =>
    g.2.cfg.kind = 1 && g.2.cfg.lane = l &&
      (g.2.pend.any (fun p => s.dt256 < p.o && s.within50us p.o) ||
        (match g.2.held, g.2.last with
          | some _, some a => s.within50us (a + 64 * g.2.cfg.minInterval + 64 * g.2.cfg.delay)
          | _, _ => false))) ||
  (s.lane l).trigs.any (fun k => s.within50us (k.due - s.targetLd (s.target k.target).cfg))

/-- A running sequencer whose table can fire a downlink target on the lane has a timer or a time slot due, or a position slot of a LOCKED
channel predicted, within 50 µs (12 R435). -/
def State.seqSoon (s : State) (l : Nat) : Bool :=
  s.seqs.any (fun q =>
    let x := q.2
    x.running && x.firesOf.any (fun g => (s.target g).cfg.kind = 1 && (s.target g).cfg.lane = l) &&
      (x.timers.any (fun y => s.within50us y.2.due) ||
        (List.range 8).any (fun k =>
          match (x.slot k).armed with
          | none => false
          | some t =>
            if x.slotPos k then
              let e := s.enc (x.slotEnc k)
              (match e.meets t (x.slotRev k) with
                | some after =>
                  s.within50us (256 * e.tk + after - (if x.slotPre k then s.lead (s.target (x.slotLead k)).cfg else 0))
                | none => false)
            else (match (x.slot k).instant with | some (i, _) => s.within50us i | none => false))))

/-- The Lamplighter has a trigger scheduled on the lane within the next 50 µs (04 R177, 12 R435). -/
def State.trigSoon (s : State) (l : Nat) : Bool := s.fireSoon l || s.seqSoon l

/-- BACKGROUND_RECALIBRATION: it stops downlink packets for 20 µs, or is deferred while a trigger is scheduled within 50 µs. -/
def execBackgroundRecalibration (t : Nat) (l : Fin 128) (s : State) : Host.Outcome State Fault Refusal :=
  let s1 := s.elapse t
  let x := s1.lane l
  if x.synth == .ready && x.mode != .off && s1.mode != .dark then
    if s1.trigSoon l then
      .next (s1.setLane l { x with deferred := match x.deferred with | some d => some d | none => some (s1.ns, 0) })
    else .next (s1.setLane l { x with synth := .background (s1.ns + 20000), deferred := none })
  else .next s1

/-- RECAL_DEFERRED: once each second of deferral. -/
def execRecalDeferred (t : Nat) (l : Fin 128) (s : State) : Host.Outcome State Fault Refusal :=
  let s1 := s.elapse t
  let x := s1.lane l
  match x.deferred with
  | some (since, n) =>
    if since + (n + 1) * 1000000000 ≤ s1.ns then
      .next ((s1.setLane l { x with deferred := some (since, n + 1) }).laneRecord l 2 0x010B 0 0 (n + 1))
    else .next s1
  | none => .next s1

/-! ### LANE_CONFIG (04 R130, R179, R180) -/

/-- The Ethernet fields of a lane as one list. -/
def Lane.ethFields (x : Lane) : List Nat := [x.packetRing, x.mac, x.packetArea, x.ipv4, x.gvspPort]

/-- The Ethernet fields of LANE_CONFIG. -/
def laneEthFields (e : Entry) : List Nat :=
  [bitsAt e 0x10 2 0 12, fld e 0x12 6, bitsAt e 0x18 8 0 45, fld e 0x20 4, fld e 0x24 2]

/-- A Running stream uses a sconce that the lane feeds. -/
def State.laneStream (s : State) (l : Nat) : Option Nat :=
  (tabKeys s.streams (fun x => x.st == .running && (s.sconce x.sconce).configured && (s.sconce x.sconce).lane == l)).head?

/-- The first target that names a lane. -/
def State.laneTarget (s : State) (l : Nat) : Option Nat :=
  (tabKeys s.targets (fun x => x.cfg.kind = 1 && x.cfg.lane = l)).head?

/-- LANE_CONFIG changes nothing but DOWN_RATE, TX_PRESET, SYNC_PERIOD, ASYMMETRY or RECAL_NOW. -/
def State.laneMinor (s : State) (e : Entry) : Bool :=
  let x := s.lane (cmdLane e)
  x.mode.code = bitsAt e 9 1 0 2 && x.upRate = bitsAt e 0xA 1 0 4 && x.ethFields == laneEthFields e

/-- The checks of LANE_CONFIG. DESIGN CHOICE (entry 23): in the VLP modes and Off, MAC, PACKET_AREA, IPV4 and GVSP_PORT are reserved, as
PACKET_RING is by R179; SYNC_PERIOD is free in Off. -/
def laneConfigChecks (c : RingCmd) (s : State) : Checks :=
  let e := c.e
  let l := cmdLane e
  let x := s.lane l
  let mode := bitsAt e 9 1 0 2
  let eth := mode = 3
  let vlp := mode = 1 || mode = 2
  let up := bitsAt e 0xA 1 0 4
  let down := bitsAt e 0xA 1 4 4
  let sync := fld e 0xC 2
  let rid := bitsAt e 0x10 2 0 12
  let r := s.ring (rid / 1024) (rid % 1024)
  let area := bufferVa e 0x18
  let port := fld e 0x24 2
  { layout := [rsv e 8 1 7 1, rsv e 9 1 3 5, enc 0xA (4 < up || 4 < down), rsv e 0xB 1 4 4, rsvIf eth e 0xC 2,
      rsv e 0x10 2 12 4, rsvIf (!eth) e 0x10 2, rsvIf (!eth) e 0x12 6, rsvIf (!eth) e 0x18 8, rsv e 0x18 8 45 19,
      rsvIf (!eth) e 0x20 4, rsvIf (!eth) e 0x24 2] ++ restRsv e [(8, 0x1E)]
    ranges := [(0xA, (vlp && (up = 4 || down = 4)) || (eth && (up != 4 || down != 4))),
      (0xC, vlp && (sync = 0 || 128 < sync)), (0x18, area % 16384 != 0), (0x24, eth && (port = 0 || 65532 < port))]
    rings := if eth then s.ownRing c.p rid 5 0x10 else none
    owner := ownerStatus x.owner c.p
    handles := if eth then s.addrStatus c.p area (16384 * r.size) 0x18 else none
    state :=
      if s.laneTested l then some (s.badState 0x92)
      else if s.laneMinor e then none
      else match s.laneStream l with
        | some n => some (Status.busy n)
        | none => if eth && x.mode != .ethernet then (s.laneTarget l).map Status.busy else none }

/-- LANE_CONFIG accepted. The counters return to 0, and the limit of one LANE_ERRORS in 100 ms goes on (04 R146). -/
def State.laneConfig (s : State) (c : RingCmd) : State :=
  let e := c.e
  let l := cmdLane e
  let minor := s.laneMinor e
  let down := bitsAt e 0xA 1 4 4
  let set := fun (x : Lane) =>
    { x with owner := some c.p, txPreset := bitsAt e 0xB 1 0 4, syncPeriod := fld e 0xC 2, asymmetry := fld e 0xE 2
             counters := [], reports := tabMap x.reports (fun _ r => (0, r.2)) }
  if minor then
    let s1 := s.modLane l set
    let s2 := if (s1.lane l).st == .mismatch then s1.laneTo l .hello else s1
    if (s2.lane l).mode == .off then s2.modLane l (fun x => { x with downRate := down })
    else s2.retune l down (bitAt e 9 2)
  else
    let s1 := if (s.lane l).st == .up then s.truncateLane l else s
    let s2 := (s1.loseRequests l).laneTo l .off
    let y := set (s2.lane l)
    let eth := laneEthFields e
    let z := { y with mode := LaneMode.ofCode (bitsAt e 9 1 0 2), upRate := bitsAt e 0xA 1 0 4, downRate := down
                      packetRing := eth.getD 0 0, mac := eth.getD 1 0, packetArea := eth.getD 2 0, ipv4 := eth.getD 3 0
                      gvspPort := eth.getD 4 0, queue := [], synth := .ready, switch := none, deferred := none, dropAt := none, lost := false
                      syncOpen := [], share := [], shareStart := s.ns, gvsp := [], hunt := false, lastHello := [] }
    let s3 := s2.setLane l z
    if z.mode == .off || z.refStopped then s3 else s3.laneTo l .waitSignal

/-- What an accepted LANE_CONFIG (04 R180) does. -/
def laneConfigEffect (c : RingCmd) (s : State) : State × Done :=
  (s.laneConfig c, .ok)

/-- LANE_CONFIG (04 R180). -/
def execLaneConfig (t : Nat) (c : RingCmd) (s : State) : Host.Outcome State Fault Refusal :=
  (s.elapse t).command c 0x30 (laneConfigChecks c) (laneConfigEffect c)

end Sys2Proof.Machine
end

