-- ==== Sys2Proof/Machine/ReplayOps.lean ====
section
/-!
DEFINITION. A replay session: what it reads from its rings, the snapshot it starts from, its own observers, sequencers and
targets, and its records (16 R564 to R566, R568, R569, R571).
-/

namespace Sys2Proof.Machine

/-! ### The session -/

/-- The capture of target sconce k. -/
def Session.capOf (x : Session) (k : Nat) : Option ReplayCap := x.caps.find? (fun c => c.target == k)

/-- Change the session. -/
def State.modSession (s : State) (f : Session → Session) : State := { s with session := f s.session }

/-- Change the capture of target sconce k. -/
def State.modCap (s : State) (k : Nat) (f : ReplayCap → ReplayCap) : State :=
  s.modSession (fun x => { x with caps := x.caps.map (fun c => if c.target == k then f c else c) })

/-- The target sconces that stand for a recorded sconce. -/
def Session.targetsOf (x : Session) (recorded : Nat) : List Nat := (x.caps.filter (fun c => c.recorded == recorded && c.loaded)).map (·.target)

/-- REPLAY_STATE: 1 started, 2 paused, 3 resumed, 4 ended, with a reason (16 R571). -/
def State.replayState (s : State) (k code reason : Nat) : State :=
  s.record s.session.port 1 3 0x0A04 islandSup k (code + 16 * reason)

/-- A decision of a row of 16 R567 differs from the recorded one: MISMATCHES, and REPLAY_MISMATCH at most once for each sconce and
row in 100 ms, with the decision's recorded instant (16 R568, R571). -/
def State.mismatch (s : State) (k : Option Nat) (row at_ : Nat) : State :=
  let x := s.session
  let key := 8 * k.getD 512 + row
  let last := tabFind x.mismatch key
  let n := (match last with | some q => q.2 | none => 0) + 1
  let free : Bool := match last with | some q => q.1 + 100000000 ≤ s.ns | none => true
  let s1 := s.modSession (fun y => { y with mismatches := y.mismatches + 1
                                            mismatch := tabPut y.mismatch key (if free then (s.ns, 0) else ((last.getD (0, 0)).1, n)) })
  if free then s1.recordAt at_ x.port 1 1 0x0A05 islandSup (k.getD 0) (row + n % 2 ^ 32 * 2 ^ 32) else s1

/-- Sconce k discards the frame its replay leaves open, uncounted; a stream whose stop waited for it ends there (16 R569, 03 R126, R127). -/
def State.replayDiscard (s : State) (k : Nat) : State :=
  match (s.sconce k).openFrame with
  | none => s
  | some f => (tabKeys s.streams (fun x => x.active && x.sconce == k)).foldl (fun t n => t.frameLeft n f.number) (s.discardOpen k)

/-- The session ends: frames open are discarded uncounted, its tables are freed, and a START that waits has found nothing
(16 R569). -/
def State.sessionEnd (s : State) (reason : Nat) : State :=
  let x := s.session
  if x.st == .none then s
  else
    let s1 := ((x.caps.filter (·.loaded)).foldl (fun t c => t.replayDiscard c.target) s).clearStores
    let s2 := match x.startCmd with
      | some q => s1.finishWaiting q.1 q.2 (s1.badState 0x76)
      | none => s1
    let told := if x.st == .adding then s2 else s2.replayState 0 4 reason
    ({ told with session := { Session.reset with mismatches := x.mismatches } }).freeTables

/-! ### The session's own observers, sequencers and targets (16 R567) -/

/-- The session's channels of target sconce k. -/
def Session.channels (x : Session) (k : Nat) : Tab Encoder :=
  (x.encoders.filter (fun q => q.1 / 16 = k)).map (fun q => (q.1 % 16, q.2))

/-- The session's channels of target sconce k become these. -/
def Session.setChannels (x : Session) (k : Nat) (t : Tab Encoder) : Session :=
  { x with encoders := t.foldl (fun a q => tabPut a (16 * k + q.1) q.2) x.encoders }

/-- The machine that re-derives decisions of target sconce k at a recorded instant: the session's channels, sequencers and
targets stand for the live ones, and nothing leaves it but journal records. -/
def State.rederive (s : State) (k at_ : Nat) : State :=
  { s with time := at_ * 2 ^ 32, encoders := s.session.channels k, seqs := s.session.seqs, targets := s.session.targets
           channels := [], flights := [], recorder := Recorder.reset, jn := { s.jn with waiting := [] } }

/-- The session takes back what the re-deriving machine t has made of its channels, sequencers and targets. -/
def State.keepDerived (s : State) (k : Nat) (t : State) : State :=
  s.modSession (fun x => { x.setChannels k t.encoders with seqs := t.seqs, targets := t.targets })

/-- Observer updates of channel e up to a device time in ns, at most n of them. -/
def State.observeTo (s : State) (e to_ : Nat) : Nat → State
  | 0 => s
  | n + 1 =>
    let x := s.enc e
    let tu := (x.tk / 1000 + 1) * 1000
    if x.st != .off && tu ≤ to_ then ((s.obsUpdate e tu).slotsOnUpdate e).observeTo e to_ n else s

/-- The observer of channel e runs up to a device time in ns. -/
def State.observe (s : State) (e to_ : Nat) : State := s.observeTo e to_ (to_ / 1000 + 1 - (s.enc e).tk / 1000)

/-- One captured entry of channel e (16 R558): a count in its counted direction, a Z mark, a decode error, a pair fault, a reading. -/
def State.runEntry (s : State) (q : Nat × Nat × Nat × Nat) : State :=
  let i := q.1
  let e := q.2.1
  let s1 := s.observe e ((i - 1) / 256)
  let x := s1.enc e
  match q.2.2.1 with
  | 0 => s1.countBy e i (!x.cfg.reverse)
  | 1 => s1.countBy e i x.cfg.reverse
  | 2 => s1.zMark e i
  | 3 => s1.forceLost e i 2
  | 4 => s1.forceLost e i 3
  | 6 =>
    let y := { x with discards := 0, readings := (i, q.2.2.2, q.2.2.2) :: x.readings.take 1 }
    (s1.setEnc e ((y.push i q.2.2.2 q.2.2.2).prune s1.dt256)).slotsOnEdge e i
  | _ => s1

/-- The session's channels of target sconce k run over the captured entries up to a recorded instant in ns. -/
def State.replayTo (s : State) (k at_ : Nat) : State :=
  match s.session.capOf k with
  | none => s
  | some c =>
    let now := c.enc.filter (fun q => q.1 ≤ 256 * at_ + 255)
    let t := now.foldl State.runEntry (s.rederive k at_)
    let u := (t.encoders.map (·.1)).foldl (fun w e => w.observe e at_) t
    (s.keepDerived k u).modCap k (fun d => { d with enc := d.enc.filter (fun q => !(q.1 ≤ 256 * at_ + 255)) })

/-- Assembly of target sconce k with the session's positions in place of the live ones. -/
def State.withPositions (s : State) (k : Nat) (f : State → State) : State :=
  { f { s with encoders := s.session.channels k } with encoders := s.encoders }

/-! ### Reading the rings (16 R558, R564, R569) -/

/-- Bytes of an item's body before padding: LENGTH, but a short packet has none (16 R558). -/
def itemLen (l : List Byte) : Nat := if lbits l 0 1 0 4 = 1 && lbits l 1 1 0 6 ≤ 3 then 0 else lfld l 4 4

/-- The items of a block's bytes; n bounds them. -/
def parseItems : Nat → List Byte → List CapItem
  | 0, _ => []
  | n + 1, l =>
    if l.length < 32 then []
    else
      let len := 32 + alignUp 32 (itemLen l)
      { time := lfld l 8 8, seq := lfld l 0x14 4, bytes := l.take len } :: parseItems n (l.drop len)

/-- ITEM of an item. -/
def CapItem.kind (i : CapItem) : Nat := lbits i.bytes 0 1 0 4
/-- The part code of a snapshot item, the kind of an image, or SENSOR. -/
def CapItem.part (i : CapItem) : Nat := lfld i.bytes 3 1
/-- The body of an item. -/
def CapItem.body (i : CapItem) : List Byte := (i.bytes.drop 32).take (itemLen i.bytes)

/-- Entries of an ENCODER item from its body; n bounds them. A reading takes its count from the entry that follows (16 R558). -/
def parseEntries (ch base : Nat) : Nat → List Byte → List (Nat × Nat × Nat × Nat)
  | 0, _ => []
  | n + 1, l =>
    if l.length < 8 then []
    else
      let kind := lfld l 4 1
      let at_ := 256 * base + 64 * lfld l 0 4
      if kind = 6 then (at_, ch, 6, lfld l 8 4) :: parseEntries ch base n (l.drop 16)
      else (at_, ch, kind, 0) :: parseEntries ch base n (l.drop 8)

/-- The encoder entries of items. -/
def entriesIn (l : List CapItem) : List (Nat × Nat × Nat × Nat) :=
  (l.filter (fun i => i.kind == 4)).flatMap (fun i => parseEntries (lbits i.bytes 2 1 0 4) i.time 8192 i.body)

/-- A capture takes items in ITEM_SEQ order; a jump is a gap, and ends it (16 R569). -/
def ReplayCap.take (c : ReplayCap) : List CapItem → ReplayCap
  | [] => c
  | i :: t =>
    if c.ended.isSome then c
    else match c.seq with
      | some n => if i.seq = n then ({ c with items := c.items ++ [i], seq := some ((n + 1) % 2 ^ 32) }).take t else { c with ended := some true }
      | none => ({ c with items := [i], seq := some ((i.seq + 1) % 2 ^ 32) }).take t

/-- Part 0x00 of a snapshot whose boundary is at or after START_TIME. -/
def CapItem.startsAt (i : CapItem) (start : Nat) : Bool := i.kind == 2 && i.part == 0 && start ≤ i.time

/-- Items before the snapshot that the session starts from are passed over (16 R565). -/
def ReplayCap.seek (c : ReplayCap) (start : Nat) : ReplayCap :=
  if c.found then c
  else
    let l := c.items.dropWhile (fun i => !i.startsAt start)
    match l with
    | [] => { c with items := [] }
    | i :: _ => { c with items := l, found := true, start := i.time, enc := entriesIn l }

/-- A capture takes a block's bytes. -/
def ReplayCap.block (c : ReplayCap) (start : Nat) (l : List Byte) : ReplayCap :=
  let items := parseItems (l.length / 32) l
  let d := c.take items
  let new := d.items.drop c.items.length
  ({ d with read := c.read + l.length, enc := if c.found then d.enc ++ entriesIn new else d.enc }).seek start

/-- The journal records of a block's bytes; n bounds them. -/
def parseRecs : Nat → List Byte → List JRec
  | 0, _ => []
  | n + 1, l =>
    if l.length < 32 then []
    else
      { qual := lbits l 0 1 0 7, typ := lfld l 1 1, island := lbits l 2 2 0 10, seq := lfld l 4 4, time := lfld l 8 8
        body := (l.drop 16).take 16 } :: parseRecs n (l.drop 32)

/-- The session takes journal records in order, up to a GAP record or a jump of the record numbers (16 R569). -/
def Session.take (x : Session) : List JRec → Session
  | [] => x
  | r :: t =>
    if x.jEnd.isSome then x
    else
      let num := lfld r.body 0 8
      let jump : Bool := match x.jNum with | some n => r.typ = 0x7F && num != n | none => false
      if r.typ = 0x70 || jump then { x with jEnd := some 2 }
      else
        let next := if r.typ = 0x7F then some (num + 1) else x.jNum.map (· + 1)
        ({ x with recs := x.recs ++ [r], jNum := next }).take t

/-- The layout of a replay ring entry, its CRC, and the transfer of its block (16 R564). -/
def State.replayBlockOk (s : State) (p : Nat) (f : ReplayFetch) (kinds : List Nat) : Bool :=
  let n := fld f.e 4 4
  let a := fld f.e 8 8
  bitsAt f.e 0 1 0 7 = 0 && kinds.contains (fld f.e 1 1) && fld f.e 2 2 = 0 && n % 32 = 0 && 32 ≤ n && n ≤ 2 ^ 24 && a % 32 = 0 &&
    a < 2 ^ 45 && fld f.e 0x14 12 = 0 && (s.addrStatus p a n 8).isNone && f.data.failed.isNone &&
    crc32c (fitTo n f.data.bytes) = fld f.e 0x10 4

/-- One fetch from a replay ring of the session: its block is taken, or the ring is as if empty and REPLAY_STATE says so
(16 R564). -/
def State.replayFetch (s : State) (f : ReplayFetch) : State :=
  let x := s.session
  let p := x.port
  let i := f.ring.val
  let r := s.ring p i
  if x.st == .none || x.st == .adding || !(r.live && r.kind == 7 && r.h != r.dIndex && bitAt f.e 0 7 == r.own r.d && s.canFetch p) then s
  else
    let used := (s.setRing p i { r with d := r.d + 1 }).modPort p (fun y => { y with lastActive := s.ns })
    let bytes := fitTo (fld f.e 4 4) f.data.bytes
    let kind := fld f.e 1 1
    match x.caps.find? (fun c => c.ring == i) with
    | some c =>
      if c.ended.isSome then s
      else if kind = 2 then used.modCap c.target (fun d => { d with ended := some true })
      else if s.replayBlockOk p f [1, 3] then
        used.modCap c.target (fun d =>
          let e := d.block x.startTime bytes
          { e with ended := if kind = 3 && e.ended.isNone then some false else e.ended })
      else s.replayState c.target 2 3
    | none =>
      if i = x.jRing && x.jEnd.isNone then
        if s.replayBlockOk p f [2, 3] then
          used.modSession (fun y =>
            let z := y.take (parseRecs (bytes.length / 32) bytes)
            { z with jEnd := if kind = 3 && z.jEnd.isNone then some 1 else z.jEnd })
        else s.replayState 0 2 3
      else s

/-! ### Loading a snapshot (16 R557, R565) -/

/-- An entry whose operand block at 0x18 is this one. -/
def entryOfBlock (b : List Byte) : Entry := BitVec.ofNat 512 (leVal (zeros 0x18 ++ fitTo 32 b))

/-- The table of the session or of its port with this KIND and IMAGE_CRC. -/
def State.tableByCrc (s : State) (kind crc : Nat) : Option Nat :=
  let ok (t : Table) : Bool := lfld t.image 0 2 = kind && lfld t.image 8 4 = crc
  match tabFind s.session.loaded crc with
  | some i => some i
  | none => ((s.tables.filter (fun t => t.2.owner = some s.session.port && ok t.2)).map (·.1)).head?

/-- A handle is written into a block. -/
def putHandle (b : List Byte) (off h : Nat) : List Byte := b.take off ++ leBytes 4 h ++ b.drop (off + 4)

/-- Group, key, offset in its block, KIND and recorded handle of every table that the groups of part 0x00 name, in block order. -/
def snapTables (body : List Byte) : List (Nat × Nat × Nat × Nat × Nat) :=
  ((List.range 8).map (fun j => (snapGroups.getD j 0, j))).flatMap (fun q =>
    let e := entryOfBlock ((body.drop (0x20 + 32 * q.2)).take 32)
    (groupTables q.1 e).map (fun t => (q.1, t.1, t.2.1 - 0x18, t.2.2, fld e t.2.1 4)))

/-- The parts of the snapshot at the head of a capture's items, and whether they are whole: what follows is no part of it. -/
def ReplayCap.parts (c : ReplayCap) : List CapItem × Bool :=
  let l := c.items.takeWhile (fun i => i.kind == 2 && i.time == c.start)
  (l, l.length < c.items.length || c.ended.isSome)

/-- The Lantern bound to target sconce k at a tap. -/
def State.lanternAtTap (s : State) (k tap : Nat) : Option Nat := (s.boundTo k).find? (fun n => (s.lantern n).tap == tap)

/-- A swap that the host requested of a Lantern takes effect with the load, which is the boundary of the snapshot. -/
def Lantern.loadSwap (x : Lantern) : Lantern :=
  match x.swap with
  | some (_, none, off) => if off then { x with swap := none, st := .bound } else { x with swap := none, st := .active, bank := !x.bank }
  | _ => x

/-- NOT_FOUND at an offset of a snapshot part. -/
def partMissing (off : Nat) : Status := Status.notFound (2 ^ 31 + off)

/-- A table or kernel that the snapshot of a capture names and the port has not loaded (16 R570). -/
def State.snapshotStatus (s : State) (c : ReplayCap) : Option Status :=
  firstSome (c.parts.1.map (fun i =>
    if i.part = 0 then
      let l := snapTables i.body
      firstSome ((List.range l.length).map (fun j =>
        let off := 0x120 + 8 * j
        if (s.tableByCrc (lfld i.body off 2) (lfld i.body (off + 4) 4)).isSome then none else some (partMissing off)))
    else if 0x10 ≤ i.part && i.part < 0x14 then
      let crc := lfld i.body 8 4
      match s.lanternAtTap c.target (i.part - 0x10) with
      | some n => if crc = 0 || kernelCrc (s.lantern n).loadSwap.kernel = crc then none else some (partMissing 8)
      | none => some (partMissing 8)
    else none))

/-- Part 0x00: frame number, groups with the port's handles, tables, pending sets (16 R557). -/
def State.loadParams (s : State) (k : Nat) (body : List Byte) : State :=
  let l := snapTables body
  let named := (List.range l.length).map (fun j =>
    let q := l.getD j (0, 0, 0, 0, 0)
    let crc := lfld body (0x120 + 8 * j + 4) 4
    (q, crc, s.tableByCrc (lfld body (0x120 + 8 * j) 2) crc))
  let handle (i : Nat) : Nat := match s.table i with | some t => t.handle | none => 0
  let par := (List.range 8).map (fun j =>
    let g := snapGroups.getD j 0
    let raw := (body.drop (0x20 + 32 * j)).take 32
    (g, (named.filter (fun q => q.1.1 = g)).foldl (fun b q =>
      match q.2.2 with | some i => putHandle b q.1.2.2.1 (handle i) | none => b) raw))
  let ids : Tab Nat := named.foldl (fun t q => match q.2.2 with | some i => tabPut t q.1.2.1 i | none => t) []
  let images := named.map (fun q => (1, q.1.2.2.2.2, q.2.1))
  let sets := (List.range ((body.length - 0x200) / 64)).map (fun j =>
    let b := body.drop (0x200 + 64 * j)
    let g := lfld b 0 1
    let data := (b.drop 0x20).take 32
    let p : PendingSet :=
      { group := g, data := data, ids := [], c := 0, at_ := if lbits b 1 1 0 1 = 1 then some (lfld b 8 8) else none, commitSeq := lfld b 4 4 }
    (k, p))
  ((s.discardOpen k).modSconce k (fun x =>
    { x with next := lfld body 0 8, par := par, ids := ids, sets := [], line := none, late := false, expected := none, cam := none
             exposure := none, boundary := none, fires := [] })).modSession (fun x =>
      { x with images := images ++ x.images, sets := x.sets.filter (fun q => q.1 != k) ++ sets })

/-- The interrupt controller of part 0x10 + tap, in the layout of 08 R308. -/
def Lantern.loadIrq (x : Lantern) (b : List Byte) (now : Nat) : Lantern :=
  let counts : Tab Nat := ((List.range 64).map (fun j => (j, lfld b (0x80 + j) 1))).filter (fun q => q.2 != 0)
  let pins : Tab Nat := ((List.range 16).map (fun j => (j, lfld b (0xC0 + 4 * j) 4))).filter (fun q => q.2 != 0)
  ({ x with irqPending := lfld b 8 8, irqMask := lfld b 0x18 8, irqClass := lfld b 0x28 8, irqActive := lfld b 0x30 8
            irqHoldoff := lfld b 0x48 2, irqThreshold := lbits b 0x4A 2 0 7, irqCount := counts, pinConfig := pins
            holdoffDone := false }).timeEarliest now

/-- Part 0x10 + tap: the registers that outlast routines and the controller; the Lantern at the tap stands for the recorded one. -/
def State.loadLantern (s : State) (k tap : Nat) (b : List Byte) : State :=
  match s.lanternAtTap k tap with
  | none => s
  | some n =>
    let x := (s.lantern n).loadSwap.dropWork
    let sr := [(9, 0x10), (0xA, 0x14), (0xB, 0x18)].foldl (fun (t : Tab Nat) q => tabPut t q.1 (lfld b q.2 4)) x.sr
    let shadow : Tab Nat := (List.range 16).map (fun j => (16 + j, lfld b (0x40 + 4 * j) 4))
    (s.setLantern n ({ x with sr := sr, shadow := shadow }.loadIrq (b.drop 0x100) s.ns)).modSession (fun y =>
      { y with lanterns := tabPut y.lanterns (lbits b 0 1 0 6) n })

/-- A memory of bytes in the canonical form, from address a on. -/
def memOf (a : Nat) : List Byte → List Host.Cell
  | [] => []
  | v :: t => if v = 0 then memOf (a + 1) t else (a, v) :: memOf (a + 1) t

/-- Part 0x20 + tap: the local store. -/
def State.loadStore (s : State) (k tap : Nat) (b : List Byte) : State :=
  match s.lanternAtTap k tap with
  | some n => s.modLantern n (fun x => { x with store := memOf 0 (b.take 0x200000) })
  | none => s

/-- Part 0x30 + channel: the seed of a re-derived observer, with the channel's configuration of this device. -/
def State.loadSeed (s : State) (k e at_ : Nat) (b : List Byte) : State :=
  let c := (s.enc e).cfg
  let lv := lfld b 0x14 1
  let raw := lfld b 0x10 4
  let g := c.gains
  let on := c.obsEn && c.mode != 0
  let x : Encoder := { Encoder.reset with
    cfg := c, count := raw, base := raw, a := nbit lv 0, b := nbit lv 1, z := nbit lv 2, st := if on then .locked else .off
    p := lfld b 0 7, v := toInt 32 (lfld b 8 4), tk := at_ / 10000 * 10000, k1 := g.1, k2 := g.2, zArmed := c.zMode = 2 }
  s.modSession (fun y => { y with encoders := tabPut y.encoders (16 * k + e) (x.note (256 * x.tk)) })

/-- The targets of part 0x40 with their match queues: headers of 32 bytes, told from the fires by their first word. n bounds them. -/
def State.loadTargets (s : State) (k : Nat) : Nat → Nat → List Byte → State
  | 0, _, _ => s
  | n + 1, g, b =>
    if b.length < 8 then s
    else if lfld b 0 8 < 256 && 32 ≤ b.length then
      let h := lfld b 0 1
      let last := lfld b 8 8
      let held := lfld b 0x10 8
      let live := s.target h
      let free := 256 * last + 64 * live.cfg.minInterval
      let x : Target := { live with
        last := if last = 0 then none else some (256 * last), pend := [], pulse := none, handover := none
        held := if held = 0 then none else some (⟨256 * held, 0, live.cfg.width, 2 ^ 14, 0⟩, free) }
      ((s.modSession (fun y => { y with targets := tabPut y.targets h x })).modCap k (fun c => { c with targets := c.targets ++ [h] })).loadTargets
        k n h (b.drop 32)
    else
      let c := (s.target g).cfg
      let q : QueuedFire := { target := g, seq := 0, fire := 256 * lfld b 0 8, window := 64 * c.window, line := c.lineMatch, pos := none, flags := 0, fireId := s.fresh }
      ((s.freshen).modSconce k (fun x => { x with fires := x.fires ++ [q] })).loadTargets k n g (b.drop 8)

/-- One part of a snapshot is loaded into target sconce k. -/
def State.loadPart (s : State) (k : Nat) (i : CapItem) : State :=
  let p := i.part
  let b := i.body
  if p = 0 then s.loadParams k b
  else if 0x10 ≤ p && p < 0x14 then s.loadLantern k (p - 0x10) b
  else if 0x20 ≤ p && p < 0x24 then s.loadStore k (p - 0x20) b
  else if 0x30 ≤ p && p < 0x40 then s.loadSeed k (p - 0x30) i.time b
  else if p = 0x40 then s.loadTargets k (b.length / 8) 0 b
  else s

/-- The snapshot of a capture is loaded. -/
def State.loadSnapshot (s : State) (c : ReplayCap) : State :=
  (c.parts.1.foldl (fun t i => t.loadPart c.target i) s).modCap c.target (fun d =>
    { d with items := d.items.drop c.parts.1.length, loaded := true })

/-- START's end: every snapshot is loaded, or one cannot be found (16 R565, R570). -/
def State.replayLoad (s : State) : State :=
  let x := s.session
  let fail (st : Status) : State :=
    let s1 := s.modSession (fun y =>
      { y with st := .adding, startCmd := none, caps := y.caps.map (fun c => { c with items := [], enc := [], found := false, seq := none, read := 0, ended := none })
               recs := [], jEnd := none, jNum := none })
    match x.startCmd with
    | some q => s1.finishWaiting q.1 q.2 st
    | none => s1
  if x.st != .loading then s
  else if x.caps.any (fun c => !c.found && (c.ended.isSome || 64 * 2 ^ 30 ≤ c.read)) then fail (s.badState 0x76)
  else if !x.caps.all (fun c => c.found && c.parts.2) then s
  else match firstSome (x.caps.map s.snapshotStatus) with
    | some st => fail st
    | none =>
      let s1 := x.caps.foldl (fun t c => t.loadSnapshot c) s
      let s0 := minD ((x.caps.map (·.start)).headD x.startTime) (x.caps.map (·.start))
      let seqs := tabMap s.seqs (fun _ q => { q with slots := [], timers := [], haps := [] })
      let s2 := s1.modSession (fun y => { y with st := .running, s0 := s0, startCmd := none, seqs := seqs, groups := s.groups })
      let s3 := match x.startCmd with
        | some q => s2.finishWaiting q.1 q.2 .success
        | none => s2
      s3.replayState 0 1 0

end Sys2Proof.Machine
end

