-- ==== Sys2Proof/Machine/Replay.lean ====
section
/-!
DEFINITION. REPLAY_CONTROL, the decisions that a replay session takes from its journal with their checks, and the presentation of
its items (16 R565 to R570).
-/

namespace Sys2Proof.Machine

/-! ### Decisions from the journal (16 R567, R568) -/

/-- Add parameter sets or swaps of a recorded command, and follow its changes of encoders and targets (16 R546, R567). -/
def State.recordedCommand (s : State) (seq at_ : Nat) (bytes : List Byte) : State :=
  let e : Entry := BitVec.ofNat 512 (leVal bytes)
  let x := s.session
  let late : Bool := x.s0 ≤ at_
  match fld e 0 1 with
  | 0x23 =>
    let p : PendingSet := { group := fld e 0xA 1, data := blockOf e, ids := [], c := at_
                            at_ := if bitAt e 0xB 0 then some (fld e 0x10 8) else none, commitSeq := seq }
    s.modSession (fun y => { y with
      sets := y.sets.filter (fun q => q.2.commitSeq != seq) ++ (y.targetsOf (cmdSconce e)).map (fun k => (k, p)) })
  | 0x29 =>
    match tabFind x.lanterns (cmdLantern e) with
    | some n => s.modSession (fun y => { y with
        swaps := y.swaps ++ [{ lantern := n, c := at_, at_ := if bitAt e 9 1 then some (fld e 0x10 8) else none, off := bitAt e 9 0, commitSeq := seq }] })
    | none => s
  | 0x39 =>
    if late && bitsAt e 8 1 0 3 = 0 then
      ((x.encoders.filter (fun q => q.1 % 16 = encCh e)).map (fun q => q.1 / 16)).foldl (fun t k =>
        let u := t.replayTo k at_
        u.keepDerived k ((u.rederive k at_).encConfigure x.port (encCh e) (encCfgOf e))) s
    else s
  | 0x3B =>
    let g := fld e 8 1
    match tabFind x.targets g with
    | some t => if late then s.modSession (fun y => { y with targets := tabPut y.targets g { t with cfg := targetOf e } }) else s
    | none => s
  | 0x3D =>
    let g := fld e 8 1
    match tabFind x.targets g with
    | some t =>
      if late then s.modSession (fun y => { y with targets := tabPut y.targets g { t with handover := some (fld e 0x10 8, bitsAt e 9 1 0 2) } }) else s
    | none => s
  | _ => s

/-- A set with the tables it names: those of the session or of its port with the recorded IMAGE_CRCs. -/
def State.resolveSet (s : State) (p : PendingSet) : PendingSet :=
  let e := entryOfBlock p.data
  let named := (groupTables p.group e).map (fun q =>
    let crc := (s.session.images.find? (fun i => i.1 = 1 && i.2.1 = fld e q.2.1 4)).map (fun i => i.2.2)
    (q.1, q.2.1 - 0x18, crc.bind (s.tableByCrc q.2.2)))
  let handle (i : Nat) : Nat := match s.table i with | some t => t.handle | none => 0
  { p with
    c := 0, at_ := none
    ids := named.filterMap (fun q => q.2.2.map (fun i => (q.1, i)))
    data := named.foldl (fun b q => match q.2.2 with | some i => putHandle b q.2.1 (handle i) | none => b) p.data }

/-- A boundary b of frame m would take a change committed at c with FRAME_AT at_ (05 R212, 08 R297). -/
def duelyApplied (c : Nat) (at_ : Option Nat) (b m : Nat) : Bool := c < b && (match at_ with | some q => q ≤ m | none => true)

/-- APPLY: the recorded set or swap is the one that the boundary it names takes. -/
def State.passApply (s : State) (r : JRec) : State :=
  let x := s.session
  let who := lfld r.body 2 1
  let seq := lfld r.body 4 4
  let m := lfld r.body 8 8
  let late : Bool := x.s0 ≤ r.time
  match r.qual % 4 with
  | 0 =>
    (x.targetsOf (lbits r.body 0 2 0 9)).foldl (fun t k =>
      match x.sets.find? (fun q => q.1 = k && q.2.commitSeq = seq && q.2.group = who) with
      | none => if late then t.mismatch (some k) 2 r.time else t
      | some q =>
        let t1 := t.modSession (fun y => { y with sets := y.sets.erase q })
        if !late then t1
        else
          let t2 := if duelyApplied q.2.c q.2.at_ r.time m then t1 else t1.mismatch (some k) 2 r.time
          t2.modSconce k (fun z => { z with sets := z.sets ++ [t2.resolveSet q.2] })) s
  | 1 =>
    match tabFind x.lanterns who with
    | none => s
    | some n =>
      let k := (s.lantern n).sconce
      match x.swaps.find? (fun q => q.lantern = n && q.commitSeq = seq) with
      | none =>
        if late then (s.mismatch (some k) 2 r.time).modLantern n (fun z => { z with swap := some (0, none, false), swapSeq := seq }) else s
      | some q =>
        let t := s.modSession (fun y => { y with swaps := y.swaps.erase q })
        if !late then t
        else
          let t1 := if duelyApplied q.c q.at_ r.time m then t else t.mismatch (some k) 2 r.time
          t1.modLantern n (fun z => { z with swap := some (0, none, q.off), swapSeq := seq })
  | _ => s

/-- The instant at which the open line or frame of sconce k would time out (05 R203). -/
def State.timeoutAt (s : State) (k : Nat) (frame : Bool) : Option Nat :=
  let x := s.sconce k
  if frame then
    match x.openFrame with
    | some f => let w := abFrameTimeout (f.grp 1); if w = 0 then none else some (f.lastStamp + w)
    | none => none
  else
    match x.line with
    | some o => let w := abLineTimeout x.asm; if w = 0 then none else some (o.lastStamp + w)
    | none => none

/-- FRAME_CLOSE: the open line or frame closes at the recorded instant. -/
def State.passClose (s : State) (r : JRec) : State :=
  let why := r.qual % 4
  (s.session.targetsOf (lbits r.body 0 2 0 9)).foldl (fun t k =>
    let t1 := t.replayTo k r.time
    let open_ : Bool := match (t1.sconce k).openFrame with | some f => f.number = lfld r.body 8 8 | none => false
    let same : Bool := open_ && (why = 3 || t1.timeoutAt k (why = 2) == some r.time)
    let t2 := if same then t1 else t1.mismatch (some k) 1 r.time
    t2.withPositions k (fun u =>
      (match why with
       | 1 => ((u.journalClose 1 k r.time).flagOpen k flMissingEnd).closeLine k r.time false
       | 2 => (u.journalClose 2 k r.time).closeFrame k r.time true
       | _ => u.truncate k r.time).sconceMoves k)) s

/-- The target sconces whose captures hold channel e. -/
def Session.holders (x : Session) (e : Nat) : List Nat := (x.encoders.filter (fun q => q.1 % 16 = e)).map (fun q => q.1 / 16)

/-- Channel e of target sconce k as the session holds it. -/
def Session.channel (x : Session) (k e : Nat) : Encoder := tabGet Encoder.reset x.encoders (16 * k + e)

/-- State of an observer by its code (11 R401). -/
def ObsState.ofCode : Nat → ObsState
  | 0 => .off | 1 => .acquiring | 2 => .locked | _ => .lost

/-- OBSERVER and OBSERVER_EVENT: P, V, count and state are as re-derived; otherwise the recorded ones stand. -/
def State.passObserver (s : State) (r : JRec) : State :=
  let e := r.qual % 16
  (s.session.holders e).foldl (fun t k =>
    let t1 := t.replayTo k r.time
    let x := t1.session.channel k e
    let st := ObsState.ofCode (r.qual / 16 % 4)
    let p := lfld r.body 0 7
    let v := toInt 32 (lfld r.body 8 4)
    if x.p = p && x.v = v && x.rawAt (256 * r.time) = lfld r.body 0xC 4 && x.st == st then t1
    else
      let y := ({ x with p := p, v := v, st := st, tk := if r.typ = 0x20 then r.time else x.tk }).note (256 * r.time)
      (t1.mismatch (some k) 3 r.time).modSession (fun z => { z with encoders := tabPut z.encoders (16 * k + e) y })) s

/-- COUNT_JUMP: SET_COUNT is carried out; a jump at a Z mark is as re-derived. -/
def State.passJump (s : State) (r : JRec) : State :=
  let e := r.qual % 16
  let new := lfld r.body 4 4
  (s.session.holders e).foldl (fun t k =>
    let t1 := t.replayTo k r.time
    let set := r.qual / 16 % 2 = 1
    if !set && (t1.session.channel k e).rawAt (256 * r.time + 255) = new then t1
    else
      let t2 := if set then t1 else t1.mismatch (some k) 3 r.time
      t2.keepDerived k ((t2.rederive k r.time).encJump e (256 * r.time) new (b2n set))) s

/-- A sequencer as the session holds it. -/
def Session.seqr (x : Session) (q : Nat) : Sequencer := tabGet Sequencer.reset x.seqs q

/-- Put slot k of a sequencer of the session. -/
def Session.setSlot (x : Session) (q k : Nat) (y : SeqSlot) : Session :=
  let z := x.seqr q
  { x with seqs := tabPut x.seqs q { z with slots := tabPut z.slots k y } }

/-- ARM: the slot is armed for re-derivation, when this device holds the sequencer's image and the capture the slot's channel. -/
def State.passArm (s : State) (r : JRec) : State :=
  let x := s.session
  let q := lbits r.body 0 1 0 5
  let k := r.qual % 8
  let z := x.seqr q
  let pos := lbits r.body 1 1 0 1 = 1
  let frac := lfld r.body 2 1
  if z.image.isEmpty || z.slotPos k != pos then s
  else if pos then
    match x.holders (z.slotEnc k) with
    | [] => s
    | h :: _ =>
      let t := s.replayTo h r.time
      match armPosition (t.session.channel h (z.slotEnc k)) (256 * lfld r.body 8 4 + frac) (256 * r.time) (z.slotRev k) with
      | some y => t.modSession (fun w => w.setSlot q k y)
      | none => t
  else
    match armTime ((256 * lfld r.body 8 8 + frac : Nat) : Int) (256 * r.time) with
    | some y => s.modSession (fun w => w.setSlot q k y)
    | none => s

/-- Code of a service of COMPARE_FIRE (16 R546). -/
def serviceCode (pos : Bool) : FireHow → Nat
  | .onTime => if pos then 1 else 0
  | .raw => 2
  | .late => 3
  | .short => 4

/-- COMPARE_FIRE: the slot fires when and as re-derived. The ARM record names no fraction of the arming stamp, so a late firing is
compared in whole ns. -/
def State.passCompare (s : State) (r : JRec) : State :=
  let q := lbits r.body 0 1 0 5
  let k := r.qual % 8
  let z := s.session.seqr q
  let pos := z.slotPos k
  let t := match (if pos then s.session.holders (z.slotEnc k) else []) with
    | h :: _ => s.replayTo h r.time
    | [] => s
  let y := (t.session.seqr q).slot k
  let code := lfld r.body 1 1
  let same : Bool := match y.instant with
    | some (i, how) => serviceCode pos how = code && (if code = 3 then i / 256 = r.time else i = 256 * r.time + lfld r.body 2 1)
    | none => false
  let t1 := if y.armed.isSome && !same then t.mismatch none 4 r.time else t
  t1.modSession (fun w => { w.setSlot q k { y with armed := none, fire := none, raw := none } with position := code = 1 || code = 2 || code = 4 || pos })

/-- Outcome and acceptance instant of the FIRE record that a re-derivation made. -/
def firstFire (l : List JRec) : Option (Nat × Nat) := (l.find? (fun r => r.typ = 0x33)).map (fun r => (r.qual, lfld r.body 8 8))

/-- A fire of a target is decided anew: a held one is accepted at its instant, any other by 12 R433 and R441. -/
def State.redecide (s : State) (g f flags : Nat) : State :=
  let x := s.target g
  let width := if nbit flags 13 then 0 else x.cfg.minWidth
  match x.held with
  | some (q, i) =>
    if i / 256 = f / 256 then (s.setTarget g { x with held := none }).acceptFire g q.id i width q.flags
    else s.decideFire g 0 f width (flags &&& 2 ^ 11) s.session.position
  | none => s.decideFire g 0 f width (flags &&& 2 ^ 11) s.session.position

/-- A fire joins the queue of 16 of target sconce k (12 R436). -/
def State.replayQueue (s : State) (k g f flags : Nat) : State :=
  let c := (s.target g).cfg
  let t := s.replayTo k (f / 256)
  let pos := ({ t with encoders := t.session.channels k } : State).allPos f
  let q : QueuedFire := { target := g, seq := 0, fire := f, window := 64 * c.window, line := c.lineMatch, pos := some pos, flags := flags, fireId := s.fresh }
  (t.freshen).modSconce k (fun x => { x with fires := (if 16 ≤ x.fires.length then x.fires.tail else x.fires) ++ [q] })

/-- FIRE: the recorded outcome stands; its target's sconces match the fire (12 R436). -/
def State.passFire (s : State) (r : JRec) : State :=
  let x := s.session
  let g := lfld r.body 0 1
  let flags := lbits r.body 1 1 0 5 * 1024
  let f := 256 * r.time
  let code := r.qual % 8
  let accepted := lfld r.body 8 8
  let ks := (x.caps.filter (fun c => c.loaded && c.targets.contains g)).map (·.target)
  match ks with
  | [] => s
  | k :: _ =>
    let t := (s.rederive k r.time).redecide g f flags
    let same : Bool := code = 5 || firstFire t.jn.waiting == some (code, accepted)
    let y := tabGet Target.reset x.targets g
    let recorded : Target :=
      if code = 0 then { y with last := some f, held := none }
      else if code = 1 then { y with held := some (⟨f, 0, y.cfg.width, flags, 0⟩, 256 * accepted) } else y
    let s1 := if code = 5 then s
      else if same then s.modSession (fun z => { z with targets := t.targets })
      else (s.mismatch (some k) 5 r.time).modSession (fun z => { z with targets := tabPut z.targets g recorded })
    if code = 0 then ks.foldl (fun u j => u.replayQueue j g f flags) s1 else s1

/-- FABRIC: the event is gated as the group's re-derived state says, and stands 10 ns or more after the one before it (13 R450,
R457, R458). -/
def State.passFabric (s : State) (r : JRec) : State :=
  let x := s.session
  let n := lfld r.body 0 1
  let c := s.channel n
  let i := 256 * r.time
  let code := lfld r.body 2 1
  let groups : State := { s with groups := x.groups, flights := [] }
  let gated : Bool := c.group != 0 && !groups.groupAt (c.group - 1) i
  let close : Bool := match tabFind x.events n with | some l => l != r.time && r.time < l + 10 | none => false
  let s1 := if c.owner != 7 && (gated != (code = 3) || close) then s.mismatch none 6 r.time else s
  let k := c.slot (r.qual % 8)
  let moved := if code = 0 && lfld r.body 1 1 = 5 && k.kind = 5 then (groups.switchGroup k.index (i + consumerTerm 5) k.arg).groups else x.groups
  s1.modSession (fun y => { y with events := tabPut y.events n r.time, groups := moved })

/-- A journal record is passed. -/
def State.passRec (s : State) (r : JRec) : State :=
  let late : Bool := s.session.s0 ≤ r.time
  match r.typ with
  | 0x01 => s.modSession (fun x => { x with cmd := if lfld r.body 6 2 = 0 then some (r.seq, r.time, []) else none })
  | 0x02 =>
    match s.session.cmd with
    | none => s
    | some (n, at_, l) =>
      let l' := l ++ r.body
      if 64 ≤ l'.length then (s.modSession (fun x => { x with cmd := none })).recordedCommand n at_ l'
      else s.modSession (fun x => { x with cmd := some (n, at_, l') })
  | 0x04 => s.modSession (fun x => { x with images := (r.qual % 4, lfld r.body 0 4, lfld r.body 8 4) :: x.images })
  | 0x05 => s.passApply r
  | 0x06 => if late then s.passClose r else s
  | 0x10 => s.modSession (fun x => { x with servo := some (r.qual % 8) })
  | 0x20 => if late then s.passObserver r else s
  | 0x21 => if late then s.passObserver r else s
  | 0x22 => if late then s.passJump r else s
  | 0x30 => if late then s.passArm r else s
  | 0x31 => if late then s.passCompare r else s
  | 0x33 => if late then s.passFire r else s
  | 0x41 => if late then s.passFabric r else s
  | 0x51 => if late then s.modSession (fun x => { x with kept := x.kept ++ [r] }) else s
  | 0x52 => if late then s.modSession (fun x => { x with kept := x.kept ++ [r] }) else s
  | _ => s

/-- Records up to a recorded instant are passed, in order. -/
def State.passTo (s : State) (at_ : Nat) : State :=
  let l := s.session.recs.takeWhile (fun r => r.time ≤ at_)
  l.foldl State.passRec (s.modSession (fun x => { x with recs := x.recs.drop l.length }))

/-! ### Items (16 R565 to R568) -/

/-- A timeout that the journal does not hold: the frame goes on as recorded (16 R567, R568). -/
def State.missedTimeout (s : State) (k at_ : Nat) : State :=
  match firstSome [s.timeoutAt k false, s.timeoutAt k true] with
  | some i => if i < at_ then s.mismatch (some k) 1 i else s
  | none => s

/-- Sets that a frame that has just opened would take and the journal does not apply. -/
def State.missedSets (s : State) (k : Nat) (f : Frame) : State :=
  if s.session.sets.any (fun q => q.1 = k && duelyApplied q.2.c q.2.at_ f.b f.number) then s.mismatch (some k) 2 f.b else s

/-- A captured packet reaches target sconce k (16 R567). -/
def State.presentPacket (s : State) (k : Nat) (i : CapItem) : State :=
  let b := i.bytes
  let pkt : AsmPkt := { sensor := i.part, vc := lbits b 2 1 0 4, dt := lbits b 1 1 0 6, wc := lfld b 4 4, payload := i.body, stamp := i.time }
  let s1 := (s.replayTo k i.time).missedTimeout k i.time
  match (s1.entriesOf (s1.sconce k).lane).find? (fun e => feMatches e pkt.sensor pkt.vc pkt.dt) with
  | none => s1.asmCount k 1 1
  | some e =>
    let before := (s1.sconce k).next + b2n (s1.sconce k).openFrame.isSome
    let s2 := s1.withPositions k (fun t => t.routeTo k e pkt)
    ((s2.sconce k).frames.filter (fun f => before ≤ f.number)).foldl (fun t f => t.missedSets k f) s2

/-- A captured image is loaded: a table under a handle that the session keeps, a kernel into the inactive bank of the Lantern that
stands for the recorded one, a sequencer's for its slots (16 R565). -/
def State.presentImage (s : State) (i : CapItem) : State :=
  let image := i.body
  let crc := lfld image 8 4
  let who := (s.session.images.find? (fun q => q.1 = i.part && q.2.2 = crc)).map (fun q => q.2.1)
  match i.part with
  | 1 =>
    if (tabFind s.session.loaded crc).isSome then s
    else
      let n := s.tableNumber
      ({ s with tables := tabPut s.tables n { owner := none, handle := 0, image := image } }).modSession (fun x =>
        { x with loaded := tabPut x.loaded crc n })
  | 2 =>
    match who.bind (tabFind s.session.lanterns) with
    | some n => s.modLantern n (fun x => x.loadKernel (kernelOf image))
    | none => s
  | 3 =>
    match who with
    | some q => s.modSession (fun x => { x with seqs := tabPut x.seqs q { Sequencer.reset with image := image } })
    | none => s
  | _ => s

/-- The first item of the capture of target sconce k is presented. -/
def State.present (s : State) (k : Nat) : State :=
  match s.session.capOf k with
  | none => s
  | some c => match c.items with
    | [] => s
    | i :: _ =>
      let s1 := s.modCap k (fun d => { d with items := d.items.tail })
      if i.kind = 1 then s1.presentPacket k i else if i.kind = 3 then s1.presentImage i else s1

/-- A capture still has something to present. -/
def ReplayCap.open_ (c : ReplayCap) : Bool := c.loaded && (c.ended.isNone || !c.items.isEmpty)

/-- The target sconce whose next item has the lowest stamp. -/
def Session.nextItem (x : Session) : Option (Nat × Nat) :=
  ((x.caps.filter (·.open_)).filterMap (fun c => c.items.head?.map (fun i => (c.target, i.time)))).foldl (fun best q =>
    match best with
    | none => some q
    | some b => if q.2 < b.2 then some q else some b) none

/-- A ring holds no entry for what comes next (16 R566). -/
def Session.starves (x : Session) : Bool :=
  x.caps.any (fun c => c.open_ && c.items.isEmpty) || (x.recs.isEmpty && x.jEnd.isNone)

/-- Captures whose part of the session a gap has ended say so once their items are presented (16 R569). -/
def State.endGaps (s : State) : State :=
  (s.session.caps.filter (fun c => c.loaded && c.ended == some true && c.items.isEmpty)).foldl (fun t c =>
    ((t.replayDiscard c.target).modCap c.target (fun d => { d with loaded := false })).replayState c.target 4 4) s

/-- A running session goes on by one item: it ends, starves, or presents what is due (16 R566, R569). -/
def State.replayStep (s0 : State) : State :=
  let s := s0.endGaps
  let x := s.session
  if x.st != .running then s
  else if !x.caps.any (·.open_) then s.sessionEnd (if x.caps.any (·.loaded) || x.caps.isEmpty then 1 else 4)
  else if x.starves then (s.modSession (fun y => { y with st := .starved, pausedAt := s.ns })).replayState 0 2 0
  else match x.nextItem with
    | none => s
    | some q =>
      if x.r0 + (q.2 - x.s0) * x.speed ≤ s.ns then
        let t := s.passTo q.2
        match t.session.recs, t.session.jEnd with
        | [], some why => t.sessionEnd why
        | [], none => (t.modSession (fun y => { y with st := .starved, pausedAt := t.ns })).replayState 0 2 0
        | _ :: _, _ => t.present q.1
      else s

/-- A session that starved goes on once every ring holds entries again, with R0 advanced (16 R566). -/
def State.replayResume (s : State) : State :=
  let x := s.session
  if x.st == .starved && !x.starves then
    (s.modSession (fun y => { y with st := .running, r0 := y.r0 + (s.ns - y.pausedAt) })).replayState 0 3 0
  else s

/-- REPLAY_ITEM_PRESENT: the rings are read on, and the item that is due is presented. -/
def execReplayItemPresent (t : Nat) (f : List ReplayFetch) (s : State) : Host.Outcome State Fault Refusal :=
  let s1 := f.foldl State.replayFetch (s.elapse t)
  .next (if s1.mode == .replay then s1.replayResume.replayStep else s1)

/-! ### REPLAY_CONTROL (16 R570) -/

/-- The session of another port. -/
def State.sessionOwner (s : State) (p : Nat) : Option Status :=
  if s.session.st != .none && s.session.port != p then some (Status.notOwner s.session.port) else none

/-- The layout that every REPLAY_CONTROL has. -/
def replayHead (e : Entry) (fields : List (Nat × Nat)) : List Chk :=
  [rsv e 8 1 3 5] ++ restRsv e ((8, 1) :: fields)

/-- The checks of REPLAY_ADD. -/
def replayAddChecks (c : RingCmd) (s : State) : Checks :=
  let e := c.e
  let k := bitsAt e 0xC 2 0 9
  let ring := bitsAt e 0xE 2 0 10
  { layout := [rsv e 0xA 2 9 7, rsv e 0xC 2 9 7, rsv e 0xE 2 10 6] ++ replayHead e [(0xA, 6)]
    rings := s.ownRing c.p (ringId c.p ring) 7 0xE
    owner := firstSome [ownerStatus (s.sconce k).owner c.p, s.sessionOwner c.p]
    state := if 16 ≤ s.session.caps.length || (s.session.capOf k).isSome then some (s.badState 0x75)
      else if !(s.sconce k).configured then some (s.badState 0xD) else none }

/-- What an accepted REPLAY_ADD does. -/
def replayAddEffect (c : RingCmd) (s : State) : State × Done :=
  let e := c.e
  let k := bitsAt e 0xC 2 0 9
  let ring := bitsAt e 0xE 2 0 10
  let new : ReplayCap := { recorded := bitsAt e 0xA 2 0 9, target := k, ring := ring, found := false, loaded := false, items := [], enc := []
                           read := 0, seq := none, ended := none, start := 0, targets := [] }
  (s.modSession (fun x => { x with st := if x.st == .none then .adding else x.st, port := c.p, caps := x.caps ++ [new] }), .ok)

/-- REPLAY_ADD: a recorded sconce is mapped to a target sconce and a ring. -/
def execReplayAdd (t : Nat) (c : RingCmd) (s : State) : Host.Outcome State Fault Refusal :=
  (s.elapse t).command c 0x4D (replayAddChecks c) (replayAddEffect c)

/-- START begins to read: every capture from its ring's next entry on. -/
def State.replayStart (s : State) (p : Nat) (e : Entry) : State :=
  s.modSession (fun x => { Session.reset with
    st := .loading, port := p, jRing := bitsAt e 0xE 2 0 10, startTime := fld e 0x10 8, speed := fld e 0x18 2, r0 := s.ns
    mismatches := x.mismatches, loaded := x.loaded
    caps := x.caps.map (fun c => { c with found := false, loaded := false, items := [], enc := [], read := 0, seq := none, ended := none, targets := [] }) })

/-- The checks of REPLAY_START. -/
def replayStartChecks (c : RingCmd) (s : State) : Checks :=
  let e := c.e
  { layout := rsv e 0xE 2 10 6 :: replayHead e [(0xE, 2), (0x10, 10)]
    ranges := [(0x18, fld e 0x18 2 = 0 || 256 < fld e 0x18 2)]
    rings := s.ownRing c.p (ringId c.p (bitsAt e 0xE 2 0 10)) 7 0xE
    owner := s.sessionOwner c.p
    ledger := (s.replayStart c.p e).ledgerStatus }

/-- What an accepted REPLAY_START does. -/
def replayStartEffect (c : RingCmd) (s : State) : State × Done :=
  let e := c.e
  let s1 := (s.freshen).replayStart c.p e
  (s1.modSession (fun x => { x with startCmd := some (ringId c.p c.i, s.fresh) }), .waits s.fresh)

/-- REPLAY_START: it waits until the snapshots are loaded. -/
def execReplayStart (t : Nat) (c : RingCmd) (s : State) : Host.Outcome State Fault Refusal :=
  (s.elapse t).command c 0x4D (replayStartChecks c) (replayStartEffect c)

/-- The checks of REPLAY_PAUSE. -/
def replayPauseChecks (c : RingCmd) (s : State) : Checks :=
  { layout := replayHead c.e [], owner := s.sessionOwner c.p }

/-- What an accepted REPLAY_PAUSE does. -/
def replayPauseEffect (_ : RingCmd) (s : State) : State × Done :=
  let st := s.session.st
  if st == .running then ((s.modSession (fun x => { x with st := .paused, pausedAt := s.ns })).replayState 0 2 0, .ok)
  else if st == .starved then (s.modSession (fun x => { x with st := .paused }), .ok)
  else (s, .ok)

/-- REPLAY_PAUSE: presentation stops. -/
def execReplayPause (t : Nat) (c : RingCmd) (s : State) : Host.Outcome State Fault Refusal :=
  (s.elapse t).command c 0x4D (replayPauseChecks c) (replayPauseEffect c)

/-- The checks of REPLAY_RESUME. -/
def replayResumeChecks (c : RingCmd) (s : State) : Checks :=
  { layout := replayHead c.e [], owner := s.sessionOwner c.p }

/-- What an accepted REPLAY_RESUME does. -/
def replayResumeEffect (_ : RingCmd) (s : State) : State × Done :=
  if s.session.st == .paused then
    ((s.modSession (fun x => { x with st := .running, r0 := x.r0 + (s.ns - x.pausedAt) })).replayState 0 3 0, .ok)
  else (s, .ok)

/-- REPLAY_RESUME: presentation goes on, with R0 advanced by the paused time. -/
def execReplayResume (t : Nat) (c : RingCmd) (s : State) : Host.Outcome State Fault Refusal :=
  (s.elapse t).command c 0x4D (replayResumeChecks c) (replayResumeEffect c)

/-- The checks of REPLAY_END. -/
def replayEndChecks (c : RingCmd) (s : State) : Checks :=
  { layout := replayHead c.e [], owner := s.sessionOwner c.p }

/-- What an accepted REPLAY_END does. -/
def replayEndEffect (_ : RingCmd) (s : State) : State × Done :=
  (s.sessionEnd 0, .ok)

/-- REPLAY_END: the session ends. -/
def execReplayEnd (t : Nat) (c : RingCmd) (s : State) : Host.Outcome State Fault Refusal :=
  (s.elapse t).command c 0x4D (replayEndChecks c) (replayEndEffect c)

end Sys2Proof.Machine
end

