-- ==== Sys2Proof/Machine/Completion.lean ====
section
/-!
DEFINITION. COMMAND_COMPLETION: the second commit of a command that waits on work inside the device (03 R105, R111).
-/

namespace Sys2Proof.Machine

/-- The work of the command that waits in ring r has ended, if it can have: MAP_LOAD whose list a mover carries first (14 R488),
LANE_PACKET_SEND whose lane transmits (04 R172), READ_NV (16 R554), an EXPORT whose blocks are all copied (16 R563), a START whose
snapshots are loaded (16 R570). The others end with rows of their own. -/
def State.completes (s : State) (rid : Nat) (w : Waiting) : State :=
  match fld w.entry 0 1 with
  | 0x16 =>
    match (List.range 8).find? (fun k => match (s.auxMover k).queue.head? with
        | some (.mapList c _) => c.ring = rid && c.arg = w.arg && (s.auxMover k).runs && s.portMoves (rid / 1024)
        | _ => false) with
    | some k =>
      match (s.auxMover k).queue with
      | j :: _ => let r := s.auxEffect j; r.1.auxEnd k r.2
      | [] => s
    | none => s
  | 0x32 => s.flushSends (cmdLane w.entry)
  | 0x4B => s.finishWaiting rid w.arg .success
  | 0x4C =>
    let t := s.recorderFlush
    match t.recorder.exports.find? (fun x => x.cmdRing = rid && x.arg = w.arg) with
    | some x =>
      if x.blocks.isEmpty then
        ({ t with recorder := { t.recorder with exports := t.recorder.exports.erase x } }).finishWaiting rid w.arg .success
      else t
    | none => t
  | 0x4D => if s.mode == .replay then s.replayLoad else s
  | _ => s

/-- COMMAND_COMPLETION: the entries that a START reads from its rings come with it. -/
def execCommandCompletion (t : Nat) (r : RingRef) (f : List ReplayFetch) (s : State) : Host.Outcome State Fault Refusal :=
  let s1 := f.foldl State.replayFetch (s.elapse t)
  .next (match (s1.ring r.port r.idx).waiting with
    | some w => if s1.mode == .dark || s1.mode == .keep then s1 else s1.completes (ringId r.port r.idx) w
    | none => s1)

end Sys2Proof.Machine
end

