-- ==== Sys2Proof/Machine/Checker.lean ====
section
/-!
DEFINITION. The test patterns of a lane, the generator and the checker (20 R654 to R657).

A bit stream is a function from the index of a bit to the bit. The patterns that the manual takes from IEEE 802.3 Clause 120 without
giving them are PRESUMED (log entry 102): PRBS13Q and PRBS31Q carry the bits of PRBS13 and PRBS31 two to a symbol in Gray code, and
SSPRQ is a free stream of 65,535 symbols.
-/

namespace Sys2Proof.Machine

/-! ### Patterns (20 R656) -/

/-- The register of a pseudo-random generator of degree k one bit on: bit i - 1 holds the i-th latest bit, and the new bit is the sum
of the bits that the taps name. -/
def prbsNext (k : Nat) (taps : List Nat) (r : Nat) : Nat :=
  (2 * r + (taps.map (fun i => b2n (nbit r (i - 1)))).sum % 2) % 2 ^ k

/-- The register after n bits, from all ones. -/
def prbsReg (k : Nat) (taps : List Nat) : Nat → Nat
  | 0 => 2 ^ k - 1
  | n + 1 => prbsNext k taps (prbsReg k taps n)

/-- Bit n of a pseudo-random pattern. -/
def prbsBit (k : Nat) (taps : List Nat) (n : Nat) : Bool := nbit (prbsReg k taps n) 0

/-- Bits of a symbol: two of PAM4 (codes 0x0 and 0x1), one of NRZ (04 R129). -/
def symbolBits (rate : Nat) : Nat := if rate ≤ 1 then 2 else 1

/-- Bit n of a pattern at a rate code. The highest PAM4 level is the Gray pair 1, 0 and the lowest the pair 0, 0. -/
def patternBit (rate code n : Nat) : Bool :=
  match code with
  | 0 => prbsBit 7 [7, 6] n
  | 1 | 3 => prbsBit 13 [13, 12, 2, 1] n
  | 2 | 4 => prbsBit 31 [31, 28] n
  | 5 => Config.ssprq n
  | _ => n / symbolBits rate % 16 < 8 && n % symbolBits rate = 0

/-- Bits after which a pattern repeats. -/
def patternPeriod (rate code : Nat) : Nat :=
  match code with
  | 0 => 2 ^ 7 - 1
  | 1 | 3 => 2 ^ 13 - 1
  | 2 | 4 => 2 ^ 31 - 1
  | 5 => 131070
  | _ => 16 * symbolBits rate

/-- What the checker compares at a time: a symbol of the square wave, a bit of every other pattern (20 R657). -/
def unitBits (rate code : Nat) : Nat := if code = 6 then symbolBits rate else 1

/-- Unit j of a bit stream. -/
def streamUnit (w : Nat) (bits : Nat → Bool) (j : Nat) : Nat := bitsVal ((List.range w).map (fun i => bits (w * j + i)))

/-- Bits sent in a number of ms at a rate code (04 R129). -/
def bitsIn (rate ms : Nat) : Nat := [112000000, 56000000, 28000000, 10312500].getD rate 0 * ms

/-- Bit n as the generator sends it: the last bit of every block of 2 ^ inject bits is inverted; 0 inverts none (20 R654). -/
def sentBit (rate code inject n : Nat) : Bool :=
  patternBit rate code n != (inject != 0 && (n + 1) % 2 ^ inject = 0)

/-! ### The checker (20 R657) -/

/-- The checker of a lane test. -/
structure Checker where
  /-- The latest units received while it is not locked, newest first. -/
  seed : List Nat
  /-- Locked: the unit of its running generator that the next one received is compared with. -/
  next : Option Nat
  /-- Which of the latest units were in error, newest first, at most 128 bits of them. -/
  wrong : List Bool
  bits : Nat
  errors : Nat
  losses : Nat
  /-- It was locked at least once. -/
  everLocked : Bool
  deriving DecidableEq, Repr

/-- A checker that has received nothing. -/
def Checker.start : Checker := ⟨[], none, [], 0, 0, 0, false⟩

/-- The units received agree with the pattern from its unit p on. -/
def agrees (pat : Nat → Nat) (p : Nat) : List Nat → Bool
  | [] => true
  | u :: us => u = pat p && agrees pat (p + 1) us

/-- A unit received while not locked: the checker is locked once the latest `span` units agree with the pattern somewhere. -/
def Checker.seeding (c : Checker) (pat : Nat → Nat) (period span u : Nat) : Checker :=
  let seed := (u :: c.seed).take span
  let c1 := { c with seed := seed }
  if seed.length < span then c1
  else
    match (List.range period).find? (fun p => agrees pat p seed.reverse) with
    | none => c1
    | some p => { c with seed := [], next := some (p + span), wrong := [], everLocked := true }

/-- A unit of w bits received while locked: compared with unit p of the running generator. Lock is lost when 64 of the latest 128 bits
are in error; a symbol of the square wave that differs is one error (DESIGN CHOICE, log entry 103). -/
def Checker.compare (c : Checker) (pat : Nat → Nat) (span w p u : Nat) : Checker :=
  let wrong := ((u != pat p) :: c.wrong).take span
  let c1 := { c with next := some (p + 1), wrong := wrong, bits := c.bits + w, errors := c.errors + b2n (u != pat p) }
  if 64 ≤ wrong.count true then { c1 with next := none, wrong := [], losses := c1.losses + 1 } else c1

/-- A unit is received. -/
def Checker.receive (c : Checker) (pat : Nat → Nat) (period w u : Nat) : Checker :=
  match c.next with
  | none => c.seeding pat (period / w) (128 / w) u
  | some p => c.compare pat (128 / w) w p u

/-- The checker after the first n bits of a stream, for a pattern at a rate code. -/
def checkStream (rate code n : Nat) (stream : Nat → Bool) : Checker :=
  let w := unitBits rate code
  (List.range (n / w)).foldl
    (fun c j => c.receive (streamUnit w (patternBit rate code)) (patternPeriod rate code) w (streamUnit w stream j)) Checker.start

end Sys2Proof.Machine
end

