-- ==== Sys2Proof/Machine/Modes.lean ====
section
/-!
DEFINITION. MODE_SET and the transitions between modes (17 R572 to R579).
-/

namespace Sys2Proof.Machine

/-! ### MODE_SET (17 R574 to R576) -/

/-- The transitions that MODE_SET may name (17 R574). -/
def modeMay (a b : Mode) : Bool :=
  match a, b with
  | .standby, .keep => true
  | .standby, .configure => true
  | .configure, .keep => true
  | .configure, .standby => true
  | .configure, .acquire => true
  | .configure, .record => true
  | .configure, .replay => true
  | .configure, .diagnose => true
  | .acquire, .configure => true
  | .acquire, .record => true
  | .record, .configure => true
  | .record, .acquire => true
  | .replay, .configure => true
  | .diagnose, .configure => true
  | _, _ => false

/-- A stream is Running or Stopping, or has a start pending, which counts as Running (03 R126). -/
def State.streamsRun (s : State) : Bool := s.streams.any (fun x => x.2.active || x.2.startPending.isSome)

/-- A change to Configure from a mode in which streams run. -/
def State.toSetup (s : State) (m : Mode) : Bool :=
  m == .configure && (s.mode == .acquire || s.mode == .record || s.mode == .replay)

/-- The state in which MODE_SET to m is refused: another one is under way, the transition is not one of 17 R574, streams run, or a test
runs (17 R576). -/
def State.modeRefused (s : State) (m : Mode) (stop : Bool) : Option Status :=
  if s.start.transition.isSome then some (s.badState 0x83)
  else if m == s.mode then none
  else if !modeMay s.mode m then some (s.badState 0x80)
  else if s.toSetup m && s.streamsRun && !stop then some (s.badState 0x81)
  else if s.mode == .diagnose && !s.tests.isEmpty then some (s.badState 0x82)
  else none

/-- A start that is pending is cancelled, and a STREAM_STOP that waits for it completes. -/
def State.cancelStart (s : State) (n : Nat) : State :=
  let x := s.stream n
  let u := s.setStream n { x with startPending := none, stopCmds := [], stopAt := none }
  u.stopsDone x.stopCmds

/-- Every Running stream stops as STREAM_STOP stops it; one with a start pending delivers its first frame first (17 R576, 03 R126,
R127). -/
def State.stopStreams (s : State) (seq : Nat) : State :=
  (tabKeys s.streams (fun x => x.st == .running || x.startPending.isSome)).foldl (fun t n =>
    if (t.stream n).st == .running then t.streamStopBy n [] seq
    else if (t.stream n).stopAt.isSome then t
    else t.modStream n (fun x => { x with stopAt := some none, stopSeq := seq })) s

/-- The checks of MODE_SET (17 R576). -/
def modeSetChecks (c : RingCmd) (s : State) : Checks :=
  let e := c.e
  let m := Mode.ofCode (bitsAt e 8 1 0 3)
  let stop := bitAt e 8 3
  { layout := rsv e 8 1 4 4 :: restRsv e [(8, 1)], ranges := [(8, m == .dark)], state := s.modeRefused m stop }

/-- What an accepted MODE_SET (17 R576) does. -/
def modeSetEffect (c : RingCmd) (s : State) : State × Done :=
  let e := c.e
  let m := Mode.ofCode (bitsAt e 8 1 0 3)
  let stop := bitAt e 8 3
  if m == s.mode then (s, .ok)
  else
    let rid := ringId c.p c.i
    let a := s.fresh
    let seq := s.commitSeq
    let s1 := s.freshen
    let stops : Bool := s.toSetup m && stop && s.streams.any (fun x => x.2.st == .running || x.2.startPending.isSome)
    let s3 := if stops then s1.stopStreams seq else s1
    ({ s3 with start := { s3.start with
        transition := some (m, rid, a, stops)
        modeWait := if s.toSetup m && s.streamsRun then some (rid, s.ns + 1000000000) else none } }, .waits a)

/-- MODE_SET (17 R576): it waits until the new mode is in force. -/
def execModeSet (t : Nat) (c : RingCmd) (s : State) : Host.Outcome State Fault Refusal :=
  (s.elapse t).command c 0x48 (modeSetChecks c) (modeSetEffect c)

/-! ### What a transition does (17 R577) -/

/-- A lane goes to another state as the mode changes: frames in progress are completed, its requests stay open (17 R577, 04 R174). -/
def State.relane (s : State) (l : Nat) (st : LaneState) : State :=
  let up := (s.lane l).st == .up
  let s1 := if up then s.truncateLane l else s
  (s1.modLane l (fun x =>
    { x with requests := x.requests.map (fun r => { r with timer := none, dropped := true }), syncOpen := []
             dropAt := if up then some (s.dt, s.ns) else x.dropAt, lost := if up then false else x.lost })).laneTo l st

/-- Lanes whose mode is not Off, for those that can run. -/
def State.lanesOn (s : State) : List Nat := tabKeys s.lanes (fun x => x.mode != .off && !x.refStopped)

/-- Every lane goes to OFF and keeps its LANE_CONFIG; its requests are lost with it. -/
def State.lanesOff (s : State) : State :=
  (tabKeys s.lanes (fun x => x.mode != .off)).foldl (fun t l => (t.loseRequests l).laneTo l .off) s

/-- The Lamplighter drives no output: accepted fires are cancelled, pulses end, each GIO output holds its static LEVEL (17 R577). -/
def State.lamplighterOff (s : State) : State :=
  let s1 : State := { s with
    targets := tabMap s.targets (fun _ x => { x with pend := [], held := none, pulse := none })
    lanes := tabMap s.lanes (fun _ x => { x with trigs := [] }) }
  (tabKeys s1.gio (fun x => x.dir = 1)).foldl State.lineStatic s1

/-- The Lamplighter drives its outputs again: each pulse target's line shows its inactive level (12 R442, 17 R577). -/
def State.lamplighterOn (s : State) : State :=
  (tabKeys s.targets (fun x => x.cfg.kind = 2)).foldl (fun t g => t.drive (s.target g).cfg.lane s.dt256 (s.target g).cfg.polarity) s

/-- What leaving mode a and entering mode b does, with b in force (17 R577). -/
def State.modeEffects (s : State) (a b : Mode) : State :=
  let s1 := if a == .record then s.capturesEnd else s
  let s2 := if a == .replay then (s1.sessionEnd 0).lamplighterOn else s1
  let s3 := if b == .configure && (a == .acquire || a == .record || a == .diagnose) then s2.haltAll else s2
  let s4 := if a == .diagnose || (a == .standby && b == .configure) then s3.lanesOn.foldl (fun t l => t.relane l .waitSignal) s3 else s3
  let s5 := if b == .standby then s4.lanesOff.discardAll else s4
  let s6 := if b == .replay then s5.lamplighterOff.discardAll else s5
  s6.patrolCheck

/-- The transition in progress is complete: the mode is in force, DONE and MODE_STATE are written (17 R576, R577). -/
def State.modeDone (s : State) (m : Mode) (rid arg : Nat) (stopped : Bool) : State :=
  let a := s.mode
  let s0 : State := { s with start := { s.start with transition := none, modeWait := none } }
  let s1 := (s0.setMode m).modeEffects a m
  let s2 := (s1.finishWaiting rid arg .success).reportPorts s1.inService 3 0x0B01 islandSup 0
    (m.code + a.code * 2 ^ 8 + b2n stopped * 2 ^ 16)
  if m == .keep then { s2 with start := { s2.start with keepAt := some (s.ns + 1000000) } } else s2

/-- MODE_TRANSITION_COMPLETE; one that waits for streams completes when none runs (17 R576, R577). -/
def execModeTransitionComplete (t : Nat) (s : State) : Host.Outcome State Fault Refusal :=
  let s1 := s.elapse t
  match s1.start.transition with
  | some (m, rid, arg, stopped) =>
    if s1.mode == .dark || s1.mode == .keep || (s1.start.modeWait.isSome && s1.streamsRun) then .next s1
    else .next (s1.modeDone m rid arg stopped)
  | none => .next s1

/-- A stream that has not stopped in time: the frame being written is snuffed, those that remain are lost, and the stop ends. A start
that is still pending is cancelled. -/
def State.snuffStop (s : State) (n : Nat) : State :=
  let s1 := s.snuff n
  let x := s1.stream n
  if (s.stream n).startPending.isSome then s.cancelStart n
  else if !x.active then s1
  else
    let last := match x.stopAt with | some (some q) => q | _ => x.lastTag
    (((s1.setStream n { x with frames := [], gap := x.gap + x.frames.length }).spoolLevels).stopDone n last).letGo x.sconce

/-- MODE_SET_STREAM_SNUFF: 1 s after the commit, streams still Stopping are snuffed (17 R576). -/
def execModeSetStreamSnuff (t : Nat) (s : State) : Host.Outcome State Fault Refusal :=
  let s1 := s.elapse t
  match s1.start.modeWait with
  | some (_, limit) =>
    if limit ≤ s1.ns && s1.mode != .dark then .next ((tabKeys s1.streams (fun x => x.active || x.startPending.isSome)).foldl State.snuffStop s1) else .next s1
  | none => .next s1

/-- KEEP_POWER_DOWN: 1 ms after MODE_SET Keep the main domain goes down (17 R577). -/
def execKeepPowerDown (t : Nat) (s : State) : Host.Outcome State Fault Refusal :=
  let s1 := s.elapse t
  if s1.due s1.start.keepAt then .next s1.clearMain else .next s1

end Sys2Proof.Machine
end

