-- ==== Sys2Proof/Machine/Diagnose.lean ====
section
/-!
DEFINITION. Diagnose mode: DIAG_RUN and the end of a test (20 R654 to R663).
-/

namespace Sys2Proof.Machine

/-! ### Operands (20 R654) -/

/-- UNIT. -/
def diagUnit (e : Entry) : Nat := fld e 0xA 2
/-- PATTERN. -/
def diagPattern (e : Entry) : Nat := bitsAt e 9 1 0 3
/-- RATE. -/
def diagRate (e : Entry) : Nat := bitsAt e 0xC 1 0 4
/-- INJECT_LOG2. -/
def diagInject (e : Entry) : Nat := bitsAt e 0xF 1 0 5
/-- DWELL_LOG2. -/
def diagDwell (e : Entry) : Nat := bitsAt e 0xE 1 0 6
/-- DURATION. -/
def diagDuration (e : Entry) : Nat := fld e 0x10 4

/-- Eyes of a rate: three of PAM4, one of NRZ (20 R658). -/
def diagEyes (rate : Nat) : Nat := if rate ≤ 1 then 3 else 1

/-- Most bytes that follow the header of a test's result (20 R661). -/
def diagData (test rate : Nat) : Nat := if test = 3 then 16384 * diagEyes rate else if test = 4 then 2048 else if 5 ≤ test then 8 else 0

/-- UNIT is out of range for a test (20 R654, 01 R38). -/
def diagUnitBad (test unit : Nat) : Bool :=
  if test ≤ 3 then 128 ≤ unit else if test = 4 then 8 ≤ unit && unit != 0xFF else poolSize (test - 3) ≤ unit

/-- Bits lo to lo + k - 1 of a byte are reserved under a condition. -/
def rsvBit (c : Bool) (e : Entry) (off lo k : Nat) : Chk := (off, 0, c && bitsAt e off 1 lo k != 0)

/-- The layout of DIAG_RUN with the fields its TEST defines (20 R654). GEN, CHECK, TX_PRESET and INJECT_LOG2 are named for some tests
and no value is given for the others: not zero in those is treated as reserved (DESIGN CHOICE, log entry 70). -/
def diagLayout (test : Nat) (e : Entry) : List Chk :=
  let pat := test = 0 || test = 2
  let run := test ≤ 2
  [rsv e 8 1 4 4, rsvBit (!pat) e 9 0 3, enc 9 (pat && diagPattern e = 7), rsvBit (test != 2) e 9 3 2, rsv e 9 1 5 3,
    rsvBit (3 < test) e 0xC 0 4, enc 0xC (test ≤ 3 && 4 < diagRate e), rsvBit (test != 8) e 0xC 4 4, enc 0xC (test = 8 && 8 < bitsAt e 0xC 1 4 4),
    rsvBit (!run) e 0xD 0 4, rsv e 0xD 1 4 4, rsvBit (test != 3) e 0xE 0 6, rsv e 0xE 1 6 2, rsvBit (!pat) e 0xF 0 5, rsv e 0xF 1 5 3,
    rsvIf (!run) e 0x10 4, bufferChk e 0x18] ++ restRsv e [(8, 0xC), (0x18, 8)]

/-- The ranges of DIAG_RUN (20 R654, R662). -/
def diagRanges (test : Nat) (e : Entry) : List (Nat × Bool) :=
  let pat := test = 0 || test = 2
  let p := diagPattern e
  [(9, pat && 3 ≤ p && p ≤ 5 && 2 ≤ diagRate e), (9, test = 2 && bitsAt e 9 1 3 2 = 0), (0xA, test != 8 && diagUnitBad test (diagUnit e)),
    (0xC, test ≤ 3 && diagRate e = 4), (0xE, test = 3 && (diagDwell e < 20 || 34 < diagDwell e)),
    (0xF, pat && diagInject e != 0 && (diagInject e < 10 || 30 < diagInject e)),
    (0x10, test ≤ 2 && (diagDuration e = 0 || 3600000 < diagDuration e)), (0x18, test != 8 && bufferVa e 0x18 % 64 != 0)]

/-! ### What a test takes (20 R655, R660, R662) -/

/-- Two tests act on one unit; UNIT 0xFF of the HBM test is every stack. -/
def diagSame (test unit : Nat) (q : DiagTest) : Bool :=
  if test ≤ 3 then q.test ≤ 3 && q.unit = unit
  else q.test = test && (q.unit = unit || (test = 4 && (unit = 0xFF || q.unit = 0xFF)))

/-- A spare-in of the unit is pending. -/
def State.diagPending (s : State) (test unit : Nat) : Bool :=
  if test ≤ 3 then s.plans.any (fun q => q.pool = poolWicks && q.logical = unit) || s.takeOvers.any (fun q => q.pool = poolWicks && q.logical = unit)
  else if test = 4 then
    s.plans.any (fun q => (q.pool = poolRows || q.pool = poolDataLanes) && (unit = 0xFF || q.logical / 16 = unit)) ||
      s.takeOvers.any (fun q => (q.pool = poolRows || q.pool = poolDataLanes) && (unit = 0xFF || q.logical / 16 = unit))
  else
    s.plans.any (fun q => q.pool = test - 3 && (q.old = unit || q.new_ = unit)) ||
      s.takeOvers.any (fun q => q.pool = test - 3 && (q.old = unit || q.new_ = unit))

/-- A lane goes from its state into a test state; an eye scan leaves a lane that is UP as it is (20 R655, R658). -/
def State.diagLane (s : State) (test l : Nat) : State :=
  let up := (s.lane l).st == .up
  if test = 3 && up then s
  else
    let s1 := if up then s.truncateLane l else s
    (s1.loseRequests l).laneTo l (if test = 0 then .nearLoop else if test = 1 then .farLoop else if test = 2 then .pattern else .eyeScan)

/-- The sconces of a unit in service discard their open frames, uncounted (20 R660). -/
def State.diagFrames (s : State) : State := ((List.range 512).filter s.selfTested).foldl State.discardOpen s

/-- A test begins: it waits in its command ring (20 R662). -/
def State.diagRun (s : State) (test : Nat) (c : RingCmd) : State × Done :=
  let e := c.e
  let rate := diagRate e
  let q : DiagTest :=
    { id := s.fresh, test := test, unit := diagUnit e, ring := ringId c.p c.i, buffer := bufferVa e 0x18
      pieces := (s.translate c.p (bufferVa e 0x18) (64 + diagData test rate) 0).2, rate := rate, tStart := s.dt
      due := s.ns + diagDuration e * 1000000, duration := diagDuration e, check := test = 0 || (test = 2 && bitAt e 9 4), pattern := diagPattern e
      gen := bitAt e 9 3, preset := bitsAt e 0xD 1 0 4, dwell := diagDwell e, inject := diagInject e }
  let s1 : State := { s.freshen with tests := s.tests ++ [q] }
  (if test ≤ 3 then s1.diagLane test q.unit else if 5 ≤ test then s1.diagFrames else s1, .waits s.fresh)

/-- The checks of DIAG_RUN with one of the tests 0 to 7 (20 R654, R662). -/
def diagChecks (test : Nat) (c : RingCmd) (s : State) : Checks :=
  let e := c.e
  { layout := diagLayout test e, ranges := diagRanges test e
    handles := s.addrStatus c.p (bufferVa e 0x18) (64 + diagData test (diagRate e)) 0x18
    state := if s.tests.any (diagSame test (diagUnit e)) || s.diagPending test (diagUnit e) then some (s.badState 0x90)
      else if 16 ≤ s.tests.length then some (s.badState 0x91) else none }

/-- DIAG_RUN with one of the tests 0 to 7. -/
def State.diagCommand (s : State) (test : Nat) (c : RingCmd) : Host.Outcome State Fault Refusal :=
  s.command c 0x4E (diagChecks test c) (fun s => s.diagRun test c)

/-- NEAR_LOOP (20 R655). -/
def execNearLoop (t : Nat) (c : RingCmd) (s : State) : Host.Outcome State Fault Refusal := (s.elapse t).diagCommand 0 c
/-- FAR_LOOP (20 R655). -/
def execFarLoop (t : Nat) (c : RingCmd) (s : State) : Host.Outcome State Fault Refusal := (s.elapse t).diagCommand 1 c
/-- PATTERN (20 R655 to R657). -/
def execPattern (t : Nat) (c : RingCmd) (s : State) : Host.Outcome State Fault Refusal := (s.elapse t).diagCommand 2 c
/-- EYE_SCAN (20 R658). -/
def execEyeScan (t : Nat) (c : RingCmd) (s : State) : Host.Outcome State Fault Refusal := (s.elapse t).diagCommand 3 c
/-- HBM_TEST (20 R659). -/
def execHbmTest (t : Nat) (c : RingCmd) (s : State) : Host.Outcome State Fault Refusal := (s.elapse t).diagCommand 4 c
/-- SLICE_SELF_TEST (20 R660). -/
def execSliceSelfTest (t : Nat) (c : RingCmd) (s : State) : Host.Outcome State Fault Refusal := (s.elapse t).diagCommand 5 c
/-- LANTERN_SELF_TEST (20 R660). -/
def execLanternSelfTest (t : Nat) (c : RingCmd) (s : State) : Host.Outcome State Fault Refusal := (s.elapse t).diagCommand 6 c
/-- ENCODER_SELF_TEST (20 R660). -/
def execEncoderSelfTest (t : Nat) (c : RingCmd) (s : State) : Host.Outcome State Fault Refusal := (s.elapse t).diagCommand 7 c

/-! ### The end of a test (20 R655, R661 to R663) -/

/-- What the block of a test says: VERDICT, BITS_CHECKED, ERRORS, LOCK_LOSSES, and the data that follows the header (20 R661). -/
structure TestReport where
  verdict : Nat
  bits : Nat
  errors : Nat
  lockLosses : Nat
  body : List Byte
  deriving DecidableEq, Repr

/-- The result header (20 R661). -/
def State.diagHeader (s : State) (q : DiagTest) (r : TestReport) : List Byte :=
  leBytes 1 q.test ++ leBytes 1 r.verdict ++ leBytes 2 q.unit ++ leBytes 4 r.body.length ++ leBytes 8 q.tStart ++ leBytes 8 s.dt ++
    leBytes 8 r.bits ++ leBytes 8 r.errors ++ leBytes 4 r.lockLosses ++ zeros 20

/-- The command of a test still waits in its ring. -/
def State.diagWaits (s : State) (q : DiagTest) : Bool :=
  match (s.ring (q.ring / 1024) (q.ring % 1024)).waiting with
  | some w => w.arg == q.id
  | none => false

/-- A test ends with a result: the lane is given back, the block written, the command completed and the record made. A command that a
reset of its port took away gets neither block nor completion. -/
def State.diagEnd (s : State) (q : DiagTest) (r : TestReport) : State :=
  let p := q.ring / 1024
  let s1 : State := { s with tests := s.tests.filter (fun x => x.id != q.id) }
  let s2 := if q.test ≤ 3 then s1.diagLaneBack q.unit else s1
  let s3 : State := if s2.diagWaits q then
      (s2.hostPutParts p (splitParts q.buffer (s2.diagHeader q r ++ r.body) q.pieces)).finishWaiting q.ring q.id .success
    else s2
  s3.record p 1 (if r.verdict = 0 then 3 else 2) 0x0D01 islandSup (q.test + q.unit * 2 ^ 16) (r.verdict + min r.errors (2 ^ 32 - 1) * 2 ^ 32)

/-- What the checker of a lane test says of n bits: it never locked, or it passes when it counted no error (20 R657, R661). -/
def laneReport (q : DiagTest) (n : Nat) (stream : Nat → Bool) : TestReport :=
  let c := checkStream q.rate q.pattern n stream
  { verdict := if !c.everLocked then 3 else if c.errors = 0 then 0 else 1
    bits := c.bits, errors := c.errors, lockLosses := c.losses, body := [] }

/-- NEAR_LOOP over n bits: the checker receives what the lane's own generator sends, with the bits that the loopback path inverts
(20 R655, R657). -/
def nearLoopReport (q : DiagTest) (n : Nat) (inverted : Nat → Bool) : TestReport :=
  laneReport q n (fun i => sentBit q.rate q.pattern q.inject i != inverted i)

/-- The bits of a test's DURATION. -/
def DiagTest.run (q : DiagTest) : Nat := bitsIn q.rate q.duration

/-- A test that checks nothing passes (20 R661). -/
def passReport : TestReport := ⟨0, 0, 0, 0, []⟩

/-- The result as the block gives it (20 R657, R658, R660, R661). A self-test compares SIGNATURE with EXPECTED. -/
def diagReport (q : DiagTest) (r : TestResult) : TestReport :=
  let n := r.body.length
  let words := fitTo (diagData q.test q.rate) r.body
  let same := b2n (lfld words 0 4 != lfld words 4 4)
  if q.test ≤ 2 then
    (if !q.check then passReport
    else if q.test = 0 then nearLoopReport q q.run (fun i => r.inverted.contains i)
    else laneReport q (min q.run r.received.length) (fun i => r.received.getD i false))
  else if q.test = 3 then ⟨r.verdict, 0, r.errors, 0, words⟩
  else if q.test = 4 then ⟨r.verdict, 0, r.errors, 0, r.body.take (min 2048 n / 8 * 8)⟩
  else ⟨same, 0, same, 0, words⟩

/-- The rows that the entries of an HBM result name, as (channel of all stacks, row), once each (20 R661). -/
def hbmRows (body : List Byte) : List (Nat × Nat) :=
  ((List.range (body.length / 8)).map (fun k => (lbits body (8 * k) 4 0 3 * 16 + lbits body (8 * k) 4 4 4, lbits body (8 * k) 4 8 24))).dedup

/-- A failing row is repaired from a spare row, or its channel has none left; the rows repaired are collected (20 R659, 15 R513). -/
def State.hbmRepair (a : State × List (Nat × Nat)) (x : Nat × Nat) : State × List (Nat × Nat) :=
  if a.1.partsFree poolRows x.1 = 0 then (a.1.exhausted poolRows x.1 x.2 (unitInstance poolRows x.1) true, a.2)
  else (a.1.usePart poolRows x.1 x.2 1, x :: a.2)

/-- The entries of an HBM result with REPAIRED as the repair left it (20 R661). -/
def hbmEntries (body : List Byte) (done : List (Nat × Nat)) : List Byte :=
  (List.range (body.length / 8)).flatMap (fun k =>
    let x := (lbits body (8 * k) 4 0 3 * 16 + lbits body (8 * k) 4 4 4, lbits body (8 * k) 4 8 24)
    leBytes 4 (lfld body (8 * k) 4) ++ leBytes 4 (b2n (done.contains x)))

/-- A unit fails its self-test: in service, a spare replaces it as after a hard fault; a spare is shown as failed (20 R660). -/
def State.diagFails (s : State) (pool k : Nat) : State :=
  let u := s.phys pool k
  match u.logical with
  | some n => if u.st = 0 then s.failUnit pool n k 1 none else s
  | none => if u.st = 1 then s.failSpare pool k else s

/-- DIAG_TEST_END: test id ends with this result; tests 0 to 2 have run for their DURATION (20 R654, R661, R662). -/
def execDiagTestEnd (t : Nat) (id : Nat) (r : TestResult) (s : State) : Host.Outcome State Fault Refusal :=
  let s1 := s.elapse t
  match s1.tests.find? (fun q => q.id = id) with
  | none => .next s1
  | some q =>
    if q.test ≤ 2 && s1.ns < q.due then .next s1
    else
      let x := diagReport q r
      if q.test = 4 then
        let a := (hbmRows x.body).foldl State.hbmRepair (s1, [])
        .next (a.1.diagEnd q { x with body := hbmEntries x.body a.2 })
      else
        let s2 := s1.diagEnd q x
        .next (if 5 ≤ q.test && x.verdict = 1 then s2.diagFails (q.test - 3) q.unit else s2)

/-- What a test that is aborted had counted so far (20 R662). The bits that met the checker of a lane are free, but for those that a
NEAR_LOOP sends itself; so are the counts of the other tests. -/
def State.abortReport (s : State) (q : DiagTest) : TestReport :=
  let n := 4 * s.fresh
  let sent := q.run - bitsIn q.rate (q.due - s.ns) / 1000000
  let path := Config.freeBit s.fresh
  let body := (List.range (diagData q.test q.rate)).map (fun k => Config.freeByte (n * 65536 + k))
  let x := if q.test ≤ 2 then
      (if !q.check then passReport else if q.test = 0 then nearLoopReport q sent path else laneReport q sent path)
    else if q.test ≤ 4 then ⟨2, 0, (Config.freeWord n).toNat, 0, if q.test = 4 then [] else body⟩
    else ⟨2, 0, b2n (path 0), 0, body⟩
  { x with verdict := 2 }

/-- The checks of ABORT (20 R662). -/
def abortChecks (c : RingCmd) (s : State) : Checks :=
  let e := c.e
  let find := fun (s : State) => s.tests.find? (fun q => q.test = bitsAt e 0xC 1 4 4 && q.unit = diagUnit e)
  { layout := diagLayout 8 e, ranges := diagRanges 8 e
    handles := if (find s).isNone then some (Status.notFound 0xA) else none }

/-- What an accepted ABORT (20 R662) does. -/
def abortEffect (c : RingCmd) (s : State) : State × Done :=
  let e := c.e
  let find := fun (s : State) => s.tests.find? (fun q => q.test = bitsAt e 0xC 1 4 4 && q.unit = diagUnit e)
  match find s with
    | some q => (s.freshen.diagEnd q (s.abortReport q), .ok)
    | none => (s, .ok)

/-- ABORT: ends a running test at once, with VERDICT 2 (20 R662). -/
def execAbort (t : Nat) (c : RingCmd) (s : State) : Host.Outcome State Fault Refusal :=
  (s.elapse t).command c 0x4E (abortChecks c) (abortEffect c)

end Sys2Proof.Machine
end

