-- ==== Sys2Proof/Machine/Isa.lean ====
section
/-!
DEFINITION. The Lantern instruction set (09): fields, legality, registers, and how one instruction or one group of an extended
operation issues and retires.
-/

namespace Sys2Proof.Machine

/-! ### Fields (09 R323) -/

/-- Major opcode. -/
def iMajor (w : Nat) : Nat := nbits w 26 6
/-- Minor opcode of formats R and X. -/
def iMinor (w : Nat) : Nat := nbits w 0 6
/-- Minor opcode of format V. -/
def iVMinor (w : Nat) : Nat := nbits w 0 8
/-- rd, and sa of format X, and ra of format B. -/
def iRd (w : Nat) : Nat := nbits w 21 5
/-- ra, and sb of format X, and rb of format B. -/
def iRa (w : Nat) : Nat := nbits w 16 5
/-- rb, and sd of format X. -/
def iRb (w : Nat) : Nat := nbits w 11 5
/-- imm16 and off16. -/
def iImm (w : Nat) : Nat := nbits w 0 16
/-- fn of format X. -/
def iFn (w : Nat) : Nat := nbits w 6 5
/-- vd. -/
def iVd (w : Nat) : Nat := nbits w 22 4
/-- va. -/
def iVa (w : Nat) : Nat := nbits w 18 4
/-- b of format V. -/
def iB (w : Nat) : Nat := nbits w 13 5
/-- pg of format V. -/
def iPg (w : Nat) : Nat := nbits w 10 3
/-- W. -/
def iW (w : Nat) : Bool := nbit w 9
/-- S. -/
def iS (w : Nat) : Bool := nbit w 8

/-- No reserved bit is 1, and every opcode and field value is one the instruction set defines (09 R324 to R339). -/
def isaLegal (w : Nat) : Bool :=
  let m := iMinor w
  let v := iVMinor w
  let vb : Bool := iS w || !nbit w 17
  match iMajor w with
  | 0x00 => nbits w 6 5 == 0 && (m ≤ 0x0D || (0x10 ≤ m && m ≤ 0x12) || (m == 0x18 && iRb w == 0))
  | 0x01 | 0x02 | 0x03 | 0x04 | 0x05 | 0x06 => true
  | 0x07 => iRa w == 0
  | 0x08 => nbits w 7 9 == 0 && nbits w 5 2 != 3
  | 0x10 | 0x11 | 0x12 | 0x13 | 0x14 | 0x15 | 0x16 | 0x17 | 0x18 | 0x19 => true
  | 0x20 | 0x21 | 0x22 | 0x23 | 0x24 | 0x25 | 0x26 => true
  | 0x27 => nbits w 21 2 != 3 && iRa w == 0
  | 0x28 => v ≤ 0x14 && vb && (v != 0x13 || (iW w && !iS w))
  | 0x29 =>
    !nbit w 25 && ((v ≤ 5 && vb) ||
      (8 ≤ v && v ≤ 0xB && !nbit w 21 && nbits w 16 2 == 0 && iPg w == 0 && !iW w && !iS w && (v != 0xB || nbits w 13 3 == 0)))
  | 0x2A =>
    match v with
    | 0 => iS w && iVa w == 0
    | 1 => iS w
    | 2 => !iS w && iB w == 0
    | 3 => !nbit w 25 && iVa w == 0 && iS w && !iW w && iPg w == 0
    | 4 => iVd w == 0 && !nbit w 21 && iS w && !iW w && iPg w == 0
    | _ => false
  | 0x30 => iRa w == 0 && nbits w 8 8 == 0 && nbits w 0 8 ≤ 0x12
  | 0x31 => iRd w == 0 && nbits w 8 8 == 0 && 5 ≤ nbits w 0 8 && nbits w 0 8 ≤ 0xA
  | 0x38 =>
    match m with
    | 1 => iFn w ≤ 0xB && (iFn w != 0xB || iRa w == 0)
    | 2 => true
    | 3 => iFn w ≤ 15
    | 4 => iFn w ≤ 2 && iRa w == 0
    | 5 => iFn w ≤ 15 && iRb w == 0
    | 6 => iFn w ≤ 3 && iRa w == 0 && iRb w == 0
    | _ => false
  | 0x3F => nbits w 6 20 == 0 && m ≤ 3
  | _ => false

/-! ### Registers (09 R316, R317, R348) -/

/-- Scalar register k. -/
def Lantern.sreg (x : Lantern) (k : Nat) : Nat :=
  if k = 0 then 0 else if 16 ≤ k && x.fast.isSome then tabGet 0 x.shadow (k - 16) else tabGet 0 x.s k

/-- Write scalar register k. -/
def Lantern.setS (x : Lantern) (k v : Nat) : Lantern :=
  if k = 0 then x
  else if 16 ≤ k && x.fast.isSome then { x with shadow := tabPut x.shadow (k - 16) (v % 2 ^ 32) }
  else { x with s := tabPut x.s k (v % 2 ^ 32) }

/-- Vector register k as 512 bits. -/
def Lantern.vreg (x : Lantern) (k : Nat) : Nat := tabGet 0 x.v k

/-- Write vector register k. -/
def Lantern.setV (x : Lantern) (k v : Nat) : Lantern := { x with v := tabPut x.v k (v % 2 ^ 512) }

/-- Predicate register k. -/
def Lantern.preg (x : Lantern) (k : Nat) : Nat := if k = 0 then 2 ^ 32 - 1 else tabGet 0 x.p k

/-- Write predicate register k. -/
def Lantern.setP (x : Lantern) (k v : Nat) : Lantern := if k = 0 then x else { x with p := tabPut x.p k (v % 2 ^ 32) }

/-- A 16-bit immediate sign-extended to 32 bits. -/
def sx16 (v : Nat) : Nat := ofInt 32 (toInt 16 v)

/-! ### Issue and retirement (09 R322, R325, R343, R352) -/

/-- What an instruction does: it retires and PC goes on, it jumps, it returns from a handler and keeps PROGRESS, it completes
one group of an extended operation (the last one or not), it ends the routine, it traps, it has not issued and stalls, or it retires and the next word waits (WAIT). -/
inductive Issue where
  | next (s : State)
  | jump (s : State) (pc : Int)
  | back (s : State)
  | group (s : State) (last : Bool)
  | fin (s : State)
  | trap (cause : Nat)
  | stall
  | waits (s : State)

/-- A WAIT has ended (09 R338): an unmasked source is pending, a line has come since, or the frame has closed at the tap. -/
def State.waitOver (s : State) (n : Nat) : Bool :=
  let x := s.lantern n
  match x.waiting with
  | none => true
  | some c =>
    (List.range 64).any (fun k => nbit x.irqPending k && !nbit x.irqMask k) || c < s.tapCount n ||
      (match s.workFrame n with | some f => (f.tapLines x.tap).2 | none => false)

/-- The word w stands at PC of a Lantern that runs a routine. -/
def State.issues (s : State) (n w : Nat) : Bool :=
  let x := s.lantern n
  x.routine != .idle && s.waitOver n && x.fetch == some w

/-- An instruction has retired: RETIRED rises, PROGRESS is 0, and PC goes to the next word or FETCH_RANGE is raised. -/
def State.retire (s : State) (n : Nat) (pc : Int) (jumped : Bool) : State :=
  let x := s.lantern n
  if pc < 0 || (x.codeWords : Int) ≤ pc then
    if jumped then s.trap n 4 x.pc
    else (s.setLantern n (x.setSpr 0xF (x.spr 0xF + 1))).trap n 4 (x.codeWords - 1)
  else s.setLantern n { ((x.setSpr 0xF (x.spr 0xF + 1)).setSpr 4 0) with pc := pc.toNat }

/-- The Lantern fetches beyond its code once its WAIT in the last word has ended: FETCH_RANGE (09 R322, R344). -/
def State.runsOut (s : State) (n : Nat) : Bool :=
  let x := s.lantern n
  x.routine != .idle && s.waitOver n && x.codeWords ≤ x.pc

/-- One instruction of the group (major, and minor where the major has groups) issues. A legal word of another instruction, a
word that is not at PC, and an idle Lantern leave everything as it is. -/
def State.isa (s : State) (n : Nat) (w : Word) (mine : Nat → Bool) (f : State → Lantern → Nat → Issue) : State :=
  let v := w.toNat
  let s0 := s.settled n
  if s0.runsOut n then s0.trap n 4 ((s0.lantern n).codeWords - 1)
  else if s0.issues n v && isaLegal v && mine v then
    let s1 := s0.modLantern n (fun x => { x with waiting := none })
    let x := s1.lantern n
    match f s1 x v with
    | .next t => t.retire n ((x.pc : Int) + 1) false
    | .jump t pc => if pc < 0 || (x.codeWords : Int) ≤ pc then s1.trap n 4 x.pc else t.retire n pc true
    | .back t =>
      let y := t.lantern n
      if y.codeWords ≤ y.pc then s1.trap n 4 x.pc else t.setLantern n (y.setSpr 0xF (y.spr 0xF + 1))
    | .group t last =>
      if last then t.retire n ((x.pc : Int) + 1) false
      else t.modLantern n (fun y => (y.setSpr 0xF (y.spr 0xF + 1)).setSpr 4 (y.spr 4 + 1))
    | .fin t => (t.modLantern n (fun y => y.setSpr 0xF (y.spr 0xF + 1))).endRoutine n
    | .trap c => s1.trap n c x.pc
    | .stall => s1
    | .waits t => t.setLantern n { ((t.lantern n).setSpr 0xF (x.spr 0xF + 1)).setSpr 4 0 with pc := x.pc + 1 }
  else s0

/-- A word of this major opcode. -/
def isMajor (m w : Nat) : Bool := iMajor w == m

/-- A word of this major opcode and 6-bit minor. -/
def isMinor (m k w : Nat) : Bool := iMajor w == m && iMinor w == k

/-- A word of this major opcode and 8-bit minor. -/
def isVMinor (m k w : Nat) : Bool := iMajor w == m && iVMinor w == k

/-! ### Scalar instructions (09 R327 to R329) -/

/-- A SOP instruction that writes g(ra, rb) to rd. -/
def State.sop (s : State) (n : Nat) (w : Word) (minor : Nat) (g : Nat → Nat → Nat) : State :=
  s.isa n w (isMinor 0 minor) (fun t x v => .next (t.setLantern n (x.setS (iRd v) (g (x.sreg (iRa v)) (x.sreg (iRb v))))))

/-- A format I instruction that writes g(ra, imm16) to rd. -/
def State.sopImm (s : State) (n : Nat) (w : Word) (major : Nat) (g : Nat → Nat → Nat) : State :=
  s.isa n w (isMajor major) (fun t x v => .next (t.setLantern n (x.setS (iRd v) (g (x.sreg (iRa v)) (iImm v)))))

/-- Signed value of a 32-bit register. -/
def s32 (v : Nat) : Int := toInt 32 v

/-- Arithmetic right shift of a w-bit value. -/
def sraBits (w v k : Nat) : Nat := ofInt w (toInt w v / (2 : Int) ^ k)

/-- The address of a scalar access. -/
def memAddr (x : Lantern) (v : Nat) : Nat := (x.sreg (iRa v) + sx16 (iImm v)) % 2 ^ 32

/-- A scalar load of m bytes, widened by g (09 R329, R330). -/
def State.load (s : State) (n : Nat) (w : Word) (major m : Nat) (g : Nat → Nat) : State :=
  s.isa n w (isMajor major) (fun t x v =>
    let a := memAddr x v
    if a % m != 0 then .trap 3
    else match x.rangeOf a with
      | .fault => .trap 2
      | .gather => if m = 4 then .next (t.setLantern n (x.setS (iRd v) (x.gatherRead (a % 0x20)))) else .trap 2
      | .irq =>
        if m = 4 then
          let r := x.irqRead (a % 0x100) t.ns
          .next (t.setLantern n (r.1.setS (iRd v) r.2))
        else .trap 2
      | _ => if x.stalls a m then .stall else .next (t.setLantern n (x.setS (iRd v) (g (t.ltRead n a m)))))

/-- A scalar store of m bytes. -/
def State.store (s : State) (n : Nat) (w : Word) (major m : Nat) : State :=
  s.isa n w (isMajor major) (fun t x v =>
    let a := memAddr x v
    let d := x.sreg (iRd v)
    if a % m != 0 then .trap 3
    else match x.rangeOf a with
      | .store | .out => if x.stalls a m then .stall else .next (t.setLantern n (x.putBytes a (leBytes m d)))
      | .gather => if m = 4 then .next (t.gatherWrite n (a % 0x20) d) else .trap 2
      | .irq => if m = 4 then .next (t.irqWrite n (a % 0x100) d) else .trap 2
      | _ => .trap 2)

/-- The address of VLD and VST. -/
def vecAddr (x : Lantern) (v : Nat) : Nat := (x.sreg (nbits v 14 5) + ofInt 32 (toInt 14 (nbits v 0 14))) % 2 ^ 32

/-- The lanes that a VLD's or VST's predicate enables. -/
def vecLanes (x : Lantern) (v : Nat) : List Nat := (List.range 32).filter (fun k => nbit (x.preg (nbits v 19 3)) k)

/-- Address of 16-bit lane k. -/
def laneAddr (a k : Nat) : Nat := (a + 2 * k) % 2 ^ 32

/-- Put a value into lane k of width w of a register. -/
def putLane (w r k v : Nat) : Nat := r - nbits r (w * k) w * 2 ^ (w * k) + v % 2 ^ w * 2 ^ (w * k)

/-- A vector load: the enabled lanes (09 R329). -/
def State.vload (s : State) (n : Nat) (w : Word) : State :=
  s.isa n w (isMajor 0x18) (fun t x v =>
    let a := vecAddr x v
    let ks := vecLanes x v
    if a % 2 != 0 then .trap 3
    else if ks.any (fun k => !x.readable (laneAddr a k)) then .trap 2
    else if ks.any (fun k => x.stalls (laneAddr a k) 2) then .stall
    else .next (t.setLantern n (x.setV (iVd v)
      (ks.foldl (fun r k => putLane 16 r k (t.ltRead n (laneAddr a k) 2)) (x.vreg (iVd v))))))

/-- A vector store. -/
def State.vstore (s : State) (n : Nat) (w : Word) : State :=
  s.isa n w (isMajor 0x19) (fun t x v =>
    let a := vecAddr x v
    let ks := vecLanes x v
    if a % 2 != 0 then .trap 3
    else if ks.any (fun k => !x.writable (laneAddr a k)) then .trap 2
    else if ks.any (fun k => x.stalls (laneAddr a k) 2) then .stall
    else .next (t.setLantern n
      (ks.foldl (fun y k => y.putBytes (laneAddr a k) (leBytes 2 (nbits (x.vreg (iVd v)) (16 * k) 16))) x)))

/-! ### Branches (09 R332) -/

/-- A branch on a test of ra and rb. -/
def State.branch (s : State) (n : Nat) (w : Word) (major : Nat) (c : Nat → Nat → Bool) : State :=
  s.isa n w (isMajor major) (fun t x v =>
    if c (x.sreg (iRd v)) (x.sreg (iRa v)) then .jump t ((x.pc : Int) + toInt 16 (iImm v)) else .next t)

/-! ### Vector instructions (09 R333 to R336) -/

/-- Element width and number of elements. -/
def vWidth (w : Nat) : Nat := if iW w then 32 else 16

/-- Elements of a vector register. -/
def vCount (w : Nat) : Nat := 512 / vWidth w

/-- The predicate bit of element k. -/
def vGuard (x : Lantern) (w k : Nat) : Bool := nbit (x.preg (iPg w)) (if iW w then 2 * k else k)

/-- Element k of operand a. -/
def vA (x : Lantern) (w k : Nat) : Nat := nbits (x.vreg (iVa w)) (vWidth w * k) (vWidth w)

/-- Element k of operand b. -/
def vB (x : Lantern) (w k : Nat) : Nat :=
  if iS w then x.sreg (iB w) % 2 ^ vWidth w else nbits (x.vreg (iB w)) (vWidth w * k) (vWidth w)

/-- A register made of the elements g gives under the guard, the others unchanged. -/
def vMake (x : Lantern) (w : Nat) (g : Nat → Nat) : Nat :=
  (List.range (vCount w)).foldl (fun r k => if vGuard x w k then putLane (vWidth w) r k (g k) else r) (x.vreg (iVd w))

/-- A VOP instruction: g takes the element width and the two elements. -/
def State.vop (s : State) (n : Nat) (w : Word) (minor : Nat) (g : Nat → Nat → Nat → Nat) : State :=
  s.isa n w (isVMinor 0x28 minor) (fun t x v =>
    .next (t.setLantern n (x.setV (iVd v) (vMake x v (fun k => g (vWidth v) (vA x v k) (vB x v k))))))

/-- A compare: a lane whose guard is 0 is written as 0. -/
def State.vcmp (s : State) (n : Nat) (w : Word) (minor : Nat) (g : Nat → Nat → Nat → Bool) : State :=
  s.isa n w (isVMinor 0x29 minor) (fun t x v =>
    let bits := (List.range 32).foldl (fun r k =>
      let j := if iW v then k / 2 else k
      if vGuard x v j && g (vWidth v) (vA x v j) (vB x v j) then r + 2 ^ k else r) 0
    .next (t.setLantern n (x.setP (nbits v 22 3) bits)))

/-- A predicate operation. -/
def State.pop (s : State) (n : Nat) (w : Word) (minor : Nat) (g : Nat → Nat → Nat) : State :=
  s.isa n w (isVMinor 0x29 minor) (fun t x v =>
    .next (t.setLantern n (x.setP (nbits v 22 3) (g (x.preg (nbits v 18 3)) (x.preg (nbits v 13 3))))))

/-- Rounding shift of the scaling operations (09 R334). -/
def scaleShift (v sh : Nat) : Nat := (v + (if sh = 0 then 0 else 2 ^ (sh - 1))) / 2 ^ sh

/-! ### Extended operations (09 R339 to R341) -/

/-- What one group of an extended operation touches and does: whether its arrays are aligned, the bytes it reads and writes as
(address, length), and the Lantern after its writes. -/
structure ExtGroup where
  aligned : Bool
  reads : List (Nat × Nat)
  writes : List (Nat × Nat)
  after : Lantern

/-- Elements of group g of N. -/
def groupElems (n g : Nat) : List Nat := (List.range (min 32 (n - 32 * g))).map (fun k => 32 * g + k)

/-- Address of element i of an array of elements of size m. -/
def elemAddr (a m i : Nat) : Nat := (a + m * i) % 2 ^ 32

/-- One group of an extended operation: `plan` gives it for the Lantern, the word and the elements. -/
def State.ext (s : State) (n : Nat) (w : Word) (minor : Nat) (plan : State → Lantern → Nat → List Nat → ExtGroup) : State :=
  s.isa n w (isMinor 0x38 minor) (fun t x v =>
    let len := x.spr 5
    let g := x.spr 4
    let p := plan t x v (groupElems len g)
    if !p.aligned then .trap 3
    else if p.reads.any (fun r => !x.readable r.1) || p.writes.any (fun r => !x.writable r.1) then .trap 2
    else if (p.reads ++ p.writes).any (fun r => x.stalls r.1 r.2) then .stall
    else .group (t.setLantern n p.after) (len ≤ 32 * (g + 1)))

/-- A 16-bit element. -/
def State.elem (s : State) (n a i : Nat) : Nat := s.ltRead n (elemAddr a 2 i) 2

/-- Write 16-bit elements. -/
def Lantern.putElems (x : Lantern) (d : Nat) (vs : List (Nat × Nat)) : Lantern :=
  vs.foldl (fun y p => y.putBytes (elemAddr d 2 p.1) (leBytes 2 p.2)) x

/-- s[sa], s[sb], s[sd]. -/
def xA (x : Lantern) (w : Nat) : Nat := x.sreg (iRd w)
def xB (x : Lantern) (w : Nat) : Nat := x.sreg (iRa w)
def xD (x : Lantern) (w : Nat) : Nat := x.sreg (iRb w)

end Sys2Proof.Machine
end

