-- ==== Sys2Proof/Machine/LanternBlocks.lean ====
section
/-!
DEFINITION. The Lantern's extended block operations (09 R339 to R341). One command carries out one group.
-/

namespace Sys2Proof.Machine

/-- F of VBLK (09 R340). -/
def blkOp (fn sh a b : Nat) : Nat :=
  match fn with
  | 0x00 => a + b
  | 0x01 => Nat.min (a + b) 65535
  | 0x02 => a - b
  | 0x03 => Nat.min (scaleShift (a * b) sh) 65535
  | 0x04 => Nat.min a b
  | 0x05 => Nat.max a b
  | 0x06 => absDiff a b
  | 0x07 => (a + b + 1) / 2
  | 0x08 => a &&& b
  | 0x09 => a ||| b
  | 0x0A => a ^^^ b
  | _ => a

/-- Addresses of 16-bit elements. -/
def halfWords (a : Nat) (is : List Nat) : List (Nat × Nat) := is.map (fun i => (elemAddr a 2 i, 2))

/-- Two bytes, or four bytes as two checks of both ends. -/
def fourBytes (a : Nat) (is : List Nat) : List (Nat × Nat) := is.map (fun i => (elemAddr a 4 i, 4))

/-- One group of VBLK: its bytes and the Lantern after its writes (09 R339 to R341). -/
def vblkPlan (n : Nat) (u : State) (x : Lantern) (v : Nat) (is : List Nat) : ExtGroup :=
  let copy : Bool := iFn v == 0xB
  let a := xA x v
  let b := xB x v
  let d := xD x v
  { aligned := a % 2 == 0 && b % 2 == 0 && d % 2 == 0
    reads := halfWords a is ++ (if copy then [] else halfWords b is)
    writes := halfWords d is
    after := x.putElems d (is.map (fun i => (i, blkOp (iFn v) (x.spr 6) (u.elem n a i) (if copy then 0 else u.elem n b i)))) }

/-- VBLK: an element operation on two arrays (09 R339, R340). -/
def execVblk (t : Nat) (n : Fin 64) (w : Word) (s : State) : Host.Outcome State Fault Refusal :=
  .next ((s.elapse t).ext n w 1 (vblkPlan n))

/-- One group of VFIR: its bytes and the Lantern after its writes (09 R339 to R341). -/
def vfirPlan (n : Nat) (u : State) (x : Lantern) (v : Nat) (is : List Nat) : ExtGroup :=
  let len := x.spr 5
  let h := nbits v 6 4
  let zero : Bool := nbit v 10
  let a := xA x v
  let b := xB x v
  let d := xD x v
  let taps := List.range (2 * h + 1)
  -- The index that tap k of element i reads, none outside the line at a zero edge.
  let src : Nat → Nat → Option Nat := fun i k =>
    if h ≤ i + k && i + k - h < len then some (i + k - h)
    else if zero then none else if i + k < h then some 0 else some (len - 1)
  let coef := fun k => toInt 16 (u.elem n b k)
  let value := fun i =>
    let sum : Int := taps.foldl (fun acc k => match src i k with | some j => acc + coef k * (u.elem n a j : Int) | none => acc) 0
    let sh := x.spr 6
    let r : Int := if sh = 0 then 0 else (2 : Int) ^ (sh - 1)
    (clampInt 0 65535 ((sum + r) / (2 : Int) ^ sh)).toNat
  { aligned := a % 2 == 0 && b % 2 == 0 && d % 2 == 0
    reads := halfWords b taps ++ halfWords a ((is.map (fun i => taps.filterMap (src i))).flatten)
    writes := halfWords d is
    after := x.putElems d (is.map (fun i => (i, value i))) }

/-- VFIR: a filter of 2h + 1 taps along the line (09 R339). -/
def execVfir (t : Nat) (n : Fin 64) (w : Word) (s : State) : Host.Outcome State Fault Refusal :=
  .next ((s.elapse t).ext n w 2 (vfirPlan n))

/-- One group of VGATH: its bytes and the Lantern after its writes (09 R339 to R341). -/
def vgathPlan (n : Nat) (u : State) (x : Lantern) (v : Nat) (is : List Nat) : ExtGroup :=
  let a := xA x v
  let b := xB x v
  let d := xD x v
  let idx := fun i => u.elem n a i / 2 ^ iFn v
  { aligned := a % 2 == 0 && b % 2 == 0 && d % 2 == 0
    reads := halfWords a is ++ halfWords b (is.map idx)
    writes := halfWords d is
    after := x.putElems d (is.map (fun i => (i, u.elem n b (idx i)))) }

/-- VGATH: a table look-up of each element (09 R339). -/
def execVgath (t : Nat) (n : Fin 64) (w : Word) (s : State) : Host.Outcome State Fault Refusal :=
  .next ((s.elapse t).ext n w 3 (vgathPlan n))

/-- An operation on XACC: 0 SUM, 1 MAX, 2 MIN, 3 COUNT (09 R339). -/
def accOp (fn acc a : Nat) : Nat :=
  match fn with
  | 0 => (acc + a) % 2 ^ 32
  | 1 => Nat.max acc a
  | 2 => Nat.min acc a
  | _ => (acc + b2n (a != 0)) % 2 ^ 32

/-- One group of VSCAN: its bytes and the Lantern after its writes (09 R339 to R341). -/
def vscanPlan (n : Nat) (u : State) (x : Lantern) (v : Nat) (is : List Nat) : ExtGroup :=
  let a := xA x v
  let d := xD x v
  let r := is.foldl (fun (p : Nat × Lantern) i =>
    let acc := accOp (iFn v) p.1 (u.elem n a i)
    (acc, p.2.putBytes (elemAddr d 4 i) (leBytes 4 acc))) (x.spr 7, x)
  { aligned := a % 2 == 0 && d % 4 == 0
    reads := halfWords a is
    writes := fourBytes d is
    after := r.2.setSpr 7 r.1 }

/-- VSCAN: the running value of XACC after each element (09 R339). -/
def execVscan (t : Nat) (n : Fin 64) (w : Word) (s : State) : Host.Outcome State Fault Refusal :=
  .next ((s.elapse t).ext n w 4 (vscanPlan n))

/-- The 32-bit counter at an address of the local store or the output line. -/
def Lantern.word4 (x : Lantern) (a : Nat) : Nat :=
  leVal ((List.range 4).map (fun k =>
    match x.rangeOf (a + k) with
    | .store => memGet x.store (a + k)
    | .out => elemByte (x.outLine.getD ((a + k) % 0x10000 / 2) 0) (a + k)
    | _ => 0))

/-- One group of VHIST: its bytes and the Lantern after its writes (09 R339 to R341). -/
def vhistPlan (n : Nat) (u : State) (x : Lantern) (v : Nat) (is : List Nat) : ExtGroup :=
  let a := xA x v
  let b := xB x v
  let at_ := fun i => elemAddr b 4 (u.elem n a i / 2 ^ iFn v)
  { aligned := a % 2 == 0 && b % 4 == 0
    reads := halfWords a is
    writes := is.map (fun i => (at_ i, 4))
    after := is.foldl (fun y i => y.putBytes (at_ i) (leBytes 4 (y.word4 (at_ i) + 1))) x }

/-- VHIST: counters that the elements select rise by 1 (09 R339). -/
def execVhist (t : Nat) (n : Fin 64) (w : Word) (s : State) : Host.Outcome State Fault Refusal :=
  .next ((s.elapse t).ext n w 5 (vhistPlan n))

/-- One group of VRED: its bytes and the Lantern after its writes (09 R339 to R341). -/
def vredPlan (n : Nat) (u : State) (x : Lantern) (v : Nat) (is : List Nat) : ExtGroup :=
  let a := xA x v
  { aligned := a % 2 == 0
    reads := halfWords a is
    writes := []
    after := x.setSpr 7 (is.foldl (fun acc i => accOp (iFn v) acc (u.elem n a i)) (x.spr 7)) }

/-- VRED: XACC over the elements (09 R339). -/
def execVred (t : Nat) (n : Fin 64) (w : Word) (s : State) : Host.Outcome State Fault Refusal :=
  .next ((s.elapse t).ext n w 6 (vredPlan n))

end Sys2Proof.Machine
end

