-- ==== Sys2Proof/Machine/LanternEvents.lean ====
section
/-!
DEFINITION. What happens at a Lantern: its routines start, an overrun strikes, handlers are entered, gathers complete, and its
register window is written and read (08 R286, R292, R293, R302, R308 to R311; 09 R346, R347). A row whose condition does not
hold has no effect.
-/

namespace Sys2Proof.Machine

/-- The frame whose first routine may start: the oldest one at an idle Lantern that has none in work. While a spare takes over, its
inputs are held (15 R510). -/
def State.nextFrame (s : State) (n : Nat) : Option Frame :=
  let x := s.lantern n
  match x.routine, x.frame with
  | .idle, none =>
    if x.kernel.isSome && !s.takeOvers.any (fun q => q.pool = poolLanterns && q.logical = n) then (s.framesOf n).head? else none
  | _, _ => none

/-- FRAME_ENTRY: the first line of the frame has come, or the frame has closed without one (08 R286). -/
def execFrameEntry (t : Nat) (n : Fin 64) (s : State) : Host.Outcome State Fault Refusal :=
  let s1 := s.elapse t
  let x := s1.lantern n
  .next (match s1.nextFrame n with
    | some f =>
      let p := f.tapLines x.tap
      if x.hdr 0x10 != 0xFFFF && (!p.1.isEmpty || p.2) then s1.enterFrame n f else s1
    | none => s1)

/-- LINE_ENTRY: the line before has ended and line L + BELOW is in the window, or the frame has closed at the tap (08 R286). -/
def execLineEntry (t : Nat) (n : Fin 64) (s : State) : Host.Outcome State Fault Refusal :=
  let s1 := s.elapse t
  let x := s1.lantern n
  let f := if x.hdr 0x10 = 0xFFFF then firstSome [s1.workFrame n, s1.nextFrame n] else s1.workFrame n
  .next (match x.routine, f with
    | .idle, some f =>
      let p := f.tapLines x.tap
      let y := (f.returnedAt x.tap).length
      if y < p.1.length && (y + x.below < p.1.length || p.2) then s1.enterLine n f y else s1
    | _, _ => s1)

/-- FRAME_EXIT: the last line has ended and the frame has closed at the tap (08 R286). -/
def execFrameExit (t : Nat) (n : Fin 64) (s : State) : Host.Outcome State Fault Refusal :=
  let s1 := s.elapse t
  let x := s1.lantern n
  let f := if x.hdr 0x10 = 0xFFFF then firstSome [s1.workFrame n, s1.nextFrame n] else s1.workFrame n
  .next (match x.routine, f with
    | .idle, some f => if f.drained x.tap && x.hdr 0x12 != 0xFFFF then s1.exitFrame n f else s1
    | _, _ => s1)

/-- The journaled strike that Lantern n has reached in Replay: its recorded number, frame and line L (16 R567). -/
def State.replayStrike (s : State) (n : Nat) : Option JRec :=
  let x := s.lantern n
  match (s.framesOf n).find? (fun f => (f.returnedAt x.tap).length < (f.tapLines x.tap).1.length) with
  | none => none
  | some f => s.session.kept.find? (fun r => r.typ = 0x52 && tabFind s.session.lanterns (r.qual % 64) = some n &&
      lfld r.body 8 8 = f.number && lfld r.body 1 3 = (f.returnedAt x.tap).length)

/-- LANTERN_OVERRUN: more than SLACK lines wait beyond L + BELOW (08 R302); in Replay the journaled strikes (16 R567). -/
def execLanternOverrun (t : Nat) (n : Fin 64) (s : State) : Host.Outcome State Fault Refusal :=
  let s1 := s.elapse t
  let x := s1.lantern n
  if s1.mode == .replay then
    .next (match s1.replayStrike n with
      | some r => ({ s1 with session := { s1.session with kept := s1.session.kept.erase r } }).overrun n
      | none => s1)
  else .next (if x.slack < waitingLines x.below x.tap (s1.framesOf n) then s1.overrun n else s1)

/-- LANTERN_HOLDOFF_EXPIRY: HOLDOFF clocks have passed since the earliest pending normal source pended (08 R311). -/
def execLanternHoldoffExpiry (t : Nat) (n : Fin 64) (s : State) : Host.Outcome State Fault Refusal :=
  let s1 := (s.elapse t).settled n
  let x := s1.lantern n
  .next (match x.earliest with
    | some e => if e + lanternNs x.irqHoldoff ≤ s1.ns then s1.setLantern n { x with holdoffDone := true } else s1
    | none => s1)

/-- GATHER_DONE: the gather that an auxiliary mover carries first completes (08 R293, 14 R481). -/
def execGatherDone (t : Nat) (n : Fin 64) (s : State) : Host.Outcome State Fault Refusal :=
  let s1 := s.elapse t
  let m := (List.range 8).find? (fun k => (s1.auxMover k).runs && (s1.auxMover k).queue.head? == some (AuxJob.gather n))
  .next (match m with
    | some k => let r := s1.gatherDone n; r.1.auxEnd k r.2
    | none => s1)

/-- A kernel runs: only then does it write or read its registers. -/
def Lantern.runs (x : Lantern) : Bool := x.routine != .idle

/-- A write to the gather port's GO word (08 R292, R293). -/
def execGo (t : Nat) (n : Fin 64) (v : Word) (s : State) : Host.Outcome State Fault Refusal :=
  let s1 := (s.elapse t).settled n
  .next (if (s1.lantern n).runs then s1.gatherWrite n 0x10 v.toNat else s1)

/-- A write to PENDING_SET (08 R308). -/
def execPendingSet (t : Nat) (n : Fin 64) (w : LanternWrite) (s : State) : Host.Outcome State Fault Refusal :=
  let s1 := (s.elapse t).settled n
  .next (if (s1.lantern n).runs then s1.irqWrite n (if w.high then 0x0C else 0x08) w.v.toNat else s1)

/-- A write to PENDING_CLR (08 R308). -/
def execPendingClr (t : Nat) (n : Fin 64) (w : LanternWrite) (s : State) : Host.Outcome State Fault Refusal :=
  let s1 := (s.elapse t).settled n
  .next (if (s1.lantern n).runs then s1.irqWrite n (if w.high then 0x14 else 0x10) w.v.toNat else s1)

/-- A write to MASK_SET (08 R308). -/
def execMaskSet (t : Nat) (n : Fin 64) (w : LanternWrite) (s : State) : Host.Outcome State Fault Refusal :=
  let s1 := (s.elapse t).settled n
  .next (if (s1.lantern n).runs then s1.irqWrite n (if w.high then 0x1C else 0x18) w.v.toNat else s1)

/-- A write to MASK_CLR (08 R308). -/
def execMaskClr (t : Nat) (n : Fin 64) (w : LanternWrite) (s : State) : Host.Outcome State Fault Refusal :=
  let s1 := (s.elapse t).settled n
  .next (if (s1.lantern n).runs then s1.irqWrite n (if w.high then 0x24 else 0x20) w.v.toNat else s1)

/-- A read of CLAIM_NORMAL (08 R309). -/
def execClaimNormal (t : Nat) (n : Fin 64) (s : State) : Host.Outcome State Fault Refusal :=
  let s1 := (s.elapse t).settled n
  let x := s1.lantern n
  .next (if x.runs then s1.setLantern n (x.irqRead 0x38 s1.ns).1 else s1)

/-- A read of CLAIM_FAST (08 R309). -/
def execClaimFast (t : Nat) (n : Fin 64) (s : State) : Host.Outcome State Fault Refusal :=
  let s1 := (s.elapse t).settled n
  let x := s1.lantern n
  .next (if x.runs then s1.setLantern n (x.irqRead 0x3C s1.ns).1 else s1)

/-- A write to COMPLETE (08 R308). -/
def execComplete (t : Nat) (n : Fin 64) (v : Word) (s : State) : Host.Outcome State Fault Refusal :=
  let s1 := (s.elapse t).settled n
  .next (if (s1.lantern n).runs then s1.irqWrite n 0x40 v.toNat else s1)

/-- A kernel's write to DOORBELL (08 R308). -/
def execDoorbell (t : Nat) (n : Fin 64) (v : Word) (s : State) : Host.Outcome State Fault Refusal :=
  let s1 := (s.elapse t).settled n
  .next (if (s1.lantern n).runs then s1.irqWrite n 0x44 v.toNat else s1)

/-- A read of word g of COUNT: its four counters are cleared (08 R308, R310). -/
def execCount (t : Nat) (n : Fin 64) (g : Fin 16) (s : State) : Host.Outcome State Fault Refusal :=
  let s1 := (s.elapse t).settled n
  let x := s1.lantern n
  .next (if x.runs then s1.setLantern n (x.irqRead (0x80 + 4 * g.val) s1.ns).1 else s1)

end Sys2Proof.Machine
end

