-- ==== Sys2Proof/Machine/LanternScalar.lean ====
section
/-!
DEFINITION. The Lantern's scalar instructions, memory access and branches (09 R327 to R332).
-/

namespace Sys2Proof.Machine

/-- ADD: rd = ra + rb (09 R327). -/
def execAdd (t : Nat) (n : Fin 64) (w : Word) (s : State) : Host.Outcome State Fault Refusal :=
  .next ((s.elapse t).sop n w 0x00 (fun a b => a + b))

/-- SUB: rd = ra − rb (09 R327). -/
def execSub (t : Nat) (n : Fin 64) (w : Word) (s : State) : Host.Outcome State Fault Refusal :=
  .next ((s.elapse t).sop n w 0x01 (fun a b => a + 2 ^ 32 - b))

/-- AND (09 R327). -/
def execAnd (t : Nat) (n : Fin 64) (w : Word) (s : State) : Host.Outcome State Fault Refusal :=
  .next ((s.elapse t).sop n w 0x02 (fun a b => a &&& b))

/-- OR (09 R327). -/
def execOr (t : Nat) (n : Fin 64) (w : Word) (s : State) : Host.Outcome State Fault Refusal :=
  .next ((s.elapse t).sop n w 0x03 (fun a b => a ||| b))

/-- XOR (09 R327). -/
def execXor (t : Nat) (n : Fin 64) (w : Word) (s : State) : Host.Outcome State Fault Refusal :=
  .next ((s.elapse t).sop n w 0x04 (fun a b => a ^^^ b))

/-- SLL: shift left by rb [4:0] (09 R327). -/
def execSll (t : Nat) (n : Fin 64) (w : Word) (s : State) : Host.Outcome State Fault Refusal :=
  .next ((s.elapse t).sop n w 0x05 (fun a b => a * 2 ^ (b % 32)))

/-- SRL: zeros shifted in (09 R327). -/
def execSrl (t : Nat) (n : Fin 64) (w : Word) (s : State) : Host.Outcome State Fault Refusal :=
  .next ((s.elapse t).sop n w 0x06 (fun a b => a / 2 ^ (b % 32)))

/-- SRA: sign shifted in (09 R327). -/
def execSra (t : Nat) (n : Fin 64) (w : Word) (s : State) : Host.Outcome State Fault Refusal :=
  .next ((s.elapse t).sop n w 0x07 (fun a b => sraBits 32 a (b % 32)))

/-- SLT: signed less than (09 R327). -/
def execSlt (t : Nat) (n : Fin 64) (w : Word) (s : State) : Host.Outcome State Fault Refusal :=
  .next ((s.elapse t).sop n w 0x08 (fun a b => b2n (decide (s32 a < s32 b))))

/-- SLTU: unsigned less than (09 R327). -/
def execSltu (t : Nat) (n : Fin 64) (w : Word) (s : State) : Host.Outcome State Fault Refusal :=
  .next ((s.elapse t).sop n w 0x09 (fun a b => b2n (decide (a < b))))

/-- MIN: signed minimum (09 R327). -/
def execMin (t : Nat) (n : Fin 64) (w : Word) (s : State) : Host.Outcome State Fault Refusal :=
  .next ((s.elapse t).sop n w 0x0A (fun a b => if s32 a < s32 b then a else b))

/-- MAX: signed maximum (09 R327). -/
def execMax (t : Nat) (n : Fin 64) (w : Word) (s : State) : Host.Outcome State Fault Refusal :=
  .next ((s.elapse t).sop n w 0x0B (fun a b => if s32 a < s32 b then b else a))

/-- MINU: unsigned minimum (09 R327). -/
def execMinu (t : Nat) (n : Fin 64) (w : Word) (s : State) : Host.Outcome State Fault Refusal :=
  .next ((s.elapse t).sop n w 0x0C (fun a b => Nat.min a b))

/-- MAXU: unsigned maximum (09 R327). -/
def execMaxu (t : Nat) (n : Fin 64) (w : Word) (s : State) : Host.Outcome State Fault Refusal :=
  .next ((s.elapse t).sop n w 0x0D (fun a b => Nat.max a b))

/-- MUL: low 32 bits of the product (09 R327). -/
def execMul (t : Nat) (n : Fin 64) (w : Word) (s : State) : Host.Outcome State Fault Refusal :=
  .next ((s.elapse t).sop n w 0x10 (fun a b => a * b))

/-- MULH: high 32 bits of the signed product (09 R327). -/
def execMulh (t : Nat) (n : Fin 64) (w : Word) (s : State) : Host.Outcome State Fault Refusal :=
  .next ((s.elapse t).sop n w 0x11 (fun a b => ofInt 32 (s32 a * s32 b / (2 : Int) ^ 32)))

/-- MULHU: high 32 bits of the unsigned product (09 R327). -/
def execMulhu (t : Nat) (n : Fin 64) (w : Word) (s : State) : Host.Outcome State Fault Refusal :=
  .next ((s.elapse t).sop n w 0x12 (fun a b => a * b / 2 ^ 32))

/-- JALR: rd = PC + 1, and PC = ra (09 R327). -/
def execJalr (t : Nat) (n : Fin 64) (w : Word) (s : State) : Host.Outcome State Fault Refusal :=
  .next ((s.elapse t).isa n w (isMinor 0 0x18) (fun u x v =>
    .jump (u.setLantern n (x.setS (iRd v) (x.pc + 1))) (x.sreg (iRa v))))

/-- ADDI: rd = ra + sx(imm16) (09 R328). -/
def execAddi (t : Nat) (n : Fin 64) (w : Word) (s : State) : Host.Outcome State Fault Refusal :=
  .next ((s.elapse t).sopImm n w 0x01 (fun a i => a + sx16 i))

/-- ANDI (09 R328). -/
def execAndi (t : Nat) (n : Fin 64) (w : Word) (s : State) : Host.Outcome State Fault Refusal :=
  .next ((s.elapse t).sopImm n w 0x02 (fun a i => a &&& i))

/-- ORI (09 R328). -/
def execOri (t : Nat) (n : Fin 64) (w : Word) (s : State) : Host.Outcome State Fault Refusal :=
  .next ((s.elapse t).sopImm n w 0x03 (fun a i => a ||| i))

/-- XORI (09 R328). -/
def execXori (t : Nat) (n : Fin 64) (w : Word) (s : State) : Host.Outcome State Fault Refusal :=
  .next ((s.elapse t).sopImm n w 0x04 (fun a i => a ^^^ i))

/-- SLTI: signed less than (09 R328). -/
def execSlti (t : Nat) (n : Fin 64) (w : Word) (s : State) : Host.Outcome State Fault Refusal :=
  .next ((s.elapse t).sopImm n w 0x05 (fun a i => b2n (decide (s32 a < toInt 16 i))))

/-- SLTIU: less than sx(imm16) taken as unsigned (09 R328). -/
def execSltiu (t : Nat) (n : Fin 64) (w : Word) (s : State) : Host.Outcome State Fault Refusal :=
  .next ((s.elapse t).sopImm n w 0x06 (fun a i => b2n (decide (a < sx16 i))))

/-- LUI: rd = imm16 << 16 (09 R328). -/
def execLui (t : Nat) (n : Fin 64) (w : Word) (s : State) : Host.Outcome State Fault Refusal :=
  .next ((s.elapse t).sopImm n w 0x07 (fun _ i => i * 2 ^ 16))

/-- SHI: shift by imm16 [4:0], SLL, SRL or SRA by imm16 [6:5] (09 R328). -/
def execShi (t : Nat) (n : Fin 64) (w : Word) (s : State) : Host.Outcome State Fault Refusal :=
  .next ((s.elapse t).sopImm n w 0x08 (fun a i => if nbits i 5 2 = 0 then a * 2 ^ (i % 32) else if nbits i 5 2 = 1 then a / 2 ^ (i % 32) else sraBits 32 a (i % 32)))

/-- LW: 4 bytes (09 R329). -/
def execLw (t : Nat) (n : Fin 64) (w : Word) (s : State) : Host.Outcome State Fault Refusal :=
  .next ((s.elapse t).load n w 0x10 4 id)

/-- LH: 2 bytes, sign-extended (09 R329). -/
def execLh (t : Nat) (n : Fin 64) (w : Word) (s : State) : Host.Outcome State Fault Refusal :=
  .next ((s.elapse t).load n w 0x11 2 sx16)

/-- LHU: 2 bytes, zero-extended (09 R329). -/
def execLhu (t : Nat) (n : Fin 64) (w : Word) (s : State) : Host.Outcome State Fault Refusal :=
  .next ((s.elapse t).load n w 0x12 2 id)

/-- LB: 1 byte, sign-extended (09 R329). -/
def execLb (t : Nat) (n : Fin 64) (w : Word) (s : State) : Host.Outcome State Fault Refusal :=
  .next ((s.elapse t).load n w 0x13 1 (fun v => ofInt 32 (toInt 8 v)))

/-- LBU: 1 byte, zero-extended (09 R329). -/
def execLbu (t : Nat) (n : Fin 64) (w : Word) (s : State) : Host.Outcome State Fault Refusal :=
  .next ((s.elapse t).load n w 0x14 1 id)

/-- SW: 4 bytes (09 R329). -/
def execSw (t : Nat) (n : Fin 64) (w : Word) (s : State) : Host.Outcome State Fault Refusal :=
  .next ((s.elapse t).store n w 0x15 4)

/-- SH: 2 bytes (09 R329). -/
def execSh (t : Nat) (n : Fin 64) (w : Word) (s : State) : Host.Outcome State Fault Refusal :=
  .next ((s.elapse t).store n w 0x16 2)

/-- SB: 1 byte (09 R329). -/
def execSb (t : Nat) (n : Fin 64) (w : Word) (s : State) : Host.Outcome State Fault Refusal :=
  .next ((s.elapse t).store n w 0x17 1)

/-- VLD: the 64 bytes at s[ra] + sx(off14), lane by lane (09 R329). -/
def execVld (t : Nat) (n : Fin 64) (w : Word) (s : State) : Host.Outcome State Fault Refusal :=
  .next ((s.elapse t).vload n w)

/-- VST: the enabled lanes of vd to s[ra] + sx(off14) (09 R329). -/
def execVst (t : Nat) (n : Fin 64) (w : Word) (s : State) : Host.Outcome State Fault Refusal :=
  .next ((s.elapse t).vstore n w)

/-- BEQ (09 R332). -/
def execBeq (t : Nat) (n : Fin 64) (w : Word) (s : State) : Host.Outcome State Fault Refusal :=
  .next ((s.elapse t).branch n w 0x20 (fun a b => a == b))

/-- BNE (09 R332). -/
def execBne (t : Nat) (n : Fin 64) (w : Word) (s : State) : Host.Outcome State Fault Refusal :=
  .next ((s.elapse t).branch n w 0x21 (fun a b => a != b))

/-- BLT: signed (09 R332). -/
def execBlt (t : Nat) (n : Fin 64) (w : Word) (s : State) : Host.Outcome State Fault Refusal :=
  .next ((s.elapse t).branch n w 0x22 (fun a b => decide (s32 a < s32 b)))

/-- BGE: signed (09 R332). -/
def execBge (t : Nat) (n : Fin 64) (w : Word) (s : State) : Host.Outcome State Fault Refusal :=
  .next ((s.elapse t).branch n w 0x23 (fun a b => decide (s32 b ≤ s32 a)))

/-- BLTU: unsigned (09 R332). -/
def execBltu (t : Nat) (n : Fin 64) (w : Word) (s : State) : Host.Outcome State Fault Refusal :=
  .next ((s.elapse t).branch n w 0x24 (fun a b => decide (a < b)))

/-- BGEU: unsigned (09 R332). -/
def execBgeu (t : Nat) (n : Fin 64) (w : Word) (s : State) : Host.Outcome State Fault Refusal :=
  .next ((s.elapse t).branch n w 0x25 (fun a b => decide (b ≤ a)))

/-- JAL: rd = PC + 1, and PC = PC + sx(off21) (09 R332). -/
def execJal (t : Nat) (n : Fin 64) (w : Word) (s : State) : Host.Outcome State Fault Refusal :=
  .next ((s.elapse t).isa n w (isMajor 0x26) (fun u x v =>
    .jump (u.setLantern n (x.setS (iRd v) (x.pc + 1))) ((x.pc : Int) + toInt 21 (nbits v 0 21))))

/-- BP: branches on a predicate register: ANY, ALL or NONE of its bits (09 R332). -/
def execBp (t : Nat) (n : Fin 64) (w : Word) (s : State) : Host.Outcome State Fault Refusal :=
  .next ((s.elapse t).isa n w (isMajor 0x27) (fun u x v =>
    let p := x.preg (nbits v 23 3)
    let taken : Bool := match nbits v 21 2 with
      | 0 => p != 0
      | 1 => p == 2 ^ 32 - 1
      | _ => p == 0
    if taken then .jump u ((x.pc : Int) + toInt 16 (iImm v)) else .next u))

/-- An undefined or malformed word at PC raises ILLEGAL (09 R325); a Lantern beyond its code raises FETCH_RANGE (09 R322). -/
def execIllegal (t : Nat) (n : Fin 64) (w : Word) (s : State) : Host.Outcome State Fault Refusal :=
  let s1 := (s.elapse t).settled n
  .next (if s1.runsOut n then s1.trap n 4 ((s1.lantern n).codeWords - 1)
    else if s1.issues n w.toNat && !isaLegal w.toNat then s1.trap n 1 (s1.lantern n).pc else s1)


end Sys2Proof.Machine
end

