-- ==== Sys2Proof/Machine/LanternSystem.lean ====
section
/-!
DEFINITION. The Lantern's special-register and system instructions (09 R319, R337, R338, R350).
-/

namespace Sys2Proof.Machine

/-- The value MFSR reads, and the Lantern after it: TIME_LO latches TIME_HI (09 R319). -/
def State.readSpr (s : State) (n k : Nat) : Lantern × Nat :=
  let x := s.lantern n
  let line : Bool := x.routine == .lineEntry
  match k with
  | 0x00 => (x, if line then x.lineY else 0xFFFFFFFF)
  | 0x01 => (x, match x.routine with | .frameEntry => 1 | .frameExit => 2 | _ => 0)
  | 0x02 => (x, match s.workFrame n with | some f => f.elements x.tap | none => 0)
  | 0x0C => (x, (x.frame.getD 0) % 2 ^ 32)
  | 0x0D => (x, (x.frame.getD 0) / 2 ^ 32)
  | 0x0E => (x, n)
  | 0x10 => (x, ((s.ns - x.lineStart) * 7 / 5) % 2 ^ 32)
  | 0x11 => (x.setSpr 0x12 (s.dt / 2 ^ 32), s.dt % 2 ^ 32)
  | _ => (x, x.spr k)

/-- MFSR: a special register to rd (09 R337). -/
def execMfsr (t : Nat) (n : Fin 64) (w : Word) (s : State) : Host.Outcome State Fault Refusal :=
  .next ((s.elapse t).isa n w (isMajor 0x30) (fun u _ v =>
    let r := u.readSpr n (nbits v 0 8)
    .next (u.setLantern n (r.1.setS (iRd v) r.2))))

/-- A value MTSR may write (09 R319). -/
def sprRange (k v : Nat) : Bool :=
  match k with
  | 5 => 1 ≤ v && v ≤ 32768
  | 6 => v ≤ 31
  | 7 => true
  | 8 => v ≤ 3
  | _ => v < 2 ^ 13

/-- MTSR: ra to a special register; a value out of range raises XRANGE (09 R337). -/
def execMtsr (t : Nat) (n : Fin 64) (w : Word) (s : State) : Host.Outcome State Fault Refusal :=
  .next ((s.elapse t).isa n w (isMajor 0x31) (fun u x v =>
    let k := nbits v 0 8
    let a := x.sreg (iRa v)
    if sprRange k a then .next (u.setLantern n (x.setSpr k a)) else .trap 5))

/-- A handler runs. -/
def Lantern.inHandler (x : Lantern) : Bool := x.normal.isSome || x.fast.isSome

/-- LEND: ends the routine (09 R338). -/
def execLend (t : Nat) (n : Fin 64) (w : Word) (s : State) : Host.Outcome State Fault Refusal :=
  .next ((s.elapse t).isa n w (isMinor 0x3F 0) (fun u x _ => if x.inHandler then .trap 1 else .fin u))

/-- LDROP: raises SOFT (09 R338). -/
def execLdrop (t : Nat) (n : Fin 64) (w : Word) (s : State) : Host.Outcome State Fault Refusal :=
  .next ((s.elapse t).isa n w (isMinor 0x3F 1) (fun _ _ _ => .trap 6))

/-- WAIT: stalls until a source is pending, a line comes or the frame closes (09 R338). -/
def execWait (t : Nat) (n : Fin 64) (w : Word) (s : State) : Host.Outcome State Fault Refusal :=
  .next ((s.elapse t).isa n w (isMinor 0x3F 2) (fun u x _ =>
    if x.inHandler then .trap 1 else .waits (u.setLantern n { x with waiting := some (u.tapCount n) })))

/-- RETI: returns from the innermost handler (09 R338, R350). -/
def execReti (t : Nat) (n : Fin 64) (w : Word) (s : State) : Host.Outcome State Fault Refusal :=
  .next ((s.elapse t).isa n w (isMinor 0x3F 3) (fun u x _ =>
    match x.handlerReturn with
    | some y => .back (u.setLantern n y)
    | none => .trap 1))


end Sys2Proof.Machine
end

