-- ==== Sys2Proof/Machine/LanternVector.lean ====
section
/-!
DEFINITION. The Lantern's vector, compare and move instructions (09 R333 to R336).
-/

namespace Sys2Proof.Machine

/-- VADD (09 R334). -/
def execVadd (t : Nat) (n : Fin 64) (w : Word) (s : State) : Host.Outcome State Fault Refusal :=
  .next ((s.elapse t).vop n w 0x00 (fun _ a b => a + b))

/-- VSUB (09 R334). -/
def execVsub (t : Nat) (n : Fin 64) (w : Word) (s : State) : Host.Outcome State Fault Refusal :=
  .next ((s.elapse t).vop n w 0x01 (fun w a b => a + 2 ^ w - b))

/-- VADDS: saturating sum (09 R334). -/
def execVadds (t : Nat) (n : Fin 64) (w : Word) (s : State) : Host.Outcome State Fault Refusal :=
  .next ((s.elapse t).vop n w 0x02 (fun w a b => Nat.min (a + b) (2 ^ w - 1)))

/-- VSUBS: difference, at least 0 (09 R334). -/
def execVsubs (t : Nat) (n : Fin 64) (w : Word) (s : State) : Host.Outcome State Fault Refusal :=
  .next ((s.elapse t).vop n w 0x03 (fun _ a b => a - b))

/-- VMIN: unsigned (09 R334). -/
def execVmin (t : Nat) (n : Fin 64) (w : Word) (s : State) : Host.Outcome State Fault Refusal :=
  .next ((s.elapse t).vop n w 0x04 (fun _ a b => Nat.min a b))

/-- VMAX: unsigned (09 R334). -/
def execVmax (t : Nat) (n : Fin 64) (w : Word) (s : State) : Host.Outcome State Fault Refusal :=
  .next ((s.elapse t).vop n w 0x05 (fun _ a b => Nat.max a b))

/-- VMINS: signed (09 R334). -/
def execVmins (t : Nat) (n : Fin 64) (w : Word) (s : State) : Host.Outcome State Fault Refusal :=
  .next ((s.elapse t).vop n w 0x06 (fun w a b => if toInt w a < toInt w b then a else b))

/-- VMAXS: signed (09 R334). -/
def execVmaxs (t : Nat) (n : Fin 64) (w : Word) (s : State) : Host.Outcome State Fault Refusal :=
  .next ((s.elapse t).vop n w 0x07 (fun w a b => if toInt w a < toInt w b then b else a))

/-- VAND (09 R334). -/
def execVand (t : Nat) (n : Fin 64) (w : Word) (s : State) : Host.Outcome State Fault Refusal :=
  .next ((s.elapse t).vop n w 0x08 (fun _ a b => a &&& b))

/-- VOR (09 R334). -/
def execVor (t : Nat) (n : Fin 64) (w : Word) (s : State) : Host.Outcome State Fault Refusal :=
  .next ((s.elapse t).vop n w 0x09 (fun _ a b => a ||| b))

/-- VXOR (09 R334). -/
def execVxor (t : Nat) (n : Fin 64) (w : Word) (s : State) : Host.Outcome State Fault Refusal :=
  .next ((s.elapse t).vop n w 0x0A (fun _ a b => a ^^^ b))

/-- VSLL (09 R334). -/
def execVsll (t : Nat) (n : Fin 64) (w : Word) (s : State) : Host.Outcome State Fault Refusal :=
  .next ((s.elapse t).vop n w 0x0B (fun w a b => a * 2 ^ (b % w)))

/-- VSRL (09 R334). -/
def execVsrl (t : Nat) (n : Fin 64) (w : Word) (s : State) : Host.Outcome State Fault Refusal :=
  .next ((s.elapse t).vop n w 0x0C (fun w a b => a / 2 ^ (b % w)))

/-- VSRA (09 R334). -/
def execVsra (t : Nat) (n : Fin 64) (w : Word) (s : State) : Host.Outcome State Fault Refusal :=
  .next ((s.elapse t).vop n w 0x0D (fun w a b => sraBits w a (b % w)))

/-- VABSD (09 R334). -/
def execVabsd (t : Nat) (n : Fin 64) (w : Word) (s : State) : Host.Outcome State Fault Refusal :=
  .next ((s.elapse t).vop n w 0x0E (fun _ a b => absDiff a b))

/-- VAVG (09 R334). -/
def execVavg (t : Nat) (n : Fin 64) (w : Word) (s : State) : Host.Outcome State Fault Refusal :=
  .next ((s.elapse t).vop n w 0x0F (fun _ a b => (a + b + 1) / 2))

/-- VMUL: low half (09 R334). -/
def execVmul (t : Nat) (n : Fin 64) (w : Word) (s : State) : Host.Outcome State Fault Refusal :=
  .next ((s.elapse t).vop n w 0x10 (fun _ a b => a * b))

/-- VMULH: high half of the signed product (09 R334). -/
def execVmulh (t : Nat) (n : Fin 64) (w : Word) (s : State) : Host.Outcome State Fault Refusal :=
  .next ((s.elapse t).vop n w 0x11 (fun w a b => ofInt w (toInt w a * toInt w b / (2 : Int) ^ w)))

/-- VMULSH: the product rounded and shifted right by XSHIFT, saturated (09 R334). -/
def execVmulsh (t : Nat) (n : Fin 64) (w : Word) (s : State) : Host.Outcome State Fault Refusal :=
  .next ((s.elapse t).isa n w (isVMinor 0x28 0x12) (fun u x v =>
    .next (u.setLantern n (x.setV (iVd v) (vMake x v (fun k =>
      Nat.min (scaleShift (vA x v k * vB x v k) (x.spr 6)) (2 ^ vWidth v - 1)))))))

/-- VMACW: each 32-bit element of vd gains two products of signed 16-bit lanes (09 R334). -/
def execVmacw (t : Nat) (n : Fin 64) (w : Word) (s : State) : Host.Outcome State Fault Refusal :=
  .next ((s.elapse t).isa n w (isVMinor 0x28 0x13) (fun u x v =>
    let lane := fun (r k : Nat) => toInt 16 (nbits r (16 * k) 16)
    let a := x.vreg (iVa v)
    let b := x.vreg (iB v)
    .next (u.setLantern n (x.setV (iVd v) (vMake x v (fun j =>
      ofInt 32 ((nbits (x.vreg (iVd v)) (32 * j) 32 : Nat) + lane a (2 * j) * lane b (2 * j) + lane a (2 * j + 1) * lane b (2 * j + 1))))))))

/-- VSEL: every element is written, a where the guard is 1 and b where it is 0 (09 R334). -/
def execVsel (t : Nat) (n : Fin 64) (w : Word) (s : State) : Host.Outcome State Fault Refusal :=
  .next ((s.elapse t).isa n w (isVMinor 0x28 0x14) (fun u x v =>
    .next (u.setLantern n (x.setV (iVd v) ((List.range (vCount v)).foldl (fun r k =>
      putLane (vWidth v) r k (if vGuard x v k then vA x v k else vB x v k)) 0)))))

/-- VEQ (09 R335). -/
def execVeq (t : Nat) (n : Fin 64) (w : Word) (s : State) : Host.Outcome State Fault Refusal :=
  .next ((s.elapse t).vcmp n w 0x00 (fun _ a b => a == b))

/-- VNE (09 R335). -/
def execVne (t : Nat) (n : Fin 64) (w : Word) (s : State) : Host.Outcome State Fault Refusal :=
  .next ((s.elapse t).vcmp n w 0x01 (fun _ a b => a != b))

/-- VLTU (09 R335). -/
def execVltu (t : Nat) (n : Fin 64) (w : Word) (s : State) : Host.Outcome State Fault Refusal :=
  .next ((s.elapse t).vcmp n w 0x02 (fun _ a b => decide (a < b)))

/-- VGEU (09 R335). -/
def execVgeu (t : Nat) (n : Fin 64) (w : Word) (s : State) : Host.Outcome State Fault Refusal :=
  .next ((s.elapse t).vcmp n w 0x03 (fun _ a b => decide (b ≤ a)))

/-- VLT (09 R335). -/
def execVlt (t : Nat) (n : Fin 64) (w : Word) (s : State) : Host.Outcome State Fault Refusal :=
  .next ((s.elapse t).vcmp n w 0x04 (fun w a b => decide (toInt w a < toInt w b)))

/-- VGE (09 R335). -/
def execVge (t : Nat) (n : Fin 64) (w : Word) (s : State) : Host.Outcome State Fault Refusal :=
  .next ((s.elapse t).vcmp n w 0x05 (fun w a b => decide (toInt w b ≤ toInt w a)))

/-- PAND (09 R335). -/
def execPand (t : Nat) (n : Fin 64) (w : Word) (s : State) : Host.Outcome State Fault Refusal :=
  .next ((s.elapse t).pop n w 0x08 (fun a b => a &&& b))

/-- POR (09 R335). -/
def execPor (t : Nat) (n : Fin 64) (w : Word) (s : State) : Host.Outcome State Fault Refusal :=
  .next ((s.elapse t).pop n w 0x09 (fun a b => a ||| b))

/-- PXOR (09 R335). -/
def execPxor (t : Nat) (n : Fin 64) (w : Word) (s : State) : Host.Outcome State Fault Refusal :=
  .next ((s.elapse t).pop n w 0x0A (fun a b => a ^^^ b))

/-- PNOT (09 R335). -/
def execPnot (t : Nat) (n : Fin 64) (w : Word) (s : State) : Host.Outcome State Fault Refusal :=
  .next ((s.elapse t).pop n w 0x0B (fun a _ => a ^^^ (2 ^ 32 - 1)))

/-- VBCAST: s[b] in every element, under the guard (09 R336). -/
def execVbcast (t : Nat) (n : Fin 64) (w : Word) (s : State) : Host.Outcome State Fault Refusal :=
  .next ((s.elapse t).isa n w (isVMinor 0x2A 0) (fun u x v =>
    .next (u.setLantern n (x.setV (iVd v) (vMake x v (fun k => vB x v k))))))

/-- VSLIDE: vd[i] = a[i + n], 0 outside the register (09 R336). -/
def execVslide (t : Nat) (n : Fin 64) (w : Word) (s : State) : Host.Outcome State Fault Refusal :=
  .next ((s.elapse t).isa n w (isVMinor 0x2A 1) (fun u x v =>
    .next (u.setLantern n (x.setV (iVd v) (vMake x v (fun k =>
      let j : Int := (k : Int) + s32 (x.sreg (iB v))
      if j < 0 || (vCount v : Int) ≤ j then 0 else vA x v j.toNat))))))

/-- VMOVE: vd = a, under the guard (09 R336). -/
def execVmove (t : Nat) (n : Fin 64) (w : Word) (s : State) : Host.Outcome State Fault Refusal :=
  .next ((s.elapse t).isa n w (isVMinor 0x2A 2) (fun u x v =>
    .next (u.setLantern n (x.setV (iVd v) (vMake x v (fun k => vA x v k))))))

/-- PFROMS: a predicate from a scalar register (09 R336). -/
def execPfroms (t : Nat) (n : Fin 64) (w : Word) (s : State) : Host.Outcome State Fault Refusal :=
  .next ((s.elapse t).isa n w (isVMinor 0x2A 3) (fun u x v =>
    .next (u.setLantern n (x.setP (nbits v 22 3) (x.sreg (iB v))))))

/-- PTOS: a scalar register from a predicate (09 R336). -/
def execPtos (t : Nat) (n : Fin 64) (w : Word) (s : State) : Host.Outcome State Fault Refusal :=
  .next ((s.elapse t).isa n w (isVMinor 0x2A 4) (fun u x v =>
    .next (u.setLantern n (x.setS (iB v) (x.preg (nbits v 18 3))))))


end Sys2Proof.Machine
end

