-- ==== Sys2Proof/Machine/Query.lean ====
section
/-!
DEFINITION. QUERY (15 R538 to R543).
-/

namespace Sys2Proof.Machine

/-- KIND. -/
def qKind (e : Entry) : Nat := bitsAt e 8 1 0 4
/-- INDEX. -/
def qIndex (e : Entry) : Nat := bitsAt e 0xA 2 0 11

/-- How many objects a KIND has (15 R538). -/
def qLimit (kind : Nat) : Nat := [1, 1, 1, 128, 512, 64, 256, 32, 2048].getD kind 0

/-- The owner of the object of a KIND (15 R538). -/
def State.qOwner (s : State) (kind n : Nat) : Option Nat :=
  match kind with
  | 3 => (s.lane n).owner
  | 4 => (s.sconce n).owner
  | 5 => (s.lantern n).owner
  | 6 => (s.target n).owner
  | 7 => (s.seqr n).owner
  | 8 => (s.stream n).owner
  | _ => none

/-- Its counters by code. -/
def State.qCounters (s : State) (kind n : Nat) : Tab Nat :=
  match kind with
  | 3 => (s.lane n).counters
  | 4 => (s.sconce n).counters
  | 5 => (s.lantern n).counters
  | 6 => (s.target n).counters
  | 7 => (s.seqr n).counters
  | 8 => (s.stream n).counters
  | _ => []

/-- The checks of a QUERY of the KINDs that `ok` holds of, whose block has len bytes (15 R538); one that names a sconce which is
not configured is refused (05 R186). -/
def queryChecks (ok : Nat → Bool) (len : Nat) (c : RingCmd) (s : State) : Checks :=
  let e := c.e
  let va := bufferVa e 0x10
  { layout := [enc 8 (!ok (qKind e)), rsv e 8 1 4 4, rsv e 0xA 2 11 5, bufferChk e 0x10] ++ restRsv e [(8, 1), (0xA, 2), (0x10, 8)]
    ranges := [(0xA, qLimit (qKind e) ≤ qIndex e), (0x10, va % 64 != 0)]
    owner := ownerStatus (s.qOwner (qKind e) (qIndex e)) c.p
    state := if qKind e = 4 && !(s.sconce (qIndex e)).configured then some (s.badState 0xD) else none
    handles := s.addrStatus c.p va len 0x10 }

/-- A QUERY whose block is `block`: it is sampled at the commit and written before DONE (15 R538). -/
def State.query (s : State) (c : RingCmd) (ok : Nat → Bool) (len : Nat) (block : State → List Byte) : Host.Outcome State Fault Refusal :=
  s.command c 0x07 (queryChecks ok len c) (fun s => s.queueBlock c (bufferVa c.e 0x10) (block s))

/-- The VERSION block; FIRMWARE_VERSION is of the copy that runs (15 R539). -/
def State.versionBlock (s : State) : List Byte :=
  leBytes 1 0xB2 ++ leBytes 1 1 ++ leBytes 2 0x0100 ++ leBytes 1 1 ++ zeros 3 ++ leBytes 8 Config.serialNumber.toNat ++
    leBytes 4 (Config.firmwareVersion (s.start.fw == .copyB)).toNat ++ zeros 44

/-- The entry of a resource in the LEDGER block: demand rounded up, limit rounded down (15 R542). -/
def State.ledgerEntry (s : State) (r : LedgerRow) : List Byte :=
  let off := r.code = 3 && (s.lantern r.unit).st != .active
  let u := ledgerUnit r.code
  leBytes 1 r.code ++ zeros 1 ++ leBytes 2 r.unit ++ zeros 4 ++ leBytes 4 (if off then 0 else ratUp r.demand u) ++
    leBytes 4 (if off then 0 else ratDown r.limit u)

/-- The LEDGER block (15 R542). -/
def State.ledgerBlock (s : State) : List Byte :=
  leBytes 2 1 ++ zeros 6 ++ leBytes 8 s.dt ++ zeros 16 ++ s.ledgerRows.flatMap s.ledgerEntry

/-- A counter block (15 R543). -/
def State.counterBlock (s : State) (kind n : Nat) : List Byte :=
  let x := s.qCounters kind n
  leBytes 1 kind ++ zeros 1 ++ leBytes 2 n ++ zeros 4 ++ leBytes 8 s.dt ++ leBytes 8 (if kind = 8 then (s.stream n).maxBytes else 0) ++ zeros 8 ++
    (List.range 256).flatMap (fun k => leBytes 4 (tabGet 0 x k))

/-- QUERY_VERSION (15 R538, R539). -/
def execQueryVersion (t : Nat) (c : RingCmd) (s : State) : Host.Outcome State Fault Refusal :=
  (s.elapse t).query c (fun k => k = 0) 64 State.versionBlock

/-- QUERY_HEALTH (15 R538, R540). -/
def execQueryHealth (t : Nat) (c : RingCmd) (s : State) : Host.Outcome State Fault Refusal :=
  (s.elapse t).query c (fun k => k = 1) 12288 State.healthBlock

/-- QUERY_LEDGER (15 R538, R542). -/
def execQueryLedger (t : Nat) (c : RingCmd) (s : State) : Host.Outcome State Fault Refusal :=
  (s.elapse t).query c (fun k => k = 2) 2272 State.ledgerBlock

/-- QUERY_COUNTERS: KIND 3 to 8 (15 R538, R543). -/
def execQueryCounters (t : Nat) (c : RingCmd) (s : State) : Host.Outcome State Fault Refusal :=
  (s.elapse t).query c (fun k => 3 ≤ k && k ≤ 8) 1056 (fun u => u.counterBlock (qKind c.e) (qIndex c.e))

end Sys2Proof.Machine
end

