-- ==== Sys2Proof/Machine/Rings.lean ====
section
/-!
DEFINITION. The ring commands (03 R101 to R114) and CLAIM_PASS (02 R672).
-/

namespace Sys2Proof.Machine

/-- The checks of NOP (03 R109). -/
def nopChecks (c : RingCmd) (_ : State) : Checks :=
  { layout := restRsv c.e [] }

/-- What an accepted NOP (03 R109) does. -/
def nopEffect (_ : RingCmd) (s : State) : State × Done :=
  (s, .ok)

/-- NOP: completes with SUCCESS (03 R109). -/
def execNop (t : Nat) (c : RingCmd) (s : State) : Host.Outcome State Fault Refusal :=
  (s.elapse t).command c 0x01 (nopChecks c) (nopEffect c)

/-- A command with an undefined opcode completes with BAD_OPCODE and changes nothing (00 R12, 03 R106). -/
def execUndefinedOpcode (t : Nat) (c : RingCmd) (s : State) : Host.Outcome State Fault Refusal :=
  let s1 := s.elapse t
  if s1.fetchable c then
    .next ((s1.fetched c).settle c (s1.ring c.p c.i).d (.status ⟨1, 0⟩))
  else .next s1

/-- The checks of RING_CREATE (03 R113). -/
def ringCreateChecks (c : RingCmd) (s : State) : Checks :=
  let e := c.e
  let i := bitsAt e 8 2 0 10
  let kind := bitsAt e 0xA 1 0 4
  let log2 := bitsAt e 0xB 1 0 5
  let ev := bitsAt e 0x1A 2 0 10
  let host := hostFilled kind
  let r := s.ring c.p i
  { layout := [rsv e 8 2 10 6, rsv e 0xA 1 4 4, enc 0xA (kind = 0 || 8 < kind), rsv e 0xB 1 5 3,
      enc 0xB (log2 < 6 || 16 < log2), rsv e 0x14 2 11 5, rsvIf host e 0x14 2, rsvIf host e 0x16 2, rsvIf host e 0x18 2,
      rsv e 0x1A 2 10 6] ++ restRsv e [(8, 0x14)]
    ranges := [(0xC, bitsAt e 0xC 8 0 12 != 0), (0x18, !host && fld e 0x18 2 = 0)]
    rings := if ev = i && kind = 2 then none else s.ownRing c.p (ringId c.p ev) 2 0x1A
    state := if i < 2 || r.live then some (s.badState r.st.code) else none }

/-- The ring that RING_CREATE brings into service, both indices 0 (03 R87, R113). -/
def ringOf (e : Entry) : Ring :=
  { Ring.reset with
    st := .inService, kind := bitsAt e 0xA 1 0 4, log2size := bitsAt e 0xB 1 0 5, base := fld e 0xC 8
    vector := bitsAt e 0x14 2 0 11, holdoff := fld e 0x16 2, threshold := fld e 0x18 2
    eventRing := bitsAt e 0x1A 2 0 10 }

/-- What an accepted RING_CREATE (03 R113) does. -/
def ringCreateEffect (c : RingCmd) (s : State) : State × Done :=
  (s.setRing c.p (bitsAt c.e 8 2 0 10) (ringOf c.e), .ok)

/-- RING_CREATE: brings a ring into service (03 R113). -/
def execRingCreate (t : Nat) (c : RingCmd) (s : State) : Host.Outcome State Fault Refusal :=
  (s.elapse t).command c 0x02 (ringCreateChecks c) (ringCreateEffect c)

/-- The stream, or the ring identifier, by which a configured stream, a packet binding or a replay names a ring (03 R114). -/
def State.ringUser (s : State) (rid : Nat) : Option Nat :=
  let st := tabKeys s.streams (fun x => x.st != .free && (x.dRing = rid || x.cRing = rid ||
    (match x.partner with | some q => q.1 = rid || q.2 = rid | none => false)))
  match st with
  | n :: _ => some n
  | [] =>
    let x := s.session
    if s.lanes.any (fun l => l.2.mode == .ethernet && l.2.owner.isSome && l.2.packetRing = rid) ||
        (x.st != .none && (x.caps.any (fun c => ringId x.port c.ring == rid) || (x.st != .adding && ringId x.port x.jRing == rid)))
    then some rid else none

/-- The checks of RING_DESTROY (03 R114). A ring of index 2 or more that is not in service gives BAD_RING (03 R106). -/
def ringDestroyChecks (c : RingCmd) (s : State) : Checks :=
  let i := bitsAt c.e 8 2 0 10
  let r := s.ring c.p i
  { layout := rsv c.e 8 2 10 6 :: restRsv c.e [(8, 2)]
    rings := if i < 2 || r.live then none else some (Status.badRing (ringId c.p i) 8)
    state := if i < 2 || i = c.i then some (s.badState r.st.code)
      else (s.ringUser (ringId c.p i)).map Status.busy }

/-- What an accepted RING_DESTROY (03 R114) does. -/
def ringDestroyEffect (c : RingCmd) (s : State) : State × Done :=
  ((s.setRing c.p (bitsAt c.e 8 2 0 10) Ring.reset).checkInta c.p, .ok)

/-- RING_DESTROY: takes a ring out of service and discards what it holds (03 R114). -/
def execRingDestroy (t : Nat) (c : RingCmd) (s : State) : Host.Outcome State Fault Refusal :=
  (s.elapse t).command c 0x03 (ringDestroyChecks c) (ringDestroyEffect c)

/-- The checks of RING_MODERATE (03 R114). -/
def ringModerateChecks (c : RingCmd) (s : State) : Checks :=
  let i := bitsAt c.e 8 2 0 10
  let r := s.ring c.p i
  { layout := [rsv c.e 8 2 10 6, rsv c.e 0xA 2 11 5] ++ restRsv c.e [(8, 8)]
    ranges := [(0xE, fld c.e 0xE 2 = 0)]
    rings := if r.live && !hostFilled r.kind then none else some (Status.badRing (ringId c.p i) 8) }

/-- What an accepted RING_MODERATE (03 R114) does. -/
def ringModerateEffect (c : RingCmd) (s : State) : State × Done :=
  (s.modRing c.p (bitsAt c.e 8 2 0 10) (fun r =>
    { r with vector := bitsAt c.e 0xA 2 0 11, holdoff := fld c.e 0xC 2, threshold := fld c.e 0xE 2 }), .ok)

/-- RING_MODERATE: sets vector, holdoff and threshold; a running timer keeps its expiry (03 R114). -/
def execRingModerate (t : Nat) (c : RingCmd) (s : State) : Host.Outcome State Fault Refusal :=
  (s.elapse t).command c 0x04 (ringModerateChecks c) (ringModerateEffect c)

/-- The checks of PORT_CONFIG (03 R114). -/
def portConfigChecks (c : RingCmd) (_ : State) : Checks :=
  let v := fld c.e 8 2
  { layout := restRsv c.e [(8, 2)], ranges := [(8, v = 0 || 2000 < v)] }

/-- What an accepted PORT_CONFIG (03 R114) does. -/
def portConfigEffect (c : RingCmd) (s : State) : State × Done :=
  let v := fld c.e 8 2
  (s.modPort c.p (fun x => { x with pollInterval := v }), .ok)

/-- PORT_CONFIG: sets the poll interval from the next poll (03 R114). -/
def execPortConfig (t : Nat) (c : RingCmd) (s : State) : Host.Outcome State Fault Refusal :=
  (s.elapse t).command c 0x05 (portConfigChecks c) (portConfigEffect c)

/-- The checks of CLAIM_PASS (02 R75, R672). -/
def claimPassChecks (c : RingCmd) (s : State) : Checks :=
  let q := bitsAt c.e 8 1 0 2
  { layout := rsv c.e 8 1 2 6 :: restRsv c.e [(8, 1)]
    state := if q = c.p || (s.ring q 0).live then none else some (s.badState (s.ring q 0).st.code) }

/-- What an accepted CLAIM_PASS (02 R75, R672) does. -/
def claimPassEffect (c : RingCmd) (s : State) : State × Done :=
  let q := bitsAt c.e 8 1 0 2
  (if q = c.p then s else s.giveClaim q [c.p, q], .ok)

/-- CLAIM_PASS: the claim passes to a port whose ring 0 is in service (02 R75, R672). -/
def execClaimPass (t : Nat) (c : RingCmd) (s : State) : Host.Outcome State Fault Refusal :=
  (s.elapse t).command c 0x06 (claimPassChecks c) (claimPassEffect c)

end Sys2Proof.Machine
end

