-- ==== Sys2Proof/Machine/StartUp.lean ====
section
/-!
DEFINITION. Resets by pin and by the guards, and start-up (17 R580 to R592).
-/

namespace Sys2Proof.Machine

/-! ### Reset pins and the guards' reset (17 R580, R586, R588, R589) -/

/-- PORST_ASSERT: PORST# has been low for 1 µs (17 R580, R588). The registers of 18 R602 return to their reset values. -/
def execPorstAssert (t : Nat) (s : State) : Host.Outcome State Fault Refusal :=
  let s1 := s.elapse t
  if s1.start.porstLow then .next s1
  else if !s1.supply.live then .next { s1 with start := { s1.start with porstLow := true } }
  else
    let s2 := s1.assertReset 1 (s1.dt - 1000)
    .next { s2 with start := { s2.start with porstLow := true }
                    tap := { s2.tap with startWaits := false }
                    mg := { s2.mg with alertMask := 0x3F, notify := 0, therm := 0x640, cycleMs := 20, fatalIndex := 0, poolIndex := 1 } }

/-- PORST_RELEASE: the straps are sampled and start-up begins, unless a pin-controlling test instruction holds the pins
(17 R581, 18 R596, 20 R651). -/
def execPorstRelease (t : Nat) (straps : Fin 8) (s : State) : Host.Outcome State Fault Refusal :=
  let s1 := s.elapse t
  if !s1.start.porstLow then .next s1
  else
    let s2 : State := { s1 with start := { s1.start with porstLow := false }, mg := { s1.mg with address := straps.val }
                                tap := { s1.tap with startWaits := s1.tap.pins } }
    .next (if s2.mayStart then s2.beginStart else s2)

/-- WARMRST_ASSERT: WARMRST# has been low for 1 µs; a power-on reset that is held governs (17 R588, R589). -/
def execWarmrstAssert (t : Nat) (s : State) : Host.Outcome State Fault Refusal :=
  let s1 := s.elapse t
  if s1.start.warmLow then .next s1
  else
    let s2 := if s1.start.porstLow || !s1.supply.live then s1 else s1.assertReset 2 (s1.dt - 1000)
    .next { s2 with start := { s2.start with warmLow := true } }

/-- WARMRST_RELEASE (17 R581). -/
def execWarmrstRelease (t : Nat) (s : State) : Host.Outcome State Fault Refusal :=
  let s1 := s.elapse t
  if !s1.start.warmLow then .next s1
  else
    let s2 : State := { s1 with start := { s1.start with warmLow := false } }
    .next (if s2.mayStart then s2.beginStart else s2)

/-- GUARD_RESET_END: the 1 ms of a guard reset has passed (17 R586). -/
def execGuardResetEnd (t : Nat) (s : State) : Host.Outcome State Fault Refusal :=
  let s1 := s.elapse t
  if s1.due s1.start.guardUntil then
    let s2 : State := { s1 with start := { s1.start with guardUntil := none } }
    .next (if s2.mayStart then s2.beginStart else s2)
  else .next s1

/-! ### Start-up (17 R581 to R585) -/

/-- PWR_GOOD rises (17 R581, R590). -/
def execPwrGood (t : Nat) (s : State) : Host.Outcome State Fault Refusal :=
  let s1 := s.elapse t
  if s1.start.running && !s1.start.pwrGood then
    .next (({ s1 with start := { s1.start with pwrGood := true } }).say (.pin "PWR_GOOD" 0 true))
  else .next s1

/-- PLL_LOCK: the host ports leave reset and begin training (17 R581). -/
def execPllLock (t : Nat) (s : State) : Host.Outcome State Fault Refusal :=
  let s1 := s.elapse t
  if s1.start.running && s1.start.pwrGood && !s1.start.pll then
    let s2 : State := { s1 with start := { s1.start with pll := true } }
    .next ((portNumbers.filter (fun p => (s2.port p).refClk)).foldl (fun u p => u.modPort p (fun x => { x with link := .training })) s2)
  else .next s1

/-- FIRMWARE_VERIFIED: copy A runs when it passes, else copy B, else the restricted Standby begins. failA is the step of 17 R582 at which
copy A failed, 0 for none (17 R582, R583). -/
def execFirmwareVerified (t : Nat) (failA : Fin 4) (passB : Bool) (s : State) : Host.Outcome State Fault Refusal :=
  let s1 := s.elapse t
  let u := s1.start
  if !(u.running && u.pll && u.fw == .none) then .next s1
  else if failA.val = 0 then .next { s1 with start := { u with fw := .copyA } }
  else if passB then .next { s1 with start := { u with fw := .copyB, failStep := failA } }
  else
    let s2 := s1.setMode .standby
    .next (({ s2 with start := { s2.start with fw := .failed, failStep := failA, running := false } }).alert alertStart)

/-- Firmware runs and start-up goes on. -/
def StartUp.goes (u : StartUp) : Bool := u.running && (u.fw == .copyA || u.fw == .copyB)

/-- HBM_TRAINED: stacks that fail training are lost (17 R581, R585). -/
def execHbmTrained (t : Nat) (failed : List (Fin 8)) (s : State) : Host.Outcome State Fault Refusal :=
  let s1 := s.elapse t
  if s1.start.goes && !s1.start.hbm then
    let lost := (s1.health.stacksLost ++ failed.map (·.val)).dedup
    .next { s1 with health := { s1.health with stacksLost := lost }, start := { s1.start with hbm := true, hbmFailed := lost.length } }
  else .next s1

/-- CAGE_POWER_ENABLE of cage b, the timing port's as bus 16 (17 R581, 18 R593). -/
def execCagePowerEnable (t : Nat) (b : Fin 17) (s : State) : Host.Outcome State Fault Refusal :=
  let s1 := s.elapse t
  if s1.start.goes && s1.start.hbm && !s1.start.cagePower.contains b.val then
    .next (({ s1 with start := { s1.start with cagePower := b.val :: s1.start.cagePower } }).say (.pin "CG_PWREN" b true))
  else .next s1

/-- CAGE_RESET_RELEASE of a cage that has power (17 R581). -/
def execCageResetRelease (t : Nat) (b : Fin 17) (s : State) : Host.Outcome State Fault Refusal :=
  let s1 := s.elapse t
  if s1.start.goes && s1.start.cagePower.contains b.val && !s1.start.cageReset.contains b.val then
    .next (({ s1 with start := { s1.start with cageReset := b.val :: s1.start.cageReset } }).say (.pin "CG_RST#" b true))
  else .next s1

/-- A unit of pools 0x01 to 0x04 fails its self-test at start-up: it is brought out as by a hard fault, when no frame exists to lose. -/
def State.unitOut (s : State) (pool k : Nat) : State :=
  if !(1 ≤ pool && pool ≤ 4 && k < poolSize pool) then s
  else
    let u := s.phys pool k
    let s1 := s.setPhys pool k { u with st := 4, logical := none }
    match u.logical with
    | none => s1
    | some n =>
      match (s1.freeSpares pool n).head? with
      | some j => s1.spareDone pool n k j 1 0
      | none =>
        let s2 := s1.exhausted pool n k (unitInstance pool k) true
        if pool = poolWicks then s2.modLane n (fun x => { x with refStopped := true }) else s2

/-- START_UP_SELF_TESTS_DONE: units that failed, as (pool, physical index) (17 R581). -/
def execStartUpSelfTestsDone (t : Nat) (failed : List (Nat × Nat)) (s : State) : Host.Outcome State Fault Refusal :=
  let s1 := s.elapse t
  if s1.start.goes && s1.start.hbm && !s1.start.tests then
    .next (failed.foldl (fun u q => u.unitOut q.1 q.2) { s1 with start := { s1.start with tests := true } })
  else .next s1

/-- START_DONE: the FV8128 is in Standby, and each port whose link is up becomes ready. Two HBM stacks lost lead to Dark
(17 R581, R585). -/
def execStartDone (t : Nat) (s : State) : Host.Outcome State Fault Refusal :=
  let s1 := s.elapse t
  if s1.start.goes && s1.start.tests then
    let s2 := (({ s1 with start := { s1.start with running := false } }).setMode .standby).alert alertStart
    let s3 := (portNumbers.filter (fun p => (s2.port p).link == .up && !(s2.port p).ready)).foldl State.becomeReady s2
    .next (if 2 ≤ s3.start.hbmFailed then s3.enterDark 5 else s3)
  else .next s1

/-! ### Supplies (15 R536, R537; 17 R573; 19 R626, R627) -/

/-- A SUPPLY record, its UNIT record and ALERT_STATUS.SUPPLY: bit 0 the feed in use, bit 1 that the other one failed (15 R544). -/
def State.supplyReport (s : State) (cls : Nat) (failed : Bool) : State :=
  let d := s.supply.sel + 2 * b2n failed
  (((s.reportPorts s.inService cls 0x090B islandEmber 0 d).journal 3 0x60 islandEmber s.dt (leBytes 8 d)).alert alertSupply)

/-- The feed in use becomes f. -/
def State.useFeed (s : State) (f : Nat) : State :=
  let s1 : State := { s with supply := { s.supply with sel := f, collapseAt := none } }
  if s.supply.sel = f then s1 else s1.say (.pin "SUPPLY_SEL" 0 (f = 1))

/-- FEED_APPLIED: a feed comes within 10.8 V to 13.2 V; after a loss of all supplies the Ember starts in Keep, its time 0, and the
test access port is in Test-Logic-Reset (17 R573, 10 R356, 20 R648); one that comes while the feed in use is out of range, before a
collapse, is used, which is a switch-over when it is the other one (15 R536, 19 R627). -/
def execFeedApplied (t : Nat) (f : Fin 2) (s : State) : Host.Outcome State Fault Refusal :=
  let s1 := s.elapse t
  let x := s1.supply
  if (x.feed f).inRange && (x.feed f).near then .next s1
  else
    let y := x.setFeed f { x.feed f with inRange := true, near := true }
    let s2 : State := { s1 with supply := y }
    if !x.live then .next (({ s2 with time := 0, tap := TapPort.reset }).useFeed f)
    else if x.collapseAt.isSome || (!x.holdOnly && !(x.feed x.sel).inRange) then
      .next (if x.sel = f.val then s2.useFeed f else (s2.useFeed f).supplyReport 2 true)
    else if x.holdOnly then .next (({ s2 with supply := { y with holdOnly := false }, tap := TapPort.reset }).useFeed f)
    else .next s2

/-- FEED_OUT_OF_RANGE: the feed in use gives way to the other when that is within 10.8 V to 13.2 V; else the internal capacitance carries
the rails, and with both out of range a collapse follows in 1 µs (19 R626, R627). -/
def execFeedOutOfRange (t : Nat) (f : Fin 2) (otherNear : Bool) (s : State) : Host.Outcome State Fault Refusal :=
  let s1 := s.elapse t
  let x := s1.supply
  let g := 1 - f.val
  if !(x.feed f).inRange then .next s1
  else
    let o := x.feed g
    let y := (x.setFeed f { inRange := false, near := false, qualified := false }).setFeed g
      { o with near := otherNear, inRange := o.inRange || otherNear }
    let z := if y.fed then y else { y with collapseAt := some (s1.ns + 1000) }
    let s2 : State := { s1 with supply := z }
    if x.sel != f.val then .next s2
    else if otherNear then .next ((s2.useFeed g).supplyReport 2 true)
    else .next (s2.supplyReport 2 true)

/-- A feed has been within 10.8 V to 13.2 V for 10 ms. VMAIN is taken back into use; the return of a feed is reported (19 R627). -/
def State.qualify (s : State) (f : Nat) : State :=
  let x := s.supply
  let back := !(x.feed f).qualified || (f = 0 && x.sel = 1)
  let y := x.setFeed f { inRange := true, near := true, qualified := true }
  let s1 : State := { s with supply := { y with collapseAt := none, holdOnly := false } }
  let s2 := if f = 0 || !(x.feed x.sel).inRange then s1.useFeed f else s1
  if back then s2.supplyReport 3 false else s2

/-- FEED_QUALIFIED (19 R626, R627). -/
def execFeedQualified (t : Nat) (f : Fin 2) (s : State) : Host.Outcome State Fault Refusal :=
  let s1 := s.elapse t
  if s1.supply.live then .next (s1.qualify f) else .next s1

/-- FEED_RETURN_START: after a collapse a feed has been in range for 10 ms with PORST# high, and start-up begins (17 R573). -/
def execFeedReturnStart (t : Nat) (f : Fin 2) (s : State) : Host.Outcome State Fault Refusal :=
  let s1 := s.elapse t
  if s1.supply.collapsed && s1.supply.live then
    let s2 := s1.qualify f
    .next (if s2.mayStart then s2.wakeUp 5 else s2)
  else .next s1

/-- COLLAPSE: both feeds have been out of range for 1 µs; `hold` says that HOLD carries the Ember (15 R536, R537). -/
def execCollapse (t : Nat) (hold : Bool) (s : State) : Host.Outcome State Fault Refusal :=
  let s1 := s.elapse t
  if s1.due s1.supply.collapseAt then .next (s1.collapse hold) else .next s1

/-- HOLD_EXHAUSTED: HOLD falls below its minimum and all is lost (15 R537). -/
def execHoldExhausted (t : Nat) (s : State) : Host.Outcome State Fault Refusal :=
  let s1 := s.elapse t
  if s1.supply.holdOnly then .next s1.loseAll else .next s1

/-! ### Reference clocks (19 R636, 17 R580) -/

/-- EMBER_REFERENCE_ABSENT: the Ember runs from its internal oscillator, whose ticks the time base counts. -/
def execEmberReferenceAbsent (t : Nat) (s : State) : Host.Outcome State Fault Refusal :=
  let s1 := s.elapse t
  .next { s1 with supply := { s1.supply with emberRef := false } }

/-- EMBER_REFERENCE_RETURN. -/
def execEmberReferenceReturn (t : Nat) (s : State) : Host.Outcome State Fault Refusal :=
  let s1 := s.elapse t
  .next { s1 with supply := { s1.supply with emberRef := true } }

/-- LREFCLK_ABSENT: the lanes of chiplet k stop, and the timing port with chiplet 0 (19 R636). -/
def execLrefclkAbsent (t : Nat) (k : Fin 4) (s : State) : Host.Outcome State Fault Refusal :=
  let s1 := s.elapse t
  if s1.supply.lrefAbsent.contains k.val then .next s1
  else
    let s2 : State := { s1 with supply := { s1.supply with lrefAbsent := k.val :: s1.supply.lrefAbsent } }
    let s3 := if s2.mode == .dark then s2
      else ((chipletLanes k).filter (fun l => (s2.lane l).st == .up)).foldl (fun u l => u.laneDrop l 1) s2
    let s4 := (chipletLanes k).foldl (fun u l => u.modLane l (fun x => { x with refStopped := true })) s3
    .next (if k.val = 0 then s4.tpLink false else s4)

/-- LREFCLK_RETURN: 1 ms after the clock is back, the lanes start again from WAIT_SIGNAL (19 R636). -/
def execLrefclkReturn (t : Nat) (k : Fin 4) (s : State) : Host.Outcome State Fault Refusal :=
  let s1 := s.elapse t
  if !s1.supply.lrefAbsent.contains k.val then .next s1
  else
    let s2 : State := { s1 with supply := { s1.supply with lrefAbsent := s1.supply.lrefAbsent.filter (· != k.val) } }
    let live := (chipletLanes k).filter (fun l => !s2.laneStopped l)
    .next (live.foldl (fun u l =>
      let v := u.modLane l (fun x => { x with refStopped := false })
      let y := v.lane l
      if y.mode != .off && y.st != .off && v.mode != .dark && !v.laneTested l then v.laneTo l .waitSignal else v) s2)

/-- HPREFCLK_ABSENT: the port's link goes down, as DL_Down does (19 R636, 02 R56). -/
def execHprefclkAbsent (t : Nat) (p : Fin 4) (s : State) : Host.Outcome State Fault Refusal :=
  let s1 := s.elapse t
  let s2 := if (s1.port p).link == .up then s1.portReset p 2 Port.linkLost else s1
  .next (s2.modPort p (fun x => { x with refClk := false, link := .detect }))

/-- HPREFCLK_STABLE: the port's clock has been stable for 1 ms, unless its PLL is lost (17 R580, 15 R514). -/
def execHprefclkStable (t : Nat) (p : Fin 4) (s : State) : Host.Outcome State Fault Refusal :=
  let s1 := s.elapse t
  let u := s1.phys poolPlls 4
  if (s1.port p).refClk || (u.st = 4 && u.groups.contains p.val) then .next s1
  else .next (s1.modPort p (fun x => { x with refClk := true, link := if s1.start.pll then .training else .detect }))

end Sys2Proof.Machine
end

