-- ==== Sys2Proof/Machine/Tap.lean ====
section
/-!
DEFINITION. The test access port (20 R647 to R653).
-/

namespace Sys2Proof.Machine

/-! ### The controller (20 R648) -/

/-- The next state of the IEEE 1149.1 controller. -/
def TapState.next (x : TapState) (tms : Bool) : TapState :=
  match x, tms with
  | .reset, true => .reset | .reset, false => .idle
  | .idle, true => .selectDr | .idle, false => .idle
  | .selectDr, true => .selectIr | .selectDr, false => .captureDr
  | .captureDr, true => .exit1Dr | .captureDr, false => .shiftDr
  | .shiftDr, true => .exit1Dr | .shiftDr, false => .shiftDr
  | .exit1Dr, true => .updateDr | .exit1Dr, false => .pauseDr
  | .pauseDr, true => .exit2Dr | .pauseDr, false => .pauseDr
  | .exit2Dr, true => .updateDr | .exit2Dr, false => .shiftDr
  | .updateDr, true => .selectDr | .updateDr, false => .idle
  | .selectIr, true => .reset | .selectIr, false => .captureIr
  | .captureIr, true => .exit1Ir | .captureIr, false => .shiftIr
  | .shiftIr, true => .exit1Ir | .shiftIr, false => .shiftIr
  | .exit1Ir, true => .updateIr | .exit1Ir, false => .pauseIr
  | .pauseIr, true => .exit2Ir | .pauseIr, false => .pauseIr
  | .exit2Ir, true => .updateIr | .exit2Ir, false => .shiftIr
  | .updateIr, true => .selectDr | .updateIr, false => .idle

/-! ### Instructions (20 R649, R651) -/

/-- EXTEST, EXTEST_PULSE, EXTEST_TRAIN, CLAMP and HIGHZ. -/
def pinControlling (code : Nat) : Bool := [0x00, 0x04, 0x05, 0x06, 0x07].contains code

/-- The current instruction selects the boundary register. -/
def selectsBoundary (code : Nat) : Bool := [0x00, 0x02, 0x04, 0x05].contains code

/-- The pins are no longer under scan control; start-up that waited for them begins (20 R651). -/
def State.pinsFreed (s : State) : State :=
  let s1 : State := { s with tap := { s.tap with pins := false, startWaits := false } }
  if s.tap.startWaits && s1.mayStart then s1.beginStart else s1

/-- An instruction becomes current; a pin-controlling one with PORST# high counts as BYPASS (20 R649, R651). -/
def State.instruction (s : State) (code : Nat) : State :=
  if pinControlling code && s.start.porstLow then { s with tap := { s.tap with ir := code, pins := true } }
  else if pinControlling code then State.pinsFreed { s with tap := { s.tap with ir := 0xFF, refused := true } }
  else State.pinsFreed { s with tap := { s.tap with ir := code } }

/-- The port enters Test-Logic-Reset: IDCODE is the current instruction (20 R648). -/
def State.tapReset (s : State) : State := State.instruction { s with tap := { s.tap with st := .reset } } 0x01

/-- An instruction is shifted in and becomes current, and the port goes to Run-Test/Idle. The port needs a feed (15 R532). -/
def State.tapLoad (s : State) (code : Nat) : State :=
  if s.supply.fed then State.instruction { s with tap := { s.tap with st := .idle } } code else s

/-! ### Data registers (20 R650, R652, R653) -/

/-- The status register (20 R652). -/
def State.scanStatus (s : State) : Nat :=
  b2n s.start.porstLow + b2n s.start.pwrGood * 2 + b2n s.tap.refused * 4 + s.mode.code * 8

/-- The boundary cells as captured: 0 in the cells of a domain without power (20 R651, R653). -/
def State.boundaryCapture (s : State) : List Bool :=
  let powered := s.start.pwrGood || s.tap.pins
  (List.range Config.boundaryLength).map (fun k => (powered || Config.boundaryEmber k) && Config.boundaryCell s.fresh k)

/-- The selected data register captures. -/
def State.captureDr (s : State) : State :=
  let x := s.tap
  if selectsBoundary x.ir then { s.freshen with tap := { x with drShift := s.boundaryCapture } }
  else if x.ir = 0x01 then { s with tap := { x with drShift := lowBits 32 0x281281CF } }
  else if x.ir = 0x10 then { s with tap := { x with drShift := lowBits 32 s.scanStatus, refused := false } }
  else { s with tap := { x with drShift := [false] } }

/-- What the state before a rising edge of TCK does at that edge: capture or shift. -/
def State.tapEdge (s : State) (tdi : Bool) : State :=
  let x := s.tap
  match x.st with
  | .captureIr => { s with tap := { x with irShift := 1 } }
  | .shiftIr => ({ s with tap := { x with irShift := x.irShift / 2 + b2n tdi * 128 } }).say (.tdo (nbit x.irShift 0))
  | .captureDr => s.captureDr
  | .shiftDr => ({ s with tap := { x with drShift := x.drShift.tail ++ [tdi] } }).say (.tdo (x.drShift.headD false))
  | _ => s

/-- What the state reached does: update, Test-Logic-Reset, and the train of EXTEST_TRAIN (20 R648, R649). -/
def State.tapEnter (s : State) (before : TapState) : State :=
  let x := s.tap
  match x.st with
  | .reset => if before == .reset then s else s.tapReset
  | .updateIr => s.instruction x.irShift
  | .updateDr => if selectsBoundary x.ir then { s with tap := { x with boundary := x.drShift } } else s
  | .idle => if x.ir = 0x05 then { s with tap := { x with train := !x.train } } else s
  | _ => s

/-! ### The rows -/

/-- TRST_LOW (20 R648). -/
def execTrstLow (t : Nat) (s : State) : Host.Outcome State Fault Refusal :=
  let s1 := s.elapse t
  .next (if s1.supply.fed then s1.tapReset else s1)

/-- EXTEST becomes current (20 R649, R651). -/
def execExtest (t : Nat) (s : State) : Host.Outcome State Fault Refusal := .next ((s.elapse t).tapLoad 0x00)

/-- IDCODE becomes current (20 R649, R650). -/
def execIdcode (t : Nat) (s : State) : Host.Outcome State Fault Refusal := .next ((s.elapse t).tapLoad 0x01)

/-- SAMPLE/PRELOAD becomes current (20 R649). -/
def execSamplePreload (t : Nat) (s : State) : Host.Outcome State Fault Refusal := .next ((s.elapse t).tapLoad 0x02)

/-- EXTEST_PULSE becomes current (20 R649, R651). -/
def execExtestPulse (t : Nat) (s : State) : Host.Outcome State Fault Refusal := .next ((s.elapse t).tapLoad 0x04)

/-- EXTEST_TRAIN becomes current (20 R649, R651). -/
def execExtestTrain (t : Nat) (s : State) : Host.Outcome State Fault Refusal := .next ((s.elapse t).tapLoad 0x05)

/-- CLAMP becomes current (20 R649, R651). -/
def execClamp (t : Nat) (s : State) : Host.Outcome State Fault Refusal := .next ((s.elapse t).tapLoad 0x06)

/-- HIGHZ becomes current (20 R649, R651). -/
def execHighz (t : Nat) (s : State) : Host.Outcome State Fault Refusal := .next ((s.elapse t).tapLoad 0x07)

/-- SCAN_STATUS becomes current (20 R649, R652). -/
def execScanStatus (t : Nat) (s : State) : Host.Outcome State Fault Refusal := .next ((s.elapse t).tapLoad 0x10)

/-- BYPASS becomes current (20 R649). -/
def execBypass (t : Nat) (s : State) : Host.Outcome State Fault Refusal := .next ((s.elapse t).tapLoad 0xFF)

/-- TAP_CLOCK: a cycle of TCK, its rising edge and then its falling one (20 R648, R649). -/
def execTapClock (t : Nat) (tms tdi : Bool) (s : State) : Host.Outcome State Fault Refusal :=
  let s1 := s.elapse t
  if !s1.supply.fed then .next s1
  else
    let s2 := s1.tapEdge tdi
    let before := s2.tap.st
    .next (({ s2 with tap := { s2.tap with st := before.next tms } }).tapEnter before)

end Sys2Proof.Machine
end

