-- ==== Sys2Proof/Machine/Dispatch.lean ====
section
/-!
DEFINITION. The effect of each command: one arm for each row of the table of operations and events.
-/

namespace Sys2Proof.Machine

/-- The effect of a command on everything but the queue of waiting commands. -/
def exec (i : Instr) (s : State) : Host.Outcome State Fault Refusal :=
  match i with
  | .registerWrite t p w => Sys2Proof.Machine.execRegisterWrite t p w s
  | .kick t p => Sys2Proof.Machine.execKick t p s
  | .bringUp t p => Sys2Proof.Machine.execBringUp t p s
  | .takeDown t p => Sys2Proof.Machine.execTakeDown t p s
  | .restartRing0 t p => Sys2Proof.Machine.execRestartRing0 t p s
  | .restartRing1 t p => Sys2Proof.Machine.execRestartRing1 t p s
  | .setupActionComplete t p => Sys2Proof.Machine.execSetupActionComplete t p s
  | .functionLevelReset t p => Sys2Proof.Machine.execFunctionLevelReset t p s
  | .flrComplete t p => Sys2Proof.Machine.execFlrComplete t p s
  | .hotReset t p => Sys2Proof.Machine.execHotReset t p s
  | .dlDown t p => Sys2Proof.Machine.execDlDown t p s
  | .linkUp t p rate width => Sys2Proof.Machine.execLinkUp t p rate width s
  | .portReady t p => Sys2Proof.Machine.execPortReady t p s
  | .d3hotEntry t p => Sys2Proof.Machine.execD3hotEntry t p s
  | .d0Return t p => Sys2Proof.Machine.execD0Return t p s
  | .busMasterDisable t p => Sys2Proof.Machine.execBusMasterDisable t p s
  | .busMasterEnable t p => Sys2Proof.Machine.execBusMasterEnable t p s
  | .interruptEnableChange t p msix disable => Sys2Proof.Machine.execInterruptEnableChange t p msix disable s
  | .interruptDisable t p => Sys2Proof.Machine.execInterruptDisable t p s
  | .msixVectorUnmask t p v => Sys2Proof.Machine.execMsixVectorUnmask t p v s
  | .linkCapacityChange t p rate width => Sys2Proof.Machine.execLinkCapacityChange t p rate width s
  | .l0pRequest t p width => Sys2Proof.Machine.execL0pRequest t p width s
  | .l0pNarrow t p => Sys2Proof.Machine.execL0pNarrow t p s
  | .aspmL1Entry t p => Sys2Proof.Machine.execAspmL1Entry t p s
  | .malformedTlp t p k header => Sys2Proof.Machine.execMalformedTlp t p k header s
  | .unsupportedRequest t p k header => Sys2Proof.Machine.execUnsupportedRequest t p k header s
  | .completerAbort t p read header => Sys2Proof.Machine.execCompleterAbort t p read header s
  | .poisonedTlpReceived t p header => Sys2Proof.Machine.execPoisonedTlpReceived t p header s
  | .unexpectedCompletion t p header => Sys2Proof.Machine.execUnexpectedCompletion t p header s
  | .hostReadFailure t p x tries timeout header => Sys2Proof.Machine.execHostReadFailure t p x tries timeout header s
  | .holdoffExpiry t p r => Sys2Proof.Machine.execHoldoffExpiry t p r s
  | .msixSpacingExpiry t p v => Sys2Proof.Machine.execMsixSpacingExpiry t p v s
  | .poll t p ws => Sys2Proof.Machine.execPoll t p ws s
  | .idlePoll t p ws => Sys2Proof.Machine.execIdlePoll t p ws s
  | .descriptorFetch t p st d => Sys2Proof.Machine.execDescriptorFetch t p st d s
  | .nop t c => Sys2Proof.Machine.execNop t c s
  | .ringCreate t c => Sys2Proof.Machine.execRingCreate t c s
  | .ringDestroy t c => Sys2Proof.Machine.execRingDestroy t c s
  | .ringModerate t c => Sys2Proof.Machine.execRingModerate t c s
  | .portConfig t c => Sys2Proof.Machine.execPortConfig t c s
  | .claimPass t c => Sys2Proof.Machine.execClaimPass t c s
  | .queryVersion t c => Sys2Proof.Machine.execQueryVersion t c s
  | .queryHealth t c => Sys2Proof.Machine.execQueryHealth t c s
  | .queryLedger t c => Sys2Proof.Machine.execQueryLedger t c s
  | .queryCounters t c => Sys2Proof.Machine.execQueryCounters t c s
  | .streamConfig t c => Sys2Proof.Machine.execStreamConfig t c s
  | .streamStart t c => Sys2Proof.Machine.execStreamStart t c s
  | .streamStop t c => Sys2Proof.Machine.execStreamStop t c s
  | .streamMove t c => Sys2Proof.Machine.execStreamMove t c s
  | .streamRelease t c => Sys2Proof.Machine.execStreamRelease t c s
  | .moverStop t c => Sys2Proof.Machine.execMoverStop t c s
  | .moverSnuff t c => Sys2Proof.Machine.execMoverSnuff t c s
  | .moverResume t c => Sys2Proof.Machine.execMoverResume t c s
  | .moverPace t c => Sys2Proof.Machine.execMoverPace t c s
  | .moverSpool t c => Sys2Proof.Machine.execMoverSpool t c s
  | .mapRun t c => Sys2Proof.Machine.execMapRun t c s
  | .mapList t c => Sys2Proof.Machine.execMapList t c s
  | .mapUnmap t c => Sys2Proof.Machine.execMapUnmap t c s
  | .sconceConfig t c => Sys2Proof.Machine.execSconceConfig t c s
  | .sconceRelease t c => Sys2Proof.Machine.execSconceRelease t c s
  | .tableLoad t c => Sys2Proof.Machine.execTableLoad t c s
  | .tableRelease t c => Sys2Proof.Machine.execTableRelease t c s
  | .paramSet t c => Sys2Proof.Machine.execParamSet t c s
  | .kernelLoad t c => Sys2Proof.Machine.execKernelLoad t c s
  | .kernelSwap t c => Sys2Proof.Machine.execKernelSwap t c s
  | .lanternBind t c => Sys2Proof.Machine.execLanternBind t c s
  | .lanternRelease t c => Sys2Proof.Machine.execLanternRelease t c s
  | .laneConfig t c => Sys2Proof.Machine.execLaneConfig t c s
  | .laneRequest t c => Sys2Proof.Machine.execLaneRequest t c s
  | .lanePacketSend t c => Sys2Proof.Machine.execLanePacketSend t c s
  | .timeConfigure t c => Sys2Proof.Machine.execTimeConfigure t c s
  | .setTime t c => Sys2Proof.Machine.execSetTime t c s
  | .readStamps t c => Sys2Proof.Machine.execReadStamps t c s
  | .timeStatus t c => Sys2Proof.Machine.execTimeStatus t c s
  | .encoderConfigure t c => Sys2Proof.Machine.execEncoderConfigure t c s
  | .setCount t c => Sys2Proof.Machine.execSetCount t c s
  | .divider t c => Sys2Proof.Machine.execDivider t c s
  | .encoderStatus t c => Sys2Proof.Machine.execEncoderStatus t c s
  | .encoderRelease t c => Sys2Proof.Machine.execEncoderRelease t c s
  | .seqLoad t c => Sys2Proof.Machine.execSeqLoad t c s
  | .targetConfig t c => Sys2Proof.Machine.execTargetConfig t c s
  | .triggerStart t c => Sys2Proof.Machine.execTriggerStart t c s
  | .triggerHalt t c => Sys2Proof.Machine.execTriggerHalt t c s
  | .triggerSlotArm t c => Sys2Proof.Machine.execTriggerSlotArm t c s
  | .triggerSlotDisarm t c => Sys2Proof.Machine.execTriggerSlotDisarm t c s
  | .triggerHandover t c => Sys2Proof.Machine.execTriggerHandover t c s
  | .gioConfig t c => Sys2Proof.Machine.execGioConfig t c s
  | .eventBind t c => Sys2Proof.Machine.execEventBind t c s
  | .eventSignal t c => Sys2Proof.Machine.execEventSignal t c s
  | .eventGroups t c => Sys2Proof.Machine.execEventGroups t c s
  | .eventStatus t c => Sys2Proof.Machine.execEventStatus t c s
  | .eventRelease t c => Sys2Proof.Machine.execEventRelease t c s
  | .modeSet t c => Sys2Proof.Machine.execModeSet t c s
  | .modeTransitionComplete t => Sys2Proof.Machine.execModeTransitionComplete t s
  | .modeSetStreamSnuff t => Sys2Proof.Machine.execModeSetStreamSnuff t s
  | .keepPowerDown t => Sys2Proof.Machine.execKeepPowerDown t s
  | .sparePlan t c => Sys2Proof.Machine.execSparePlan t c s
  | .spareForce t c => Sys2Proof.Machine.execSpareForce t c s
  | .spareRetire t c => Sys2Proof.Machine.execSpareRetire t c s
  | .sparePolicy t c => Sys2Proof.Machine.execSparePolicy t c s
  | .patrolConfig t c => Sys2Proof.Machine.execPatrolConfig t c s
  | .journalTargets t c => Sys2Proof.Machine.execJournalTargets t c s
  | .journalMark t c => Sys2Proof.Machine.execJournalMark t c s
  | .readNv t c => Sys2Proof.Machine.execReadNv t c s
  | .thaw t c => Sys2Proof.Machine.execThaw t c s
  | .journalStatus t c => Sys2Proof.Machine.execJournalStatus t c s
  | .recordArea t c => Sys2Proof.Machine.execRecordArea t c s
  | .recordStart t c => Sys2Proof.Machine.execRecordStart t c s
  | .recordStop t c => Sys2Proof.Machine.execRecordStop t c s
  | .recordExport t c => Sys2Proof.Machine.execRecordExport t c s
  | .recordStatus t c => Sys2Proof.Machine.execRecordStatus t c s
  | .replayAdd t c => Sys2Proof.Machine.execReplayAdd t c s
  | .replayStart t c => Sys2Proof.Machine.execReplayStart t c s
  | .replayPause t c => Sys2Proof.Machine.execReplayPause t c s
  | .replayResume t c => Sys2Proof.Machine.execReplayResume t c s
  | .replayEnd t c => Sys2Proof.Machine.execReplayEnd t c s
  | .nearLoop t c => Sys2Proof.Machine.execNearLoop t c s
  | .farLoop t c => Sys2Proof.Machine.execFarLoop t c s
  | .pattern t c => Sys2Proof.Machine.execPattern t c s
  | .eyeScan t c => Sys2Proof.Machine.execEyeScan t c s
  | .hbmTest t c => Sys2Proof.Machine.execHbmTest t c s
  | .sliceSelfTest t c => Sys2Proof.Machine.execSliceSelfTest t c s
  | .lanternSelfTest t c => Sys2Proof.Machine.execLanternSelfTest t c s
  | .encoderSelfTest t c => Sys2Proof.Machine.execEncoderSelfTest t c s
  | .abort t c => Sys2Proof.Machine.execAbort t c s
  | .diagTestEnd t id r => Sys2Proof.Machine.execDiagTestEnd t id r s
  | .undefinedOpcode t c => Sys2Proof.Machine.execUndefinedOpcode t c s
  | .signalEnergyPresent t l => Sys2Proof.Machine.execSignalEnergyPresent t l s
  | .adaptLock t l => Sys2Proof.Machine.execAdaptLock t l s
  | .adaptTimeout t l => Sys2Proof.Machine.execAdaptTimeout t l s
  | .alignFound t l direction => Sys2Proof.Machine.execAlignFound t l direction s
  | .alignTimeout t l => Sys2Proof.Machine.execAlignTimeout t l s
  | .helloTimeout t l => Sys2Proof.Machine.execHelloTimeout t l s
  | .helloSend t l => Sys2Proof.Machine.execHelloSend t l s
  | .laneDrop t l cause => Sys2Proof.Machine.execLaneDrop t l cause s
  | .retrainTimeout t l => Sys2Proof.Machine.execRetrainTimeout t l s
  | .laneLost t l => Sys2Proof.Machine.execLaneLost t l s
  | .hcrcError t l w => Sys2Proof.Machine.execHcrcError t l w s
  | .undefinedDt t l k => Sys2Proof.Machine.execUndefinedDt t l k s
  | .hello t l k => Sys2Proof.Machine.execHello t l k s
  | .frameStart t l k => Sys2Proof.Machine.execFrameStart t l k s
  | .frameEnd t l k => Sys2Proof.Machine.execFrameEnd t l k s
  | .lineStart t l k => Sys2Proof.Machine.execLineStart t l k s
  | .lineEnd t l k => Sys2Proof.Machine.execLineEnd t l k s
  | .pixelPacket t l k => Sys2Proof.Machine.execPixelPacket t l k s
  | .exposureReport t l k => Sys2Proof.Machine.execExposureReport t l k s
  | .cameraEvent t l k => Sys2Proof.Machine.execCameraEvent t l k s
  | .controlResponse t l k => Sys2Proof.Machine.execControlResponse t l k s
  | .retransmit t l sensor => Sys2Proof.Machine.execRetransmit t l sensor s
  | .laneRequestTimeout t l sensor => Sys2Proof.Machine.execLaneRequestTimeout t l sensor s
  | .timeSync t l => Sys2Proof.Machine.execTimeSync t l s
  | .timeSyncResponse t l k frac => Sys2Proof.Machine.execTimeSyncResponse t l k frac s
  | .tsyncMissed t l => Sys2Proof.Machine.execTsyncMissed t l s
  | .triggerImmediate t l tg => Sys2Proof.Machine.execTriggerImmediate t l tg s
  | .triggerScheduled t l tg => Sys2Proof.Machine.execTriggerScheduled t l tg s
  | .halt t l => Sys2Proof.Machine.execHalt t l s
  | .rateSwitch t l => Sys2Proof.Machine.execRateSwitch t l s
  | .synthesiserLock t l => Sys2Proof.Machine.execSynthesiserLock t l s
  | .downlinkReady t l => Sys2Proof.Machine.execDownlinkReady t l s
  | .backgroundRecalibration t l => Sys2Proof.Machine.execBackgroundRecalibration t l s
  | .recalDeferred t l => Sys2Proof.Machine.execRecalDeferred t l s
  | .shareWindowEnd t l => Sys2Proof.Machine.execShareWindowEnd t l s
  | .ethernetFrame t l f => Sys2Proof.Machine.execEthernetFrame t l f s
  | .gvspPacket t l f => Sys2Proof.Machine.execGvspPacket t l f s
  | .pcsAlignmentLoss t l => Sys2Proof.Machine.execPcsAlignmentLoss t l s
  | .ethernetRetrainTimeout t l => Sys2Proof.Machine.execEthernetRetrainTimeout t l s
  | .lineTimeout t c => Sys2Proof.Machine.execLineTimeout t c s
  | .frameTimeout t c => Sys2Proof.Machine.execFrameTimeout t c s
  | .lineEntry t n => Sys2Proof.Machine.execLineEntry t n s
  | .frameEntry t n => Sys2Proof.Machine.execFrameEntry t n s
  | .frameExit t n => Sys2Proof.Machine.execFrameExit t n s
  | .lanternOverrun t n => Sys2Proof.Machine.execLanternOverrun t n s
  | .normalHandlerEntry t n => Sys2Proof.Machine.execNormalHandlerEntry t n s
  | .fastHandlerEntry t n => Sys2Proof.Machine.execFastHandlerEntry t n s
  | .lanternHoldoffExpiry t n => Sys2Proof.Machine.execLanternHoldoffExpiry t n s
  | .gatherDone t n => Sys2Proof.Machine.execGatherDone t n s
  | .go t n v => Sys2Proof.Machine.execGo t n v s
  | .pendingSet t n w => Sys2Proof.Machine.execPendingSet t n w s
  | .pendingClr t n w => Sys2Proof.Machine.execPendingClr t n w s
  | .maskSet t n w => Sys2Proof.Machine.execMaskSet t n w s
  | .maskClr t n w => Sys2Proof.Machine.execMaskClr t n w s
  | .claimNormal t n => Sys2Proof.Machine.execClaimNormal t n s
  | .claimFast t n => Sys2Proof.Machine.execClaimFast t n s
  | .complete t n v => Sys2Proof.Machine.execComplete t n v s
  | .doorbell t n v => Sys2Proof.Machine.execDoorbell t n v s
  | .count t n g => Sys2Proof.Machine.execCount t n g s
  | .illegal t n w => Sys2Proof.Machine.execIllegal t n w s
  | .add t n w => Sys2Proof.Machine.execAdd t n w s
  | .sub t n w => Sys2Proof.Machine.execSub t n w s
  | .and t n w => Sys2Proof.Machine.execAnd t n w s
  | .or t n w => Sys2Proof.Machine.execOr t n w s
  | .xor t n w => Sys2Proof.Machine.execXor t n w s
  | .sll t n w => Sys2Proof.Machine.execSll t n w s
  | .srl t n w => Sys2Proof.Machine.execSrl t n w s
  | .sra t n w => Sys2Proof.Machine.execSra t n w s
  | .slt t n w => Sys2Proof.Machine.execSlt t n w s
  | .sltu t n w => Sys2Proof.Machine.execSltu t n w s
  | .min t n w => Sys2Proof.Machine.execMin t n w s
  | .max t n w => Sys2Proof.Machine.execMax t n w s
  | .minu t n w => Sys2Proof.Machine.execMinu t n w s
  | .maxu t n w => Sys2Proof.Machine.execMaxu t n w s
  | .mul t n w => Sys2Proof.Machine.execMul t n w s
  | .mulh t n w => Sys2Proof.Machine.execMulh t n w s
  | .mulhu t n w => Sys2Proof.Machine.execMulhu t n w s
  | .jalr t n w => Sys2Proof.Machine.execJalr t n w s
  | .addi t n w => Sys2Proof.Machine.execAddi t n w s
  | .andi t n w => Sys2Proof.Machine.execAndi t n w s
  | .ori t n w => Sys2Proof.Machine.execOri t n w s
  | .xori t n w => Sys2Proof.Machine.execXori t n w s
  | .slti t n w => Sys2Proof.Machine.execSlti t n w s
  | .sltiu t n w => Sys2Proof.Machine.execSltiu t n w s
  | .lui t n w => Sys2Proof.Machine.execLui t n w s
  | .shi t n w => Sys2Proof.Machine.execShi t n w s
  | .lw t n w => Sys2Proof.Machine.execLw t n w s
  | .lh t n w => Sys2Proof.Machine.execLh t n w s
  | .lhu t n w => Sys2Proof.Machine.execLhu t n w s
  | .lb t n w => Sys2Proof.Machine.execLb t n w s
  | .lbu t n w => Sys2Proof.Machine.execLbu t n w s
  | .sw t n w => Sys2Proof.Machine.execSw t n w s
  | .sh t n w => Sys2Proof.Machine.execSh t n w s
  | .sb t n w => Sys2Proof.Machine.execSb t n w s
  | .vld t n w => Sys2Proof.Machine.execVld t n w s
  | .vst t n w => Sys2Proof.Machine.execVst t n w s
  | .beq t n w => Sys2Proof.Machine.execBeq t n w s
  | .bne t n w => Sys2Proof.Machine.execBne t n w s
  | .blt t n w => Sys2Proof.Machine.execBlt t n w s
  | .bge t n w => Sys2Proof.Machine.execBge t n w s
  | .bltu t n w => Sys2Proof.Machine.execBltu t n w s
  | .bgeu t n w => Sys2Proof.Machine.execBgeu t n w s
  | .jal t n w => Sys2Proof.Machine.execJal t n w s
  | .bp t n w => Sys2Proof.Machine.execBp t n w s
  | .vadd t n w => Sys2Proof.Machine.execVadd t n w s
  | .vsub t n w => Sys2Proof.Machine.execVsub t n w s
  | .vadds t n w => Sys2Proof.Machine.execVadds t n w s
  | .vsubs t n w => Sys2Proof.Machine.execVsubs t n w s
  | .vmin t n w => Sys2Proof.Machine.execVmin t n w s
  | .vmax t n w => Sys2Proof.Machine.execVmax t n w s
  | .vmins t n w => Sys2Proof.Machine.execVmins t n w s
  | .vmaxs t n w => Sys2Proof.Machine.execVmaxs t n w s
  | .vand t n w => Sys2Proof.Machine.execVand t n w s
  | .vor t n w => Sys2Proof.Machine.execVor t n w s
  | .vxor t n w => Sys2Proof.Machine.execVxor t n w s
  | .vsll t n w => Sys2Proof.Machine.execVsll t n w s
  | .vsrl t n w => Sys2Proof.Machine.execVsrl t n w s
  | .vsra t n w => Sys2Proof.Machine.execVsra t n w s
  | .vabsd t n w => Sys2Proof.Machine.execVabsd t n w s
  | .vavg t n w => Sys2Proof.Machine.execVavg t n w s
  | .vmul t n w => Sys2Proof.Machine.execVmul t n w s
  | .vmulh t n w => Sys2Proof.Machine.execVmulh t n w s
  | .vmulsh t n w => Sys2Proof.Machine.execVmulsh t n w s
  | .vmacw t n w => Sys2Proof.Machine.execVmacw t n w s
  | .vsel t n w => Sys2Proof.Machine.execVsel t n w s
  | .veq t n w => Sys2Proof.Machine.execVeq t n w s
  | .vne t n w => Sys2Proof.Machine.execVne t n w s
  | .vltu t n w => Sys2Proof.Machine.execVltu t n w s
  | .vgeu t n w => Sys2Proof.Machine.execVgeu t n w s
  | .vlt t n w => Sys2Proof.Machine.execVlt t n w s
  | .vge t n w => Sys2Proof.Machine.execVge t n w s
  | .pand t n w => Sys2Proof.Machine.execPand t n w s
  | .por t n w => Sys2Proof.Machine.execPor t n w s
  | .pxor t n w => Sys2Proof.Machine.execPxor t n w s
  | .pnot t n w => Sys2Proof.Machine.execPnot t n w s
  | .vbcast t n w => Sys2Proof.Machine.execVbcast t n w s
  | .vslide t n w => Sys2Proof.Machine.execVslide t n w s
  | .vmove t n w => Sys2Proof.Machine.execVmove t n w s
  | .pfroms t n w => Sys2Proof.Machine.execPfroms t n w s
  | .ptos t n w => Sys2Proof.Machine.execPtos t n w s
  | .mfsr t n w => Sys2Proof.Machine.execMfsr t n w s
  | .mtsr t n w => Sys2Proof.Machine.execMtsr t n w s
  | .lend t n w => Sys2Proof.Machine.execLend t n w s
  | .ldrop t n w => Sys2Proof.Machine.execLdrop t n w s
  | .wait t n w => Sys2Proof.Machine.execWait t n w s
  | .reti t n w => Sys2Proof.Machine.execReti t n w s
  | .vblk t n w => Sys2Proof.Machine.execVblk t n w s
  | .vfir t n w => Sys2Proof.Machine.execVfir t n w s
  | .vgath t n w => Sys2Proof.Machine.execVgath t n w s
  | .vscan t n w => Sys2Proof.Machine.execVscan t n w s
  | .vhist t n w => Sys2Proof.Machine.execVhist t n w s
  | .vred t n w => Sys2Proof.Machine.execVred t n w s
  | .timeCompareFire t q slot => Sys2Proof.Machine.execTimeCompareFire t q slot s
  | .sequencerTimerExpiry t q tm => Sys2Proof.Machine.execSequencerTimerExpiry t q tm s
  | .sequencerStartInstant t q => Sys2Proof.Machine.execSequencerStartInstant t q s
  | .transition t q h => Sys2Proof.Machine.execTransition t q h s
  | .heldFireRelease t tg => Sys2Proof.Machine.execHeldFireRelease t tg s
  | .gioPulseStart t tg => Sys2Proof.Machine.execGioPulseStart t tg s
  | .gioPulseEnd t tg => Sys2Proof.Machine.execGioPulseEnd t tg s
  | .gioEdge t g level sub => Sys2Proof.Machine.execGioEdge t g level sub s
  | .quadratureEdge t e a b sub => Sys2Proof.Machine.execQuadratureEdge t e a b sub s
  | .stepEdge t e step dir sub => Sys2Proof.Machine.execStepEdge t e step dir sub s
  | .upDownEdge t e up down sub => Sys2Proof.Machine.execUpDownEdge t e up down sub s
  | .hallChange t e u v w sub => Sys2Proof.Machine.execHallChange t e u v w sub s
  | .zEdge t e level sub => Sys2Proof.Machine.execZEdge t e level sub s
  | .wireFault t e pair enter => Sys2Proof.Machine.execWireFault t e pair enter s
  | .serialFrameStart t e => Sys2Proof.Machine.execSerialFrameStart t e s
  | .serialReading t e r => Sys2Proof.Machine.execSerialReading t e r s
  | .observerUpdate t e => Sys2Proof.Machine.execObserverUpdate t e s
  | .positionCompareFire t q slot => Sys2Proof.Machine.execPositionCompareFire t q slot s
  | .dividerOutputEdge t e => Sys2Proof.Machine.execDividerOutputEdge t e s
  | .ptpMessage t x f sub => Sys2Proof.Machine.execPtpMessage t x f sub s
  | .ptpMasterTransmit t x k => Sys2Proof.Machine.execPtpMasterTransmit t x k s
  | .sourceLost t k => Sys2Proof.Machine.execSourceLost t k s
  | .ppsInEdge t sub => Sys2Proof.Machine.execPpsInEdge t sub s
  | .ppsOutRise t => Sys2Proof.Machine.execPpsOutRise t s
  | .ppsOutFall t => Sys2Proof.Machine.execPpsOutFall t s
  | .tpLink t up => Sys2Proof.Machine.execTpLink t up s
  | .periodic t ch => Sys2Proof.Machine.execPeriodic t ch s
  | .eventArrival t ch slot => Sys2Proof.Machine.execEventArrival t ch slot s
  | .consumerFree t ch slot => Sys2Proof.Machine.execConsumerFree t ch slot s
  | .frameTagWrite t st => Sys2Proof.Machine.execFrameTagWrite t st s
  | .payloadWriteGrant t st => Sys2Proof.Machine.execPayloadWriteGrant t st s
  | .streamBlocked t st cause => Sys2Proof.Machine.execStreamBlocked t st cause s
  | .stall t st => Sys2Proof.Machine.execStall t st s
  | .stallEnd t st => Sys2Proof.Machine.execStallEnd t st s
  | .auxDone t ax => Sys2Proof.Machine.execAuxDone t ax s
  | .hardFault t pool unit part => Sys2Proof.Machine.execHardFault t pool unit part s
  | .spareTakeover t pool unit lostWords => Sys2Proof.Machine.execSpareTakeover t pool unit lostWords s
  | .correctedError t pool unit part => Sys2Proof.Machine.execCorrectedError t pool unit part s
  | .hbmUncorrectable t channel row x => Sys2Proof.Machine.execHbmUncorrectable t channel row x s
  | .hbmStackLost t k => Sys2Proof.Machine.execHbmStackLost t k s
  | .patrolResult t c r => Sys2Proof.Machine.execPatrolResult t c r s
  | .lockstepMismatch t => Sys2Proof.Machine.execLockstepMismatch t s
  | .heartbeatLate t => Sys2Proof.Machine.execHeartbeatLate t s
  | .standbyResume t => Sys2Proof.Machine.execStandbyResume t s
  | .supervisorSelfTestDone t pass => Sys2Proof.Machine.execSupervisorSelfTestDone t pass s
  | .guardFault t g => Sys2Proof.Machine.execGuardFault t g s
  | .dark t => Sys2Proof.Machine.execDark t s
  | .darkDrainEnd t p => Sys2Proof.Machine.execDarkDrainEnd t p s
  | .darkPinLow t => Sys2Proof.Machine.execDarkPinLow t s
  | .eventWindowEnd t => Sys2Proof.Machine.execEventWindowEnd t s
  | .journalEmit t => Sys2Proof.Machine.execJournalEmit t s
  | .sync t => Sys2Proof.Machine.execSync t s
  | .nvBlockWrite t bad => Sys2Proof.Machine.execNvBlockWrite t bad s
  | .fatalFreeze t => Sys2Proof.Machine.execFatalFreeze t s
  | .healthNvWrite t => Sys2Proof.Machine.execHealthNvWrite t s
  | .replayItemPresent t f => Sys2Proof.Machine.execReplayItemPresent t f s
  | .porstAssert t => Sys2Proof.Machine.execPorstAssert t s
  | .porstRelease t straps => Sys2Proof.Machine.execPorstRelease t straps s
  | .warmrstAssert t => Sys2Proof.Machine.execWarmrstAssert t s
  | .warmrstRelease t => Sys2Proof.Machine.execWarmrstRelease t s
  | .guardReset t x => Sys2Proof.Machine.execGuardReset t x s
  | .guardResetEnd t => Sys2Proof.Machine.execGuardResetEnd t s
  | .pwrGood t => Sys2Proof.Machine.execPwrGood t s
  | .firmwareVerified t failA passB => Sys2Proof.Machine.execFirmwareVerified t failA passB s
  | .hbmTrained t failed => Sys2Proof.Machine.execHbmTrained t failed s
  | .cagePowerEnable t b => Sys2Proof.Machine.execCagePowerEnable t b s
  | .cageResetRelease t b => Sys2Proof.Machine.execCageResetRelease t b s
  | .startUpSelfTestsDone t failed => Sys2Proof.Machine.execStartUpSelfTestsDone t failed s
  | .startDone t => Sys2Proof.Machine.execStartDone t s
  | .feedApplied t f => Sys2Proof.Machine.execFeedApplied t f s
  | .feedOutOfRange t f otherNear => Sys2Proof.Machine.execFeedOutOfRange t f otherNear s
  | .feedQualified t f => Sys2Proof.Machine.execFeedQualified t f s
  | .feedReturnStart t f => Sys2Proof.Machine.execFeedReturnStart t f s
  | .collapse t hold => Sys2Proof.Machine.execCollapse t hold s
  | .holdExhausted t => Sys2Proof.Machine.execHoldExhausted t s
  | .lrefclkAbsent t k => Sys2Proof.Machine.execLrefclkAbsent t k s
  | .lrefclkReturn t k => Sys2Proof.Machine.execLrefclkReturn t k s
  | .hprefclkAbsent t p => Sys2Proof.Machine.execHprefclkAbsent t p s
  | .emberReferenceAbsent t => Sys2Proof.Machine.execEmberReferenceAbsent t s
  | .identity t x => Sys2Proof.Machine.execIdentity t x s
  | .mgStatus t x => Sys2Proof.Machine.execMgStatus t x s
  | .time t x => Sys2Proof.Machine.execTime t x s
  | .temp t x v => Sys2Proof.Machine.execTemp t x v s
  | .fatalCount t x => Sys2Proof.Machine.execFatalCount t x s
  | .fatalIndex t x => Sys2Proof.Machine.execFatalIndex t x s
  | .fatalSlot t x => Sys2Proof.Machine.execFatalSlot t x s
  | .poolIndex t x => Sys2Proof.Machine.execPoolIndex t x s
  | .pool t x => Sys2Proof.Machine.execPool t x s
  | .alertStatus t x => Sys2Proof.Machine.execAlertStatus t x s
  | .alertMask t x => Sys2Proof.Machine.execAlertMask t x s
  | .notifyConfig t x => Sys2Proof.Machine.execNotifyConfig t x s
  | .thermLimit t x => Sys2Proof.Machine.execThermLimit t x s
  | .cgXfer t x => Sys2Proof.Machine.execCgXfer t x s
  | .cgResult t x => Sys2Proof.Machine.execCgResult t x s
  | .cgCycle t x => Sys2Proof.Machine.execCgCycle t x s
  | .cgCycleMs t x => Sys2Proof.Machine.execCgCycleMs t x s
  | .wake t x => Sys2Proof.Machine.execWake t x s
  | .guardArm t x => Sys2Proof.Machine.execGuardArm t x s
  | .guardArmExpiry t => Sys2Proof.Machine.execGuardArmExpiry t s
  | .mgUndefinedCommand t code => Sys2Proof.Machine.execMgUndefinedCommand t code s
  | .alertResponse t won => Sys2Proof.Machine.execAlertResponse t won s
  | .hostNotify t x => Sys2Proof.Machine.execHostNotify t x s
  | .hostNotifyRetry t x => Sys2Proof.Machine.execHostNotifyRetry t x s
  | .mgTimeout t => Sys2Proof.Machine.execMgTimeout t s
  | .keepAddressWake t => Sys2Proof.Machine.execKeepAddressWake t s
  | .keepClockStop t => Sys2Proof.Machine.execKeepClockStop t s
  | .mgHung t sda scl => Sys2Proof.Machine.execMgHung t sda scl s
  | .cgXferComplete t x => Sys2Proof.Machine.execCgXferComplete t x s
  | .cgArbitrationRetry t => Sys2Proof.Machine.execCgArbitrationRetry t s
  | .cgHang t sclLow data => Sys2Proof.Machine.execCgHang t sclLow data s
  | .cgRecovery t b freed => Sys2Proof.Machine.execCgRecovery t b freed s
  | .moduleCycled t b idle => Sys2Proof.Machine.execModuleCycled t b idle s
  | .thermal t v => Sys2Proof.Machine.execThermal t v s
  | .trstLow t => Sys2Proof.Machine.execTrstLow t s
  | .extest t => Sys2Proof.Machine.execExtest t s
  | .idcode t => Sys2Proof.Machine.execIdcode t s
  | .samplePreload t => Sys2Proof.Machine.execSamplePreload t s
  | .extestPulse t => Sys2Proof.Machine.execExtestPulse t s
  | .extestTrain t => Sys2Proof.Machine.execExtestTrain t s
  | .clamp t => Sys2Proof.Machine.execClamp t s
  | .highz t => Sys2Proof.Machine.execHighz t s
  | .scanStatus t => Sys2Proof.Machine.execScanStatus t s
  | .bypass t => Sys2Proof.Machine.execBypass t s
  | .ptpDelayRequestTransmit t => Sys2Proof.Machine.execPtpDelayRequestTransmit t s
  | .setTimePpsTimeout t => Sys2Proof.Machine.execSetTimePpsTimeout t s
  | .commandCompletion t r f => Sys2Proof.Machine.execCommandCompletion t r f s
  | .localStoreCopyComplete t n => Sys2Proof.Machine.execLocalStoreCopyComplete t n s
  | .plannedSpareInSwitch t pool unit => Sys2Proof.Machine.execPlannedSpareInSwitch t pool unit s
  | .pllLock t => Sys2Proof.Machine.execPllLock t s
  | .tapClock t tms tdi => Sys2Proof.Machine.execTapClock t tms tdi s
  | .emberReferenceReturn t => Sys2Proof.Machine.execEmberReferenceReturn t s
  | .hprefclkStable t p => Sys2Proof.Machine.execHprefclkStable t p s
  | .pcsAlignmentLock t l => Sys2Proof.Machine.execPcsAlignmentLock t l s

end Sys2Proof.Machine
end

