-- ==== Sys2Proof/WellFormed.lean ====
section
/-!
DEFINITION. What a command must be for the block to meet it: a ring command spells the row it is (03 R109), and the operands of an
event lie in the ranges the manual gives them.
-/

namespace Sys2Proof

/-! ### Ring commands (03 R101, R109) -/

/-- The byte of a command entry at an offset. -/
def RingCmd.byte (c : RingCmd) (off : Nat) : Nat := (c.e.extractLsb' (8 * off) 8).toNat

/-- OPCODE (03 R101). -/
def RingCmd.opcode (c : RingCmd) : Nat := c.byte 0

/-- The entry has this opcode. -/
def RingCmd.spells (c : RingCmd) (op : Nat) : Bool := c.opcode == op

/-- The OP, KIND or TEST in the low w bits of byte 0x08 is k. -/
def RingCmd.sub (c : RingCmd) (w k : Nat) : Bool := c.byte 8 % 2 ^ w == k

/-- The OP, KIND or TEST in the low w bits of byte 0x08 is k or above. A reserved value belongs to the first row of its opcode. -/
def RingCmd.subFrom (c : RingCmd) (w k : Nat) : Bool := k ≤ c.byte 8 % 2 ^ w

/-- One bit of an operand byte. -/
def RingCmd.flag (c : RingCmd) (off bit : Nat) : Bool := c.byte off / 2 ^ bit % 2 == 1

/-- The opcodes of 03 R109. -/
def opcodes : List Nat :=
  [0x01, 0x02, 0x03, 0x04, 0x05, 0x06, 0x07, 0x10, 0x11, 0x12, 0x13, 0x14, 0x15, 0x16, 0x20, 0x21, 0x22, 0x23, 0x28, 0x29, 0x2A, 0x30, 0x31, 0x32, 0x38, 0x39, 0x3A, 0x3B, 0x3C, 0x3D, 0x3E, 0x40, 0x41, 0x48, 0x49, 0x4A, 0x4B, 0x4C, 0x4D, 0x4E]

/-! ### Operands of events -/

/-- A write of 1, 2, 4 or 8 bytes; another size is a COMPLETER_ABORT (02 R45). -/
def RegWrite.wf (w : RegWrite) : Bool :=
  match w with
  | .bar0 _ size _ _ => [1, 2, 4, 8].contains size
  | .config _ _ => true

/-- A rate of the link, in units of 0.1 GT/s (02 R42). -/
def linkRate (rate : Nat) : Bool := [25, 50, 80, 160, 320, 640].contains rate

/-- A width of the link (02 R42). -/
def linkWidth (width : Nat) : Bool := [1, 2, 4, 8, 16].contains width

/-- A payload of at most 65,535 bytes (04 R142). -/
def LanePkt.wf (k : LanePkt) : Bool := k.payload.length ≤ 65535

/-- A frame from the destination address to the frame check sequence, no shorter than 18 bytes (04 R169). -/
def EthFrame.wf (f : EthFrame) : Bool := 18 ≤ f.bytes.length

/-- A source kind of 1 to 6 (12 R422), an index and an edge of one byte. -/
def Happening.wf (h : Happening) : Bool := 1 ≤ h.kind && h.kind ≤ 6 && decide (h.index < 256) && h.edge ≤ 2

/-- A frame of at most 64 data bits (11 R392). -/
def SerialReading.wf (r : SerialReading) : Bool := decide (r.frame < 2 ^ 64)

/-- A verdict of 0 or 1, and a count of its width (20 R661). -/
def TestResult.wf (r : TestResult) : Bool := r.verdict ≤ 1 && decide (r.errors < 2 ^ 64)

/-- At most 32 data bytes with their count and the PEC (18 R597, R598). -/
def MgTransfer.wf (x : MgTransfer) : Bool :=
  match x with
  | .write bytes => bytes.length ≤ 34
  | .read _ => true

/-- At most 32 bytes read (18 R612). -/
def CgEnd.wf (x : CgEnd) : Bool :=
  match x with
  | .done data _ => data.length ≤ 33
  | .noAddress | .noByte => true

/-! ### Lantern instructions (09 R323) -/

/-- The word has this major opcode, in bits [31:26]. -/
def spellsMajor (w : Word) (m : Nat) : Bool := w.toNat / 2 ^ 26 == m

/-- The word has this major opcode, and this minor in bits [5:0]. -/
def spellsMinor (w : Word) (m k : Nat) : Bool := spellsMajor w m && w.toNat % 2 ^ 6 == k

/-- The word has this major opcode, and this minor in bits [7:0]. -/
def spellsVMinor (w : Word) (m k : Nat) : Bool := spellsMajor w m && w.toNat % 2 ^ 8 == k

/-! ### Commands -/

/-- A command is well formed. -/
def Instr.wf (i : Instr) : Bool :=
  match i with
  | .registerWrite _ _ w => w.wf
  | .kick _ _ => true
  | .bringUp _ _ => true
  | .takeDown _ _ => true
  | .restartRing0 _ _ => true
  | .restartRing1 _ _ => true
  | .setupActionComplete _ _ => true
  | .functionLevelReset _ _ => true
  | .flrComplete _ _ => true
  | .hotReset _ _ => true
  | .dlDown _ _ => true
  | .linkUp _ _ rate width => linkRate rate && linkWidth width
  | .portReady _ _ => true
  | .d3hotEntry _ _ => true
  | .d0Return _ _ => true
  | .busMasterDisable _ _ => true
  | .busMasterEnable _ _ => true
  | .interruptEnableChange _ _ _ _ => true
  | .interruptDisable _ _ => true
  | .msixVectorUnmask _ _ _ => true
  | .linkCapacityChange _ _ rate width => linkRate rate && linkWidth width
  | .l0pRequest _ _ width => linkWidth width
  | .l0pNarrow _ _ => true
  | .aspmL1Entry _ _ => true
  | .malformedTlp _ _ _ _ => true
  | .unsupportedRequest _ _ _ _ => true
  | .completerAbort _ _ _ _ => true
  | .poisonedTlpReceived _ _ _ => true
  | .unexpectedCompletion _ _ _ => true
  | .hostReadFailure _ _ _ tries _ _ => tries ≤ 3
  | .holdoffExpiry _ _ _ => true
  | .msixSpacingExpiry _ _ _ => true
  | .poll _ _ ws => ws.all (fun q => decide (q.1 < 1024))
  | .idlePoll _ _ ws => ws.all (fun q => decide (q.1 < 1024))
  | .descriptorFetch _ _ _ _ => true
  | .nop _ c => c.spells 0x01
  | .ringCreate _ c => c.spells 0x02
  | .ringDestroy _ c => c.spells 0x03
  | .ringModerate _ c => c.spells 0x04
  | .portConfig _ c => c.spells 0x05
  | .claimPass _ c => c.spells 0x06
  | .queryVersion _ c => c.spells 0x07 && c.sub 4 0
  | .queryHealth _ c => c.spells 0x07 && c.sub 4 1
  | .queryLedger _ c => c.spells 0x07 && c.sub 4 2
  | .queryCounters _ c => c.spells 0x07 && c.subFrom 4 3
  | .streamConfig _ c => c.spells 0x10
  | .streamStart _ c => c.spells 0x11
  | .streamStop _ c => c.spells 0x12
  | .streamMove _ c => c.spells 0x13
  | .streamRelease _ c => c.spells 0x14
  | .moverStop _ c => c.spells 0x15 && (c.sub 3 0 || c.subFrom 3 5)
  | .moverSnuff _ c => c.spells 0x15 && c.sub 3 1
  | .moverResume _ c => c.spells 0x15 && c.sub 3 2
  | .moverPace _ c => c.spells 0x15 && c.sub 3 3
  | .moverSpool _ c => c.spells 0x15 && c.sub 3 4
  | .mapRun _ c => c.spells 0x16 && (c.sub 2 0 || c.subFrom 2 3)
  | .mapList _ c => c.spells 0x16 && c.sub 2 1
  | .mapUnmap _ c => c.spells 0x16 && c.sub 2 2
  | .sconceConfig _ c => c.spells 0x20 && !c.flag 0xA 0
  | .sconceRelease _ c => c.spells 0x20 && c.flag 0xA 0
  | .tableLoad _ c => c.spells 0x21
  | .tableRelease _ c => c.spells 0x22
  | .paramSet _ c => c.spells 0x23
  | .kernelLoad _ c => c.spells 0x28
  | .kernelSwap _ c => c.spells 0x29
  | .lanternBind _ c => c.spells 0x2A && !c.flag 8 6
  | .lanternRelease _ c => c.spells 0x2A && c.flag 8 6
  | .laneConfig _ c => c.spells 0x30
  | .laneRequest _ c => c.spells 0x31
  | .lanePacketSend _ c => c.spells 0x32
  | .timeConfigure _ c => c.spells 0x38 && (c.sub 3 0 || c.subFrom 3 4)
  | .setTime _ c => c.spells 0x38 && c.sub 3 1
  | .readStamps _ c => c.spells 0x38 && c.sub 3 2
  | .timeStatus _ c => c.spells 0x38 && c.sub 3 3
  | .encoderConfigure _ c => c.spells 0x39 && (c.sub 3 0 || c.subFrom 3 5)
  | .setCount _ c => c.spells 0x39 && c.sub 3 1
  | .divider _ c => c.spells 0x39 && c.sub 3 2
  | .encoderStatus _ c => c.spells 0x39 && c.sub 3 3
  | .encoderRelease _ c => c.spells 0x39 && c.sub 3 4
  | .seqLoad _ c => c.spells 0x3A
  | .targetConfig _ c => c.spells 0x3B
  | .triggerStart _ c => c.spells 0x3C && (c.sub 3 0 || c.subFrom 3 4)
  | .triggerHalt _ c => c.spells 0x3C && c.sub 3 1
  | .triggerSlotArm _ c => c.spells 0x3C && c.sub 3 2
  | .triggerSlotDisarm _ c => c.spells 0x3C && c.sub 3 3
  | .triggerHandover _ c => c.spells 0x3D
  | .gioConfig _ c => c.spells 0x3E
  | .eventBind _ c => c.spells 0x40 && (c.sub 3 0 || c.subFrom 3 4)
  | .eventSignal _ c => c.spells 0x40 && c.sub 3 1
  | .eventGroups _ c => c.spells 0x40 && c.sub 3 2
  | .eventStatus _ c => c.spells 0x40 && c.sub 3 3
  | .eventRelease _ c => c.spells 0x41
  | .modeSet _ c => c.spells 0x48
  | .modeTransitionComplete _ => true
  | .modeSetStreamSnuff _ => true
  | .keepPowerDown _ => true
  | .sparePlan _ c => c.spells 0x49 && (c.sub 3 0 || c.subFrom 3 4)
  | .spareForce _ c => c.spells 0x49 && c.sub 3 1
  | .spareRetire _ c => c.spells 0x49 && c.sub 3 2
  | .sparePolicy _ c => c.spells 0x49 && c.sub 3 3
  | .patrolConfig _ c => c.spells 0x4A
  | .journalTargets _ c => c.spells 0x4B && (c.sub 3 0 || c.subFrom 3 5)
  | .journalMark _ c => c.spells 0x4B && c.sub 3 1
  | .readNv _ c => c.spells 0x4B && c.sub 3 2
  | .thaw _ c => c.spells 0x4B && c.sub 3 3
  | .journalStatus _ c => c.spells 0x4B && c.sub 3 4
  | .recordArea _ c => c.spells 0x4C && (c.sub 3 0 || c.subFrom 3 5)
  | .recordStart _ c => c.spells 0x4C && c.sub 3 1
  | .recordStop _ c => c.spells 0x4C && c.sub 3 2
  | .recordExport _ c => c.spells 0x4C && c.sub 3 3
  | .recordStatus _ c => c.spells 0x4C && c.sub 3 4
  | .replayAdd _ c => c.spells 0x4D && (c.sub 3 0 || c.subFrom 3 5)
  | .replayStart _ c => c.spells 0x4D && c.sub 3 1
  | .replayPause _ c => c.spells 0x4D && c.sub 3 2
  | .replayResume _ c => c.spells 0x4D && c.sub 3 3
  | .replayEnd _ c => c.spells 0x4D && c.sub 3 4
  | .nearLoop _ c => c.spells 0x4E && (c.sub 4 0 || c.subFrom 4 9)
  | .farLoop _ c => c.spells 0x4E && c.sub 4 1
  | .pattern _ c => c.spells 0x4E && c.sub 4 2
  | .eyeScan _ c => c.spells 0x4E && c.sub 4 3
  | .hbmTest _ c => c.spells 0x4E && c.sub 4 4
  | .sliceSelfTest _ c => c.spells 0x4E && c.sub 4 5
  | .lanternSelfTest _ c => c.spells 0x4E && c.sub 4 6
  | .encoderSelfTest _ c => c.spells 0x4E && c.sub 4 7
  | .abort _ c => c.spells 0x4E && c.sub 4 8
  | .diagTestEnd _ _ r => r.wf
  | .undefinedOpcode _ c => !(opcodes.contains c.opcode)
  | .signalEnergyPresent _ _ => true
  | .adaptLock _ _ => true
  | .adaptTimeout _ _ => true
  | .alignFound _ _ _ => true
  | .alignTimeout _ _ => true
  | .helloTimeout _ _ => true
  | .helloSend _ _ => true
  | .laneDrop _ _ cause => 1 ≤ cause && cause ≤ 5
  | .retrainTimeout _ _ => true
  | .laneLost _ _ => true
  | .hcrcError _ _ _ => true
  | .undefinedDt _ _ k => k.wf
  | .hello _ _ k => k.wf
  | .frameStart _ _ k => k.wf
  | .frameEnd _ _ k => k.wf
  | .lineStart _ _ k => k.wf
  | .lineEnd _ _ k => k.wf
  | .pixelPacket _ _ k => k.wf
  | .exposureReport _ _ k => k.wf
  | .cameraEvent _ _ k => k.wf
  | .controlResponse _ _ k => k.wf
  | .retransmit _ _ _ => true
  | .laneRequestTimeout _ _ _ => true
  | .timeSync _ _ => true
  | .timeSyncResponse _ _ k _ => k.wf
  | .tsyncMissed _ _ => true
  | .triggerImmediate _ _ _ => true
  | .triggerScheduled _ _ _ => true
  | .halt _ _ => true
  | .rateSwitch _ _ => true
  | .synthesiserLock _ _ => true
  | .downlinkReady _ _ => true
  | .backgroundRecalibration _ _ => true
  | .recalDeferred _ _ => true
  | .shareWindowEnd _ _ => true
  | .ethernetFrame _ _ f => f.wf
  | .gvspPacket _ _ f => f.wf
  | .pcsAlignmentLoss _ _ => true
  | .ethernetRetrainTimeout _ _ => true
  | .lineTimeout _ _ => true
  | .frameTimeout _ _ => true
  | .lineEntry _ _ => true
  | .frameEntry _ _ => true
  | .frameExit _ _ => true
  | .lanternOverrun _ _ => true
  | .normalHandlerEntry _ _ => true
  | .fastHandlerEntry _ _ => true
  | .lanternHoldoffExpiry _ _ => true
  | .gatherDone _ _ => true
  | .go _ _ _ => true
  | .pendingSet _ _ _ => true
  | .pendingClr _ _ _ => true
  | .maskSet _ _ _ => true
  | .maskClr _ _ _ => true
  | .claimNormal _ _ => true
  | .claimFast _ _ => true
  | .complete _ _ _ => true
  | .doorbell _ _ _ => true
  | .count _ _ _ => true
  | .illegal _ _ _ => true
  | .add _ _ w => spellsMinor w 0x00 0x00
  | .sub _ _ w => spellsMinor w 0x00 0x01
  | .and _ _ w => spellsMinor w 0x00 0x02
  | .or _ _ w => spellsMinor w 0x00 0x03
  | .xor _ _ w => spellsMinor w 0x00 0x04
  | .sll _ _ w => spellsMinor w 0x00 0x05
  | .srl _ _ w => spellsMinor w 0x00 0x06
  | .sra _ _ w => spellsMinor w 0x00 0x07
  | .slt _ _ w => spellsMinor w 0x00 0x08
  | .sltu _ _ w => spellsMinor w 0x00 0x09
  | .min _ _ w => spellsMinor w 0x00 0x0A
  | .max _ _ w => spellsMinor w 0x00 0x0B
  | .minu _ _ w => spellsMinor w 0x00 0x0C
  | .maxu _ _ w => spellsMinor w 0x00 0x0D
  | .mul _ _ w => spellsMinor w 0x00 0x10
  | .mulh _ _ w => spellsMinor w 0x00 0x11
  | .mulhu _ _ w => spellsMinor w 0x00 0x12
  | .jalr _ _ w => spellsMinor w 0x00 0x18
  | .addi _ _ w => spellsMajor w 0x01
  | .andi _ _ w => spellsMajor w 0x02
  | .ori _ _ w => spellsMajor w 0x03
  | .xori _ _ w => spellsMajor w 0x04
  | .slti _ _ w => spellsMajor w 0x05
  | .sltiu _ _ w => spellsMajor w 0x06
  | .lui _ _ w => spellsMajor w 0x07
  | .shi _ _ w => spellsMajor w 0x08
  | .lw _ _ w => spellsMajor w 0x10
  | .lh _ _ w => spellsMajor w 0x11
  | .lhu _ _ w => spellsMajor w 0x12
  | .lb _ _ w => spellsMajor w 0x13
  | .lbu _ _ w => spellsMajor w 0x14
  | .sw _ _ w => spellsMajor w 0x15
  | .sh _ _ w => spellsMajor w 0x16
  | .sb _ _ w => spellsMajor w 0x17
  | .vld _ _ w => spellsMajor w 0x18
  | .vst _ _ w => spellsMajor w 0x19
  | .beq _ _ w => spellsMajor w 0x20
  | .bne _ _ w => spellsMajor w 0x21
  | .blt _ _ w => spellsMajor w 0x22
  | .bge _ _ w => spellsMajor w 0x23
  | .bltu _ _ w => spellsMajor w 0x24
  | .bgeu _ _ w => spellsMajor w 0x25
  | .jal _ _ w => spellsMajor w 0x26
  | .bp _ _ w => spellsMajor w 0x27
  | .vadd _ _ w => spellsVMinor w 0x28 0x00
  | .vsub _ _ w => spellsVMinor w 0x28 0x01
  | .vadds _ _ w => spellsVMinor w 0x28 0x02
  | .vsubs _ _ w => spellsVMinor w 0x28 0x03
  | .vmin _ _ w => spellsVMinor w 0x28 0x04
  | .vmax _ _ w => spellsVMinor w 0x28 0x05
  | .vmins _ _ w => spellsVMinor w 0x28 0x06
  | .vmaxs _ _ w => spellsVMinor w 0x28 0x07
  | .vand _ _ w => spellsVMinor w 0x28 0x08
  | .vor _ _ w => spellsVMinor w 0x28 0x09
  | .vxor _ _ w => spellsVMinor w 0x28 0x0A
  | .vsll _ _ w => spellsVMinor w 0x28 0x0B
  | .vsrl _ _ w => spellsVMinor w 0x28 0x0C
  | .vsra _ _ w => spellsVMinor w 0x28 0x0D
  | .vabsd _ _ w => spellsVMinor w 0x28 0x0E
  | .vavg _ _ w => spellsVMinor w 0x28 0x0F
  | .vmul _ _ w => spellsVMinor w 0x28 0x10
  | .vmulh _ _ w => spellsVMinor w 0x28 0x11
  | .vmulsh _ _ w => spellsVMinor w 0x28 0x12
  | .vmacw _ _ w => spellsVMinor w 0x28 0x13
  | .vsel _ _ w => spellsVMinor w 0x28 0x14
  | .veq _ _ w => spellsVMinor w 0x29 0x00
  | .vne _ _ w => spellsVMinor w 0x29 0x01
  | .vltu _ _ w => spellsVMinor w 0x29 0x02
  | .vgeu _ _ w => spellsVMinor w 0x29 0x03
  | .vlt _ _ w => spellsVMinor w 0x29 0x04
  | .vge _ _ w => spellsVMinor w 0x29 0x05
  | .pand _ _ w => spellsVMinor w 0x29 0x08
  | .por _ _ w => spellsVMinor w 0x29 0x09
  | .pxor _ _ w => spellsVMinor w 0x29 0x0A
  | .pnot _ _ w => spellsVMinor w 0x29 0x0B
  | .vbcast _ _ w => spellsVMinor w 0x2A 0x00
  | .vslide _ _ w => spellsVMinor w 0x2A 0x01
  | .vmove _ _ w => spellsVMinor w 0x2A 0x02
  | .pfroms _ _ w => spellsVMinor w 0x2A 0x03
  | .ptos _ _ w => spellsVMinor w 0x2A 0x04
  | .mfsr _ _ w => spellsMajor w 0x30
  | .mtsr _ _ w => spellsMajor w 0x31
  | .lend _ _ w => spellsMinor w 0x3F 0x00
  | .ldrop _ _ w => spellsMinor w 0x3F 0x01
  | .wait _ _ w => spellsMinor w 0x3F 0x02
  | .reti _ _ w => spellsMinor w 0x3F 0x03
  | .vblk _ _ w => spellsMinor w 0x38 0x01
  | .vfir _ _ w => spellsMinor w 0x38 0x02
  | .vgath _ _ w => spellsMinor w 0x38 0x03
  | .vscan _ _ w => spellsMinor w 0x38 0x04
  | .vhist _ _ w => spellsMinor w 0x38 0x05
  | .vred _ _ w => spellsMinor w 0x38 0x06
  | .timeCompareFire _ _ _ => true
  | .sequencerTimerExpiry _ _ _ => true
  | .sequencerStartInstant _ _ => true
  | .transition _ _ h => h.wf
  | .heldFireRelease _ _ => true
  | .gioPulseStart _ _ => true
  | .gioPulseEnd _ _ => true
  | .gioEdge _ _ _ _ => true
  | .quadratureEdge _ _ _ _ _ => true
  | .stepEdge _ _ _ _ _ => true
  | .upDownEdge _ _ _ _ _ => true
  | .hallChange _ _ _ _ _ _ => true
  | .zEdge _ _ _ _ => true
  | .wireFault _ _ _ _ => true
  | .serialFrameStart _ _ => true
  | .serialReading _ _ r => r.wf
  | .observerUpdate _ _ => true
  | .positionCompareFire _ _ _ => true
  | .dividerOutputEdge _ _ => true
  | .ptpMessage _ _ f _ => f.message.length + 18 ≤ f.length && f.length ≤ 9216
  | .ptpMasterTransmit _ _ _ => true
  | .sourceLost _ _ => true
  | .ppsInEdge _ _ => true
  | .ppsOutRise _ => true
  | .ppsOutFall _ => true
  | .tpLink _ _ => true
  | .periodic _ _ => true
  | .eventArrival _ _ _ => true
  | .consumerFree _ _ _ => true
  | .frameTagWrite _ _ => true
  | .payloadWriteGrant _ _ => true
  | .streamBlocked _ _ cause => 1 ≤ cause && cause ≤ 5
  | .stall _ _ => true
  | .stallEnd _ _ => true
  | .auxDone _ _ => true
  | .hardFault _ q _ _ => 1 ≤ q && q ≤ 10
  | .spareTakeover _ q _ _ => 1 ≤ q && q ≤ 8
  | .correctedError _ q _ _ => 1 ≤ q && q ≤ 8
  | .hbmUncorrectable _ channel _ _ => decide (channel < 128)
  | .hbmStackLost _ _ => true
  | .patrolResult _ _ _ => true
  | .lockstepMismatch _ => true
  | .heartbeatLate _ => true
  | .standbyResume _ => true
  | .supervisorSelfTestDone _ _ => true
  | .guardFault _ _ => true
  | .dark _ => true
  | .darkDrainEnd _ _ => true
  | .darkPinLow _ => true
  | .eventWindowEnd _ => true
  | .journalEmit _ => true
  | .sync _ => true
  | .nvBlockWrite _ _ => true
  | .fatalFreeze _ => true
  | .healthNvWrite _ => true
  | .replayItemPresent _ _ => true
  | .porstAssert _ => true
  | .porstRelease _ _ => true
  | .warmrstAssert _ => true
  | .warmrstRelease _ => true
  | .guardReset _ x => x.wf
  | .guardResetEnd _ => true
  | .pwrGood _ => true
  | .firmwareVerified _ _ _ => true
  | .hbmTrained _ _ => true
  | .cagePowerEnable _ _ => true
  | .cageResetRelease _ _ => true
  | .startUpSelfTestsDone _ failed => failed.all (fun q => 1 ≤ q.1 && q.1 ≤ 4)
  | .startDone _ => true
  | .feedApplied _ _ => true
  | .feedOutOfRange _ _ _ => true
  | .feedQualified _ _ => true
  | .feedReturnStart _ _ => true
  | .collapse _ _ => true
  | .holdExhausted _ => true
  | .lrefclkAbsent _ _ => true
  | .lrefclkReturn _ _ => true
  | .hprefclkAbsent _ _ => true
  | .emberReferenceAbsent _ => true
  | .identity _ x => x.wf
  | .mgStatus _ x => x.wf
  | .time _ x => x.wf
  | .temp _ x _ => x.wf
  | .fatalCount _ x => x.wf
  | .fatalIndex _ x => x.wf
  | .fatalSlot _ x => x.wf
  | .poolIndex _ x => x.wf
  | .pool _ x => x.wf
  | .alertStatus _ x => x.wf
  | .alertMask _ x => x.wf
  | .notifyConfig _ x => x.wf
  | .thermLimit _ x => x.wf
  | .cgXfer _ x => x.wf
  | .cgResult _ x => x.wf
  | .cgCycle _ x => x.wf
  | .cgCycleMs _ x => x.wf
  | .wake _ x => x.wf
  | .guardArm _ x => x.wf
  | .guardArmExpiry _ => true
  | .mgUndefinedCommand _ _ => true
  | .alertResponse _ _ => true
  | .hostNotify _ _ => true
  | .hostNotifyRetry _ _ => true
  | .mgTimeout _ => true
  | .keepAddressWake _ => true
  | .keepClockStop _ => true
  | .mgHung _ _ _ => true
  | .cgXferComplete _ x => x.wf
  | .cgArbitrationRetry _ => true
  | .cgHang _ _ data => data.length ≤ 32
  | .cgRecovery _ _ _ => true
  | .moduleCycled _ _ _ => true
  | .thermal _ _ => true
  | .trstLow _ => true
  | .extest _ => true
  | .idcode _ => true
  | .samplePreload _ => true
  | .extestPulse _ => true
  | .extestTrain _ => true
  | .clamp _ => true
  | .highz _ => true
  | .scanStatus _ => true
  | .bypass _ => true
  | .ptpDelayRequestTransmit _ => true
  | .setTimePpsTimeout _ => true
  | .commandCompletion _ _ _ => true
  | .localStoreCopyComplete _ _ => true
  | .plannedSpareInSwitch _ q _ => 1 ≤ q && q ≤ 8
  | .pllLock _ => true
  | .tapClock _ _ _ => true
  | .emberReferenceReturn _ => true
  | .hprefclkStable _ _ => true
  | .pcsAlignmentLock _ _ => true

end Sys2Proof
end

