-- ==== Sys2Proof/Safety.lean ====
section
/-!
DEFINITION. The terms in which claims about the device are stated: that the device accepts a ring command, what may differ beside a
command's effect, where an instruction of a Lantern issues and how it retires, and what every step keeps.
-/

namespace Sys2Proof.Machine

/-- The ring offers the entry (03 R91, R105) and no check of the command fails (03 R112): it takes effect. -/
def State.Accepts (s : State) (c : RingCmd) (op : Nat) (chk : State → Checks) : Prop :=
  s.fetchable c = true ∧ (chk (s.fetched c)).first (s.fetched c) c.ring.port op c.e = none

/-- A ring without what reporting moves in it: its device index, its moderation, what is held for it and its waiting command. -/
def Ring.shape (r : Ring) : Ring :=
  { r with d := 0, timer := none, count := 0, fired := false, held := [], collapsed := [], waiting := none, heldDone := [] }

/-- A port without its rings and without what reporting moves in it: its last activity and its interrupts. -/
def Port.config (x : Port) : Port :=
  { x with rings := [], lastActive := 0, vecLast := [], vecWait := [], pba := [], intaRings := [], intStatus := false }

/-- u is s but for reporting: only the ports, the journal, the event windows, the sequence numbers of the islands and what the
device has sent out may differ. Nothing that was sent is taken back, each port keeps its configuration, and each ring its own. -/
def State.Reports (u s : State) : Prop :=
  (∃ ports jn windows seq out, u = { s with ports := ports, jn := jn, windows := windows, seq := seq, out := out }) ∧
    (∀ o ∈ s.out, o ∈ u.out) ∧ ∀ p, (u.port p).config = (s.port p).config ∧ ∀ i, (u.ring p i).shape = (s.ring p i).shape

/-- Only the ports, the journal, the event windows, the sequence numbers and what was sent out may differ: weaker than `Reports`, for
commands that also change a port. -/
def State.Within (u s : State) : Prop :=
  ∃ ports jn windows seq out, u = { s with ports := ports, jn := jn, windows := windows, seq := seq, out := out }

/-- The device has sent this out. -/
def State.Sent (s : State) (o : Output) : Prop := o ∈ s.out

/-- The status of a command, written to its entry at place k of its ring: bytes 0x38 to 0x3E, then byte 0x3F with OWN 1 (03 R103). -/
def State.Completed (u s : State) (c : RingCmd) (st : Status) : Prop :=
  let r := s.ring c.ring.port c.ring.idx
  u.Sent (.hostWrite c.ring.port (r.addr r.d + 0x38) (leBytes 7 (statusWord st))) ∧
    u.Sent (.hostWrite c.ring.port (r.addr r.d + 0x3F) [0x80])

/-- The command of a ring waits on work inside the device (03 R105), with this number for its end. -/
def State.WaitsFor (u s : State) (c : RingCmd) (arg : Nat) : Prop :=
  (u.ring c.ring.port c.ring.idx).waiting = some
    { index := (s.ring c.ring.port c.ring.idx).d, entry := c.e, since := s.ns, stamp := s.dt, arg := arg }

/-- A legal word stands at PC of a Lantern that runs a routine and no longer waits, its pin sources being seen: it issues
(08 R312, 09 R322, R325, R338). -/
def State.AtPc (s : State) (n : Fin 64) (w : Word) : Prop :=
  (s.settled n).runsOut n = false ∧ (s.settled n).issues n w.toNat = true ∧ isaLegal w.toNat = true

/-- The state with Lantern n's pin sources seen and an ended WAIT of it forgotten: where an instruction issues. -/
def State.awake (s : State) (n : Nat) : State := (s.settled n).modLantern n (fun x => { x with waiting := none })

/-- A Lantern that an instruction left as y, after it has retired: RETIRED has risen, PROGRESS is 0 and PC is pc (09 R322, R325). -/
def Lantern.retired (y : Lantern) (pc : Nat) : Lantern := { (y.setSpr 0xF (y.spr 0xF + 1)).setSpr 4 0 with pc := pc }

/-- Lantern n, as an instruction that did not jump left it, retires: PC goes on to the next word; past the last word of the code FETCH_RANGE,
cause 4, is raised at that word (09 R322, R325, R344). -/
def State.goesOn (s : State) (n : Nat) (y : Lantern) : State :=
  if y.pc + 1 < y.codeWords then s.setLantern n (y.retired (y.pc + 1))
  else (s.setLantern n (y.setSpr 0xF (y.spr 0xF + 1))).trap n 4 (y.codeWords - 1)

/-- What every step keeps: the commands that wait are well formed; device time has 96 bits (00 R7, 10 R354); start-up runs in Keep
alone (17 R573, R581); and in Keep and in Dark no change of mode is in progress (17 R576, R579). -/
structure State.Inv (s : State) : Prop where
  pending : ∀ c ∈ s.pending, c.wf = true
  time : s.time < 2 ^ 96
  startUp : s.start.running = true → s.mode = .keep
  transition : s.mode = .keep ∨ s.mode = .dark → s.start.transition = none

/-- The commands that end Dark: the resets of 15 R531, and a collapse or the end of HOLD, which take the main domain's supply. -/
def EndsDark (c : Instr) : Prop :=
  match c with
  | .porstAssert _ | .warmrstAssert _ | .guardReset _ _ | .collapse _ _ | .holdExhausted _ => True
  | _ => False

/-- The registers of the management target that a warm reset keeps are the same (18 R602). -/
def Mg.keeps (x y : Mg) : Prop :=
  x.alertMask = y.alertMask ∧ x.notify = y.notify ∧ x.therm = y.therm ∧ x.cycleMs = y.cycleMs ∧ x.fatalIndex = y.fatalIndex ∧
    x.poolIndex = y.poolIndex

end Sys2Proof.Machine
end

