-- ==== Sys2Proof/Certificates/Slice0/Obligations.lean ====
section
/-!
DEFINITION. The statements about the model, for the provers: what each command does when it runs, what it leaves unchanged, and what
every step keeps. Each docstring names the chapter and the rules of the manual that a statement rests on.
-/

open Sys2Proof Sys2Proof.Machine

/-- A step of a queue that is not empty is its front command, run on the state with the rest of the queue. -/
def Obligations.StepRunsTheFrontCommand : Prop :=
  ∀ (c : Instr) (rest : List Instr) (s : State), s.pending = c :: rest → step s = exec c { s with pending := rest }

/-- A step of an empty queue is one tick of the time base: elapsed time grows by 2 ns, device time by 2^33 + RATE_ADJ units of
2^-32 ns, modulo 2^96, and nothing else changes (10 R354). That the idle step is a tick is the model's own choice, entry 6. -/
def Obligations.IdleStepIsOneTick : Prop :=
  ∀ s : State, s.pending = [] → ∃ u, step s = .next u ∧ u.ns = s.ns + 2 ∧
    (u.time : Int) = (s.time + (2 ^ 33 + s.rateAdj)) % 2 ^ 96 ∧ u = { s with ticks := u.ticks, time := u.time }

/-- A fetched command whose first failing check gives a status completes with that status and changes nothing: only the record of
its completion, its journal record and the place of its ring move (03 R103, R112).

An entry that the ring does not offer (03 R91, R105) is not fetched, and nothing happens. -/
def Obligations.CommandsThatDoNotRunChangeNothing : Prop :=
  (
    ∀ (s : State) (c : RingCmd) (op : Nat) (chk : State → Checks) (eff : State → State × Done) (st : Status),
      s.fetchable c = true → (chk (s.fetched c)).first (s.fetched c) c.ring.port op c.e = some st →
      ∃ u, s.command c op chk eff = .next u ∧ u.Reports s ∧ u.Completed s c st) ∧
  (
    ∀ (s : State) (c : RingCmd) (op : Nat) (chk : State → Checks) (eff : State → State × Done),
      s.fetchable c = false → s.command c op chk eff = .next s)

/-- The commands of rings and ports (03 R106, R109, R113, R114): NOP completes; an undefined opcode completes with BAD_OPCODE and
changes nothing; RING_CREATE brings ring INDEX into service with the operands and both indices 0; RING_DESTROY takes it out
of service and discards what it holds; RING_MODERATE sets vector, holdoff and threshold; PORT_CONFIG sets the poll interval.

CLAIM_PASS gives the control claim to the port it names; to the port that sent it, it changes nothing (02 R75, R672). An enabled
journal ring is disabled when the claim leaves its port (16 R554). -/
def Obligations.RingPortAndClaimCommands : Prop :=
  (
    ∀ t c s0, let s := s0.elapse t
      let i := bitsAt c.e 8 2 0 10
      (s.Accepts c 0x01 (nopChecks c) → ∃ u, exec (.nop t c) s0 = .next u ∧ u.Reports s ∧ u.Completed s c .success) ∧
      (s.fetchable c = true → ∃ u, exec (.undefinedOpcode t c) s0 = .next u ∧ u.Reports s ∧ u.Completed s c ⟨1, 0⟩) ∧
      (s.Accepts c 0x02 (ringCreateChecks c) → ∃ u, exec (.ringCreate t c) s0 = .next u ∧
        u.Reports (s.setRing c.p i
          { Ring.reset with
            st := .inService, kind := bitsAt c.e 0xA 1 0 4, log2size := bitsAt c.e 0xB 1 0 5, base := fld c.e 0xC 8
            vector := bitsAt c.e 0x14 2 0 11, holdoff := fld c.e 0x16 2, threshold := fld c.e 0x18 2
            eventRing := bitsAt c.e 0x1A 2 0 10 }) ∧ u.Completed s c .success) ∧
      (s.Accepts c 0x03 (ringDestroyChecks c) → ∃ u, exec (.ringDestroy t c) s0 = .next u ∧
        u.Reports (s.setRing c.p i Ring.reset) ∧ u.Completed s c .success) ∧
      (s.Accepts c 0x04 (ringModerateChecks c) → ∃ u, exec (.ringModerate t c) s0 = .next u ∧
        u.Reports (s.modRing c.p i (fun r =>
          { r with vector := bitsAt c.e 0xA 2 0 11, holdoff := fld c.e 0xC 2, threshold := fld c.e 0xE 2 })) ∧
        u.Completed s c .success) ∧
      (s.Accepts c 0x05 (portConfigChecks c) → ∃ u, exec (.portConfig t c) s0 = .next u ∧
        u.Reports (s.modPort c.p (fun x => { x with pollInterval := fld c.e 8 2 })) ∧ u.Completed s c .success)) ∧
  (
    ∀ t c s0, let s := s0.elapse t
      let q := bitsAt c.e 8 1 0 2
      s.Accepts c 0x06 (claimPassChecks c) →
        ∃ u, exec (.claimPass t c) s0 = .next u ∧ u.Reports (if q = c.p then s else { s with claim := some q, claimLast := q }) ∧
          (u.jn.ringEn = true → s.jn.ringEn = true ∧ (q = c.p ∨ s.jn.ring / 1024 = q)) ∧ u.Completed s c .success)

/-- The four QUERY kinds (15 R538 to R543): the block is sampled when the command takes effect, an auxiliary mover takes it to the
buffer, and the command waits for that.

TABLE_LOAD, KERNEL_LOAD and SEQ_LOAD wait for the image that an auxiliary mover reads (05 R189; 08 R294; 12 R425; 14 R479):
a job for it joins a queue, and nothing else changes. -/
def Obligations.AuxiliaryMoversTakeQueriesAndImages : Prop :=
  (
    ∀ t c s0, let s := s0.elapse t
      let queued (u : State) (block : List Byte) : Prop :=
        (∃ arg parts, parts = splitParts (bufferVa c.e 0x10) block (s.translate c.p (bufferVa c.e 0x10) block.length 0).2 ∧
          ((∃ n, .block (ringId c.p c.i) arg c.p parts ∈ (u.auxMover n).queue) ∨ .block (ringId c.p c.i) arg c.p parts ∈ u.auxWait)) ∧
        u.Reports { s with aux := u.aux, auxWait := u.auxWait, fresh := u.fresh } ∧ ∃ arg, u.WaitsFor s c arg
      (s.Accepts c 0x07 (queryChecks (fun k => k = 0) 64 c) → ∃ u, exec (.queryVersion t c) s0 = .next u ∧ queued u s.versionBlock) ∧
      (s.Accepts c 0x07 (queryChecks (fun k => k = 1) 12288 c) → ∃ u, exec (.queryHealth t c) s0 = .next u ∧ queued u s.healthBlock) ∧
      (s.Accepts c 0x07 (queryChecks (fun k => k = 2) 2272 c) → ∃ u, exec (.queryLedger t c) s0 = .next u ∧ queued u s.ledgerBlock) ∧
      (s.Accepts c 0x07 (queryChecks (fun k => 3 ≤ k && k ≤ 8) 1056 c) → ∃ u, exec (.queryCounters t c) s0 = .next u ∧
        queued u (s.counterBlock (qKind c.e) (qIndex c.e)))) ∧
  (
    ∀ t c s0, let s := s0.elapse t
      let queued (u : State) : Prop :=
        (∃ q : LoadCmd, q.ring = ringId c.p c.i ∧ q.entry = c.e ∧ q.gone = false ∧
          ((∃ n, .image q c.data ∈ (u.auxMover n).queue) ∨ .image q c.data ∈ u.auxWait)) ∧
        u.Reports { s with aux := u.aux, auxWait := u.auxWait, fresh := u.fresh } ∧ ∃ arg, u.WaitsFor s c arg
      (s.Accepts c 0x21 (tableLoadChecks c) → ∃ u, exec (.tableLoad t c) s0 = .next u ∧ queued u) ∧
      (s.Accepts c 0x28 (kernelLoadChecks c) → ∃ u, exec (.kernelLoad t c) s0 = .next u ∧ queued u) ∧
      (s.Accepts c 0x3A (seqLoadChecks c) → ∃ u, exec (.seqLoad t c) s0 = .next u ∧ queued u))

/-- SCONCE_CONFIG configures the sconce it names for the port that sent it, with the lane, the classifier, its format table and the assembly
block of its operands, and makes the port the owner of the lane; no other sconce and no other lane changes (05 R185, R186).

SCONCE_CONFIG with RELEASE returns the sconce to its state after reset, but for the limits of its event records, which run on, and
changes no other sconce (05 R186, 06 R246).

PARAM_SET adds a pending set at the end of the sconce's list, with its group, its 32-byte block, its frame when AT is 1 and the
stamp of its commit; nothing else of the sconce but its owner changes, and no other sconce does (05 R212, R214).

TABLE_RELEASE frees the table of its handle, and only that one (05 R190). -/
def Obligations.SconceAndTableCommandsRun : Prop :=
  (
    ∀ t c s0, let s := s0.elapse t
      let k := cmdSconce c.e
      let l := bitsAt c.e 0xB 1 0 7
      s.Accepts c 0x20 (sconceConfigChecks c) → ∃ u, exec (.sconceConfig t c) s0 = .next u ∧
        (let x := u.sconce k;
          (x.configured = true ∧ x.owner = some c.p ∧ x.lane = l ∧ x.classifier = bitAt c.e 0xA 1 ∧
            x.format = (if bitAt c.e 0xA 1 then s.tableOfKind c.p (fld c.e 0xC 4) 1 else none) ∧
            x.par = [(1, leBytes 32 (fld c.e 0x18 32))] ∧ x.sets = [] ∧ x.maxRate = fld c.e 0x10 2 ∧ x.frames = []) ∧
          u.lane l = { s.lane l with owner := some c.p } ∧
          (∀ j, j ≠ k → u.sconce j = s.sconce j) ∧ (∀ j, j ≠ l → u.lane j = s.lane j) ∧
          ((s.sconce k).openFrame = none → u.lanterns = s.lanterns ∧ u.streams = s.streams) ∧
          u.Reports { s with sconces := u.sconces, lanes := u.lanes, tables := u.tables, lanterns := u.lanterns, streams := u.streams }) ∧
        u.Completed s c .success) ∧
  (
    ∀ t c s0, let s := s0.elapse t
      let k := cmdSconce c.e
      s.Accepts c 0x20 (sconceReleaseChecks c) → ∃ u, exec (.sconceRelease t c) s0 = .next u ∧
        (u.sconce k = { Sconce.reset with limits := (s.sconce k).limits, reports := (u.sconce k).reports } ∧
          (∀ j, j ≠ k → u.sconce j = s.sconce j) ∧
          u.Reports { s with sconces := u.sconces, tables := u.tables, lanterns := u.lanterns, streams := u.streams }) ∧
        u.Completed s c .success) ∧
  (
    ∀ t c s0, let s := s0.elapse t
      let k := cmdSconce c.e
      s.Accepts c 0x23 (paramSetChecks c) → ∃ u, exec (.paramSet t c) s0 = .next u ∧
        ((∃ q : PendingSet, (u.sconce k) = { s.sconce k with owner := some c.p, sets := (s.sconce k).sets ++ [q] } ∧
            q.group = fld c.e 0xA 1 ∧ q.data = leBytes 32 (fld c.e 0x18 32) ∧ q.c = s.dt ∧
            q.at_ = if bitAt c.e 0xB 0 then some (fld c.e 0x10 8) else none) ∧
          (∀ j, j ≠ k → u.sconce j = s.sconce j) ∧ u.Reports { s with sconces := u.sconces }) ∧
        u.Completed s c .success) ∧
  (
    ∀ t c s0, let s := s0.elapse t
      s.Accepts c 0x22 (tableReleaseChecks c) → ∃ u, exec (.tableRelease t c) s0 = .next u ∧
        u.Reports (match s.tableOf c.p (fld c.e 8 4) with
          | some i => { s with tables := tabDel s.tables i }
          | none => s) ∧
        u.Completed s c .success)

/-- STREAM_CONFIG makes the stream Configured for the port that sent it, with the sconce, branch, rings, output table, position channels and
weight of its operands; no other stream and no other sconce changes (03 R125, R127).

STREAM_START: the start is pending from the commit on, and its mover is neither stopped nor paced (14 R473).

STREAM_STOP waits for the last frame of its stream (03 R127): of a Running stream, the frame that is open and that the stream
carries is the last, or, when none that it may carry is open, the next one; an open frame that it may carry and does not is the last at
once, and the stream is Configured again; of a stream whose start is pending, the stop waits with the start.

STREAM_RELEASE: the stream is Free, and only its counters stay; no other stream changes (03 R127). -/
def Obligations.StreamCommandsRun : Prop :=
  (
    ∀ t c s0, let s := s0.elapse t
      let k := bitsAt c.e 0xA 2 0 9
      s.Accepts c 0x10 (streamConfigChecks c) → ∃ u, exec (.streamConfig t c) s0 = .next u ∧
        (let x := u.stream (cmdStream c.e);
          (x.st = .configured ∧ x.owner = some c.p ∧ x.sconce = k ∧ x.branch = bitsAt c.e 0xC 1 0 2 ∧ x.lineTags = bitAt c.e 0xD 0 ∧
            x.stats = bitAt c.e 0xD 1 ∧ x.dRing = fld c.e 0xE 2 ∧ x.cRing = fld c.e 0x10 2 ∧
            x.partner = (if bitAt c.e 0xD 2 then some (fld c.e 0x12 2, fld c.e 0x14 2) else none) ∧
            x.encA = (if bitAt c.e 0x16 7 then some (bitsAt c.e 0x16 1 0 4) else none) ∧
            x.encB = (if bitAt c.e 0x17 7 then some (bitsAt c.e 0x17 1 0 4) else none) ∧
            x.handle = fld c.e 0x18 4 ∧ x.weight = fld c.e 0x1C 1 ∧ x.frames = []) ∧
          (∀ m, m ≠ cmdStream c.e → u.stream m = s.stream m) ∧ u.sconce k = { s.sconce k with owner := some c.p } ∧
          (∀ j, j ≠ k → u.sconce j = s.sconce j) ∧ u.Reports { s with streams := u.streams, sconces := u.sconces }) ∧
        u.Completed s c .success) ∧
  (
    ∀ t c s0, let s := s0.elapse t
      let n := cmdStream c.e
      s.Accepts c 0x11 (streamStartChecks c) → ∃ u, exec (.streamStart t c) s0 = .next u ∧
        (let x := u.stream n;
          x.startPending = some s.dt ∧ x.st = (s.stream n).st ∧ x.uncharged = false ∧ x.stopped = false ∧ x.draining = false ∧
            x.pace = 0 ∧ x.frames = (s.stream n).frames ∧ (∀ m, m ≠ n → u.stream m = s.stream m) ∧
            u.Within { s with streams := u.streams }) ∧
        u.Completed s c .success) ∧
  (
    ∀ t c s0, let s := s0.elapse t
      let n := cmdStream c.e
      let x := s.stream n
      let carries (f : Frame) : Bool := x.frames.any fun g => g.number == f.number
      let waits (u : State) (cmds : List (Nat × Nat)) (last : Option Nat) (st : StreamState) : Prop :=
        (u.stream n).st = st ∧ (u.stream n).stopAt = some last ∧ (u.stream n).stopCmds = cmds ++ [(ringId c.p c.i, s.fresh)] ∧
          u.WaitsFor s c s.fresh ∧ (∀ m, m ≠ n → u.stream m = s.stream m) ∧ u.Reports { s with streams := u.streams, fresh := s.fresh + 1 }
      s.Accepts c 0x12 (streamStopChecks c) →
        (x.st ≠ .running → ∃ u, exec (.streamStop t c) s0 = .next u ∧ waits u x.stopCmds none x.st) ∧
        (x.st = .running → (s.sconce x.sconce).openFrame = none → ∃ u, exec (.streamStop t c) s0 = .next u ∧ waits u [] none .stopping) ∧
        (∀ f, x.st = .running → (s.sconce x.sconce).openFrame = some f →
          (f.number < x.first → ∃ u, exec (.streamStop t c) s0 = .next u ∧ waits u [] none .stopping) ∧
          (x.first ≤ f.number → carries f = true → ∃ u, exec (.streamStop t c) s0 = .next u ∧ waits u [] (some f.number) .stopping) ∧
          (x.first ≤ f.number → carries f = false → ∃ u, exec (.streamStop t c) s0 = .next u ∧ (u.stream n).st = .configured ∧
            (u.stream n).stopAt = none ∧ (∀ m, m ≠ n → u.stream m = s.stream m) ∧
            u.Reports { s with streams := u.streams, fresh := s.fresh + 1 } ∧ u.Completed s c .success))) ∧
  (
    ∀ t c s0, let s := s0.elapse t
      let n := cmdStream c.e
      s.Accepts c 0x14 (streamReleaseChecks c) → ∃ u, exec (.streamRelease t c) s0 = .next u ∧
        (u.stream n = { Stream.reset with counters := (s.stream n).counters } ∧
          (∀ m, m ≠ n → u.stream m = s.stream m) ∧ u.Within { s with streams := u.streams, sconces := u.sconces }) ∧
        u.Completed s c .success)

/-- STREAM_MOVE, MOVER_RESUME and MOVER_PACE (14 R482, R483, R502): the move is armed, with its frame when APPLY is 1; a resumed context
or auxiliary mover is neither stopped nor draining; the pace is that of the operands. Nothing else changes.

MOVER_STOP is orderly: a context or auxiliary mover with a frame or transfer under way drains, another stops at once, and one that
is stopped stays so (14 R483).

MOVER_SNUFF stops at once (14 R483): an auxiliary mover; a context that writes no frame; and a context that writes one, which is
discarded, counted and leaves a gap, where no stop waits for it.

MOVER_SPOOL sets the spool share of the port that sent it (14 R482, R493). -/
def Obligations.MoverCommandsRun : Prop :=
  (
    ∀ t c s0, let s := s0.elapse t
      let n := mcIndex c.e
      let mode := bitsAt c.e 0xC 1 0 2
      (s.Accepts c 0x13 (streamMoveChecks c) → ∃ u, exec (.streamMove t c) s0 = .next u ∧
        u.Reports (s.modStream (cmdStream c.e) (fun x =>
          { x with move := some (s.dt, if bitAt c.e 0xA 0 then some (fld c.e 0x10 8) else none) })) ∧ u.Completed s c .success) ∧
      (s.Accepts c 0x15 (moverResumeChecks c) → ∃ u, exec (.moverResume t c) s0 = .next u ∧
        u.Reports (if mcAux c.e then s.setAux n { s.auxMover n with stopped := false, draining := false }
          else s.modStream n (fun x => { x with stopped := false, draining := false })) ∧ u.Completed s c .success) ∧
      (s.Accepts c 0x15 (moverPaceChecks c) → ∃ u, exec (.moverPace t c) s0 = .next u ∧
        (if mcAux c.e then
          (u.auxMover n).pace = mode ∧ (u.auxMover n).queue = (s.auxMover n).queue ∧ (∀ m, m ≠ n → u.auxMover m = s.auxMover m) ∧
            u.Reports { s with aux := u.aux }
        else
          (u.stream n).pace = mode ∧ (u.stream n).paceBytes = fld c.e 0x10 4 ∧ (u.stream n).frames = (s.stream n).frames ∧
            (∀ m, m ≠ n → u.stream m = s.stream m) ∧ u.Reports { s with streams := u.streams }) ∧ u.Completed s c .success)) ∧
  (
    ∀ t c s0, let s := s0.elapse t
      let n := mcIndex c.e
      let a := s.auxMover n
      let x := s.stream n
      s.Accepts c 0x15 (moverStopChecks c) → ∃ u, exec (.moverStop t c) s0 = .next u ∧
        (if mcAux c.e then
          u.auxMover n = (if a.stopped then a else if a.runs then { a with draining := true } else { a with stopped := true }) ∧
            (∀ m, m ≠ n → u.auxMover m = s.auxMover m) ∧ u.Reports { s with aux := u.aux }
        else
          u.stream n = (if x.stopped then x else if x.writing.isSome then { x with draining := true } else { x with stopped := true }) ∧
            (∀ m, m ≠ n → u.stream m = s.stream m) ∧ u.Reports { s with streams := u.streams }) ∧
        u.Completed s c .success) ∧
  (
    ∀ t c s0, let s := s0.elapse t
      let n := mcIndex c.e
      let x := s.stream n
      s.Accepts c 0x15 (moverSnuffChecks c) →
        (mcAux c.e = true → ∃ u, exec (.moverSnuff t c) s0 = .next u ∧
          u.Reports (s.setAux n { s.auxMover n with stopped := true, draining := false }) ∧ u.Completed s c .success) ∧
        (mcAux c.e = false → x.writing = none → ∃ u, exec (.moverSnuff t c) s0 = .next u ∧
          u.Reports (s.setStream n { x with stopped := true, draining := false }) ∧ u.Completed s c .success) ∧
        (∀ f, mcAux c.e = false → x.writing = some f → x.stopAt = none → ∃ u, exec (.moverSnuff t c) s0 = .next u ∧
          (let y := u.stream n;
            y.stopped = true ∧ y.draining = false ∧ y.gap = x.gap + 1 ∧ y.counters = tabMod 0 x.counters 5 (fun v => satAdd 32 v 1) ∧
              y.frames = x.frames.filter (fun g => g.number != f.number) ∧ (∀ m, m ≠ n → u.stream m = s.stream m) ∧
              u.Within { s with streams := u.streams, sconces := u.sconces }))) ∧
  (
    ∀ t c s0, let s := s0.elapse t
      s.Accepts c 0x15 (moverSpoolChecks c) → ∃ u, exec (.moverSpool t c) s0 = .next u ∧
        ((u.port c.p).spoolGiB = fld c.e 0x14 1 ∧ (∀ q, q ≠ c.p → (u.port q).spoolGiB = (s.port q).spoolGiB) ∧ u.Within s) ∧
        u.Completed s c .success)

/-- MAP_LOAD (14 R484, R487, R488): RUN maps the pages of its range in order from BUS on; LIST waits for its list; UNMAP takes the pages
of its range away. No other page changes. -/
def Obligations.MapCommandsMapTheirRange : Prop :=
  ∀ t c s0, let s := s0.elapse t
    let size := 2 ^ mapLog2 c.e
    let page (k : Nat) : MapEntry := { va := mapVa c.e + k * size, log2 := mapLog2 c.e, port := c.p, bus := fld c.e 0x18 8 + k * size }
    let below := s.map.filter (fun m => m.va < mapVa c.e)
    let above := s.map.filter (fun m => mapVa c.e ≤ m.va)
    (s.Accepts c 0x16 (mapRunChecks c) → ∃ u, exec (.mapRun t c) s0 = .next u ∧
      u.Reports { s with map := below ++ (List.range (mapPages c.e)).map page ++ above } ∧ u.Completed s c .success) ∧
    (s.Accepts c 0x16 (mapListChecks c) → ∃ u, exec (.mapList t c) s0 = .next u ∧
      ((∃ q : LoadCmd, q.ring = ringId c.p c.i ∧ q.entry = c.e ∧ q.gone = false ∧
          ((∃ n, .mapList q c.data ∈ (u.auxMover n).queue) ∨ .mapList q c.data ∈ u.auxWait)) ∧
        u.Reports { s with aux := u.aux, auxWait := u.auxWait, fresh := u.fresh }) ∧ ∃ arg, u.WaitsFor s c arg) ∧
    (s.Accepts c 0x16 (mapUnmapChecks c) → ∃ u, exec (.mapUnmap t c) s0 = .next u ∧
      u.Reports { s with map := s.map.filter (fun m => !(s.mapTouched c.e).contains m) } ∧ u.Completed s c .success)

/-- KERNEL_SWAP arms a swap with the stamp of its commit, its frame when APPLY is 1 and its OFF bit; the banks stay as they are, and no
other Lantern changes (08 R297).

LANTERN_BIND binds the Lantern to the sconce and tap of its operands for the port that sent it, keeps its kernels and its local
store, and clears its counters; its release makes a Bound Lantern Free and, when no swap has yet to take over, keeps what it holds
(08 R298, R299). -/
def Obligations.KernelAndBindCommandsRun : Prop :=
  (
    ∀ t c s0, let s := s0.elapse t
      let n := cmdLantern c.e
      s.Accepts c 0x29 (kernelSwapChecks c) → ∃ u, exec (.kernelSwap t c) s0 = .next u ∧
        ((u.lantern n).swap = some (s.dt, if bitAt c.e 9 1 then some (fld c.e 0x10 8) else none, bitAt c.e 9 0) ∧
          (u.lantern n).bank0 = (s.lantern n).bank0 ∧ (u.lantern n).bank1 = (s.lantern n).bank1 ∧ (u.lantern n).bank = (s.lantern n).bank ∧
          (∀ m, m ≠ n → u.lantern m = s.lantern m) ∧ u.Reports { s with lanterns := u.lanterns }) ∧
        u.Completed s c .success) ∧
  (
    ∀ t c s0, let s := s0.elapse t
      let n := cmdLantern c.e
      let old := s.lantern n
      (s.Accepts c 0x2A (lanternBindChecks c) → ∃ u, exec (.lanternBind t c) s0 = .next u ∧
        (let x := u.lantern n;
          (x.st = .bound ∧ x.owner = some c.p ∧ x.sconce = bitsAt c.e 0xA 2 0 9 ∧ x.tap = bitsAt c.e 9 1 0 2 ∧ x.policy = bitAt c.e 9 2 ∧
            x.slack = bitsAt c.e 0xC 1 0 4 ∧ x.chMask = bitsAt c.e 0xD 1 0 4 ∧ x.fill = fld c.e 0xE 2) ∧
          (x.bank0 = old.bank0 ∧ x.bank1 = old.bank1 ∧ x.bank = old.bank ∧ x.store = old.store ∧ x.counters = []) ∧
          (∀ m, m ≠ n → u.lantern m = s.lantern m) ∧ u.Reports { s with lanterns := u.lanterns, sconces := u.sconces }) ∧
        u.Completed s c .success) ∧
      (s.Accepts c 0x2A (lanternReleaseChecks c) → ∃ u, exec (.lanternRelease t c) s0 = .next u ∧
        ((u.lantern n).st = .free ∧
          (old.swapAt = [] → (u.lantern n).bank0 = old.bank0 ∧ (u.lantern n).bank1 = old.bank1 ∧ (u.lantern n).bank = old.bank ∧
            (u.lantern n).store = old.store) ∧
          (∀ m, m ≠ n → u.lantern m = s.lantern m) ∧
          u.Reports { s with lanterns := u.lanterns, sconces := u.sconces, channels := u.channels, flights := u.flights, seqs := u.seqs }) ∧
        u.Completed s c .success))

/-- The scalar register instructions of major opcode 0x00 (09 R327): each writes its function of s[ra] and s[rb] to s[rd], modulo 2^32,
retires, and changes nothing else; a write to s0 writes nothing (R316). Past the last word of the code FETCH_RANGE follows (R322).

The scalar immediate instructions (09 R328): each writes its function of s[ra] and imm16 to s[rd], modulo 2^32, retires, and changes
nothing else. -/
def Obligations.ScalarInstructions : Prop :=
  (
    ∀ t n w s,
      let s1 := (s.elapse t).awake n
      let x := s1.lantern n
      let v := w.toNat
      let a := x.sreg (iRa v)
      let b := x.sreg (iRb v)
      let rd (r : Nat) : State := s1.goesOn n (x.setS (iRd v) r)
      (s.elapse t).AtPc n w → iMajor v = 0 →
        (iMinor v = 0x00 → exec (.add t n w) s = .next (rd (a + b))) ∧
        (iMinor v = 0x01 → exec (.sub t n w) s = .next (rd (a + 2 ^ 32 - b))) ∧
        (iMinor v = 0x02 → exec (.and t n w) s = .next (rd (a &&& b))) ∧
        (iMinor v = 0x03 → exec (.or t n w) s = .next (rd (a ||| b))) ∧
        (iMinor v = 0x04 → exec (.xor t n w) s = .next (rd (a ^^^ b))) ∧
        (iMinor v = 0x05 → exec (.sll t n w) s = .next (rd (a * 2 ^ (b % 32)))) ∧
        (iMinor v = 0x06 → exec (.srl t n w) s = .next (rd (a / 2 ^ (b % 32)))) ∧
        (iMinor v = 0x07 → exec (.sra t n w) s = .next (rd (ofInt 32 (toInt 32 a / 2 ^ (b % 32))))) ∧
        (iMinor v = 0x08 → exec (.slt t n w) s = .next (rd (if toInt 32 a < toInt 32 b then 1 else 0))) ∧
        (iMinor v = 0x09 → exec (.sltu t n w) s = .next (rd (if a < b then 1 else 0))) ∧
        (iMinor v = 0x0A → exec (.min t n w) s = .next (rd (if toInt 32 a < toInt 32 b then a else b))) ∧
        (iMinor v = 0x0B → exec (.max t n w) s = .next (rd (if toInt 32 a < toInt 32 b then b else a))) ∧
        (iMinor v = 0x0C → exec (.minu t n w) s = .next (rd (if a ≤ b then a else b))) ∧
        (iMinor v = 0x0D → exec (.maxu t n w) s = .next (rd (if a ≤ b then b else a))) ∧
        (iMinor v = 0x10 → exec (.mul t n w) s = .next (rd (a * b))) ∧
        (iMinor v = 0x11 → exec (.mulh t n w) s = .next (rd (ofInt 32 (toInt 32 a * toInt 32 b / 2 ^ 32)))) ∧
        (iMinor v = 0x12 → exec (.mulhu t n w) s = .next (rd (a * b / 2 ^ 32)))) ∧
  (
    ∀ t n w s,
      let s1 := (s.elapse t).awake n
      let x := s1.lantern n
      let v := w.toNat
      let a := x.sreg (iRa v)
      let i := iImm v
      let rd (r : Nat) : State := s1.goesOn n (x.setS (iRd v) r)
      (s.elapse t).AtPc n w →
        (iMajor v = 0x01 → exec (.addi t n w) s = .next (rd (a + sx16 i))) ∧
        (iMajor v = 0x02 → exec (.andi t n w) s = .next (rd (a &&& i))) ∧
        (iMajor v = 0x03 → exec (.ori t n w) s = .next (rd (a ||| i))) ∧
        (iMajor v = 0x04 → exec (.xori t n w) s = .next (rd (a ^^^ i))) ∧
        (iMajor v = 0x05 → exec (.slti t n w) s = .next (rd (if toInt 32 a < toInt 16 i then 1 else 0))) ∧
        (iMajor v = 0x06 → exec (.sltiu t n w) s = .next (rd (if a < sx16 i then 1 else 0))) ∧
        (iMajor v = 0x07 → exec (.lui t n w) s = .next (rd (i * 2 ^ 16))) ∧
        (iMajor v = 0x08 → exec (.shi t n w) s = .next (rd (if nbits i 5 2 = 0 then a * 2 ^ (i % 32)
          else if nbits i 5 2 = 1 then a / 2 ^ (i % 32) else ofInt 32 (toInt 32 a / 2 ^ (i % 32))))))

/-- A scalar register reads what was last written to it, modulo 2^32; s0 reads 0 and discards writes; no other register changes
(09 R316). While the fast handler runs, s16 to s31 are the shadow registers (09 R348), so that its writes leave the others alone. -/
def Obligations.ScalarRegistersReadBack : Prop :=
  ∀ (x : Lantern) (j k v : Nat), j < 32 → k < 32 →
    (x.setS k v).sreg j = (if j = k ∧ k ≠ 0 then v % 2 ^ 32 else x.sreg j) ∧ x.sreg 0 = 0 ∧
    (x.fast.isSome = true → 16 ≤ k → (x.setS k v).s = x.s)

/-- The scalar loads (09 R329, R330): aligned, the bytes at s[ra] + sx(imm16) of the local store, the window, the output line or a block,
widened as the instruction gives, go to s[rd]; where a gather's bytes are awaited the load has not issued. LW also reads the words of the
gather port and of the interrupt controller.

Loads and stores trap where 09 R330 says: a misaligned address raises MISALIGNED, cause 3, before an address in no range raises
ACCESS, cause 2; so does a load or store of less than 4 bytes at the gather port or the interrupt controller, and a store to the window or to a block. -/
def Obligations.ScalarLoadsAndTraps : Prop :=
  (
    ∀ t n w s,
      let s1 := (s.elapse t).awake n
      let x := s1.lantern n
      let v := w.toNat
      let a := (x.sreg (iRa v) + sx16 (iImm v)) % 2 ^ 32
      let memory : Prop := x.rangeOf a = .store ∨ x.rangeOf a = .window ∨ x.rangeOf a = .out ∨ x.rangeOf a = .blocks
      let rd (r : Nat) : State := s1.goesOn n (x.setS (iRd v) r)
      let irq := x.irqRead (a % 0x100) s1.ns
      (s.elapse t).AtPc n w →
        (iMajor v = 0x10 → a % 4 = 0 → memory → x.stalls a 4 = false → exec (.lw t n w) s = .next (rd (s1.ltRead n a 4))) ∧
        (iMajor v = 0x11 → a % 2 = 0 → memory → x.stalls a 2 = false → exec (.lh t n w) s = .next (rd (sx16 (s1.ltRead n a 2)))) ∧
        (iMajor v = 0x12 → a % 2 = 0 → memory → x.stalls a 2 = false → exec (.lhu t n w) s = .next (rd (s1.ltRead n a 2))) ∧
        (iMajor v = 0x13 → memory → x.stalls a 1 = false →
          exec (.lb t n w) s = .next (rd (ofInt 32 (toInt 8 (s1.ltRead n a 1))))) ∧
        (iMajor v = 0x14 → memory → x.stalls a 1 = false → exec (.lbu t n w) s = .next (rd (s1.ltRead n a 1))) ∧
        (iMajor v = 0x10 → a % 4 = 0 → x.rangeOf a = .gather → exec (.lw t n w) s = .next (rd (x.gatherRead (a % 0x20)))) ∧
        (iMajor v = 0x10 → a % 4 = 0 → x.rangeOf a = .irq →
          exec (.lw t n w) s = .next (s1.goesOn n (irq.1.setS (iRd v) irq.2))) ∧
        (iMajor v = 0x10 → a % 4 = 0 → memory → x.stalls a 4 = true → exec (.lw t n w) s = .next s1)) ∧
  (
    ∀ r ∈ ([(.lw, 0x10, 4), (.lh, 0x11, 2), (.lhu, 0x12, 2), (.lb, 0x13, 1), (.lbu, 0x14, 1), (.sw, 0x15, 4), (.sh, 0x16, 2),
        (.sb, 0x17, 1)] : List ((Nat → Fin 64 → Word → Instr) × Nat × Nat)),
      ∀ t n w s, (s.elapse t).AtPc n w →
        let s1 := (s.elapse t).awake n
        let x := s1.lantern n
        let v := w.toNat
        let a := (x.sreg (iRa v) + sx16 (iImm v)) % 2 ^ 32
        iMajor v = r.2.1 →
          (a % r.2.2 ≠ 0 → exec (r.1 t n w) s = .next (s1.trap n 3 x.pc)) ∧
          (a % r.2.2 = 0 → x.rangeOf a = .fault ∨ (r.2.2 < 4 ∧ (x.rangeOf a = .gather ∨ x.rangeOf a = .irq)) →
            exec (r.1 t n w) s = .next (s1.trap n 2 x.pc)) ∧
          (0x15 ≤ r.2.1 → a % r.2.2 = 0 → x.rangeOf a = .window ∨ x.rangeOf a = .blocks → exec (r.1 t n w) s = .next (s1.trap n 2 x.pc)))

/-- The scalar stores (09 R329): aligned, to the local store, and not waited for by a gather: the low bytes of s[rd] stand at
s[ra] + sx(imm16), lowest first; every other byte of the local store reads as before, and so does every register. The premise that
the store has its canonical form is kept by every write. SW also writes the words of the gather port and of the interrupt controller. -/
def Obligations.ScalarStores : Prop :=
  ∀ t n w s,
    let s1 := (s.elapse t).awake n
    let x := s1.lantern n
    let v := w.toNat
    let a := (x.sreg (iRa v) + sx16 (iImm v)) % 2 ^ 32
    let d := x.sreg (iRd v)
    let stored (k : Nat) (m : List Host.Cell) : Prop :=
      (∀ b, b < a ∨ a + k ≤ b → memGet m b = memGet x.store b) ∧ ∀ j, j < k → memGet m (a + j) = BitVec.ofNat 8 (d / 2 ^ (8 * j))
    (s.elapse t).AtPc n w → Memory.wf x.store = true →
      (iMajor v = 0x15 → a % 4 = 0 → a + 4 ≤ 0x200000 → x.stalls a 4 = false →
        ∃ m, exec (.sw t n w) s = .next (s1.goesOn n { x with store := m }) ∧ stored 4 m) ∧
      (iMajor v = 0x16 → a % 2 = 0 → a + 2 ≤ 0x200000 → x.stalls a 2 = false →
        ∃ m, exec (.sh t n w) s = .next (s1.goesOn n { x with store := m }) ∧ stored 2 m) ∧
      (iMajor v = 0x17 → a + 1 ≤ 0x200000 → x.stalls a 1 = false →
        ∃ m, exec (.sb t n w) s = .next (s1.goesOn n { x with store := m }) ∧ stored 1 m) ∧
      (x.rangeOf a = .out →
        (iMajor v = 0x15 → a % 4 = 0 → x.stalls a 4 = false → exec (.sw t n w) s = .next (s1.goesOn n (x.putBytes a (leBytes 4 d)))) ∧
        (iMajor v = 0x16 → a % 2 = 0 → x.stalls a 2 = false → exec (.sh t n w) s = .next (s1.goesOn n (x.putBytes a (leBytes 2 d)))) ∧
        (iMajor v = 0x17 → x.stalls a 1 = false → exec (.sb t n w) s = .next (s1.goesOn n (x.putBytes a (leBytes 1 d))))) ∧
      (iMajor v = 0x15 → a % 4 = 0 → x.rangeOf a = .gather →
        exec (.sw t n w) s = .next ((s1.gatherWrite n (a % 0x20) d).goesOn n ((s1.gatherWrite n (a % 0x20) d).lantern n))) ∧
      (iMajor v = 0x15 → a % 4 = 0 → x.rangeOf a = .irq →
        exec (.sw t n w) s = .next ((s1.irqWrite n (a % 0x100) d).goesOn n ((s1.irqWrite n (a % 0x100) d).lantern n)))

/-- The branches (09 R332): taken, PC goes to PC + sx(off16) when that lies in the code, and outside it FETCH_RANGE, cause 4, is raised;
not taken, to the next word; either way the instruction writes no register.

BP branches on ANY, ALL or NONE of the bits of a predicate register; JAL and JALR link PC + 1 in s[rd] and go to their target
(09 R327, R332). A target outside the code raises FETCH_RANGE, cause 4, and writes no register. -/
def Obligations.BranchesAndJumps : Prop :=
  (
    ∀ t n w s,
      let s1 := (s.elapse t).awake n
      let x := s1.lantern n
      let v := w.toNat
      let a := x.sreg (iRd v)
      let b := x.sreg (iRa v)
      let target : Int := (x.pc : Int) + toInt 16 (iImm v)
      let goes (taken : Bool) : State :=
        if taken then if 0 ≤ target ∧ target < x.codeWords then s1.setLantern n (x.retired target.toNat) else s1.trap n 4 x.pc
        else s1.goesOn n x
      (s.elapse t).AtPc n w →
        (iMajor v = 0x20 → exec (.beq t n w) s = .next (goes (a == b))) ∧
        (iMajor v = 0x21 → exec (.bne t n w) s = .next (goes (a != b))) ∧
        (iMajor v = 0x22 → exec (.blt t n w) s = .next (goes (decide (toInt 32 a < toInt 32 b)))) ∧
        (iMajor v = 0x23 → exec (.bge t n w) s = .next (goes (decide (toInt 32 b ≤ toInt 32 a)))) ∧
        (iMajor v = 0x24 → exec (.bltu t n w) s = .next (goes (decide (a < b)))) ∧
        (iMajor v = 0x25 → exec (.bgeu t n w) s = .next (goes (decide (b ≤ a))))) ∧
  (
    ∀ t n w s,
      let s1 := (s.elapse t).awake n
      let x := s1.lantern n
      let v := w.toNat
      let p := x.preg (nbits v 23 3)
      let taken : Bool := match nbits v 21 2 with | 0 => p != 0 | 1 => p == 2 ^ 32 - 1 | _ => p == 0
      let bp : Int := (x.pc : Int) + toInt 16 (iImm v)
      let jal : Int := (x.pc : Int) + toInt 21 (nbits v 0 21)
      let link : Lantern := x.setS (iRd v) (x.pc + 1)
      (s.elapse t).AtPc n w →
        (iMajor v = 0x27 → taken = true → 0 ≤ bp → bp < x.codeWords → exec (.bp t n w) s = .next (s1.setLantern n (x.retired bp.toNat))) ∧
        (iMajor v = 0x27 → taken = false → exec (.bp t n w) s = .next (s1.goesOn n x)) ∧
        (iMajor v = 0x27 → taken = true → (bp < 0 ∨ x.codeWords ≤ bp) → exec (.bp t n w) s = .next (s1.trap n 4 x.pc)) ∧
        (iMajor v = 0x26 → 0 ≤ jal → jal < x.codeWords → exec (.jal t n w) s = .next (s1.setLantern n (link.retired jal.toNat))) ∧
        (iMajor v = 0x26 → (jal < 0 ∨ x.codeWords ≤ jal) → exec (.jal t n w) s = .next (s1.trap n 4 x.pc)) ∧
        (iMajor v = 0 → iMinor v = 0x18 → x.sreg (iRa v) < x.codeWords →
          exec (.jalr t n w) s = .next (s1.setLantern n (link.retired (x.sreg (iRa v))))) ∧
        (iMajor v = 0 → iMinor v = 0x18 → x.codeWords ≤ x.sreg (iRa v) → exec (.jalr t n w) s = .next (s1.trap n 4 x.pc)))

/-- The vector instructions of major opcode 0x28 whose elements depend on the same elements of a and b (09 R333, R334): each writes its
function of them to vd under the guard, retires, and changes nothing else. Past the last word of the code FETCH_RANGE follows (R322).

VMACW adds two products of signed 16-bit lanes to each 32-bit element of vd, VSEL takes each element of a where the guard is 1 and
of b where it is 0, VBCAST writes s[b] to every element, VSLIDE moves elements by s[b] places with 0 from outside the register, and
VMOVE copies a (09 R333, R334, R336).

VLD and VST (09 R329, R330): at an even address, with every enabled lane in a range it may read or write and no gather in the way,
the enabled lanes of vd take the 16-bit elements at s[ra] + sx(off14), or stand there, and nothing else changes. An odd address raises
MISALIGNED, cause 3, then a lane out of range ACCESS, cause 2; where a gather's bytes are awaited nothing has issued. -/
def Obligations.VectorInstructions : Prop :=
  (
    ∀ t n w s,
      let s1 := (s.elapse t).awake n
      let x := s1.lantern n
      let v := w.toNat
      let e := vWidth v
      let vd (g : Nat → Nat → Nat) : State := s1.goesOn n (x.setV (iVd v) (vMake x v (fun k => g (vA x v k) (vB x v k))))
      let r (a b : Nat) : Nat := (a * b + (if x.spr 6 = 0 then 0 else 2 ^ (x.spr 6 - 1))) / 2 ^ x.spr 6
      (s.elapse t).AtPc n w → iMajor v = 0x28 →
        (iVMinor v = 0x00 → exec (.vadd t n w) s = .next (vd (fun a b => a + b))) ∧
        (iVMinor v = 0x01 → exec (.vsub t n w) s = .next (vd (fun a b => a + 2 ^ e - b))) ∧
        (iVMinor v = 0x02 → exec (.vadds t n w) s = .next (vd (fun a b => if a + b ≤ 2 ^ e - 1 then a + b else 2 ^ e - 1))) ∧
        (iVMinor v = 0x03 → exec (.vsubs t n w) s = .next (vd (fun a b => a - b))) ∧
        (iVMinor v = 0x04 → exec (.vmin t n w) s = .next (vd (fun a b => if a ≤ b then a else b))) ∧
        (iVMinor v = 0x05 → exec (.vmax t n w) s = .next (vd (fun a b => if a ≤ b then b else a))) ∧
        (iVMinor v = 0x06 → exec (.vmins t n w) s = .next (vd (fun a b => if toInt e a < toInt e b then a else b))) ∧
        (iVMinor v = 0x07 → exec (.vmaxs t n w) s = .next (vd (fun a b => if toInt e a < toInt e b then b else a))) ∧
        (iVMinor v = 0x08 → exec (.vand t n w) s = .next (vd (fun a b => a &&& b))) ∧
        (iVMinor v = 0x09 → exec (.vor t n w) s = .next (vd (fun a b => a ||| b))) ∧
        (iVMinor v = 0x0A → exec (.vxor t n w) s = .next (vd (fun a b => a ^^^ b))) ∧
        (iVMinor v = 0x0B → exec (.vsll t n w) s = .next (vd (fun a b => a * 2 ^ (b % e)))) ∧
        (iVMinor v = 0x0C → exec (.vsrl t n w) s = .next (vd (fun a b => a / 2 ^ (b % e)))) ∧
        (iVMinor v = 0x0D → exec (.vsra t n w) s = .next (vd (fun a b => ofInt e (toInt e a / 2 ^ (b % e))))) ∧
        (iVMinor v = 0x0E → exec (.vabsd t n w) s = .next (vd (fun a b => if a ≤ b then b - a else a - b))) ∧
        (iVMinor v = 0x0F → exec (.vavg t n w) s = .next (vd (fun a b => (a + b + 1) / 2))) ∧
        (iVMinor v = 0x10 → exec (.vmul t n w) s = .next (vd (fun a b => a * b))) ∧
        (iVMinor v = 0x11 → exec (.vmulh t n w) s = .next (vd (fun a b => ofInt e (toInt e a * toInt e b / 2 ^ e)))) ∧
        (iVMinor v = 0x12 → exec (.vmulsh t n w) s = .next (vd (fun a b => if r a b ≤ 2 ^ e - 1 then r a b else 2 ^ e - 1)))) ∧
  (
    ∀ t n w s,
      let s1 := (s.elapse t).awake n
      let x := s1.lantern n
      let v := w.toNat
      let s16 (r k : Nat) : Int := toInt 16 (nbits r (16 * k) 16)
      let vd (r : Nat) : State := s1.goesOn n (x.setV (iVd v) r)
      (s.elapse t).AtPc n w →
        (iMajor v = 0x28 → iVMinor v = 0x13 → exec (.vmacw t n w) s = .next (vd (vMake x v (fun j =>
          ofInt 32 ((nbits (x.vreg (iVd v)) (32 * j) 32 : Nat) + s16 (x.vreg (iVa v)) (2 * j) * s16 (x.vreg (iB v)) (2 * j) +
            s16 (x.vreg (iVa v)) (2 * j + 1) * s16 (x.vreg (iB v)) (2 * j + 1)))))) ∧
        (iMajor v = 0x28 → iVMinor v = 0x14 → exec (.vsel t n w) s = .next (vd ((List.range (vCount v)).foldl
          (fun r k => putLane (vWidth v) r k (if vGuard x v k then vA x v k else vB x v k)) 0))) ∧
        (iMajor v = 0x2A → iVMinor v = 0 → exec (.vbcast t n w) s = .next (vd (vMake x v (vB x v)))) ∧
        (iMajor v = 0x2A → iVMinor v = 1 → exec (.vslide t n w) s = .next (vd (vMake x v (fun k =>
          let j : Int := (k : Int) + toInt 32 (x.sreg (iB v))
          if j < 0 ∨ (vCount v : Int) ≤ j then 0 else vA x v j.toNat)))) ∧
        (iMajor v = 0x2A → iVMinor v = 2 → exec (.vmove t n w) s = .next (vd (vMake x v (vA x v))))) ∧
  (
    ∀ t n w s,
      let s1 := (s.elapse t).awake n
      let x := s1.lantern n
      let v := w.toNat
      let a := (x.sreg (nbits v 14 5) + ofInt 32 (toInt 14 (nbits v 0 14))) % 2 ^ 32
      let lane (k : Nat) : Nat := (a + 2 * k) % 2 ^ 32
      let on := (List.range 32).filter (fun k => nbit (x.preg (nbits v 19 3)) k)
      let free : Prop := ∀ k ∈ on, x.stalls (lane k) 2 = false
      (s.elapse t).AtPc n w →
        (iMajor v = 0x18 → a % 2 = 0 → (∀ k ∈ on, x.readable (lane k) = true) → free →
          exec (.vld t n w) s = .next (s1.goesOn n (x.setV (iVd v)
            (on.foldl (fun r k => putLane 16 r k (s1.ltRead n (lane k) 2)) (x.vreg (iVd v)))))) ∧
        (iMajor v = 0x19 → a % 2 = 0 → (∀ k ∈ on, x.writable (lane k) = true) → free →
          exec (.vst t n w) s = .next (s1.goesOn n
            (on.foldl (fun y k => y.putBytes (lane k) (leBytes 2 (nbits (x.vreg (iVd v)) (16 * k) 16))) x))) ∧
        (a % 2 = 1 → (iMajor v = 0x18 → exec (.vld t n w) s = .next (s1.trap n 3 x.pc)) ∧
          (iMajor v = 0x19 → exec (.vst t n w) s = .next (s1.trap n 3 x.pc))) ∧
        (iMajor v = 0x18 → a % 2 = 0 → (∃ k ∈ on, x.readable (lane k) = false) → exec (.vld t n w) s = .next (s1.trap n 2 x.pc)) ∧
        (iMajor v = 0x19 → a % 2 = 0 → (∃ k ∈ on, x.writable (lane k) = false) → exec (.vst t n w) s = .next (s1.trap n 2 x.pc)) ∧
        (a % 2 = 0 → ¬free →
          (iMajor v = 0x18 → (∀ k ∈ on, x.readable (lane k) = true) → exec (.vld t n w) s = .next s1) ∧
          (iMajor v = 0x19 → (∀ k ∈ on, x.writable (lane k) = true) → exec (.vst t n w) s = .next s1)))

/-- A vector result is made element by element (09 R333): in the register that an instruction with vd writes, an element whose guard is
1 holds the value given for it, modulo 2 to the element width, and every other element keeps what it held. -/
def Obligations.VectorResultIsElementwise : Prop :=
  ∀ (x : Lantern) (v : Nat) (g : Nat → Nat) (k : Nat), k < vCount v →
    nbits ((x.setV (iVd v) (vMake x v g)).vreg (iVd v)) (vWidth v * k) (vWidth v) =
      if vGuard x v k then g k % 2 ^ vWidth v else nbits (x.vreg (iVd v)) (vWidth v * k) (vWidth v)

/-- The compares (09 R335): bit k of the predicate is 1 exactly where the guard of its lane is 1 and the test of the two elements holds.
Nothing else of the Lantern changes, and p0, which is all ones, discards the write (R317).

The predicate instructions (09 R335, R336): PAND, POR, PXOR and PNOT of predicate registers, PFROMS from a scalar register, and PTOS
to one. -/
def Obligations.VectorComparesAndPredicates : Prop :=
  (
    ∀ t n w s,
      let s1 := (s.elapse t).awake n
      let x := s1.lantern n
      let v := w.toNat
      let e := vWidth v
      let pd (m : Nat) : State := s1.goesOn n (x.setP (nbits v 22 3) m)
      let holds (m : Nat) (c : Nat → Nat → Bool) : Prop := m < 2 ^ 32 ∧ ∀ k, k < 32 →
        nbit m k = (let j := if iW v then k / 2 else k; vGuard x v j && c (vA x v j) (vB x v j))
      (s.elapse t).AtPc n w → iMajor v = 0x29 →
        (iVMinor v = 0 → ∃ m, exec (.veq t n w) s = .next (pd m) ∧ holds m (fun a b => a == b)) ∧
        (iVMinor v = 1 → ∃ m, exec (.vne t n w) s = .next (pd m) ∧ holds m (fun a b => a != b)) ∧
        (iVMinor v = 2 → ∃ m, exec (.vltu t n w) s = .next (pd m) ∧ holds m (fun a b => decide (a < b))) ∧
        (iVMinor v = 3 → ∃ m, exec (.vgeu t n w) s = .next (pd m) ∧ holds m (fun a b => decide (b ≤ a))) ∧
        (iVMinor v = 4 → ∃ m, exec (.vlt t n w) s = .next (pd m) ∧ holds m (fun a b => decide (toInt e a < toInt e b))) ∧
        (iVMinor v = 5 → ∃ m, exec (.vge t n w) s = .next (pd m) ∧ holds m (fun a b => decide (toInt e b ≤ toInt e a)))) ∧
  (
    ∀ t n w s,
      let s1 := (s.elapse t).awake n
      let x := s1.lantern n
      let v := w.toNat
      let a := x.preg (nbits v 18 3)
      let b := x.preg (nbits v 13 3)
      let pd (r : Nat) : State := s1.goesOn n (x.setP (nbits v 22 3) r)
      (s.elapse t).AtPc n w →
        (iMajor v = 0x29 → iVMinor v = 0x08 → exec (.pand t n w) s = .next (pd (a &&& b))) ∧
        (iMajor v = 0x29 → iVMinor v = 0x09 → exec (.por t n w) s = .next (pd (a ||| b))) ∧
        (iMajor v = 0x29 → iVMinor v = 0x0A → exec (.pxor t n w) s = .next (pd (a ^^^ b))) ∧
        (iMajor v = 0x29 → iVMinor v = 0x0B → exec (.pnot t n w) s = .next (pd (a ^^^ 0xFFFFFFFF))) ∧
        (iMajor v = 0x2A → iVMinor v = 3 → exec (.pfroms t n w) s = .next (pd (x.sreg (iB v)))) ∧
        (iMajor v = 0x2A → iVMinor v = 4 → exec (.ptos t n w) s = .next (s1.goesOn n (x.setS (iB v) a))))

/-- MFSR reads a special register to s[rd]: LINE_Y, PHASE and LINE_LEN follow the routine and its frame, LANTERN is the Lantern's number,
TIME_LO the low half of device time with TIME_HI latched beside it, FRAME_LO and FRAME_HI the frame, CYCLE the clocks since the routine
began, and the stored ones what they hold; MTSR writes a value in range to a writable one, and one out of range raises XRANGE, cause 5
(09 R319, R337).

The system instructions (09 R338, R350): outside a handler LEND ends the routine and WAIT stalls the Lantern from the lines it has
seen on; in one they raise ILLEGAL, cause 1. LDROP raises SOFT, cause 6. RETI returns from the innermost handler, with PC and the saved
registers restored and RETIRED one higher, outside the code raises FETCH_RANGE, cause 4, and outside a handler ILLEGAL. An undefined word
raises ILLEGAL (R325); a Lantern whose ended WAIT was its last word raises FETCH_RANGE (R344). -/
def Obligations.SpecialAndSystemInstructions : Prop :=
  (
    ∀ t n w s,
      let s1 := (s.elapse t).awake n
      let x := s1.lantern n
      let v := w.toNat
      let k := nbits v 0 8
      let a := x.sreg (iRa v)
      let rd (y : Lantern) (r : Nat) : State := s1.goesOn n (y.setS (iRd v) r)
      (s.elapse t).AtPc n w →
        (iMajor v = 0x30 → k = 0x00 →
          exec (.mfsr t n w) s = .next (rd x (if x.routine = .lineEntry then x.lineY else 0xFFFFFFFF))) ∧
        (iMajor v = 0x30 → k = 0x01 →
          exec (.mfsr t n w) s = .next (rd x (if x.routine = .frameEntry then 1 else if x.routine = .frameExit then 2 else 0))) ∧
        (∀ f, iMajor v = 0x30 → k = 0x02 → s1.workFrame n = some f → exec (.mfsr t n w) s = .next (rd x (f.elements x.tap))) ∧
        (iMajor v = 0x30 → k = 0x0E → exec (.mfsr t n w) s = .next (rd x n)) ∧
        (iMajor v = 0x30 → k = 0x0C → exec (.mfsr t n w) s = .next (rd x ((x.frame.getD 0) % 2 ^ 32))) ∧
        (iMajor v = 0x30 → k = 0x0D → exec (.mfsr t n w) s = .next (rd x ((x.frame.getD 0) / 2 ^ 32))) ∧
        (iMajor v = 0x30 → k = 0x10 → exec (.mfsr t n w) s = .next (rd x ((s1.ns - x.lineStart) * 7 / 5 % 2 ^ 32))) ∧
        (iMajor v = 0x30 → k = 0x11 → exec (.mfsr t n w) s = .next (rd (x.setSpr 0x12 (s1.dt / 2 ^ 32)) (s1.dt % 2 ^ 32))) ∧
        (iMajor v = 0x30 → (3 ≤ k ∧ k ≤ 0x0B) ∨ k = 0x0F ∨ k = 0x12 → exec (.mfsr t n w) s = .next (rd x (x.spr k))) ∧
        (iMajor v = 0x31 → (k = 5 → 1 ≤ a ∧ a ≤ 32768) → (k = 6 → a ≤ 31) → (k = 8 → a ≤ 3) → (9 ≤ k → a < 2 ^ 13) →
          exec (.mtsr t n w) s = .next (s1.goesOn n (x.setSpr k a))) ∧
        (iMajor v = 0x31 → (k = 5 ∧ (a = 0 ∨ 32768 < a)) ∨ (k = 6 ∧ 31 < a) ∨ (k = 8 ∧ 3 < a) ∨ (9 ≤ k ∧ 2 ^ 13 ≤ a) →
          exec (.mtsr t n w) s = .next (s1.trap n 5 x.pc))) ∧
  (
    ∀ t n w s,
      let s1 := (s.elapse t).awake n
      let x := s1.lantern n
      let v := w.toNat
      let m := iMinor v
      let handler : Prop := x.normal.isSome = true ∨ x.fast.isSome = true
      ((s.elapse t).AtPc n w → iMajor v = 0x3F →
        (m = 0 → ¬handler → exec (.lend t n w) s = .next ((s1.setLantern n (x.setSpr 0xF (x.spr 0xF + 1))).endRoutine n)) ∧
        (m = 0 → handler → exec (.lend t n w) s = .next (s1.trap n 1 x.pc)) ∧
        (m = 1 → exec (.ldrop t n w) s = .next (s1.trap n 6 x.pc)) ∧
        (m = 2 → ¬handler → exec (.wait t n w) s =
          .next (s1.setLantern n (Lantern.retired { x with waiting := some (s1.tapCount n) } (x.pc + 1)))) ∧
        (m = 2 → handler → exec (.wait t n w) s = .next (s1.trap n 1 x.pc)) ∧
        (∀ y, m = 3 → x.handlerReturn = some y → y.pc < y.codeWords →
          exec (.reti t n w) s = .next (s1.setLantern n (y.setSpr 0xF (y.spr 0xF + 1)))) ∧
        (∀ y, m = 3 → x.handlerReturn = some y → y.codeWords ≤ y.pc → exec (.reti t n w) s = .next (s1.trap n 4 x.pc)) ∧
        (m = 3 → ¬handler → exec (.reti t n w) s = .next (s1.trap n 1 x.pc))) ∧
      (let s2 := (s.elapse t).settled n
      (s2.runsOut n = false → s2.issues n v = true → isaLegal v = false →
        exec (.illegal t n w) s = .next (s2.trap n 1 (s2.lantern n).pc)) ∧
      (s2.runsOut n = true → exec (.illegal t n w) s = .next (s2.trap n 4 ((s2.lantern n).codeWords - 1)))))

/-- A handler saves and RETI restores (09 R346, R347, R350): entry to the fast handler keeps PC in EPC_FAST, goes to the fast vector and
clears PROGRESS; the return restores PC, PROGRESS, XACC, XLEN and XSHIFT and leaves every scalar register as it is. -/
def Obligations.HandlerReturnRestores : Prop :=
  ∀ (x : Lantern), x.pc < 2 ^ 32 → (∀ k, x.spr k < 2 ^ 32) →
    (x.fast = none → ∃ y, x.enterFast.handlerReturn = some y ∧ y.pc = x.pc ∧ y.spr 4 = x.spr 4 ∧ y.spr 7 = x.spr 7 ∧ y.spr 5 = x.spr 5 ∧
      y.spr 6 = x.spr 6 ∧ y.fast = none ∧ y.normal = x.normal ∧ y.s = x.s ∧ y.shadow = x.shadow) ∧
    (x.fast = none → x.normal = none → ∃ y, x.enterNormal.handlerReturn = some y ∧ y.pc = x.pc ∧ y.spr 4 = x.spr 4 ∧ y.spr 7 = x.spr 7 ∧
      y.spr 5 = x.spr 5 ∧ y.spr 6 = x.spr 6 ∧ y.normal = none ∧ y.s = x.s)

/-- The extended operations (09 R339 to R341): a group whose arrays are aligned and in range, with no gather in the way, is carried out
as the operation's plan gives; the last group retires the instruction, another moves PROGRESS and RETIRED on by one and stays at PC.
Arrays that are not aligned raise MISALIGNED, cause 3, and then an element in no range it may be raises ACCESS, cause 2 (R330).

What the groups compute (09 R339, R340): an element of VBLK is its function of the elements of a and b, VGATH looks up b at the element
of a shifted right by fn, and VRED folds the elements of the group into XACC; each writes its elements and changes no other register. -/
def Obligations.ExtendedInstructions : Prop :=
  (
    ∀ t (n : Fin 64) (w : Word) s,
      let s1 := (s.elapse t).awake n
      let x := s1.lantern n
      let v := w.toNat
      let is := groupElems (x.spr 5) (x.spr 4)
      let runs (p : ExtGroup) : Prop := p.aligned = true ∧ (∀ q ∈ p.reads, x.readable q.1 = true ∧ x.stalls q.1 q.2 = false) ∧
        ∀ q ∈ p.writes, x.writable q.1 = true ∧ x.stalls q.1 q.2 = false
      let group (p : ExtGroup) : State := if x.spr 5 ≤ 32 * (x.spr 4 + 1) then s1.goesOn n p.after
        else s1.setLantern n ((p.after.setSpr 0xF (p.after.spr 0xF + 1)).setSpr 4 (p.after.spr 4 + 1))
      let faulty (p : ExtGroup) : Prop := (∃ q ∈ p.reads, x.readable q.1 = false) ∨ ∃ q ∈ p.writes, x.writable q.1 = false
      (s.elapse t).AtPc n w → iMajor v = 0x38 →
        (iMinor v = 1 → runs (vblkPlan n s1 x v is) → exec (.vblk t n w) s = .next (group (vblkPlan n s1 x v is))) ∧
        (iMinor v = 2 → runs (vfirPlan n s1 x v is) → exec (.vfir t n w) s = .next (group (vfirPlan n s1 x v is))) ∧
        (iMinor v = 3 → runs (vgathPlan n s1 x v is) → exec (.vgath t n w) s = .next (group (vgathPlan n s1 x v is))) ∧
        (iMinor v = 4 → runs (vscanPlan n s1 x v is) → exec (.vscan t n w) s = .next (group (vscanPlan n s1 x v is))) ∧
        (iMinor v = 5 → runs (vhistPlan n s1 x v is) → exec (.vhist t n w) s = .next (group (vhistPlan n s1 x v is))) ∧
        (iMinor v = 6 → runs (vredPlan n s1 x v is) → exec (.vred t n w) s = .next (group (vredPlan n s1 x v is))) ∧
        (iMinor v = 1 → ((vblkPlan n s1 x v is).aligned = false → exec (.vblk t n w) s = .next (s1.trap n 3 x.pc)) ∧
          ((vblkPlan n s1 x v is).aligned = true → faulty (vblkPlan n s1 x v is) → exec (.vblk t n w) s = .next (s1.trap n 2 x.pc))) ∧
        (iMinor v = 2 → ((vfirPlan n s1 x v is).aligned = false → exec (.vfir t n w) s = .next (s1.trap n 3 x.pc)) ∧
          ((vfirPlan n s1 x v is).aligned = true → faulty (vfirPlan n s1 x v is) → exec (.vfir t n w) s = .next (s1.trap n 2 x.pc))) ∧
        (iMinor v = 3 → ((vgathPlan n s1 x v is).aligned = false → exec (.vgath t n w) s = .next (s1.trap n 3 x.pc)) ∧
          ((vgathPlan n s1 x v is).aligned = true → faulty (vgathPlan n s1 x v is) → exec (.vgath t n w) s = .next (s1.trap n 2 x.pc))) ∧
        (iMinor v = 4 → ((vscanPlan n s1 x v is).aligned = false → exec (.vscan t n w) s = .next (s1.trap n 3 x.pc)) ∧
          ((vscanPlan n s1 x v is).aligned = true → faulty (vscanPlan n s1 x v is) → exec (.vscan t n w) s = .next (s1.trap n 2 x.pc))) ∧
        (iMinor v = 5 → ((vhistPlan n s1 x v is).aligned = false → exec (.vhist t n w) s = .next (s1.trap n 3 x.pc)) ∧
          ((vhistPlan n s1 x v is).aligned = true → faulty (vhistPlan n s1 x v is) → exec (.vhist t n w) s = .next (s1.trap n 2 x.pc))) ∧
        (iMinor v = 6 → ((vredPlan n s1 x v is).aligned = false → exec (.vred t n w) s = .next (s1.trap n 3 x.pc)) ∧
          ((vredPlan n s1 x v is).aligned = true → faulty (vredPlan n s1 x v is) → exec (.vred t n w) s = .next (s1.trap n 2 x.pc)))) ∧
  (
    ∀ (n : Nat) (u : State) (x : Lantern) (v : Nat) (is : List Nat),
      let a := x.sreg (iRd v)
      let b := x.sreg (iRa v)
      let d := x.sreg (iRb v)
      let read (p i : Nat) : Nat := u.ltRead n ((p + 2 * i) % 2 ^ 32) 2
      (iFn v ≠ 0xB → (vblkPlan n u x v is).after = x.putElems d (is.map (fun i => (i, blkOp (iFn v) (x.spr 6) (read a i) (read b i))))) ∧
      (vgathPlan n u x v is).after = x.putElems d (is.map (fun i => (i, read b (read a i / 2 ^ iFn v)))) ∧
      (iFn v = 0 → (vredPlan n u x v is).after = x.setSpr 7 (is.foldl (fun acc i => (acc + read a i) % 2 ^ 32) (x.spr 7))))

/-- The routines of a Lantern start (08 R286, R287; 09 R320): FRAME_ENTRY at the entry of its header for the next frame that has shown a
line or has closed, LINE_ENTRY for the next line with BELOW further ones at the tap, or the frame closed, with the line in the output line,
FRAME_EXIT when the frame has closed and every line has left. The registers are zero, XLEN is the elements of a line, HANDLERS enables
both and PC is the entry's word.

LANTERN_OVERRUN strikes outside Replay when more than SLACK lines wait beyond L + BELOW, and not otherwise (08 R302), and in Replay
at the journaled strikes alone (16 R567); LANTERN_HOLDOFF_EXPIRY allows the pending normal sources once HOLDOFF clocks have passed since
the earliest of them pended, and does nothing before (08 R311).

GO starts a gather (08 R292, R293): with bit 0 set, no gather outstanding, a defined element size, a count above 0 and both its lists
inside the local store, the indices of the list are taken and GATHERS rises; otherwise REFUSED is set. GATHER_DONE ends it: its bytes
stand at DEST in the local store, no gather is outstanding, source 48 pends, and where an element lay beyond the segment RANGE is set and
source 49 pends. -/
def Obligations.LanternRoutines : Prop :=
  (
    ∀ t (n : Fin 64) s f,
      let s1 := s.elapse t
      let x := s1.lantern n
      let work : Option Frame := if x.hdr 0x10 = 0xFFFF then (match s1.workFrame n with | some g => some g | none => s1.nextFrame n)
        else s1.workFrame n
      let lines := (f.tapLines x.tap).1.length
      let closed := (f.tapLines x.tap).2
      let left := (f.returnedAt x.tap).length
      let entered (z : Lantern) (r : Routine) (entry y : Nat) : Prop :=
        z.routine = r ∧ z.frame = some f.number ∧ z.lineY = y ∧ z.pc = x.hdr entry ∧ z.s = [] ∧ z.v = [] ∧ z.p = [] ∧
        z.spr 4 = 0 ∧ z.spr 5 = f.elements x.tap % 2 ^ 32 ∧ z.spr 8 = 3 ∧ z.normal = none ∧ z.fast = none ∧ z.store = x.store
      (s1.nextFrame n = some f → x.hdr 0x10 ≠ 0xFFFF → 0 < lines ∨ closed = true →
        ∃ z, exec (.frameEntry t n) s = .next (s1.setLantern n z) ∧ entered z .frameEntry 0x10 0) ∧
      (x.routine = .idle → work = some f → left < lines → left + x.below < lines ∨ closed = true →
        ∃ z, exec (.lineEntry t n) s = .next (s1.setLantern n z) ∧ entered z .lineEntry 0xE left ∧
          z.outLine = fitLine (f.elements x.tap) (f.lineAt x.tap left)) ∧
      (x.hdr 0x12 ≠ 0xFFFF → x.routine = .idle → work = some f → f.drained x.tap = true →
        ∃ z, exec (.frameExit t n) s = .next (s1.setLantern n z) ∧ entered z .frameExit 0x12 left)) ∧
  (
    ∀ t (n : Fin 64) s,
      let s1 := s.elapse t
      let x := s1.lantern n
      let s2 := s1.settled n
      let z := s2.lantern n
      (s.mode ≠ .replay → x.slack < waitingLines x.below x.tap (s1.framesOf n) → exec (.lanternOverrun t n) s = .next (s1.overrun n)) ∧
      (s.mode ≠ .replay → waitingLines x.below x.tap (s1.framesOf n) ≤ x.slack → exec (.lanternOverrun t n) s = .next s1) ∧
      (∀ r, s.mode = .replay → s1.replayStrike n = some r → exec (.lanternOverrun t n) s =
        .next (({ s1 with session := { s1.session with kept := s1.session.kept.erase r } }).overrun n)) ∧
      (s.mode = .replay → s1.replayStrike n = none → exec (.lanternOverrun t n) s = .next s1) ∧
      (∀ e, z.earliest = some e → e + (z.irqHoldoff * 5 + 6) / 7 ≤ s2.ns →
        exec (.lanternHoldoffExpiry t n) s = .next (s2.setLantern n { z with holdoffDone := true })) ∧
      (∀ e, z.earliest = some e → s2.ns < e + (z.irqHoldoff * 5 + 6) / 7 → exec (.lanternHoldoffExpiry t n) s = .next s2)) ∧
  (
    (∀ t (n : Fin 64) (v : Word) s,
      let s1 := (s.elapse t).settled n
      let x := s1.lantern n
      let bad : Prop := x.gather.isSome = true ∨ 0x200000 < x.gIndex + 4 * x.gCount ∨ 0x200000 < x.gDest + 2 ^ x.gElem * x.gCount ∨
        x.gElem = 7 ∨ x.gCount = 0
      x.routine ≠ .idle →
        (nbit v.toNat 0 = true → bad → exec (.go t n v) s = .next (s1.setLantern n { x with gRefused := true })) ∧
        (nbit v.toNat 0 = true → ¬bad → ∃ u, exec (.go t n v) s = .next u ∧ (∃ g, (u.lantern n).gather = some g ∧ g.src = x.gSrc ∧
          g.dest = x.gDest ∧ g.elem = x.gElem ∧
          g.indices = (List.range x.gCount).map (fun k => leVal (memRead x.store (x.gIndex + 4 * k) 4))) ∧ (u.lantern n).gRefused = false ∧
          (u.lantern n).store = x.store ∧ (∀ m, m ≠ n.val → u.lantern m = s.lantern m) ∧
          u = { s1 with lanterns := u.lanterns, aux := u.aux, auxWait := u.auxWait }) ∧
        (nbit v.toNat 0 = false → exec (.go t n v) s = .next s1)) ∧
    (∀ t (n : Fin 64) s k g,
      let s1 := s.elapse t
      (List.range 8).find? (fun k => (s1.auxMover k).runs && (s1.auxMover k).queue.head? == some (AuxJob.gather n)) = some k →
      (s.lantern n).gather = some g →
        ∃ u, exec (.gatherDone t n) s = .next u ∧ (u.lantern n).gather = none ∧ (u.lantern n).gRange = (gatherBytes g).2 ∧
          (u.lantern n).store = memWrite (s.lantern n).store g.dest (gatherBytes g).1 ∧ nbit (u.lantern n).irqPending 48 = true ∧
          ((gatherBytes g).2 = true → nbit (u.lantern n).irqPending 49 = true)))

/-- The write registers of a Lantern's interrupt controller (08 R308, R312): PENDING_SET pends sources, of which those from 52 on never
do, PENDING_CLR withdraws requests, but a pin source in MODE 3 pends while its line is high, MASK_SET and MASK_CLR change the mask, in the
low or the high word.

A claim takes the lowest deliverable source of its class, or none, and in Replay the journaled one: its bit moves from pending to
active (08 R309; 09 R352); COMPLETE ends the activity of the source written; DOORBELL pends one of the sources 0 to 31, and another value
is counted and reported; a read of COUNT clears its four counters (R308, R310).

GIO_EDGE gives its line the new level and its stamp on the grid of 250 ps (12 R425, R442); one that repeats the level, comes within
FILTER samples of the last, or comes in Keep, does nothing.

EVENT_ARRIVAL takes the event off its way and hands it to its slot's consumer, at its instant and in order (13 R453 to R455): a
Lantern's source pends. Before its instant, or in Keep and Dark (R471), nothing arrives. CONSUMER_FREE lets a slot of a mover that has
used its step go, when none is pending. -/
def Obligations.InterruptsAndEvents : Prop :=
  (
    ∀ t (n : Fin 64) (w : LanternWrite) s,
      let s1 := (s.elapse t).settled n
      let x := s1.lantern n
      let m := if w.high then w.v.toNat * 2 ^ 32 else w.v.toNat
      let pending (y : Lantern) : Lantern :=
        { x with irqPending := y.irqPending, pendedAt := y.pendedAt, earliest := y.earliest, holdoffDone := y.holdoffDone }
      x.routine ≠ .idle →
        (∃ y, exec (.pendingSet t n w) s = .next (s1.setLantern n y) ∧ y.irqPending = (x.irqPending ||| m % 2 ^ 52) ∧ y = pending y) ∧
        (∃ y, exec (.pendingClr t n w) s = .next (s1.setLantern n y) ∧
          y.irqPending = (x.irqPending &&& (m ^^^ (2 ^ 64 - 1)) ||| x.pinHigh * 2 ^ 32) ∧ y = pending y) ∧
        exec (.maskSet t n w) s = .next (s1.setLantern n { x with irqMask := x.irqMask ||| m }) ∧
        exec (.maskClr t n w) s = .next (s1.setLantern n { x with irqMask := x.irqMask &&& (m ^^^ (2 ^ 64 - 1)) })) ∧
  (
    ∀ t (n : Fin 64) s,
      let s1 := (s.elapse t).settled n
      let x := s1.lantern n
      let given (fast : Bool) : Option Nat := (if fast then x.fast else x.normal).bind (·.given)
      x.routine ≠ .idle →
        (given false = none → x.deliverable false = [] → exec (.claimNormal t n) s = .next (s1.setLantern n x)) ∧
        (∀ k l, given false = none → x.deliverable false = k :: l → exec (.claimNormal t n) s = .next (s1.setLantern n (x.take k s1.ns))) ∧
        (∀ k, given false = some k →
          exec (.claimNormal t n) s = .next (s1.setLantern n ((x.giveSource false none).take k s1.ns))) ∧
        (given true = none → x.deliverable true = [] → exec (.claimFast t n) s = .next (s1.setLantern n x)) ∧
        (∀ k l, given true = none → x.deliverable true = k :: l → exec (.claimFast t n) s = .next (s1.setLantern n (x.take k s1.ns))) ∧
        (∀ k, given true = some k → exec (.claimFast t n) s = .next (s1.setLantern n ((x.giveSource true none).take k s1.ns))) ∧
        (∀ (y : Lantern) k, (y.take k s1.ns).irqActive = (y.irqActive ||| 2 ^ k) ∧
          (y.take k s1.ns).irqPending = (y.irqPending &&& (2 ^ k ^^^ (2 ^ 64 - 1)) ||| y.pinHigh * 2 ^ 32)) ∧
        (∀ v : Word, v.toNat % 256 < 64 → exec (.complete t n v) s =
          .next (s1.setLantern n { x with irqActive := x.irqActive &&& (2 ^ (v.toNat % 256) ^^^ (2 ^ 64 - 1)) })) ∧
        (∀ v : Word, 64 ≤ v.toNat % 256 → exec (.complete t n v) s = .next (s1.setLantern n x)) ∧
        (∀ v : Word, v.toNat % 256 < 32 → exec (.doorbell t n v) s = .next (s1.setLantern n (x.event (v.toNat % 256) s1.ns))) ∧
        (∀ v : Word, 32 ≤ v.toNat % 256 → exec (.doorbell t n v) s = .next (s1.lanternLimited n 0x06 2 0x0306 (v.toNat % 256))) ∧
        (∀ g : Fin 16, exec (.count t n g) s =
          .next (s1.setLantern n { x with irqCount := x.irqCount.filter (fun p => p.1 / 4 != g.val) }))) ∧
  (
    ∀ t (g : Fin 48) (level : Bool) (sub : Fin 512) s,
      let s1 := s.elapse t
      let x := s1.gioLine g
      let i := (s1.dt256 + sub.val) / 64 * 64
      let y : Gio := { x with seen := level, moved := some i }
      (x.seen = level ∨ s.mode = .keep → exec (.gioEdge t g level sub) s = .next s1) ∧
      (∀ j, x.moved = some j → i < j + 320 * x.filter → exec (.gioEdge t g level sub) s = .next s1) ∧
      (x.seen ≠ level → (∀ j, x.moved = some j → j + 320 * x.filter ≤ i) → s.mode = .dark →
        exec (.gioEdge t g level sub) s = .next (s1.setGio g y)) ∧
      (x.seen ≠ level → (∀ j, x.moved = some j → j + 320 * x.filter ≤ i) → s.mode ≠ .keep →
        ∃ u, exec (.gioEdge t g level sub) s = .next u ∧ u.gioLine g = y ∧ ∀ k, k ≠ g.val → u.gioLine k = s.gioLine k)) ∧
  (
    (∀ t (ch : Fin 256) (slot : Fin 8) s f,
      let s1 := s.elapse t
      s1.flights.find? (fun f => f.ch = ch.val && f.slot % 8 = slot.val) = some f →
      let ahead := s1.flights.any (fun g => g.kind = f.kind && g.index = f.index && (g.arrive < f.arrive || (g.arrive = f.arrive && g.ch < f.ch)))
      (s1.reached f.arrive = true → ahead = false → s.mode ≠ .dark → s.mode ≠ .keep →
        exec (.eventArrival t ch slot) s = .next (({ s1 with flights := s1.flights.erase f }).arrive f)) ∧
      (s1.reached f.arrive = true → ahead = false → s.mode ≠ .dark → s.mode ≠ .keep → f.kind = 2 →
        ∃ u, exec (.eventArrival t ch slot) s = .next u ∧ u.lantern f.index = (s.lantern f.index).event f.arg s1.ns ∧
          u.Reports { s1 with flights := s.flights.erase f, lanterns := u.lanterns }) ∧
      (s1.reached f.arrive = false ∨ ahead = true → exec (.eventArrival t ch slot) s = .next s1) ∧
      ((s.mode = .dark ∨ s.mode = .keep) → exec (.eventArrival t ch slot) s = .next s1)) ∧
    (∀ t (ch : Fin 256) (slot : Fin 8) s,
      let s1 := s.elapse t
      let y := (s1.channel ch).slot slot
      s.mode ≠ .dark → s.mode ≠ .keep → (s1.channel ch).past = [] →
        (y.kind = 4 → y.busy.isSome = true → s1.stepUsed y.index y.arg = true → y.pending = none →
          exec (.consumerFree t ch slot) s = .next (s1.setSlot ch slot { y with busy := none, pending := none })) ∧
        (∀ q, y.kind = 3 → y.busy = none → y.pending = some q → (s1.seqr y.index).running = false →
          ∃ u, exec (.consumerFree t ch slot) s = .next u ∧ u.Reports (s1.setSlot ch slot { y with busy := none, pending := none })) ∧
        (y.kind = 2 ∨ y.kind = 5 → exec (.consumerFree t ch slot) s = .next s1)))

/-- The handlers of a Lantern are entered outside Replay when a source of the class can be delivered, and in Replay at the journaled
points (08 R309, R311, R313; 09 R345 to R347, R352): PC is kept in EPC or EPC_FAST and goes to the vector, PROGRESS is 0, what RETI
restores is saved, and INTERRUPTS_TAKEN rises. -/
def Obligations.LanternHandlers : Prop :=
  ∀ t (n : Fin 64) s,
    let s1 := (s.elapse t).settled n
    let x := s1.lantern n
    let saved (y : Lantern) (epc : Nat) (fast : Bool) : Prop :=
      y.pc = (x.vector fast).getD 0 ∧ y.spr epc = x.pc % 2 ^ 32 ∧ y.spr 4 = 0 ∧ y.s = x.s ∧
        tabGet 0 y.counters 7 = satAdd 32 (tabGet 0 x.counters 7) 1
    s.mode ≠ .keep → s.mode ≠ .dark →
      (x.normalReady = true → s.mode ≠ .replay → ∃ u, exec (.normalHandlerEntry t n) s = .next u ∧ saved (u.lantern n) (9) false ∧
        (u.lantern n).normal = some x.save ∧ u.Reports { s1 with lanterns := u.lanterns }) ∧
      (∀ r, s.mode = .replay → s1.replayIrq n false = some r → x.routine ≠ .idle → x.fast.isNone = true → x.normal.isNone = true → (x.vector false).isSome = true →
        ∃ u, exec (.normalHandlerEntry t n) s = .next u ∧ saved (u.lantern n) (9) false ∧
          (u.lantern n).normal = some { x.save with given := some (lbits r.body 0 1 0 6) } ∧
          u.Reports { s1 with lanterns := u.lanterns, session := u.session }) ∧
      (x.fastReady = true → s.mode ≠ .replay → ∃ u, exec (.fastHandlerEntry t n) s = .next u ∧ saved (u.lantern n) (0xA) true ∧
        (u.lantern n).fast = some x.save ∧ u.Reports { s1 with lanterns := u.lanterns }) ∧
      (∀ r, s.mode = .replay → s1.replayIrq n true = some r → x.routine ≠ .idle → x.fast.isNone = true → (x.vector true).isSome = true →
        ∃ u, exec (.fastHandlerEntry t n) s = .next u ∧ saved (u.lantern n) (0xA) true ∧
          (u.lantern n).fast = some { x.save with given := some (lbits r.body 0 1 0 6) } ∧
          u.Reports { s1 with lanterns := u.lanterns, session := u.session })

/-- REGISTER_WRITE of 4 bytes to a set-up register, by a port that answers with memory space on, outside Dark (21 R664 to R668): SCRATCH
keeps the value, a write of 1 to REJECT clears it, a base register that is not locked takes its half, the low one with bits [11:0] 0,
a size register takes 6 to 16 and rejects others with reason 1, and a locked register rejects with reason 2.

REGISTER_WRITE to configuration space of a ready port (02 R41, R42, R46, R51, R66, R71, R73): the fields that the model holds take
their bits, the AER status registers clear where 1 is written, and severity bit 22 stays 1. Until the port is ready it answers with
Request Retry Status (R54), but for the link partner's setting of Device Readiness Status. The bits' places are PCI Express's, entry 15, and
that exception is the model's choice, entry 89.

BRING_UP, TAKE_DOWN, RESTART_RING0 and RESTART_RING1 (21 R669): accepted, they set BUSY and bring ring 0, ring 1 and the doorbell page
into service as the set-up registers give them, or take them out; refused, they set REJECT with offset 0x050 and the reason, and
nothing else changes; with memory space off they are Unsupported Requests (02 R46). SETUP_ACTION_COMPLETE clears BUSY. -/
def Obligations.SetupAndConfigurationRegisters : Prop :=
  (
    ∀ t (p : Fin 4) s (v : BitVec 64) (h : BitVec 128),
      let s1 := s.elapse t
      let w := v.toNat % 2 ^ 32
      let low (b : Nat) : Nat := b / 2 ^ 32 * 2 ^ 32 + w / 4096 * 4096
      let high (b : Nat) : Nat := b % 2 ^ 32 + w * 2 ^ 32
      s1.answers p = true → (s1.port p).mse = true → s.mode ≠ .dark →
        (exec (.registerWrite t p (.bar0 0x00C 4 v h)) s = .next (s1.modPort p (fun x => { x with scratch := w }))) ∧
        (nbit w 17 = true → exec (.registerWrite t p (.bar0 0x004 4 v h)) s = .next (s1.modPort p (fun x => { x with reject := false }))) ∧
        (s1.locked p 0 = false → exec (.registerWrite t p (.bar0 0x020 4 v h)) s = .next (s1.modPort p (fun x => { x with cmdBase := low x.cmdBase }))) ∧
        (s1.locked p 0 = false → exec (.registerWrite t p (.bar0 0x024 4 v h)) s = .next (s1.modPort p (fun x => { x with cmdBase := high x.cmdBase }))) ∧
        (s1.locked p 0 = false → 6 ≤ w % 32 → w % 32 ≤ 16 → exec (.registerWrite t p (.bar0 0x028 4 v h)) s = .next (s1.modPort p (fun x => { x with cmdSize := w % 32 }))) ∧
        (s1.locked p 0 = false → w % 32 < 6 ∨ 16 < w % 32 → exec (.registerWrite t p (.bar0 0x028 4 v h)) s = .next (s1.modPort p (fun x => { x with reject := true, rejectOffset := 0x028, rejectReason := 1 }))) ∧
        (s1.locked p 1 = false → exec (.registerWrite t p (.bar0 0x030 4 v h)) s = .next (s1.modPort p (fun x => { x with evtBase := low x.evtBase }))) ∧
        (s1.locked p 1 = false → exec (.registerWrite t p (.bar0 0x034 4 v h)) s = .next (s1.modPort p (fun x => { x with evtBase := high x.evtBase }))) ∧
        (s1.locked p 1 = false → 6 ≤ w % 32 → w % 32 ≤ 16 → exec (.registerWrite t p (.bar0 0x038 4 v h)) s = .next (s1.modPort p (fun x => { x with evtSize := w % 32 }))) ∧
        (s1.locked p 1 = false → w % 32 < 6 ∨ 16 < w % 32 → exec (.registerWrite t p (.bar0 0x038 4 v h)) s = .next (s1.modPort p (fun x => { x with reject := true, rejectOffset := 0x038, rejectReason := 1 }))) ∧
        (s1.locked p 2 = false → exec (.registerWrite t p (.bar0 0x040 4 v h)) s = .next (s1.modPort p (fun x => { x with dbBase := low x.dbBase }))) ∧
        (s1.locked p 2 = false → exec (.registerWrite t p (.bar0 0x044 4 v h)) s = .next (s1.modPort p (fun x => { x with dbBase := high x.dbBase }))) ∧
        (s1.locked p 0 = true → exec (.registerWrite t p (.bar0 0x020 4 v h)) s = .next (s1.modPort p (fun x => { x with reject := true, rejectOffset := 0x020, rejectReason := 2 }))) ∧
        (s1.locked p 0 = true → exec (.registerWrite t p (.bar0 0x024 4 v h)) s = .next (s1.modPort p (fun x => { x with reject := true, rejectOffset := 0x024, rejectReason := 2 }))) ∧
        (s1.locked p 0 = true → exec (.registerWrite t p (.bar0 0x028 4 v h)) s = .next (s1.modPort p (fun x => { x with reject := true, rejectOffset := 0x028, rejectReason := 2 }))) ∧
        (s1.locked p 1 = true → exec (.registerWrite t p (.bar0 0x030 4 v h)) s = .next (s1.modPort p (fun x => { x with reject := true, rejectOffset := 0x030, rejectReason := 2 }))) ∧
        (s1.locked p 1 = true → exec (.registerWrite t p (.bar0 0x034 4 v h)) s = .next (s1.modPort p (fun x => { x with reject := true, rejectOffset := 0x034, rejectReason := 2 }))) ∧
        (s1.locked p 1 = true → exec (.registerWrite t p (.bar0 0x038 4 v h)) s = .next (s1.modPort p (fun x => { x with reject := true, rejectOffset := 0x038, rejectReason := 2 }))) ∧
        (s1.locked p 2 = true → exec (.registerWrite t p (.bar0 0x040 4 v h)) s = .next (s1.modPort p (fun x => { x with reject := true, rejectOffset := 0x040, rejectReason := 2 }))) ∧
        (s1.locked p 2 = true → exec (.registerWrite t p (.bar0 0x044 4 v h)) s = .next (s1.modPort p (fun x => { x with reject := true, rejectOffset := 0x044, rejectReason := 2 }))) ∧
        (5 ≤ w % 8 → exec (.registerWrite t p (.bar0 0x050 4 v h)) s = .next (s1.modPort p (fun x => { x with reject := true, rejectOffset := 0x050, rejectReason := 1 })))) ∧
  (
    ∀ t (p : Fin 4) s (v : BitVec 32),
      let s1 := s.elapse t
      let x := s1.port p
      let n := v.toNat
      let y := { x with relaxed := nbit n 4, mps := min 1024 (128 * 2 ^ nbits n 5 3) }
      (x.link = .up → x.ready = true →
        exec (.registerWrite t p (.config .command v)) s = .next (s1.modPort p (fun x => { x with mse := nbit n 1 })) ∧
        exec (.registerWrite t p (.config .bar0Low v)) s = .next (s1.modPort p (fun x => { x with bar0 := x.bar0 / 2 ^ 32 * 2 ^ 32 + n / 65536 * 65536 })) ∧
        exec (.registerWrite t p (.config .bar0High v)) s = .next (s1.modPort p (fun x => { x with bar0 := x.bar0 % 2 ^ 32 + n * 2 ^ 32 })) ∧
        exec (.registerWrite t p (.config .linkControl v)) s = .next (s1.modPort p (fun x => { x with aspmL1 := nbit n 1 })) ∧
        exec (.registerWrite t p (.config .deviceControl3 v)) s = .next (s1.modPort p (fun x => { x with l0pEnable := nbit n 3 })) ∧
        exec (.registerWrite t p (.config .aerUncStatus v)) s = .next (s1.modPort p (fun x => { x with aerUnc := x.aerUnc &&& (0xFFFFFFFF ^^^ n) })) ∧
        exec (.registerWrite t p (.config .aerCorStatus v)) s = .next (s1.modPort p (fun x => { x with aerCor := x.aerCor &&& (0xFFFFFFFF ^^^ n) })) ∧
        exec (.registerWrite t p (.config .aerUncMask v)) s = .next (s1.modPort p (fun x => { x with aerUncMask := n })) ∧
        exec (.registerWrite t p (.config .aerCorMask v)) s = .next (s1.modPort p (fun x => { x with aerCorMask := n })) ∧
        exec (.registerWrite t p (.config .aerUncSeverity v)) s = .next (s1.modPort p (fun x => { x with aerUncSev := n ||| 2 ^ 22 })) ∧
        exec (.registerWrite t p (.config .aerControl v)) s = .next (s1.modPort p (fun x => { x with ecrcGen := nbit n 6, ecrcCheck := nbit n 8 })) ∧
        (y.capacity = x.capacity → exec (.registerWrite t p (.config .deviceControl v)) s = .next (s1.setPort p y)) ∧
        (∃ u, exec (.registerWrite t p (.config .msixControl v)) s = .next u ∧ (u.port p).fnMask = nbit n 14)) ∧
      (x.link = .up → exec (.registerWrite t p (.config .drsControl v)) s = .next (s1.modPort p (fun x => { x with drsEnable := nbit n 0 }))) ∧
      (x.link = .up → x.ready = false → exec (.registerWrite t p (.config .command v)) s = .next (s1.say (.answer p .retryStatus)))) ∧
  (
    ∀ t (p : Fin 4) s (h : BitVec 128),
      let s1 := s.elapse t
      let x := s1.port p
      let ring0 : Ring := { Ring.reset with st := .inService, kind := 1, log2size := x.cmdSize, base := x.cmdBase, eventRing := 1 }
      let ring1 : Ring := { Ring.reset with st := .inService, kind := 2, log2size := x.evtSize, base := x.evtBase, threshold := 1, eventRing := 1 }
      let rejected (why : Nat) : State := s1.modPort p (fun x => { x with reject := true, rejectOffset := 0x050, rejectReason := why })
      (s1.answers p = true → x.mse = true → s.mode ≠ .dark →
        (s1.actionRefusal p .bringUp = none → ∃ u, exec (.bringUp t ⟨p, h⟩) s = .next u ∧ (u.port p).busy = some (.bringUp, s1.ns + 10000) ∧
          (u.ring p 0).shape = ring0.shape ∧ (u.ring p 1).shape = ring1.shape ∧ (u.port p).doorbell = true ∧ (u.port p).pollInterval = 5) ∧
        (∀ why, s1.actionRefusal p .bringUp = some why → exec (.bringUp t ⟨p, h⟩) s = .next (rejected why)) ∧
        (s1.actionRefusal p .takeDown = none → ∃ u, exec (.takeDown t ⟨p, h⟩) s = .next u ∧ (u.port p).busy = some (.takeDown, s1.ns + 10000) ∧
          (u.ring p 0).st = .outOfService ∧ (u.ring p 1).st = .outOfService ∧ (u.port p).doorbell = false) ∧
        (∀ why, s1.actionRefusal p .takeDown = some why → exec (.takeDown t ⟨p, h⟩) s = .next (rejected why)) ∧
        (s1.actionRefusal p .restartRing0 = none → ∃ u, exec (.restartRing0 t ⟨p, h⟩) s = .next u ∧ (u.port p).busy = some (.restartRing0, s1.ns + 10000) ∧
          (u.ring p 0).shape = ring0.shape) ∧
        (∀ why, s1.actionRefusal p .restartRing0 = some why → exec (.restartRing0 t ⟨p, h⟩) s = .next (rejected why)) ∧
        (s1.actionRefusal p .restartRing1 = none → ∃ u, exec (.restartRing1 t ⟨p, h⟩) s = .next u ∧ (u.port p).busy = some (.restartRing1, s1.ns + 10000) ∧
          (u.ring p 1).shape = ring1.shape) ∧
        (∀ why, s1.actionRefusal p .restartRing1 = some why → exec (.restartRing1 t ⟨p, h⟩) s = .next (rejected why))) ∧
      (s1.answers p = true → x.mse = false →
        exec (.bringUp t ⟨p, h⟩) s = .next (s1.aerUncorrectable p 20 h.toNat) ∧ exec (.takeDown t ⟨p, h⟩) s = .next (s1.aerUncorrectable p 20 h.toNat) ∧
        exec (.restartRing0 t ⟨p, h⟩) s = .next (s1.aerUncorrectable p 20 h.toNat) ∧
        exec (.restartRing1 t ⟨p, h⟩) s = .next (s1.aerUncorrectable p 20 h.toNat)) ∧
      exec (.setupActionComplete t p) s = .next (s1.modPort p (fun x => { x with busy := none })))

/-- The link and the readiness of a port (02 R54 to R59): LINK_UP gives it its rate and width; PORT_READY makes it ready outside Keep, with
a DRS Message when that is enabled, and logs failed firmware; FLR_COMPLETE ends a function-level reset; BUS_MASTER_ENABLE and D0_RETURN set
their bit and keep the rest of the port's configuration, and get Request Retry Status while the port is not ready.

The resets of a port (02 R56, R57): every ring leaves service, sconces and lanes that the port owned have no owner, the translation
entries of the port go, the journal's ring on it is disabled (17 R587), and the claim leaves the port (R77); a function-level reset keeps
the link and makes the port not ready for up to 10 ms, a hot reset and DL_Down send the link back to Detect. -/
def Obligations.PortReadinessAndResets : Prop :=
  (
    ∀ t (p : Fin 4) s,
      let s1 := s.elapse t
      let x := s1.port p
      let ready := s1.setPort p { x with ready := true, flrUntil := none }
      let told := if x.drsEnable then ready.say (.drs p) else ready
      (∀ rate width, x.link ≠ .up → s.start.pll = true → x.refClk = true → legalRate rate = true → legalWidth width = true →
        exec (.linkUp t p rate width) s =
          .next ((s1.setPort p { x with link := .up, rate := rate, width := width, fullWidth := width }).reportDegraded p)) ∧
      (x.link = .up → x.ready = false → x.flrUntil = none → s.mode ≠ .keep →
        (s.start.fw ≠ .failed → exec (.portReady t p) s = .next told) ∧
        (s.start.fw = .failed → exec (.portReady t p) s = .next (told.aerUncorrectable p 22 0))) ∧
      (x.flrUntil.isSome = true → exec (.flrComplete t p) s = .next ready) ∧
      (s1.answers p = true → x.d3hot = true → ∃ u, exec (.d0Return t p) s = .next u ∧ u.Reports (s1.setPort p { x with d3hot := false })) ∧
      (s1.answers p = true → x.bme = false → ∃ u, exec (.busMasterEnable t p) s = .next u ∧
        u.Reports (s1.setPort p { x with bme := true, nextPoll := min x.nextPoll (s1.ns + 1000) })) ∧
      (x.link = .up → x.ready = false → exec (.d0Return t p) s = .next (s1.say (.answer p .retryStatus)) ∧
        exec (.busMasterEnable t p) s = .next (s1.say (.answer p .retryStatus)))) ∧
  (
    ∀ t (p : Fin 4) s,
      let s1 := s.elapse t
      let x := s1.port p
      let resets (u : State) (link : Link) (flr : Option Nat) : Prop :=
        (∀ r, (u.ring p r).live = false) ∧ (u.port p).link = link ∧ (u.port p).ready = false ∧ (u.port p).flrUntil = flr ∧
        (u.port p).doorbell = false ∧ (u.port p).bme = false ∧ (u.port p).aerUncSev = x.aerUncSev ∧ u.map = s.map.filter (fun m => m.port != p.val) ∧
        u.claim ≠ some p.val ∧ (s.jn.ring / 1024 = p.val → u.jn.ringEn = false) ∧
        (∀ k, (u.sconce k).owner ≠ some p.val) ∧ ∀ l, (u.lane l).owner ≠ some p.val
      (s1.answers p = true → ∃ u, exec (.functionLevelReset t p) s = .next u ∧ resets u .up (some (s1.ns + 10000000))) ∧
      (x.link = .up → ∃ u, exec (.hotReset t p) s = .next u ∧ resets u .detect none) ∧
      (x.link = .up → ∃ u, exec (.dlDown t p) s = .next u ∧ resets u .detect none))

/-- The interrupts of a port (02 R66 to R70): INTERRUPT_DISABLE sets its bit and deasserts INTA; INTERRUPT_ENABLE_CHANGE sets both enables;
MSIX_VECTOR_UNMASK unmasks its vector and sends what was pending once; HOLDOFF_EXPIRY ends the timer of its ring and fires it;
MSIX_SPACING_EXPIRY sends the message that waited, or sets its pending bit while it is masked.

The errors of a port (02 R45, R46, R71): each sets its AER status bit, with its header when it is the first, and sends the message of its
severity unless it is masked; advisory ones send ERR_COR. The bits' places are PCI Express's, entry 15.

D3HOT_ENTRY and BUS_MASTER_DISABLE (02 R58, R59): the port writes no more, and in D3hot it does not keep the claim (R77). L0P_REQUEST is
declined where it would narrow the link below the width R63 requires and else takes effect; L0P_NARROW narrows the link of a delivering
port to that width (02 R63, R65).

LINK_CAPACITY_CHANGE (02 R53): the port has the new rate and width; a port whose capacity rises does nothing else but report it. -/
def Obligations.PortInterruptsErrorsAndPower : Prop :=
  (
    ∀ t (p : Fin 4) s (h : BitVec 128),
      let s1 := s.elapse t
      let x := s1.port p
      (s1.answers p = true → ∃ u, exec (.interruptDisable t p) s = .next u ∧
        (u.port p) = { x with intDisable := true, intStatus := false, intaRings := [] } ∧
        (x.intStatus = true → x.silent = false → u.Sent (.intx p false)) ∧ u = { s1 with ports := u.ports, out := u.out }) ∧
      (∀ msix disable, s1.answers p = true → ∃ u, exec (.interruptEnableChange t p msix disable) s = .next u ∧
        (u.port p).msixEnable = msix ∧ (u.port p).intDisable = disable ∧ u.Within s1) ∧
      (∀ v : Fin 2048, let e := tabGet MsixEntry.reset x.msixTable v
        s1.answers p = true → x.mse = true → s.mode ≠ .dark →
        ∃ u, exec (.msixVectorUnmask t ⟨p, h⟩ v) s = .next u ∧ (tabGet MsixEntry.reset (u.port p).msixTable v).masked = false ∧
          (x.fnMask = false → x.canSignal = true → x.pba.contains v.val = true → (u.port p).pba.contains v.val = false ∧
            u.Sent (.msix p v e.addr e.data)) ∧ u = { s1 with ports := u.ports, out := u.out }) ∧
      (∀ r : Fin 1024, (s1.ring p r).live = true → (s1.ring p r).timer.isSome = true → s1.due (s1.ring p r).timer = true →
        exec (.holdoffExpiry t p r) s = .next ((s1.setRing p r { s1.ring p r with timer := none, count := 0 }).fireRing p r)) ∧
      (∀ (v : Fin 2048) due, let y : Port := { x with vecWait := tabDel x.vecWait v }
        tabFind x.vecWait v = some due → due ≤ s1.ns → x.canSignal = true →
        ((x.fnMask = false → (tabGet MsixEntry.reset x.msixTable v).masked = false →
          exec (.msixSpacingExpiry t p v) s = .next ((s1.setPort p { y with vecLast := tabPut x.vecLast v s1.ns }).say
            (.msix p v (tabGet MsixEntry.reset x.msixTable v).addr (tabGet MsixEntry.reset x.msixTable v).data))) ∧
        (x.fnMask = true ∨ (tabGet MsixEntry.reset x.msixTable v).masked = true → x.pba.contains v.val = false →
          exec (.msixSpacingExpiry t p v) s = .next (s1.setPort p { y with pba := v.val :: x.pba }))))) ∧
  (
    ∀ t (p : Fin 4) s (h : BitVec 128),
      let s1 := s.elapse t
      let x := s1.port p
      let logged (u : State) (bit : Nat) : Prop := (u.port p).aerUnc = (x.aerUnc ||| 2 ^ bit) ∧
        (u.port p).config = { x with aerUnc := (u.port p).aerUnc, aerCor := (u.port p).aerCor, firstError := (u.port p).firstError,
                                     headerLog := (u.port p).headerLog }.config ∧
        (∀ q, q ≠ p.val → u.port q = s.port q) ∧ u = { s1 with ports := u.ports, out := u.out } ∧
        (nbit x.aerUncMask bit = false → nbit x.aerCorMask 13 = false → ∃ m, u.Sent (.err p m))
      (x.link = .up →
        (∃ u, exec (.malformedTlp t p .malformed h) s = .next u ∧ logged u 18) ∧
        (∃ u, exec (.malformedTlp t p .flowControl h) s = .next u ∧ logged u 13) ∧
        (∃ u, exec (.malformedTlp t p .dataLink h) s = .next u ∧ logged u 4) ∧
        (x.ecrcCheck = true → ∃ u, exec (.malformedTlp t p .ecrc h) s = .next u ∧ logged u 19) ∧
        (∃ u, exec (.unexpectedCompletion t p h) s = .next u ∧ logged u 16)) ∧
      (∀ k, s1.answers p = true → k ≠ .memorySpaceOff ∨ x.mse = false →
        ∃ u, exec (.unsupportedRequest t p k h) s = .next u ∧ logged u 20 ∧ u.Sent (.answer p .unsupported)) ∧
      (s1.answers p = true → x.mse = true →
        (∀ read, ∃ u, exec (.completerAbort t p read h) s = .next u ∧ logged u 15 ∧ (read = true → u.Sent (.answer p .completerAbort))) ∧
        (∃ u, exec (.poisonedTlpReceived t p h) s = .next u ∧ logged u 12) ∧
        (∀ off size (v : BitVec 64), ¬(size = 4 ∧ off.toNat % 4 = 0) → ¬(size = 8 ∧ off.toNat % 8 = 0) →
          ∃ u, exec (.registerWrite t p (.bar0 off size v h)) s = .next u ∧ logged u 15)) ∧
      (s1.answers p = true → x.mse = false →
        (∀ off size (v : BitVec 64), ∃ u, exec (.registerWrite t p (.bar0 off size v h)) s = .next u ∧ logged u 20) ∧
        (∃ u, exec (.kick t ⟨p, h⟩) s = .next u ∧ logged u 20) ∧ ∀ v, ∃ u, exec (.msixVectorUnmask t ⟨p, h⟩ v) s = .next u ∧ logged u 20) ∧
      (∀ r tries, s1.readsSource p r = true → 0 < tries → tries < 3 →
        (∃ u, exec (.hostReadFailure t p r tries true h) s = .next u ∧ logged u 14) ∧ ∃ u, exec (.hostReadFailure t p r tries false h) s = .next u ∧ logged u 12)) ∧
  (
    ∀ t (p : Fin 4) s,
      let s1 := s.elapse t
      let x := s1.port p
      (s1.answers p = true → x.d3hot = false →
        ∃ u, exec (.d3hotEntry t p) s = .next u ∧ (u.port p).d3hot = true ∧ (u.port p).canWrite = false ∧ u.claim ≠ some p.val) ∧
      (s1.answers p = true → x.bme = true →
        ∃ u, exec (.busMasterDisable t p) s = .next u ∧ (u.port p).bme = false ∧ (u.port p).canWrite = false) ∧
      (∀ w, s1.answers p = true → x.l0pEnable = true → legalWidth w = true → w ≤ x.fullWidth →
        (w < x.width → w < s1.neededWidth p → exec (.l0pRequest t p w) s = .next (s1.say (.l0p p w false))) ∧
        (x.width ≤ w ∨ s1.neededWidth p ≤ w → exec (.l0pRequest t p w) s = .next ((s1.setPort p { x with width := w }).say (.l0p p w true)))) ∧
      (s1.answers p = true → x.l0pEnable = true → s1.delivers p = true → s1.neededWidth p < x.width →
        exec (.l0pNarrow t p) s = .next ((s1.setPort p { x with width := s1.neededWidth p }).say (.l0p p (s1.neededWidth p) true)))) ∧
  (
    ∀ t (p : Fin 4) s rate width,
      let s1 := s.elapse t
      let x := s1.port p
      let y := { x with rate := rate, width := width, fullWidth := width }
      x.link = .up → legalRate rate = true → legalWidth width = true →
        (∃ u, exec (.linkCapacityChange t p rate width) s = .next u ∧ (u.port p).rate = rate ∧ (u.port p).width = width ∧
          (u.port p).fullWidth = width) ∧
        (x.capacity < y.capacity → 80 < rate → x.degraded = false →
          ∃ u, exec (.linkCapacityChange t p rate width) s = .next u ∧ u.Reports (s1.setPort p y)))

/-- Three failed reads of a ring fault it (02 R71, 03 R93): it leaves service with cause 2.

A kick makes the next poll due at once with the configured interval (03 R100, 02 R61); a poll that is due reads its index words, sets
the time of the next one and writes the incremented POLL_EPOCH to 0x840 of the doorbell page when it read a word (03 R98). A port that
is quiet for 20 µs enters L1, and its idle poll is followed after 100 µs unless it finds work (02 R60, R61). -/
def Obligations.PollsAndReadFailures : Prop :=
  (
    ∀ t (p : Fin 4) s (r : Fin 1024) tries (timeout : Bool) (h : BitVec 128), (s.elapse t).readsSource p (.index r) = true → 3 ≤ tries →
      ∃ u, exec (.hostReadFailure t p (.index r) tries timeout h) s = .next u ∧ (u.ring p r).st = .faulted ∧ (u.ring p r).cause = 2) ∧
  (
    ∀ t (p : Fin 4) s (h : BitVec 128),
      let s1 := s.elapse t
      let x := s1.port p
      (s1.answers p = true → x.mse = true → x.doorbell = true → s1.canFetch p = true →
        exec (.kick t ⟨p, h⟩) s = .next (s1.setPort p { x with nextPoll := s1.ns, inL1 := false, kicked := some s1.dt })) ∧
      (s1.answers p = true → x.inL1 = false → s1.quiet p = true → x.lastActive + 20000 ≤ s1.ns →
        exec (.aspmL1Entry t p) s =
          .next ((s1.setPort p { x with inL1 := true, nextPoll := x.nextPoll + 100000 - 50 * x.pollInterval }).say (.l1 p))) ∧
      (∀ ws, s1.pollAllowed p = true → s1.idlePolls p = false → ∃ u, exec (.poll t p ws) s = .next u ∧
        (u.port p).nextPoll = s1.ns + 50 * x.pollInterval ∧ (ws = [] → (u.port p).epoch = x.epoch) ∧
        (ws ≠ [] → (u.port p).epoch = (x.epoch + 1) % 2 ^ 32 ∧
          u.Sent (.hostWrite p (x.dbBase + 0x840) (leBytes 4 ((x.epoch + 1) % 2 ^ 32))))) ∧
      (∀ ws, s1.pollAllowed p = true → s1.idlePolls p = true → ∃ u, exec (.idlePoll t p ws) s = .next u ∧
        (u.port p).nextPoll = if x.hasWork ws then s1.ns + 50 * x.pollInterval else s1.ns + 100000))

/-- Delivery (03 R118; 14 R475, R476, R485): a good descriptor of the frame's delivery ring is held with the frame and consumes its entry,
a bad one consumes it alone; a grant writes up to 4 KiB of the frame's bytes into its buffer and counts them; the frame's tag is written to
its completion ring when the collector has it first, and the frame leaves the stream.

Blocks and stalls (14 R494, R496, R498): a stream with work and 100 µs without a write is blocked from that instant on with its
cause; 50 ms of a block of cause 1 to 3 declare a stall, which fails the stream over where its partner is ready; the block ends when
its cause has gone. No other stream changes. -/
def Obligations.DeliveryAndStalls : Prop :=
  (
    ∀ t (st : Fin 2048) s,
      let s1 := s.elapse t
      let x := s1.stream st
      (∀ (p : Fin 4) (d : BitVec 256) f,
        let rid := (x.ringsFor f.number).1
        let r := s1.ring p (rid % 1024)
        let pages := (s1.translate p (bitsAt d 8 8 0 45) x.maxBytes 8).2
        let held : Desc := { id := fld d 4 4, addr := bitsAt d 8 8 0 45, len := bitsAt d 0x10 8 0 40, pages := pages }
        x.wantsDesc = some f → rid / 1024 = p.val → s1.portMoves p = true → r.live = true → r.kind = 3 → r.h ≠ r.dIndex →
        bitAt d 0 7 = r.own r.d →
          (s1.descStatus st p d = none →
            ∃ u, exec (.descriptorFetch t p st d) s = .next u ∧ (u.ring p (rid % 1024)).d = r.d + 1 ∧
              u.stream st = x.modFrame f.number (fun g => { g with desc := some (held, r.dIndex) }) ∧
              (∀ m, m ≠ st.val → u.stream m = s.stream m) ∧ u.Within { s1 with streams := u.streams }) ∧
          (∀ why, s1.descStatus st p d = some why →
            ∃ u, exec (.descriptorFetch t p st d) s = .next u ∧ (u.ring p (rid % 1024)).d = r.d + 1 ∧
              (u.stream st).frames = x.frames ∧ (∀ m, m ≠ st.val → u.stream m = s.stream m) ∧ u.Within { s1 with streams := u.streams })) ∧
      (∀ sf rest d f,
        let w := x.nextBytes f sf (if x.pace = 2 then x.paceLeft else 4096)
        x.frames = sf :: rest → sf.desc = some d → s1.frameOf st sf.number = some f → x.mayWrite = true →
        s1.portMoves (x.portFor sf.number) = true → sf.ready = none → w.2 ≠ [] →
          ∃ u, exec (.payloadWriteGrant t st) s = .next u ∧ (∀ o ∈ (s1.putBuffer (x.portFor sf.number) d.1 w.1 w.2).out, u.Sent o) ∧
            (∃ g ∈ (u.stream st).frames, g.number = sf.number ∧ g.written = sf.written + w.2.length) ∧ w.2.length ≤ 4096 ∧
            (u.stream st).lastWrite = s1.ns ∧ (∀ m, m ≠ st.val → u.stream m = s.stream m)) ∧
      (∀ sf rest f,
        let rid := (x.ringsFor sf.number).2
        x.frames = sf :: rest → s1.frameOf st sf.number = some f → s1.entryFirst st = true →
          ∃ u, exec (.frameTagWrite t st) s = .next u ∧
            (u.ring (rid / 1024) (rid % 1024)).d = (s1.ring (rid / 1024) (rid % 1024)).d + 1 ∧
            (∀ g ∈ (u.stream st).frames, g.number ≠ sf.number) ∧ (u.stream st).lastTag = sf.number ∧
            (∀ m, m ≠ st.val → (u.stream m).frames = (s.stream m).frames))) ∧
  (
    ∀ t (st : Fin 2048) s,
      let s1 := s.elapse t
      let x := s1.stream st
      let blocked (u : State) (b : Option (Nat × Nat × Bool)) : Prop := (u.stream st).blocked = b ∧ (u.stream st).frames = x.frames
      (∀ cause w, let since := max x.lastWrite (s1.ns - (s1.dt - w))
        s1.workSince st = some w → x.active = true → x.blocked = none → since + 100000 ≤ s1.ns → s1.blockCause st cause true = true →
          ∃ u, exec (.streamBlocked t st cause) s = .next u ∧ blocked u (some (cause, since, false)) ∧
            ∀ m, m ≠ st.val → u.stream m = s.stream m) ∧
      (∀ c since, x.blocked = some (c, since, false) → c ≤ 3 → since + 50000000 ≤ s1.ns →
        (s1.partnerReady x = false ∨ x.active = false →
          ∃ u, exec (.stall t st) s = .next u ∧ blocked u (some (c, since, true)) ∧
            ∀ m, m ≠ st.val → u.stream m = s.stream m) ∧
        (∀ q, x.active = true → s1.partnerReady x = true → x.partner = some q →
          ∃ u, exec (.stall t st) s = .next u ∧ (u.stream st).blocked = none ∧ (u.stream st).owner = some (q.1 / 1024) ∧
            (u.stream st).dRing = q.1 ∧ (u.stream st).cRing = q.2 ∧ (u.stream st).partner = some (x.dRing, x.cRing) ∧
            ∀ m, m ≠ st.val → u.stream m = s.stream m)) ∧
      (∀ b, x.blocked = some b → s1.blockCause st b.1 false = false →
          ∃ u, exec (.stallEnd t st) s = .next u ∧ (u.stream st).blocked = none ∧
            ∀ m, m ≠ st.val → u.stream m = s.stream m))

/-- The end of the transfer that an auxiliary mover runs (14 R479 to R481; 05 R190; 08 R295; 12 R424; 14 R488): a block is written and its
command completes; an image that has been read loads the table, the kernel or the sequencer program of its command; a list maps its
pages, but none for a port that was reset since (02 R57). COMMAND_COMPLETION ends the work of the command that waits; a READ_NV gets its
status in the ring (16 R554). -/
def Obligations.TransfersAndCommandsEnd : Prop :=
  (∀ t (ax : Fin 8) s j rest,
    let s1 := s.elapse t
    let e := s1.auxEffect j
    let waits (rid arg : Nat) : Prop := (s1.waitsFor rid arg).isSome = true
    (s1.auxMover ax).queue = j :: rest → (s1.auxMover ax).runs = true → s1.auxCan j = true → s.mode ≠ .dark → s.mode ≠ .keep →
      exec (.auxDone t ax) s = .next (e.1.auxEnd ax e.2) ∧
      (∀ rid arg port parts, j = .block rid arg port parts → waits rid arg → ∃ u, exec (.auxDone t ax) s = .next u ∧
        (∀ q ∈ parts, u.Sent (.hostWrite port q.1 q.2)) ∧ (u.ring (rid / 1024) (rid % 1024)).waiting = none) ∧
      (∀ c d, j = .image c d → c.gone = false → ∃ u, exec (.auxDone t ax) s = .next u ∧
        (fld c.entry 0 1 = 0x21 → u.tables = (s1.tableLoaded (c.ring / 1024) c.entry d).1.tables) ∧
        (fld c.entry 0 1 = 0x28 → u.lanterns = (s1.kernelLoaded (c.ring / 1024) c.entry d).1.lanterns) ∧
        (fld c.entry 0 1 = 0x3A → u.seqs = (s1.seqLoaded (c.ring / 1024) c.entry d).1.seqs) ∧
        (waits c.ring c.arg → (u.ring (c.ring / 1024) (c.ring % 1024)).waiting = none)) ∧
      (∀ c d, j = .mapList c d → c.gone = false → ∃ u, exec (.auxDone t ax) s = .next u ∧
        u.map = (s1.mapListed (c.ring / 1024) c.entry d).1.map ∧
        (waits c.ring c.arg → (u.ring (c.ring / 1024) (c.ring % 1024)).waiting = none)) ∧
      (∀ c d, j = .mapList c d → c.gone = true → ∃ u, exec (.auxDone t ax) s = .next u ∧ u.map = s.map)) ∧
  (∀ t (r : RingRef) f s w,
    let s1 := f.foldl State.replayFetch (s.elapse t)
    let g := s1.ring r.port r.idx
    g.waiting = some w → s.mode ≠ .dark → s.mode ≠ .keep →
      exec (.commandCompletion t r f) s = .next (s1.completes (ringId r.port r.idx) w) ∧
      (fld w.entry 0 1 = 0x4B → g.live = true → (s1.port r.port).canWrite = true →
        ∃ u, exec (.commandCompletion t r f) s = .next u ∧ (u.ring r.port r.idx).waiting = none ∧
          u.Sent (.hostWrite r.port (g.addr w.index + 0x3F) [0x80]) ∧ u.Reports s1))

/-- The event fabric's commands (13 R465 to R470): BIND makes the channel its port's or its Lantern's, with the producer, group, period
and consumers of its operands; SIGNAL emits one event, counted, gated or sent to its slots; GROUPS switches the groups it names; STATUS
queues the channel's block; RELEASE frees the channel and keeps its counters. PERIODIC emits at each multiple of the period (R451). -/
def Obligations.FabricCommandsRun : Prop :=
  (∀ t c s0, let s := s0.elapse t
    let n := fld c.e 9 1
    s.Accepts c 0x40 (bindChecks c) → ∃ u, exec (.eventBind t c) s0 = .next u ∧
      (let y := u.channel n
      y.owner = (if bitAt c.e 0xA 1 then 5 else c.p) ∧ y.secure = bitAt c.e 0xA 0 ∧ y.lantern = bitsAt c.e 0xB 1 0 6 ∧
      y.prodKind = bitsAt c.e 0xC 1 0 4 ∧ y.prodArg = fld c.e 0xD 1 ∧ y.prodIndex = fld c.e 0xE 2 ∧ y.group = bitsAt c.e 0x10 1 0 5 ∧
      y.period = fld c.e 0x14 4 ∧
      ∀ k, k < 8 → (bindSlot c.e k).1 ≠ 0 → ((y.slot k).kind, (y.slot k).index, (y.slot k).arg) = bindSlot c.e k) ∧
      (∀ m, m ≠ n → u.channel m = s.channel m) ∧
      u.Reports { s with channels := u.channels, seqs := u.seqs, groups := u.groups, flights := u.flights } ∧ u.Completed s c .success) ∧
  (∀ t c s0, let s := s0.elapse t
    let n := fld c.e 9 1
    let x := s.channel n
    let stamp := 256 * s.dt
    let close : Prop := ∃ l, x.last = some l ∧ stamp < l + 2560
    let gated : Prop := x.group ≠ 0 ∧ s.groupAt (x.group - 1) stamp = false
    s.Accepts c 0x40 (eventSignalChecks c) → ∃ u, exec (.eventSignal t c) s0 = .next u ∧
      (close → u.channel n = { x with overrun := satAdd 32 x.overrun 1 } ∧ u.flights = s.flights) ∧
      (¬close → (u.channel n).last = some stamp ∧ (u.channel n).events = satAdd 32 x.events 1) ∧
      (¬close → gated → (u.channel n).gated = satAdd 32 x.gated 1 ∧ u.flights = s.flights) ∧
      (¬close → ¬gated → u.flights = s.flights ++ (x.slots.filter (fun k => k.2.kind != 0)).map (fun k =>
        { ch := n, slot := k.1, prodKind := x.prodKind, prodIndex := x.prodIndex, kind := k.2.kind, index := k.2.index, arg := k.2.arg
          stamp := stamp, arrive := stamp + 51200 + consumerTerm k.2.kind : Flight })) ∧
      (∀ m, m ≠ n → u.channel m = s.channel m) ∧ u.Reports { s with channels := u.channels, flights := u.flights } ∧
      u.Completed s c .success) ∧
  (∀ t c s0, let s := s0.elapse t
    let set := fld c.e 0xC 2
    let clr := fld c.e 0xE 2
    s.Accepts c 0x40 (eventGroupsChecks c) → ∃ u, exec (.eventGroups t c) s0 = .next u ∧
      (∀ g, g < 16 → (nbit set g = true ∨ nbit clr g = true) →
        u.group g = ((s.takeGroup g c.p).switchGroup g (256 * s.dt) (if nbit set g then 0 else 1)).group g ∧ (u.group g).owner = some c.p) ∧
      (∀ g, g < 16 → nbit set g = false → nbit clr g = false → u.group g = s.group g) ∧ u.Reports { s with groups := u.groups } ∧
      u.Completed s c .success) ∧
  (∀ t c s0, let s := s0.elapse t
    let block := s.channelBlock (fld c.e 9 1)
    let parts := splitParts (bufferVa c.e 0x10) block (s.translate c.p (bufferVa c.e 0x10) block.length 0).2
    s.Accepts c 0x40 (eventStatusChecks c) → ∃ u arg, exec (.eventStatus t c) s0 = .next u ∧ u.WaitsFor s c arg ∧
      ((∃ n, .block (ringId c.p c.i) arg c.p parts ∈ (u.auxMover n).queue) ∨ .block (ringId c.p c.i) arg c.p parts ∈ u.auxWait) ∧
      u.Reports { s with aux := u.aux, auxWait := u.auxWait, fresh := u.fresh }) ∧
  (∀ t c s0, let s := s0.elapse t
    let n := fld c.e 9 1
    s.Accepts c 0x41 (eventReleaseChecks c) → ∃ u, exec (.eventRelease t c) s0 = .next u ∧
      (u.channel n).owner = 7 ∧ (u.channel n).prodKind = 0 ∧ (u.channel n).slots = [] ∧ (u.channel n).events = (s.channel n).events ∧
      (u.channel n).gated = (s.channel n).gated ∧ (u.channel n).overrun = (s.channel n).overrun ∧
      (∀ m, m ≠ n → u.channel m = s.channel m) ∧ u.Reports { s with channels := u.channels, flights := u.flights, seqs := u.seqs } ∧
      u.Completed s c .success) ∧
  (∀ t (ch : Fin 256) s k,
    let s1 := s.elapse t
    let x := s1.channel ch
    x.prodKind = 7 → x.owner ≠ 7 → s.mode ≠ .dark → s.mode ≠ .keep → x.tick = some k → s1.reached (256 * (k + x.period)) = true →
      exec (.periodic t ch) s =
        .next ((s1.setChannel ch { x with tick := some (k + x.period) }).emitOn ch (256 * (k + x.period)) 0))

/-- The wick (04 R144, R145): a packet is accepted exactly when its header CRC is right, its reserved bits are 0, its data type is defined,
its payload's CRC-32C is right unless it is short, it overlaps no other, and its SENSOR is the lane's or, before a hub's first HELLO,
any; it changes its lane's
counters, sequence number and shares, and no other lane. -/
def Obligations.WickAcceptsValidPackets : Prop :=
  ∀ (s : State) (l : Nat) (k : LanePkt),
    let x := s.lane l
    let r := s.wick l k
    let merged : Bool := x.mode == .merged
    let mine : Bool := if merged then x.sensorCount == 0 || decide (hdrSensor k < x.sensorCount) || (hdrSensor k == 0xFF && (hdrDt k == 6 || hdrDt k == 7 || hdrDt k == 0x3E))
      else hdrSensor k == 0
    r.2 = (hdrOk k.hdr && bitsAt k.hdr 1 1 6 2 == 0 && bitsAt k.hdr 2 1 4 4 == 0 && dtDefined (hdrDt k) &&
      (dtShort (hdrDt k) || crc32c (pktPayload k) == k.crc.toNat) && !k.overlaps && mine) ∧
    (∀ m, m ≠ l → r.1.lane m = s.lane m) ∧ r.1.Reports { s with lanes := r.1.lanes }

/-- The packets of a lane that receives (04 R144, R145, R152, R157, R182): one that the wick does not accept does nothing more; an accepted
one on a lane that is UP goes where its data type says: TIME_SYNC_RESPONSE to the time sync with its arrival, CONTROL_RESPONSE to the
requests, CAMERA_EVENT to a record with its data, and image data, its starts and ends and its reports to the lane's classifier.

A frame received on an Ethernet lane that is UP (04 R169 to R171): one with a wrong length or check sequence is counted; one of PTP goes
to the time base; one that carries a GVSP packet for the lane goes to its channel; every other goes to the packet ring. -/
def Obligations.LanePacketsAndEthernetFrames : Prop :=
  (
    ∀ t (l : Fin 128) (k : LanePkt) (frac : BitVec 32) s,
      let s1 := s.elapse t
      let r := s1.wick l k
      let dt := hdrDt k
      let t4 := (s1.time + 2 * frac.toNat) / 2 ^ 30 * 2 ^ 30
      let pkt : AsmPkt := { sensor := hdrSensor k, vc := hdrVc k, dt := dt, wc := hdrWc k, payload := pktPayload k, stamp := r.1.dt }
      (s1.lane l).receives s1.ns = true → s.mode ≠ .dark → s.mode ≠ .keep →
        (r.2 = false →
          exec (.undefinedDt t l k) s = .next r.1 ∧
          exec (.hello t l k) s = .next r.1 ∧
          exec (.frameStart t l k) s = .next r.1 ∧
          exec (.frameEnd t l k) s = .next r.1 ∧
          exec (.lineStart t l k) s = .next r.1 ∧
          exec (.lineEnd t l k) s = .next r.1 ∧
          exec (.pixelPacket t l k) s = .next r.1 ∧
          exec (.exposureReport t l k) s = .next r.1 ∧
          exec (.cameraEvent t l k) s = .next r.1 ∧
          exec (.controlResponse t l k) s = .next r.1 ∧
          exec (.timeSyncResponse t l k frac) s = .next r.1) ∧
        (r.2 = true → dt = 0x3E → (s1.lane l).st ≠ .up → exec (.hello t l k) s = .next (r.1.helloArrives l (pktPayload k))) ∧
        (r.2 = true → dt = 0x3E → (s1.lane l).st = .up → exec (.hello t l k) s = .next (r.1.laneDrop l 4)) ∧
        (r.2 = true → (s1.lane l).st = .up → dt = 6 → exec (.timeSyncResponse t l k frac) s = .next (r.1.syncResponse l (pktPayload k) t4)) ∧
        (r.2 = true → (s1.lane l).st = .up → dt = 7 →
          exec (.controlResponse t l k) s = .next (r.1.controlResponse l (hdrSensor k) (pktPayload k))) ∧
        (r.2 = true → (s1.lane l).st = .up → dt = 8 →
          exec (.cameraEvent t l k) s = .next (r.1.laneRecord l 3 0x010D (hdrSensor k) 0 (lfld (pktPayload k) 0 8))) ∧
        (r.2 = true → (s1.lane l).st = .up → dt ≠ 6 → dt ≠ 7 → dt ≠ 8 → dt ≠ 0x3E →
          exec (.frameStart t l k) s = .next (r.1.classify l pkt) ∧
          exec (.frameEnd t l k) s = .next (r.1.classify l pkt) ∧
          exec (.lineStart t l k) s = .next (r.1.classify l pkt) ∧
          exec (.lineEnd t l k) s = .next (r.1.classify l pkt) ∧
          exec (.pixelPacket t l k) s = .next (r.1.classify l pkt) ∧
          exec (.exposureReport t l k) s = .next (r.1.classify l pkt)) ∧
        (hdrOk k.hdr = true → bitsAt k.hdr 1 1 6 2 = 0 → bitsAt k.hdr 2 1 4 4 = 0 → dtDefined dt = false →
          ∃ u, exec (.undefinedDt t l k) s = .next u ∧ tabGet 0 (u.lane l).counters 5 = satAdd 32 (tabGet 0 (s.lane l).counters 5) 1)) ∧
  (
    ∀ t (l : Fin 128) (f : EthFrame) s,
      let s1 := s.elapse t
      let x := s1.lane l
      let n := f.bytes.length
      let b := f.bytes.take (n - 4)
      let e := ethBody b
      let good : Prop := 64 ≤ n ∧ n ≤ 9216 ∧ crc32 b = lfld f.bytes (n - 4) 4
      let gvsp (d : Udp) : Prop := d.port ≠ 319 ∧ d.port ≠ 320 ∧ d.dst = x.ipv4 ∧ x.gvspPort ≤ d.port ∧ d.port < x.gvspPort + 4
      x.mode = .ethernet → x.st = .up → x.wickWorks s1.ns = true → s.mode ≠ .dark → s.mode ≠ .keep →
        (¬good → exec (.ethernetFrame t l f) s = .next (s1.laneCount l 0x10 1)) ∧
        (good → e.1 = 0x88F7 → exec (.ethernetFrame t l f) s = .next (s1.ptpReceive (.lane l) .annexF n e.2 (s1.edgeAt f.sub))) ∧
        (∀ d, good → e.1 = 0x0800 → udpOf e.2 = some d →
          (d.port = 319 ∨ d.port = 320 → exec (.ethernetFrame t l f) s = .next (s1.ptpReceive (.lane l) .annexE n d.data (s1.edgeAt f.sub))) ∧
          (gvsp d → d.ok = true → exec (.ethernetFrame t l f) s = .next (s1.gvspPacket l (d.port - x.gvspPort) d.data)) ∧
          (gvsp d → d.ok = false → exec (.ethernetFrame t l f) s = .next (s1.laneCount l 0x10 1)) ∧
          (d.port ≠ 319 → d.port ≠ 320 → ¬gvsp d → exec (.ethernetFrame t l f) s = .next (s1.toPacketRing l b))) ∧
        (good → e.1 ≠ 0x88F7 → e.1 ≠ 0x0800 ∨ udpOf e.2 = none → exec (.ethernetFrame t l f) s = .next (s1.toPacketRing l b)) ∧
        (¬good → exec (.gvspPacket t l f) s = .next (s1.laneCount l 0x10 1)) ∧
        (good → e.1 = 0x88F7 → exec (.gvspPacket t l f) s = .next (s1.ptpReceive (.lane l) .annexF n e.2 (s1.edgeAt f.sub))) ∧
        (∀ d, good → e.1 = 0x0800 → udpOf e.2 = some d →
          (d.port = 319 ∨ d.port = 320 → exec (.gvspPacket t l f) s = .next (s1.ptpReceive (.lane l) .annexE n d.data (s1.edgeAt f.sub))) ∧
          (gvsp d → d.ok = true → exec (.gvspPacket t l f) s = .next (s1.gvspPacket l (d.port - x.gvspPort) d.data)) ∧
          (gvsp d → d.ok = false → exec (.gvspPacket t l f) s = .next (s1.laneCount l 0x10 1)) ∧
          (d.port ≠ 319 → d.port ≠ 320 → ¬gvsp d → exec (.gvspPacket t l f) s = .next (s1.toPacketRing l b))) ∧
        (good → e.1 ≠ 0x88F7 → e.1 ≠ 0x0800 ∨ udpOf e.2 = none → exec (.gvspPacket t l f) s = .next (s1.toPacketRing l b)))

/-- The states of a lane (04 R137 to R140, R145, R165, R174, R175): each row takes its lane from its state to the next and no other lane
with it; HELLO is sent every 10 µs; a drop from UP retrains; 100 ms later the requests that wait are lost; a word that is neither idle
nor a valid header begins the hunt; in Dark HALT replaces what waits. -/
def Obligations.LaneStatesChange : Prop :=
  ∀ t (l : Fin 128) s,
    let s1 := s.elapse t
    let x := s1.lane l
    let entered (u : State) (st : LaneState) : Prop := (u.lane l).st = st ∧ (u.lane l).since = s1.ns ∧
      (∀ m, m ≠ l.val → u.lane m = s.lane m) ∧ u.Reports { s1 with lanes := u.lanes }
    let dropped (u : State) : Prop := (u.lane l).st = .retrain ∧ (u.lane l).dropAt = some (s1.dt, s1.ns)
    (s1.vlpIn l .waitSignal = true → ∃ u, exec (.signalEnergyPresent t l) s = .next u ∧ entered u .adapt) ∧
    (s1.vlpIn l .adapt = true → ∃ u, exec (.adaptLock t l) s = .next u ∧ entered u .align) ∧
    (s1.vlpIn l .adapt = true → s1.due x.limit = true → ∃ u, exec (.adaptTimeout t l) s = .next u ∧ entered u .waitSignal) ∧
    (∀ d, s1.vlpIn l .align = true → ∃ u, exec (.alignFound t l d) s = .next u ∧ entered u .hello ∧ (u.lane l).direction = d.toNat) ∧
    (s1.vlpIn l .align = true → s1.due x.limit = true → ∃ u, exec (.alignTimeout t l) s = .next u ∧ entered u .adapt) ∧
    (s1.vlpIn l .hello = true → s1.due x.limit = true → ∃ u, exec (.helloTimeout t l) s = .next u ∧ entered u .waitSignal) ∧
    (s1.vlpIn l .retrain = true → s1.due x.limit = true → ∃ u, exec (.retrainTimeout t l) s = .next u ∧ entered u .waitSignal) ∧
    (x.mode = .ethernet → x.st = .retrain → s1.due x.limit = true → ∃ u, exec (.ethernetRetrainTimeout t l) s = .next u ∧ entered u .waitSignal) ∧
    (x.helloing = true → x.beaconDue ≤ s1.ns → s.mode ≠ .dark → x.transmits = true → ∃ u, exec (.helloSend t l) s = .next u ∧
      u.Sent (.downlink l (packetBytes 0x3E x.syncSensor x.txSeq false x.helloPayload.length x.helloPayload))) ∧
    (∀ cause, x.st = .up → (if x.mode = .ethernet then cause = 1 ∨ cause = 5 else 1 ≤ cause ∧ cause ≤ 3) → s.mode ≠ .dark →
      ∃ u, exec (.laneDrop t l cause) s = .next u ∧ dropped u) ∧
    (x.st = .up → x.mode = .ethernet → s.mode ≠ .dark → ∃ u, exec (.pcsAlignmentLoss t l) s = .next u ∧ dropped u) ∧
    (x.mode = .ethernet → x.st = .waitSignal ∨ x.st = .retrain → x.refStopped = false → s.mode ≠ .dark →
      ∃ u, exec (.pcsAlignmentLock t l) s = .next u ∧ (u.lane l).st = .up) ∧
    (∀ d at_, x.dropAt = some (d, at_) → x.st ≠ .up → x.lost = false → at_ + 100000000 ≤ s1.ns →
      ∃ u, exec (.laneLost t l) s = .next u ∧ (u.lane l).lost = true ∧ (u.lane l).requests = [] ∧ (u.lane l).sends = [] ∧
        (∀ m, m ≠ l.val → u.lane m = s.lane m) ∧ u.Reports { s1 with lanes := u.lanes }) ∧
    (∀ w : BitVec 64, x.receives s1.ns = true → s.mode ≠ .dark → s.mode ≠ .keep → x.hunt = false → w.toNat ≠ 0x0707070707070707 →
      hdrOk w = false → ∃ u, exec (.hcrcError t l w) s = .next u ∧ (u.lane l).hunt = true ∧ u.Reports { s1 with lanes := u.lanes }) ∧
    (s.mode = .dark → x.vlp = true → x.st = .up → x.beaconDue ≤ s1.ns → ∃ u, exec (.halt t l) s = .next u ∧
      (x.transmits = true → u.Sent (.downlink l (packetBytes 0x05 0xFF x.txSeq true 0 [])) ∧ (u.lane l).queue = []) ∧
      (x.transmits = false → (u.lane l).queue = [.halt]) ∧ (u.lane l).beaconDue = s1.ns + 10000)

/-- The commands of lanes (04 R154, R172, R179, R180): LANE_REQUEST adds a request with the next REQ_SEQ of its SENSOR and waits;
LANE_PACKET_SEND sends its frame at once when the lane transmits, waits while it does not, and ends where the frame cannot be read;
LANE_CONFIG gives the lane its owner, mode, rate and settings. -/
def Obligations.LaneCommandsRun : Prop :=
  (∀ t c s0, let s := s0.elapse t
    let l := cmdLane c.e
    let x := s.lane l
    let sn := fld c.e 9 1
    s.Accepts c 0x31 (laneRequestChecks c) → ∃ u, exec (.laneRequest t c) s0 = .next u ∧
      (∃ r ∈ (u.lane l).requests, r.ring = ringId c.p c.i ∧ r.arg = s.fresh ∧ r.since = s.ns ∧ r.sensor = sn ∧ r.op = fld c.e 0xA 1 ∧
        r.length = fld c.e 0xB 1 ∧ r.address = fld c.e 0xC 4 ∧ r.reqSeq = tabGet 0 x.reqSeq sn) ∧
      (u.lane l).owner = some c.p ∧ (u.lane l).reqSeq = tabPut x.reqSeq sn ((tabGet 0 x.reqSeq sn + 1) % 65536) ∧
      (∀ m, m ≠ l → u.lane m = s.lane m) ∧ u.Reports { s with lanes := u.lanes, fresh := u.fresh } ∧ ∃ arg, u.WaitsFor s c arg) ∧
  (∀ t c s0, let s := s0.elapse t
    let l := cmdLane c.e
    let x := s.lane l
    let bytes := imageBytes c.data (fld c.e 0xA 2)
    s.Accepts c 0x32 (packetSendChecks c) →
      (readFault c.data (fld c.e 0xA 2) = none → x.st = .up → x.transmits = true → ∃ u, exec (.lanePacketSend t c) s0 = .next u ∧
        u.Sent (.ethernet l (wireFrame bytes)) ∧ (u.lane l).sends = [] ∧ u.Completed s c .success) ∧
      (readFault c.data (fld c.e 0xA 2) = none → ¬(x.st = .up ∧ x.transmits = true) → ∃ u, exec (.lanePacketSend t c) s0 = .next u ∧
        u.WaitsFor s c s.fresh ∧ (u.lane l).sends = x.sends ++ [(ringId c.p c.i, s.fresh, bytes)]) ∧
      (∀ why, readFault c.data (fld c.e 0xA 2) = some why → ∃ u, exec (.lanePacketSend t c) s0 = .next u ∧ u.Completed s c why)) ∧
  (∀ t c s0, let s := s0.elapse t
    s.Accepts c 0x30 (laneConfigChecks c) → ∃ u, exec (.laneConfig t c) s0 = .next u ∧
      (let y := u.lane (cmdLane c.e)
      y.owner = some c.p ∧ y.mode = LaneMode.ofCode (bitsAt c.e 9 1 0 2) ∧ y.upRate = bitsAt c.e 0xA 1 0 4 ∧ y.txPreset = bitsAt c.e 0xB 1 0 4 ∧
      y.syncPeriod = fld c.e 0xC 2 ∧ y.asymmetry = fld c.e 0xE 2 ∧ y.ethFields = laneEthFields c.e) ∧ u.Completed s c .success)

/-- What a lane does in time (04 R152, R155 to R157, R161, R162, R167, R176 to R178): an unanswered request is sent again, and given up after
the eighth time and after 250 ms; TIME_SYNC is sent with the next identifier, queued or skipped; a missed answer counts; a trigger leaves at
its instant or is lost; the shares of merged sensors are judged in windows of 100 µs, which follow one another (entry 93); the synthesiser
switches, locks, is ready, recalibrates and reports a deferral.

The timeouts of assembly (05 R203): outside Keep, Dark and Replay the open line, or the open frame, to which no packet has come for the
time of its assembly block ends at that time, with what is missing flagged; before it nothing happens. -/
def Obligations.LaneAndFrameTimersRun : Prop :=
  (
    ∀ t (l : Fin 128) s,
      let s1 := s.elapse t
      let x := s1.lane l
      (∀ (sensor : Byte) r, x.requests.find? (fun r => r.sensor = sensor.toNat) = some r → r.timer.isSome = true → s1.due r.timer = true →
        (r.sent < 8 → x.canSend = true → s.mode ≠ .dark → ∃ u q, exec (.retransmit t l sensor) s = .next u ∧
          u.Sent (.downlink l (packetBytes 0x01 r.sensor q false r.payload.length r.payload))) ∧
        (8 ≤ r.sent → ∃ u, exec (.retransmit t l sensor) s = .next u ∧ ∀ q ∈ (u.lane l).requests, q.arg ≠ r.arg)) ∧
      (∀ sensor : Byte, ∃ u, exec (.laneRequestTimeout t l sensor) s = .next u ∧
        (∀ q ∈ (u.lane l).requests, q.sensor = sensor.toNat → s1.ns < q.since + 250000000) ∧ (∀ m, m ≠ l.val → u.lane m = s.lane m)) ∧
      (x.vlp = true → x.syncPeriod ≠ 0 → x.syncDue ≤ s1.ns → s.mode ≠ .dark →
        (x.canSend = true → ∃ u pay,
          let id := (x.syncId + 1) % 2 ^ 32
          let t1 := (s1.time + (s1.wireStart l - 256 * s1.ns) * 2 ^ 24) / 2 ^ 30 * 2 ^ 30
          exec (.timeSync t l) s = .next u ∧ (u.lane l).syncId = id ∧ (u.lane l).syncOpen = x.syncOpen ++ [(id, t1, s1.ns)] ∧
          (u.lane l).syncDue = s1.ns + 125000 * x.syncPeriod ∧ pay.take 16 = leBytes 8 (t1 / 2 ^ 32) ++ leBytes 4 (t1 % 2 ^ 32) ++ leBytes 4 id ∧
          u.Sent (.downlink l (packetBytes 0x02 x.syncSensor x.txSeq false pay.length pay))) ∧
        (x.canSend = false → x.st = .up → x.syncRoom = true → exec (.timeSync t l) s =
          .next (s1.setLane l { x with syncDue := s1.ns + 125000 * x.syncPeriod, queue := x.queue ++ [.sync] })) ∧
        (x.canSend = false → x.st ≠ .up ∨ x.syncRoom = false → exec (.timeSync t l) s =
          .next (s1.setLane l { x with syncDue := s1.ns + 125000 * x.syncPeriod }))) ∧
      (∀ id a b rest, x.syncOpen = (id, a, b) :: rest → b + 100000 ≤ s1.ns → ∃ u, exec (.tsyncMissed t l) s = .next u ∧
        (u.lane l).syncOpen = rest ∧ (u.lane l).syncGood = 0 ∧ (u.lane l).syncMissed = x.syncMissed + 1 ∧ u.Reports { s1 with lanes := u.lanes }) ∧
      (∀ (tg : Fin 256) k y, x.takeTrig tg false = some (k, y) → s1.reached k.due = true → s.mode ≠ .dark →
        let k' : TrigPkt := if k.scheduled then { k with scheduled := false, onTime := k.due + 128 } else k
        (x.vlp = true → x.st = .up → s1.laneTested l = false → x.transmits = true →
          exec (.triggerImmediate t l tg) s = .next ((s1.setLane l y).sendTrig l k' k.due)) ∧
        (x.vlp = false ∨ x.st ≠ .up ∨ s1.laneTested l = true →
          exec (.triggerImmediate t l tg) s = .next ((s1.setLane l y).loseTrig l k'))) ∧
      (∀ (tg : Fin 256) k y, x.takeTrig tg true = some (k, y) → s1.reached (x.schedLeave k) = true → s.mode ≠ .dark →
        let s2 := s1.setLane l { y with schedSent := y.schedSent.filter (fun a => s1.dt ≤ a) }
        (x.vlp = true → x.st = .up → s1.laneTested l = false → x.transmits = true →
          exec (.triggerScheduled t l tg) s = .next (s2.sendTrig l k (x.schedLeave k))) ∧
        (x.vlp = false ∨ x.st ≠ .up ∨ s1.laneTested l = true → exec (.triggerScheduled t l tg) s = .next (s2.loseTrig l k))) ∧
      (x.mode = .merged → x.shareStart + 100000 ≤ s1.ns → ∃ u, exec (.shareWindowEnd t l) s = .next u ∧ (u.lane l).share = [] ∧
        s1.ns < (u.lane l).shareStart + 100000 ∧ (∀ m, m ≠ l.val → u.lane m = s.lane m) ∧ u.Reports { s1 with lanes := u.lanes }) ∧
      (x.mode = .merged → s1.ns < x.shareStart + 100000 → exec (.shareWindowEnd t l) s = .next s1) ∧
      (∀ i r, x.switch = some (i, r) → i ≤ s1.ns →
        exec (.rateSwitch t l) s = .next (s1.setLane l { x with downRate := r, synth := .locking, switch := none })) ∧
      (x.synth = .locking → exec (.synthesiserLock t l) s = .next (s1.setLane l { x with synth := .locked (s1.ns + 20000) })) ∧
      (∀ r, x.synth = .locked r → r ≤ s1.ns → exec (.downlinkReady t l) s =
        .next ((((s1.setLane l { x with synth := .ready, deferred := none }).laneRecord l 3 0x010A 0 0 s1.dt).laneFlush l).flushSends l)) ∧
      (∀ r, x.synth = .background r → r ≤ s1.ns → exec (.downlinkReady t l) s =
        .next (((s1.setLane l { x with synth := .ready }).laneFlush l).flushSends l)) ∧
      (x.synth = .ready → x.mode ≠ .off → s.mode ≠ .dark →
        (s1.trigSoon l = false →
          exec (.backgroundRecalibration t l) s = .next (s1.setLane l { x with synth := .background (s1.ns + 20000), deferred := none })) ∧
        (s1.trigSoon l = true → ∃ u, exec (.backgroundRecalibration t l) s = .next u ∧ (u.lane l).synth = .ready ∧ (u.lane l).deferred.isSome = true)) ∧
      (∀ since n, x.deferred = some (since, n) → since + (n + 1) * 1000000000 ≤ s1.ns → exec (.recalDeferred t l) s =
        .next ((s1.setLane l { x with deferred := some (since, n + 1) }).laneRecord l 2 0x010B 0 0 (n + 1)))) ∧
  (
    ∀ t (k : Fin 512) s,
      let s1 := s.elapse t
      let x := s1.sconce k
      s1.assembles = true →
        (∀ o, x.line = some o → abLineTimeout x.asm ≠ 0 →
          let at_ := o.lastStamp + abLineTimeout x.asm
          (at_ ≤ s1.dt → exec (.lineTimeout t k) s =
            .next ((((s1.journalClose 1 k at_).flagOpen k flMissingEnd).closeLine k at_ false).sconceMoves k)) ∧
          (s1.dt < at_ → exec (.lineTimeout t k) s = .next s1)) ∧
        (∀ f, x.openFrame = some f → abFrameTimeout (f.grp 1) ≠ 0 →
          let at_ := f.lastStamp + abFrameTimeout (f.grp 1)
          (at_ ≤ s1.dt → exec (.frameTimeout t k) s = .next (((s1.journalClose 2 k at_).closeFrame k at_ true).sconceMoves k)) ∧
          (s1.dt < at_ → exec (.frameTimeout t k) s = .next s1)))

/-- TIME_CONFIG (10 R375 to R382): CONFIGURE puts its operands in force, at once where they change the source or no servo runs, else at the
servo's next update (but PPS_OUT's, which change at once); SET_TIME loads the phase and the rate at once, or waits for the next PPS_IN
edge; READ_STAMPS empties the stamp queue into a block that an auxiliary mover writes; STATUS queues the status block. -/
def Obligations.TimeCommandsRun : Prop :=
  (∀ t c s0, let s := s0.elapse t
    let o := s.tb.cfgNext.getD s.tb.cfg
    let n := timeCfgOf c.e
    let same : Prop := n.role = o.role ∧ n.source = o.source ∧ n.profile = o.profile ∧ n.transport = o.transport ∧
      n.domain = o.domain ∧ n.tpRate = o.tpRate ∧ n.tpFec = o.tpFec
    s.Accepts c 0x38 (timeConfigureChecks c) → ∃ u, exec (.timeConfigure t c) s0 = .next u ∧
      (¬same ∨ (n.role = 0 ∧ n.source = 0) → u.tb.cfg = n ∧ u.tb.cfgNext = none) ∧
      (same → n.role ≠ 0 ∨ n.source ≠ 0 → u.tb.cfgNext = some n ∧
        u.tb.cfg = { s.tb.cfg with ppsOutOffset := n.ppsOutOffset, ppsWidth := n.ppsWidth }) ∧
      (¬same → n.role = 0 → n.source = 0 → u.tb.st = .freeRun) ∧
      u.Reports { s with tb := u.tb, rateAdj := u.rateAdj } ∧ u.Completed s c .success) ∧
  (∀ t (c : RingCmd) s0, let s := s0.elapse t
    bitAt c.e 9 2 = true → s.Accepts c 0x38 (setTimeChecks c) → ∃ u, exec (.setTime t c) s0 = .next u ∧ u.WaitsFor s c s.fresh ∧
      u.tb = { s.tb with waiting := some (ringId c.p c.i, s.fresh) } ∧ u.Reports { s with tb := u.tb, fresh := u.fresh }) ∧
  (∀ t (c : RingCmd) s0, let s := s0.elapse t
    bitAt c.e 9 2 = false → s.Accepts c 0x38 (setTimeChecks c) → ∃ u, exec (.setTime t c) s0 = .next u ∧ u.Completed s c .success ∧
      (bitAt c.e 9 0 = true → u.dt = fld c.e 0x10 8) ∧ (bitAt c.e 9 0 = false → u.time = s.time) ∧
      (bitAt c.e 9 1 = true → u.rateAdj = toInt 32 (fld c.e 0x18 4)) ∧
      (bitAt c.e 9 1 = false → bitAt c.e 9 0 = false → u.rateAdj = s.rateAdj)) ∧
  (∀ t c s0, let s := s0.elapse t
    let block : List Byte := leBytes 1 s.tb.stamps.length ++ zeros 3 ++ leBytes 4 s.tb.overflow ++ zeros 8 ++
      fitTo 256 (s.tb.stamps.flatMap TxStamp.bytes)
    let parts := splitParts (bufferVa c.e 0x10) block (s.translate c.p (bufferVa c.e 0x10) block.length 0).2
    s.Accepts c 0x38 (readStampsChecks c) → ∃ u arg, exec (.readStamps t c) s0 = .next u ∧ u.WaitsFor s c arg ∧
      ((∃ n, .block (ringId c.p c.i) arg c.p parts ∈ (u.auxMover n).queue) ∨ .block (ringId c.p c.i) arg c.p parts ∈ u.auxWait) ∧
      u.tb = { s.tb with stamps := [], overflow := 0 } ∧
      u.Reports { s with tb := u.tb, aux := u.aux, auxWait := u.auxWait, fresh := u.fresh }) ∧
  (∀ t c s0, let s := s0.elapse t
    let block : List Byte := s.timeBlock
    let parts := splitParts (bufferVa c.e 0x10) block (s.translate c.p (bufferVa c.e 0x10) block.length 0).2
    s.Accepts c 0x38 (timeStatusChecks c) → ∃ u arg, exec (.timeStatus t c) s0 = .next u ∧ u.WaitsFor s c arg ∧
      ((∃ n, .block (ringId c.p c.i) arg c.p parts ∈ (u.auxMover n).queue) ∨ .block (ringId c.p c.i) arg c.p parts ∈ u.auxWait) ∧
      u.Reports { s with aux := u.aux, auxWait := u.auxWait, fresh := u.fresh })

/-- What happens to the time base (10 R363 to R365, R369, R373, R374, R381): a PTP frame of the timing port's transport, domain and length is
handed to the client, another is discarded and counted; a lane that is master answers a Delay_Req, and a client's lane discards; the
ports send Sync, Announce and the delay request when due, an Announce first; a lost source is given up; PPS_IN edges within 100 ms are
rejected and others taken; PPS_OUT rises at its instant for its width; a SET_TIME that waits 2 s for an edge fails. -/
def Obligations.TimeBaseRows : Prop :=
  ∀ t s,
    let s1 := s.elapse t
    let b := s1.tb
    let ours (f : PtpFrame) : Prop := f.length ≤ 1522 ∧ ptpWhole f.message = true ∧ s1.ptpOurs f.message = true ∧
      f.transport = (if b.cfg.transport = 1 then .annexE else .annexF)
    let due (k : Nat) : Prop := tabGet 0 b.ptpDue k ≤ s1.ns
    (∀ f sub, s1.ptpLive = true → b.tpUp = true →
      (ours f → b.cfg.role ≠ 0 → exec (.ptpMessage t .timing f sub) s = .next (s1.clientReceive f.message (s1.edgeAt sub))) ∧
      (ours f → b.cfg.role = 0 → exec (.ptpMessage t .timing f sub) s = .next s1) ∧
      (¬ours f → exec (.ptpMessage t .timing f sub) s = .next { s1 with tb := { b with discarded := satAdd 32 b.discarded 1 } })) ∧
    (∀ (l : Fin 128) f sub, s1.ptpLive = true → (s1.lane l).mode = .ethernet → (s1.lane l).st = .up → f.transport ≠ .other →
      (b.cfg.role = 1 → exec (.ptpMessage t (.lane l) f sub) s = .next { s1 with tb := { b with discarded := satAdd 32 b.discarded 1 } }) ∧
      (b.cfg.role ≠ 1 → ptpWhole f.message = true → s1.ptpOurs f.message = true → mfld f.message 0 1 % 16 = 1 → b.cfg.profile = 0 →
        exec (.ptpMessage t (.lane l) f sub) s =
          .next (s1.answerDelay (f.transport == .annexE) (l + 2) f.message (s1.edgeAt sub)))) ∧
    (∀ l : Fin 128, s1.ptpLive = true → b.cfg.role ≠ 1 → (s1.lane l).mode = .ethernet → (s1.lane l).st = .up →
      (due (2 * (l + 2)) → ¬due (2 * (l + 2) + 1) → exec (.ptpMasterTransmit t (.lane l) .sync) s = .next (s1.sendPtpSync l)) ∧
      (due (2 * (l + 2) + 1) → exec (.ptpMasterTransmit t (.lane l) .announce) s = .next (s1.sendPtpAnnounce l)) ∧
      (b.cfg.profile = 1 → due (delayKey (l + 2)) → ¬due (2 * (l + 2) + 1) →
        exec (.ptpMasterTransmit t (.lane l) .pdelay) s = .next (s1.sendDelayReq (l + 2)))) ∧
    (s1.ptpLive = true → b.tpUp = true → b.cfg.role = 1 ∨ b.cfg.role = 2 → due 2 →
      b.cfg.profile = 1 ∨ b.parent.isSome = true → exec (.ptpDelayRequestTransmit t) s = .next (s1.sendDelayReq 1)) ∧
    (∀ k, b.st.inUse = true → s1.lossDue k = true → exec (.sourceLost t k) s = .next s1.loseSource) ∧
    (∀ k, b.st.inUse = false ∨ s1.lossDue k = false → exec (.sourceLost t k) s = .next s1) ∧
    (∀ (sub : Fin 512) a, b.ppsIn = some a → s1.ns < a + 100000000 → exec (.ppsInEdge t sub) s =
      .next { s1 with tb := { b with ppsIn := some s1.ns, rejected := satAdd 32 b.rejected 1 } }) ∧
    (∀ sub : Fin 512, (∀ a, b.ppsIn = some a → a + 100000000 ≤ s1.ns) →
      exec (.ppsInEdge t sub) s = .next (({ s1 with tb := { b with ppsIn := some s1.ns } }).ppsEdge (s1.edgeAt sub))) ∧
    (∀ p, s1.ppsRise = some p → s1.supply.live = true → b.ppsHigh = none → ∃ u, exec (.ppsOutRise t) s = .next u ∧
      u.tb = { b with ppsLast := p.1, ppsHigh := some (s1.ns + 10000 * p.2) } ∧ u.Sent (.pps true)) ∧
    (s1.due b.ppsHigh = true → exec (.ppsOutFall t) s = .next (({ s1 with tb := { b with ppsHigh := none } }).say (.pps false))) ∧
    (∀ up, s1.ptpLive = true → b.tpUp ≠ up → b.cfg.tpRate ≠ 0 ∨ up = false → s1.supply.lrefAbsent.contains 0 = false ∨ up = false →
      ∃ u, exec (.tpLink t up) s = .next u ∧ u.tb.tpUp = up) ∧
    (∀ w x, s1.timeWaits = some (w, x) → x.since + 2000000000 ≤ s1.ns →
      ∃ u, exec (.setTimePpsTimeout t) s = .next u ∧ u.tb = { b with waiting := none } ∧ u.Reports { s1 with tb := u.tb } ∧
        (u.ring (w.1 / 1024) (w.1 % 1024)).waiting = none)

/-- ENCODER_CONFIG (11 R398, R410, R411, R413 to R416): CONFIGURE puts its operands in force for the port that sent it; SET_COUNT makes the
channel read its count at the commit stamp; DIVIDER starts or stops the pulse divider; STATUS queues the channel's block; RELEASE
returns the channel to its configuration after reset, without owner and divider. No other channel changes.

The other encoder rows (11 R386, R392 to R394, R397, R399, R400, R411): an accepted Z edge captures the count and its stamp, another only
moves the input; a pair enters and leaves fault; a serial sensor is clocked every SER_PERIOD; a good reading gives the count and a bad
one is discarded under its code; the observer is updated at each whole microsecond, once the readings stamped by then are in (the
wait for an open frame is the model's reading, entry 100); a waiting output count of the divider is placed. -/
def Obligations.EncoderCommandsAndRowsRun : Prop :=
  (
    (∀ t c s0, let s := s0.elapse t
      s.Accepts c 0x39 (encoderConfigureChecks c) → ∃ u, exec (.encoderConfigure t c) s0 = .next u ∧
        (u.enc (encCh c.e)).cfg = encCfgOf c.e ∧ (u.enc (encCh c.e)).owner = some c.p ∧
        (∀ j, j ≠ encCh c.e → u.enc j = s.enc j) ∧ u.Completed s c .success) ∧
    (∀ t c s0, let s := s0.elapse t
      s.Accepts c 0x39 (setCountChecks c) → ∃ u, exec (.setCount t c) s0 = .next u ∧
        (u.enc (encCh c.e)).rawAt (256 * s.dt) = fld c.e 0xC 4 ∧
        (u.enc (encCh c.e)).owner = some c.p ∧ (u.enc (encCh c.e)).cfg = (s.enc (encCh c.e)).cfg ∧ (∀ j, j ≠ encCh c.e → u.enc j = s.enc j) ∧ u.Completed s c .success) ∧
    (∀ t c s0, let s := s0.elapse t
      let x := s.enc (encCh c.e)
      s.Accepts c 0x39 (dividerChecks c) → ∃ u, exec (.divider t c) s0 = .next u ∧
        (∃ d, u.enc (encCh c.e) = { x with owner := some c.p, div := d } ∧ d.isSome = bitAt c.e 0xA 0 ∧
          ∀ q, d = some q → q.gioA = bitsAt c.e 0xB 1 0 6 ∧ q.gioB = bitsAt c.e 0xC 1 0 6 ∧ q.n = fld c.e 0xE 2 ∧ q.m = fld c.e 0x10 2 ∧
            q.minEdge = fld c.e 0x12 2 ∧ q.reverse = bitAt c.e 0xA 1 ∧ q.acc = 0 ∧ q.queue = []) ∧
        (∀ j, j ≠ encCh c.e → u.enc j = s.enc j) ∧ u.Reports { s with encoders := u.encoders } ∧ u.Completed s c .success) ∧
    (∀ t c s0, let s := s0.elapse t
      let block : List Byte := s.encBlock (encCh c.e)
      let parts := splitParts (bufferVa c.e 0x10) block (s.translate c.p (bufferVa c.e 0x10) block.length 0).2
      s.Accepts c 0x39 (encoderStatusChecks c) → ∃ u arg, exec (.encoderStatus t c) s0 = .next u ∧ u.WaitsFor s c arg ∧
        ((∃ n, .block (ringId c.p c.i) arg c.p parts ∈ (u.auxMover n).queue) ∨ .block (ringId c.p c.i) arg c.p parts ∈ u.auxWait) ∧
        u.enc (encCh c.e) = { s.enc (encCh c.e) with owner := some c.p } ∧
        u.Reports { s with encoders := u.encoders, aux := u.aux, auxWait := u.auxWait, fresh := u.fresh }) ∧
    (∀ t c s0, let s := s0.elapse t
      s.Accepts c 0x39 (encoderReleaseChecks c) → ∃ u, exec (.encoderRelease t c) s0 = .next u ∧
        (u.enc (encCh c.e)).cfg = EncCfg.reset ∧ (u.enc (encCh c.e)).owner = none ∧
        (u.enc (encCh c.e)).div = none ∧ (∀ j, j ≠ encCh c.e → u.enc j = s.enc j) ∧ u.Completed s c .success)) ∧
  (
    ∀ t (e : Fin 16) s,
      let s1 := s.elapse t
      let x := s1.enc e
      s.mode ≠ .keep →
        (∀ (level : Bool) (sub : Fin 512), 1 ≤ x.cfg.mode → x.cfg.mode ≤ 5 →
          let i := s1.edgeAt sub
          let z := x.passes 2 x.z level i
          (x.z = true ∨ z = false ∨ (x.cfg.zGate = true ∧ (x.a = false ∨ x.b = false)) → exec (.zEdge t e level sub) s =
            .next (s1.setEnc e { x with z := z, moved := if x.z != z then tabPut x.moved 2 i else x.moved })) ∧
          (x.z = false → z = true → x.cfg.zGate = false ∨ (x.a = true ∧ x.b = true) → ∃ u, exec (.zEdge t e level sub) s = .next u ∧
            (u.enc e).zCount = x.rawAt i ∧ (u.enc e).zTime = i ∧ (u.enc e).zArmed = false ∧ (u.enc e).z = true ∧
            ∀ j, j ≠ e.val → u.enc j = s.enc j)) ∧
        (∀ pair : Fin 4, x.cfg.usesPair pair = true →
          (x.faults.contains pair.val = false → ∃ u, exec (.wireFault t e pair true) s = .next u ∧
            (u.enc e).faults = pair.val :: x.faults ∧ (pair.val ≤ 1 → x.st ≠ .off → (u.enc e).st = .lost)) ∧
          (x.faults.contains pair.val = true → ∃ u, exec (.wireFault t e pair false) s = .next u ∧
            (u.enc e).faults = x.faults.filter (· != pair.val))) ∧
        (x.cfg.serial = true → x.serDue ≤ s1.ns → x.serOpen = none → exec (.serialFrameStart t e) s =
          .next ((s1.setEnc e { x with serOpen := some (s1.edgeAt 0), serDue := x.serDue + 1000 * x.cfg.serPeriod }).say
            (.encoderClock e x.cfg.frameClocks))) ∧
        (∀ i r, x.serOpen = some i →
          let d := s1.setEnc e { x with serOpen := none }
          let biss : Bool := x.cfg.mode = 8
          let fault : Prop := x.faults.contains 0 = true
          (biss = true → r.noStart = true ∨ fault → exec (.serialReading t e r) s = .next (d.discardReading e 5)) ∧
          (¬(biss = true ∧ (r.noStart = true ∨ fault)) → readingOk x.cfg r = false ∨ fault →
            exec (.serialReading t e r) s = .next (d.discardReading e 4)) ∧
          (biss = true → r.noStart = false → ¬fault → readingOk x.cfg r = true → r.nE = false →
            exec (.serialReading t e r) s = .next (d.discardReading e 6)) ∧
          (readingOk x.cfg r = true → ¬fault → ¬(biss = true ∧ (r.noStart = true ∨ r.nE = false)) →
            exec (.serialReading t e r) s = .next (d.goodReading e i (readingPos x.cfg r) (biss && !r.nW)) ∧
            (x.readings = [] → ∃ u, exec (.serialReading t e r) s = .next u ∧ (u.enc e).count = readingPos x.cfg r ∧ (u.enc e).serOpen = none ∧
              (u.enc e).discards = 0 ∧ (u.enc e).sensorWarn = (biss && !r.nW)))) ∧
        (let tu := (x.tk / 1000 + 1) * 1000;
          x.st ≠ .off → s1.reached (256 * tu) = true → (∀ i, x.serOpen = some i → 256 * tu < i) → ∃ u, exec (.observerUpdate t e) s = .next u ∧
          (u.enc e).tk = tu ∧ (u.enc e).count = x.count ∧ ∀ j, j ≠ e.val → u.enc j = s.enc j) ∧
        (s.mode ≠ .dark → exec (.dividerOutputEdge t e) s = .next (s1.divideOut e)))

/-- Counting (11 R388 to R390): in its mode, a channel counts one up or down modulo 2^32 at an edge of its filtered inputs that its mode
counts, REVERSE reversing it; an edge that counts nothing only moves the inputs; a change of both quadrature inputs at once and a wrong
Hall state are decode errors. No other channel changes. -/
def Obligations.EncoderEdgesCount : Prop :=
  ∀ t (e : Fin 16) (sub : Fin 512) s,
    let s1 := s.elapse t
    let x := s1.enc e
    let i := s1.sampleAt sub
    let step (f : Bool) : Nat := if f != x.cfg.reverse then (x.count + 1) % 2 ^ 32 else (x.count + 2 ^ 32 - 1) % 2 ^ 32
    s.mode ≠ .keep →
      (∀ p q, 1 ≤ x.cfg.mode → x.cfg.mode ≤ 3 →
        let a := x.passes 0 x.a p i
        let b := x.passes 1 x.b q i
        (x.a ≠ a → x.b ≠ b → exec (.quadratureEdge t e p q sub) s =
          .next ((s1.setEnc e (x.takeAB a b i)).decodeError e i 1)) ∧
        (x.a = a ∨ x.b = b → quadStep x.cfg.mode x.a x.b a b = none →
          exec (.quadratureEdge t e p q sub) s = .next (s1.setEnc e (x.takeAB a b i))) ∧
        (∀ f, x.a = a ∨ x.b = b → quadStep x.cfg.mode x.a x.b a b = some f → ∃ u, exec (.quadratureEdge t e p q sub) s = .next u ∧ (u.enc e).count = step f ∧
          (u.enc e).cfg = x.cfg ∧ ∀ j, j ≠ e.val → u.enc j = s.enc j)) ∧
      (∀ p q, x.cfg.mode = 4 →
        let a := x.passes 0 x.a p i
        let dir := x.passes 1 x.b q i
        (x.a ≠ a → a ≠ x.cfg.stepEdge → ∃ u, exec (.stepEdge t e p q sub) s = .next u ∧ (u.enc e).count = step dir ∧
          (u.enc e).cfg = x.cfg ∧ ∀ j, j ≠ e.val → u.enc j = s.enc j) ∧
        (x.a = a ∨ a = x.cfg.stepEdge → exec (.stepEdge t e p q sub) s = .next (s1.setEnc e (x.takeAB a dir i)))) ∧
      (∀ p q, x.cfg.mode = 5 →
        let up := x.passes 0 x.a p i
        let down := x.passes 1 x.b q i
        (x.a = false → up = true → x.b = true ∨ down = false → ∃ u, exec (.upDownEdge t e p q sub) s = .next u ∧ (u.enc e).count = step true ∧
          (u.enc e).cfg = x.cfg ∧ ∀ j, j ≠ e.val → u.enc j = s.enc j) ∧
        (x.a = true ∨ up = false → x.b = false → down = true → ∃ u, exec (.upDownEdge t e p q sub) s = .next u ∧ (u.enc e).count = step false ∧
          (u.enc e).cfg = x.cfg ∧ ∀ j, j ≠ e.val → u.enc j = s.enc j) ∧
        ((x.a = false ∧ up = true ↔ x.b = false ∧ down = true) →
          exec (.upDownEdge t e p q sub) s = .next (s1.setEnc e (x.takeAB up down i)))) ∧
      (∀ hu hv hw old,
        let h := b2n hu + 2 * b2n hv + 4 * b2n hw
        x.cfg.mode = 6 → x.hall = some old → h ≠ old →
        (h ≠ 0 → hallNext old = h → ∃ u, exec (.hallChange t e hu hv hw sub) s = .next u ∧ (u.enc e).count = step true ∧
          (u.enc e).cfg = x.cfg ∧ ∀ j, j ≠ e.val → u.enc j = s.enc j) ∧
        (old ≠ 0 → hallNext h = old → (h = 0 ∨ hallNext old ≠ h) → ∃ u, exec (.hallChange t e hu hv hw sub) s = .next u ∧ (u.enc e).count = step false ∧
          (u.enc e).cfg = x.cfg ∧ ∀ j, j ≠ e.val → u.enc j = s.enc j) ∧
        ((h = 0 ∨ hallNext old ≠ h) → (old = 0 ∨ hallNext h ≠ old) → exec (.hallChange t e hu hv hw sub) s =
          .next ((s1.setEnc e { x with hall := some h }).decodeError e (s1.edgeAt sub) 2)))

/-- The commands of triggering (12 R429, R430, R440, R442 to R444): TARGET_CONFIG configures its target or returns it to reset; START makes
a loaded sequencer run from its instant; HALT stops it with its timers and slots; SLOT_ARM and SLOT_DISARM arm and disarm one compare;
HANDOVER waits with its instant; GIO_CONFIG sets its line. -/
def Obligations.TriggerCommandsRun : Prop :=
  (∀ t c s0, let s := s0.elapse t
    let g := fld c.e 8 1
    let k := targetOf c.e
    s.Accepts c 0x3B (targetConfigChecks c) → ∃ u, exec (.targetConfig t c) s0 = .next u ∧
      (k.kind = 0 → u.target g = { Target.reset with reports := (s.target g).reports }) ∧
      (k.kind ≠ 0 → (u.target g).cfg = k ∧ (u.target g).owner = some c.p) ∧ (∀ j, j ≠ g → u.target j = s.target j) ∧ u.Completed s c .success) ∧
  (∀ t c s0, let s := s0.elapse t
    let q := armSeq c.e
    let v := fld c.e 0x10 8
    let ahead := toInt 64 (v + 2 ^ 64 - s.dt)
    s.Accepts c 0x3C (triggerStartChecks c) → ∃ u, exec (.triggerStart t c) s0 = .next u ∧
      (let y := u.seqr q
      y.running = true ∧ y.owner = some c.p ∧ y.st = 0 ∧ y.haps = [] ∧ y.image = (s.seqr q).image ∧ y.slots = (s.seqr q).slots) ∧
      (v ≠ 0 → 16 < ahead → (u.seqr q).startAt = some (256 * v)) ∧
      (v = 0 ∨ ahead ≤ 16 → (u.seqr q).startAt = some (256 * (s.dt + 16))) ∧ (∀ j, j ≠ q → u.seqr j = s.seqr j) ∧
      u.Reports { s with seqs := u.seqs } ∧ u.Completed s c .success) ∧
  (∀ t c s0, let s := s0.elapse t
    let q := armSeq c.e
    s.Accepts c 0x3C (triggerHaltChecks c) → ∃ u, exec (.triggerHalt t c) s0 = .next u ∧
      (let y := u.seqr q
      y.running = false ∧ y.startAt = none ∧ y.timers = [] ∧ y.haps = [] ∧ y.image = (s.seqr q).image ∧
      ∀ k, (y.slot k).armed = none ∨ y.slot k = (s.seqr q).slot k) ∧ (∀ j, j ≠ q → u.seqr j = s.seqr j) ∧ u.Completed s c .success) ∧
  (∀ t c s0, let s := s0.elapse t
    let q := armSeq c.e
    let k := bitsAt c.e 0xA 1 0 3
    s.Accepts c 0x3C (triggerSlotArmChecks c) → ∃ u, exec (.triggerSlotArm t c) s0 = .next u ∧
      s.slotArm c.e = some ((u.seqr q).slot k) ∧
      (∀ j, j ≠ k → (u.seqr q).slot j = (s.seqr q).slot j) ∧ (∀ j, j ≠ q → u.seqr j = s.seqr j) ∧ u.Reports { s with seqs := u.seqs } ∧ u.Completed s c .success) ∧
  (∀ t c s0, let s := s0.elapse t
    let q := armSeq c.e
    let k := bitsAt c.e 0xA 1 0 3
    s.Accepts c 0x3C (triggerSlotDisarmChecks c) → ∃ u, exec (.triggerSlotDisarm t c) s0 = .next u ∧
      ((u.seqr q).slot k).armed = none ∧
      (∀ j, j ≠ k → (u.seqr q).slot j = (s.seqr q).slot j) ∧ (∀ j, j ≠ q → u.seqr j = s.seqr j) ∧ u.Reports { s with seqs := u.seqs } ∧ u.Completed s c .success) ∧
  (∀ t c s0, let s := s0.elapse t
    let g := fld c.e 8 1
    s.Accepts c 0x3D (triggerHandoverChecks c) → ∃ u, exec (.triggerHandover t c) s0 = .next u ∧
      u.Reports (s.setTarget g { s.target g with handover := some (fld c.e 0x10 8, bitsAt c.e 9 1 0 2) }) ∧ u.Completed s c .success) ∧
  (∀ t c s0, let s := s0.elapse t
    let g := bitsAt c.e 8 1 0 6
    let x := s.gioLine g
    let dir := bitsAt c.e 9 1 0 2
    s.Accepts c 0x3E (gioConfigChecks c) → ∃ u, exec (.gioConfig t c) s0 = .next u ∧
      (let y := u.gioLine g
      (dir = 2 → y = { Gio.reset with seen := x.seen, moved := x.moved }) ∧
      (dir ≠ 2 → y.owner = some c.p ∧ y.dir = dir ∧ y.level = bitAt c.e 9 2 ∧ y.safe = bitsAt c.e 9 1 3 2 ∧
        y.filter = fld c.e 0xA 1 ∧ y.seen = x.seen)) ∧
      (∀ j, j ≠ g → u.gioLine j = s.gioLine j) ∧ u.Reports { s with gio := u.gio, out := u.out } ∧ u.Completed s c .success)

/-- The Lamplighter (12 R423, R425 to R428, R431 to R433; 10 R360; 11 R407): an armed compare fires at its instant, is disarmed and offered;
a timer that expires offers its happening and restarts when it is periodic; a sequencer starts at its instant, with the happenings of
that instant; the happenings of the earliest instant are taken, once no slot or timer is due by then; a held fire is accepted when its
interval has passed; a pulse starts and ends at its instants. -/
def Obligations.LamplighterRowsRun : Prop :=
  ∀ t s,
    let s1 := s.elapse t
    (∀ (q : Fin 32) (k : Fin 8) i how,
      let x := s1.seqr q
      (x.slot k).instant = some (i, how) → (x.slot k).armed.isSome = true → s1.reached i = true →
        (x.slotPos k = false → ∃ u, exec (.timeCompareFire t q k) s = .next u ∧ ((u.seqr q).slot k).armed = none ∧
          (x.running = true → x.startAt = none → ∃ h ∈ (u.seqr q).haps, h.kind = 1 ∧ h.index = k.val ∧ h.at_ = i ∧ h.how = how) ∧
          ∀ j, j ≠ q.val → u.seqr j = s.seqr j) ∧
        (x.slotPos k = true → ∃ u, exec (.positionCompareFire t q k) s = .next u ∧ ((u.seqr q).slot k).armed = none ∧
          (x.running = true → x.startAt = none → ∃ h ∈ (u.seqr q).haps, h.kind = 1 ∧ h.index = k.val ∧ h.at_ = i ∧ h.how = how) ∧
          ∀ j, j ≠ q.val → u.seqr j = s.seqr j)) ∧
    (∀ (q : Fin 32) (tm : Fin 4) y,
      let x := s1.seqr q
      let h : Hap := { kind := 2, index := tm, rising := false, at_ := y.due, pos := false, how := .onTime, slot := 0, from_ := none }
      tabFind x.timers tm = some y → s1.reached y.due = true → x.running = true → x.startAt = none →
        (y.period = none → exec (.sequencerTimerExpiry t q tm) s =
          .next ((s1.setSeq q { x with timers := tabDel x.timers tm }).setSeq q { x with timers := tabDel x.timers tm, haps := x.haps ++ [h] })) ∧
        (∀ p, y.period = some p →
          let timers := tabPut x.timers tm { y with due := y.due + p }
          exec (.sequencerTimerExpiry t q tm) s =
            .next ((s1.setSeq q { x with timers := timers }).setSeq q { x with timers := timers, haps := x.haps ++ [h] }))) ∧
    (∀ (q : Fin 32) i,
      let x := s1.seqr q
      x.startAt = some i → x.running = true → s1.reached i = true → x.dueBy i = false → exec (.sequencerStartInstant t q) s =
        .next (((s1.setSeq q { x with startAt := none, st := 0, haps := x.haps.filter (fun k => k.at_ != i) }).trigRecord none q 3 0x0601
          1).takeInstant q i (x.haps.filter (fun k => k.at_ = i)) true)) ∧
    (∀ (q : Fin 32) h a rest,
      let x := s1.seqr q
      let first := minD a (a :: rest)
      let now := x.haps.filter (fun k => k.at_ = first)
      x.haps.map (·.at_) = a :: rest → x.running = true → x.startAt = none → s1.reached (max first x.busyUntil) = true →
      x.dueBy first = false → now.any (fun k => k.named h) = true → exec (.transition t q h) s =
        .next ((s1.setSeq q { x with haps := x.haps.filter (fun k => k.at_ != first) }).takeInstant q (max first x.busyUntil) now false)) ∧
    (∀ g : Fin 256,
      let x := s1.target g
      (∀ f i, x.held = some (f, i) → s1.reached i = true → exec (.heldFireRelease t g) s =
        .next ((s1.setTarget g { x with held := none }).acceptFire g f.id i f.width f.flags)) ∧
      (∀ f rest, x.pend = f :: rest → x.cfg.kind = 2 → s1.reached f.o = true → exec (.gioPulseStart t g) s =
        .next ((s1.setTarget g { x with pend := rest, pulse := some (f.o + 64 * f.width) }).drive x.cfg.lane f.o (!x.cfg.polarity))) ∧
      (∀ i, x.pulse = some i → x.cfg.kind = 2 → s1.reached i = true → exec (.gioPulseEnd t g) s =
        .next ((s1.setTarget g { x with pulse := none }).drive x.cfg.lane i x.cfg.polarity)))

/-- The modes (17 R574 to R577): MODE_SET to the present mode completes at once and changes nothing; to another it waits with the
transition it starts, from a mode in which streams run with a limit of 1 s for them to stop; the transition's end puts the new mode
in force, once no stream runs; streams that have not stopped in 1 s are snuffed; 1 ms after Keep the main domain goes down.

Supervisors, guards and Dark (15 R515, R525 to R530, R534): a mismatch or a late heartbeat freezes the live cores for the standby or,
without one, brings Dark; the standby resumes within 50 µs or Dark follows; cores that pass join again; a failed guard stays out; Dark
makes the outputs safe and ends with silent ports; ended windows close; the health values are written each hour. -/
def Obligations.ModesAndSupervisors : Prop :=
  (
    (∀ t c s0, let s := s0.elapse t
      let m := Mode.ofCode (bitsAt c.e 8 1 0 3)
      m = s.mode → s.Accepts c 0x48 (modeSetChecks c) → ∃ u, exec (.modeSet t c) s0 = .next u ∧ u.Reports s ∧ u.Completed s c .success) ∧
    (∀ t c s0, let s := s0.elapse t
      let m := Mode.ofCode (bitsAt c.e 8 1 0 3)
      m ≠ s.mode → s.Accepts c 0x48 (modeSetChecks c) → ∃ u, exec (.modeSet t c) s0 = .next u ∧ u.WaitsFor s c s.fresh ∧ u.mode = s.mode ∧
        (s.toSetup m = false → u.start = { s.start with transition := some (m, ringId c.p c.i, s.fresh, false), modeWait := none } ∧
          u.Reports { s with start := u.start, fresh := u.fresh }) ∧
        (s.toSetup m = true → (∃ stops, u.start.transition = some (m, ringId c.p c.i, s.fresh, stops)) ∧
          u.start.modeWait = if s.streamsRun then some (ringId c.p c.i, s.ns + 1000000000) else none)) ∧
    (∀ t s m rid arg stopped,
      let s1 := s.elapse t
      s.start.transition = some (m, rid, arg, stopped) → s.mode ≠ .dark → s.mode ≠ .keep → (s.start.modeWait = none ∨ s1.streamsRun = false) →
        ∃ u, exec (.modeTransitionComplete t) s = .next u ∧ u.mode = m ∧ u.start.transition = none ∧ u.start.modeWait = none ∧
          (m = .keep → u.start.keepAt = some (s1.ns + 1000000))) ∧
    (∀ t s m rid arg stopped,
      s.start.transition = some (m, rid, arg, stopped) → s.start.modeWait.isSome = true → (s.elapse t).streamsRun = true →
        exec (.modeTransitionComplete t) s = .next (s.elapse t)) ∧
    (∀ t s q,
      let s1 := s.elapse t
      s.start.modeWait = some q → q.2 ≤ s1.ns → s.mode ≠ .dark → exec (.modeSetStreamSnuff t) s =
        .next ((tabKeys s1.streams (fun x => x.active || x.startPending.isSome)).foldl State.snuffStop s1)) ∧
    (∀ t s, (s.elapse t).due s.start.keepAt = true → exec (.keepPowerDown t) s = .next (s.elapse t).clearMain)) ∧
  (
    ∀ t s,
      let s1 := s.elapse t
      let dark (u : State) (cause : Nat) : Prop := u.mode = .dark ∧ u.dark.cause = cause ∧ u.dark.t0 = s1.ns ∧ u.tests = []
      let frozen (u : State) : Prop :=
        u.mode = s.mode ∧ u.sup = { s.sup with frozen := s.sup.live, live := [], resumeBy := some (s1.ns + 50000) }
      (s1.supRuns = true →
        (s.sup.live.length = 2 → s.sup.standby = none → ∃ u, exec (.lockstepMismatch t) s = .next u ∧ dark u 3) ∧
        (s.sup.live.length = 2 → s.sup.standby.isSome = true → ∃ u, exec (.lockstepMismatch t) s = .next u ∧ frozen u) ∧
        (s.sup.standby = none → ∃ u, exec (.heartbeatLate t) s = .next u ∧ dark u 2) ∧
        (s.sup.standby.isSome = true → ∃ u, exec (.heartbeatLate t) s = .next u ∧ frozen u) ∧
        (∀ pass : List (Fin 3), s.sup.frozen ≠ [] →
          let ok := ([0, 1, 2] : List Nat).filter (fun k => s.sup.frozen.contains k && pass.any (fun q => q.val = k))
          ∃ u, exec (.supervisorSelfTestDone t pass) s = .next u ∧ u.sup.frozen = [] ∧ u.sup.live = s.sup.live ++ ok.take 1 ∧
            u.sup.standby = ok.tail.head? ∧ u.health.cores = s.health.cores ++ s.sup.frozen.filter (fun k => !ok.contains k))) ∧
      (∀ d, s.sup.resumeBy = some d → s.mode ≠ .keep → s.mode ≠ .dark →
        (s1.ns ≤ d → ∃ u, exec (.standbyResume t) s = .next u ∧ u.sup.live = s.sup.standby.toList ∧ u.sup.standby = none ∧ u.sup.resumeBy = none ∧
          u.mode = s.mode) ∧
        (d < s1.ns → s.start.fw ≠ .failed → ∃ u, exec (.standbyResume t) s = .next u ∧ dark u 1)) ∧
      (∀ g : Fin 2, s.guards.length = 2 → ∃ u, exec (.guardFault t g) s = .next u ∧ u.guards = s.guards.filter (fun k => k != g.val) ∧
        u.Reports { s1 with guards := u.guards }) ∧
      (∀ g : Fin 2, s.guards.length ≠ 2 → exec (.guardFault t g) s = .next s1) ∧
      (s.mode = .dark → s.dark.safe = false → ∃ u, exec (.dark t) s = .next u ∧ u.mode = .dark ∧ u.dark.safe = true ∧
        u.Sent (.pin "DARK#" 0 false)) ∧
      (∀ d, s.sup.resumeBy = some d → d < s1.ns → s.mode ≠ .keep → s.mode ≠ .dark → s.start.fw ≠ .failed →
        ∃ u, exec (.dark t) s = .next u ∧ u.mode = .dark ∧ u.dark.cause = 1 ∧ u.dark.safe = true) ∧
      (∀ p : Fin 4, s.mode = .dark → s.dark.safe = true → (s.port p).silent = false → ∃ u, exec (.darkDrainEnd t p) s = .next u ∧
        (u.port p).silent = true ∧ u.mode = .dark) ∧
      (s.mode ≠ .keep → s.mode ≠ .dark → s.start.fw ≠ .failed → ∃ u, exec (.darkPinLow t) s = .next u ∧ dark u 6) ∧
      (∃ u, exec (.eventWindowEnd t) s = .next u ∧ (∀ w ∈ u.windows, s1.windowOver w = false) ∧ u.Reports s1) ∧
      (s.healthAt + 3600000000000 ≤ s1.ns → exec (.healthNvWrite t) s = .next { s1 with healthNv := s.health, healthAt := s1.ns }))

/-- SPARE_MANAGE and PATROL_CONFIG (15 R516, R518, R523): PLAN adds the spare-in it plans (a slice's sconces without an open frame move at
once, a pair stops for its standby), FORCE waits for the spare that takes over, RETIRE takes a free spare out of its pool, POLICY sets
AUTO and WEAR_LIMIT, and PATROL_CONFIG sets the patrol. -/
def Obligations.SpareCommandsRun : Prop :=
  (∀ t c s0, let s := s0.elapse t
    let pool := smPool c.e
    let n := smUnit c.e
    s.Accepts c 0x49 (sparePlanChecks c) → ∃ u, exec (.sparePlan t c) s0 = .next u ∧
      (pool ≤ 4 → pool ≠ poolSlices →
        ∃ q, u.plans = s.plans ++ [q] ∧ q.pool = pool ∧ q.logical = n ∧ q.old = (s.physOf pool n).getD 0 ∧
          q.new_ = (if smSpare c.e = 0xFFFF then (s.smFree pool n).headD 0 else smSpare c.e) ∧
          u.Reports { s with plans := u.plans, patrol := u.patrol }) ∧
      (pool = poolSlices → ∀ k, k / 8 = n → (s.sconce k).openFrame = none → (u.sconce k).spareIn = true) ∧
      (pool = poolSup → u.sup.live = [] ∧ u.sup.frozen = s.sup.live ∧ u.sup.resumeBy = some (s.ns + 50000)) ∧ u.Completed s c .success) ∧
  (∀ t c s0, let s := s0.elapse t
    let pool := smPool c.e
    s.Accepts c 0x49 (spareForceChecks c) → ∃ u, exec (.spareForce t c) s0 = .next u ∧ u.WaitsFor s c s.fresh ∧
      (pool ≤ 4 → ∃ q ∈ u.takeOvers, q.pool = pool ∧ q.logical = smUnit c.e ∧ q.kind = 2 ∧ q.cmd = some (ringId c.p c.i, s.fresh)) ∧
      (pool = poolSup → s.sup.standby.isSome = true → u.sup.live = [] ∧ u.sup.frozen = s.sup.live ∧ u.sup.resumeBy = some (s.ns + 50000))) ∧
  (∀ t c s0, let s := s0.elapse t
    let pool := smPool c.e
    s.Accepts c 0x49 (spareRetireChecks c) → ∃ u, exec (.spareRetire t c) s0 = .next u ∧
      (pool ≤ 4 → (s.phys pool (smUnit c.e)).st = 1 → (u.phys pool (smUnit c.e)).st = 3) ∧
      (pool = poolSup → s.sup.standby = some (smUnit c.e) → u.sup.standby = none) ∧
      (4 < pool → pool ≠ poolSup → pool ≠ poolDataLanes → s.partsFree pool (smUnit c.e) ≠ 0 →
        (u.phys pool (smUnit c.e)).used = (s.phys pool (smUnit c.e)).used + 1) ∧
      u.Reports { s with health := u.health, sup := u.sup, patrol := u.patrol } ∧ u.Completed s c .success) ∧
  (∀ t c s0, let s := s0.elapse t
    let auto := tabPut s.health.auto (smPool c.e) (bitAt c.e 0xE 0)
    let wear := tabPut s.health.wear (smPool c.e) (fld c.e 0x10 4)
    s.Accepts c 0x49 (sparePolicyChecks c) → ∃ u, exec (.sparePolicy t c) s0 = .next u ∧
      u.Reports { s with health := { s.health with auto := auto, wear := wear } } ∧ u.Completed s c .success) ∧
  (∀ t c s0, let s := s0.elapse t
    s.Accepts c 0x4A (patrolConfigChecks c) → ∃ u, exec (.patrolConfig t c) s0 = .next u ∧
      u.Reports { s with health := { s.health with patrolOn := bitAt c.e 8 0, patrolGap := fld c.e 0xC 4 } } ∧ u.Completed s c .success)

/-- Faults and spare-ins (15 R509 to R516, R520, R521): a failed unit in service is struck and a spare takes over; the take-over ends; a
corrected error below half its limit is only counted; an uncorrectable row is replaced while its channel has a spare row; a second lost stack brings Dark; a copied
Lantern waits for its boundary; a planned part switches; a patrol mismatch flags its frame and starts a vote. -/
def Obligations.FaultsAreHandled : Prop :=
  ∀ t s,
    let s1 := s.elapse t
    s1.unitsLive = true →
      (∀ pool unit part n, 1 ≤ pool → pool ≤ 4 → unit < poolSize pool → (s1.phys pool unit).logical = some n → (s1.phys pool unit).st = 0 →
        exec (.hardFault t pool unit part) s = .next (s1.failUnit pool n unit 1 none) ∧
        (∀ j l, s1.planOf pool n = none → s1.freeSpares pool n = j :: l → ∃ u, exec (.hardFault t pool unit part) s = .next u ∧
          ∃ q ∈ u.takeOvers, q.pool = pool ∧ q.logical = n ∧ q.old = unit ∧ q.new_ = j ∧ q.kind = 1)) ∧
      (∀ pool unit lost q, s1.takeOvers.find? (fun q => q.pool = pool && q.logical = unit) = some q → pool ≠ poolSup →
        exec (.spareTakeover t pool unit lost) s = .next (s1.takeOverEnds q lost)) ∧
      (∀ pool unit part, 1 ≤ pool → pool ≤ 4 → unit < poolSize pool →
        let x := s1.phys pool unit
        let live := (s1.ns, part) :: x.errs.filter (fun q => s1.ns < q.1 + 86400000000000)
        2 * live.length < s1.wearOf pool → exec (.correctedError t pool unit part) s = .next (s1.setPhys pool unit { x with errs := live })) ∧
      (∀ channel row l,
        let s2 := s1.strikeFrames l
        let n := unitInstance poolRows channel
        (s2.partsFree poolRows channel ≠ 0 → exec (.hbmUncorrectable t channel row (.data l)) s = .next (s2.usePart poolRows channel row 1)) ∧
        (s2.partsFree poolRows channel = 0 → exec (.hbmUncorrectable t channel row (.data l)) s = .next (s2.exhausted poolRows channel row n true)) ∧
        (s1.partsFree poolRows channel ≠ 0 → exec (.hbmUncorrectable t channel row .fixedArea) s = .next (s1.usePart poolRows channel row 1)) ∧
        (s1.partsFree poolRows channel = 0 → exec (.hbmUncorrectable t channel row .fixedArea) s = .next (s1.exhausted poolRows channel row n true))) ∧
      (∀ k : Fin 8, s.health.stacksLost ≠ [] → s.health.stacksLost.contains k.val = false → ∃ u, exec (.hbmStackLost t k) s = .next u ∧
        u.mode = .dark ∧ u.dark.cause = 5 ∧ u.health.stacksLost = k.val :: s.health.stacksLost) ∧
      (∀ k : Fin 8, s.health.stacksLost = [] → ∃ u, exec (.hbmStackLost t k) s = .next u ∧ u.mode = s.mode ∧ u.health.stacksLost = [k.val]) ∧
      (∀ (n : Fin 64) q,
        let s2 := s1.captureCopied n
        s2.planOf poolLanterns n = some q → s2.unitsLive = true → (s2.lantern n).st ≠ .free → exec (.localStoreCopyComplete t n) s =
          .next { s2 with plans := s2.plans.map (fun p => if p == q then { q with copied := true } else p) }) ∧
      (∀ pool unit q, s1.planOf pool unit = some q → pool ≠ poolSlices → pool ≠ poolLanterns →
        let s2 : State := { s1 with plans := s1.plans.filter (fun p => !(p == q)) }
        exec (.plannedSpareInSwitch t pool unit) s =
          .next (if pool ≤ 4 then s2.spareDone pool q.logical q.old q.new_ q.kind 0 else s2.usePart pool q.logical q.old q.kind)) ∧
      (∀ (c : Fin 512) f, s1.patrolledFrame c = some f → s.patrol.vote = none → exec (.patrolResult t c .mismatch) s =
        .next { s1.modSconce c (fun x => x.modFrame f.number (fun g => { g with flags := g.flags ||| 2 ^ 21 })) with
          patrol := { s.patrol with vote := some (c.val, f.number) } }) ∧
      (∀ c : Fin 512, s1.patrolledFrame c = none → exec (.patrolResult t c .mismatch) s = .next s1) ∧
      (∀ (c : Fin 512) v m, s.patrol.vote = some (c.val, m) → exec (.patrolResult t c (.verdict v)) s = .next (s1.patrolVerdict c m v))

/-- JOURNAL_CONFIG (16 R551, R553 to R555): TARGETS sets both targets; MARK adds its record at the commit stamp; READ_NV copies the records
it names to the buffer and waits; THAW ends the freeze; STATUS queues the status block.

The journal (16 R546 to R552): staging emits its first record 100 µs after its time, with the next record number, and in Replay drops
one of a live happening; each millisecond makes one SYNC record; the NV store takes a block of two records, one of them a waiting GAP,
and then waits for the time it takes; the freeze comes when every record up to its limit is out. The journal touches nothing but
itself and its ring. -/
def Obligations.JournalRuns : Prop :=
  (
    (∀ t c s0, let s := s0.elapse t
      s.Accepts c 0x4B (journalTargetsChecks c) → ∃ u, exec (.journalTargets t c) s0 = .next u ∧
        u.jn.ringEn = bitAt c.e 9 0 ∧ u.jn.nvEn = bitAt c.e 9 1 ∧ u.jn.nvRate = fld c.e 0xC 1 ∧
        u.jn.ring = (if bitAt c.e 9 0 then ringId c.p (bitsAt c.e 0xA 2 0 10) else 0) ∧ u.Reports s ∧ u.Completed s c .success) ∧
    (∀ t c s0, let s := s0.elapse t
      s.Accepts c 0x4B (journalMarkChecks c) → ∃ u, exec (.journalMark t c) s0 = .next u ∧
        (∃ r ∈ u.jn.waiting, r.typ = 0x71 ∧ r.island = islandSup ∧ r.time = s.dt ∧ r.body = leBytes 16 (fld c.e 0x10 16)) ∧ u.Reports s ∧ u.Completed s c .success) ∧
    (∀ t c s0, let s := s0.elapse t
      s.Accepts c 0x4B (readNvChecks c) → ∃ u, exec (.readNv t c) s0 = .next u ∧ u.WaitsFor s c s.fresh ∧
        (∀ q ∈ splitParts (bufferVa c.e 0x20) (((s.nvFrom (fld c.e 0x10 8)).take (fld c.e 0x18 4)).map (fun q => q.2.bytes)).flatten
          (s.translate c.p (bufferVa c.e 0x20) (32 * fld c.e 0x18 4) 0).2, u.Sent (.hostWrite c.p q.1 q.2)) ∧
        u.Reports { s with fresh := u.fresh }) ∧
    (∀ t c s0, let s := s0.elapse t
      s.Accepts c 0x4B (thawChecks c) → ∃ u, exec (.thaw t c) s0 = .next u ∧
        u.jn.frozen = none ∧ u.jn.nvPos = s.jn.next ∧ u.jn.nv = s.jn.nv ∧ u.Reports s ∧ u.Completed s c .success) ∧
    (∀ t c s0, let s := s0.elapse t
      let block : List Byte := s.journalBlock
      let parts := splitParts (bufferVa c.e 0x20) block (s.translate c.p (bufferVa c.e 0x20) block.length 0).2
      s.Accepts c 0x4B (journalStatusChecks c) → ∃ u arg, exec (.journalStatus t c) s0 = .next u ∧ u.WaitsFor s c arg ∧
        ((∃ n, .block (ringId c.p c.i) arg c.p parts ∈ (u.auxMover n).queue) ∨ .block (ringId c.p c.i) arg c.p parts ∈ u.auxWait) ∧
        u.Reports { s with aux := u.aux, auxWait := u.auxWait, fresh := u.fresh })) ∧
  (
    ∀ t s,
      let s1 := s.elapse t
      let ms := s1.dt / 1000000
      (∀ r, firstRec s.jn.waiting = some r → r.time + 100000 < s1.dt → s.mode ≠ .replay ∨ replayTypes.contains r.typ = true →
        s.jn.inStaging ≤ stagingSize →
        ∃ u, exec (.journalEmit t) s = .next u ∧ u.jn.next = (s.jn.next + 1) % 2 ^ 64 ∧ u.jn.waiting = s.jn.waiting.filter (fun w => w != r) ∧
          u.jn.nv = s.jn.nv ∧ u.Reports s1) ∧
      (∀ r, firstRec s.jn.waiting = some r → r.time + 100000 < s1.dt → s.mode = .replay → replayTypes.contains r.typ = false →
        exec (.journalEmit t) s = .next { s1 with jn := { s.jn with waiting := s.jn.waiting.filter (fun w => w != r) } }) ∧
      (∀ r, firstRec s.jn.waiting = some r → s1.dt ≤ r.time + 100000 → exec (.journalEmit t) s = .next s1) ∧
      (s.jn.lastSync < ms → ∃ u r, exec (.sync t) s = .next u ∧ u.jn.lastSync = (if s.jn.lastSync = 0 then ms else s.jn.lastSync + 1) ∧
        u.jn.waiting = s.jn.waiting ++ [r] ∧ r.typ = 0x7F ∧ r.time = u.jn.lastSync * 1000000 ∧ u.Reports s1) ∧
      (s.jn.lastSync = ms → exec (.sync t) s = .next s1) ∧
      (s1.nvReady = true →
        (s.jn.nvGap = none → exec (.nvBlockWrite t false) s = .next (s1.nvTakes 2).nvPaced ∧
          exec (.nvBlockWrite t true) s = .next ((s1.nvTakes 2).nvPaced.nvBlockBad 0)) ∧
        (s.jn.nvGap.isSome = true → exec (.nvBlockWrite t false) s = .next (s1.nvGapOut.nvTakes 1).nvPaced ∧
          exec (.nvBlockWrite t true) s = .next ((s1.nvGapOut.nvTakes 1).nvPaced.nvBlockBad 0))) ∧
      (s1.nvReady = false → ∀ bad, exec (.nvBlockWrite t bad) s = .next s1) ∧
      (∀ limit, s.jn.freezeAt = some limit → limit + 100000 < s1.dt → s.jn.waiting.all (fun r => limit < r.time) = true →
        ∃ u, exec (.fatalFreeze t) s = .next u ∧ u.jn.freezeAt = none ∧ u.Reports s1))

/-- RECORD_CONFIG and REPLAY_CONTROL (16 R562, R563, R566, R570): AREA sets the record area; START arms a capture and STOP ends it; EXPORT
waits for its blocks; STATUS queues its block, whose contents are free (entry 54); ADD maps a sconce into the session, START
loads it, PAUSE and RESUME stop and go on with R0 advanced, END ends it; in Replay the rings are read on and an item is presented. -/
def Obligations.RecordAndReplayRun : Prop :=
  (∀ t c s0, let s := s0.elapse t
    s.Accepts c 0x4C (recordAreaChecks c) → ∃ u, exec (.recordArea t c) s0 = .next u ∧
      u.Reports { s with recorder := { s.recorder with areaGiB := fld c.e 9 1, fullStop := bitAt c.e 0xA 0 } } ∧ u.Completed s c .success) ∧
  (∀ t c s0, let s := s0.elapse t
    s.Accepts c 0x4C (recordStartChecks c) → ∃ u, exec (.recordStart t c) s0 = .next u ∧
      u.Reports (s.setCapture (s.stream (bitsAt c.e 0xC 2 0 11)).sconce (captureOf c.p c.e)) ∧ u.Completed s c .success) ∧
  (∀ t c s0, let s := s0.elapse t
    s.capture (s.stream (bitsAt c.e 0xC 2 0 11)).sconce = none → s.Accepts c 0x4C (recordStopChecks c) →
      ∃ u, exec (.recordStop t c) s0 = .next u ∧ u.Reports s ∧ u.Completed s c .success) ∧
  (∀ t c s0 x, let s := s0.elapse t
    let k := (s.stream (bitsAt c.e 0xC 2 0 11)).sconce
    s.capture k = some x → s.Accepts c 0x4C (recordStopChecks c) → ∃ u, exec (.recordStop t c) s0 = .next u ∧ u.WaitsFor s c s.fresh ∧
      u.Reports { s.setCapture k { x with ending := true, stopCmds := x.stopCmds ++ [(ringId c.p c.i, s.fresh)] } with fresh := u.fresh }) ∧
  (∀ t c s0, let s := s0.elapse t
    s.Accepts c 0x4C (recordExportChecks c) → ∃ u, exec (.recordExport t c) s0 = .next u ∧ u.WaitsFor s c s.fresh ∧
      ∃ x ∈ u.recorder.exports, x.cmdRing = ringId c.p c.i ∧ x.arg = s.fresh ∧ x.ring = ringId c.p (bitsAt c.e 0x10 2 0 10) ∧
        x.area = bufferVa c.e 0x18) ∧
  (∀ t c s0, let s := s0.elapse t
    let block : List Byte := s.recordBlock
    let parts := splitParts (bufferVa c.e 0x20) block (s.translate c.p (bufferVa c.e 0x20) block.length 0).2
    s.Accepts c 0x4C (recordStatusChecks c) → ∃ u arg, exec (.recordStatus t c) s0 = .next u ∧ u.WaitsFor s c arg ∧
      ((∃ n, .block (ringId c.p c.i) arg c.p parts ∈ (u.auxMover n).queue) ∨ .block (ringId c.p c.i) arg c.p parts ∈ u.auxWait) ∧
      u.Reports { s with aux := u.aux, auxWait := u.auxWait, fresh := u.fresh }) ∧
  (∀ t c s0, let s := s0.elapse t
    s.Accepts c 0x4D (replayAddChecks c) → ∃ u, exec (.replayAdd t c) s0 = .next u ∧
      (∃ x, u.session.caps = s.session.caps ++ [x] ∧ x.recorded = bitsAt c.e 0xA 2 0 9 ∧ x.target = bitsAt c.e 0xC 2 0 9 ∧
        x.ring = bitsAt c.e 0xE 2 0 10 ∧ x.items = []) ∧ u.session.port = c.p ∧ u.Reports { s with session := u.session } ∧ u.Completed s c .success) ∧
  (∀ t c s0, let s := s0.elapse t
    s.Accepts c 0x4D (replayStartChecks c) → ∃ u, exec (.replayStart t c) s0 = .next u ∧ u.WaitsFor s c s.fresh ∧
      u.session.st = .loading ∧ u.session.startCmd = some (ringId c.p c.i, s.fresh) ∧ u.session.speed = fld c.e 0x18 2 ∧
      u.session.startTime = fld c.e 0x10 8 ∧ u.session.r0 = s.ns ∧ u.Reports { s with session := u.session, fresh := u.fresh }) ∧
  (∀ t c s0, let s := s0.elapse t
    s.Accepts c 0x4D (replayPauseChecks c) → ∃ u, exec (.replayPause t c) s0 = .next u ∧
      (s.session.st = .running → u.session = { s.session with st := .paused, pausedAt := s.ns }) ∧
      (s.session.st = .starved → u.session = { s.session with st := .paused }) ∧
      (s.session.st ≠ .running → s.session.st ≠ .starved → u.session = s.session) ∧ u.Reports { s with session := u.session } ∧ u.Completed s c .success) ∧
  (∀ t c s0, let s := s0.elapse t
    s.Accepts c 0x4D (replayResumeChecks c) → ∃ u, exec (.replayResume t c) s0 = .next u ∧
      (s.session.st = .paused → u.session = { s.session with st := .running, r0 := s.session.r0 + (s.ns - s.session.pausedAt) }) ∧
      (s.session.st ≠ .paused → u.session = s.session) ∧ u.Reports { s with session := u.session } ∧ u.Completed s c .success) ∧
  (∀ t c s0, let s := s0.elapse t
    s.Accepts c 0x4D (replayEndChecks c) → ∃ u, exec (.replayEnd t c) s0 = .next u ∧
      u.session.st = .none ∧ u.Completed s c .success) ∧
  (∀ t f s, let s1 := f.foldl State.replayFetch (s.elapse t)
    s1.mode = .replay → exec (.replayItemPresent t f) s = .next s1.replayResume.replayStep)

/-- DIAG_RUN (20 R654, R655, R657, R659 to R662): a test waits in its ring with what its operands give, and its lane goes into the test's
state, an eye scan leaving a lane that is UP as it is; ABORT ends the test of its unit at once; a test that has run its time ends with
the result that its checker gives, failing rows of an HBM test repaired and a unit that fails its self-test replaced. -/
def Obligations.DiagnosticsRun : Prop :=
  let began (s : State) (c : RingCmd) (test : Nat) (u : State) : Prop :=
    ∃ q, u.tests = s.tests ++ [q] ∧ q.test = test ∧ q.unit = diagUnit c.e ∧ q.id = s.fresh ∧ q.ring = ringId c.p c.i ∧
      q.buffer = bufferVa c.e 0x18 ∧ q.rate = diagRate c.e ∧ q.tStart = s.dt ∧ q.due = s.ns + diagDuration c.e * 1000000 ∧
      q.duration = diagDuration c.e ∧ q.pattern = diagPattern c.e ∧ q.inject = diagInject c.e ∧ q.dwell = diagDwell c.e
  (∀ t c s0, let s := s0.elapse t
    s.Accepts c 0x4E (diagChecks 0 c) → ∃ u, exec (.nearLoop t c) s0 = .next u ∧ u.WaitsFor s c s.fresh ∧
      began s c 0 u ∧ (u.lane (diagUnit c.e)).st = .nearLoop) ∧
  (∀ t c s0, let s := s0.elapse t
    s.Accepts c 0x4E (diagChecks 1 c) → ∃ u, exec (.farLoop t c) s0 = .next u ∧ u.WaitsFor s c s.fresh ∧
      began s c 1 u ∧ (u.lane (diagUnit c.e)).st = .farLoop) ∧
  (∀ t c s0, let s := s0.elapse t
    s.Accepts c 0x4E (diagChecks 2 c) → ∃ u, exec (.pattern t c) s0 = .next u ∧ u.WaitsFor s c s.fresh ∧
      began s c 2 u ∧ (u.lane (diagUnit c.e)).st = .pattern) ∧
  (∀ t c s0, let s := s0.elapse t
    s.Accepts c 0x4E (diagChecks 3 c) → ∃ u, exec (.eyeScan t c) s0 = .next u ∧ u.WaitsFor s c s.fresh ∧
      began s c 3 u ∧ ((s.lane (diagUnit c.e)).st = .up → u.lane (diagUnit c.e) = s.lane (diagUnit c.e)) ∧
      ((s.lane (diagUnit c.e)).st ≠ .up → (u.lane (diagUnit c.e)).st = .eyeScan)) ∧
  (∀ t c s0, let s := s0.elapse t
    s.Accepts c 0x4E (diagChecks 4 c) → ∃ u, exec (.hbmTest t c) s0 = .next u ∧ u.WaitsFor s c s.fresh ∧
      began s c 4 u ∧ u.Reports { s with tests := u.tests, fresh := u.fresh }) ∧
  (∀ t c s0, let s := s0.elapse t
    s.Accepts c 0x4E (diagChecks 5 c) → ∃ u, exec (.sliceSelfTest t c) s0 = .next u ∧ u.WaitsFor s c s.fresh ∧
      began s c 5 u) ∧
  (∀ t c s0, let s := s0.elapse t
    s.Accepts c 0x4E (diagChecks 6 c) → ∃ u, exec (.lanternSelfTest t c) s0 = .next u ∧ u.WaitsFor s c s.fresh ∧
      began s c 6 u) ∧
  (∀ t c s0, let s := s0.elapse t
    s.Accepts c 0x4E (diagChecks 7 c) → ∃ u, exec (.encoderSelfTest t c) s0 = .next u ∧ u.WaitsFor s c s.fresh ∧
      began s c 7 u) ∧
  (∀ t c s0, let s := s0.elapse t
    s.Accepts c 0x4E (abortChecks c) → ∃ u q, exec (.abort t c) s0 = .next u ∧
      s.tests.find? (fun q => q.test = bitsAt c.e 0xC 1 4 4 && q.unit = diagUnit c.e) = some q ∧
      u.tests = s.tests.filter (fun x => x.id != q.id) ∧ u.Completed s c .success) ∧
  (∀ t id r s q,
    let s1 := s.elapse t
    let x := diagReport q r
    let a := (hbmRows x.body).foldl State.hbmRepair (s1, [])
    s.tests.find? (fun q => q.id = id) = some q → (q.test ≤ 2 → q.due ≤ s1.ns) →
      (q.test ≤ 3 → exec (.diagTestEnd t id r) s = .next (s1.diagEnd q x)) ∧
      (q.test = 4 → exec (.diagTestEnd t id r) s = .next (a.1.diagEnd q { x with body := hbmEntries x.body a.2 })) ∧
      (5 ≤ q.test → x.verdict ≠ 1 → exec (.diagTestEnd t id r) s = .next (s1.diagEnd q x)) ∧
      (5 ≤ q.test → x.verdict = 1 → exec (.diagTestEnd t id r) s = .next ((s1.diagEnd q x).diagFails (q.test - 3) q.unit)) ∧
      (q.test ≤ 3 → ∃ u, exec (.diagTestEnd t id r) s = .next u ∧ u.tests = s.tests.filter (fun x => x.id != q.id) ∧
        (s1.diagWaits q = true → (u.ring (q.ring / 1024) (q.ring % 1024)).waiting = none))) ∧
  (∀ t id r s q, s.tests.find? (fun q => q.id = id) = some q → q.test ≤ 2 → (s.elapse t).ns < q.due →
      exec (.diagTestEnd t id r) s = .next (s.elapse t))

/-- Resets by pin and by the guards (17 R580, R581, R586 to R589; 18 R596, R602): an asserted reset puts the FV8128 into Keep, clears what
the main domain holds, gives the claim to port 0 and notes its kind; a power-on reset also returns the registers of R602. The end of
a reset samples the straps (PORST#) and begins start-up when no other reset is held and a feed is in range.

Start-up in its order (17 R581 to R585, R590; 18 R593): PWR_GOOD rises; the PLLs lock; copy A or B of the firmware runs, or the
restricted Standby begins; the HBM stacks are trained and failed ones are lost; cages get power and leave reset; units that failed
their self-test go out; Standby begins, and with two stacks lost Dark after it. -/
def Obligations.ResetsAndStartUp : Prop :=
  (
    ∀ t s,
      let s1 := s.elapse t
      let cleared (u : State) (kind : Nat) : Prop :=
        u.mode = .keep ∧ u.claim = some 0 ∧ u.tables = [] ∧ u.sconces = [] ∧ u.streams = [] ∧ u.lanterns = [] ∧ u.channels = [] ∧ u.map = [] ∧
          u.encoders = [] ∧ u.seqs = [] ∧ u.groups = [] ∧ u.aux = [] ∧ u.takeOvers = [] ∧ u.tests = [] ∧ u.time = s1.time ∧
          u.start.running = false ∧ u.start.kind = kind ∧ u.start.fromMode = (if s.inReset then s.start.fromMode else s.mode)
      let started (u : State) : Prop := u.start.running = true ∧ u.start.t0 = s1.ns ∧ u.supply.holdOnly = false ∧ u.mode = .keep
      (s.start.porstLow = false → s.supply.live = true → ∃ u, exec (.porstAssert t) s = .next u ∧ cleared u 1 ∧ u.start.porstLow = true ∧
        u.mg.alertMask = 0x3F ∧ u.mg.notify = 0 ∧ u.mg.therm = 0x640 ∧ u.mg.cycleMs = 20 ∧ u.mg.fatalIndex = 0 ∧ u.mg.poolIndex = 1) ∧
      (s.start.porstLow = false → s.supply.live = false →
        exec (.porstAssert t) s = .next { s1 with start := { s.start with porstLow := true } }) ∧
      (s.start.warmLow = false → s.start.porstLow = false → s.supply.live = true → ∃ u, exec (.warmrstAssert t) s = .next u ∧ cleared u 2 ∧
        u.start.warmLow = true ∧ u.mg.alertMask = s.mg.alertMask) ∧
      (s.start.warmLow = false → s.start.porstLow = true →
        exec (.warmrstAssert t) s = .next { s1 with start := { s.start with warmLow := true } }) ∧
      (∀ straps : Fin 8, s.start.porstLow = true →
        let tap := { s.tap with startWaits := s.tap.pins }
        let s2 : State := { s1 with start := { s.start with porstLow := false }, mg := { s.mg with address := straps.val }, tap := tap }
        (s2.mayStart = false → exec (.porstRelease t straps) s = .next s2) ∧
        (s2.mayStart = true → ∃ u, exec (.porstRelease t straps) s = .next u ∧ started u)) ∧
      (s.start.warmLow = true →
        let s2 : State := { s1 with start := { s.start with warmLow := false } }
        (s2.mayStart = false → exec (.warmrstRelease t) s = .next s2) ∧
        (s2.mayStart = true → ∃ u, exec (.warmrstRelease t) s = .next u ∧ started u)) ∧
      (s1.due s.start.guardUntil = true →
        let s2 : State := { s1 with start := { s.start with guardUntil := none } }
        (s2.mayStart = false → exec (.guardResetEnd t) s = .next s2) ∧
        (s2.mayStart = true → ∃ u, exec (.guardResetEnd t) s = .next u ∧ started u))) ∧
  (
    ∀ t s,
      let s1 := s.elapse t
      let x := s.start
      (x.running = true → x.pwrGood = false →
        exec (.pwrGood t) s = .next (({ s1 with start := { x with pwrGood := true } }).say (.pin "PWR_GOOD" 0 true))) ∧
      (x.running = true → x.pwrGood = true → x.pll = false → ∃ u, exec (.pllLock t) s = .next u ∧ u.start = { x with pll := true } ∧
        ∀ p, p < 4 → (s.port p).refClk = true → (u.port p).link = .training) ∧
      (x.running = true → x.pll = true → x.fw = .none → ∀ (fail : Fin 4) pass,
        (fail.val = 0 → exec (.firmwareVerified t fail pass) s = .next { s1 with start := { x with fw := .copyA } }) ∧
        (fail.val ≠ 0 → pass = true → exec (.firmwareVerified t fail pass) s = .next { s1 with start := { x with fw := .copyB, failStep := fail.val } }) ∧
        (fail.val ≠ 0 → pass = false → ∃ u, exec (.firmwareVerified t fail pass) s = .next u ∧ u.mode = .standby ∧ u.start.fw = .failed ∧
          u.start.failStep = fail.val ∧ u.start.running = false)) ∧
      (x.goes = true → x.hbm = false → ∀ failed, ∃ u, exec (.hbmTrained t failed) s = .next u ∧ u.start.hbm = true ∧
        u.health.stacksLost = (s.health.stacksLost ++ failed.map (·.val)).dedup ∧ u.start.hbmFailed = u.health.stacksLost.length) ∧
      (∀ b : Fin 17, x.goes = true → x.hbm = true → x.cagePower.contains b.val = false → exec (.cagePowerEnable t b) s =
        .next (({ s1 with start := { x with cagePower := b.val :: x.cagePower } }).say (.pin "CG_PWREN" b true))) ∧
      (∀ b : Fin 17, x.goes = true → x.cagePower.contains b.val = true → x.cageReset.contains b.val = false → exec (.cageResetRelease t b) s =
        .next (({ s1 with start := { x with cageReset := b.val :: x.cageReset } }).say (.pin "CG_RST#" b true))) ∧
      (x.goes = true → x.hbm = true → x.tests = false →
        exec (.startUpSelfTestsDone t []) s = .next { s1 with start := { x with tests := true } } ∧
        ∀ pool k, 1 ≤ pool → pool ≤ 4 → k < poolSize pool →
          ∃ u, exec (.startUpSelfTestsDone t [(pool, k)]) s = .next u ∧ (u.phys pool k).st = 4) ∧
      (x.goes = true → x.tests = true →
        (x.hbmFailed < 2 → ∃ u, exec (.startDone t) s = .next u ∧ u.mode = .standby ∧ u.start.running = false) ∧
        (2 ≤ x.hbmFailed → ∃ u, exec (.startDone t) s = .next u ∧ u.mode = .dark ∧ u.dark.cause = 5)))

/-- Supplies and reference clocks (15 R536, R537; 17 R573, R580; 19 R626, R627, R636): a feed that comes back is used, or only noted; a feed
that fails gives way to the other or starts the 1 µs of a collapse; a collapse ends in Keep on HOLD, or loses all; clocks that go
absent are noted, stop lanes and ports, and give them back when they return. -/
def Obligations.SuppliesAndClocks : Prop :=
  ∀ t s,
    let s1 := s.elapse t
    let x := s.supply
    (∀ f : Fin 2, (x.feed f).inRange = false →
      (x.live = false → ∃ u, exec (.feedApplied t f) s = .next u ∧ u.time = 0 ∧ u.supply.sel = f.val ∧ (u.supply.feed f).inRange = true ∧
        u.supply.live = true) ∧
      (x.live = true → x.collapseAt = none → x.holdOnly = false → (x.feed x.sel).inRange = true →
        exec (.feedApplied t f) s = .next { s1 with supply := x.setFeed f { x.feed f with inRange := true, near := true } }) ∧
      (x.live = true → x.collapseAt.isSome = true ∨ (x.holdOnly = false ∧ (x.feed x.sel).inRange = false) →
        ∃ u, exec (.feedApplied t f) s = .next u ∧ u.supply.sel = f.val ∧ u.supply.collapseAt = none ∧ (u.supply.feed f).inRange = true)) ∧
    (∀ f : Fin 2, (x.feed f).inRange = true → x.sel ≠ f.val → ∀ near, ∃ u, exec (.feedOutOfRange t f near) s = .next u ∧
      u.supply.sel = x.sel ∧ (u.supply.feed f).inRange = false) ∧
    (∀ f : Fin 2, (x.feed f).inRange = true → x.sel = f.val →
      (∃ u, exec (.feedOutOfRange t f true) s = .next u ∧ u.supply.sel = 1 - f.val ∧ (u.supply.feed f).inRange = false ∧ u.supply.collapseAt = none) ∧
      ((x.feed (1 - f.val)).inRange = false → ∃ u, exec (.feedOutOfRange t f false) s = .next u ∧ u.supply.sel = f.val ∧
        u.supply.collapseAt = some (s1.ns + 1000))) ∧
    (∀ f : Fin 2, x.live = true → ∃ u, exec (.feedQualified t f) s = .next u ∧ u.supply.feed f = { inRange := true, near := true, qualified := true } ∧
      u.supply.collapseAt = none ∧ u.supply.holdOnly = false ∧ (f.val = 0 → u.supply.sel = 0)) ∧
    (∀ f : Fin 2, x.collapsed = true → x.live = true → s.mode = .keep → s.inReset = false → s.start.running = false → s.tap.startWaits = false →
      ∃ u, exec (.feedReturnStart t f) s = .next u ∧ u.start.running = true ∧ u.supply.collapsed = false) ∧
    (s1.due x.collapseAt = true →
      (∃ u, exec (.collapse t true) s = .next u ∧ u.mode = .keep ∧ u.supply.holdOnly = true ∧ u.supply.collapsed = true ∧
        u.supply.collapseAt = none ∧ u.sconces = [] ∧ u.time = s1.time) ∧
      exec (.collapse t false) s = .next s1.loseAll) ∧
    (x.holdOnly = true → ∃ u, exec (.holdExhausted t) s = .next u ∧ u.mode = .keep ∧ u.time = 0 ∧ u.supply.live = false ∧ u.tb = TimeBase.reset ∧
      u.sconces = []) ∧
    exec (.emberReferenceAbsent t) s = .next { s1 with supply := { x with emberRef := false } } ∧
    exec (.emberReferenceReturn t) s = .next { s1 with supply := { x with emberRef := true } } ∧
    (∀ k : Fin 4, x.lrefAbsent.contains k.val = false → ∃ u, exec (.lrefclkAbsent t k) s = .next u ∧ u.supply.lrefAbsent = k.val :: x.lrefAbsent ∧
      ∀ l ∈ chipletLanes k, (u.lane l).refStopped = true) ∧
    (∀ k : Fin 4, x.lrefAbsent.contains k.val = true → ∃ u, exec (.lrefclkReturn t k) s = .next u ∧
      u.supply.lrefAbsent = x.lrefAbsent.filter (· != k.val)) ∧
    (∀ p : Fin 4, ∃ u, exec (.hprefclkAbsent t p) s = .next u ∧ (u.port p).refClk = false ∧ (u.port p).link = .detect) ∧
    (∀ p : Fin 4, (s.port p).refClk = false → ¬((s.phys poolPlls 4).st = 4 ∧ (s.phys poolPlls 4).groups.contains p.val = true) →
      exec (.hprefclkStable t p) s =
      .next (s1.modPort p (fun y => { y with refClk := true, link := if s.start.pll then .training else .detect })))

/-- The registers of the management target (18 R598, R601, R603 to R607, R612): a read answers with the register's bytes, and PEC when the
controller acknowledges the last of them; a write takes a value that its fields allow and sets REJECT for another, with or without
a right PEC; too few bytes are rejected, and more or a wrong PEC are not acknowledged, nor is a direction that a register lacks. -/
def Obligations.ManagementRegisters : Prop :=
  (∀ t ack (l : List Byte) s,
    let s1 := (s.elapse t).mgSeen
    let m := s.mg
    let rejected : State := { s1 with mg := { s1.mg with reject := true } }
    let answer (code : Nat) (bytes : List Byte) (ack : Bool) : State :=
      s1.say (.mgAnswer (bytes ++ if ack then leBytes 1 (s1.pecRead code bytes) else []))
    let written (code n : Nat) (l : List Byte) (ok : Nat → Bool) (f : Nat → State) : State :=
      if l.length < n then rejected
      else if l.length = n ∨ l.length = n + 1 ∧ (l.getD n 0).toNat = s1.pecWrite code (l.take n) then
        if ok (leVal (l.take n)) then f (leVal (l.take n)) else rejected
      else s1.say .mgNack
    s.supply.live = true →
      exec (.identity t (.read ack)) s = .next (answer 0x01 (mgBlock (leBytes 2 0x1FD3 ++ leBytes 2 0x8128 ++ leBytes 1 0xB2 ++ zeros 3 ++ leBytes 8 Config.serialNumber.toNat)) ack) ∧
      exec (.time t (.read ack)) s = .next (answer 0x03 (mgBlock (leBytes 8 s1.dt ++ leBytes 1 s.tb.st.code ++ zeros 7)) ack) ∧
      (∀ v, exec (.temp t (.read ack) v) s = .next (answer 0x04 (leBytes 2 (if s.mode == .keep then 0x8000 else v.toNat)) ack)) ∧
      exec (.fatalCount t (.read ack)) s = .next (answer 0x08 (leBytes 1 s.fatal.length) ack) ∧
      exec (.fatalIndex t (.read ack)) s = .next (answer 0x09 (leBytes 1 m.fatalIndex) ack) ∧
      exec (.poolIndex t (.read ack)) s = .next (answer 0x0C (leBytes 1 m.poolIndex) ack) ∧
      exec (.pool t (.read ack)) s = .next (answer 0x0D (mgBlock (s1.healthRead.poolEntry m.poolIndex)) ack) ∧
      exec (.alertStatus t (.read ack)) s = .next (answer 0x10 (leBytes 2 m.alertStatus) ack) ∧
      exec (.alertMask t (.read ack)) s = .next (answer 0x11 (leBytes 2 m.alertMask) ack) ∧
      exec (.notifyConfig t (.read ack)) s = .next (answer 0x12 (leBytes 1 m.notify) ack) ∧
      exec (.thermLimit t (.read ack)) s = .next (answer 0x13 (leBytes 2 m.therm) ack) ∧
      exec (.cgResult t (.read ack)) s = .next (answer 0x21 (mgBlock (leBytes 1 m.xfer.status ++ leBytes 1 m.xfer.tries ++ leBytes 1 m.xfer.bus ++
          leBytes 1 m.xfer.data.length ++ m.xfer.data)) ack) ∧
      exec (.cgCycleMs t (.read ack)) s = .next (answer 0x23 (leBytes 1 m.cycleMs) ack) ∧
      exec (.fatalIndex t (.write l)) s = .next (written 0x09 1 l (fun v => v < 32) (fun v => { s1 with mg := { s1.mg with fatalIndex := v } })) ∧
      exec (.poolIndex t (.write l)) s = .next (written 0x0C 1 l (fun v => 1 ≤ v && v ≤ 0xA) (fun v => { s1 with mg := { s1.mg with poolIndex := v } })) ∧
      exec (.alertStatus t (.write l)) s = .next (written 0x10 2 l (fun _ => true) (fun v => State.alertCheck { s1 with mg := { s1.mg with alertStatus := m.alertStatus &&& (v ^^^ 0xFFFF) } })) ∧
      exec (.alertMask t (.write l)) s = .next (written 0x11 2 l (fun _ => true) (fun v => State.alertCheck { s1 with mg := { s1.mg with alertMask := v % 64 } })) ∧
      exec (.notifyConfig t (.write l)) s = .next (written 0x12 1 l (fun v => v % 4 != 3 && v / 4 % 4 != 3) (fun v => { s1 with mg := { s1.mg with notify := v % 16 } })) ∧
      exec (.thermLimit t (.write l)) s = .next (written 0x13 2 l (fun _ => true) (fun v => if s.mode == .keep then s1 else { s1 with mg := { s1.mg with therm := v } })) ∧
      exec (.cgCycleMs t (.write l)) s = .next (written 0x23 1 l (fun v => v != 0) (fun v => { s1 with mg := { s1.mg with cycleMs := v } })) ∧
      exec (.guardArm t (.write l)) s = .next (written 0x31 1 l (fun v => v = 0xA5) (fun _ => { s1 with mg := { s1.mg with armed := some (s1.ns + 10000000) } })) ∧
      exec (.wake t (.write l)) s = .next (written 0x30 0 l (fun _ => true) (fun _ =>
        if s.start.porstLow || s.start.warmLow || (s.mode == .keep && s.supply.holdOnly) then rejected
        else if s1.mayStart then s1.wakeUp 4 else s1)) ∧
      exec (.identity t (.write l)) s = .next (s1.say .mgNack) ∧
      exec (.time t (.write l)) s = .next (s1.say .mgNack) ∧
      exec (.fatalCount t (.write l)) s = .next (s1.say .mgNack) ∧
      exec (.pool t (.write l)) s = .next (s1.say .mgNack) ∧
      exec (.cgResult t (.write l)) s = .next (s1.say .mgNack) ∧
      exec (.mgStatus t (.write l)) s = .next (s1.say .mgNack) ∧
      exec (.fatalSlot t (.write l)) s = .next (s1.say .mgNack) ∧
      (∀ v, exec (.temp t (.write l) v) s = .next (s1.say .mgNack)) ∧
      exec (.wake t (.read ack)) s = .next (s1.say .mgNack) ∧
      exec (.guardArm t (.read ack)) s = .next (s1.say .mgNack) ∧
      exec (.guardReset t (.read ack)) s = .next (s1.say .mgNack) ∧
      exec (.cgCycle t (.read ack)) s = .next (s1.say .mgNack) ∧
      (∃ u, exec (.mgStatus t (.read ack)) s = .next u ∧ u.mg.reject = false ∧
        ∃ rest, u.Sent (.mgAnswer (leBytes 2 (s.elapse t).mgStatus ++ rest))) ∧
      (∃ u, exec (.fatalSlot t (.read ack)) s = .next u ∧ u.mg.fatalIndex = (m.fatalIndex + 1) % 32 ∧
        ∃ rest, u.Sent (.mgAnswer (mgBlock ((s.fatalSlots.drop (32 * m.fatalIndex)).take 32) ++ rest)))) ∧
  (∀ t s, s.supply.fed = true → s.start.porstLow = false → s.start.warmLow = false → s.start.running = false →
    let s1 := s.elapse t
    ((∃ d, s.mg.armed = some d ∧ s1.ns < d) → ∃ u, exec (.guardReset t (.write [0x5A])) s = .next u ∧ u.mode = .keep ∧ u.start.kind = 3 ∧
      u.start.guardUntil = some (s1.ns + 1000000) ∧ u.mg.armed = none ∧ u.sconces = []) ∧
    ((∀ d, s.mg.armed = some d → d ≤ s1.ns) →
      ∃ u, exec (.guardReset t (.write [0x5A])) s = .next u ∧ u.mg.reject = true ∧ u.mode = s.mode))

/-- The management bus, its alerts and the module buses (18 R598 to R600, R604, R606, R608 to R615): a CG_XFER block that nothing forbids goes
out on its bus and ends as the bus ended it; a transfer that loses arbitration tries again, eight times in all; a bus that hangs is
recovered, and its module power-cycled after three attempts; alerts are answered, notified and released; the clock of Keep stops. -/
def Obligations.ManagementBusRows : Prop :=
  ∀ t s,
    let s1 := s.elapse t
    let r := s.mg.xfer
    let xfer (y : CgXfer) : State := { s1 with mg := { s.mg with xfer := y } }
    (∀ l : List Byte, s.supply.live = true → 5 ≤ lfld l 0 1 → lfld l 0 1 ≤ 37 → r.status ≠ 1 → l.length = lfld l 0 1 + 1 →
      cgBad (l.drop 1) = false → s.mode ≠ .keep → (s.bus (cgParse (l.drop 1)).bus).out = false →
      (s.bus (cgParse (l.drop 1)).bus).cycle = none → s.start.cagePower.contains (cgParse (l.drop 1)).bus = true →
      ∃ u, exec (.cgXfer t (.write l)) s = .next u ∧ u.mg.xfer = cgParse (l.drop 1) ∧
        u.Sent (.cgTransfer (cgParse (l.drop 1)).bus (cgParse (l.drop 1)).sends)) ∧
    (∀ l : List Byte, s.supply.live = true → 5 ≤ lfld l 0 1 → lfld l 0 1 ≤ 37 → r.status ≠ 1 → l.length = lfld l 0 1 + 1 →
      cgBad (l.drop 1) = true → exec (.cgXfer t (.write l)) s = .next s1.mgSeen.mgReject) ∧
    (∀ l : List Byte, s.supply.live = true → l ≠ [] → lfld l 0 1 < 5 ∨ 37 < lfld l 0 1 ∨ r.status = 1 →
      exec (.cgXfer t (.write l)) s = .next (s1.mgSeen.say .mgNack)) ∧
    (s1.xferRuns = true →
      (∀ data ok, data.length = r.rlen →
        exec (.cgXferComplete t (.done data ok)) s = .next (xfer { r with status := if r.pec && r.rlen != 0 && !ok then 9 else 2, data := data })) ∧
      exec (.cgXferComplete t .noAddress) s = .next (xfer { r with status := 3, data := [] }) ∧
      exec (.cgXferComplete t .noByte) s = .next (xfer { r with status := 4, data := [] }) ∧
      (r.tries < 8 → exec (.cgArbitrationRetry t) s = .next (xfer { r with tries := r.tries + 1 }).xferGo) ∧
      (8 ≤ r.tries → exec (.cgArbitrationRetry t) s = .next (xfer { r with status := 5 })) ∧
      (∀ data, ∃ u, exec (.cgHang t false data) s = .next u ∧ (u.bus r.bus).recovery = some (0, s1.ns) ∧ u.mg.xfer.data = data.take r.rlen) ∧
      (∀ data, ∃ u, exec (.cgHang t true data) s = .next u ∧ (∃ at_, (u.bus r.bus).cycle = some (1, at_, false)) ∧ (u.bus r.bus).recovery = none ∧
        nbit u.mg.alertStatus alertCg = true)) ∧
    (∀ (b : Fin 17) n at_, (s.bus b).recovery = some (n, at_) → at_ ≤ s1.ns →
      (∃ u, exec (.cgRecovery t b true) s = .next u ∧ (u.bus b).recovery = none ∧ u.Sent (.cgRecover b)) ∧
      (n < 2 → ∃ u, exec (.cgRecovery t b false) s = .next u ∧ (u.bus b).recovery = some (n + 1, s1.ns + 1000000) ∧ u.Sent (.cgRecover b)) ∧
      (2 ≤ n → ∃ u, exec (.cgRecovery t b false) s = .next u ∧ (∃ e, (u.bus b).cycle = some (1, e, false)) ∧ u.Sent (.pin "CG_PWREN" b false))) ∧
    (∀ b : Fin 17, s.supply.live = true → s.mode ≠ .keep → (s.bus b).cycle = none → s.start.cagePower.contains b.val = true →
      ∃ u, exec (.cgCycle t (.write [BitVec.ofNat 8 b.val])) s = .next u ∧ (u.bus b).cycle = some (1, s1.ns + s.mg.cycleMs * 10000000, true) ∧
        u.start.cagePower.contains b.val = false ∧ u.Sent (.pin "CG_PWREN" b false)) ∧
    (∀ (b : Fin 17) at_ cg idle, at_ ≤ s1.ns →
      ((s.bus b).cycle = some (1, at_, cg) → ∃ u, exec (.moduleCycled t b idle) s = .next u ∧ (u.bus b).cycle = some (2, at_ + 100000000, cg) ∧
        u.start.cagePower = b.val :: s.start.cagePower ∧ u.Sent (.pin "CG_PWREN" b true)) ∧
      ((s.bus b).cycle = some (2, at_, cg) → ∃ u, exec (.moduleCycled t b idle) s = .next u ∧ (u.bus b).cycle = none ∧ (u.bus b).out = !idle ∧
        u.start.cageReset = b.val :: s.start.cageReset ∧ u.Sent (.pin "CG_RST#" b true))) ∧
    (s.supply.live = true → s.mg.alertLow = true → ∀ won, ∃ u, exec (.alertResponse t won) s = .next u ∧ u.mg.alertLow = !won ∧
      u.Sent (.mgAnswer (leBytes 1 s.mg.addrByte))) ∧
    (∀ at_, s.mg.notifying = some (0, at_) → s.supply.live = true →
      exec (.hostNotify t .acknowledged) s = .next { s1.say (.mgNotify s.notifyBytes) with mg := { s.mg with notifying := none } } ∧
      exec (.hostNotify t .notAcknowledged) s =
        .next { s1.say (.mgNotify s.notifyBytes) with mg := { s.mg with notifying := some (1, s1.ns + 1000000) } } ∧
      exec (.hostNotify t .lost) s =
        .next { s1.say (.mgNotify s.notifyBytes) with mg := { s.mg with notifying := some (1, s1.ns + 1000000) } } ∧
      exec (.hostNotify t .waits) s = .next (s1.say (.mgNotify s.notifyBytes))) ∧
    (∀ n at_, s.mg.notifying = some (n + 1, at_) → s.supply.live = true → at_ ≤ s1.ns →
      exec (.hostNotifyRetry t .acknowledged) s = .next { s1.say (.mgNotify s.notifyBytes) with mg := { s.mg with notifying := none } } ∧
      (n < 6 → exec (.hostNotifyRetry t .notAcknowledged) s =
        .next { s1.say (.mgNotify s.notifyBytes) with mg := { s.mg with notifying := some (n + 2, s1.ns + 1000000) } }) ∧
      (6 ≤ n → exec (.hostNotifyRetry t .notAcknowledged) s = .next (s1.say (.mgNotify s.notifyBytes)).notifyFailed)) ∧
    (∀ v, s.mode ≠ .keep → toInt 16 s.mg.therm ≤ v.toInt → ∃ u, exec (.thermal t v) s = .next u ∧ nbit u.mg.alertStatus alertThermal = true) ∧
    (s1.due s.mg.armed = true → exec (.guardArmExpiry t) s = .next { s1 with mg := { s.mg with armed := none } }) ∧
    (s.supply.live = true → exec (.mgUndefinedCommand t 0x00) s = .next (s1.mgSeen.say .mgNack)) ∧
    exec (.mgTimeout t) s = .next s1 ∧
    (s.mode = .keep → s.supply.live = true → exec (.keepAddressWake t) s = .next { s1 with mg := { s.mg with lastXfer := s1.ns, clock := true } }) ∧
    (s.mode = .keep → s.mg.clock = true → s.mg.lastXfer + 10000000 ≤ s1.ns →
      exec (.keepClockStop t) s = .next { s1 with mg := { s.mg with clock := false } }) ∧
    (∀ sda scl, s.supply.live = true → s.mg.hung = none → (sda || scl) = true → ∃ u, exec (.mgHung t sda scl) s = .next u ∧
      u.mg.hung = some (sda, scl) ∧ u.mg.notifying = none ∧ u.mg.alertLow = true) ∧
    (s.supply.live = true → s.mg.hung.isSome = true → ∃ u, exec (.mgHung t false false) s = .next u ∧ u.mg.hung = none)

/-- The test access port (20 R648, R649, R651): each instruction becomes current, a pin-controlling one only while PORST# is low and as
BYPASS otherwise; TRST_LOW selects IDCODE in Test-Logic-Reset; a cycle of TCK moves the controller as IEEE 1149.1 says, and in
Shift-DR one bit goes out and one comes in. -/
def Obligations.TestAccessPort : Prop :=
  ∀ t s,
    let s1 := s.elapse t
    let loaded (u : State) (code : Nat) : Prop := u.tap.ir = code ∧ u.tap.st = .idle ∧ u.tap.pins = false
    s.supply.fed = true →
      (∃ u, exec (.idcode t) s = .next u ∧ loaded u 0x01) ∧
      (∃ u, exec (.samplePreload t) s = .next u ∧ loaded u 0x02) ∧
      (∃ u, exec (.scanStatus t) s = .next u ∧ loaded u 0x10) ∧
      (∃ u, exec (.bypass t) s = .next u ∧ loaded u 0xFF) ∧
      (s.start.porstLow = true → exec (.extest t) s = .next { s1 with tap := { s.tap with st := .idle, ir := 0x00, pins := true } }) ∧
      (s.start.porstLow = false → ∃ u, exec (.extest t) s = .next u ∧ loaded u 0xFF ∧ u.tap.refused = true) ∧
      (s.start.porstLow = true → exec (.extestPulse t) s = .next { s1 with tap := { s.tap with st := .idle, ir := 0x04, pins := true } }) ∧
      (s.start.porstLow = false → ∃ u, exec (.extestPulse t) s = .next u ∧ loaded u 0xFF ∧ u.tap.refused = true) ∧
      (s.start.porstLow = true → exec (.extestTrain t) s = .next { s1 with tap := { s.tap with st := .idle, ir := 0x05, pins := true } }) ∧
      (s.start.porstLow = false → ∃ u, exec (.extestTrain t) s = .next u ∧ loaded u 0xFF ∧ u.tap.refused = true) ∧
      (s.start.porstLow = true → exec (.clamp t) s = .next { s1 with tap := { s.tap with st := .idle, ir := 0x06, pins := true } }) ∧
      (s.start.porstLow = false → ∃ u, exec (.clamp t) s = .next u ∧ loaded u 0xFF ∧ u.tap.refused = true) ∧
      (s.start.porstLow = true → exec (.highz t) s = .next { s1 with tap := { s.tap with st := .idle, ir := 0x07, pins := true } }) ∧
      (s.start.porstLow = false → ∃ u, exec (.highz t) s = .next u ∧ loaded u 0xFF ∧ u.tap.refused = true) ∧
      (∃ u, exec (.trstLow t) s = .next u ∧ u.tap.ir = 0x01 ∧ u.tap.st = .reset ∧ u.tap.pins = false) ∧
      (∀ tms tdi, ∃ u, exec (.tapClock t tms tdi) s = .next u ∧ u.tap.st = s.tap.st.next tms ∧
        (s.tap.st = .shiftDr → u.tap.drShift = s.tap.drShift.tail ++ [tdi] ∧ u.Sent (.tdo (s.tap.drShift.headD false)) ∧ u.tap.ir = s.tap.ir) ∧
        (s.tap.st = .captureDr → s.tap.ir = 0x01 → u.tap.drShift = lowBits 32 0x281281CF))

/-- Whatever command stands in front, and on an empty queue too, a step that answers a next state keeps the invariant: the waiting commands
stay well formed, device time keeps to 96 bits, start-up runs in Keep alone, and no change of mode is in progress in Keep or Dark. -/
def Obligations.EveryStepKeepsTheInvariant : Prop := ∀ s u : State, s.Inv → step s = .next u → u.Inv

/-- After reset the invariant holds, the FV8128 is in Keep, host port 0 holds the control claim, and no command waits. -/
def Obligations.ResetMeetsTheInvariant : Prop :=
  State.reset.Inv ∧ State.reset.mode = .keep ∧ State.reset.claim = some 0 ∧ State.reset.pending = []

/-- Dark is left only by a reset or by a loss of supply: a step from Dark ends in Dark, or in Keep when its command is PORST_ASSERT,
WARMRST_ASSERT, GUARD_RESET, or one of the two that end a supply. The invariant rules out a start-up that runs in Dark. -/
def Obligations.DarkIsLeftOnlyByResets : Prop :=
  ∀ (s u : State) (c : Instr) (rest : List Instr), s.Inv → s.mode = .dark → s.pending = c :: rest → step s = .next u →
    u.mode = .dark ∨ u.mode = .keep ∧ EndsDark c

/-- No command touches the queue of commands: what a command does leaves the commands that wait as they are. The queue is the model's
own (entry 6). -/
def Obligations.NoCommandTouchesTheQueue : Prop := ∀ (c : Instr) (s u : State), exec c s = .next u → u.pending = s.pending

/-- A command code outside the table of the management target is not acknowledged; a code of the table is no command of this row. -/
def Obligations.UndefinedCodesAreNotAcknowledged : Prop :=
  ∀ t s (code : Byte), s.supply.live = true →
    let defined := [0x01, 0x02, 0x03, 0x04, 0x08, 0x09, 0x0A, 0x0C, 0x0D, 0x10, 0x11, 0x12, 0x13, 0x20, 0x21, 0x22, 0x23, 0x30, 0x31, 0x32]
    (code.toNat ∉ defined → exec (.mgUndefinedCommand t code) s = .next ((s.elapse t).mgSeen.say .mgNack)) ∧
    (code.toNat ∈ defined → exec (.mgUndefinedCommand t code) s = .next (s.elapse t))

/-- ALERT_MASK, NOTIFY_CONFIG, THERM_LIMIT, CG_CYCLE_MS, FATAL_INDEX and POOL_INDEX are at their reset values after a power-on reset and
after a loss of all supplies; a warm reset, a guard reset and the ways into Keep keep them. -/
def Obligations.ManagementRegistersAcrossResets : Prop :=
  ∀ t s,
    (s.start.porstLow = false → s.supply.live = true → ∃ u, exec (.porstAssert t) s = .next u ∧ u.mg.keeps Mg.reset) ∧
    ((s.elapse t).due s.supply.collapseAt = true → ∃ u, exec (.collapse t false) s = .next u ∧ u.mg.keeps Mg.reset) ∧
    (s.supply.holdOnly = true → ∃ u, exec (.holdExhausted t) s = .next u ∧ u.mg.keeps Mg.reset) ∧
    (∃ u, exec (.warmrstAssert t) s = .next u ∧ u.mg.keeps s.mg) ∧ (∀ x, ∃ u, exec (.guardReset t x) s = .next u ∧ u.mg.keeps s.mg) ∧
    (∃ u, exec (.collapse t true) s = .next u ∧ u.mg.keeps s.mg) ∧ (∃ u, exec (.keepPowerDown t) s = .next u ∧ u.mg.keeps s.mg) ∧
    (∃ u, exec (.modeTransitionComplete t) s = .next u ∧ u.mg.keeps s.mg)

/-- The VERSION block is the one the manual gives, with the serial number and the version of the firmware that runs; its last 44 bytes are
reserved and 0. The serial number and the firmware version are constants of the implementation. -/
def Obligations.VersionBlockIsAsGiven : Prop :=
  ∀ s : State, s.versionBlock = [0xB2#8, 0x01#8, 0x00#8, 0x01#8, 0x01#8, 0x00#8, 0x00#8, 0x00#8] ++ leBytes 8 Config.serialNumber.toNat ++
    leBytes 4 (Config.firmwareVersion (s.start.fw == .copyB)).toNat ++ List.replicate 44 0#8
end

