-- ==== Sys2Proof/Laws/Tables.lean ====
section
/-!
SUPPORT. Tables and the accessors of State that rest on them: reading what was written, and reading beside it.
-/

namespace Sys2Proof.Machine

theorem tabFind_put_same {α : Type} (t : Tab α) (k : Nat) (a : α) : tabFind (tabPut t k a) k = some a := by
  induction t with
  | nil => simp [tabPut, tabFind]
  | cons x t ih =>
    obtain ⟨j, b⟩ := x
    simp only [tabPut]
    split
    · simp [tabFind]
    · split
      · simp [tabFind]
      · rename_i h; simp [tabFind, Ne.symm h, ih]

theorem tabFind_put_other {α : Type} (t : Tab α) {k j : Nat} (a : α) (h : j ≠ k) : tabFind (tabPut t k a) j = tabFind t j := by
  induction t with
  | nil => simp [tabPut, tabFind, h.symm]
  | cons x t ih =>
    obtain ⟨i, b⟩ := x
    simp only [tabPut]
    split
    · simp [tabFind, h.symm]
    · split
      · rename_i g; subst g; simp [tabFind, h.symm]
      · simp only [tabFind, ih]

@[simp] theorem tabGet_put_same {α : Type} (d : α) (t : Tab α) (k : Nat) (a : α) : tabGet d (tabPut t k a) k = a := by
  simp [tabGet, tabFind_put_same]

theorem tabGet_put_other {α : Type} (d : α) (t : Tab α) {k j : Nat} (a : α) (h : j ≠ k) :
    tabGet d (tabPut t k a) j = tabGet d t j := by
  simp [tabGet, tabFind_put_other t a h]

theorem tabGet_put {α : Type} (d : α) (t : Tab α) (k j : Nat) (a : α) :
    tabGet d (tabPut t k a) j = if j = k then a else tabGet d t j := by
  split
  · rename_i h; rw [h, tabGet_put_same]
  · rename_i h; exact tabGet_put_other d t a h

variable (s : State)

@[simp] theorem State.port_setPort (p : Nat) (x : Port) : (s.setPort p x).port p = x := tabGet_put_same ..
theorem State.port_setPort_other {p q : Nat} (x : Port) (h : q ≠ p) : (s.setPort p x).port q = s.port q := tabGet_put_other _ _ x h
@[simp] theorem Port.ring_setRing (x : Port) (i : Nat) (r : Ring) : (x.setRing i r).ring i = r := tabGet_put_same ..
theorem Port.ring_setRing_other (x : Port) {i j : Nat} (r : Ring) (h : j ≠ i) : (x.setRing i r).ring j = x.ring j :=
  tabGet_put_other _ _ r h
@[simp] theorem State.ring_setRing (p i : Nat) (r : Ring) : (s.setRing p i r).ring p i = r := by
  simp [State.ring, State.setRing, State.modPort]
@[simp] theorem State.lane_setLane (l : Nat) (x : Lane) : (s.setLane l x).lane l = x := tabGet_put_same ..
theorem State.lane_setLane_other {l m : Nat} (x : Lane) (h : m ≠ l) : (s.setLane l x).lane m = s.lane m := tabGet_put_other _ _ x h
@[simp] theorem State.lantern_setLantern (n : Nat) (x : Lantern) : (s.setLantern n x).lantern n = x := tabGet_put_same ..
theorem State.lantern_setLantern_other {n m : Nat} (x : Lantern) (h : m ≠ n) : (s.setLantern n x).lantern m = s.lantern m :=
  tabGet_put_other _ _ x h
@[simp] theorem State.sconce_setSconce (k : Nat) (x : Sconce) : (s.setSconce k x).sconce k = x := tabGet_put_same ..
theorem State.sconce_setSconce_other {k m : Nat} (x : Sconce) (h : m ≠ k) : (s.setSconce k x).sconce m = s.sconce m :=
  tabGet_put_other _ _ x h
@[simp] theorem State.stream_setStream (n : Nat) (x : Stream) : (s.setStream n x).stream n = x := tabGet_put_same ..
theorem State.stream_setStream_other {n m : Nat} (x : Stream) (h : m ≠ n) : (s.setStream n x).stream m = s.stream m :=
  tabGet_put_other _ _ x h

end Sys2Proof.Machine
end

