-- ==== Sys2Proof/Laws/Reports.lean ====
section
/-!
SUPPORT. Reporting touches nothing but the rings, the journal, the event windows, the sequence numbers and what is sent out:
one lemma for each shared operation, so that a frame is read off instead of unfolding them.
-/

namespace Sys2Proof.Machine

variable {s u v w : State}

theorem State.Reports.refl (s : State) : s.Reports s := ⟨⟨_, _, _, _, _, rfl⟩, fun _ h => h, fun _ => ⟨rfl, fun _ => rfl⟩⟩

theorem State.Reports.trans (h : u.Reports v) (g : v.Reports w) : u.Reports w := by
  refine ⟨?_, fun o ho => h.2.1 o (g.2.1 o ho), fun p => ⟨(h.2.2 p).1.trans (g.2.2 p).1, fun i => ((h.2.2 p).2 i).trans ((g.2.2 p).2 i)⟩⟩
  obtain ⟨⟨a, b, c, d, e, rfl⟩, -⟩ := h
  obtain ⟨⟨a', b', c', d', e', rfl⟩, -⟩ := g
  exact ⟨a, b, c, d, e, rfl⟩

/-- What holds of every step of a fold holds of the fold. -/
theorem State.Reports.foldl {α : Type} {f : State → α → State} (h : ∀ t x, (f t x).Reports t) (l : List α) (s : State) :
    (l.foldl f s).Reports s := by
  induction l generalizing s with
  | nil => exact .refl s
  | cons a l ih => exact (ih (f s a)).trans (h s a)

theorem State.Reports.dite {c : Prop} [Decidable c] (h : u.Reports s) (g : v.Reports s) : (if c then u else v).Reports s := by
  split <;> assumption

/-- The journal, the windows and the sequence numbers may change. -/
theorem State.reports_of (s : State) (j : Journal) (wd : List EvWindow) (q : Tab Nat) :
    State.Reports { s with jn := j, windows := wd, seq := q } s :=
  ⟨⟨_, _, _, _, _, rfl⟩, fun _ h => h, fun _ => ⟨rfl, fun _ => rfl⟩⟩

theorem State.say_reports (s : State) (o : Output) : (s.say o).Reports s :=
  ⟨⟨_, _, _, _, _, rfl⟩, fun _ h => List.mem_cons_of_mem _ h, fun _ => ⟨rfl, fun _ => rfl⟩⟩

theorem State.hostPut_reports (s : State) (p a : Nat) (b : List Byte) : (s.hostPut p a b).Reports s := say_reports ..

/-- A port that keeps its configuration and the shape of its rings. -/
theorem State.setPort_reports (s : State) (p : Nat) (x : Port) (h : x.config = (s.port p).config)
    (g : ∀ i, (x.ring i).shape = ((s.port p).ring i).shape) : (s.setPort p x).Reports s := by
  refine ⟨⟨_, _, _, _, _, rfl⟩, fun _ h => h, fun q => ?_⟩
  by_cases hq : q = p
  · subst hq; exact ⟨by simpa using h, fun i => by simpa [State.ring] using g i⟩
  · exact ⟨by simp [State.port_setPort_other, hq], fun i => by simp [State.ring, State.port_setPort_other, hq]⟩

theorem State.setRing_reports (s : State) (p i : Nat) (r : Ring) (h : r.shape = (s.ring p i).shape) : (s.setRing p i r).Reports s := by
  refine setPort_reports s p _ rfl (fun j => ?_)
  by_cases hj : j = i
  · subst hj; simpa [State.ring] using h
  · simp [Port.ring_setRing_other, hj]

theorem State.modRing_reports (s : State) (p i : Nat) (f : Ring → Ring) (h : ∀ r, (f r).shape = r.shape) : (s.modRing p i f).Reports s :=
  setRing_reports s p i _ (h _)

theorem State.modPort_reports (s : State) (p : Nat) (f : Port → Port) (h : ∀ x, (f x).config = x.config)
    (g : ∀ x, (f x).rings = x.rings) : (s.modPort p f).Reports s :=
  setPort_reports s p _ (h _) (fun i => by simp [Port.ring, g])

theorem State.sendVector_reports (s : State) (p v : Nat) : (s.sendVector p v).Reports s := by
  unfold State.sendVector
  exact .dite (setPort_reports _ _ _ (by rfl) (by intros; rfl)) ((say_reports ..).trans (setPort_reports _ _ _ (by rfl) (by intros; rfl)))

theorem State.signalVector_reports (s : State) (p v : Nat) : (s.signalVector p v).Reports s := by
  unfold State.signalVector
  dsimp only
  split
  · exact .refl s
  · split
    · exact .dite (setPort_reports _ _ _ (by rfl) (by intros; rfl)) (sendVector_reports ..)
    · exact sendVector_reports ..

theorem State.fireRing_reports (s : State) (p i : Nat) : (s.fireRing p i).Reports s := by
  unfold State.fireRing
  exact .dite (.refl s) (.dite (modRing_reports _ _ _ _ (by intros; rfl)) (.dite (signalVector_reports ..)
    (.dite (setPort_reports _ _ _ (by rfl) (by intros; rfl)) ((say_reports ..).trans (setPort_reports _ _ _ (by rfl) (by intros; rfl))))))

theorem State.moderate_reports (s : State) (p i : Nat) (b : Bool) : (s.moderate p i b).Reports s := by
  unfold State.moderate
  exact .dite ((fireRing_reports ..).trans (setRing_reports _ _ _ _ (by rfl)))
    (.dite ((fireRing_reports ..).trans (setRing_reports _ _ _ _ (by rfl))) (setRing_reports _ _ _ _ (by rfl)))

theorem State.writeEntry_reports (s : State) (p i : Nat) (b : List Byte) : (s.writeEntry p i b).Reports s :=
  (moderate_reports ..).trans ((modPort_reports _ _ _ (by intros; rfl) (by intros; rfl)).trans
    ((setRing_reports _ _ _ _ (by rfl)).trans ((say_reports ..).trans (say_reports ..))))

theorem Ring.hold_shape (r : Ring) (e : EvRec) : (r.hold e).shape = r.shape := by
  unfold Ring.hold
  split <;> rfl

theorem State.putRecord_reports (s : State) (p i : Nat) (e : EvRec) : (s.putRecord p i e).Reports s := by
  unfold State.putRecord
  dsimp only
  split
  · exact .refl s
  · exact .dite (setRing_reports _ _ _ _ (Ring.hold_shape ..)) (.refl s)
  · exact .dite (.refl s) (.dite (writeEntry_reports ..) (setRing_reports _ _ _ _ (Ring.hold_shape ..)))

theorem State.journal_reports (s : State) (q t i d : Nat) (b : List Byte) : (s.journal q t i d b).Reports s := by
  unfold State.journal
  exact .dite (.refl s) (reports_of s _ _ _)

theorem State.journalCommand_reports (s : State) (r k : Nat) (e : Entry) (st : Nat) : (s.journalCommand r k e st).Reports s :=
  (State.Reports.foldl (fun _ _ => journal_reports ..) _ _).trans (journal_reports ..)

theorem State.journalLane_reports (s : State) (t y i d : Nat) : (s.journalLane t y i d).Reports s := by
  unfold State.journalLane
  exact .dite (journal_reports ..) (.refl s)

theorem State.makeRecord_reports (s : State) (p i : Nat) (e : EvRec) : (s.makeRecord p i e).Reports s :=
  (putRecord_reports ..).trans (reports_of s _ _ _)

theorem State.closeWindow_reports (s : State) (w : EvWindow) : (s.closeWindow w).Reports s := by
  unfold State.closeWindow
  split
  · exact makeRecord_reports ..
  · exact .refl s

theorem State.windowed_reports (s : State) (p i : Nat) (e : EvRec) : (s.windowed p i e).Reports s := by
  unfold State.windowed
  dsimp only
  split
  · exact (makeRecord_reports ..).trans (reports_of s _ _ _)
  · exact .dite ((makeRecord_reports ..).trans ((closeWindow_reports ..).trans (reports_of s _ _ _)))
      (.dite ((makeRecord_reports ..).trans (reports_of s _ _ _)) (reports_of s _ _ _))

theorem State.closeWindows_reports (s : State) : s.closeWindows.Reports s :=
  (State.Reports.foldl (fun _ _ => closeWindow_reports ..) _ _).trans (reports_of s _ _ _)

theorem State.recordAt_reports (s : State) (t p i c y k b d : Nat) : (s.recordAt t p i c y k b d).Reports s := by
  unfold State.recordAt
  exact .dite ((makeRecord_reports ..).trans (journalLane_reports ..)) ((windowed_reports ..).trans (journalLane_reports ..))

theorem State.record_reports (s : State) (p i c y k b d : Nat) : (s.record p i c y k b d).Reports s := recordAt_reports ..

theorem State.report_reports (s : State) (o : Option Nat) (c y k b d : Nat) : (s.report o c y k b d).Reports s := record_reports ..

theorem State.reportPorts_reports (s : State) (f : Nat → Bool) (c y k b d : Nat) : (s.reportPorts f c y k b d).Reports s :=
  State.Reports.foldl (fun _ _ => record_reports ..) _ _

theorem State.drainList_reports (s : State) (p i : Nat) (l : List EvRec) : (s.drainList p i l).1.Reports s := by
  induction l generalizing s with
  | nil => exact .refl s
  | cons e t ih =>
    unfold State.drainList
    split
    · exact (ih _).trans (writeEntry_reports ..)
    · exact .refl s

theorem State.drainRing_reports (s : State) (p i : Nat) : (s.drainRing p i).Reports s := by
  unfold State.drainRing
  exact .dite ((modRing_reports _ _ _ _ (by intros; rfl)).trans ((drainList_reports ..).trans (reports_of s _ _ _))) (.refl s)

theorem State.finish_reports (s : State) (p i k : Nat) (e : Entry) (st : Status) : (s.finish p i k e st).Reports s := by
  unfold State.finish
  exact .dite (.refl s) (.dite (setRing_reports _ _ _ _ (by rfl)) (.dite
    ((record_reports ..).trans ((modPort_reports _ _ _ (by intros; rfl) (by intros; rfl)).trans ((say_reports ..).trans (say_reports ..))))
    ((modPort_reports _ _ _ (by intros; rfl) (by intros; rfl)).trans ((say_reports ..).trans (say_reports ..)))))

theorem State.fetched_reports (s : State) (c : RingCmd) : (s.fetched c).Reports s :=
  (modPort_reports _ _ _ (by intros; rfl) (by intros; rfl)).trans (modRing_reports _ _ _ _ (by intros; rfl))

theorem State.settle_reports (s : State) (c : RingCmd) (k : Nat) (d : Done) : (s.settle c k d).Reports s := by
  cases d with
  | status st => unfold State.settle; exact finish_reports ..
  | waits a => unfold State.settle; exact modRing_reports _ _ _ _ (by intros; rfl)

theorem State.finishWaiting_reports (s : State) (r a : Nat) (st : Status) : (s.finishWaiting r a st).Reports s := by
  unfold State.finishWaiting
  dsimp only
  split
  · exact .refl s
  · exact .dite ((finish_reports ..).trans (modRing_reports _ _ _ _ (by intros; rfl))) (.refl s)

/-- The state in which the effect of an accepted command starts: fetched and, but for the loads, journaled. -/
def State.committed (s : State) (c : RingCmd) (op : Nat) : State :=
  if loadOp op then s.fetched c
  else (s.fetched c).journalCommand (ringId c.ring.port c.ring.idx)
    ((s.ring c.ring.port c.ring.idx).d % ((s.fetched c).ring c.ring.port c.ring.idx).size) c.e 0

theorem State.committed_reports (s : State) (c : RingCmd) (op : Nat) : (s.committed c op).Reports s := by
  unfold State.committed
  exact .dite (fetched_reports ..) ((journalCommand_reports ..).trans (fetched_reports ..))

/-- An accepted command has its effect and is answered. -/
theorem State.command_accepted {c : RingCmd} {op : Nat} {chk : State → Checks} (eff : State → State × Done)
    (h : s.Accepts c op chk) :
    s.command c op chk eff = .next ((eff (s.committed c op)).1.settle c (s.ring c.ring.port c.ring.idx).d (eff (s.committed c op)).2) := by
  unfold State.command State.committed
  simp only [h.1, h.2, if_true]

/-- What an accepted command's effect says of any state that reporting leads to, the command's next state says. -/
theorem State.command_runs {c : RingCmd} {op : Nat} {chk : State → Checks} {eff : State → State × Done} {P : State → Prop}
    (h : s.Accepts c op chk) (g : ∀ v, v.Reports s → ∀ d, P ((eff v).1.settle c d (eff v).2)) :
    ∃ u, s.command c op chk eff = .next u ∧ P u :=
  ⟨_, command_accepted eff h, g _ (committed_reports ..) _⟩

end Sys2Proof.Machine
end

