-- ==== Sys2Proof/Laws/Commands.lean ====
section
/-!
SUPPORT. What a ring command answers when its checks accept it: one lemma for each shape of an effect, which says once how the
command is fetched, settled and completed, so that a proof about a command is about its effect only.
-/

namespace Sys2Proof.Machine
variable {s u v w : State}

theorem State.Reports.mode (h : u.Reports s) : u.mode = s.mode := by obtain ⟨⟨a,b,c,d,e,rfl⟩,-⟩ := h; rfl
theorem State.Reports.ns (h : u.Reports s) : u.ns = s.ns := by obtain ⟨⟨a,b,c,d,e,rfl⟩,-⟩ := h; rfl
theorem State.Reports.dt (h : u.Reports s) : u.dt = s.dt := by obtain ⟨⟨a,b,c,d,e,rfl⟩,-⟩ := h; rfl

theorem Port.canWrite_of_config {x y : Port} (h : x.config = y.config) : x.canWrite = y.canWrite := by
  have h1 : x.d3hot = y.d3hot := (congrArg Port.d3hot h : x.config.d3hot = y.config.d3hot)
  have h2 : x.bme = y.bme := (congrArg Port.bme h : x.config.bme = y.config.bme)
  have h3 : x.silent = y.silent := (congrArg Port.silent h : x.config.silent = y.config.silent)
  simp [Port.canWrite, h1, h2, h3]

theorem Ring.live_of_shape {x y : Ring} (h : x.shape = y.shape) : x.live = y.live := by
  have h1 : x.st = y.st := (congrArg Ring.st h : x.shape.st = y.shape.st)
  simp [Ring.live, h1]

theorem Ring.addr_of_shape {x y : Ring} (h : x.shape = y.shape) (k : Nat) : x.addr k = y.addr k := by
  have h1 : x.base = y.base := (congrArg Ring.base h : x.shape.base = y.shape.base)
  have h2 : x.log2size = y.log2size := (congrArg Ring.log2size h : x.shape.log2size = y.shape.log2size)
  have h3 : x.kind = y.kind := (congrArg Ring.kind h : x.shape.kind = y.shape.kind)
  simp [Ring.addr, Ring.size, h1, h2, h3]

theorem State.fetchable_live {c : RingCmd} (h : s.fetchable c = true) :
    (s.ring c.ring.port c.ring.idx).live = true ∧ (s.port c.ring.port).canWrite = true ∧ s.mode ≠ .dark := by
  simp only [State.fetchable, State.canFetch, Bool.and_eq_true] at h
  refine ⟨h.1.1.1.1.2, by simp_all, ?_⟩
  intro hm
  simp_all

/-- A completion is written when the ring is live and the port may write. -/
theorem State.finish_completed (w s : State) (c : RingCmd) (st : Status) (hl : (w.ring c.ring.port c.ring.idx).live = true)
    (hm : w.mode ≠ .dark) (hw : (w.port c.ring.port).canWrite = true)
    (ha : (w.ring c.ring.port c.ring.idx).addr (s.ring c.ring.port c.ring.idx).d =
      (s.ring c.ring.port c.ring.idx).addr (s.ring c.ring.port c.ring.idx).d) :
    (w.finish c.ring.port c.ring.idx (s.ring c.ring.port c.ring.idx).d c.e st).Completed s c st := by
  unfold State.finish
  have hl' : ((w.port c.ring.port).ring c.ring.idx).live = true := hl
  have hm' : (w.mode == Mode.dark) = false := by cases hh : w.mode <;> simp_all
  simp only [hl', hm', hw, Bool.not_true, Bool.or_false, Bool.false_eq_true, if_false]
  have ha' : ((w.port c.ring.port).ring c.ring.idx).addr (s.ring c.ring.port c.ring.idx).d =
      (s.ring c.ring.port c.ring.idx).addr (s.ring c.ring.port c.ring.idx).d := ha
  rw [ha']
  split
  · constructor <;> (refine (State.record_reports ..).2.1 _ ?_; simp [State.modPort, State.setPort, State.say])
  · constructor <;> simp [State.modPort, State.setPort, State.say, State.Sent]

theorem command_does {s : State} {c : RingCmd} {op : Nat} {chk : State → Checks} {eff : State → State × Done} (t : State)
    (h : s.Accepts c op chk)
    (g : ∀ v, v.Reports s → (eff v).1.Reports t ∧ (eff v).2 = .ok)
    (hm : t.mode = s.mode) (hw : (t.port c.ring.port).canWrite = (s.port c.ring.port).canWrite)
    (hr : (t.ring c.ring.port c.ring.idx).shape = (s.ring c.ring.port c.ring.idx).shape) :
    ∃ u, s.command c op chk eff = .next u ∧ u.Reports t ∧ u.Completed s c .success := by
  refine ⟨_, State.command_accepted eff h, ?_, ?_⟩
  · exact (State.settle_reports ..).trans (g _ (State.committed_reports ..)).1
  · obtain ⟨g1, g2⟩ := g _ (State.committed_reports s c op)
    rw [g2]
    obtain ⟨hl, hc, hd⟩ := State.fetchable_live h.1
    have hs := (g1.2.2 c.ring.port).2 c.ring.idx
    refine State.finish_completed _ s c _ ?_ ?_ ?_ ?_
    · rw [Ring.live_of_shape (hs.trans hr), hl]
    · rw [g1.mode, hm]; exact hd
    · rw [Port.canWrite_of_config (g1.2.2 _).1, hw, hc]
    · exact Ring.addr_of_shape (hs.trans hr) _

/-- The plain shape: the effect leaves the ports alone. -/
theorem command_does' {s : State} {c : RingCmd} {op : Nat} {chk : State → Checks} {eff : State → State × Done} (t : State)
    (h : s.Accepts c op chk)
    (g : ∀ v, v.Reports s → (eff v).1.Reports t ∧ (eff v).2 = .ok)
    (hm : t.mode = s.mode) (hp : t.ports = s.ports) :
    ∃ u, s.command c op chk eff = .next u ∧ u.Reports t ∧ u.Completed s c .success :=
  command_does t h g hm (by simp [State.port, hp]) (by simp [State.ring, State.port, hp])

theorem command_waits {s : State} {c : RingCmd} {op : Nat} {chk : State → Checks} {eff : State → State × Done} {P : State → Prop} (a : Nat)
    (h : s.Accepts c op chk)
    (g : ∀ v, v.Reports s → (eff v).2 = .waits a ∧ (eff v).1.ticks = s.ticks ∧ (eff v).1.time = s.time ∧ ∀ w, w.Reports (eff v).1 → P w) :
    ∃ u, s.command c op chk eff = .next u ∧ P u ∧ ∃ arg, u.WaitsFor s c arg := by
  refine ⟨_, State.command_accepted eff h, ?_, a, ?_⟩
  · exact (g _ (State.committed_reports ..)).2.2.2 _ (State.settle_reports ..)
  · obtain ⟨g1, g2, g3, -⟩ := g _ (State.committed_reports s c op)
    rw [g1]
    simp [State.WaitsFor, State.settle, State.modRing, State.ns, State.dt, g2, g3]

/-- Reports transported through a change that does not look at what reporting touches. -/
theorem State.Reports.setPort (h : u.Reports s) (p : Nat) {x y : Port} (hc : x.config = y.config)
    (hr : ∀ i, (x.ring i).shape = (y.ring i).shape) : (u.setPort p x).Reports (s.setPort p y) := by
  obtain ⟨⟨a,b,c,d,e,rfl⟩, h2, h3⟩ := h
  refine ⟨⟨_,_,_,_,_,rfl⟩, h2, fun q => ?_⟩
  by_cases hq : q = p
  · subst hq; exact ⟨by simpa using hc, fun i => by simpa [State.ring] using hr i⟩
  · have h4 := h3 q
    refine ⟨?_, fun i => ?_⟩
    · rw [State.port_setPort_other _ _ hq, State.port_setPort_other _ _ hq]; exact h4.1
    · simp only [State.ring, State.port_setPort_other _ _ hq]; exact h4.2 i

theorem State.Reports.setRing (h : u.Reports s) (p i : Nat) {x y : Ring} (hr : x.shape = y.shape) :
    (u.setRing p i x).Reports (s.setRing p i y) := by
  refine h.setPort p (h.2.2 p).1 (fun j => ?_)
  by_cases hj : j = i
  · subst hj; simpa using hr
  · simp only [Port.ring_setRing_other _ _ hj]; exact (h.2.2 p).2 j

/-- The pattern: v reports s, g changes other fields only. -/
theorem State.Reports.map {v s : State} (h : v.Reports s) (f : State → State)
    (hf : ∀ s p j w q o, f { s with ports := p, jn := j, windows := w, seq := q, out := o } =
      { f s with ports := p, jn := j, windows := w, seq := q, out := o }) : (f v).Reports (f s) := by
  obtain ⟨⟨a,b,c,d,e,rfl⟩, h2, h3⟩ := h
  rw [hf]
  have hs : f s = { f s with ports := s.ports, jn := s.jn, windows := s.windows, seq := s.seq, out := s.out } := hf s s.ports s.jn s.windows s.seq s.out
  have e1 : (f s).out = s.out := by have := congrArg State.out hs; exact this
  have e2 : (f s).ports = s.ports := by have := congrArg State.ports hs; exact this
  refine ⟨⟨a,b,c,d,e,rfl⟩, ?_, ?_⟩
  · intro o ho; rw [e1] at ho; exact h2 o ho
  · intro p
    have h4 := h3 p
    constructor
    · have := h4.1; simp only [State.port] at this ⊢; rw [this, e2]
    · intro i; have := h4.2 i; simp only [State.ring, State.port] at this ⊢; rw [this, e2]

end Sys2Proof.Machine
namespace Sys2Proof.Machine
theorem command_gives {s : State} {c : RingCmd} {op : Nat} {chk : State → Checks} {eff : State → State × Done} {P : State → Prop}
    (h : s.Accepts c op chk)
    (g : ∀ v, v.Reports s → (eff v).2 = .ok ∧ (∃ t, (eff v).1.Reports t ∧ t.mode = s.mode ∧ t.ports = s.ports) ∧
      ∀ u, u.Reports (eff v).1 → P u) :
    ∃ u, s.command c op chk eff = .next u ∧ P u ∧ u.Completed s c .success := by
  refine ⟨_, State.command_accepted eff h, (g _ (State.committed_reports ..)).2.2 _ (State.settle_reports ..), ?_⟩
  obtain ⟨g2, ⟨t, g1, hm, hp⟩, -⟩ := g _ (State.committed_reports s c op)
  rw [g2]
  obtain ⟨hl, hc, hd⟩ := State.fetchable_live h.1
  have hs := (g1.2.2 c.ring.port).2 c.ring.idx
  have hr : (t.ring c.ring.port c.ring.idx).shape = (s.ring c.ring.port c.ring.idx).shape := by simp [State.ring, State.port, hp]
  refine State.finish_completed _ s c _ ?_ ?_ ?_ ?_
  · rw [Ring.live_of_shape (hs.trans hr), hl]
  · rw [g1.mode, hm]; exact hd
  · rw [Port.canWrite_of_config (g1.2.2 _).1]; simp only [State.port, hp]; exact hc
  · exact Ring.addr_of_shape (hs.trans hr) _

/-- The common shape: the effect is v with other fields, u is that but for reporting. -/
theorem command_gives' {s : State} {c : RingCmd} {op : Nat} {chk : State → Checks} {eff : State → State × Done} {P : State → Prop}
    (h : s.Accepts c op chk) (f : State → State)
    (g : ∀ v, v.Reports s → (eff v).2 = .ok ∧ (eff v).1.Reports (f s))
    (hm : (f s).mode = s.mode) (hp : (f s).ports = s.ports) (hP : ∀ u, u.Reports (f s) → P u) :
    ∃ u, s.command c op chk eff = .next u ∧ P u ∧ u.Completed s c .success :=
  command_gives h (fun v hv => ⟨(g v hv).1, ⟨f s, (g v hv).2, hm, hp⟩, fun u hu => hP u (hu.trans (g v hv).2)⟩)
end Sys2Proof.Machine
end

