-- ==== Sys2Proof/Laws/Lanterns.lean ====
section
/-!
SUPPORT. The instructions of the Lanterns: what isa answers for each outcome of an instruction.
-/

namespace Sys2Proof.Machine
theorem tabPut_put {α : Type} (t : Tab α) (k : Nat) (a b : α) : tabPut (tabPut t k a) k b = tabPut t k b := by
  induction t with
  | nil => simp [tabPut]
  | cons x t ih =>
    obtain ⟨j, c⟩ := x
    simp only [tabPut]
    split
    · simp [tabPut]
    · split
      · rename_i h; subst h; simp [tabPut]
      · rename_i h1 h2; simp [tabPut, h1, h2, ih]
theorem setLantern_set (s : State) (n : Nat) (x y : Lantern) : (s.setLantern n x).setLantern n y = s.setLantern n y := by
  simp [State.setLantern, tabPut_put]
theorem isa_eq {s : State} {n : Fin 64} {w : Word} (h : s.AtPc n w) (mine : Nat → Bool) (hm : mine w.toNat = true) (f) :
    s.isa n w mine f = (match f (s.awake n) ((s.awake n).lantern n) w.toNat with
    | .next t => t.retire n ((((s.awake n).lantern n).pc : Int) + 1) false
    | .jump t pc => if pc < 0 || (((s.awake n).lantern n).codeWords : Int) ≤ pc then (s.awake n).trap n 4 ((s.awake n).lantern n).pc else t.retire n pc true
    | .back t =>
      let y := t.lantern n
      if y.codeWords ≤ y.pc then (s.awake n).trap n 4 ((s.awake n).lantern n).pc else t.setLantern n (y.setSpr 0xF (y.spr 0xF + 1))
    | .group t last =>
      if last then t.retire n ((((s.awake n).lantern n).pc : Int) + 1) false
      else t.modLantern n (fun y => (y.setSpr 0xF (y.spr 0xF + 1)).setSpr 4 (y.spr 4 + 1))
    | .fin t => (t.modLantern n (fun y => y.setSpr 0xF (y.spr 0xF + 1))).endRoutine n
    | .trap c => (s.awake n).trap n c ((s.awake n).lantern n).pc
    | .stall => s.awake n
    | .waits t => t.setLantern n { ((t.lantern n).setSpr 0xF (((s.awake n).lantern n).spr 0xF + 1)).setSpr 4 0 with pc := ((s.awake n).lantern n).pc + 1 }) := by
  unfold State.isa
  simp only [h.1, h.2.1, h.2.2, hm, Bool.and_self, if_true, Bool.false_eq_true, if_false]
  rfl
theorem retire_eq (s : State) (n : Nat) (y : Lantern) (pc : Int) (j : Bool) (h0 : 0 ≤ pc) (h1 : pc < y.codeWords) :
    (s.setLantern n y).retire n pc j = s.setLantern n (y.retired pc.toNat) := by
  unfold State.retire
  have h2 : ¬ (pc < 0) := by omega
  have h3 : ¬ ((y.codeWords : Int) ≤ pc) := by omega
  simp only [State.lantern_setLantern, h2, h3, decide_false, Bool.or_self, Bool.false_eq_true, if_false, setLantern_set]
  rfl
theorem retire_eq' (s : State) (n : Nat) (pc : Int) (j : Bool) (h0 : 0 ≤ pc) (h1 : pc < (s.lantern n).codeWords) :
    s.retire n pc j = s.setLantern n ((s.lantern n).retired pc.toNat) := by
  unfold State.retire
  have h2 : ¬ (pc < 0) := by omega
  have h3 : ¬ (((s.lantern n).codeWords : Int) ≤ pc) := by omega
  simp only [h2, h3, decide_false, Bool.or_self, Bool.false_eq_true, if_false]
  rfl
@[simp] theorem setS_code (x : Lantern) (k v : Nat) : (x.setS k v).codeWords = x.codeWords := by
  unfold Lantern.setS; split
  · rfl
  · split <;> rfl
@[simp] theorem setV_code (x : Lantern) (k v : Nat) : (x.setV k v).codeWords = x.codeWords := rfl
@[simp] theorem setP_code (x : Lantern) (k v : Nat) : (x.setP k v).codeWords = x.codeWords := by
  unfold Lantern.setP; split <;> rfl
@[simp] theorem setSpr_code (x : Lantern) (k v : Nat) : (x.setSpr k v).codeWords = x.codeWords := rfl
/-- An instruction that does not jump leaves its Lantern as y, which goes on. -/
theorem isa_next {s : State} {n : Fin 64} {w : Word} (h : s.AtPc n w) (mine : Nat → Bool) (hm : mine w.toNat = true) (f) (y : Lantern)
    (hc : y.codeWords = ((s.awake n).lantern n).codeWords) (hp : y.pc = ((s.awake n).lantern n).pc)
    (hf : f (s.awake n) ((s.awake n).lantern n) w.toNat = .next ((s.awake n).setLantern n y)) :
    s.isa n w mine f = (s.awake n).goesOn n y := by
  rw [isa_eq h mine hm]
  simp only [hf, State.retire, State.goesOn, State.lantern_setLantern, setLantern_set, ← hp]
  have h1 : ¬ ((y.pc : Int) + 1 < 0) := by omega
  by_cases h2 : y.pc + 1 < y.codeWords
  · have h3 : ¬ ((y.codeWords : Int) ≤ (y.pc : Int) + 1) := by omega
    simp only [h1, h2, h3, decide_false, Bool.or_self, Bool.false_eq_true, if_false, if_true]
    rfl
  · have h3 : (y.codeWords : Int) ≤ (y.pc : Int) + 1 := by omega
    simp only [h1, h2, h3, decide_false, decide_true, Bool.or_true, if_true, Bool.false_eq_true, if_false]
end Sys2Proof.Machine
end

