-- ==== Sys2Proof/Laws/Memory.lean ====
section
/-!
SUPPORT. The memories of bytes: every operation keeps the canonical form, a byte reads as it was written, and the bytes beside
it read as before.
-/

namespace Sys2Proof.Machine

/-- Every address of a memory lies above a bound. -/
def memAbove (b : Nat) (m : List Host.Cell) : Prop := ∀ x ∈ m, b < x.1

theorem memory_wf_cons (a : Nat) (v : Byte) (m : List Host.Cell) :
    Memory.wf ((a, v) :: m) = true ↔ v ≠ 0 ∧ memAbove a m ∧ Memory.wf m = true := by
  induction m generalizing a v with
  | nil => simp [Memory.wf, memAbove]
  | cons x m ih =>
    obtain ⟨b, w⟩ := x
    have h := ih b w
    simp only [Memory.wf, Bool.and_eq_true, decide_eq_true_eq, bne_iff_ne, h]
    constructor
    · rintro ⟨⟨h1, h2⟩, h3, h4, h5⟩
      refine ⟨h1, ?_, h3, h4, h5⟩
      intro y hy
      rcases List.mem_cons.mp hy with rfl | hy
      · exact h2
      · exact h2.trans (h4 y hy)
    · rintro ⟨h1, h2, h3⟩
      exact ⟨⟨h1, h2 _ List.mem_cons_self⟩, h3⟩

theorem memPut_above {c : Nat} (m : List Host.Cell) (a : Nat) (v : Byte) (hm : memAbove c m) (ha : c < a) :
    memAbove c (memPut m a v) := by
  induction m with
  | nil => unfold memPut; split <;> simp [memAbove, ha]
  | cons x m ih =>
    obtain ⟨b, w⟩ := x
    have hb : c < b := hm _ List.mem_cons_self
    have ht : memAbove c m := fun y hy => hm y (List.mem_cons_of_mem _ hy)
    unfold memPut
    intro y hy
    split at hy
    · split at hy
      · exact hm y hy
      · rcases List.mem_cons.mp hy with rfl | hy
        · exact ha
        · exact hm y hy
    · split at hy
      · split at hy
        · exact ht y hy
        · rcases List.mem_cons.mp hy with rfl | hy
          · exact ha
          · exact ht y hy
      · rcases List.mem_cons.mp hy with rfl | hy
        · exact hb
        · exact ih ht y hy

/-- Writing a byte keeps the canonical form. -/
theorem memPut_wf (m : List Host.Cell) (a : Nat) (v : Byte) (h : Memory.wf m = true) : Memory.wf (memPut m a v) = true := by
  induction m with
  | nil => unfold memPut; split <;> simp_all [Memory.wf]
  | cons x m ih =>
    obtain ⟨b, w⟩ := x
    obtain ⟨h1, h2, h3⟩ := (memory_wf_cons b w m).mp h
    unfold memPut
    split
    · rename_i hlt
      split
      · exact h
      · rename_i hv
        refine (memory_wf_cons a v _).mpr ⟨hv, ?_, h⟩
        intro y hy
        rcases List.mem_cons.mp hy with rfl | hy
        · exact hlt
        · exact hlt.trans (h2 y hy)
    · split
      · rename_i he
        subst he
        split
        · exact h3
        · rename_i hv
          exact (memory_wf_cons a v m).mpr ⟨hv, h2, h3⟩
      · rename_i hn he
        exact (memory_wf_cons b w _).mpr ⟨h1, memPut_above m a v h2 (by omega), ih h3⟩

/-- Writing bytes keeps the canonical form. -/
theorem memWrite_wf (l : List Byte) (m : List Host.Cell) (a : Nat) (h : Memory.wf m = true) : Memory.wf (memWrite m a l) = true := by
  induction l generalizing m a with
  | nil => exact h
  | cons v l ih => exact ih _ _ (memPut_wf m a v h)

theorem memGet_above {c a : Nat} (m : List Host.Cell) (h : memAbove c m) (ha : a ≤ c) : memGet m a = 0 := by
  induction m with
  | nil => rfl
  | cons x m ih =>
    obtain ⟨b, w⟩ := x
    have hb : c < b := h _ List.mem_cons_self
    have hn : b ≠ a := by omega
    simp only [memGet, hn, if_false]
    exact ih (fun y hy => h y (List.mem_cons_of_mem _ hy))

/-- A byte reads as it was written, and every other byte as before. -/
theorem memGet_put (m : List Host.Cell) (a k : Nat) (v : Byte) (h : Memory.wf m = true) :
    memGet (memPut m a v) k = if k = a then v else memGet m k := by
  induction m with
  | nil =>
    by_cases hk : k = a
    · unfold memPut; split <;> simp_all [memGet]
    · unfold memPut; split <;> simp_all [memGet, Ne.symm hk]
  | cons x m ih =>
    obtain ⟨b, w⟩ := x
    obtain ⟨-, h2, h3⟩ := (memory_wf_cons b w m).mp h
    unfold memPut
    split
    · rename_i hlt
      split
      · rename_i hv
        split
        · rename_i hk
          subst hk
          have hn : b ≠ k := by omega
          simp only [memGet, hn, if_false, hv]
          exact memGet_above m h2 (by omega)
        · rfl
      · by_cases hk : k = a
        · subst hk; simp [memGet]
        · simp [memGet, hk, Ne.symm hk]
    · split
      · rename_i he
        subst he
        split
        · rename_i hv
          by_cases hk : k = a
          · subst hk; simp only [if_true, hv]; exact memGet_above m h2 (Nat.le_refl _)
          · simp [memGet, hk, Ne.symm hk]
        · by_cases hk : k = a
          · subst hk; simp [memGet]
          · simp [memGet, hk, Ne.symm hk]
      · rename_i hn he
        by_cases hb : b = k
        · subst hb
          have hk : b ≠ a := fun e => he e.symm
          simp [memGet, hk]
        · simp only [memGet, hb, if_false]
          exact ih h3

/-- Bytes outside the written ones read as before. -/
theorem memGet_write_outside (l : List Byte) (m : List Host.Cell) (a k : Nat) (h : Memory.wf m = true) (hk : k < a ∨ a + l.length ≤ k) :
    memGet (memWrite m a l) k = memGet m k := by
  induction l generalizing m a with
  | nil => rfl
  | cons v l ih =>
    simp only [List.length_cons] at hk
    have hn : k ≠ a := by omega
    rw [memWrite, ih _ _ (memPut_wf m a v h) (by omega), memGet_put m a k v h, if_neg hn]

/-- The written bytes read back. -/
theorem memGet_write_inside (l : List Byte) (m : List Host.Cell) (a k : Nat) (h : Memory.wf m = true) (hk : k < l.length) :
    memGet (memWrite m a l) (a + k) = l[k] := by
  induction l generalizing m a k with
  | nil => simp at hk
  | cons v l ih =>
    rw [memWrite]
    cases k with
    | zero =>
      rw [memGet_write_outside l _ _ _ (memPut_wf m a v h) (by omega), memGet_put m a _ v h]
      simp
    | succ k =>
      have := ih _ (a + 1) k (memPut_wf m a v h) (by simpa using hk)
      rw [show a + (k + 1) = a + 1 + k by omega]
      simpa using this

end Sys2Proof.Machine
end

