-- ==== Sys2Proof/Laws/State.lean ====
section
/-!
SUPPORT. What each update of State leaves in each field, so that no later proof unfolds a record update.
-/

namespace Sys2Proof.Machine

variable (s : State)

/-! ### setPort -/

@[simp] theorem State.setPort_pending (p : Nat) (x : Port) : (s.setPort p x).pending = s.pending := rfl
@[simp] theorem State.setPort_out (p : Nat) (x : Port) : (s.setPort p x).out = s.out := rfl
@[simp] theorem State.setPort_ticks (p : Nat) (x : Port) : (s.setPort p x).ticks = s.ticks := rfl
@[simp] theorem State.setPort_time (p : Nat) (x : Port) : (s.setPort p x).time = s.time := rfl
@[simp] theorem State.setPort_rateAdj (p : Nat) (x : Port) : (s.setPort p x).rateAdj = s.rateAdj := rfl
@[simp] theorem State.setPort_fresh (p : Nat) (x : Port) : (s.setPort p x).fresh = s.fresh := rfl
@[simp] theorem State.setPort_mode (p : Nat) (x : Port) : (s.setPort p x).mode = s.mode := rfl
@[simp] theorem State.setPort_claim (p : Nat) (x : Port) : (s.setPort p x).claim = s.claim := rfl
@[simp] theorem State.setPort_claimLast (p : Nat) (x : Port) : (s.setPort p x).claimLast = s.claimLast := rfl
@[simp] theorem State.setPort_start (p : Nat) (x : Port) : (s.setPort p x).start = s.start := rfl
@[simp] theorem State.setPort_seq (p : Nat) (x : Port) : (s.setPort p x).seq = s.seq := rfl
@[simp] theorem State.setPort_ports (p : Nat) (x : Port) : (s.setPort p x).ports = tabPut s.ports p x := rfl
@[simp] theorem State.setPort_lanes (p : Nat) (x : Port) : (s.setPort p x).lanes = s.lanes := rfl
@[simp] theorem State.setPort_tables (p : Nat) (x : Port) : (s.setPort p x).tables = s.tables := rfl
@[simp] theorem State.setPort_sconces (p : Nat) (x : Port) : (s.setPort p x).sconces = s.sconces := rfl
@[simp] theorem State.setPort_sliceBusy (p : Nat) (x : Port) : (s.setPort p x).sliceBusy = s.sliceBusy := rfl
@[simp] theorem State.setPort_streams (p : Nat) (x : Port) : (s.setPort p x).streams = s.streams := rfl
@[simp] theorem State.setPort_aux (p : Nat) (x : Port) : (s.setPort p x).aux = s.aux := rfl
@[simp] theorem State.setPort_auxWait (p : Nat) (x : Port) : (s.setPort p x).auxWait = s.auxWait := rfl
@[simp] theorem State.setPort_tb (p : Nat) (x : Port) : (s.setPort p x).tb = s.tb := rfl
@[simp] theorem State.setPort_encoders (p : Nat) (x : Port) : (s.setPort p x).encoders = s.encoders := rfl
@[simp] theorem State.setPort_seqs (p : Nat) (x : Port) : (s.setPort p x).seqs = s.seqs := rfl
@[simp] theorem State.setPort_targets (p : Nat) (x : Port) : (s.setPort p x).targets = s.targets := rfl
@[simp] theorem State.setPort_gio (p : Nat) (x : Port) : (s.setPort p x).gio = s.gio := rfl
@[simp] theorem State.setPort_map (p : Nat) (x : Port) : (s.setPort p x).map = s.map := rfl
@[simp] theorem State.setPort_lanterns (p : Nat) (x : Port) : (s.setPort p x).lanterns = s.lanterns := rfl
@[simp] theorem State.setPort_channels (p : Nat) (x : Port) : (s.setPort p x).channels = s.channels := rfl
@[simp] theorem State.setPort_flights (p : Nat) (x : Port) : (s.setPort p x).flights = s.flights := rfl
@[simp] theorem State.setPort_groups (p : Nat) (x : Port) : (s.setPort p x).groups = s.groups := rfl
@[simp] theorem State.setPort_health (p : Nat) (x : Port) : (s.setPort p x).health = s.health := rfl
@[simp] theorem State.setPort_healthNv (p : Nat) (x : Port) : (s.setPort p x).healthNv = s.healthNv := rfl
@[simp] theorem State.setPort_healthAt (p : Nat) (x : Port) : (s.setPort p x).healthAt = s.healthAt := rfl
@[simp] theorem State.setPort_plans (p : Nat) (x : Port) : (s.setPort p x).plans = s.plans := rfl
@[simp] theorem State.setPort_takeOvers (p : Nat) (x : Port) : (s.setPort p x).takeOvers = s.takeOvers := rfl
@[simp] theorem State.setPort_sup (p : Nat) (x : Port) : (s.setPort p x).sup = s.sup := rfl
@[simp] theorem State.setPort_guards (p : Nat) (x : Port) : (s.setPort p x).guards = s.guards := rfl
@[simp] theorem State.setPort_patrol (p : Nat) (x : Port) : (s.setPort p x).patrol = s.patrol := rfl
@[simp] theorem State.setPort_dark (p : Nat) (x : Port) : (s.setPort p x).dark = s.dark := rfl
@[simp] theorem State.setPort_windows (p : Nat) (x : Port) : (s.setPort p x).windows = s.windows := rfl
@[simp] theorem State.setPort_fatal (p : Nat) (x : Port) : (s.setPort p x).fatal = s.fatal := rfl
@[simp] theorem State.setPort_jn (p : Nat) (x : Port) : (s.setPort p x).jn = s.jn := rfl
@[simp] theorem State.setPort_recorder (p : Nat) (x : Port) : (s.setPort p x).recorder = s.recorder := rfl
@[simp] theorem State.setPort_session (p : Nat) (x : Port) : (s.setPort p x).session = s.session := rfl
@[simp] theorem State.setPort_mg (p : Nat) (x : Port) : (s.setPort p x).mg = s.mg := rfl
@[simp] theorem State.setPort_supply (p : Nat) (x : Port) : (s.setPort p x).supply = s.supply := rfl
@[simp] theorem State.setPort_tap (p : Nat) (x : Port) : (s.setPort p x).tap = s.tap := rfl
@[simp] theorem State.setPort_tests (p : Nat) (x : Port) : (s.setPort p x).tests = s.tests := rfl

/-! ### setLane -/

@[simp] theorem State.setLane_pending (l : Nat) (x : Lane) : (s.setLane l x).pending = s.pending := rfl
@[simp] theorem State.setLane_out (l : Nat) (x : Lane) : (s.setLane l x).out = s.out := rfl
@[simp] theorem State.setLane_ticks (l : Nat) (x : Lane) : (s.setLane l x).ticks = s.ticks := rfl
@[simp] theorem State.setLane_time (l : Nat) (x : Lane) : (s.setLane l x).time = s.time := rfl
@[simp] theorem State.setLane_rateAdj (l : Nat) (x : Lane) : (s.setLane l x).rateAdj = s.rateAdj := rfl
@[simp] theorem State.setLane_fresh (l : Nat) (x : Lane) : (s.setLane l x).fresh = s.fresh := rfl
@[simp] theorem State.setLane_mode (l : Nat) (x : Lane) : (s.setLane l x).mode = s.mode := rfl
@[simp] theorem State.setLane_claim (l : Nat) (x : Lane) : (s.setLane l x).claim = s.claim := rfl
@[simp] theorem State.setLane_claimLast (l : Nat) (x : Lane) : (s.setLane l x).claimLast = s.claimLast := rfl
@[simp] theorem State.setLane_start (l : Nat) (x : Lane) : (s.setLane l x).start = s.start := rfl
@[simp] theorem State.setLane_seq (l : Nat) (x : Lane) : (s.setLane l x).seq = s.seq := rfl
@[simp] theorem State.setLane_ports (l : Nat) (x : Lane) : (s.setLane l x).ports = s.ports := rfl
@[simp] theorem State.setLane_lanes (l : Nat) (x : Lane) : (s.setLane l x).lanes = tabPut s.lanes l x := rfl
@[simp] theorem State.setLane_tables (l : Nat) (x : Lane) : (s.setLane l x).tables = s.tables := rfl
@[simp] theorem State.setLane_sconces (l : Nat) (x : Lane) : (s.setLane l x).sconces = s.sconces := rfl
@[simp] theorem State.setLane_sliceBusy (l : Nat) (x : Lane) : (s.setLane l x).sliceBusy = s.sliceBusy := rfl
@[simp] theorem State.setLane_streams (l : Nat) (x : Lane) : (s.setLane l x).streams = s.streams := rfl
@[simp] theorem State.setLane_aux (l : Nat) (x : Lane) : (s.setLane l x).aux = s.aux := rfl
@[simp] theorem State.setLane_auxWait (l : Nat) (x : Lane) : (s.setLane l x).auxWait = s.auxWait := rfl
@[simp] theorem State.setLane_tb (l : Nat) (x : Lane) : (s.setLane l x).tb = s.tb := rfl
@[simp] theorem State.setLane_encoders (l : Nat) (x : Lane) : (s.setLane l x).encoders = s.encoders := rfl
@[simp] theorem State.setLane_seqs (l : Nat) (x : Lane) : (s.setLane l x).seqs = s.seqs := rfl
@[simp] theorem State.setLane_targets (l : Nat) (x : Lane) : (s.setLane l x).targets = s.targets := rfl
@[simp] theorem State.setLane_gio (l : Nat) (x : Lane) : (s.setLane l x).gio = s.gio := rfl
@[simp] theorem State.setLane_map (l : Nat) (x : Lane) : (s.setLane l x).map = s.map := rfl
@[simp] theorem State.setLane_lanterns (l : Nat) (x : Lane) : (s.setLane l x).lanterns = s.lanterns := rfl
@[simp] theorem State.setLane_channels (l : Nat) (x : Lane) : (s.setLane l x).channels = s.channels := rfl
@[simp] theorem State.setLane_flights (l : Nat) (x : Lane) : (s.setLane l x).flights = s.flights := rfl
@[simp] theorem State.setLane_groups (l : Nat) (x : Lane) : (s.setLane l x).groups = s.groups := rfl
@[simp] theorem State.setLane_health (l : Nat) (x : Lane) : (s.setLane l x).health = s.health := rfl
@[simp] theorem State.setLane_healthNv (l : Nat) (x : Lane) : (s.setLane l x).healthNv = s.healthNv := rfl
@[simp] theorem State.setLane_healthAt (l : Nat) (x : Lane) : (s.setLane l x).healthAt = s.healthAt := rfl
@[simp] theorem State.setLane_plans (l : Nat) (x : Lane) : (s.setLane l x).plans = s.plans := rfl
@[simp] theorem State.setLane_takeOvers (l : Nat) (x : Lane) : (s.setLane l x).takeOvers = s.takeOvers := rfl
@[simp] theorem State.setLane_sup (l : Nat) (x : Lane) : (s.setLane l x).sup = s.sup := rfl
@[simp] theorem State.setLane_guards (l : Nat) (x : Lane) : (s.setLane l x).guards = s.guards := rfl
@[simp] theorem State.setLane_patrol (l : Nat) (x : Lane) : (s.setLane l x).patrol = s.patrol := rfl
@[simp] theorem State.setLane_dark (l : Nat) (x : Lane) : (s.setLane l x).dark = s.dark := rfl
@[simp] theorem State.setLane_windows (l : Nat) (x : Lane) : (s.setLane l x).windows = s.windows := rfl
@[simp] theorem State.setLane_fatal (l : Nat) (x : Lane) : (s.setLane l x).fatal = s.fatal := rfl
@[simp] theorem State.setLane_jn (l : Nat) (x : Lane) : (s.setLane l x).jn = s.jn := rfl
@[simp] theorem State.setLane_recorder (l : Nat) (x : Lane) : (s.setLane l x).recorder = s.recorder := rfl
@[simp] theorem State.setLane_session (l : Nat) (x : Lane) : (s.setLane l x).session = s.session := rfl
@[simp] theorem State.setLane_mg (l : Nat) (x : Lane) : (s.setLane l x).mg = s.mg := rfl
@[simp] theorem State.setLane_supply (l : Nat) (x : Lane) : (s.setLane l x).supply = s.supply := rfl
@[simp] theorem State.setLane_tap (l : Nat) (x : Lane) : (s.setLane l x).tap = s.tap := rfl
@[simp] theorem State.setLane_tests (l : Nat) (x : Lane) : (s.setLane l x).tests = s.tests := rfl

/-! ### setSconce -/

@[simp] theorem State.setSconce_pending (k : Nat) (x : Sconce) : (s.setSconce k x).pending = s.pending := rfl
@[simp] theorem State.setSconce_out (k : Nat) (x : Sconce) : (s.setSconce k x).out = s.out := rfl
@[simp] theorem State.setSconce_ticks (k : Nat) (x : Sconce) : (s.setSconce k x).ticks = s.ticks := rfl
@[simp] theorem State.setSconce_time (k : Nat) (x : Sconce) : (s.setSconce k x).time = s.time := rfl
@[simp] theorem State.setSconce_rateAdj (k : Nat) (x : Sconce) : (s.setSconce k x).rateAdj = s.rateAdj := rfl
@[simp] theorem State.setSconce_fresh (k : Nat) (x : Sconce) : (s.setSconce k x).fresh = s.fresh := rfl
@[simp] theorem State.setSconce_mode (k : Nat) (x : Sconce) : (s.setSconce k x).mode = s.mode := rfl
@[simp] theorem State.setSconce_claim (k : Nat) (x : Sconce) : (s.setSconce k x).claim = s.claim := rfl
@[simp] theorem State.setSconce_claimLast (k : Nat) (x : Sconce) : (s.setSconce k x).claimLast = s.claimLast := rfl
@[simp] theorem State.setSconce_start (k : Nat) (x : Sconce) : (s.setSconce k x).start = s.start := rfl
@[simp] theorem State.setSconce_seq (k : Nat) (x : Sconce) : (s.setSconce k x).seq = s.seq := rfl
@[simp] theorem State.setSconce_ports (k : Nat) (x : Sconce) : (s.setSconce k x).ports = s.ports := rfl
@[simp] theorem State.setSconce_lanes (k : Nat) (x : Sconce) : (s.setSconce k x).lanes = s.lanes := rfl
@[simp] theorem State.setSconce_tables (k : Nat) (x : Sconce) : (s.setSconce k x).tables = s.tables := rfl
@[simp] theorem State.setSconce_sconces (k : Nat) (x : Sconce) : (s.setSconce k x).sconces = tabPut s.sconces k x := rfl
@[simp] theorem State.setSconce_sliceBusy (k : Nat) (x : Sconce) : (s.setSconce k x).sliceBusy = s.sliceBusy := rfl
@[simp] theorem State.setSconce_streams (k : Nat) (x : Sconce) : (s.setSconce k x).streams = s.streams := rfl
@[simp] theorem State.setSconce_aux (k : Nat) (x : Sconce) : (s.setSconce k x).aux = s.aux := rfl
@[simp] theorem State.setSconce_auxWait (k : Nat) (x : Sconce) : (s.setSconce k x).auxWait = s.auxWait := rfl
@[simp] theorem State.setSconce_tb (k : Nat) (x : Sconce) : (s.setSconce k x).tb = s.tb := rfl
@[simp] theorem State.setSconce_encoders (k : Nat) (x : Sconce) : (s.setSconce k x).encoders = s.encoders := rfl
@[simp] theorem State.setSconce_seqs (k : Nat) (x : Sconce) : (s.setSconce k x).seqs = s.seqs := rfl
@[simp] theorem State.setSconce_targets (k : Nat) (x : Sconce) : (s.setSconce k x).targets = s.targets := rfl
@[simp] theorem State.setSconce_gio (k : Nat) (x : Sconce) : (s.setSconce k x).gio = s.gio := rfl
@[simp] theorem State.setSconce_map (k : Nat) (x : Sconce) : (s.setSconce k x).map = s.map := rfl
@[simp] theorem State.setSconce_lanterns (k : Nat) (x : Sconce) : (s.setSconce k x).lanterns = s.lanterns := rfl
@[simp] theorem State.setSconce_channels (k : Nat) (x : Sconce) : (s.setSconce k x).channels = s.channels := rfl
@[simp] theorem State.setSconce_flights (k : Nat) (x : Sconce) : (s.setSconce k x).flights = s.flights := rfl
@[simp] theorem State.setSconce_groups (k : Nat) (x : Sconce) : (s.setSconce k x).groups = s.groups := rfl
@[simp] theorem State.setSconce_health (k : Nat) (x : Sconce) : (s.setSconce k x).health = s.health := rfl
@[simp] theorem State.setSconce_healthNv (k : Nat) (x : Sconce) : (s.setSconce k x).healthNv = s.healthNv := rfl
@[simp] theorem State.setSconce_healthAt (k : Nat) (x : Sconce) : (s.setSconce k x).healthAt = s.healthAt := rfl
@[simp] theorem State.setSconce_plans (k : Nat) (x : Sconce) : (s.setSconce k x).plans = s.plans := rfl
@[simp] theorem State.setSconce_takeOvers (k : Nat) (x : Sconce) : (s.setSconce k x).takeOvers = s.takeOvers := rfl
@[simp] theorem State.setSconce_sup (k : Nat) (x : Sconce) : (s.setSconce k x).sup = s.sup := rfl
@[simp] theorem State.setSconce_guards (k : Nat) (x : Sconce) : (s.setSconce k x).guards = s.guards := rfl
@[simp] theorem State.setSconce_patrol (k : Nat) (x : Sconce) : (s.setSconce k x).patrol = s.patrol := rfl
@[simp] theorem State.setSconce_dark (k : Nat) (x : Sconce) : (s.setSconce k x).dark = s.dark := rfl
@[simp] theorem State.setSconce_windows (k : Nat) (x : Sconce) : (s.setSconce k x).windows = s.windows := rfl
@[simp] theorem State.setSconce_fatal (k : Nat) (x : Sconce) : (s.setSconce k x).fatal = s.fatal := rfl
@[simp] theorem State.setSconce_jn (k : Nat) (x : Sconce) : (s.setSconce k x).jn = s.jn := rfl
@[simp] theorem State.setSconce_recorder (k : Nat) (x : Sconce) : (s.setSconce k x).recorder = s.recorder := rfl
@[simp] theorem State.setSconce_session (k : Nat) (x : Sconce) : (s.setSconce k x).session = s.session := rfl
@[simp] theorem State.setSconce_mg (k : Nat) (x : Sconce) : (s.setSconce k x).mg = s.mg := rfl
@[simp] theorem State.setSconce_supply (k : Nat) (x : Sconce) : (s.setSconce k x).supply = s.supply := rfl
@[simp] theorem State.setSconce_tap (k : Nat) (x : Sconce) : (s.setSconce k x).tap = s.tap := rfl
@[simp] theorem State.setSconce_tests (k : Nat) (x : Sconce) : (s.setSconce k x).tests = s.tests := rfl

/-! ### setStream -/

@[simp] theorem State.setStream_pending (n : Nat) (x : Stream) : (s.setStream n x).pending = s.pending := rfl
@[simp] theorem State.setStream_out (n : Nat) (x : Stream) : (s.setStream n x).out = s.out := rfl
@[simp] theorem State.setStream_ticks (n : Nat) (x : Stream) : (s.setStream n x).ticks = s.ticks := rfl
@[simp] theorem State.setStream_time (n : Nat) (x : Stream) : (s.setStream n x).time = s.time := rfl
@[simp] theorem State.setStream_rateAdj (n : Nat) (x : Stream) : (s.setStream n x).rateAdj = s.rateAdj := rfl
@[simp] theorem State.setStream_fresh (n : Nat) (x : Stream) : (s.setStream n x).fresh = s.fresh := rfl
@[simp] theorem State.setStream_mode (n : Nat) (x : Stream) : (s.setStream n x).mode = s.mode := rfl
@[simp] theorem State.setStream_claim (n : Nat) (x : Stream) : (s.setStream n x).claim = s.claim := rfl
@[simp] theorem State.setStream_claimLast (n : Nat) (x : Stream) : (s.setStream n x).claimLast = s.claimLast := rfl
@[simp] theorem State.setStream_start (n : Nat) (x : Stream) : (s.setStream n x).start = s.start := rfl
@[simp] theorem State.setStream_seq (n : Nat) (x : Stream) : (s.setStream n x).seq = s.seq := rfl
@[simp] theorem State.setStream_ports (n : Nat) (x : Stream) : (s.setStream n x).ports = s.ports := rfl
@[simp] theorem State.setStream_lanes (n : Nat) (x : Stream) : (s.setStream n x).lanes = s.lanes := rfl
@[simp] theorem State.setStream_tables (n : Nat) (x : Stream) : (s.setStream n x).tables = s.tables := rfl
@[simp] theorem State.setStream_sconces (n : Nat) (x : Stream) : (s.setStream n x).sconces = s.sconces := rfl
@[simp] theorem State.setStream_sliceBusy (n : Nat) (x : Stream) : (s.setStream n x).sliceBusy = s.sliceBusy := rfl
@[simp] theorem State.setStream_streams (n : Nat) (x : Stream) : (s.setStream n x).streams = tabPut s.streams n x := rfl
@[simp] theorem State.setStream_aux (n : Nat) (x : Stream) : (s.setStream n x).aux = s.aux := rfl
@[simp] theorem State.setStream_auxWait (n : Nat) (x : Stream) : (s.setStream n x).auxWait = s.auxWait := rfl
@[simp] theorem State.setStream_tb (n : Nat) (x : Stream) : (s.setStream n x).tb = s.tb := rfl
@[simp] theorem State.setStream_encoders (n : Nat) (x : Stream) : (s.setStream n x).encoders = s.encoders := rfl
@[simp] theorem State.setStream_seqs (n : Nat) (x : Stream) : (s.setStream n x).seqs = s.seqs := rfl
@[simp] theorem State.setStream_targets (n : Nat) (x : Stream) : (s.setStream n x).targets = s.targets := rfl
@[simp] theorem State.setStream_gio (n : Nat) (x : Stream) : (s.setStream n x).gio = s.gio := rfl
@[simp] theorem State.setStream_map (n : Nat) (x : Stream) : (s.setStream n x).map = s.map := rfl
@[simp] theorem State.setStream_lanterns (n : Nat) (x : Stream) : (s.setStream n x).lanterns = s.lanterns := rfl
@[simp] theorem State.setStream_channels (n : Nat) (x : Stream) : (s.setStream n x).channels = s.channels := rfl
@[simp] theorem State.setStream_flights (n : Nat) (x : Stream) : (s.setStream n x).flights = s.flights := rfl
@[simp] theorem State.setStream_groups (n : Nat) (x : Stream) : (s.setStream n x).groups = s.groups := rfl
@[simp] theorem State.setStream_health (n : Nat) (x : Stream) : (s.setStream n x).health = s.health := rfl
@[simp] theorem State.setStream_healthNv (n : Nat) (x : Stream) : (s.setStream n x).healthNv = s.healthNv := rfl
@[simp] theorem State.setStream_healthAt (n : Nat) (x : Stream) : (s.setStream n x).healthAt = s.healthAt := rfl
@[simp] theorem State.setStream_plans (n : Nat) (x : Stream) : (s.setStream n x).plans = s.plans := rfl
@[simp] theorem State.setStream_takeOvers (n : Nat) (x : Stream) : (s.setStream n x).takeOvers = s.takeOvers := rfl
@[simp] theorem State.setStream_sup (n : Nat) (x : Stream) : (s.setStream n x).sup = s.sup := rfl
@[simp] theorem State.setStream_guards (n : Nat) (x : Stream) : (s.setStream n x).guards = s.guards := rfl
@[simp] theorem State.setStream_patrol (n : Nat) (x : Stream) : (s.setStream n x).patrol = s.patrol := rfl
@[simp] theorem State.setStream_dark (n : Nat) (x : Stream) : (s.setStream n x).dark = s.dark := rfl
@[simp] theorem State.setStream_windows (n : Nat) (x : Stream) : (s.setStream n x).windows = s.windows := rfl
@[simp] theorem State.setStream_fatal (n : Nat) (x : Stream) : (s.setStream n x).fatal = s.fatal := rfl
@[simp] theorem State.setStream_jn (n : Nat) (x : Stream) : (s.setStream n x).jn = s.jn := rfl
@[simp] theorem State.setStream_recorder (n : Nat) (x : Stream) : (s.setStream n x).recorder = s.recorder := rfl
@[simp] theorem State.setStream_session (n : Nat) (x : Stream) : (s.setStream n x).session = s.session := rfl
@[simp] theorem State.setStream_mg (n : Nat) (x : Stream) : (s.setStream n x).mg = s.mg := rfl
@[simp] theorem State.setStream_supply (n : Nat) (x : Stream) : (s.setStream n x).supply = s.supply := rfl
@[simp] theorem State.setStream_tap (n : Nat) (x : Stream) : (s.setStream n x).tap = s.tap := rfl
@[simp] theorem State.setStream_tests (n : Nat) (x : Stream) : (s.setStream n x).tests = s.tests := rfl

/-! ### setLantern -/

@[simp] theorem State.setLantern_pending (n : Nat) (x : Lantern) : (s.setLantern n x).pending = s.pending := rfl
@[simp] theorem State.setLantern_out (n : Nat) (x : Lantern) : (s.setLantern n x).out = s.out := rfl
@[simp] theorem State.setLantern_ticks (n : Nat) (x : Lantern) : (s.setLantern n x).ticks = s.ticks := rfl
@[simp] theorem State.setLantern_time (n : Nat) (x : Lantern) : (s.setLantern n x).time = s.time := rfl
@[simp] theorem State.setLantern_rateAdj (n : Nat) (x : Lantern) : (s.setLantern n x).rateAdj = s.rateAdj := rfl
@[simp] theorem State.setLantern_fresh (n : Nat) (x : Lantern) : (s.setLantern n x).fresh = s.fresh := rfl
@[simp] theorem State.setLantern_mode (n : Nat) (x : Lantern) : (s.setLantern n x).mode = s.mode := rfl
@[simp] theorem State.setLantern_claim (n : Nat) (x : Lantern) : (s.setLantern n x).claim = s.claim := rfl
@[simp] theorem State.setLantern_claimLast (n : Nat) (x : Lantern) : (s.setLantern n x).claimLast = s.claimLast := rfl
@[simp] theorem State.setLantern_start (n : Nat) (x : Lantern) : (s.setLantern n x).start = s.start := rfl
@[simp] theorem State.setLantern_seq (n : Nat) (x : Lantern) : (s.setLantern n x).seq = s.seq := rfl
@[simp] theorem State.setLantern_ports (n : Nat) (x : Lantern) : (s.setLantern n x).ports = s.ports := rfl
@[simp] theorem State.setLantern_lanes (n : Nat) (x : Lantern) : (s.setLantern n x).lanes = s.lanes := rfl
@[simp] theorem State.setLantern_tables (n : Nat) (x : Lantern) : (s.setLantern n x).tables = s.tables := rfl
@[simp] theorem State.setLantern_sconces (n : Nat) (x : Lantern) : (s.setLantern n x).sconces = s.sconces := rfl
@[simp] theorem State.setLantern_sliceBusy (n : Nat) (x : Lantern) : (s.setLantern n x).sliceBusy = s.sliceBusy := rfl
@[simp] theorem State.setLantern_streams (n : Nat) (x : Lantern) : (s.setLantern n x).streams = s.streams := rfl
@[simp] theorem State.setLantern_aux (n : Nat) (x : Lantern) : (s.setLantern n x).aux = s.aux := rfl
@[simp] theorem State.setLantern_auxWait (n : Nat) (x : Lantern) : (s.setLantern n x).auxWait = s.auxWait := rfl
@[simp] theorem State.setLantern_tb (n : Nat) (x : Lantern) : (s.setLantern n x).tb = s.tb := rfl
@[simp] theorem State.setLantern_encoders (n : Nat) (x : Lantern) : (s.setLantern n x).encoders = s.encoders := rfl
@[simp] theorem State.setLantern_seqs (n : Nat) (x : Lantern) : (s.setLantern n x).seqs = s.seqs := rfl
@[simp] theorem State.setLantern_targets (n : Nat) (x : Lantern) : (s.setLantern n x).targets = s.targets := rfl
@[simp] theorem State.setLantern_gio (n : Nat) (x : Lantern) : (s.setLantern n x).gio = s.gio := rfl
@[simp] theorem State.setLantern_map (n : Nat) (x : Lantern) : (s.setLantern n x).map = s.map := rfl
@[simp] theorem State.setLantern_lanterns (n : Nat) (x : Lantern) : (s.setLantern n x).lanterns = tabPut s.lanterns n x := rfl
@[simp] theorem State.setLantern_channels (n : Nat) (x : Lantern) : (s.setLantern n x).channels = s.channels := rfl
@[simp] theorem State.setLantern_flights (n : Nat) (x : Lantern) : (s.setLantern n x).flights = s.flights := rfl
@[simp] theorem State.setLantern_groups (n : Nat) (x : Lantern) : (s.setLantern n x).groups = s.groups := rfl
@[simp] theorem State.setLantern_health (n : Nat) (x : Lantern) : (s.setLantern n x).health = s.health := rfl
@[simp] theorem State.setLantern_healthNv (n : Nat) (x : Lantern) : (s.setLantern n x).healthNv = s.healthNv := rfl
@[simp] theorem State.setLantern_healthAt (n : Nat) (x : Lantern) : (s.setLantern n x).healthAt = s.healthAt := rfl
@[simp] theorem State.setLantern_plans (n : Nat) (x : Lantern) : (s.setLantern n x).plans = s.plans := rfl
@[simp] theorem State.setLantern_takeOvers (n : Nat) (x : Lantern) : (s.setLantern n x).takeOvers = s.takeOvers := rfl
@[simp] theorem State.setLantern_sup (n : Nat) (x : Lantern) : (s.setLantern n x).sup = s.sup := rfl
@[simp] theorem State.setLantern_guards (n : Nat) (x : Lantern) : (s.setLantern n x).guards = s.guards := rfl
@[simp] theorem State.setLantern_patrol (n : Nat) (x : Lantern) : (s.setLantern n x).patrol = s.patrol := rfl
@[simp] theorem State.setLantern_dark (n : Nat) (x : Lantern) : (s.setLantern n x).dark = s.dark := rfl
@[simp] theorem State.setLantern_windows (n : Nat) (x : Lantern) : (s.setLantern n x).windows = s.windows := rfl
@[simp] theorem State.setLantern_fatal (n : Nat) (x : Lantern) : (s.setLantern n x).fatal = s.fatal := rfl
@[simp] theorem State.setLantern_jn (n : Nat) (x : Lantern) : (s.setLantern n x).jn = s.jn := rfl
@[simp] theorem State.setLantern_recorder (n : Nat) (x : Lantern) : (s.setLantern n x).recorder = s.recorder := rfl
@[simp] theorem State.setLantern_session (n : Nat) (x : Lantern) : (s.setLantern n x).session = s.session := rfl
@[simp] theorem State.setLantern_mg (n : Nat) (x : Lantern) : (s.setLantern n x).mg = s.mg := rfl
@[simp] theorem State.setLantern_supply (n : Nat) (x : Lantern) : (s.setLantern n x).supply = s.supply := rfl
@[simp] theorem State.setLantern_tap (n : Nat) (x : Lantern) : (s.setLantern n x).tap = s.tap := rfl
@[simp] theorem State.setLantern_tests (n : Nat) (x : Lantern) : (s.setLantern n x).tests = s.tests := rfl

/-! ### setAux -/

@[simp] theorem State.setAux_pending (n : Nat) (x : AuxMover) : (s.setAux n x).pending = s.pending := rfl
@[simp] theorem State.setAux_out (n : Nat) (x : AuxMover) : (s.setAux n x).out = s.out := rfl
@[simp] theorem State.setAux_ticks (n : Nat) (x : AuxMover) : (s.setAux n x).ticks = s.ticks := rfl
@[simp] theorem State.setAux_time (n : Nat) (x : AuxMover) : (s.setAux n x).time = s.time := rfl
@[simp] theorem State.setAux_rateAdj (n : Nat) (x : AuxMover) : (s.setAux n x).rateAdj = s.rateAdj := rfl
@[simp] theorem State.setAux_fresh (n : Nat) (x : AuxMover) : (s.setAux n x).fresh = s.fresh := rfl
@[simp] theorem State.setAux_mode (n : Nat) (x : AuxMover) : (s.setAux n x).mode = s.mode := rfl
@[simp] theorem State.setAux_claim (n : Nat) (x : AuxMover) : (s.setAux n x).claim = s.claim := rfl
@[simp] theorem State.setAux_claimLast (n : Nat) (x : AuxMover) : (s.setAux n x).claimLast = s.claimLast := rfl
@[simp] theorem State.setAux_start (n : Nat) (x : AuxMover) : (s.setAux n x).start = s.start := rfl
@[simp] theorem State.setAux_seq (n : Nat) (x : AuxMover) : (s.setAux n x).seq = s.seq := rfl
@[simp] theorem State.setAux_ports (n : Nat) (x : AuxMover) : (s.setAux n x).ports = s.ports := rfl
@[simp] theorem State.setAux_lanes (n : Nat) (x : AuxMover) : (s.setAux n x).lanes = s.lanes := rfl
@[simp] theorem State.setAux_tables (n : Nat) (x : AuxMover) : (s.setAux n x).tables = s.tables := rfl
@[simp] theorem State.setAux_sconces (n : Nat) (x : AuxMover) : (s.setAux n x).sconces = s.sconces := rfl
@[simp] theorem State.setAux_sliceBusy (n : Nat) (x : AuxMover) : (s.setAux n x).sliceBusy = s.sliceBusy := rfl
@[simp] theorem State.setAux_streams (n : Nat) (x : AuxMover) : (s.setAux n x).streams = s.streams := rfl
@[simp] theorem State.setAux_aux (n : Nat) (x : AuxMover) : (s.setAux n x).aux = tabPut s.aux n x := rfl
@[simp] theorem State.setAux_auxWait (n : Nat) (x : AuxMover) : (s.setAux n x).auxWait = s.auxWait := rfl
@[simp] theorem State.setAux_tb (n : Nat) (x : AuxMover) : (s.setAux n x).tb = s.tb := rfl
@[simp] theorem State.setAux_encoders (n : Nat) (x : AuxMover) : (s.setAux n x).encoders = s.encoders := rfl
@[simp] theorem State.setAux_seqs (n : Nat) (x : AuxMover) : (s.setAux n x).seqs = s.seqs := rfl
@[simp] theorem State.setAux_targets (n : Nat) (x : AuxMover) : (s.setAux n x).targets = s.targets := rfl
@[simp] theorem State.setAux_gio (n : Nat) (x : AuxMover) : (s.setAux n x).gio = s.gio := rfl
@[simp] theorem State.setAux_map (n : Nat) (x : AuxMover) : (s.setAux n x).map = s.map := rfl
@[simp] theorem State.setAux_lanterns (n : Nat) (x : AuxMover) : (s.setAux n x).lanterns = s.lanterns := rfl
@[simp] theorem State.setAux_channels (n : Nat) (x : AuxMover) : (s.setAux n x).channels = s.channels := rfl
@[simp] theorem State.setAux_flights (n : Nat) (x : AuxMover) : (s.setAux n x).flights = s.flights := rfl
@[simp] theorem State.setAux_groups (n : Nat) (x : AuxMover) : (s.setAux n x).groups = s.groups := rfl
@[simp] theorem State.setAux_health (n : Nat) (x : AuxMover) : (s.setAux n x).health = s.health := rfl
@[simp] theorem State.setAux_healthNv (n : Nat) (x : AuxMover) : (s.setAux n x).healthNv = s.healthNv := rfl
@[simp] theorem State.setAux_healthAt (n : Nat) (x : AuxMover) : (s.setAux n x).healthAt = s.healthAt := rfl
@[simp] theorem State.setAux_plans (n : Nat) (x : AuxMover) : (s.setAux n x).plans = s.plans := rfl
@[simp] theorem State.setAux_takeOvers (n : Nat) (x : AuxMover) : (s.setAux n x).takeOvers = s.takeOvers := rfl
@[simp] theorem State.setAux_sup (n : Nat) (x : AuxMover) : (s.setAux n x).sup = s.sup := rfl
@[simp] theorem State.setAux_guards (n : Nat) (x : AuxMover) : (s.setAux n x).guards = s.guards := rfl
@[simp] theorem State.setAux_patrol (n : Nat) (x : AuxMover) : (s.setAux n x).patrol = s.patrol := rfl
@[simp] theorem State.setAux_dark (n : Nat) (x : AuxMover) : (s.setAux n x).dark = s.dark := rfl
@[simp] theorem State.setAux_windows (n : Nat) (x : AuxMover) : (s.setAux n x).windows = s.windows := rfl
@[simp] theorem State.setAux_fatal (n : Nat) (x : AuxMover) : (s.setAux n x).fatal = s.fatal := rfl
@[simp] theorem State.setAux_jn (n : Nat) (x : AuxMover) : (s.setAux n x).jn = s.jn := rfl
@[simp] theorem State.setAux_recorder (n : Nat) (x : AuxMover) : (s.setAux n x).recorder = s.recorder := rfl
@[simp] theorem State.setAux_session (n : Nat) (x : AuxMover) : (s.setAux n x).session = s.session := rfl
@[simp] theorem State.setAux_mg (n : Nat) (x : AuxMover) : (s.setAux n x).mg = s.mg := rfl
@[simp] theorem State.setAux_supply (n : Nat) (x : AuxMover) : (s.setAux n x).supply = s.supply := rfl
@[simp] theorem State.setAux_tap (n : Nat) (x : AuxMover) : (s.setAux n x).tap = s.tap := rfl
@[simp] theorem State.setAux_tests (n : Nat) (x : AuxMover) : (s.setAux n x).tests = s.tests := rfl

/-! ### setGroup -/

@[simp] theorem State.setGroup_pending (g : Nat) (x : Group) : (s.setGroup g x).pending = s.pending := rfl
@[simp] theorem State.setGroup_out (g : Nat) (x : Group) : (s.setGroup g x).out = s.out := rfl
@[simp] theorem State.setGroup_ticks (g : Nat) (x : Group) : (s.setGroup g x).ticks = s.ticks := rfl
@[simp] theorem State.setGroup_time (g : Nat) (x : Group) : (s.setGroup g x).time = s.time := rfl
@[simp] theorem State.setGroup_rateAdj (g : Nat) (x : Group) : (s.setGroup g x).rateAdj = s.rateAdj := rfl
@[simp] theorem State.setGroup_fresh (g : Nat) (x : Group) : (s.setGroup g x).fresh = s.fresh := rfl
@[simp] theorem State.setGroup_mode (g : Nat) (x : Group) : (s.setGroup g x).mode = s.mode := rfl
@[simp] theorem State.setGroup_claim (g : Nat) (x : Group) : (s.setGroup g x).claim = s.claim := rfl
@[simp] theorem State.setGroup_claimLast (g : Nat) (x : Group) : (s.setGroup g x).claimLast = s.claimLast := rfl
@[simp] theorem State.setGroup_start (g : Nat) (x : Group) : (s.setGroup g x).start = s.start := rfl
@[simp] theorem State.setGroup_seq (g : Nat) (x : Group) : (s.setGroup g x).seq = s.seq := rfl
@[simp] theorem State.setGroup_ports (g : Nat) (x : Group) : (s.setGroup g x).ports = s.ports := rfl
@[simp] theorem State.setGroup_lanes (g : Nat) (x : Group) : (s.setGroup g x).lanes = s.lanes := rfl
@[simp] theorem State.setGroup_tables (g : Nat) (x : Group) : (s.setGroup g x).tables = s.tables := rfl
@[simp] theorem State.setGroup_sconces (g : Nat) (x : Group) : (s.setGroup g x).sconces = s.sconces := rfl
@[simp] theorem State.setGroup_sliceBusy (g : Nat) (x : Group) : (s.setGroup g x).sliceBusy = s.sliceBusy := rfl
@[simp] theorem State.setGroup_streams (g : Nat) (x : Group) : (s.setGroup g x).streams = s.streams := rfl
@[simp] theorem State.setGroup_aux (g : Nat) (x : Group) : (s.setGroup g x).aux = s.aux := rfl
@[simp] theorem State.setGroup_auxWait (g : Nat) (x : Group) : (s.setGroup g x).auxWait = s.auxWait := rfl
@[simp] theorem State.setGroup_tb (g : Nat) (x : Group) : (s.setGroup g x).tb = s.tb := rfl
@[simp] theorem State.setGroup_encoders (g : Nat) (x : Group) : (s.setGroup g x).encoders = s.encoders := rfl
@[simp] theorem State.setGroup_seqs (g : Nat) (x : Group) : (s.setGroup g x).seqs = s.seqs := rfl
@[simp] theorem State.setGroup_targets (g : Nat) (x : Group) : (s.setGroup g x).targets = s.targets := rfl
@[simp] theorem State.setGroup_gio (g : Nat) (x : Group) : (s.setGroup g x).gio = s.gio := rfl
@[simp] theorem State.setGroup_map (g : Nat) (x : Group) : (s.setGroup g x).map = s.map := rfl
@[simp] theorem State.setGroup_lanterns (g : Nat) (x : Group) : (s.setGroup g x).lanterns = s.lanterns := rfl
@[simp] theorem State.setGroup_channels (g : Nat) (x : Group) : (s.setGroup g x).channels = s.channels := rfl
@[simp] theorem State.setGroup_flights (g : Nat) (x : Group) : (s.setGroup g x).flights = s.flights := rfl
@[simp] theorem State.setGroup_groups (g : Nat) (x : Group) : (s.setGroup g x).groups = tabPut s.groups g x := rfl
@[simp] theorem State.setGroup_health (g : Nat) (x : Group) : (s.setGroup g x).health = s.health := rfl
@[simp] theorem State.setGroup_healthNv (g : Nat) (x : Group) : (s.setGroup g x).healthNv = s.healthNv := rfl
@[simp] theorem State.setGroup_healthAt (g : Nat) (x : Group) : (s.setGroup g x).healthAt = s.healthAt := rfl
@[simp] theorem State.setGroup_plans (g : Nat) (x : Group) : (s.setGroup g x).plans = s.plans := rfl
@[simp] theorem State.setGroup_takeOvers (g : Nat) (x : Group) : (s.setGroup g x).takeOvers = s.takeOvers := rfl
@[simp] theorem State.setGroup_sup (g : Nat) (x : Group) : (s.setGroup g x).sup = s.sup := rfl
@[simp] theorem State.setGroup_guards (g : Nat) (x : Group) : (s.setGroup g x).guards = s.guards := rfl
@[simp] theorem State.setGroup_patrol (g : Nat) (x : Group) : (s.setGroup g x).patrol = s.patrol := rfl
@[simp] theorem State.setGroup_dark (g : Nat) (x : Group) : (s.setGroup g x).dark = s.dark := rfl
@[simp] theorem State.setGroup_windows (g : Nat) (x : Group) : (s.setGroup g x).windows = s.windows := rfl
@[simp] theorem State.setGroup_fatal (g : Nat) (x : Group) : (s.setGroup g x).fatal = s.fatal := rfl
@[simp] theorem State.setGroup_jn (g : Nat) (x : Group) : (s.setGroup g x).jn = s.jn := rfl
@[simp] theorem State.setGroup_recorder (g : Nat) (x : Group) : (s.setGroup g x).recorder = s.recorder := rfl
@[simp] theorem State.setGroup_session (g : Nat) (x : Group) : (s.setGroup g x).session = s.session := rfl
@[simp] theorem State.setGroup_mg (g : Nat) (x : Group) : (s.setGroup g x).mg = s.mg := rfl
@[simp] theorem State.setGroup_supply (g : Nat) (x : Group) : (s.setGroup g x).supply = s.supply := rfl
@[simp] theorem State.setGroup_tap (g : Nat) (x : Group) : (s.setGroup g x).tap = s.tap := rfl
@[simp] theorem State.setGroup_tests (g : Nat) (x : Group) : (s.setGroup g x).tests = s.tests := rfl

/-! ### setChannel -/

@[simp] theorem State.setChannel_pending (n : Nat) (x : Channel) : (s.setChannel n x).pending = s.pending := rfl
@[simp] theorem State.setChannel_out (n : Nat) (x : Channel) : (s.setChannel n x).out = s.out := rfl
@[simp] theorem State.setChannel_ticks (n : Nat) (x : Channel) : (s.setChannel n x).ticks = s.ticks := rfl
@[simp] theorem State.setChannel_time (n : Nat) (x : Channel) : (s.setChannel n x).time = s.time := rfl
@[simp] theorem State.setChannel_rateAdj (n : Nat) (x : Channel) : (s.setChannel n x).rateAdj = s.rateAdj := rfl
@[simp] theorem State.setChannel_fresh (n : Nat) (x : Channel) : (s.setChannel n x).fresh = s.fresh := rfl
@[simp] theorem State.setChannel_mode (n : Nat) (x : Channel) : (s.setChannel n x).mode = s.mode := rfl
@[simp] theorem State.setChannel_claim (n : Nat) (x : Channel) : (s.setChannel n x).claim = s.claim := rfl
@[simp] theorem State.setChannel_claimLast (n : Nat) (x : Channel) : (s.setChannel n x).claimLast = s.claimLast := rfl
@[simp] theorem State.setChannel_start (n : Nat) (x : Channel) : (s.setChannel n x).start = s.start := rfl
@[simp] theorem State.setChannel_seq (n : Nat) (x : Channel) : (s.setChannel n x).seq = s.seq := rfl
@[simp] theorem State.setChannel_ports (n : Nat) (x : Channel) : (s.setChannel n x).ports = s.ports := rfl
@[simp] theorem State.setChannel_lanes (n : Nat) (x : Channel) : (s.setChannel n x).lanes = s.lanes := rfl
@[simp] theorem State.setChannel_tables (n : Nat) (x : Channel) : (s.setChannel n x).tables = s.tables := rfl
@[simp] theorem State.setChannel_sconces (n : Nat) (x : Channel) : (s.setChannel n x).sconces = s.sconces := rfl
@[simp] theorem State.setChannel_sliceBusy (n : Nat) (x : Channel) : (s.setChannel n x).sliceBusy = s.sliceBusy := rfl
@[simp] theorem State.setChannel_streams (n : Nat) (x : Channel) : (s.setChannel n x).streams = s.streams := rfl
@[simp] theorem State.setChannel_aux (n : Nat) (x : Channel) : (s.setChannel n x).aux = s.aux := rfl
@[simp] theorem State.setChannel_auxWait (n : Nat) (x : Channel) : (s.setChannel n x).auxWait = s.auxWait := rfl
@[simp] theorem State.setChannel_tb (n : Nat) (x : Channel) : (s.setChannel n x).tb = s.tb := rfl
@[simp] theorem State.setChannel_encoders (n : Nat) (x : Channel) : (s.setChannel n x).encoders = s.encoders := rfl
@[simp] theorem State.setChannel_seqs (n : Nat) (x : Channel) : (s.setChannel n x).seqs = s.seqs := rfl
@[simp] theorem State.setChannel_targets (n : Nat) (x : Channel) : (s.setChannel n x).targets = s.targets := rfl
@[simp] theorem State.setChannel_gio (n : Nat) (x : Channel) : (s.setChannel n x).gio = s.gio := rfl
@[simp] theorem State.setChannel_map (n : Nat) (x : Channel) : (s.setChannel n x).map = s.map := rfl
@[simp] theorem State.setChannel_lanterns (n : Nat) (x : Channel) : (s.setChannel n x).lanterns = s.lanterns := rfl
@[simp] theorem State.setChannel_channels (n : Nat) (x : Channel) : (s.setChannel n x).channels = tabPut s.channels n x := rfl
@[simp] theorem State.setChannel_flights (n : Nat) (x : Channel) : (s.setChannel n x).flights = s.flights := rfl
@[simp] theorem State.setChannel_groups (n : Nat) (x : Channel) : (s.setChannel n x).groups = s.groups := rfl
@[simp] theorem State.setChannel_health (n : Nat) (x : Channel) : (s.setChannel n x).health = s.health := rfl
@[simp] theorem State.setChannel_healthNv (n : Nat) (x : Channel) : (s.setChannel n x).healthNv = s.healthNv := rfl
@[simp] theorem State.setChannel_healthAt (n : Nat) (x : Channel) : (s.setChannel n x).healthAt = s.healthAt := rfl
@[simp] theorem State.setChannel_plans (n : Nat) (x : Channel) : (s.setChannel n x).plans = s.plans := rfl
@[simp] theorem State.setChannel_takeOvers (n : Nat) (x : Channel) : (s.setChannel n x).takeOvers = s.takeOvers := rfl
@[simp] theorem State.setChannel_sup (n : Nat) (x : Channel) : (s.setChannel n x).sup = s.sup := rfl
@[simp] theorem State.setChannel_guards (n : Nat) (x : Channel) : (s.setChannel n x).guards = s.guards := rfl
@[simp] theorem State.setChannel_patrol (n : Nat) (x : Channel) : (s.setChannel n x).patrol = s.patrol := rfl
@[simp] theorem State.setChannel_dark (n : Nat) (x : Channel) : (s.setChannel n x).dark = s.dark := rfl
@[simp] theorem State.setChannel_windows (n : Nat) (x : Channel) : (s.setChannel n x).windows = s.windows := rfl
@[simp] theorem State.setChannel_fatal (n : Nat) (x : Channel) : (s.setChannel n x).fatal = s.fatal := rfl
@[simp] theorem State.setChannel_jn (n : Nat) (x : Channel) : (s.setChannel n x).jn = s.jn := rfl
@[simp] theorem State.setChannel_recorder (n : Nat) (x : Channel) : (s.setChannel n x).recorder = s.recorder := rfl
@[simp] theorem State.setChannel_session (n : Nat) (x : Channel) : (s.setChannel n x).session = s.session := rfl
@[simp] theorem State.setChannel_mg (n : Nat) (x : Channel) : (s.setChannel n x).mg = s.mg := rfl
@[simp] theorem State.setChannel_supply (n : Nat) (x : Channel) : (s.setChannel n x).supply = s.supply := rfl
@[simp] theorem State.setChannel_tap (n : Nat) (x : Channel) : (s.setChannel n x).tap = s.tap := rfl
@[simp] theorem State.setChannel_tests (n : Nat) (x : Channel) : (s.setChannel n x).tests = s.tests := rfl

/-! ### setEnc -/

@[simp] theorem State.setEnc_pending (e : Nat) (x : Encoder) : (s.setEnc e x).pending = s.pending := rfl
@[simp] theorem State.setEnc_out (e : Nat) (x : Encoder) : (s.setEnc e x).out = s.out := rfl
@[simp] theorem State.setEnc_ticks (e : Nat) (x : Encoder) : (s.setEnc e x).ticks = s.ticks := rfl
@[simp] theorem State.setEnc_time (e : Nat) (x : Encoder) : (s.setEnc e x).time = s.time := rfl
@[simp] theorem State.setEnc_rateAdj (e : Nat) (x : Encoder) : (s.setEnc e x).rateAdj = s.rateAdj := rfl
@[simp] theorem State.setEnc_fresh (e : Nat) (x : Encoder) : (s.setEnc e x).fresh = s.fresh := rfl
@[simp] theorem State.setEnc_mode (e : Nat) (x : Encoder) : (s.setEnc e x).mode = s.mode := rfl
@[simp] theorem State.setEnc_claim (e : Nat) (x : Encoder) : (s.setEnc e x).claim = s.claim := rfl
@[simp] theorem State.setEnc_claimLast (e : Nat) (x : Encoder) : (s.setEnc e x).claimLast = s.claimLast := rfl
@[simp] theorem State.setEnc_start (e : Nat) (x : Encoder) : (s.setEnc e x).start = s.start := rfl
@[simp] theorem State.setEnc_seq (e : Nat) (x : Encoder) : (s.setEnc e x).seq = s.seq := rfl
@[simp] theorem State.setEnc_ports (e : Nat) (x : Encoder) : (s.setEnc e x).ports = s.ports := rfl
@[simp] theorem State.setEnc_lanes (e : Nat) (x : Encoder) : (s.setEnc e x).lanes = s.lanes := rfl
@[simp] theorem State.setEnc_tables (e : Nat) (x : Encoder) : (s.setEnc e x).tables = s.tables := rfl
@[simp] theorem State.setEnc_sconces (e : Nat) (x : Encoder) : (s.setEnc e x).sconces = s.sconces := rfl
@[simp] theorem State.setEnc_sliceBusy (e : Nat) (x : Encoder) : (s.setEnc e x).sliceBusy = s.sliceBusy := rfl
@[simp] theorem State.setEnc_streams (e : Nat) (x : Encoder) : (s.setEnc e x).streams = s.streams := rfl
@[simp] theorem State.setEnc_aux (e : Nat) (x : Encoder) : (s.setEnc e x).aux = s.aux := rfl
@[simp] theorem State.setEnc_auxWait (e : Nat) (x : Encoder) : (s.setEnc e x).auxWait = s.auxWait := rfl
@[simp] theorem State.setEnc_tb (e : Nat) (x : Encoder) : (s.setEnc e x).tb = s.tb := rfl
@[simp] theorem State.setEnc_encoders (e : Nat) (x : Encoder) : (s.setEnc e x).encoders = tabPut s.encoders e x := rfl
@[simp] theorem State.setEnc_seqs (e : Nat) (x : Encoder) : (s.setEnc e x).seqs = s.seqs := rfl
@[simp] theorem State.setEnc_targets (e : Nat) (x : Encoder) : (s.setEnc e x).targets = s.targets := rfl
@[simp] theorem State.setEnc_gio (e : Nat) (x : Encoder) : (s.setEnc e x).gio = s.gio := rfl
@[simp] theorem State.setEnc_map (e : Nat) (x : Encoder) : (s.setEnc e x).map = s.map := rfl
@[simp] theorem State.setEnc_lanterns (e : Nat) (x : Encoder) : (s.setEnc e x).lanterns = s.lanterns := rfl
@[simp] theorem State.setEnc_channels (e : Nat) (x : Encoder) : (s.setEnc e x).channels = s.channels := rfl
@[simp] theorem State.setEnc_flights (e : Nat) (x : Encoder) : (s.setEnc e x).flights = s.flights := rfl
@[simp] theorem State.setEnc_groups (e : Nat) (x : Encoder) : (s.setEnc e x).groups = s.groups := rfl
@[simp] theorem State.setEnc_health (e : Nat) (x : Encoder) : (s.setEnc e x).health = s.health := rfl
@[simp] theorem State.setEnc_healthNv (e : Nat) (x : Encoder) : (s.setEnc e x).healthNv = s.healthNv := rfl
@[simp] theorem State.setEnc_healthAt (e : Nat) (x : Encoder) : (s.setEnc e x).healthAt = s.healthAt := rfl
@[simp] theorem State.setEnc_plans (e : Nat) (x : Encoder) : (s.setEnc e x).plans = s.plans := rfl
@[simp] theorem State.setEnc_takeOvers (e : Nat) (x : Encoder) : (s.setEnc e x).takeOvers = s.takeOvers := rfl
@[simp] theorem State.setEnc_sup (e : Nat) (x : Encoder) : (s.setEnc e x).sup = s.sup := rfl
@[simp] theorem State.setEnc_guards (e : Nat) (x : Encoder) : (s.setEnc e x).guards = s.guards := rfl
@[simp] theorem State.setEnc_patrol (e : Nat) (x : Encoder) : (s.setEnc e x).patrol = s.patrol := rfl
@[simp] theorem State.setEnc_dark (e : Nat) (x : Encoder) : (s.setEnc e x).dark = s.dark := rfl
@[simp] theorem State.setEnc_windows (e : Nat) (x : Encoder) : (s.setEnc e x).windows = s.windows := rfl
@[simp] theorem State.setEnc_fatal (e : Nat) (x : Encoder) : (s.setEnc e x).fatal = s.fatal := rfl
@[simp] theorem State.setEnc_jn (e : Nat) (x : Encoder) : (s.setEnc e x).jn = s.jn := rfl
@[simp] theorem State.setEnc_recorder (e : Nat) (x : Encoder) : (s.setEnc e x).recorder = s.recorder := rfl
@[simp] theorem State.setEnc_session (e : Nat) (x : Encoder) : (s.setEnc e x).session = s.session := rfl
@[simp] theorem State.setEnc_mg (e : Nat) (x : Encoder) : (s.setEnc e x).mg = s.mg := rfl
@[simp] theorem State.setEnc_supply (e : Nat) (x : Encoder) : (s.setEnc e x).supply = s.supply := rfl
@[simp] theorem State.setEnc_tap (e : Nat) (x : Encoder) : (s.setEnc e x).tap = s.tap := rfl
@[simp] theorem State.setEnc_tests (e : Nat) (x : Encoder) : (s.setEnc e x).tests = s.tests := rfl

/-! ### setSeq -/

@[simp] theorem State.setSeq_pending (q : Nat) (x : Sequencer) : (s.setSeq q x).pending = s.pending := rfl
@[simp] theorem State.setSeq_out (q : Nat) (x : Sequencer) : (s.setSeq q x).out = s.out := rfl
@[simp] theorem State.setSeq_ticks (q : Nat) (x : Sequencer) : (s.setSeq q x).ticks = s.ticks := rfl
@[simp] theorem State.setSeq_time (q : Nat) (x : Sequencer) : (s.setSeq q x).time = s.time := rfl
@[simp] theorem State.setSeq_rateAdj (q : Nat) (x : Sequencer) : (s.setSeq q x).rateAdj = s.rateAdj := rfl
@[simp] theorem State.setSeq_fresh (q : Nat) (x : Sequencer) : (s.setSeq q x).fresh = s.fresh := rfl
@[simp] theorem State.setSeq_mode (q : Nat) (x : Sequencer) : (s.setSeq q x).mode = s.mode := rfl
@[simp] theorem State.setSeq_claim (q : Nat) (x : Sequencer) : (s.setSeq q x).claim = s.claim := rfl
@[simp] theorem State.setSeq_claimLast (q : Nat) (x : Sequencer) : (s.setSeq q x).claimLast = s.claimLast := rfl
@[simp] theorem State.setSeq_start (q : Nat) (x : Sequencer) : (s.setSeq q x).start = s.start := rfl
@[simp] theorem State.setSeq_seq (q : Nat) (x : Sequencer) : (s.setSeq q x).seq = s.seq := rfl
@[simp] theorem State.setSeq_ports (q : Nat) (x : Sequencer) : (s.setSeq q x).ports = s.ports := rfl
@[simp] theorem State.setSeq_lanes (q : Nat) (x : Sequencer) : (s.setSeq q x).lanes = s.lanes := rfl
@[simp] theorem State.setSeq_tables (q : Nat) (x : Sequencer) : (s.setSeq q x).tables = s.tables := rfl
@[simp] theorem State.setSeq_sconces (q : Nat) (x : Sequencer) : (s.setSeq q x).sconces = s.sconces := rfl
@[simp] theorem State.setSeq_sliceBusy (q : Nat) (x : Sequencer) : (s.setSeq q x).sliceBusy = s.sliceBusy := rfl
@[simp] theorem State.setSeq_streams (q : Nat) (x : Sequencer) : (s.setSeq q x).streams = s.streams := rfl
@[simp] theorem State.setSeq_aux (q : Nat) (x : Sequencer) : (s.setSeq q x).aux = s.aux := rfl
@[simp] theorem State.setSeq_auxWait (q : Nat) (x : Sequencer) : (s.setSeq q x).auxWait = s.auxWait := rfl
@[simp] theorem State.setSeq_tb (q : Nat) (x : Sequencer) : (s.setSeq q x).tb = s.tb := rfl
@[simp] theorem State.setSeq_encoders (q : Nat) (x : Sequencer) : (s.setSeq q x).encoders = s.encoders := rfl
@[simp] theorem State.setSeq_seqs (q : Nat) (x : Sequencer) : (s.setSeq q x).seqs = tabPut s.seqs q x := rfl
@[simp] theorem State.setSeq_targets (q : Nat) (x : Sequencer) : (s.setSeq q x).targets = s.targets := rfl
@[simp] theorem State.setSeq_gio (q : Nat) (x : Sequencer) : (s.setSeq q x).gio = s.gio := rfl
@[simp] theorem State.setSeq_map (q : Nat) (x : Sequencer) : (s.setSeq q x).map = s.map := rfl
@[simp] theorem State.setSeq_lanterns (q : Nat) (x : Sequencer) : (s.setSeq q x).lanterns = s.lanterns := rfl
@[simp] theorem State.setSeq_channels (q : Nat) (x : Sequencer) : (s.setSeq q x).channels = s.channels := rfl
@[simp] theorem State.setSeq_flights (q : Nat) (x : Sequencer) : (s.setSeq q x).flights = s.flights := rfl
@[simp] theorem State.setSeq_groups (q : Nat) (x : Sequencer) : (s.setSeq q x).groups = s.groups := rfl
@[simp] theorem State.setSeq_health (q : Nat) (x : Sequencer) : (s.setSeq q x).health = s.health := rfl
@[simp] theorem State.setSeq_healthNv (q : Nat) (x : Sequencer) : (s.setSeq q x).healthNv = s.healthNv := rfl
@[simp] theorem State.setSeq_healthAt (q : Nat) (x : Sequencer) : (s.setSeq q x).healthAt = s.healthAt := rfl
@[simp] theorem State.setSeq_plans (q : Nat) (x : Sequencer) : (s.setSeq q x).plans = s.plans := rfl
@[simp] theorem State.setSeq_takeOvers (q : Nat) (x : Sequencer) : (s.setSeq q x).takeOvers = s.takeOvers := rfl
@[simp] theorem State.setSeq_sup (q : Nat) (x : Sequencer) : (s.setSeq q x).sup = s.sup := rfl
@[simp] theorem State.setSeq_guards (q : Nat) (x : Sequencer) : (s.setSeq q x).guards = s.guards := rfl
@[simp] theorem State.setSeq_patrol (q : Nat) (x : Sequencer) : (s.setSeq q x).patrol = s.patrol := rfl
@[simp] theorem State.setSeq_dark (q : Nat) (x : Sequencer) : (s.setSeq q x).dark = s.dark := rfl
@[simp] theorem State.setSeq_windows (q : Nat) (x : Sequencer) : (s.setSeq q x).windows = s.windows := rfl
@[simp] theorem State.setSeq_fatal (q : Nat) (x : Sequencer) : (s.setSeq q x).fatal = s.fatal := rfl
@[simp] theorem State.setSeq_jn (q : Nat) (x : Sequencer) : (s.setSeq q x).jn = s.jn := rfl
@[simp] theorem State.setSeq_recorder (q : Nat) (x : Sequencer) : (s.setSeq q x).recorder = s.recorder := rfl
@[simp] theorem State.setSeq_session (q : Nat) (x : Sequencer) : (s.setSeq q x).session = s.session := rfl
@[simp] theorem State.setSeq_mg (q : Nat) (x : Sequencer) : (s.setSeq q x).mg = s.mg := rfl
@[simp] theorem State.setSeq_supply (q : Nat) (x : Sequencer) : (s.setSeq q x).supply = s.supply := rfl
@[simp] theorem State.setSeq_tap (q : Nat) (x : Sequencer) : (s.setSeq q x).tap = s.tap := rfl
@[simp] theorem State.setSeq_tests (q : Nat) (x : Sequencer) : (s.setSeq q x).tests = s.tests := rfl

/-! ### setTarget -/

@[simp] theorem State.setTarget_pending (g : Nat) (x : Target) : (s.setTarget g x).pending = s.pending := rfl
@[simp] theorem State.setTarget_out (g : Nat) (x : Target) : (s.setTarget g x).out = s.out := rfl
@[simp] theorem State.setTarget_ticks (g : Nat) (x : Target) : (s.setTarget g x).ticks = s.ticks := rfl
@[simp] theorem State.setTarget_time (g : Nat) (x : Target) : (s.setTarget g x).time = s.time := rfl
@[simp] theorem State.setTarget_rateAdj (g : Nat) (x : Target) : (s.setTarget g x).rateAdj = s.rateAdj := rfl
@[simp] theorem State.setTarget_fresh (g : Nat) (x : Target) : (s.setTarget g x).fresh = s.fresh := rfl
@[simp] theorem State.setTarget_mode (g : Nat) (x : Target) : (s.setTarget g x).mode = s.mode := rfl
@[simp] theorem State.setTarget_claim (g : Nat) (x : Target) : (s.setTarget g x).claim = s.claim := rfl
@[simp] theorem State.setTarget_claimLast (g : Nat) (x : Target) : (s.setTarget g x).claimLast = s.claimLast := rfl
@[simp] theorem State.setTarget_start (g : Nat) (x : Target) : (s.setTarget g x).start = s.start := rfl
@[simp] theorem State.setTarget_seq (g : Nat) (x : Target) : (s.setTarget g x).seq = s.seq := rfl
@[simp] theorem State.setTarget_ports (g : Nat) (x : Target) : (s.setTarget g x).ports = s.ports := rfl
@[simp] theorem State.setTarget_lanes (g : Nat) (x : Target) : (s.setTarget g x).lanes = s.lanes := rfl
@[simp] theorem State.setTarget_tables (g : Nat) (x : Target) : (s.setTarget g x).tables = s.tables := rfl
@[simp] theorem State.setTarget_sconces (g : Nat) (x : Target) : (s.setTarget g x).sconces = s.sconces := rfl
@[simp] theorem State.setTarget_sliceBusy (g : Nat) (x : Target) : (s.setTarget g x).sliceBusy = s.sliceBusy := rfl
@[simp] theorem State.setTarget_streams (g : Nat) (x : Target) : (s.setTarget g x).streams = s.streams := rfl
@[simp] theorem State.setTarget_aux (g : Nat) (x : Target) : (s.setTarget g x).aux = s.aux := rfl
@[simp] theorem State.setTarget_auxWait (g : Nat) (x : Target) : (s.setTarget g x).auxWait = s.auxWait := rfl
@[simp] theorem State.setTarget_tb (g : Nat) (x : Target) : (s.setTarget g x).tb = s.tb := rfl
@[simp] theorem State.setTarget_encoders (g : Nat) (x : Target) : (s.setTarget g x).encoders = s.encoders := rfl
@[simp] theorem State.setTarget_seqs (g : Nat) (x : Target) : (s.setTarget g x).seqs = s.seqs := rfl
@[simp] theorem State.setTarget_targets (g : Nat) (x : Target) : (s.setTarget g x).targets = tabPut s.targets g x := rfl
@[simp] theorem State.setTarget_gio (g : Nat) (x : Target) : (s.setTarget g x).gio = s.gio := rfl
@[simp] theorem State.setTarget_map (g : Nat) (x : Target) : (s.setTarget g x).map = s.map := rfl
@[simp] theorem State.setTarget_lanterns (g : Nat) (x : Target) : (s.setTarget g x).lanterns = s.lanterns := rfl
@[simp] theorem State.setTarget_channels (g : Nat) (x : Target) : (s.setTarget g x).channels = s.channels := rfl
@[simp] theorem State.setTarget_flights (g : Nat) (x : Target) : (s.setTarget g x).flights = s.flights := rfl
@[simp] theorem State.setTarget_groups (g : Nat) (x : Target) : (s.setTarget g x).groups = s.groups := rfl
@[simp] theorem State.setTarget_health (g : Nat) (x : Target) : (s.setTarget g x).health = s.health := rfl
@[simp] theorem State.setTarget_healthNv (g : Nat) (x : Target) : (s.setTarget g x).healthNv = s.healthNv := rfl
@[simp] theorem State.setTarget_healthAt (g : Nat) (x : Target) : (s.setTarget g x).healthAt = s.healthAt := rfl
@[simp] theorem State.setTarget_plans (g : Nat) (x : Target) : (s.setTarget g x).plans = s.plans := rfl
@[simp] theorem State.setTarget_takeOvers (g : Nat) (x : Target) : (s.setTarget g x).takeOvers = s.takeOvers := rfl
@[simp] theorem State.setTarget_sup (g : Nat) (x : Target) : (s.setTarget g x).sup = s.sup := rfl
@[simp] theorem State.setTarget_guards (g : Nat) (x : Target) : (s.setTarget g x).guards = s.guards := rfl
@[simp] theorem State.setTarget_patrol (g : Nat) (x : Target) : (s.setTarget g x).patrol = s.patrol := rfl
@[simp] theorem State.setTarget_dark (g : Nat) (x : Target) : (s.setTarget g x).dark = s.dark := rfl
@[simp] theorem State.setTarget_windows (g : Nat) (x : Target) : (s.setTarget g x).windows = s.windows := rfl
@[simp] theorem State.setTarget_fatal (g : Nat) (x : Target) : (s.setTarget g x).fatal = s.fatal := rfl
@[simp] theorem State.setTarget_jn (g : Nat) (x : Target) : (s.setTarget g x).jn = s.jn := rfl
@[simp] theorem State.setTarget_recorder (g : Nat) (x : Target) : (s.setTarget g x).recorder = s.recorder := rfl
@[simp] theorem State.setTarget_session (g : Nat) (x : Target) : (s.setTarget g x).session = s.session := rfl
@[simp] theorem State.setTarget_mg (g : Nat) (x : Target) : (s.setTarget g x).mg = s.mg := rfl
@[simp] theorem State.setTarget_supply (g : Nat) (x : Target) : (s.setTarget g x).supply = s.supply := rfl
@[simp] theorem State.setTarget_tap (g : Nat) (x : Target) : (s.setTarget g x).tap = s.tap := rfl
@[simp] theorem State.setTarget_tests (g : Nat) (x : Target) : (s.setTarget g x).tests = s.tests := rfl

/-! ### setGio -/

@[simp] theorem State.setGio_pending (g : Nat) (x : Gio) : (s.setGio g x).pending = s.pending := rfl
@[simp] theorem State.setGio_out (g : Nat) (x : Gio) : (s.setGio g x).out = s.out := rfl
@[simp] theorem State.setGio_ticks (g : Nat) (x : Gio) : (s.setGio g x).ticks = s.ticks := rfl
@[simp] theorem State.setGio_time (g : Nat) (x : Gio) : (s.setGio g x).time = s.time := rfl
@[simp] theorem State.setGio_rateAdj (g : Nat) (x : Gio) : (s.setGio g x).rateAdj = s.rateAdj := rfl
@[simp] theorem State.setGio_fresh (g : Nat) (x : Gio) : (s.setGio g x).fresh = s.fresh := rfl
@[simp] theorem State.setGio_mode (g : Nat) (x : Gio) : (s.setGio g x).mode = s.mode := rfl
@[simp] theorem State.setGio_claim (g : Nat) (x : Gio) : (s.setGio g x).claim = s.claim := rfl
@[simp] theorem State.setGio_claimLast (g : Nat) (x : Gio) : (s.setGio g x).claimLast = s.claimLast := rfl
@[simp] theorem State.setGio_start (g : Nat) (x : Gio) : (s.setGio g x).start = s.start := rfl
@[simp] theorem State.setGio_seq (g : Nat) (x : Gio) : (s.setGio g x).seq = s.seq := rfl
@[simp] theorem State.setGio_ports (g : Nat) (x : Gio) : (s.setGio g x).ports = s.ports := rfl
@[simp] theorem State.setGio_lanes (g : Nat) (x : Gio) : (s.setGio g x).lanes = s.lanes := rfl
@[simp] theorem State.setGio_tables (g : Nat) (x : Gio) : (s.setGio g x).tables = s.tables := rfl
@[simp] theorem State.setGio_sconces (g : Nat) (x : Gio) : (s.setGio g x).sconces = s.sconces := rfl
@[simp] theorem State.setGio_sliceBusy (g : Nat) (x : Gio) : (s.setGio g x).sliceBusy = s.sliceBusy := rfl
@[simp] theorem State.setGio_streams (g : Nat) (x : Gio) : (s.setGio g x).streams = s.streams := rfl
@[simp] theorem State.setGio_aux (g : Nat) (x : Gio) : (s.setGio g x).aux = s.aux := rfl
@[simp] theorem State.setGio_auxWait (g : Nat) (x : Gio) : (s.setGio g x).auxWait = s.auxWait := rfl
@[simp] theorem State.setGio_tb (g : Nat) (x : Gio) : (s.setGio g x).tb = s.tb := rfl
@[simp] theorem State.setGio_encoders (g : Nat) (x : Gio) : (s.setGio g x).encoders = s.encoders := rfl
@[simp] theorem State.setGio_seqs (g : Nat) (x : Gio) : (s.setGio g x).seqs = s.seqs := rfl
@[simp] theorem State.setGio_targets (g : Nat) (x : Gio) : (s.setGio g x).targets = s.targets := rfl
@[simp] theorem State.setGio_gio (g : Nat) (x : Gio) : (s.setGio g x).gio = tabPut s.gio g x := rfl
@[simp] theorem State.setGio_map (g : Nat) (x : Gio) : (s.setGio g x).map = s.map := rfl
@[simp] theorem State.setGio_lanterns (g : Nat) (x : Gio) : (s.setGio g x).lanterns = s.lanterns := rfl
@[simp] theorem State.setGio_channels (g : Nat) (x : Gio) : (s.setGio g x).channels = s.channels := rfl
@[simp] theorem State.setGio_flights (g : Nat) (x : Gio) : (s.setGio g x).flights = s.flights := rfl
@[simp] theorem State.setGio_groups (g : Nat) (x : Gio) : (s.setGio g x).groups = s.groups := rfl
@[simp] theorem State.setGio_health (g : Nat) (x : Gio) : (s.setGio g x).health = s.health := rfl
@[simp] theorem State.setGio_healthNv (g : Nat) (x : Gio) : (s.setGio g x).healthNv = s.healthNv := rfl
@[simp] theorem State.setGio_healthAt (g : Nat) (x : Gio) : (s.setGio g x).healthAt = s.healthAt := rfl
@[simp] theorem State.setGio_plans (g : Nat) (x : Gio) : (s.setGio g x).plans = s.plans := rfl
@[simp] theorem State.setGio_takeOvers (g : Nat) (x : Gio) : (s.setGio g x).takeOvers = s.takeOvers := rfl
@[simp] theorem State.setGio_sup (g : Nat) (x : Gio) : (s.setGio g x).sup = s.sup := rfl
@[simp] theorem State.setGio_guards (g : Nat) (x : Gio) : (s.setGio g x).guards = s.guards := rfl
@[simp] theorem State.setGio_patrol (g : Nat) (x : Gio) : (s.setGio g x).patrol = s.patrol := rfl
@[simp] theorem State.setGio_dark (g : Nat) (x : Gio) : (s.setGio g x).dark = s.dark := rfl
@[simp] theorem State.setGio_windows (g : Nat) (x : Gio) : (s.setGio g x).windows = s.windows := rfl
@[simp] theorem State.setGio_fatal (g : Nat) (x : Gio) : (s.setGio g x).fatal = s.fatal := rfl
@[simp] theorem State.setGio_jn (g : Nat) (x : Gio) : (s.setGio g x).jn = s.jn := rfl
@[simp] theorem State.setGio_recorder (g : Nat) (x : Gio) : (s.setGio g x).recorder = s.recorder := rfl
@[simp] theorem State.setGio_session (g : Nat) (x : Gio) : (s.setGio g x).session = s.session := rfl
@[simp] theorem State.setGio_mg (g : Nat) (x : Gio) : (s.setGio g x).mg = s.mg := rfl
@[simp] theorem State.setGio_supply (g : Nat) (x : Gio) : (s.setGio g x).supply = s.supply := rfl
@[simp] theorem State.setGio_tap (g : Nat) (x : Gio) : (s.setGio g x).tap = s.tap := rfl
@[simp] theorem State.setGio_tests (g : Nat) (x : Gio) : (s.setGio g x).tests = s.tests := rfl

/-! ### setBus -/

@[simp] theorem State.setBus_pending (b : Nat) (x : CgBus) : (s.setBus b x).pending = s.pending := rfl
@[simp] theorem State.setBus_out (b : Nat) (x : CgBus) : (s.setBus b x).out = s.out := rfl
@[simp] theorem State.setBus_ticks (b : Nat) (x : CgBus) : (s.setBus b x).ticks = s.ticks := rfl
@[simp] theorem State.setBus_time (b : Nat) (x : CgBus) : (s.setBus b x).time = s.time := rfl
@[simp] theorem State.setBus_rateAdj (b : Nat) (x : CgBus) : (s.setBus b x).rateAdj = s.rateAdj := rfl
@[simp] theorem State.setBus_fresh (b : Nat) (x : CgBus) : (s.setBus b x).fresh = s.fresh := rfl
@[simp] theorem State.setBus_mode (b : Nat) (x : CgBus) : (s.setBus b x).mode = s.mode := rfl
@[simp] theorem State.setBus_claim (b : Nat) (x : CgBus) : (s.setBus b x).claim = s.claim := rfl
@[simp] theorem State.setBus_claimLast (b : Nat) (x : CgBus) : (s.setBus b x).claimLast = s.claimLast := rfl
@[simp] theorem State.setBus_start (b : Nat) (x : CgBus) : (s.setBus b x).start = s.start := rfl
@[simp] theorem State.setBus_seq (b : Nat) (x : CgBus) : (s.setBus b x).seq = s.seq := rfl
@[simp] theorem State.setBus_ports (b : Nat) (x : CgBus) : (s.setBus b x).ports = s.ports := rfl
@[simp] theorem State.setBus_lanes (b : Nat) (x : CgBus) : (s.setBus b x).lanes = s.lanes := rfl
@[simp] theorem State.setBus_tables (b : Nat) (x : CgBus) : (s.setBus b x).tables = s.tables := rfl
@[simp] theorem State.setBus_sconces (b : Nat) (x : CgBus) : (s.setBus b x).sconces = s.sconces := rfl
@[simp] theorem State.setBus_sliceBusy (b : Nat) (x : CgBus) : (s.setBus b x).sliceBusy = s.sliceBusy := rfl
@[simp] theorem State.setBus_streams (b : Nat) (x : CgBus) : (s.setBus b x).streams = s.streams := rfl
@[simp] theorem State.setBus_aux (b : Nat) (x : CgBus) : (s.setBus b x).aux = s.aux := rfl
@[simp] theorem State.setBus_auxWait (b : Nat) (x : CgBus) : (s.setBus b x).auxWait = s.auxWait := rfl
@[simp] theorem State.setBus_tb (b : Nat) (x : CgBus) : (s.setBus b x).tb = s.tb := rfl
@[simp] theorem State.setBus_encoders (b : Nat) (x : CgBus) : (s.setBus b x).encoders = s.encoders := rfl
@[simp] theorem State.setBus_seqs (b : Nat) (x : CgBus) : (s.setBus b x).seqs = s.seqs := rfl
@[simp] theorem State.setBus_targets (b : Nat) (x : CgBus) : (s.setBus b x).targets = s.targets := rfl
@[simp] theorem State.setBus_gio (b : Nat) (x : CgBus) : (s.setBus b x).gio = s.gio := rfl
@[simp] theorem State.setBus_map (b : Nat) (x : CgBus) : (s.setBus b x).map = s.map := rfl
@[simp] theorem State.setBus_lanterns (b : Nat) (x : CgBus) : (s.setBus b x).lanterns = s.lanterns := rfl
@[simp] theorem State.setBus_channels (b : Nat) (x : CgBus) : (s.setBus b x).channels = s.channels := rfl
@[simp] theorem State.setBus_flights (b : Nat) (x : CgBus) : (s.setBus b x).flights = s.flights := rfl
@[simp] theorem State.setBus_groups (b : Nat) (x : CgBus) : (s.setBus b x).groups = s.groups := rfl
@[simp] theorem State.setBus_health (b : Nat) (x : CgBus) : (s.setBus b x).health = s.health := rfl
@[simp] theorem State.setBus_healthNv (b : Nat) (x : CgBus) : (s.setBus b x).healthNv = s.healthNv := rfl
@[simp] theorem State.setBus_healthAt (b : Nat) (x : CgBus) : (s.setBus b x).healthAt = s.healthAt := rfl
@[simp] theorem State.setBus_plans (b : Nat) (x : CgBus) : (s.setBus b x).plans = s.plans := rfl
@[simp] theorem State.setBus_takeOvers (b : Nat) (x : CgBus) : (s.setBus b x).takeOvers = s.takeOvers := rfl
@[simp] theorem State.setBus_sup (b : Nat) (x : CgBus) : (s.setBus b x).sup = s.sup := rfl
@[simp] theorem State.setBus_guards (b : Nat) (x : CgBus) : (s.setBus b x).guards = s.guards := rfl
@[simp] theorem State.setBus_patrol (b : Nat) (x : CgBus) : (s.setBus b x).patrol = s.patrol := rfl
@[simp] theorem State.setBus_dark (b : Nat) (x : CgBus) : (s.setBus b x).dark = s.dark := rfl
@[simp] theorem State.setBus_windows (b : Nat) (x : CgBus) : (s.setBus b x).windows = s.windows := rfl
@[simp] theorem State.setBus_fatal (b : Nat) (x : CgBus) : (s.setBus b x).fatal = s.fatal := rfl
@[simp] theorem State.setBus_jn (b : Nat) (x : CgBus) : (s.setBus b x).jn = s.jn := rfl
@[simp] theorem State.setBus_recorder (b : Nat) (x : CgBus) : (s.setBus b x).recorder = s.recorder := rfl
@[simp] theorem State.setBus_session (b : Nat) (x : CgBus) : (s.setBus b x).session = s.session := rfl
@[simp] theorem State.setBus_mg (b : Nat) (x : CgBus) : (s.setBus b x).mg = { s.mg with buses := tabPut s.mg.buses b x } := rfl
@[simp] theorem State.setBus_supply (b : Nat) (x : CgBus) : (s.setBus b x).supply = s.supply := rfl
@[simp] theorem State.setBus_tap (b : Nat) (x : CgBus) : (s.setBus b x).tap = s.tap := rfl
@[simp] theorem State.setBus_tests (b : Nat) (x : CgBus) : (s.setBus b x).tests = s.tests := rfl

/-! ### setCapture -/

@[simp] theorem State.setCapture_pending (k : Nat) (c : Capture) : (s.setCapture k c).pending = s.pending := rfl
@[simp] theorem State.setCapture_out (k : Nat) (c : Capture) : (s.setCapture k c).out = s.out := rfl
@[simp] theorem State.setCapture_ticks (k : Nat) (c : Capture) : (s.setCapture k c).ticks = s.ticks := rfl
@[simp] theorem State.setCapture_time (k : Nat) (c : Capture) : (s.setCapture k c).time = s.time := rfl
@[simp] theorem State.setCapture_rateAdj (k : Nat) (c : Capture) : (s.setCapture k c).rateAdj = s.rateAdj := rfl
@[simp] theorem State.setCapture_fresh (k : Nat) (c : Capture) : (s.setCapture k c).fresh = s.fresh := rfl
@[simp] theorem State.setCapture_mode (k : Nat) (c : Capture) : (s.setCapture k c).mode = s.mode := rfl
@[simp] theorem State.setCapture_claim (k : Nat) (c : Capture) : (s.setCapture k c).claim = s.claim := rfl
@[simp] theorem State.setCapture_claimLast (k : Nat) (c : Capture) : (s.setCapture k c).claimLast = s.claimLast := rfl
@[simp] theorem State.setCapture_start (k : Nat) (c : Capture) : (s.setCapture k c).start = s.start := rfl
@[simp] theorem State.setCapture_seq (k : Nat) (c : Capture) : (s.setCapture k c).seq = s.seq := rfl
@[simp] theorem State.setCapture_ports (k : Nat) (c : Capture) : (s.setCapture k c).ports = s.ports := rfl
@[simp] theorem State.setCapture_lanes (k : Nat) (c : Capture) : (s.setCapture k c).lanes = s.lanes := rfl
@[simp] theorem State.setCapture_tables (k : Nat) (c : Capture) : (s.setCapture k c).tables = s.tables := rfl
@[simp] theorem State.setCapture_sconces (k : Nat) (c : Capture) : (s.setCapture k c).sconces = s.sconces := rfl
@[simp] theorem State.setCapture_sliceBusy (k : Nat) (c : Capture) : (s.setCapture k c).sliceBusy = s.sliceBusy := rfl
@[simp] theorem State.setCapture_streams (k : Nat) (c : Capture) : (s.setCapture k c).streams = s.streams := rfl
@[simp] theorem State.setCapture_aux (k : Nat) (c : Capture) : (s.setCapture k c).aux = s.aux := rfl
@[simp] theorem State.setCapture_auxWait (k : Nat) (c : Capture) : (s.setCapture k c).auxWait = s.auxWait := rfl
@[simp] theorem State.setCapture_tb (k : Nat) (c : Capture) : (s.setCapture k c).tb = s.tb := rfl
@[simp] theorem State.setCapture_encoders (k : Nat) (c : Capture) : (s.setCapture k c).encoders = s.encoders := rfl
@[simp] theorem State.setCapture_seqs (k : Nat) (c : Capture) : (s.setCapture k c).seqs = s.seqs := rfl
@[simp] theorem State.setCapture_targets (k : Nat) (c : Capture) : (s.setCapture k c).targets = s.targets := rfl
@[simp] theorem State.setCapture_gio (k : Nat) (c : Capture) : (s.setCapture k c).gio = s.gio := rfl
@[simp] theorem State.setCapture_map (k : Nat) (c : Capture) : (s.setCapture k c).map = s.map := rfl
@[simp] theorem State.setCapture_lanterns (k : Nat) (c : Capture) : (s.setCapture k c).lanterns = s.lanterns := rfl
@[simp] theorem State.setCapture_channels (k : Nat) (c : Capture) : (s.setCapture k c).channels = s.channels := rfl
@[simp] theorem State.setCapture_flights (k : Nat) (c : Capture) : (s.setCapture k c).flights = s.flights := rfl
@[simp] theorem State.setCapture_groups (k : Nat) (c : Capture) : (s.setCapture k c).groups = s.groups := rfl
@[simp] theorem State.setCapture_health (k : Nat) (c : Capture) : (s.setCapture k c).health = s.health := rfl
@[simp] theorem State.setCapture_healthNv (k : Nat) (c : Capture) : (s.setCapture k c).healthNv = s.healthNv := rfl
@[simp] theorem State.setCapture_healthAt (k : Nat) (c : Capture) : (s.setCapture k c).healthAt = s.healthAt := rfl
@[simp] theorem State.setCapture_plans (k : Nat) (c : Capture) : (s.setCapture k c).plans = s.plans := rfl
@[simp] theorem State.setCapture_takeOvers (k : Nat) (c : Capture) : (s.setCapture k c).takeOvers = s.takeOvers := rfl
@[simp] theorem State.setCapture_sup (k : Nat) (c : Capture) : (s.setCapture k c).sup = s.sup := rfl
@[simp] theorem State.setCapture_guards (k : Nat) (c : Capture) : (s.setCapture k c).guards = s.guards := rfl
@[simp] theorem State.setCapture_patrol (k : Nat) (c : Capture) : (s.setCapture k c).patrol = s.patrol := rfl
@[simp] theorem State.setCapture_dark (k : Nat) (c : Capture) : (s.setCapture k c).dark = s.dark := rfl
@[simp] theorem State.setCapture_windows (k : Nat) (c : Capture) : (s.setCapture k c).windows = s.windows := rfl
@[simp] theorem State.setCapture_fatal (k : Nat) (c : Capture) : (s.setCapture k c).fatal = s.fatal := rfl
@[simp] theorem State.setCapture_jn (k : Nat) (c : Capture) : (s.setCapture k c).jn = s.jn := rfl
@[simp] theorem State.setCapture_recorder (k : Nat) (c : Capture) : (s.setCapture k c).recorder = { s.recorder with caps := tabPut s.recorder.caps k c } := rfl
@[simp] theorem State.setCapture_session (k : Nat) (c : Capture) : (s.setCapture k c).session = s.session := rfl
@[simp] theorem State.setCapture_mg (k : Nat) (c : Capture) : (s.setCapture k c).mg = s.mg := rfl
@[simp] theorem State.setCapture_supply (k : Nat) (c : Capture) : (s.setCapture k c).supply = s.supply := rfl
@[simp] theorem State.setCapture_tap (k : Nat) (c : Capture) : (s.setCapture k c).tap = s.tap := rfl
@[simp] theorem State.setCapture_tests (k : Nat) (c : Capture) : (s.setCapture k c).tests = s.tests := rfl

/-! ### modSession -/

@[simp] theorem State.modSession_pending (f : Session → Session) : (s.modSession f).pending = s.pending := rfl
@[simp] theorem State.modSession_out (f : Session → Session) : (s.modSession f).out = s.out := rfl
@[simp] theorem State.modSession_ticks (f : Session → Session) : (s.modSession f).ticks = s.ticks := rfl
@[simp] theorem State.modSession_time (f : Session → Session) : (s.modSession f).time = s.time := rfl
@[simp] theorem State.modSession_rateAdj (f : Session → Session) : (s.modSession f).rateAdj = s.rateAdj := rfl
@[simp] theorem State.modSession_fresh (f : Session → Session) : (s.modSession f).fresh = s.fresh := rfl
@[simp] theorem State.modSession_mode (f : Session → Session) : (s.modSession f).mode = s.mode := rfl
@[simp] theorem State.modSession_claim (f : Session → Session) : (s.modSession f).claim = s.claim := rfl
@[simp] theorem State.modSession_claimLast (f : Session → Session) : (s.modSession f).claimLast = s.claimLast := rfl
@[simp] theorem State.modSession_start (f : Session → Session) : (s.modSession f).start = s.start := rfl
@[simp] theorem State.modSession_seq (f : Session → Session) : (s.modSession f).seq = s.seq := rfl
@[simp] theorem State.modSession_ports (f : Session → Session) : (s.modSession f).ports = s.ports := rfl
@[simp] theorem State.modSession_lanes (f : Session → Session) : (s.modSession f).lanes = s.lanes := rfl
@[simp] theorem State.modSession_tables (f : Session → Session) : (s.modSession f).tables = s.tables := rfl
@[simp] theorem State.modSession_sconces (f : Session → Session) : (s.modSession f).sconces = s.sconces := rfl
@[simp] theorem State.modSession_sliceBusy (f : Session → Session) : (s.modSession f).sliceBusy = s.sliceBusy := rfl
@[simp] theorem State.modSession_streams (f : Session → Session) : (s.modSession f).streams = s.streams := rfl
@[simp] theorem State.modSession_aux (f : Session → Session) : (s.modSession f).aux = s.aux := rfl
@[simp] theorem State.modSession_auxWait (f : Session → Session) : (s.modSession f).auxWait = s.auxWait := rfl
@[simp] theorem State.modSession_tb (f : Session → Session) : (s.modSession f).tb = s.tb := rfl
@[simp] theorem State.modSession_encoders (f : Session → Session) : (s.modSession f).encoders = s.encoders := rfl
@[simp] theorem State.modSession_seqs (f : Session → Session) : (s.modSession f).seqs = s.seqs := rfl
@[simp] theorem State.modSession_targets (f : Session → Session) : (s.modSession f).targets = s.targets := rfl
@[simp] theorem State.modSession_gio (f : Session → Session) : (s.modSession f).gio = s.gio := rfl
@[simp] theorem State.modSession_map (f : Session → Session) : (s.modSession f).map = s.map := rfl
@[simp] theorem State.modSession_lanterns (f : Session → Session) : (s.modSession f).lanterns = s.lanterns := rfl
@[simp] theorem State.modSession_channels (f : Session → Session) : (s.modSession f).channels = s.channels := rfl
@[simp] theorem State.modSession_flights (f : Session → Session) : (s.modSession f).flights = s.flights := rfl
@[simp] theorem State.modSession_groups (f : Session → Session) : (s.modSession f).groups = s.groups := rfl
@[simp] theorem State.modSession_health (f : Session → Session) : (s.modSession f).health = s.health := rfl
@[simp] theorem State.modSession_healthNv (f : Session → Session) : (s.modSession f).healthNv = s.healthNv := rfl
@[simp] theorem State.modSession_healthAt (f : Session → Session) : (s.modSession f).healthAt = s.healthAt := rfl
@[simp] theorem State.modSession_plans (f : Session → Session) : (s.modSession f).plans = s.plans := rfl
@[simp] theorem State.modSession_takeOvers (f : Session → Session) : (s.modSession f).takeOvers = s.takeOvers := rfl
@[simp] theorem State.modSession_sup (f : Session → Session) : (s.modSession f).sup = s.sup := rfl
@[simp] theorem State.modSession_guards (f : Session → Session) : (s.modSession f).guards = s.guards := rfl
@[simp] theorem State.modSession_patrol (f : Session → Session) : (s.modSession f).patrol = s.patrol := rfl
@[simp] theorem State.modSession_dark (f : Session → Session) : (s.modSession f).dark = s.dark := rfl
@[simp] theorem State.modSession_windows (f : Session → Session) : (s.modSession f).windows = s.windows := rfl
@[simp] theorem State.modSession_fatal (f : Session → Session) : (s.modSession f).fatal = s.fatal := rfl
@[simp] theorem State.modSession_jn (f : Session → Session) : (s.modSession f).jn = s.jn := rfl
@[simp] theorem State.modSession_recorder (f : Session → Session) : (s.modSession f).recorder = s.recorder := rfl
@[simp] theorem State.modSession_session (f : Session → Session) : (s.modSession f).session = f s.session := rfl
@[simp] theorem State.modSession_mg (f : Session → Session) : (s.modSession f).mg = s.mg := rfl
@[simp] theorem State.modSession_supply (f : Session → Session) : (s.modSession f).supply = s.supply := rfl
@[simp] theorem State.modSession_tap (f : Session → Session) : (s.modSession f).tap = s.tap := rfl
@[simp] theorem State.modSession_tests (f : Session → Session) : (s.modSession f).tests = s.tests := rfl

/-! ### say -/

@[simp] theorem State.say_pending (o : Output) : (s.say o).pending = s.pending := rfl
@[simp] theorem State.say_out (o : Output) : (s.say o).out = o :: s.out := rfl
@[simp] theorem State.say_ticks (o : Output) : (s.say o).ticks = s.ticks := rfl
@[simp] theorem State.say_time (o : Output) : (s.say o).time = s.time := rfl
@[simp] theorem State.say_rateAdj (o : Output) : (s.say o).rateAdj = s.rateAdj := rfl
@[simp] theorem State.say_fresh (o : Output) : (s.say o).fresh = s.fresh := rfl
@[simp] theorem State.say_mode (o : Output) : (s.say o).mode = s.mode := rfl
@[simp] theorem State.say_claim (o : Output) : (s.say o).claim = s.claim := rfl
@[simp] theorem State.say_claimLast (o : Output) : (s.say o).claimLast = s.claimLast := rfl
@[simp] theorem State.say_start (o : Output) : (s.say o).start = s.start := rfl
@[simp] theorem State.say_seq (o : Output) : (s.say o).seq = s.seq := rfl
@[simp] theorem State.say_ports (o : Output) : (s.say o).ports = s.ports := rfl
@[simp] theorem State.say_lanes (o : Output) : (s.say o).lanes = s.lanes := rfl
@[simp] theorem State.say_tables (o : Output) : (s.say o).tables = s.tables := rfl
@[simp] theorem State.say_sconces (o : Output) : (s.say o).sconces = s.sconces := rfl
@[simp] theorem State.say_sliceBusy (o : Output) : (s.say o).sliceBusy = s.sliceBusy := rfl
@[simp] theorem State.say_streams (o : Output) : (s.say o).streams = s.streams := rfl
@[simp] theorem State.say_aux (o : Output) : (s.say o).aux = s.aux := rfl
@[simp] theorem State.say_auxWait (o : Output) : (s.say o).auxWait = s.auxWait := rfl
@[simp] theorem State.say_tb (o : Output) : (s.say o).tb = s.tb := rfl
@[simp] theorem State.say_encoders (o : Output) : (s.say o).encoders = s.encoders := rfl
@[simp] theorem State.say_seqs (o : Output) : (s.say o).seqs = s.seqs := rfl
@[simp] theorem State.say_targets (o : Output) : (s.say o).targets = s.targets := rfl
@[simp] theorem State.say_gio (o : Output) : (s.say o).gio = s.gio := rfl
@[simp] theorem State.say_map (o : Output) : (s.say o).map = s.map := rfl
@[simp] theorem State.say_lanterns (o : Output) : (s.say o).lanterns = s.lanterns := rfl
@[simp] theorem State.say_channels (o : Output) : (s.say o).channels = s.channels := rfl
@[simp] theorem State.say_flights (o : Output) : (s.say o).flights = s.flights := rfl
@[simp] theorem State.say_groups (o : Output) : (s.say o).groups = s.groups := rfl
@[simp] theorem State.say_health (o : Output) : (s.say o).health = s.health := rfl
@[simp] theorem State.say_healthNv (o : Output) : (s.say o).healthNv = s.healthNv := rfl
@[simp] theorem State.say_healthAt (o : Output) : (s.say o).healthAt = s.healthAt := rfl
@[simp] theorem State.say_plans (o : Output) : (s.say o).plans = s.plans := rfl
@[simp] theorem State.say_takeOvers (o : Output) : (s.say o).takeOvers = s.takeOvers := rfl
@[simp] theorem State.say_sup (o : Output) : (s.say o).sup = s.sup := rfl
@[simp] theorem State.say_guards (o : Output) : (s.say o).guards = s.guards := rfl
@[simp] theorem State.say_patrol (o : Output) : (s.say o).patrol = s.patrol := rfl
@[simp] theorem State.say_dark (o : Output) : (s.say o).dark = s.dark := rfl
@[simp] theorem State.say_windows (o : Output) : (s.say o).windows = s.windows := rfl
@[simp] theorem State.say_fatal (o : Output) : (s.say o).fatal = s.fatal := rfl
@[simp] theorem State.say_jn (o : Output) : (s.say o).jn = s.jn := rfl
@[simp] theorem State.say_recorder (o : Output) : (s.say o).recorder = s.recorder := rfl
@[simp] theorem State.say_session (o : Output) : (s.say o).session = s.session := rfl
@[simp] theorem State.say_mg (o : Output) : (s.say o).mg = s.mg := rfl
@[simp] theorem State.say_supply (o : Output) : (s.say o).supply = s.supply := rfl
@[simp] theorem State.say_tap (o : Output) : (s.say o).tap = s.tap := rfl
@[simp] theorem State.say_tests (o : Output) : (s.say o).tests = s.tests := rfl

/-! ### freshen -/

@[simp] theorem State.freshen_pending : s.freshen.pending = s.pending := rfl
@[simp] theorem State.freshen_out : s.freshen.out = s.out := rfl
@[simp] theorem State.freshen_ticks : s.freshen.ticks = s.ticks := rfl
@[simp] theorem State.freshen_time : s.freshen.time = s.time := rfl
@[simp] theorem State.freshen_rateAdj : s.freshen.rateAdj = s.rateAdj := rfl
@[simp] theorem State.freshen_fresh : s.freshen.fresh = s.fresh + 1 := rfl
@[simp] theorem State.freshen_mode : s.freshen.mode = s.mode := rfl
@[simp] theorem State.freshen_claim : s.freshen.claim = s.claim := rfl
@[simp] theorem State.freshen_claimLast : s.freshen.claimLast = s.claimLast := rfl
@[simp] theorem State.freshen_start : s.freshen.start = s.start := rfl
@[simp] theorem State.freshen_seq : s.freshen.seq = s.seq := rfl
@[simp] theorem State.freshen_ports : s.freshen.ports = s.ports := rfl
@[simp] theorem State.freshen_lanes : s.freshen.lanes = s.lanes := rfl
@[simp] theorem State.freshen_tables : s.freshen.tables = s.tables := rfl
@[simp] theorem State.freshen_sconces : s.freshen.sconces = s.sconces := rfl
@[simp] theorem State.freshen_sliceBusy : s.freshen.sliceBusy = s.sliceBusy := rfl
@[simp] theorem State.freshen_streams : s.freshen.streams = s.streams := rfl
@[simp] theorem State.freshen_aux : s.freshen.aux = s.aux := rfl
@[simp] theorem State.freshen_auxWait : s.freshen.auxWait = s.auxWait := rfl
@[simp] theorem State.freshen_tb : s.freshen.tb = s.tb := rfl
@[simp] theorem State.freshen_encoders : s.freshen.encoders = s.encoders := rfl
@[simp] theorem State.freshen_seqs : s.freshen.seqs = s.seqs := rfl
@[simp] theorem State.freshen_targets : s.freshen.targets = s.targets := rfl
@[simp] theorem State.freshen_gio : s.freshen.gio = s.gio := rfl
@[simp] theorem State.freshen_map : s.freshen.map = s.map := rfl
@[simp] theorem State.freshen_lanterns : s.freshen.lanterns = s.lanterns := rfl
@[simp] theorem State.freshen_channels : s.freshen.channels = s.channels := rfl
@[simp] theorem State.freshen_flights : s.freshen.flights = s.flights := rfl
@[simp] theorem State.freshen_groups : s.freshen.groups = s.groups := rfl
@[simp] theorem State.freshen_health : s.freshen.health = s.health := rfl
@[simp] theorem State.freshen_healthNv : s.freshen.healthNv = s.healthNv := rfl
@[simp] theorem State.freshen_healthAt : s.freshen.healthAt = s.healthAt := rfl
@[simp] theorem State.freshen_plans : s.freshen.plans = s.plans := rfl
@[simp] theorem State.freshen_takeOvers : s.freshen.takeOvers = s.takeOvers := rfl
@[simp] theorem State.freshen_sup : s.freshen.sup = s.sup := rfl
@[simp] theorem State.freshen_guards : s.freshen.guards = s.guards := rfl
@[simp] theorem State.freshen_patrol : s.freshen.patrol = s.patrol := rfl
@[simp] theorem State.freshen_dark : s.freshen.dark = s.dark := rfl
@[simp] theorem State.freshen_windows : s.freshen.windows = s.windows := rfl
@[simp] theorem State.freshen_fatal : s.freshen.fatal = s.fatal := rfl
@[simp] theorem State.freshen_jn : s.freshen.jn = s.jn := rfl
@[simp] theorem State.freshen_recorder : s.freshen.recorder = s.recorder := rfl
@[simp] theorem State.freshen_session : s.freshen.session = s.session := rfl
@[simp] theorem State.freshen_mg : s.freshen.mg = s.mg := rfl
@[simp] theorem State.freshen_supply : s.freshen.supply = s.supply := rfl
@[simp] theorem State.freshen_tap : s.freshen.tap = s.tap := rfl
@[simp] theorem State.freshen_tests : s.freshen.tests = s.tests := rfl

/-! ### elapse -/

@[simp] theorem State.elapse_pending (n : Nat) : (s.elapse n).pending = s.pending := rfl
@[simp] theorem State.elapse_out (n : Nat) : (s.elapse n).out = s.out := rfl
@[simp] theorem State.elapse_ticks (n : Nat) : (s.elapse n).ticks = s.ticks + n := rfl
@[simp] theorem State.elapse_time (n : Nat) : (s.elapse n).time = (((s.time : Int) + n * ((2 : Int) ^ 33 + s.rateAdj)) % (2 : Int) ^ 96).toNat := rfl
@[simp] theorem State.elapse_rateAdj (n : Nat) : (s.elapse n).rateAdj = s.rateAdj := rfl
@[simp] theorem State.elapse_fresh (n : Nat) : (s.elapse n).fresh = s.fresh := rfl
@[simp] theorem State.elapse_mode (n : Nat) : (s.elapse n).mode = s.mode := rfl
@[simp] theorem State.elapse_claim (n : Nat) : (s.elapse n).claim = s.claim := rfl
@[simp] theorem State.elapse_claimLast (n : Nat) : (s.elapse n).claimLast = s.claimLast := rfl
@[simp] theorem State.elapse_start (n : Nat) : (s.elapse n).start = s.start := rfl
@[simp] theorem State.elapse_seq (n : Nat) : (s.elapse n).seq = s.seq := rfl
@[simp] theorem State.elapse_ports (n : Nat) : (s.elapse n).ports = s.ports := rfl
@[simp] theorem State.elapse_lanes (n : Nat) : (s.elapse n).lanes = s.lanes := rfl
@[simp] theorem State.elapse_tables (n : Nat) : (s.elapse n).tables = s.tables := rfl
@[simp] theorem State.elapse_sconces (n : Nat) : (s.elapse n).sconces = s.sconces := rfl
@[simp] theorem State.elapse_sliceBusy (n : Nat) : (s.elapse n).sliceBusy = s.sliceBusy := rfl
@[simp] theorem State.elapse_streams (n : Nat) : (s.elapse n).streams = s.streams := rfl
@[simp] theorem State.elapse_aux (n : Nat) : (s.elapse n).aux = s.aux := rfl
@[simp] theorem State.elapse_auxWait (n : Nat) : (s.elapse n).auxWait = s.auxWait := rfl
@[simp] theorem State.elapse_tb (n : Nat) : (s.elapse n).tb = s.tb := rfl
@[simp] theorem State.elapse_encoders (n : Nat) : (s.elapse n).encoders = s.encoders := rfl
@[simp] theorem State.elapse_seqs (n : Nat) : (s.elapse n).seqs = s.seqs := rfl
@[simp] theorem State.elapse_targets (n : Nat) : (s.elapse n).targets = s.targets := rfl
@[simp] theorem State.elapse_gio (n : Nat) : (s.elapse n).gio = s.gio := rfl
@[simp] theorem State.elapse_map (n : Nat) : (s.elapse n).map = s.map := rfl
@[simp] theorem State.elapse_lanterns (n : Nat) : (s.elapse n).lanterns = s.lanterns := rfl
@[simp] theorem State.elapse_channels (n : Nat) : (s.elapse n).channels = s.channels := rfl
@[simp] theorem State.elapse_flights (n : Nat) : (s.elapse n).flights = s.flights := rfl
@[simp] theorem State.elapse_groups (n : Nat) : (s.elapse n).groups = s.groups := rfl
@[simp] theorem State.elapse_health (n : Nat) : (s.elapse n).health = s.health := rfl
@[simp] theorem State.elapse_healthNv (n : Nat) : (s.elapse n).healthNv = s.healthNv := rfl
@[simp] theorem State.elapse_healthAt (n : Nat) : (s.elapse n).healthAt = s.healthAt := rfl
@[simp] theorem State.elapse_plans (n : Nat) : (s.elapse n).plans = s.plans := rfl
@[simp] theorem State.elapse_takeOvers (n : Nat) : (s.elapse n).takeOvers = s.takeOvers := rfl
@[simp] theorem State.elapse_sup (n : Nat) : (s.elapse n).sup = s.sup := rfl
@[simp] theorem State.elapse_guards (n : Nat) : (s.elapse n).guards = s.guards := rfl
@[simp] theorem State.elapse_patrol (n : Nat) : (s.elapse n).patrol = s.patrol := rfl
@[simp] theorem State.elapse_dark (n : Nat) : (s.elapse n).dark = s.dark := rfl
@[simp] theorem State.elapse_windows (n : Nat) : (s.elapse n).windows = s.windows := rfl
@[simp] theorem State.elapse_fatal (n : Nat) : (s.elapse n).fatal = s.fatal := rfl
@[simp] theorem State.elapse_jn (n : Nat) : (s.elapse n).jn = s.jn := rfl
@[simp] theorem State.elapse_recorder (n : Nat) : (s.elapse n).recorder = s.recorder := rfl
@[simp] theorem State.elapse_session (n : Nat) : (s.elapse n).session = s.session := rfl
@[simp] theorem State.elapse_mg (n : Nat) : (s.elapse n).mg = s.mg := rfl
@[simp] theorem State.elapse_supply (n : Nat) : (s.elapse n).supply = s.supply := rfl
@[simp] theorem State.elapse_tap (n : Nat) : (s.elapse n).tap = s.tap := rfl
@[simp] theorem State.elapse_tests (n : Nat) : (s.elapse n).tests = s.tests := rfl

/-! ### The changes in place are the updates above -/

theorem State.modPort_eq (p : Nat) (f : Port → Port) : s.modPort p f = s.setPort p (f (s.port p)) := rfl
theorem State.setRing_eq (p i : Nat) (r : Ring) : s.setRing p i r = s.setPort p ((s.port p).setRing i r) := rfl
theorem State.modRing_eq (p i : Nat) (f : Ring → Ring) : s.modRing p i f = s.setRing p i (f (s.ring p i)) := rfl
theorem State.modLane_eq (l : Nat) (f : Lane → Lane) : s.modLane l f = s.setLane l (f (s.lane l)) := rfl
theorem State.modLantern_eq (n : Nat) (f : Lantern → Lantern) : s.modLantern n f = s.setLantern n (f (s.lantern n)) := rfl
theorem State.modSconce_eq (k : Nat) (f : Sconce → Sconce) : s.modSconce k f = s.setSconce k (f (s.sconce k)) := rfl
theorem State.modStream_eq (n : Nat) (f : Stream → Stream) : s.modStream n f = s.setStream n (f (s.stream n)) := rfl

/-! ### What the accessors read after the updates -/

@[simp] theorem State.auxMover_setAux (k : Nat) (x : AuxMover) : (s.setAux k x).auxMover k = x := tabGet_put_same ..
theorem State.auxMover_setAux_other (k j : Nat) (x : AuxMover) (h : j ≠ k) : (s.setAux k x).auxMover j = s.auxMover j := tabGet_put_other _ _ x h
@[simp] theorem State.group_setGroup (k : Nat) (x : Group) : (s.setGroup k x).group k = x := tabGet_put_same ..
theorem State.group_setGroup_other (k j : Nat) (x : Group) (h : j ≠ k) : (s.setGroup k x).group j = s.group j := tabGet_put_other _ _ x h
@[simp] theorem State.channel_setChannel (k : Nat) (x : Channel) : (s.setChannel k x).channel k = x := tabGet_put_same ..
theorem State.channel_setChannel_other (k j : Nat) (x : Channel) (h : j ≠ k) : (s.setChannel k x).channel j = s.channel j := tabGet_put_other _ _ x h
@[simp] theorem State.enc_setEnc (k : Nat) (x : Encoder) : (s.setEnc k x).enc k = x := tabGet_put_same ..
theorem State.enc_setEnc_other (k j : Nat) (x : Encoder) (h : j ≠ k) : (s.setEnc k x).enc j = s.enc j := tabGet_put_other _ _ x h
@[simp] theorem State.seqr_setSeq (k : Nat) (x : Sequencer) : (s.setSeq k x).seqr k = x := tabGet_put_same ..
theorem State.seqr_setSeq_other (k j : Nat) (x : Sequencer) (h : j ≠ k) : (s.setSeq k x).seqr j = s.seqr j := tabGet_put_other _ _ x h
@[simp] theorem State.target_setTarget (k : Nat) (x : Target) : (s.setTarget k x).target k = x := tabGet_put_same ..
theorem State.target_setTarget_other (k j : Nat) (x : Target) (h : j ≠ k) : (s.setTarget k x).target j = s.target j := tabGet_put_other _ _ x h
@[simp] theorem State.gioLine_setGio (k : Nat) (x : Gio) : (s.setGio k x).gioLine k = x := tabGet_put_same ..
theorem State.gioLine_setGio_other (k j : Nat) (x : Gio) (h : j ≠ k) : (s.setGio k x).gioLine j = s.gioLine j := tabGet_put_other _ _ x h

end Sys2Proof.Machine
end

