-- ==== Sys2Proof/Machine/ConfigSpace.lean ====
section
/-!
DEFINITION. What reads of a host port give: its configuration space and BAR0 (02 R41 to R46; 00 R3). The table of operations has no row
for a read, since none changes the device but the answer; what is read is defined here.
-/

namespace Sys2Proof.Machine

/-! ### Configuration space (02 R41, R42) -/

/-- A register or capability field of configuration space (02 R41, R42). -/
inductive CfgField where
  | vendorId | deviceId | revisionId | classCode | subsystemVendorId | subsystemId | headerType | interruptPin
  | bar (n : Fin 6) | expansionRom
  | powerStates | noSoftReset | pmeSupport | portType | mpsSupported | tenBitTags | fourteenBitTags | functionLevelReset
  | linkRates | linkWidths | aspmSupport | l1ExitLatency | timeoutRanges | timeoutDisable
  | msixTableSize | msixTableOffset | msixPbaOffset | ecrcGenCapable | ecrcCheckCapable | multipleHeaders | tlpPrefixLog
  | serialNumber | l0pSupported | resetTime | dlUpTime | flrTime | d3hotToD0Time
  | reg (r : CfgReg)
  deriving DecidableEq, Repr

/-- BAR0 is 64 KiB (02 R44). -/
def bar0Bytes : Nat := 0x10000

/-- Bits [1:0] of a power-management state (02 R58). -/
def Port.powerState (x : Port) : Nat := if x.d3hot then 3 else 0

/-- Max_Payload_Size code of Device Control: 128 × 2^code bytes. -/
def mpsCode (mps : Nat) : Nat := Nat.log2 (mps / 128)

/-- The value of a writable register of configuration space, with the bits whose change has a row of its own (02 R42 to R73; places
PRESUMED as PCI Express has them, entry 86). -/
def Port.cfgReg (x : Port) (r : CfgReg) : Nat :=
  match r with
  | .command => b2n x.mse * 2 + b2n x.bme * 4 + b2n x.intDisable * 1024 + b2n x.intStatus * 2 ^ 19
  | .bar0Low => x.bar0 % 2 ^ 32 + 4
  | .bar0High => x.bar0 / 2 ^ 32
  | .deviceControl => b2n x.relaxed * 16 + mpsCode x.mps * 32
  | .linkControl => b2n x.aspmL1 * 2
  | .deviceControl3 => b2n x.l0pEnable * 8
  | .msixControl => 2047 + b2n x.fnMask * 2 ^ 14 + b2n x.msixEnable * 2 ^ 15
  | .aerUncStatus => x.aerUnc
  | .aerUncMask => x.aerUncMask
  | .aerUncSeverity => x.aerUncSev
  | .aerCorStatus => x.aerCor
  | .aerCorMask => x.aerCorMask
  | .aerControl => x.firstError + 2 ^ 5 + b2n x.ecrcGen * 2 ^ 6 + 2 ^ 7 + b2n x.ecrcCheck * 2 ^ 8
  | .drsControl => b2n x.drsEnable

/-- The value of a field of port p's configuration space (02 R41, R42). Times are in ms, sizes in bytes, rates in 0.1 GT/s; sets of rates
and widths are masks, bit k standing for the k-th of them in ascending order. -/
def State.cfgField (s : State) (p : Nat) (f : CfgField) : Nat :=
  let x := s.port p
  match f with
  | .vendorId => 0x1FD3
  | .deviceId => 0x8128
  | .revisionId => 0xB2
  | .classCode => 0x118000
  | .subsystemVendorId => 0x1FD3
  | .subsystemId => 0x0100 + p
  | .headerType => 0
  | .interruptPin => 1
  | .bar n => if n.val = 0 then x.cfgReg .bar0Low else if n.val = 1 then x.cfgReg .bar0High else 0
  | .expansionRom => 0
  | .powerStates => x.powerState
  | .noSoftReset => 1
  | .pmeSupport => 0
  | .portType => 0
  | .mpsSupported => 1024
  | .tenBitTags => 1
  | .fourteenBitTags => 1
  | .functionLevelReset => 1
  | .linkRates => 0x3F
  | .linkWidths => 0x1F
  | .aspmSupport => 2
  | .l1ExitLatency => 3
  | .timeoutRanges => 0xF
  | .timeoutDisable => 1
  | .msixTableSize => 2047
  | .msixTableOffset => 0x8000
  | .msixPbaOffset => 0x4000
  | .ecrcGenCapable => 1
  | .ecrcCheckCapable => 1
  | .multipleHeaders => 0
  | .tlpPrefixLog => 1
  | .serialNumber => Config.serialNumber.toNat
  | .l0pSupported => 1
  | .resetTime => 1000
  | .dlUpTime => 1000
  | .flrTime => 10
  | .d3hotToD0Time => 10
  | .reg r => x.cfgReg r

/-- The answer to a configuration read: Request Retry Status with the link up until the port is ready (02 R54); none without a link. -/
def State.configRead (s : State) (p : Nat) (f : CfgField) : Option Answer :=
  if (s.port p).link != .up then none
  else if !(s.port p).ready then some .retryStatus
  else some (.value (s.cfgField p f))

/-! ### BAR0 (02 R44 to R46) -/

/-- A doubleword of the MSI-X table (02 R44, R66). -/
def Port.msixRead (x : Port) (off : Nat) : Nat :=
  let e := tabGet MsixEntry.reset x.msixTable ((off - 0x8000) / 16)
  match (off - 0x8000) / 4 % 4 with
  | 0 => e.addr % 2 ^ 32
  | 1 => e.addr / 2 ^ 32
  | 2 => e.data
  | _ => b2n e.masked

/-- A doubleword of the Pending Bit Array: bit j of doubleword k is vector 32 k + j (02 R44). -/
def Port.pbaRead (x : Port) (off : Nat) : Nat :=
  sumL ((List.range 32).map (fun j => if x.pba.contains ((off - 0x4000) / 4 * 32 + j) then 2 ^ j else 0))

/-- Four bytes of BAR0; the reserved ranges, the kick page among them, read 0 (02 R44). In Dark too the current values are read (02 R74). -/
def State.bar0Read (s : State) (p off : Nat) : Nat :=
  if off < 0x1000 then s.setupRead p off
  else if 0x4000 ≤ off && off < 0x4100 then (s.port p).pbaRead off
  else if 0x8000 ≤ off && off < bar0Bytes then (s.port p).msixRead off
  else 0

/-- The answer to a memory read of `size` bytes of BAR0, from a port that is ready: 4 or 8 bytes at their own alignment, the latter as two
reads of 4, the lower address first (02 R45); Unsupported Request while Memory Space Enable is 0 (02 R46). -/
def State.memoryRead (s : State) (p off size : Nat) : Answer :=
  if !(s.port p).mse then .unsupported
  else if size = 4 && off % 4 = 0 then .value (s.bar0Read p off)
  else if size = 8 && off % 8 = 0 then .value (s.bar0Read p off + s.bar0Read p (off + 4) * 2 ^ 32)
  else .completerAbort

end Sys2Proof.Machine
end

