-- ==== Sys2Proof/Tests/Slice0.lean ====
section
/-!
SUPPORT. Tests: an ill-formed command for each check of WellFormed, and for each statement with hypotheses a state and operands
that meet them, at the edges of its clauses.
-/

namespace Sys2Proof.Machine.Tests

-- One test after the other: their kernel evaluations would otherwise hold one thread each.
set_option Elab.async false

/-! ### The states and commands of the tests -/

/-- A port whose link is up, with both rings and the doorbell page in service. -/
def port0 : Port :=
  { Port.reset with
    link := .up, ready := true, rate := 640, width := 16, fullWidth := 16, mps := 512, bme := true, mse := true, doorbell := true
    cmdBase := 0x10000, cmdSize := 6, evtBase := 0x20000, evtSize := 6, dbBase := 0x30000
    rings := [(0, { Ring.reset with st := .inService, kind := 1, log2size := 6, base := 0x10000, eventRing := 1, h := 1 }),
      (1, { Ring.reset with st := .inService, kind := 2, log2size := 6, base := 0x20000, eventRing := 1, threshold := 1 })] }

/-- The device in a mode, with port 0 as above and one page of 1 GiB mapped for it. -/
def on (m : Mode) : State :=
  { State.reset with
    mode := m, start := { StartUp.reset with fw := .copyA, pll := true, pwrGood := true, hbm := true, tests := true, porstLow := false, coldSupply := false }
    ports := [(0, port0)], map := [{ va := 0, log2 := 30, port := 0, bus := 0 }] }

/-- The ring command at the front of ring 0: an opcode and fields as (offset, value). -/
def cmd (op : Nat) (fields : List (Nat × Nat)) : RingCmd :=
  ⟨⟨0, 0⟩, BitVec.ofNat 512 (fields.foldl (fun a f => a + f.2 * 2 ^ (8 * f.1)) (op + 2 ^ 15)), ⟨[], none⟩⟩

/-- The state meets the hypothesis of a command's statement after no time: the command is fetched, and every check accepts it. -/
def Meets (s : State) (fields : List (Nat × Nat)) (op : Nat) (chk : RingCmd → State → Checks) : Prop :=
  (s.elapse 0).Accepts (cmd op fields) op (chk (cmd op fields))

/-- The same as a Bool. -/
def meets (s : State) (fields : List (Nat × Nat)) (op : Nat) (chk : RingCmd → State → Checks) : Bool :=
  let c := cmd op fields
  let u := s.elapse 0
  u.fetchable c && ((chk c (u.fetched c)).first (u.fetched c) c.ring.port op c.e).isNone

theorem meets_of {s : State} {fields : List (Nat × Nat)} {op : Nat} {chk : RingCmd → State → Checks} (h : meets s fields op chk = true) :
    Meets s fields op chk := by
  simp only [meets, Bool.and_eq_true, Option.isNone_iff_eq_none] at h
  exact h

/-- Ring i of port 0 in service. -/
def withRing (s : State) (i kind : Nat) : State :=
  s.setRing 0 i { Ring.reset with st := .inService, kind := kind, log2size := 6, base := 0x40000 + 0x10000 * i, eventRing := 1, threshold := 1 }

/-- The device with port 1 in service too. -/
def twoPorts (m : Mode) : State := (on m).setPort 1 port0

/-- Sconce 0 configured for port 0, 256 pixels by 256 lines. -/
def sconce0 (s : State) : State :=
  s.setSconce 0 { Sconce.reset with configured := true, owner := some 0, par := [(1, leBytes 32 (256 + 256 * 2 ^ 16))] }

/-- An output table without regions, loaded by port 0 as handle 5. -/
def outTable : List Byte := leBytes 2 0x23 ++ zeros 62

/-- That table in place. -/
def table0 (s : State) : State := { s with tables := [(0, { owner := some 0, handle := 5, image := outTable })] }

/-- Stream 0 of sconce 0 with rings 2 and 3. -/
def stream0 (s : State) (st : StreamState) : State :=
  (withRing (withRing (table0 (sconce0 s)) 2 3) 3 4).setStream 0
    { Stream.reset with st := st, owner := some 0, dRing := 2, cRing := 3, handle := 5, table := outTable, weight := 1 }

/-- Lantern 0 bound to sconce 0. -/
def lantern0 (s : State) : State := (sconce0 s).setLantern 0 { Lantern.reset with st := .bound, owner := some 0 }

/-- Sequencer 0 with an image of zeros. -/
def sequencer0 (s : State) : State := s.setSeq 0 { Sequencer.reset with owner := some 0, image := zeros 64 }

/-- Encoder channel 0 in mode 1. -/
def encoder0 (s : State) : State := s.setEnc 0 { Encoder.reset with owner := some 0, cfg := { EncCfg.reset with mode := 1 } }

/-- A slice self-test that runs. -/
def diagTest0 : DiagTest :=
  { id := 0, test := 5, unit := 0, ring := 0, buffer := 0, pieces := [], rate := 0, tStart := 0, due := 0, duration := 0, check := false, pattern := 0
    gen := false, preset := 0, dwell := 0, inject := 0 }

/-- A frame that is open, or closed. -/
def frame (number : Nat) (closed : Bool) : Frame :=
  { number := number, b := 0, cam := 0, vc := 0, sensor := 0, dt := none, tExp := none, tEnd := 0, closed := closed, par := [], images := [], depth := 8
    lines := [], flags := 0, malformed := 0, trig := none, pos := [], mv := [], taps := [], returned := [], tapDone := [], corrected := false
    boundary := none, noPosition := false, unpredicted := false, lastStamp := 0, lineEnd := 0, recorded := false, patrol := false, holdover := false }

/-- A frame of a stream. -/
def streamFrame (number : Nat) : StreamFrame :=
  { number := number, spool := none, delay := false, desc := none, written := 0, stats := 0, ready := none, fault := false }

/-- Frame 0 of sconce 0 is open, and stream 0 carries it. -/
def openFrame0 (s : State) : State :=
  (s.modSconce 0 (fun x => { x with frames := [frame 0 false] })).modStream 0 (fun x => { x with frames := [streamFrame 0] })

/-- Stream 0 has a partner on port 1. -/
def partner0 (s : State) : State :=
  ((s.setPort 1 { port0 with rings := (2, { Ring.reset with st := .inService, kind := 3, log2size := 6 }) :: (3, { Ring.reset with st := .inService, kind := 4, log2size := 6 }) :: port0.rings })).modStream 0
    (fun x => { x with partner := some (1026, 1027) })

/-! ### Well-formed and ill-formed commands -/

/-- A ring command whose entry spells no opcode is ill formed, for every row of the rings. -/
theorem test_wf_opcode :
    ([.nop, .ringCreate, .ringDestroy, .ringModerate, .portConfig, .claimPass, .queryVersion, .queryHealth, .queryLedger, .queryCounters,
    .streamConfig, .streamStart, .streamStop, .streamMove, .streamRelease, .moverStop, .moverSnuff, .moverResume, .moverPace,
    .moverSpool, .mapRun, .mapList, .mapUnmap, .sconceConfig, .sconceRelease, .tableLoad, .tableRelease, .paramSet, .kernelLoad,
    .kernelSwap, .lanternBind, .lanternRelease, .laneConfig, .laneRequest, .lanePacketSend, .timeConfigure, .setTime, .readStamps,
    .timeStatus, .encoderConfigure, .setCount, .divider, .encoderStatus, .encoderRelease, .seqLoad, .targetConfig, .triggerStart,
    .triggerHalt, .triggerSlotArm, .triggerSlotDisarm, .triggerHandover, .gioConfig, .eventBind, .eventSignal, .eventGroups,
    .eventStatus, .eventRelease, .modeSet, .sparePlan, .spareForce, .spareRetire, .sparePolicy, .patrolConfig, .journalTargets,
    .journalMark, .readNv, .thaw, .journalStatus, .recordArea, .recordStart, .recordStop, .recordExport, .recordStatus, .replayAdd,
    .replayStart, .replayPause, .replayResume, .replayEnd, .nearLoop, .farLoop, .pattern, .eyeScan, .hbmTest, .sliceSelfTest,
    .lanternSelfTest, .encoderSelfTest, .abort] :
      List (Nat → RingCmd → Instr)).all (fun r => !(r 0 (cmd 0 [])).wf) = true := by decide +kernel

/-- A ring command with the opcode and the OP, KIND, TEST or RELEASE of its row is well formed. -/
theorem test_wf_rows :
    ([(.nop, 0x01, []), (.ringCreate, 0x02, []), (.ringDestroy, 0x03, []), (.ringModerate, 0x04, []), (.portConfig, 0x05, []),
    (.claimPass, 0x06, []), (.queryVersion, 0x07, [(8, 0)]), (.queryHealth, 0x07, [(8, 1)]), (.queryLedger, 0x07, [(8, 2)]),
    (.queryCounters, 0x07, [(8, 3)]), (.streamConfig, 0x10, []), (.streamStart, 0x11, []), (.streamStop, 0x12, []),
    (.streamMove, 0x13, []), (.streamRelease, 0x14, []), (.moverStop, 0x15, [(8, 0)]), (.moverSnuff, 0x15, [(8, 1)]),
    (.moverResume, 0x15, [(8, 2)]), (.moverPace, 0x15, [(8, 3)]), (.moverSpool, 0x15, [(8, 4)]), (.mapRun, 0x16, [(8, 0)]),
    (.mapList, 0x16, [(8, 1)]), (.mapUnmap, 0x16, [(8, 2)]), (.sconceConfig, 0x20, []), (.sconceRelease, 0x20, [(0xA, 1)]),
    (.tableLoad, 0x21, []), (.tableRelease, 0x22, []), (.paramSet, 0x23, []), (.kernelLoad, 0x28, []), (.kernelSwap, 0x29, []),
    (.lanternBind, 0x2A, []), (.lanternRelease, 0x2A, [(8, 64)]), (.laneConfig, 0x30, []), (.laneRequest, 0x31, []),
    (.lanePacketSend, 0x32, []), (.timeConfigure, 0x38, [(8, 0)]), (.setTime, 0x38, [(8, 1)]), (.readStamps, 0x38, [(8, 2)]),
    (.timeStatus, 0x38, [(8, 3)]), (.encoderConfigure, 0x39, [(8, 0)]), (.setCount, 0x39, [(8, 1)]), (.divider, 0x39, [(8, 2)]),
    (.encoderStatus, 0x39, [(8, 3)]), (.encoderRelease, 0x39, [(8, 4)]), (.seqLoad, 0x3A, []), (.targetConfig, 0x3B, []),
    (.triggerStart, 0x3C, [(8, 0)]), (.triggerHalt, 0x3C, [(8, 1)]), (.triggerSlotArm, 0x3C, [(8, 2)]),
    (.triggerSlotDisarm, 0x3C, [(8, 3)]), (.triggerHandover, 0x3D, []), (.gioConfig, 0x3E, []), (.eventBind, 0x40, [(8, 0)]),
    (.eventSignal, 0x40, [(8, 1)]), (.eventGroups, 0x40, [(8, 2)]), (.eventStatus, 0x40, [(8, 3)]), (.eventRelease, 0x41, []),
    (.modeSet, 0x48, []), (.sparePlan, 0x49, [(8, 0)]), (.spareForce, 0x49, [(8, 1)]), (.spareRetire, 0x49, [(8, 2)]),
    (.sparePolicy, 0x49, [(8, 3)]), (.patrolConfig, 0x4A, []), (.journalTargets, 0x4B, [(8, 0)]), (.journalMark, 0x4B, [(8, 1)]),
    (.readNv, 0x4B, [(8, 2)]), (.thaw, 0x4B, [(8, 3)]), (.journalStatus, 0x4B, [(8, 4)]), (.recordArea, 0x4C, [(8, 0)]),
    (.recordStart, 0x4C, [(8, 1)]), (.recordStop, 0x4C, [(8, 2)]), (.recordExport, 0x4C, [(8, 3)]), (.recordStatus, 0x4C, [(8, 4)]),
    (.replayAdd, 0x4D, [(8, 0)]), (.replayStart, 0x4D, [(8, 1)]), (.replayPause, 0x4D, [(8, 2)]), (.replayResume, 0x4D, [(8, 3)]),
    (.replayEnd, 0x4D, [(8, 4)]), (.nearLoop, 0x4E, [(8, 0)]), (.farLoop, 0x4E, [(8, 1)]), (.pattern, 0x4E, [(8, 2)]),
    (.eyeScan, 0x4E, [(8, 3)]), (.hbmTest, 0x4E, [(8, 4)]), (.sliceSelfTest, 0x4E, [(8, 5)]), (.lanternSelfTest, 0x4E, [(8, 6)]),
    (.encoderSelfTest, 0x4E, [(8, 7)]), (.abort, 0x4E, [(8, 8)])] :
      List ((Nat → RingCmd → Instr) × Nat × List (Nat × Nat))).all (fun r => (r.1 0 (cmd r.2.1 r.2.2)).wf) = true := by decide +kernel

/-- One with the OP, KIND, TEST or RELEASE of another row is ill formed. -/
theorem test_wf_other_rows :
    ([(.queryVersion, 0x07, [(8, 1)]), (.queryHealth, 0x07, [(8, 2)]), (.queryLedger, 0x07, [(8, 3)]), (.queryCounters, 0x07, [(8, 2)]),
    (.moverStop, 0x15, [(8, 1)]), (.moverSnuff, 0x15, [(8, 2)]), (.moverResume, 0x15, [(8, 3)]), (.moverPace, 0x15, [(8, 4)]),
    (.moverSpool, 0x15, [(8, 5)]), (.mapRun, 0x16, [(8, 1)]), (.mapList, 0x16, [(8, 2)]), (.mapUnmap, 0x16, [(8, 3)]),
    (.sconceConfig, 0x20, [(0xA, 1)]), (.sconceRelease, 0x20, []), (.lanternBind, 0x2A, [(8, 64)]), (.lanternRelease, 0x2A, []),
    (.timeConfigure, 0x38, [(8, 1)]), (.setTime, 0x38, [(8, 2)]), (.readStamps, 0x38, [(8, 3)]), (.timeStatus, 0x38, [(8, 4)]),
    (.encoderConfigure, 0x39, [(8, 1)]), (.setCount, 0x39, [(8, 2)]), (.divider, 0x39, [(8, 3)]), (.encoderStatus, 0x39, [(8, 4)]),
    (.encoderRelease, 0x39, [(8, 5)]), (.triggerStart, 0x3C, [(8, 1)]), (.triggerHalt, 0x3C, [(8, 2)]),
    (.triggerSlotArm, 0x3C, [(8, 3)]), (.triggerSlotDisarm, 0x3C, [(8, 4)]), (.eventBind, 0x40, [(8, 1)]),
    (.eventSignal, 0x40, [(8, 2)]), (.eventGroups, 0x40, [(8, 3)]), (.eventStatus, 0x40, [(8, 4)]), (.sparePlan, 0x49, [(8, 1)]),
    (.spareForce, 0x49, [(8, 2)]), (.spareRetire, 0x49, [(8, 3)]), (.sparePolicy, 0x49, [(8, 4)]), (.journalTargets, 0x4B, [(8, 1)]),
    (.journalMark, 0x4B, [(8, 2)]), (.readNv, 0x4B, [(8, 3)]), (.thaw, 0x4B, [(8, 4)]), (.journalStatus, 0x4B, [(8, 5)]),
    (.recordArea, 0x4C, [(8, 1)]), (.recordStart, 0x4C, [(8, 2)]), (.recordStop, 0x4C, [(8, 3)]), (.recordExport, 0x4C, [(8, 4)]),
    (.recordStatus, 0x4C, [(8, 5)]), (.replayAdd, 0x4D, [(8, 1)]), (.replayStart, 0x4D, [(8, 2)]), (.replayPause, 0x4D, [(8, 3)]),
    (.replayResume, 0x4D, [(8, 4)]), (.replayEnd, 0x4D, [(8, 5)]), (.nearLoop, 0x4E, [(8, 1)]), (.farLoop, 0x4E, [(8, 2)]),
    (.pattern, 0x4E, [(8, 3)]), (.eyeScan, 0x4E, [(8, 4)]), (.hbmTest, 0x4E, [(8, 5)]), (.sliceSelfTest, 0x4E, [(8, 6)]),
    (.lanternSelfTest, 0x4E, [(8, 7)]), (.encoderSelfTest, 0x4E, [(8, 8)]), (.abort, 0x4E, [(8, 9)])] :
      List ((Nat → RingCmd → Instr) × Nat × List (Nat × Nat))).all (fun r => !(r.1 0 (cmd r.2.1 r.2.2)).wf) = true := by decide +kernel

/-- UNDEFINED_OPCODE is no row for a defined opcode, and it is the row of another. -/
theorem test_wf_undefined_opcode :
    (Instr.undefinedOpcode 0 (cmd 0x01 [])).wf = false ∧ (Instr.undefinedOpcode 0 (cmd 0x08 [])).wf = true := by decide +kernel

/-- The word of a Lantern instruction, written out from its major and minor opcodes (09 R323, R327 to R341), is well formed in its row. -/
theorem test_wf_words :
    ([(.addi, 0x4000000), (.andi, 0x8000000), (.ori, 0xc000000), (.xori, 0x10000000), (.slti, 0x14000000), (.sltiu, 0x18000000),
    (.lui, 0x1c000000), (.shi, 0x20000000), (.lw, 0x40000000), (.lh, 0x44000000), (.lhu, 0x48000000), (.lb, 0x4c000000),
    (.lbu, 0x50000000), (.sw, 0x54000000), (.sh, 0x58000000), (.sb, 0x5c000000), (.vld, 0x60000000), (.vst, 0x64000000),
    (.beq, 0x80000000), (.bne, 0x84000000), (.blt, 0x88000000), (.bge, 0x8c000000), (.bltu, 0x90000000), (.bgeu, 0x94000000),
    (.jal, 0x98000000), (.bp, 0x9c000000), (.mfsr, 0xc0000000), (.mtsr, 0xc4000000), (.add, 0x0), (.sub, 0x1), (.and, 0x2), (.or, 0x3),
    (.xor, 0x4), (.sll, 0x5), (.srl, 0x6), (.sra, 0x7), (.slt, 0x8), (.sltu, 0x9), (.min, 0xa), (.max, 0xb), (.minu, 0xc), (.maxu, 0xd),
    (.mul, 0x10), (.mulh, 0x11), (.mulhu, 0x12), (.jalr, 0x18), (.lend, 0xfc000000), (.ldrop, 0xfc000001), (.wait, 0xfc000002),
    (.reti, 0xfc000003), (.vblk, 0xe0000001), (.vfir, 0xe0000002), (.vgath, 0xe0000003), (.vscan, 0xe0000004), (.vhist, 0xe0000005),
    (.vred, 0xe0000006), (.vadd, 0xa0000000), (.vsub, 0xa0000001), (.vadds, 0xa0000002), (.vsubs, 0xa0000003), (.vmin, 0xa0000004),
    (.vmax, 0xa0000005), (.vmins, 0xa0000006), (.vmaxs, 0xa0000007), (.vand, 0xa0000008), (.vor, 0xa0000009), (.vxor, 0xa000000a),
    (.vsll, 0xa000000b), (.vsrl, 0xa000000c), (.vsra, 0xa000000d), (.vabsd, 0xa000000e), (.vavg, 0xa000000f), (.vmul, 0xa0000010),
    (.vmulh, 0xa0000011), (.vmulsh, 0xa0000012), (.vmacw, 0xa0000013), (.vsel, 0xa0000014), (.veq, 0xa4000000), (.vne, 0xa4000001),
    (.vltu, 0xa4000002), (.vgeu, 0xa4000003), (.vlt, 0xa4000004), (.vge, 0xa4000005), (.pand, 0xa4000008), (.por, 0xa4000009),
    (.pxor, 0xa400000a), (.pnot, 0xa400000b), (.vbcast, 0xa8000000), (.vslide, 0xa8000001), (.vmove, 0xa8000002), (.pfroms, 0xa8000003),
    (.ptos, 0xa8000004)] :
      List ((Nat → Fin 64 → Word → Instr) × Nat)).all (fun r => (r.1 0 0 (BitVec.ofNat 32 r.2)).wf) = true := by decide +kernel

/-- A word of another opcode is ill formed in each of these rows: major and minor wrong, or the minor alone. -/
theorem test_wf_other_words :
    ([(.addi, 0xFFFFFFFF), (.andi, 0xFFFFFFFF), (.ori, 0xFFFFFFFF), (.xori, 0xFFFFFFFF), (.slti, 0xFFFFFFFF), (.sltiu, 0xFFFFFFFF),
    (.lui, 0xFFFFFFFF), (.shi, 0xFFFFFFFF), (.lw, 0xFFFFFFFF), (.lh, 0xFFFFFFFF), (.lhu, 0xFFFFFFFF), (.lb, 0xFFFFFFFF),
    (.lbu, 0xFFFFFFFF), (.sw, 0xFFFFFFFF), (.sh, 0xFFFFFFFF), (.sb, 0xFFFFFFFF), (.vld, 0xFFFFFFFF), (.vst, 0xFFFFFFFF),
    (.beq, 0xFFFFFFFF), (.bne, 0xFFFFFFFF), (.blt, 0xFFFFFFFF), (.bge, 0xFFFFFFFF), (.bltu, 0xFFFFFFFF), (.bgeu, 0xFFFFFFFF),
    (.jal, 0xFFFFFFFF), (.bp, 0xFFFFFFFF), (.mfsr, 0xFFFFFFFF), (.mtsr, 0xFFFFFFFF), (.add, 0xFFFFFFFF), (.sub, 0xFFFFFFFF),
    (.and, 0xFFFFFFFF), (.or, 0xFFFFFFFF), (.xor, 0xFFFFFFFF), (.sll, 0xFFFFFFFF), (.srl, 0xFFFFFFFF), (.sra, 0xFFFFFFFF),
    (.slt, 0xFFFFFFFF), (.sltu, 0xFFFFFFFF), (.min, 0xFFFFFFFF), (.max, 0xFFFFFFFF), (.minu, 0xFFFFFFFF), (.maxu, 0xFFFFFFFF),
    (.mul, 0xFFFFFFFF), (.mulh, 0xFFFFFFFF), (.mulhu, 0xFFFFFFFF), (.jalr, 0xFFFFFFFF), (.lend, 0xFFFFFFFF), (.ldrop, 0xFFFFFFFF),
    (.wait, 0xFFFFFFFF), (.reti, 0xFFFFFFFF), (.vblk, 0xFFFFFFFF), (.vfir, 0xFFFFFFFF), (.vgath, 0xFFFFFFFF), (.vscan, 0xFFFFFFFF),
    (.vhist, 0xFFFFFFFF), (.vred, 0xFFFFFFFF), (.vadd, 0xFFFFFFFF), (.vsub, 0xFFFFFFFF), (.vadds, 0xFFFFFFFF), (.vsubs, 0xFFFFFFFF),
    (.vmin, 0xFFFFFFFF), (.vmax, 0xFFFFFFFF), (.vmins, 0xFFFFFFFF), (.vmaxs, 0xFFFFFFFF), (.vand, 0xFFFFFFFF), (.vor, 0xFFFFFFFF),
    (.vxor, 0xFFFFFFFF), (.vsll, 0xFFFFFFFF), (.vsrl, 0xFFFFFFFF), (.vsra, 0xFFFFFFFF), (.vabsd, 0xFFFFFFFF), (.vavg, 0xFFFFFFFF),
    (.vmul, 0xFFFFFFFF), (.vmulh, 0xFFFFFFFF), (.vmulsh, 0xFFFFFFFF), (.vmacw, 0xFFFFFFFF), (.vsel, 0xFFFFFFFF), (.veq, 0xFFFFFFFF),
    (.vne, 0xFFFFFFFF), (.vltu, 0xFFFFFFFF), (.vgeu, 0xFFFFFFFF), (.vlt, 0xFFFFFFFF), (.vge, 0xFFFFFFFF), (.pand, 0xFFFFFFFF),
    (.por, 0xFFFFFFFF), (.pxor, 0xFFFFFFFF), (.pnot, 0xFFFFFFFF), (.vbcast, 0xFFFFFFFF), (.vslide, 0xFFFFFFFF), (.vmove, 0xFFFFFFFF),
    (.pfroms, 0xFFFFFFFF), (.ptos, 0xFFFFFFFF), (.add, 0x3e), (.sub, 0x3e), (.and, 0x3e), (.or, 0x3e), (.xor, 0x3e), (.sll, 0x3e),
    (.srl, 0x3e), (.sra, 0x3e), (.slt, 0x3e), (.sltu, 0x3e), (.min, 0x3e), (.max, 0x3e), (.minu, 0x3e), (.maxu, 0x3e), (.mul, 0x3e),
    (.mulh, 0x3e), (.mulhu, 0x3e), (.jalr, 0x3e), (.lend, 0xfc00003e), (.ldrop, 0xfc00003e), (.wait, 0xfc00003e), (.reti, 0xfc00003e),
    (.vblk, 0xe000003e), (.vfir, 0xe000003e), (.vgath, 0xe000003e), (.vscan, 0xe000003e), (.vhist, 0xe000003e), (.vred, 0xe000003e),
    (.vadd, 0xa00000fe), (.vsub, 0xa00000fe), (.vadds, 0xa00000fe), (.vsubs, 0xa00000fe), (.vmin, 0xa00000fe), (.vmax, 0xa00000fe),
    (.vmins, 0xa00000fe), (.vmaxs, 0xa00000fe), (.vand, 0xa00000fe), (.vor, 0xa00000fe), (.vxor, 0xa00000fe), (.vsll, 0xa00000fe),
    (.vsrl, 0xa00000fe), (.vsra, 0xa00000fe), (.vabsd, 0xa00000fe), (.vavg, 0xa00000fe), (.vmul, 0xa00000fe), (.vmulh, 0xa00000fe),
    (.vmulsh, 0xa00000fe), (.vmacw, 0xa00000fe), (.vsel, 0xa00000fe), (.veq, 0xa40000fe), (.vne, 0xa40000fe), (.vltu, 0xa40000fe),
    (.vgeu, 0xa40000fe), (.vlt, 0xa40000fe), (.vge, 0xa40000fe), (.pand, 0xa40000fe), (.por, 0xa40000fe), (.pxor, 0xa40000fe),
    (.pnot, 0xa40000fe), (.vbcast, 0xa80000fe), (.vslide, 0xa80000fe), (.vmove, 0xa80000fe), (.pfroms, 0xa80000fe), (.ptos, 0xa80000fe)] :
      List ((Nat → Fin 64 → Word → Instr) × Nat)).all (fun r => !(r.1 0 0 (BitVec.ofNat 32 r.2)).wf) = true := by decide +kernel
/-- A packet without payload. -/
def pkt0 : LanePkt := { hdr := 0, payload := [], crc := 0, uncorrectable := 0, corrected := 0, overlaps := false }

/-- A packet with one byte too many. -/
def longPkt : LanePkt := { pkt0 with payload := zeros 65536 }

/-- A happening of source kind 1. -/
def hap0 : Happening := { kind := 1, index := 0, edge := 0 }

/-- A serial reading of zeros. -/
def reading0 : SerialReading := { frame := 0, check := 0, nE := true, nW := true, noStart := false }

/-- A test result of zeros. -/
def result0 : TestResult := { inverted := [], received := [], verdict := 0, errors := 0, body := [] }

/-- The shortest frame on a PTP port. -/
def ptp0 : PtpFrame := { transport := .annexF, length := 18, message := [] }

/-- An operand out of its range makes an event ill formed: one event for each check. -/
theorem test_wf_operands_out_of_range :
    ([.registerWrite 0 0 (.bar0 0 3 0 0), .linkUp 0 0 30 16, .linkUp 0 0 320 3, .linkCapacityChange 0 0 30 16,
    .linkCapacityChange 0 0 320 3, .l0pRequest 0 0 3, .hostReadFailure 0 0 (.index 0) 4 true 0, .poll 0 0 [(1024, 0)],
    .idlePoll 0 0 [(1024, 0)], .diagTestEnd 0 0 { result0 with verdict := 2 }, .laneDrop 0 0 0, .laneDrop 0 0 6,
    .undefinedDt 0 0 longPkt, .hello 0 0 longPkt, .frameStart 0 0 longPkt, .frameEnd 0 0 longPkt, .lineStart 0 0 longPkt,
    .lineEnd 0 0 longPkt, .pixelPacket 0 0 longPkt, .exposureReport 0 0 longPkt, .cameraEvent 0 0 longPkt, .controlResponse 0 0 longPkt,
    .timeSyncResponse 0 0 longPkt 0, .ethernetFrame 0 0 ⟨zeros 17, 0⟩, .gvspPacket 0 0 ⟨zeros 17, 0⟩,
    .transition 0 0 { hap0 with kind := 0 }, .transition 0 0 { hap0 with kind := 7 }, .transition 0 0 { hap0 with index := 256 },
    .transition 0 0 { hap0 with edge := 3 }, .serialReading 0 0 { reading0 with frame := 2 ^ 64 },
    .ptpMessage 0 .timing { ptp0 with length := 17 } 0, .ptpMessage 0 .timing { ptp0 with length := 9217 } 0, .streamBlocked 0 0 0,
    .streamBlocked 0 0 6, .hardFault 0 0 0 0, .hardFault 0 11 0 0, .spareTakeover 0 0 0 [], .spareTakeover 0 9 0 [],
    .correctedError 0 0 0 0, .correctedError 0 9 0 0, .hbmUncorrectable 0 128 0 .fixedArea, .startUpSelfTestsDone 0 [(0, 0)],
    .startUpSelfTestsDone 0 [(5, 0)], .cgHang 0 true (zeros 33), .plannedSpareInSwitch 0 0 0, .plannedSpareInSwitch 0 9 0,
    .cgXferComplete 0 (.done (zeros 34) true), .temp 0 (.write (zeros 35)) 0, .guardReset 0 (.write (zeros 35)),
    .identity 0 (.write (zeros 35)), .mgStatus 0 (.write (zeros 35)), .time 0 (.write (zeros 35)), .fatalCount 0 (.write (zeros 35)),
    .fatalIndex 0 (.write (zeros 35)), .fatalSlot 0 (.write (zeros 35)), .poolIndex 0 (.write (zeros 35)), .pool 0 (.write (zeros 35)),
    .alertStatus 0 (.write (zeros 35)), .alertMask 0 (.write (zeros 35)), .notifyConfig 0 (.write (zeros 35)),
    .thermLimit 0 (.write (zeros 35)), .cgXfer 0 (.write (zeros 35)), .cgResult 0 (.write (zeros 35)), .cgCycle 0 (.write (zeros 35)),
    .cgCycleMs 0 (.write (zeros 35)), .wake 0 (.write (zeros 35)), .guardArm 0 (.write (zeros 35)),
    .diagTestEnd 0 0 { result0 with errors := 2 ^ 64 }] :
      List Instr).all (fun i => !i.wf) = true := by decide +kernel

/-- An operand at the edge of its range leaves it well formed. -/
theorem test_wf_operands_in_range :
    ([.registerWrite 0 0 (.bar0 0 8 0 0), .linkUp 0 0 640 16, .linkCapacityChange 0 0 25 1, .l0pRequest 0 0 8,
    .hostReadFailure 0 0 (.index 0) 3 true 0, .poll 0 0 [(1023, 0)], .laneDrop 0 0 5, .hello 0 0 pkt0, .ethernetFrame 0 0 ⟨zeros 18, 0⟩,
    .transition 0 0 hap0, .serialReading 0 0 reading0, .ptpMessage 0 .timing ptp0 0, .streamBlocked 0 0 5, .hardFault 0 10 0 0,
    .spareTakeover 0 8 0 [], .correctedError 0 8 0 0, .hbmUncorrectable 0 127 0 .fixedArea, .startUpSelfTestsDone 0 [(4, 0)],
    .cgHang 0 true (zeros 32), .plannedSpareInSwitch 0 8 0, .cgXferComplete 0 (.done (zeros 33) true), .wake 0 (.write (zeros 34)),
    .diagTestEnd 0 0 result0] :
      List Instr).all (fun i => i.wf) = true := by decide +kernel

/-- RingPortAndClaimCommands: a state and operands that its checks accept, for each of its commands. -/
theorem test_meets_ring_and_port :
    Meets (on .standby) [] 0x01 nopChecks ∧
    Meets (on .standby) [(8, 2), (0xA, 8), (0xB, 6), (0xC, 0x50000), (0x18, 1), (0x1A, 1)] 0x02 ringCreateChecks ∧
    Meets (on .standby) [(8, 1023), (0xA, 1), (0xB, 16), (0xC, 0x50000), (0x1A, 1)] 0x02 ringCreateChecks ∧
    Meets (withRing (on .standby) 2 3) [(8, 2)] 0x03 ringDestroyChecks ∧
    Meets (on .standby) [(8, 1), (0xE, 1)] 0x04 ringModerateChecks ∧
    Meets (on .standby) [(8, 1)] 0x05 portConfigChecks ∧
    Meets (on .standby) [(8, 2000)] 0x05 portConfigChecks ∧
    Meets (on .standby) [(8, 0)] 0x06 claimPassChecks ∧
    Meets (twoPorts .standby) [(8, 1)] 0x06 claimPassChecks :=
  ⟨meets_of (by decide +kernel), meets_of (by decide +kernel), meets_of (by decide +kernel), meets_of (by decide +kernel), meets_of (by decide +kernel), meets_of (by decide +kernel), meets_of (by decide +kernel), meets_of (by decide +kernel), meets_of (by decide +kernel)⟩

/-- AuxiliaryMoversTakeQueriesAndImages: a state and operands that its checks accept, for each of its commands. -/
theorem test_meets_queries_and_images :
    Meets (on .standby) [(8, 0)] 0x07 (queryChecks (fun k => k = 0) 64) ∧
    Meets (on .standby) [(8, 1)] 0x07 (queryChecks (fun k => k = 1) 12288) ∧
    Meets (on .standby) [(8, 2)] 0x07 (queryChecks (fun k => k = 2) 2272) ∧
    Meets (on .standby) [(8, 3)] 0x07 (queryChecks (fun k => 3 ≤ k && k ≤ 8) 1056) ∧
    Meets (on .standby) [(8, 8)] 0x07 (queryChecks (fun k => 3 ≤ k && k ≤ 8) 1056) ∧
    Meets (on .configure) [(8, 1), (0x18, 64)] 0x21 tableLoadChecks ∧
    Meets (on .configure) [(8, 63), (0x18, 64)] 0x28 kernelLoadChecks ∧
    Meets (on .configure) [(8, 31), (0x18, 64)] 0x3A seqLoadChecks :=
  ⟨meets_of (by decide +kernel), meets_of (by decide +kernel), meets_of (by decide +kernel), meets_of (by decide +kernel), meets_of (by decide +kernel), meets_of (by decide +kernel), meets_of (by decide +kernel), meets_of (by decide +kernel)⟩

/-- SconceAndTableCommandsRun: a state and operands that its checks accept, for each of its commands. -/
theorem test_meets_sconces_and_tables :
    Meets (on .configure) [(0x18, 256), (0x1A, 1)] 0x20 sconceConfigChecks ∧
    Meets (on .configure) [(8, 511), (0xB, 127), (0x18, 0x8000), (0x1A, 1)] 0x20 sconceConfigChecks ∧
    Meets (sconce0 (on .configure)) [(0xA, 1)] 0x20 sconceReleaseChecks ∧
    Meets (sconce0 (on .configure)) [(0xA, 1), (0x18, 256), (0x1A, 1)] 0x23 paramSetChecks ∧
    Meets (sconce0 (on .configure)) [(0xA, 1), (0xB, 1), (0x10, 7), (0x18, 256), (0x1A, 1)] 0x23 paramSetChecks ∧
    Meets (table0 (on .configure)) [(8, 5)] 0x22 tableReleaseChecks :=
  ⟨meets_of (by decide +kernel), meets_of (by decide +kernel), meets_of (by decide +kernel), meets_of (by decide +kernel), meets_of (by decide +kernel), meets_of (by decide +kernel)⟩

/-- StreamCommandsRun: a state and operands that its checks accept, for each of its commands. -/
theorem test_meets_streams :
    Meets (stream0 (on .configure) .configured) [(0xE, 2), (0x10, 3), (0x18, 5), (0x1C, 1)] 0x10 streamConfigChecks ∧
    Meets (stream0 (on .acquire) .configured) [] 0x11 streamStartChecks ∧
    Meets (stream0 (on .acquire) .running) [] 0x12 streamStopChecks ∧
    Meets ((stream0 (on .acquire) .configured).modStream 0 (fun x => { x with startPending := some 0 })) [] 0x12 streamStopChecks ∧
    Meets (openFrame0 (stream0 (on .acquire) .running)) [] 0x12 streamStopChecks ∧
    Meets (stream0 (on .configure) .configured) [] 0x14 streamReleaseChecks :=
  ⟨meets_of (by decide +kernel), meets_of (by decide +kernel), meets_of (by decide +kernel), meets_of (by decide +kernel), meets_of (by decide +kernel), meets_of (by decide +kernel)⟩

/-- MoverCommandsRun: a state and operands that its checks accept, for each of its commands. -/
theorem test_meets_movers :
    Meets (partner0 (stream0 (on .acquire) .running)) [] 0x13 streamMoveChecks ∧
    Meets (stream0 (on .acquire) .running) [(8, 2)] 0x15 moverResumeChecks ∧
    Meets (on .acquire) [(8, 10), (0xA, 7)] 0x15 moverResumeChecks ∧
    Meets (stream0 (on .acquire) .running) [(8, 3), (0xC, 2), (0x10, 4096)] 0x15 moverPaceChecks ∧
    Meets (on .acquire) [(8, 11), (0xC, 1)] 0x15 moverPaceChecks ∧
    Meets (stream0 (on .acquire) .running) [] 0x15 moverStopChecks ∧
    Meets (on .acquire) [(8, 8)] 0x15 moverStopChecks ∧
    Meets (stream0 (on .acquire) .running) [(8, 1)] 0x15 moverSnuffChecks ∧
    Meets (on .acquire) [(8, 9)] 0x15 moverSnuffChecks ∧
    Meets (on .configure) [(8, 4), (0x14, 160)] 0x15 moverSpoolChecks ∧
    Meets (on .configure) [(8, 4)] 0x15 moverSpoolChecks :=
  ⟨meets_of (by decide +kernel), meets_of (by decide +kernel), meets_of (by decide +kernel), meets_of (by decide +kernel), meets_of (by decide +kernel), meets_of (by decide +kernel), meets_of (by decide +kernel), meets_of (by decide +kernel), meets_of (by decide +kernel), meets_of (by decide +kernel), meets_of (by decide +kernel)⟩

/-- MapCommandsMapTheirRange: a state and operands that its checks accept, for each of its commands. -/
theorem test_meets_maps :
    Meets (on .configure) [(8, 8), (0xC, 1), (0x10, 2 ^ 30)] 0x16 mapRunChecks ∧
    Meets (on .configure) [(8, 9), (0xC, 1), (0x10, 2 ^ 30)] 0x16 mapListChecks ∧
    Meets (on .configure) [(8, 10), (0xC, 1)] 0x16 mapUnmapChecks :=
  ⟨meets_of (by decide +kernel), meets_of (by decide +kernel), meets_of (by decide +kernel)⟩

/-- KernelAndBindCommandsRun: a state and operands that its checks accept, for each of its commands. -/
theorem test_meets_kernels :
    Meets (lantern0 (on .configure)) [(9, 1)] 0x29 kernelSwapChecks ∧
    Meets (lantern0 (on .configure)) [(9, 3), (0x10, 9)] 0x29 kernelSwapChecks ∧
    Meets (sconce0 (on .configure)) [(8, 63), (0xC, 1)] 0x2A lanternBindChecks ∧
    Meets (lantern0 (on .configure)) [(8, 0x40)] 0x2A lanternReleaseChecks :=
  ⟨meets_of (by decide +kernel), meets_of (by decide +kernel), meets_of (by decide +kernel), meets_of (by decide +kernel)⟩

/-- FabricCommandsRun: a state and operands that its checks accept, for each of its commands. -/
theorem test_meets_fabric :
    Meets (on .configure) [(0xC, 1)] 0x40 bindChecks ∧
    Meets ((on .configure).setChannel 0 { Channel.reset with owner := 0, prodKind := 1 }) [(8, 1)] 0x40 eventSignalChecks ∧
    Meets (on .configure) [(8, 2), (0xC, 1)] 0x40 eventGroupsChecks ∧
    Meets (on .configure) [(8, 3), (9, 247)] 0x40 eventStatusChecks ∧
    Meets ((on .configure).setChannel 0 { Channel.reset with owner := 0, prodKind := 1 }) [] 0x41 eventReleaseChecks :=
  ⟨meets_of (by decide +kernel), meets_of (by decide +kernel), meets_of (by decide +kernel), meets_of (by decide +kernel), meets_of (by decide +kernel)⟩

/-- LaneCommandsRun: a state and operands that its checks accept, for each of its commands. -/
theorem test_meets_lanes :
    Meets ((on .configure).setLane 0 { Lane.reset with owner := some 0, mode := .vlp, st := .up }) [(0xB, 1)] 0x31 laneRequestChecks ∧
    Meets ((on .configure).setLane 0 { Lane.reset with owner := some 0, mode := .merged, st := .up }) [(9, 15), (0xB, 8)] 0x31 laneRequestChecks ∧
    Meets ((on .configure).setLane 0 { Lane.reset with owner := some 0, mode := .ethernet, st := .up }) [(0xA, 14)] 0x32 packetSendChecks ∧
    Meets ((on .configure).setLane 0 { Lane.reset with owner := some 0, mode := .ethernet, st := .up }) [(0xA, 9212)] 0x32 packetSendChecks ∧
    Meets (on .configure) [(8, 127), (9, 1), (0xC, 128)] 0x30 laneConfigChecks ∧
    Meets (on .configure) [] 0x30 laneConfigChecks :=
  ⟨meets_of (by decide +kernel), meets_of (by decide +kernel), meets_of (by decide +kernel), meets_of (by decide +kernel), meets_of (by decide +kernel), meets_of (by decide +kernel)⟩

/-- TimeCommandsRun: a state and operands that its checks accept, for each of its commands. -/
theorem test_meets_time :
    Meets (on .standby) [(0xF, 3), (0x10, 1000), (0x14, 1), (0x16, 4), (0x18, 1), (0x1A, 1)] 0x38 timeConfigureChecks ∧
    Meets (on .standby) [(8, 1), (9, 1)] 0x38 setTimeChecks ∧
    Meets (on .standby) [(8, 1), (9, 2), (0x18, 4294967)] 0x38 setTimeChecks ∧
    Meets (on .standby) [(8, 1), (9, 3)] 0x38 setTimeChecks ∧
    Meets (on .standby) [(8, 1), (9, 5)] 0x38 setTimeChecks ∧
    Meets (on .standby) [(8, 2)] 0x38 readStampsChecks ∧
    Meets (on .standby) [(8, 3)] 0x38 timeStatusChecks :=
  ⟨meets_of (by decide +kernel), meets_of (by decide +kernel), meets_of (by decide +kernel), meets_of (by decide +kernel), meets_of (by decide +kernel), meets_of (by decide +kernel), meets_of (by decide +kernel)⟩

/-- EncoderCommandsAndRowsRun, its commands: a state and operands that its checks accept, for each of its commands. -/
theorem test_meets_encoders :
    Meets (on .standby) [(9, 15), (0xB, 1), (0x12, 1)] 0x39 encoderConfigureChecks ∧
    Meets (encoder0 (on .standby)) [(8, 1)] 0x39 setCountChecks ∧
    Meets (on .standby) [(8, 2)] 0x39 dividerChecks ∧
    Meets (((encoder0 (on .standby)).setGio 0 { Gio.reset with dir := 1, owner := some 0 }).setGio 1 { Gio.reset with dir := 1, owner := some 0 }) [(8, 2), (0xA, 1), (0xC, 1), (0xE, 1), (0x10, 1), (0x12, 40)] 0x39 dividerChecks ∧
    Meets (on .standby) [(8, 3)] 0x39 encoderStatusChecks ∧
    Meets (on .standby) [(8, 4)] 0x39 encoderReleaseChecks :=
  ⟨meets_of (by decide +kernel), meets_of (by decide +kernel), meets_of (by decide +kernel), meets_of (by decide +kernel), meets_of (by decide +kernel), meets_of (by decide +kernel)⟩

/-- TriggerCommandsRun: a state and operands that its checks accept, for each of its commands. -/
theorem test_meets_triggers :
    Meets (on .configure) [(8, 255), (9, 1)] 0x3B targetConfigChecks ∧
    Meets (on .configure) [] 0x3B targetConfigChecks ∧
    Meets (sequencer0 (on .acquire)) [] 0x3C triggerStartChecks ∧
    Meets (sequencer0 (on .acquire)) [(8, 1)] 0x3C triggerHaltChecks ∧
    Meets (sequencer0 (on .acquire)) [(8, 2)] 0x3C triggerSlotArmChecks ∧
    Meets (sequencer0 (on .acquire)) [(8, 3)] 0x3C triggerSlotDisarmChecks ∧
    Meets ((on .acquire).setTarget 0 { Target.reset with owner := some 0, cfg := { Target.reset.cfg with kind := 1, control := 1 } }) [(9, 2), (0x10, 1000)] 0x3D triggerHandoverChecks ∧
    Meets (on .standby) [(8, 47), (9, 1)] 0x3E gioConfigChecks ∧
    Meets (on .standby) [(0xA, 1)] 0x3E gioConfigChecks :=
  ⟨meets_of (by decide +kernel), meets_of (by decide +kernel), meets_of (by decide +kernel), meets_of (by decide +kernel), meets_of (by decide +kernel), meets_of (by decide +kernel), meets_of (by decide +kernel), meets_of (by decide +kernel), meets_of (by decide +kernel)⟩

/-- ModesAndSupervisors, its command: a state and operands that its checks accept, for each of its commands. -/
theorem test_meets_modes :
    Meets (on .standby) [(8, 2)] 0x48 modeSetChecks ∧
    Meets (on .configure) [(8, 2)] 0x48 modeSetChecks :=
  ⟨meets_of (by decide +kernel), meets_of (by decide +kernel)⟩

/-- SpareCommandsRun: a state and operands that its checks accept, for each of its commands. -/
theorem test_meets_spares :
    Meets (on .configure) [(9, 1), (0xC, 0xFFFF)] 0x49 sparePlanChecks ∧
    Meets (on .configure) [(8, 1), (9, 1)] 0x49 spareForceChecks ∧
    Meets (on .configure) [(8, 2), (9, 1), (0xA, 32)] 0x49 spareRetireChecks ∧
    Meets (on .configure) [(8, 2), (9, 10), (0xA, 2)] 0x49 spareRetireChecks ∧
    Meets (on .configure) [(8, 3), (9, 1), (0x10, 1)] 0x49 sparePolicyChecks ∧
    Meets (on .configure) [(8, 1), (0xC, 1000000)] 0x4A patrolConfigChecks :=
  ⟨meets_of (by decide +kernel), meets_of (by decide +kernel), meets_of (by decide +kernel), meets_of (by decide +kernel), meets_of (by decide +kernel), meets_of (by decide +kernel)⟩

/-- JournalRuns, its commands: a state and operands that its checks accept, for each of its commands. -/
theorem test_meets_journal :
    Meets (on .configure) [(0xC, 200)] 0x4B journalTargetsChecks ∧
    Meets (withRing (on .configure) 2 8) [(9, 1), (0xA, 2), (0xC, 1)] 0x4B journalTargetsChecks ∧
    Meets (on .configure) [(8, 1)] 0x4B journalMarkChecks ∧
    Meets ({ (on .configure) with jn := { Journal.reset with nv := [(some 0, ⟨0, 1, 0, 0, 0, []⟩)] } }) [(8, 2), (0x18, 1)] 0x4B readNvChecks ∧
    Meets ({ (on .configure) with jn := { Journal.reset with frozen := some 0 } }) [(8, 3)] 0x4B thawChecks ∧
    Meets (on .configure) [(8, 4)] 0x4B journalStatusChecks :=
  ⟨meets_of (by decide +kernel), meets_of (by decide +kernel), meets_of (by decide +kernel), meets_of (by decide +kernel), meets_of (by decide +kernel), meets_of (by decide +kernel)⟩

/-- RecordAndReplayRun: a state and operands that its checks accept, for each of its commands. -/
theorem test_meets_record_and_replay :
    Meets (on .configure) [(9, 128)] 0x4C recordAreaChecks ∧
    Meets ({ (stream0 (on .record) .configured) with recorder := { Recorder.reset with areaGiB := 1 } }) [(8, 1), (0xE, 1), (0x12, 60000)] 0x4C recordStartChecks ∧
    Meets ({ (stream0 (on .record) .configured) with recorder := { Recorder.reset with areaGiB := 1 } }) [(8, 2)] 0x4C recordStopChecks ∧
    Meets (({ (stream0 (on .record) .configured) with recorder := { Recorder.reset with areaGiB := 1 } }).setCapture 0 (captureOf 0 (cmd 0x4C [(8, 1), (0xE, 1), (0x12, 1)]).e)) [(8, 2)] 0x4C recordStopChecks ∧
    Meets (withRing (on .record) 2 6) [(8, 3), (0x10, 2)] 0x4C recordExportChecks ∧
    Meets (on .configure) [(8, 4)] 0x4C recordStatusChecks ∧
    Meets (withRing (sconce0 (on .replay)) 2 7) [(0xE, 2)] 0x4D replayAddChecks ∧
    Meets (withRing (sconce0 (on .replay)) 2 7) [(8, 1), (0xE, 2), (0x18, 256)] 0x4D replayStartChecks ∧
    Meets (on .replay) [(8, 2)] 0x4D replayPauseChecks ∧
    Meets (on .replay) [(8, 3)] 0x4D replayResumeChecks ∧
    Meets (on .replay) [(8, 4)] 0x4D replayEndChecks :=
  ⟨meets_of (by decide +kernel), meets_of (by decide +kernel), meets_of (by decide +kernel), meets_of (by decide +kernel), meets_of (by decide +kernel), meets_of (by decide +kernel), meets_of (by decide +kernel), meets_of (by decide +kernel), meets_of (by decide +kernel), meets_of (by decide +kernel), meets_of (by decide +kernel)⟩

/-- DiagnosticsRun, its commands: a state and operands that its checks accept, for each of its commands. -/
theorem test_meets_diagnostics :
    Meets (on .diagnose) [(0x10, 1)] 0x4E (diagChecks 0) ∧
    Meets (on .diagnose) [(8, 1), (0x10, 3600000)] 0x4E (diagChecks 1) ∧
    Meets (on .diagnose) [(8, 2), (9, 8), (0x10, 1)] 0x4E (diagChecks 2) ∧
    Meets (on .diagnose) [(8, 3), (0xE, 20)] 0x4E (diagChecks 3) ∧
    Meets (on .diagnose) [(8, 4)] 0x4E (diagChecks 4) ∧
    Meets (on .diagnose) [(8, 5)] 0x4E (diagChecks 5) ∧
    Meets (on .diagnose) [(8, 6)] 0x4E (diagChecks 6) ∧
    Meets (on .diagnose) [(8, 7)] 0x4E (diagChecks 7) ∧
    Meets ({ (on .diagnose) with tests := [diagTest0] }) [(8, 8), (0xC, 0x50)] 0x4E abortChecks :=
  ⟨meets_of (by decide +kernel), meets_of (by decide +kernel), meets_of (by decide +kernel), meets_of (by decide +kernel), meets_of (by decide +kernel), meets_of (by decide +kernel), meets_of (by decide +kernel), meets_of (by decide +kernel), meets_of (by decide +kernel)⟩

/-! ### Lantern instructions -/

/-- A kernel of two words w, with a routine at word 0 for every entry of its header and both handlers at word 1. -/
def kernel0 (w : Nat) : Kernel :=
  { header := zeros 0x14 ++ leBytes 2 1 ++ leBytes 2 1 ++ leBytes 1 0x11 ++ zeros 39, code := [w, w], data := [], segment := [] }

/-- Lantern 0 runs LINE_ENTRY with the word w at PC, and is otherwise as f makes it. -/
def lit (f : Lantern → Lantern) (w : Nat) : State :=
  ((on .acquire).setLantern 0 (f { Lantern.reset with st := .active, owner := some 0, routine := .lineEntry, bank0 := some (kernel0 w) })).elapse 0

/-- What the statements read of it: the Lantern where the instruction issues. -/
def litAt (f : Lantern → Lantern) (w : Nat) : Lantern := ((lit f w).awake 0).lantern 0

/-- The word is at PC of Lantern 0, and PC + 1 lies in the code. -/
def Lit (f : Lantern → Lantern) (w : Nat) : Prop :=
  (lit f w).AtPc 0 (BitVec.ofNat 32 w) ∧ (litAt f w).pc + 1 < (litAt f w).codeWords

/-- ScalarInstructions: a word of each instruction of major opcode 0x00, and one that writes s0. -/
theorem test_meets_scalar_registers :
    ∀ r ∈ ([(0x221800, 0x0), (0x221801, 0x1), (0x221802, 0x2), (0x221803, 0x3), (0x221804, 0x4), (0x221805, 0x5), (0x221806, 0x6),
      (0x221807, 0x7), (0x221808, 0x8), (0x221809, 0x9), (0x22180A, 0xA), (0x22180B, 0xB), (0x22180C, 0xC), (0x22180D, 0xD),
      (0x221810, 0x10), (0x221811, 0x11), (0x221812, 0x12), (0x1FF800, 0x0)] : List (Nat × Nat)),
      Lit id r.1 ∧ iMajor r.1 = 0 ∧ iMinor r.1 = r.2 := by
  simp only [State.AtPc, Lit]; decide +kernel

/-- ScalarInstructions: a word of each immediate instruction, SHI with each of its three shifts. -/
theorem test_meets_scalar_immediates :
    ∀ r ∈ ([(0x422FFFF, 0x1), (0x822FFFF, 0x2), (0xC22FFFF, 0x3), (0x1022FFFF, 0x4), (0x1422FFFF, 0x5), (0x1822FFFF, 0x6), (0x1C20FFFF, 0x7),
      (0x20220000, 0x8), (0x2022003F, 0x8), (0x2022005F, 0x8)] : List (Nat × Nat)),
      Lit id r.1 ∧ iMajor r.1 = r.2 := by
  simp only [State.AtPc, Lit]; decide +kernel

/-- ScalarRegistersReadBack: s31 and s0 at the edges of its clauses, and a Lantern whose fast handler runs. -/
theorem test_meets_scalar_registers_read_back :
    (31 < 32 ∧ 0 < 32) ∧ ({ Lantern.reset with fast := some Lantern.reset.save }.fast.isSome = true ∧ 16 ≤ 31) := by decide +kernel

/-- ScalarLoadsAndTraps: each load, aligned, from the local store. -/
theorem test_meets_scalar_loads :
    ∀ r ∈ ([(0x40200000, 0x10, 0x4), (0x44200002, 0x11, 0x2), (0x48207FFE, 0x12, 0x2), (0x4C200001, 0x13, 0x1), (0x50207FFF, 0x14, 0x1)] : List (Nat × Nat × Nat)),
      Lit id r.1 ∧ iMajor r.1 = r.2.1 ∧ (let a := ((litAt id r.1).sreg (iRa r.1) + sx16 (iImm r.1)) % 2 ^ 32
        a % r.2.2 = 0 ∧ (litAt id r.1).rangeOf a = .store ∧ (litAt id r.1).stalls a r.2.2 = false) := by
  simp only [State.AtPc, Lit]; decide +kernel

/-- ScalarLoadsAndTraps: an aligned word load from the window, the output line and the blocks. -/
theorem test_meets_scalar_loads_elsewhere :
    ∀ b ∈ ([(0x1070000, .window), (0x2000000, .out), (0x5000000, .blocks)] : List (Nat × LtRange)),
      let f := fun x : Lantern => x.setS 2 b.1
      Lit f 0x40220000 ∧ iMajor 0x40220000 = 0x10 ∧ (let a := ((litAt f 0x40220000).sreg 2 + sx16 0) % 2 ^ 32
        a % 4 = 0 ∧ (litAt f 0x40220000).rangeOf a = b.2 ∧ (litAt f 0x40220000).stalls a 4 = false) := by
  simp only [State.AtPc, Lit]; decide +kernel

/-- ScalarLoadsAndTraps: each access of more than a byte, misaligned. -/
theorem test_meets_misaligned :
    ∀ r ∈ ([(0x40200002, 0x10, 0x4), (0x40200001, 0x10, 0x4), (0x44200001, 0x11, 0x2), (0x48200001, 0x12, 0x2), (0x54200001, 0x15, 0x4),
      (0x58200001, 0x16, 0x2)] : List (Nat × Nat × Nat)),
      Lit id r.1 ∧ iMajor r.1 = r.2.1 ∧ ((litAt id r.1).sreg (iRa r.1) + sx16 (iImm r.1)) % 2 ^ 32 % r.2.2 ≠ 0 := by
  simp only [State.AtPc, Lit]; decide +kernel

/-- ScalarLoadsAndTraps: each access at an address in no range, the first after the local store. -/
theorem test_meets_access :
    ∀ r ∈ ([(0x40220000, 0x10, 0x4), (0x44220000, 0x11, 0x2), (0x48220000, 0x12, 0x2), (0x4C220000, 0x13, 0x1), (0x50220000, 0x14, 0x1),
      (0x54220000, 0x15, 0x4), (0x58220000, 0x16, 0x2), (0x5C220000, 0x17, 0x1)] : List (Nat × Nat × Nat)),
      let f := fun x : Lantern => x.setS 2 0x200000
      Lit f r.1 ∧ iMajor r.1 = r.2.1 ∧ (let a := ((litAt f r.1).sreg (iRa r.1) + sx16 (iImm r.1)) % 2 ^ 32
        a % r.2.2 = 0 ∧ (litAt f r.1).rangeOf a = .fault) := by
  simp only [State.AtPc, Lit]; decide +kernel

/-- ScalarLoadsAndTraps: each access of less than 4 bytes at the gather port, and one at the interrupt controller. -/
theorem test_meets_narrow_access :
    ∀ r ∈ ([(0x44220000, 0x11, 0x2, 0x3000000), (0x48220000, 0x12, 0x2, 0x3000000), (0x4C220000, 0x13, 0x1, 0x3000000),
      (0x50220000, 0x14, 0x1, 0x3000000), (0x58220000, 0x16, 0x2, 0x3000000), (0x5C220000, 0x17, 0x1, 0x3000000),
      (0x44220000, 0x11, 0x2, 0x4000000)] : List (Nat × Nat × Nat × Nat)),
      let f := fun x : Lantern => x.setS 2 r.2.2.2
      Lit f r.1 ∧ iMajor r.1 = r.2.1 ∧ (let a := ((litAt f r.1).sreg (iRa r.1) + sx16 (iImm r.1)) % 2 ^ 32
        a % r.2.2.1 = 0 ∧ r.2.2.1 < 4 ∧ ((litAt f r.1).rangeOf a = .gather ∨ (litAt f r.1).rangeOf a = .irq)) := by
  simp only [State.AtPc, Lit]; decide +kernel

/-- ScalarStores: each store at the last word of the local store. -/
theorem test_meets_stores :
    ∀ r ∈ ([(0x5422FFFC, 0x15, 0x4), (0x5822FFFC, 0x16, 0x2), (0x5C22FFFC, 0x17, 0x1)] : List (Nat × Nat × Nat)),
      let f := fun x : Lantern => x.setS 2 0x200000
      Memory.wf (litAt f r.1).store = true ∧ Lit f r.1 ∧ iMajor r.1 = r.2.1 ∧
        (let a := ((litAt f r.1).sreg (iRa r.1) + sx16 (iImm r.1)) % 2 ^ 32
         a % r.2.2 = 0 ∧ a + r.2.2 ≤ 0x200000 ∧ (litAt f r.1).stalls a r.2.2 = false) := by
  simp only [State.AtPc, Lit]; decide +kernel

/-- ScalarLoadsAndTraps and ScalarStores: a store that a gather writes meanwhile waits, and is outside their premises. -/
theorem test_waits_for_gather :
    (litAt (fun x => { x with gather := some { segment := [], src := 0, dest := 0, elem := 0, indices := [0] } }) 0x54200000).stalls 0 4 = true := by
  decide +kernel

/-- BranchesAndJumps: each branch, taken and not taken, with its target in the code. -/
theorem test_meets_branches :
    ∀ r ∈ ([(0x80220001, 0x20, fun a b => a == b), (0x84220001, 0x21, fun a b => a != b),
      (0x88220001, 0x22, fun a b => decide (toInt 32 a < toInt 32 b)), (0x8C220001, 0x23, fun a b => decide (toInt 32 b ≤ toInt 32 a)),
      (0x90220001, 0x24, fun a b => decide (a < b)), (0x94220001, 0x25, fun a b => decide (b ≤ a))] :
      List (Nat × Nat × (Nat → Nat → Bool))), (∃ a ∈ [0, 1], ∃ b ∈ [0, 1], r.2.2 a b = true) ∧ (∃ a ∈ [0, 1], ∃ b ∈ [0, 1], r.2.2 a b = false) ∧
      ∀ a ∈ [0, 1], ∀ b ∈ [0, 1],
      let f := fun x : Lantern => (x.setS 1 a).setS 2 b
      let x := litAt f r.1
      let target : Int := if r.2.2 (x.sreg (iRd r.1)) (x.sreg (iRa r.1)) then (x.pc : Int) + toInt 16 (iImm r.1) else (x.pc : Int) + 1
      (lit f r.1).AtPc 0 (BitVec.ofNat 32 r.1) ∧ iMajor r.1 = r.2.1 ∧ 0 ≤ target ∧ target < x.codeWords := by
  simp only [State.AtPc]; decide +kernel

/-- BranchesAndJumps: BP of p0 on ANY, ALL and NONE, the last of which is not taken. -/
theorem test_meets_bp :
    ∀ w ∈ [0x9C000001, 0x9C200001, 0x9C400001],
      let x := litAt id w
      let p := x.preg (nbits w 23 3)
      let taken : Bool := match nbits w 21 2 with | 0 => p != 0 | 1 => p == 2 ^ 32 - 1 | _ => p == 0
      let bp : Int := if taken then (x.pc : Int) + toInt 16 (iImm w) else (x.pc : Int) + 1
      (lit id w).AtPc 0 (BitVec.ofNat 32 w) ∧ iMajor w = 0x27 ∧ 0 ≤ bp ∧ bp < x.codeWords := by
  simp only [State.AtPc]; decide +kernel

/-- BranchesAndJumps: JAL to PC + 1, to PC - 1 and to PC + 2, where the code ends; JALR to word 1 and to word 2. -/
theorem test_meets_jumps :
    (∀ r ∈ ([(0x98200001, true), (0x983FFFFF, false), (0x98200002, false)] : List (Nat × Bool)),
      let x := litAt id r.1
      let jal : Int := (x.pc : Int) + toInt 21 (nbits r.1 0 21)
      (lit id r.1).AtPc 0 (BitVec.ofNat 32 r.1) ∧ iMajor r.1 = 0x26 ∧ (r.2 = true → 0 ≤ jal ∧ jal < x.codeWords) ∧
        (r.2 = false → jal < 0 ∨ (x.codeWords : Int) ≤ jal)) ∧
    (∀ a ∈ [1, 2],
      let f := fun x : Lantern => x.setS 2 a
      (lit f 0x00220018).AtPc 0 (BitVec.ofNat 32 0x00220018) ∧ iMajor 0x00220018 = 0 ∧ iMinor 0x00220018 = 0x18 ∧
        ((litAt f 0x00220018).sreg (iRa 0x00220018) < (litAt f 0x00220018).codeWords ↔ a = 1)) := by
  simp only [State.AtPc]; decide +kernel

/-- VectorInstructions: a word of each instruction of major opcode 0x28. -/
theorem test_meets_vectors :
    ∀ r ∈ ([(0xA0486000, 0x0), (0xA0486001, 0x1), (0xA0486002, 0x2), (0xA0486003, 0x3), (0xA0486004, 0x4), (0xA0486005, 0x5),
      (0xA0486006, 0x6), (0xA0486007, 0x7), (0xA0486008, 0x8), (0xA0486009, 0x9), (0xA048600A, 0xA), (0xA048600B, 0xB),
      (0xA048600C, 0xC), (0xA048600D, 0xD), (0xA048600E, 0xE), (0xA048600F, 0xF), (0xA0486010, 0x10), (0xA0486011, 0x11),
      (0xA0486012, 0x12)] :
      List (Nat × Nat)), Lit id r.1 ∧ iMajor r.1 = 0x28 ∧ iVMinor r.1 = r.2 := by
  simp only [State.AtPc, Lit]; decide +kernel

/-- VectorInstructions, VectorComparesAndPredicates: a word of VMACW, VSEL, VBCAST, VSLIDE, VMOVE, PFROMS and PTOS. -/
theorem test_meets_other_vectors :
    ∀ r ∈ ([(0xA0486213, 0x28, 0x13), (0xA0486014, 0x28, 0x14), (0xA8406100, 0x2A, 0x0), (0xA8486101, 0x2A, 0x1), (0xA8480002, 0x2A, 0x2),
      (0xA8406103, 0x2A, 0x3), (0xA8086104, 0x2A, 0x4)] :
      List (Nat × Nat × Nat)), Lit id r.1 ∧ iMajor r.1 = r.2.1 ∧ iVMinor r.1 = r.2.2 := by
  simp only [State.AtPc, Lit]; decide +kernel

/-- VectorComparesAndPredicates: a word of each compare and of each predicate instruction. -/
theorem test_meets_compares :
    ∀ r ∈ ([(0xA4486000, 0x0), (0xA4486001, 0x1), (0xA4486002, 0x2), (0xA4486003, 0x3), (0xA4486004, 0x4), (0xA4486005, 0x5),
      (0xA4442008, 0x8), (0xA4442009, 0x9), (0xA444200A, 0xA), (0xA444000B, 0xB)] :
      List (Nat × Nat)), Lit id r.1 ∧ iMajor r.1 = 0x29 ∧ iVMinor r.1 = r.2 := by
  simp only [State.AtPc, Lit]; decide +kernel

/-- VectorInstructions: VLD and VST of all 32 lanes at the last even address where they fit in the local store, and with no lane. -/
theorem test_meets_vld_vst :
    ∀ w ∈ [0x60404000, 0x64404000, 0x60484000, 0x64484000],
      let f := fun x : Lantern => x.setS 1 0x1FFFC0
      let x := litAt f w
      let a := (x.sreg (nbits w 14 5) + ofInt 32 (toInt 14 (nbits w 0 14))) % 2 ^ 32
      let on := (List.range 32).filter (fun k => nbit (x.preg (nbits w 19 3)) k)
      Lit f w ∧ a % 2 = 0 ∧ (∀ k ∈ on, x.stalls ((a + 2 * k) % 2 ^ 32) 2 = false) ∧ (iMajor w = 0x18 ∨ iMajor w = 0x19) ∧
        (∀ k ∈ on, x.readable ((a + 2 * k) % 2 ^ 32) = true) ∧ (∀ k ∈ on, x.writable ((a + 2 * k) % 2 ^ 32) = true) := by
  simp only [State.AtPc, Lit]; decide +kernel

/-- VectorResultIsElementwise: the last element of the 32 and of the 16. -/
theorem test_meets_elements : 31 < vCount 0xA0000000 ∧ 15 < vCount 0xA0000200 := by decide +kernel

/-- SpecialAndSystemInstructions: MFSR of a register of each clause. -/
theorem test_meets_mfsr :
    ∀ w ∈ [0xC020000E, 0xC020000C, 0xC020000D, 0xC0200010, 0xC0200011, 0xC0200003, 0xC020000B, 0xC020000F, 0xC0200012, 0xC0200000,
      0xC0200001, 0xC0200002],
      Lit id w ∧ iMajor w = 0x30 ∧ nbits w 0 8 ≤ 0x12 := by
  simp only [State.AtPc, Lit]; decide +kernel

/-- SpecialAndSystemInstructions: MTSR of XLEN, XSHIFT, HANDLERS and an address at the ends of their ranges and beside them. -/
theorem test_meets_mtsr :
    ∀ r ∈ ([(5, 1, true), (5, 32768, true), (5, 0, false), (5, 32769, false), (6, 31, true), (6, 32, false), (8, 3, true), (8, 4, false),
        (9, 0x1FFF, true), (9, 0x2000, false)] : List (Nat × Nat × Bool)),
      let f := fun x : Lantern => x.setS 2 r.2.1
      let w := 0xC4020000 + r.1
      let a := (litAt f w).sreg (iRa w)
      Lit f w ∧ iMajor w = 0x31 ∧ nbits w 0 8 = r.1 ∧ a = r.2.1 ∧
        (((r.1 = 5 → 1 ≤ a ∧ a ≤ 32768) ∧ (r.1 = 6 → a ≤ 31) ∧ (r.1 = 8 → a ≤ 3) ∧ (9 ≤ r.1 → a < 2 ^ 13)) ↔ r.2.2 = true) := by
  simp only [State.AtPc, Lit]; decide +kernel

/-- A Lantern in its normal handler, which it entered at word 0. -/
def handler0 (x : Lantern) : Lantern := { x with normal := some x.save }

/-- SpecialAndSystemInstructions: each system instruction outside a handler and in one, and an undefined word. -/
theorem test_meets_system :
    (∀ w ∈ [0xFC000000, 0xFC000001, 0xFC000002, 0xFC000003],
      Lit id w ∧ iMajor w = 0x3F ∧ ¬((litAt id w).normal.isSome = true ∨ (litAt id w).fast.isSome = true) ∧
      Lit handler0 w ∧ (litAt handler0 w).normal.isSome = true ∧ ∃ y ∈ (litAt handler0 w).handlerReturn, y.pc < y.codeWords) ∧
    (lit id 0xFC000004).issues 0 0xFC000004 = true ∧ isaLegal 0xFC000004 = false := by
  simp only [State.AtPc, Lit]; decide +kernel

/-- HandlerReturnRestores: a Lantern whose registers fit. -/
theorem test_meets_handler_return : Lantern.reset.pc < 2 ^ 32 ∧ (∀ k, Lantern.reset.spr k < 2 ^ 32) ∧ Lantern.reset.fast = none ∧
    Lantern.reset.normal = none :=
  ⟨by decide, fun _ => by simp [Lantern.spr, Lantern.reset, tabGet, tabFind], rfl, rfl⟩

/-- ExtendedInstructions: each operation with its arrays in the local store, the last group of one and the first of two. -/
theorem test_meets_extended :
    ∀ r ∈ ([(0xE0221801, 0x1, vblkPlan), (0xE0221802, 0x2, vfirPlan), (0xE0221803, 0x3, vgathPlan), (0xE0201804, 0x4, vscanPlan),
      (0xE0220005, 0x5, vhistPlan), (0xE0200006, 0x6, vredPlan)] :
      List (Nat × Nat × (Nat → State → Lantern → Nat → List Nat → ExtGroup))), ∀ len ∈ [32, 33],
      let f := fun x : Lantern => (((x.setS 1 0x1000).setS 2 0x2000).setS 3 0x3000).setSpr 5 len
      let x := litAt f r.1
      let p := r.2.2 0 ((lit f r.1).awake 0) x r.1 (groupElems (x.spr 5) (x.spr 4))
      Lit f r.1 ∧ iMajor r.1 = 0x38 ∧ iMinor r.1 = r.2.1 ∧ p.aligned = true ∧ p.reads.all (fun q => x.readable q.1 && !x.stalls q.1 q.2) = true ∧
        p.writes.all (fun q => x.writable q.1 && !x.stalls q.1 q.2) = true ∧ (x.spr 5 ≤ 32 * (x.spr 4 + 1) ↔ len = 32) ∧
        x.pc + 1 < p.after.codeWords ∧ (32 * (x.spr 4 + 1) < x.spr 5 ↔ len = 33) := by
  simp only [State.AtPc, Lit]; decide +kernel

/-! ### Lanterns, lines and the fabric -/

/-- A line of two pixels. -/
def line0 : Line := { num := some 0, stamp := 0, flags := 0, padFrom := 2, pix := [1, 2], pos := [] }

/-- Lantern 0 is bound at tap 0 of sconce 0, idle, with frame 0 of so many lines, closed or not, in work or not. -/
def linesAt (m : Mode) (lines : Nat) (closed work : Bool) : State :=
  ((sconce0 (on m)).modSconce 0 (fun x => { x with
      frames := [{ frame 0 closed with lines := List.replicate lines line0, taps := [(0, 0)], par := [(1, leBytes 32 (2 + 256 * 2 ^ 16))] }] })).setLantern 0
    { Lantern.reset with st := .active, owner := some 0, bank0 := some (kernel0 0), frame := if work then some 0 else none }

/-- LanternRoutines: FRAME_ENTRY at the first line and at a frame that closed without one, LINE_ENTRY at the first and the last line,
FRAME_EXIT. -/
theorem test_meets_routines_start :
    (∀ q ∈ ([(1, false), (0, true)] : List (Nat × Bool)),
      let s1 := (linesAt .acquire q.1 q.2 false).elapse 0
      let x := s1.lantern 0
      ∃ f ∈ s1.nextFrame 0, x.hdr 0x10 ≠ 0xFFFF ∧ (0 < (f.tapLines x.tap).1.length ∨ (f.tapLines x.tap).2 = true)) ∧
    (∀ q ∈ ([(2, false), (1, true)] : List (Nat × Bool)),
      let s1 := (linesAt .acquire q.1 q.2 true).elapse 0
      let x := s1.lantern 0
      x.routine = .idle ∧ x.hdr 0x10 ≠ 0xFFFF ∧ ∃ f ∈ s1.workFrame 0, (f.returnedAt x.tap).length < (f.tapLines x.tap).1.length ∧
        ((f.returnedAt x.tap).length + x.below < (f.tapLines x.tap).1.length ∨ (f.tapLines x.tap).2 = true)) ∧
    (let s1 := (linesAt .acquire 0 true true).elapse 0
     let x := s1.lantern 0
     x.hdr 0x12 ≠ 0xFFFF ∧ x.routine = .idle ∧ ∃ f ∈ s1.workFrame 0, f.drained x.tap = true) := by decide +kernel

/-- A journaled strike at line 0 of frame 0 of recorded Lantern 0, for which Lantern 0 stands, or an interrupt of a source there. -/
def replayed (s : State) (typ src : Nat) : State :=
  { s with session := { s.session with lanterns := [(0, 0)], kept := [⟨0, typ, 0, 0, 0, leBytes 8 src ++ zeros 8⟩] } }

/-- LanternRoutines: one line waits beyond L + BELOW, and none, with SLACK 0; a journaled strike and none; an expiry at its instant and before it. -/
theorem test_meets_overrun_and_holdoff :
    (let s1 := (linesAt .acquire 3 false true).elapse 0
     let x := s1.lantern 0
     x.slack < waitingLines x.below x.tap (s1.framesOf 0)) ∧
    (let s1 := (linesAt .acquire 2 false true).elapse 0
     let x := s1.lantern 0
     waitingLines x.below x.tap (s1.framesOf 0) ≤ x.slack) ∧
    (((replayed (linesAt .replay 1 false true) 0x52 0).elapse 0).replayStrike 0).isSome = true ∧
    ((linesAt .replay 1 false true).elapse 0).replayStrike 0 = none ∧
    (let s2 := ((lit (fun x => { x with earliest := some 0 }) 0).elapse 0).settled 0
     ∃ e ∈ (s2.lantern 0).earliest, e + ((s2.lantern 0).irqHoldoff * 5 + 6) / 7 ≤ s2.ns) ∧
    (let s2 := ((lit (fun x => { x with earliest := some 0, irqHoldoff := 65535 }) 0).elapse 0).settled 0
     ∃ e ∈ (s2.lantern 0).earliest, s2.ns < e + ((s2.lantern 0).irqHoldoff * 5 + 6) / 7) := by decide +kernel

/-- LanternRoutines: a GO that starts one, at the end of the local store, one refused, and a gather at the head of its auxiliary mover. -/
theorem test_meets_gathers :
    (let x := (((lit (fun x => { x with gCount := 1, gIndex := 0x1FFFFC, gDest := 0x1FFFFF }) 0).elapse 0).settled 0).lantern 0
     x.routine ≠ .idle ∧ nbit (1 : Word).toNat 0 = true ∧ nbit (2 : Word).toNat 0 = false ∧ ¬(x.gather.isSome = true ∨
       0x200000 < x.gIndex + 4 * x.gCount ∨ 0x200000 < x.gDest + 2 ^ x.gElem * x.gCount ∨ x.gElem = 7 ∨ x.gCount = 0)) ∧
    (let x := (((lit (fun x => { x with gCount := 1, gIndex := 0x1FFFFD }) 0).elapse 0).settled 0).lantern 0
     x.routine ≠ .idle ∧ 0x200000 < x.gIndex + 4 * x.gCount) ∧
    (let s := (lit (fun x => { x with gather := some { segment := [], src := 0, dest := 0, elem := 0, indices := [0] } }) 0).setAux 7
        { AuxMover.reset with queue := [AuxJob.gather 0] }
     (List.range 8).find? (fun k => ((s.elapse 0).auxMover k).runs && ((s.elapse 0).auxMover k).queue.head? == some (AuxJob.gather 0)) = some 7 ∧
       ∃ g ∈ (s.lantern 0).gather, (gatherBytes g).2 = true) := by decide +kernel

/-- InterruptsAndEvents: a routine runs; nothing can be claimed, or source 5, of either class, or the
journaled source. -/
theorem test_meets_claims :
    (let x := (((lit id 0).elapse 0).settled 0).lantern 0
     x.routine ≠ .idle ∧ x.normal.bind (·.given) = none ∧ x.fast.bind (·.given) = none ∧ x.deliverable false = [] ∧ x.deliverable true = []) ∧
    (∀ fast, let x := (((lit (fun x => { x with irqPending := 32, irqMask := 0, irqClass := if fast then 32 else 0 }) 0).elapse 0).settled 0).lantern 0
     x.routine ≠ .idle ∧ x.normal.bind (·.given) = none ∧ x.fast.bind (·.given) = none ∧ x.deliverable fast = [5]) ∧
    (let x := (((lit (fun x => { x with normal := some { x.save with given := some 5 }, fast := some { x.save with given := some 6 } }) 0).elapse 0).settled
        0).lantern 0
     x.routine ≠ .idle ∧ x.normal.bind (·.given) = some 5 ∧ x.fast.bind (·.given) = some 6) ∧
    (63 : Word).toNat % 256 < 64 ∧ 64 ≤ (64 : Word).toNat % 256 ∧ (31 : Word).toNat % 256 < 32 ∧ 32 ≤ (32 : Word).toNat % 256 := by decide +kernel

/-- Lantern 0 runs a routine with both handlers enabled and source 5 pending in a class; in Replay its interrupt is journaled. -/
def pends (m : Mode) (fast : Bool) : State :=
  let cls := if fast then 32 else 0
  let s := (linesAt m 1 false true).modLantern 0 (fun x =>
    ({ x with routine := .lineEntry, irqPending := 32, irqMask := 0, irqClass := cls }).setSpr 8 3)
  if m = .replay then replayed s 0x51 5 else s

/-- LanternHandlers: each handler, outside Replay and in it. -/
theorem test_meets_handlers :
    (((pends .acquire false).elapse 0).settled 0 |>.lantern 0).normalReady = true ∧
    (((pends .acquire true).elapse 0).settled 0 |>.lantern 0).fastReady = true ∧
    (∀ fast, let s1 := ((pends .replay fast).elapse 0).settled 0
      let x := s1.lantern 0
      (s1.replayIrq 0 fast).isSome = true ∧ x.routine ≠ .idle ∧ x.fast.isNone = true ∧ x.normal.isNone = true ∧ (x.vector fast).isSome = true) := by
  decide +kernel

/-- InterruptsAndEvents: an edge at a line that has not moved, one FILTER samples after the last and one a sample less, in Standby and
Dark. -/
theorem test_meets_gio_edge :
    (((on .standby).elapse 0).gioLine 47).seen ≠ true ∧ (((on .standby).elapse 0).gioLine 47).moved = none ∧
    (let s1 := ((on .dark).setGio 0 { Gio.reset with moved := some 0, filter := 2 }).elapse 2
     let x := s1.gioLine 0
     ∃ j ∈ x.moved, j + 320 * x.filter ≤ (s1.dt256 + 383) / 64 * 64 ∧ ¬(s1.dt256 + 0) / 64 * 64 < j) ∧
    (let s1 := ((on .standby).setGio 0 { Gio.reset with moved := some 0, filter := 3 }).elapse 1
     let x := s1.gioLine 0
     ∃ j ∈ x.moved, (s1.dt256 + 0) / 64 * 64 < j + 320 * x.filter) := by decide +kernel

/-- An event of channel 0 on its way to source 5 of Lantern 0. -/
def flight0 (at_ : Nat) : Flight := ⟨0, 0, 1, 0, 2, 0, 5, 0, at_⟩

/-- InterruptsAndEvents: an event at its instant, one before it, one behind an earlier one; a mover's slot whose step is used, a
sequencer's pending event, and a slot of a Lantern. -/
theorem test_meets_events_arrive :
    (let s1 := ({ on .acquire with flights := [flight0 0] }).elapse 0
     s1.flights.find? (fun f => f.ch = 0 && f.slot % 8 = 0) = some (flight0 0) ∧ s1.reached (flight0 0).arrive = true ∧
       s1.flights.any (fun g => g.kind = 2 && g.index = 0 && (g.arrive < 0 || (g.arrive = 0 && g.ch < 0))) = false) ∧
    (let s1 := ({ on .acquire with flights := [flight0 100000] }).elapse 0
     s1.flights.find? (fun f => f.ch = 0 && f.slot % 8 = 0) = some (flight0 100000) ∧ s1.reached 100000 = false) ∧
    (let s1 := ({ on .acquire with flights := [{ flight0 0 with ch := 1 }, flight0 0] }).elapse 0
     s1.flights.find? (fun f => f.ch = 1 && f.slot % 8 = 0) = some { flight0 0 with ch := 1 } ∧
       s1.flights.any (fun g => g.kind = 2 && g.index = 0 && (g.arrive < 0 || (g.arrive = 0 && g.ch < 1))) = true) ∧
    (let s1 := ((on .acquire).setSlot 0 7 { Slot.reset with kind := 4, busy := some ⟨0, 0, 0⟩ }).elapse 0
     let y := (s1.channel 0).slot 7
     (s1.channel 0).past = [] ∧ y.kind = 4 ∧ y.busy.isSome = true ∧ s1.stepUsed y.index y.arg = true ∧ y.pending = none) ∧
    (let s1 := ((on .acquire).setSlot 0 7 { Slot.reset with kind := 3, pending := some ⟨0, 0, 0⟩ }).elapse 0
     let y := (s1.channel 0).slot 7
     (s1.channel 0).past = [] ∧ y.kind = 3 ∧ y.busy = none ∧ y.pending.isSome = true ∧ (s1.seqr y.index).running = false) ∧
    (let s1 := ((on .acquire).setSlot 0 7 { Slot.reset with kind := 2 }).elapse 0
     (s1.channel 0).past = [] ∧ ((s1.channel 0).slot 7).kind = 2) := by decide +kernel

/-! ### Ports, polls and delivery -/

/-- Port 0 of the device in Acquire as f makes it, where the statements read it. -/
def portIs (f : Port → Port) : State := ((on .acquire).modPort 0 f).elapse 0

/-- Port 0 with no ring and no page in service. -/
def bare (x : Port) : Port := { x with rings := [], doorbell := false }

/-- SetupAndConfigurationRegisters: a port whose registers are free and one that has them locked, the least and greatest sizes, those beside them,
and an undefined action. -/
theorem test_meets_setup_writes :
    (∀ f ∈ [id, bare], (portIs f).answers 0 = true ∧ ((portIs f).port 0).mse = true ∧ (portIs f).mode ≠ .dark) ∧
    (∀ k ∈ [0, 1, 2], (portIs id).locked 0 k = true ∧ (portIs bare).locked 0 k = false) ∧
    (∀ v ∈ [6, 16], 6 ≤ (BitVec.ofNat 64 v).toNat % 2 ^ 32 % 32 ∧ (BitVec.ofNat 64 v).toNat % 2 ^ 32 % 32 ≤ 16) ∧
    (∀ v ∈ [5, 17], (BitVec.ofNat 64 v).toNat % 2 ^ 32 % 32 < 6 ∨ 16 < (BitVec.ofNat 64 v).toNat % 2 ^ 32 % 32) ∧
    nbit ((0x20000 : BitVec 64).toNat % 2 ^ 32) 17 = true ∧ 5 ≤ (5 : BitVec 64).toNat % 2 ^ 32 % 8 := by decide +kernel

/-- SetupAndConfigurationRegisters: a ready port, a Max_Payload_Size of 512 bytes that it has, and a port that is not ready. -/
theorem test_meets_configuration_writes :
    (let x := (portIs id).port 0
     let y := { x with relaxed := nbit 0x40 4, mps := min 1024 (128 * 2 ^ nbits 0x40 5 3) }
     x.link = .up ∧ x.ready = true ∧ y.capacity = x.capacity) ∧
    ((portIs (fun x => { x with ready := false })).port 0).ready = false := by decide +kernel

/-- SetupAndConfigurationRegisters: a port that each action accepts, one that it refuses, and one with memory space off. -/
theorem test_meets_setup_actions :
    (∀ q ∈ ([(SetupAction.bringUp, fun x => { bare x with cmdBase := 0x1000, evtBase := 0x2000, dbBase := 0x3000 }), (.takeDown, id),
        (.restartRing0, fun x => x.setRing 0 { Ring.reset with st := .faulted }), (.restartRing1, fun x => x.setRing 1 { Ring.reset with st := .faulted })] :
        List (SetupAction × (Port → Port))),
      (portIs q.2).answers 0 = true ∧ ((portIs q.2).port 0).mse = true ∧ (portIs q.2).mode ≠ .dark ∧ (portIs q.2).actionRefusal 0 q.1 = none) ∧
    (portIs id).actionRefusal 0 .bringUp = some 4 ∧ (portIs bare).actionRefusal 0 .takeDown = some 4 ∧
    (portIs id).actionRefusal 0 .restartRing0 = some 4 ∧ (portIs id).actionRefusal 0 .restartRing1 = some 4 ∧
    (let s := portIs (fun x => { x with mse := false }); s.answers 0 = true ∧ (s.port 0).mse = false) := by decide +kernel

/-- PortReadinessAndResets: a link that trains, a port before and after its readiness with firmware that runs and that has failed, in a
function-level reset, in D3hot, and without Bus Master Enable. -/
theorem test_meets_ports_become_ready :
    (let s := (portIs (fun x => { x with link := .training }))
     (s.port 0).link ≠ .up ∧ s.start.pll = true ∧ (s.port 0).refClk = true ∧ legalRate 640 = true ∧ legalWidth 16 = true) ∧
    (let s := portIs (fun x => { x with ready := false })
     (s.port 0).link = .up ∧ (s.port 0).ready = false ∧ (s.port 0).flrUntil = none ∧ s.mode ≠ .keep ∧ s.start.fw ≠ .failed) ∧
    (let s := portIs (fun x => { x with ready := false })
     { s with start := { s.start with fw := .failed } }.start.fw = .failed) ∧
    ((portIs (fun x => { x with flrUntil := some 1 })).port 0).flrUntil.isSome = true ∧
    (let s := portIs (fun x => { x with d3hot := true, bme := false }); s.answers 0 = true ∧ (s.port 0).d3hot = true ∧ (s.port 0).bme = false) := by
  decide +kernel

/-- PortInterruptsErrorsAndPower: INTA asserted; vector 2,047 pending and masked; a holdoff timer at its expiry; a message that waited, masked and
not. -/
theorem test_meets_port_interrupts :
    (let x := (portIs (fun x => { x with intStatus := true })).port 0; x.intStatus = true ∧ x.silent = false) ∧
    (let s := portIs (fun x => { x with msixEnable := true, pba := [2047] })
     let x := s.port 0
     s.answers 0 = true ∧ x.mse = true ∧ s.mode ≠ .dark ∧ x.fnMask = false ∧ x.canSignal = true ∧ x.pba.contains 2047 = true) ∧
    (let s := portIs (fun x => x.setRing 1023 { Ring.reset with st := .inService, kind := 2, timer := some 0 })
     (s.ring 0 1023).live = true ∧ (s.ring 0 1023).timer.isSome = true ∧ s.due (s.ring 0 1023).timer = true) ∧
    (∀ m, let s := portIs (fun x => { x with msixEnable := true, vecWait := [(7, 0)], msixTable := [(7, { MsixEntry.reset with masked := m })] })
     let x := s.port 0
     (∃ due ∈ tabFind x.vecWait 7, due ≤ s.ns) ∧ x.canSignal = true ∧ x.fnMask = false ∧ (tabGet MsixEntry.reset x.msixTable 7).masked = m ∧
       x.pba.contains 7 = false) := by decide +kernel

/-- PortInterruptsErrorsAndPower and PollsAndReadFailures: a port with ECRC checking and memory space, one without, sizes and offsets that are neither 4
nor 8 bytes aligned, and a ring whose reads fail. -/
theorem test_meets_port_errors :
    (let s := portIs (fun x => { x with ecrcCheck := true })
     let x := s.port 0
     x.link = .up ∧ x.ecrcCheck = true ∧ s.answers 0 = true ∧ x.mse = true ∧ nbit x.aerUncMask 20 = false ∧ s.readsSource 0 (.index 1) = true) ∧
    (let s := portIs (fun x => { x with mse := false, aerCorMask := 0 })
     s.answers 0 = true ∧ (s.port 0).mse = false ∧ nbit (s.port 0).aerCorMask 13 = false) ∧
    (∀ q ∈ ([(0, 1), (2, 4), (4, 8), (0, 16)] : List (Nat × Nat)), ¬(q.2 = 4 ∧ q.1 % 4 = 0) ∧ ¬(q.2 = 8 ∧ q.1 % 8 = 0)) := by decide +kernel

/-- PollsAndReadFailures: a port that polls, one that goes to L1 and one that polls idle. -/
theorem test_meets_polls :
    (let s := portIs id
     s.answers 0 = true ∧ (s.port 0).mse = true ∧ (s.port 0).doorbell = true ∧ s.canFetch 0 = true ∧ s.pollAllowed 0 = true ∧ s.idlePolls 0 = false) ∧
    (let s := ((on .acquire).modPort 0 (fun x => { x with aspmL1 := true })).elapse 10000
     s.answers 0 = true ∧ (s.port 0).inL1 = false ∧ s.quiet 0 = true ∧ (s.port 0).lastActive + 20000 ≤ s.ns) ∧
    (let s := ((on .acquire).modPort 0 (fun x => { x with aspmL1 := true, inL1 := true })).elapse 10000
     s.pollAllowed 0 = true ∧ s.idlePolls 0 = true) := by decide +kernel

/-- PortReadinessAndResets and PortInterruptsErrorsAndPower: port 0 owns the journal's ring and the claim; widths at and below the one it needs. -/
theorem test_meets_port_power :
    (let s := portIs id
     let x := s.port 0
     s.answers 0 = true ∧ x.link = .up ∧ s.jn.ring / 1024 = 0 ∧ x.d3hot = false ∧ x.bme = true) ∧
    (let s := portIs (fun x => { x with l0pEnable := true })
     let x := s.port 0
     s.answers 0 = true ∧ x.l0pEnable = true ∧ legalWidth 8 = true ∧ 8 ≤ x.fullWidth ∧ s.neededWidth 0 ≤ 8) ∧
    (let s := ((stream0 (on .acquire) .running).modPort 0 (fun x => { x with l0pEnable := true })).elapse 0
     s.delivers 0 = true ∧ s.neededWidth 0 < (s.port 0).width) ∧
    (let s := portIs (fun x => { x with l0pEnable := true, rate := 25, mps := 128 })
     let u := { s with session := { s.session with st := .running, port := 0 } }
     u.answers 0 = true ∧ legalWidth 1 = true ∧ 1 < (u.port 0).width ∧ 1 < u.neededWidth 0) := by decide +kernel

/-- PortInterruptsErrorsAndPower: a link of 8 lanes at 32.0 GT/s that becomes 16 at 64.0. -/
theorem test_meets_link_capacity :
    (let x := (portIs (fun x => { x with rate := 320, width := 8, fullWidth := 8 })).port 0
     let y := { x with rate := 640, width := 16, fullWidth := 16 }
     x.link = .up ∧ legalRate 640 = true ∧ legalWidth 16 = true ∧ x.capacity < y.capacity ∧ x.degraded = false) := by decide +kernel

/-! ### Delivery, transfers and the fabric -/

/-- An output table of the raw branch. -/
def rawTable : List Byte := leBytes 2 0x23 ++ zeros 30 ++ [3, 0x30] ++ zeros 30

/-- Ring r of port 0 in service with one entry of the host's, or of the device's, and room. -/
def fedRing (s : State) (r kind : Nat) : State := s.modPort 0 (fun x => x.setRing r { x.ring r with st := .inService, kind := kind, log2size := 6, h := 1 })

/-- Stream 0 runs in the raw branch with one frame of two lines, closed, in a state f gives it. -/
def delivering (f : Stream → Stream) (g : StreamFrame → StreamFrame) : State :=
  (((stream0 (on .acquire) .running).modSconce 0 (fun x => { x with frames := [{ frame 0 true with
      par := [(1, leBytes 32 (2 + 2 * 2 ^ 16))], lines := [line0, line0] }] })).modStream 0
    (fun x => f { x with table := rawTable, maxBytes := 64, frames := [g (streamFrame 0)] }))

/-- A descriptor in hand. -/
def desc0 : Desc × Nat := ({ id := 1, addr := 0, len := 4096, pages := [(0, 4096, 0)] }, 0)

/-- DeliveryAndStalls: a good descriptor and one that is too short for the stream; a frame with a descriptor and bytes to write; a frame
whose tag is the first. -/
theorem test_meets_delivery :
    (∀ q ∈ [(4096, true), (32, false)],
      let s1 := (fedRing (delivering id id) 2 3).elapse 0
      let x := s1.stream 0
      let d := BitVec.ofNat 256 (0x80 + 2 ^ 128 * q.1)
      (∃ f ∈ x.wantsDesc, (x.ringsFor f.number).1 = 2) ∧ s1.portMoves 0 = true ∧ (s1.ring 0 2).live = true ∧ (s1.ring 0 2).kind = 3 ∧
        (s1.ring 0 2).h ≠ (s1.ring 0 2).dIndex ∧ bitAt d 0 7 = (s1.ring 0 2).own (s1.ring 0 2).d ∧ ((s1.descStatus 0 0 d).isNone = q.2)) ∧
    (let s1 := (delivering id (fun g => { g with desc := some desc0 })).elapse 0
     let x := s1.stream 0
     ∃ sf ∈ x.frames.head?, ∃ d ∈ sf.desc, ∃ f ∈ s1.frameOf 0 sf.number, x.mayWrite = true ∧ s1.portMoves (x.portFor sf.number) = true ∧
       sf.ready = none ∧ (x.nextBytes f sf (if x.pace = 2 then x.paceLeft else 4096)).2 ≠ [] ∧ d.2 = 0) ∧
    (let s1 := (delivering id (fun g => { g with desc := some desc0, ready := some 0 })).elapse 0
     ∃ sf ∈ (s1.stream 0).frames.head?, (s1.frameOf 0 sf.number).isSome = true ∧ s1.entryFirst 0 = true) := by decide +kernel

/-- DeliveryAndStalls: a stopped stream 100 µs after its frame came; a block of cause 3 of 50 ms, with and without a partner; one whose cause
has gone. -/
theorem test_meets_blocks :
    (let s1 := (delivering (fun x => { x with stopped := true }) id).elapse 50000
     let x := s1.stream 0
     (∃ w ∈ s1.workSince 0, max x.lastWrite (s1.ns - (s1.dt - w)) + 100000 ≤ s1.ns) ∧ x.active = true ∧ x.blocked = none ∧
       s1.blockCause 0 4 true = true) ∧
    (let s1 := (delivering (fun x => { x with blocked := some (3, 0, false) }) id).elapse 25000000
     let x := s1.stream 0
     x.blocked = some (3, 0, false) ∧ 0 + 50000000 ≤ s1.ns ∧ s1.partnerReady x = false) ∧
    (let s1 := (partner0 (delivering (fun x => { x with blocked := some (1, 0, false) }) id)).elapse 25000000
     let x := s1.stream 0
     x.blocked = some (1, 0, false) ∧ 0 + 50000000 ≤ s1.ns ∧ x.active = true ∧ s1.partnerReady x = true ∧ x.partner.isSome = true) ∧
    (let s1 := (delivering (fun x => { x with blocked := some (3, 0, true) }) id).elapse 0
     (s1.stream 0).blocked.isSome = true ∧ s1.blockCause 0 3 false = false) := by decide +kernel

/-- Auxiliary mover 7 runs a transfer, and command ring 0 of port 0 waits with argument 1 and an opcode. -/
def moving (j : AuxJob) (op : Nat) : State :=
  let s := (on .configure).setAux 7 { AuxMover.reset with queue := [j] }
  s.modPort 0 (fun x => x.setRing 0 { x.ring 0 with waiting := some { index := 0, entry := BitVec.ofNat 512 op, since := 0, stamp := 0, arg := 1 } })

/-- A load of an opcode by ring 0 of port 0, its port reset since or not. -/
def load0 (op : Nat) (gone : Bool) : LoadCmd := { ring := 0, arg := 1, slot := 0, entry := BitVec.ofNat 512 op, gone := gone }

/-- TransfersAndCommandsEnd: a block, an image of each kind, a list, and a list whose port was reset; a command that waits, and READ_NV. -/
theorem test_meets_transfers_end :
    (∀ q ∈ ([(.block 0 1 0 [(0x1000, [1])], 7), (.image (load0 0x21 false) ⟨[], none⟩, 0x21), (.image (load0 0x28 false) ⟨[], none⟩, 0x28),
        (.image (load0 0x3A false) ⟨[], none⟩, 0x3A), (.mapList (load0 0x16 false) ⟨[], none⟩, 0x16)] : List (AuxJob × Nat)),
      let s1 := (moving q.1 q.2).elapse 0
      (s1.auxMover 7).queue = [q.1] ∧ (s1.auxMover 7).runs = true ∧ s1.auxCan q.1 = true ∧ s1.mode ≠ .dark ∧ s1.mode ≠ .keep ∧
        (s1.waitsFor 0 1).isSome = true) ∧
    (let s1 := (moving (.mapList (load0 0x16 true) ⟨[], none⟩) 0).elapse 0
     (s1.auxMover 7).queue = [.mapList (load0 0x16 true) ⟨[], none⟩] ∧ s1.auxCan (.mapList (load0 0x16 true) ⟨[], none⟩) = true) ∧
    (let s1 := ([] : List (BitVec 256)).foldl (fun s _ => s) ((moving (.gather 0) 0x4B).elapse 0)
     ∃ w ∈ (s1.ring 0 0).waiting, fld w.entry 0 1 = 0x4B ∧ (s1.ring 0 0).live = true ∧ (s1.port 0).canWrite = true) := by decide +kernel

/-- FabricCommandsRun: PERIODIC at the next multiple of PERIOD. -/
theorem test_meets_periodic :
    let s1 := ((on .acquire).setChannel 255 { Channel.reset with owner := 0, prodKind := 7, period := 1000, tick := some 0 }).elapse 500
    let x := s1.channel 255
    x.prodKind = 7 ∧ x.owner ≠ 7 ∧ s1.mode ≠ .dark ∧ s1.mode ≠ .keep ∧ x.tick = some 0 ∧ s1.reached (256 * (0 + x.period)) = true := by
  decide +kernel

/-- FabricCommandsRun: EVENT_SIGNAL 8 ns after the channel's last event, 10 ns after it, and while its group is off. -/
theorem test_meets_signals :
    (∀ q ∈ ([(4, true), (5, false)] : List (Nat × Bool)),
      let s := ((on .acquire).setChannel 0 { Channel.reset with owner := 0, prodKind := 1, last := some 0 }).elapse q.1
      Meets s [(8, 1)] 0x40 eventSignalChecks ∧ (q.2 = true ↔ ∃ l ∈ (s.channel 0).last, 256 * s.dt < l + 2560)) ∧
    (let s := ((on .acquire).setChannel 0 { Channel.reset with owner := 0, prodKind := 1, group := 16 }).setGroup 15 { Group.reset with on := false }
     Meets s [(8, 1)] 0x40 eventSignalChecks ∧ (s.channel 0).group ≠ 0 ∧ s.groupAt ((s.channel 0).group - 1) 0 = false) := by
  simp only [Meets, State.Accepts]; decide +kernel

/-! ### Camera lanes -/

/-- Lane 0 of the device in a mode, UP with a VLP camera and otherwise as f makes it, where the statements read it. -/
def laneIs (m : Mode) (f : Lane → Lane) : State :=
  ((on m).setLane 0 (f { Lane.reset with owner := some 0, mode := .vlp, st := .up })).elapse 0

/-- A packet of a data type and SENSOR with a payload. -/
def pktOf (dt sensor : Nat) (payload : List Byte) : LanePkt :=
  { hdr := BitVec.ofNat 64 (leVal ((packetBytes dt sensor 0 (dtShort dt) payload.length payload).take 8)), payload := payload
    crc := BitVec.ofNat 32 (crc32c payload), uncorrectable := 0, corrected := 0, overlaps := false }

/-- LanePacketsAndEthernetFrames: a packet that the wick does not accept, HELLO before UP and in it, a packet of each data type of its own, one
of the others, and one whose data type is undefined. -/
theorem test_meets_lane_packets :
    (let s1 := laneIs .acquire id
     (s1.lane 0).receives s1.ns = true ∧ s1.mode ≠ .dark ∧ s1.mode ≠ .keep ∧ (s1.wick 0 (pktOf 0 1 [])).2 = false) ∧
    (let s1 := laneIs .acquire (fun x => { x with st := .hello })
     (s1.lane 0).receives s1.ns = true ∧ (s1.wick 0 (pktOf 0x3E 0 [])).2 = true ∧ hdrDt (pktOf 0x3E 0 []) = 0x3E ∧ (s1.lane 0).st ≠ .up) ∧
    (let s1 := laneIs .acquire id
     ∀ dt ∈ [0x3E, 6, 7, 8, 0, 1, 2, 3, 4, 0x10], (s1.wick 0 (pktOf dt 0 [1])).2 = true ∧ hdrDt (pktOf dt 0 [1]) = dt ∧ (s1.lane 0).st = .up) ∧
    (let k := pktOf 0x3F 0 []
     hdrOk k.hdr = true ∧ bitsAt k.hdr 1 1 6 2 = 0 ∧ bitsAt k.hdr 2 1 4 4 = 0 ∧ dtDefined (hdrDt k) = false) := by decide +kernel

/-- LaneStatesChange: each state of a VLP lane at its limit, the drop of each mode, an Ethernet lane without alignment, one 100 ms after its
drop, a word that begins the hunt, and HALT in Dark with the downlink there and gone. -/
theorem test_meets_lane_states :
    (∀ st ∈ ([.waitSignal, .adapt, .align, .hello, .retrain] : List LaneState),
      let s1 := laneIs .acquire (fun x => { x with st := st, limit := some 0 }); s1.vlpIn 0 st = true ∧ s1.due (s1.lane 0).limit = true) ∧
    (let s1 := laneIs .acquire (fun x => { x with st := .retrain, mode := .ethernet, limit := some 0 })
     (s1.lane 0).mode = .ethernet ∧ (s1.lane 0).st = .retrain ∧ s1.due (s1.lane 0).limit = true ∧ (s1.lane 0).refStopped = false) ∧
    (let s1 := laneIs .acquire (fun x => { x with st := .hello })
     (s1.lane 0).helloing = true ∧ (s1.lane 0).beaconDue ≤ s1.ns ∧ (s1.lane 0).transmits = true) ∧
    (∀ q ∈ ([(.vlp, 1), (.vlp, 3), (.ethernet, 1), (.ethernet, 5)] : List (LaneMode × Nat)),
      let x := (laneIs .acquire (fun x => { x with mode := q.1 })).lane 0
      x.st = .up ∧ if x.mode = .ethernet then q.2 = 1 ∨ q.2 = 5 else 1 ≤ q.2 ∧ q.2 ≤ 3) ∧
    (let s1 := ((on .acquire).setLane 0 { Lane.reset with mode := .vlp, st := .retrain, dropAt := some (0, 0) }).elapse 50000000
     (s1.lane 0).dropAt = some (0, 0) ∧ (s1.lane 0).st ≠ .up ∧ (s1.lane 0).lost = false ∧ 0 + 100000000 ≤ s1.ns) ∧
    (let s1 := laneIs .acquire id
     (s1.lane 0).receives s1.ns = true ∧ (s1.lane 0).hunt = false ∧ (0 : BitVec 64).toNat ≠ 0x0707070707070707 ∧ hdrOk 0 = false) ∧
    (∀ r, let s1 := laneIs .dark (fun x => { x with refStopped := r })
     s1.mode = .dark ∧ (s1.lane 0).vlp = true ∧ (s1.lane 0).st = .up ∧ (s1.lane 0).beaconDue ≤ s1.ns ∧ (s1.lane 0).transmits = !r) := by decide +kernel

/-- LaneCommandsRun: LANE_PACKET_SEND on a lane that transmits, on one that does not, and of a frame that cannot be read. -/
theorem test_meets_packet_send :
    (∀ st ∈ ([.up, .retrain] : List LaneState),
      let s := (on .acquire).setLane 0 { Lane.reset with owner := some 0, mode := .ethernet, st := st }
      Meets s [(0xA, 14)] 0x32 packetSendChecks ∧ readFault (cmd 0x32 [(0xA, 14)]).data 14 = none ∧ (s.lane 0).transmits = true) ∧
    (let d : HostData := ⟨[], some 0⟩; (readFault d 14).isSome = true) := by
  simp only [Meets, State.Accepts]; decide +kernel

/-- A request of SENSOR 0 sent so many times, whose response timer has run out. -/
def req0 (sent : Nat) : LaneReq :=
  { ring := 0, arg := 0, since := 0, sensor := 0, op := 0, length := 1, address := 0, data := [], result := none, reqSeq := 0, sent := sent, timer := some 0
    dropped := false }

/-- A trigger packet for target 0. -/
def trig0 (scheduled : Bool) : TrigPkt :=
  { target := 0, input := 0, sensor := 0, count := 0, scheduled := scheduled, fire := 0, targetTime := 0, due := 0, schedDue := 0, onTime := 0, fireId := 1 }

/-- LaneAndFrameTimersRun: the seventh and the eighth transmission, TIME_SYNC sent, queued and skipped, an answer missed, a trigger of each kind on
a lane that is UP and one that is not, a window of 100 µs at its end and before it, and the synthesiser. -/
theorem test_meets_lane_timers :
    (∀ n ∈ [7, 8], let s1 := laneIs .acquire (fun x => { x with requests := [req0 n] })
      ∃ r ∈ (s1.lane 0).requests.find? (fun r => r.sensor = (0 : Byte).toNat), r.timer.isSome = true ∧ s1.due r.timer = true ∧ r.sent = n ∧
        (s1.lane 0).canSend = true) ∧
    (let s1 := laneIs .acquire (fun x => { x with syncPeriod := 1 })
     (s1.lane 0).vlp = true ∧ (s1.lane 0).syncPeriod ≠ 0 ∧ (s1.lane 0).syncDue ≤ s1.ns ∧ (s1.lane 0).canSend = true) ∧
    (let s1 := laneIs .acquire (fun x => { x with syncPeriod := 1, refStopped := true })
     (s1.lane 0).canSend = false ∧ (s1.lane 0).st = .up ∧ (s1.lane 0).syncRoom = true) ∧
    (let s1 := laneIs .acquire (fun x => { x with syncPeriod := 1, refStopped := true, queue := [.halt] })
     (s1.lane 0).canSend = false ∧ (s1.lane 0).st = .up ∧ (s1.lane 0).syncRoom = false) ∧
    (let s1 := ((on .acquire).setLane 0 { Lane.reset with mode := .vlp, st := .up, syncOpen := [(1, 0, 0)] }).elapse 50000
     (s1.lane 0).syncOpen = [(1, 0, 0)] ∧ 0 + 100000 ≤ s1.ns) ∧
    (∀ b, ∀ st ∈ ([.up, .retrain] : List LaneState), let s1 := laneIs .acquire (fun x => { x with trigs := [trig0 b], syncLocked := b, st := st })
      let x := s1.lane 0
      (∃ q ∈ x.takeTrig 0 b, s1.reached q.1.due = true ∧ s1.reached (x.schedLeave q.1) = true) ∧ x.vlp = true ∧ x.st = st ∧
        s1.laneTested 0 = false ∧ x.transmits = true) ∧
    (let s1 := ((on .acquire).setLane 0 { Lane.reset with mode := .merged, st := .up }).elapse 50000
     (s1.lane 0).mode = .merged ∧ (s1.lane 0).shareStart + 100000 ≤ s1.ns) ∧
    (let s1 := ((on .acquire).setLane 0 { Lane.reset with mode := .merged, st := .up }).elapse 49999
     s1.ns < (s1.lane 0).shareStart + 100000) ∧
    (let s1 := laneIs .acquire (fun x => { x with switch := some (0, 2), synth := .locking, deferred := none })
     (s1.lane 0).switch = some (0, 2) ∧ 0 ≤ s1.ns ∧ (s1.lane 0).synth = .locking) ∧
    ((laneIs .acquire (fun x => { x with synth := .locked 0 })).lane 0).synth = .locked 0 ∧
    ((laneIs .acquire (fun x => { x with synth := .background 0 })).lane 0).synth = .background 0 ∧
    (let s1 := laneIs .acquire id; (s1.lane 0).synth = .ready ∧ (s1.lane 0).mode ≠ .off ∧ s1.trigSoon 0 = false) ∧
    (let s1 := laneIs .acquire (fun x => { x with trigs := [trig0 false] }); (s1.lane 0).synth = .ready ∧ s1.trigSoon 0 = true) ∧
    (let s1 := ((on .acquire).setLane 0 { Lane.reset with mode := .vlp, st := .up, deferred := some (0, 0) }).elapse 500000000
     (s1.lane 0).deferred = some (0, 0) ∧ 0 + (0 + 1) * 1000000000 ≤ s1.ns) := by decide +kernel

/-- Sconce 0 with LINE_TIMEOUT 100 ns, FRAME_TIMEOUT 100 µs and frame 0 open, on a line or between lines. -/
def opened (line : Option OpenLine) : State :=
  (sconce0 (on .acquire)).modSconce 0 (fun x =>
    { x with line := line, frames := [{ frame 0 false with par := [(1, zeros 0xA ++ leBytes 2 1 ++ leBytes 2 1 ++ zeros 18)] }] })

/-- LaneAndFrameTimersRun: an open line and an open frame at their times and a tick before them. -/
theorem test_meets_assembly_timeouts :
    (∀ t ∈ [49, 50], let s1 := (opened (some { stamp := 0, number := 0, pix := [], pos := [], lastStamp := 0 })).elapse t
      let x := s1.sconce 0
      s1.assembles = true ∧ abLineTimeout x.asm ≠ 0 ∧ ∃ o ∈ x.line, (o.lastStamp + abLineTimeout x.asm ≤ s1.dt ↔ t = 50)) ∧
    (∀ t ∈ [49999, 50000], let s1 := (opened none).elapse t
      ∃ f ∈ (s1.sconce 0).openFrame, abFrameTimeout (f.grp 1) ≠ 0 ∧ (f.lastStamp + abFrameTimeout (f.grp 1) ≤ s1.dt ↔ t = 50000)) := by
  decide +kernel

/-- Lane 0 in Ethernet mode with an address and its GVSP ports from 0xC000 on. -/
def ethLane : State := laneIs .acquire (fun x => { x with mode := .ethernet, ipv4 := 0x0A000001, gvspPort := 0xC000 })

/-- A frame with a type and a body, with its check sequence. -/
def ethFrame (typ : Nat) (body : List Byte) : EthFrame := ⟨wireFrame (zeros 12 ++ beBytes 2 typ ++ body), 0⟩

/-- A UDP packet over IPv4 to the lane's address and a port, with a header checksum that is right or wrong. -/
def udp0 (port : Nat) (ok : Bool) : List Byte :=
  [0x45, 0] ++ beBytes 2 28 ++ zeros 5 ++ [17] ++ beBytes 2 (if ok then 0xB0D1 else 0) ++ zeros 4 ++ beBytes 4 0x0A000001 ++ beBytes 2 0 ++ beBytes 2 port ++ beBytes 2 8 ++ zeros 2

/-- LanePacketsAndEthernetFrames: a frame with a wrong check sequence, one of PTP over Ethernet, over UDP, of GVSP at its first and its last
port with a right and a wrong checksum, one beyond those ports, and one of another type. -/
theorem test_meets_ethernet_frames :
    ((ethLane.lane 0).mode = .ethernet ∧ (ethLane.lane 0).st = .up ∧ (ethLane.lane 0).wickWorks ethLane.ns = true ∧ ethLane.mode ≠ .dark ∧
      ethLane.mode ≠ .keep) ∧
    crc32 ((zeros 64).take 60) ≠ lfld (zeros 64) 60 4 ∧
    (∀ q ∈ ([(0x88F7, []), (0x0800, udp0 320 true), (0x0800, udp0 0xC000 true), (0x0800, udp0 0xC003 false), (0x0800, udp0 0xC004 true), (0x0806, [])] :
        List (Nat × List Byte)),
      let b := (ethFrame q.1 q.2).bytes
      64 ≤ b.length ∧ b.length ≤ 9216 ∧ crc32 (b.take (b.length - 4)) = lfld b (b.length - 4) 4 ∧ (ethBody (b.take (b.length - 4))).1 = q.1) ∧
    (∀ q ∈ ([(320, true), (0xC000, true), (0xC003, false), (0xC004, true)] : List (Nat × Bool)),
      let b := (ethFrame 0x0800 (udp0 q.1 q.2)).bytes
      ∃ d ∈ udpOf (ethBody (b.take (b.length - 4))).2, d.port = q.1 ∧ d.dst = (ethLane.lane 0).ipv4 ∧ d.ok = q.2) := by decide +kernel

/-! ### Time, position and triggering -/

/-- A PTP message of a type and length: version 2, domain 0. -/
def ptpMsg (typ n : Nat) : List Byte := BitVec.ofNat 8 typ :: 2 :: zeros (n - 2)

/-- The device in Acquire with a time base of f's and an Ethernet lane 0 that is UP, where the statements read it. -/
def timeIs (t : Nat) (f : TimeBase → TimeBase) : State :=
  let s := (on .acquire).setLane 0 { Lane.reset with mode := .ethernet, st := .up }
  { s with tb := f s.tb }.elapse t

/-- TimeCommandsRun: a CONFIGURE that changes the source and one that does not, with and without a servo; SET_TIME with each of its
parts. -/
theorem test_meets_time_clauses :
    (∀ r ∈ [0, 1], let o := ((timeIs 0 (fun b => { b with cfg := { b.cfg with role := r } })).tb.cfgNext.getD
        (timeIs 0 (fun b => { b with cfg := { b.cfg with role := r } })).tb.cfg)
      o.role = r ∧ o.source = 0) ∧
    (∀ q ∈ ([(1, true, false, false), (2, false, true, false), (5, true, false, true)] : List (Nat × Bool × Bool × Bool)),
      Meets (on .standby) [(8, 1), (9, q.1)] 0x38 setTimeChecks ∧
        (bitAt (cmd 0x38 [(8, 1), (9, q.1)]).e 9 0, bitAt (cmd 0x38 [(8, 1), (9, q.1)]).e 9 1, bitAt (cmd 0x38 [(8, 1), (9, q.1)]).e 9 2) = q.2) := by
  simp only [Meets, State.Accepts]; decide +kernel

/-- TimeBaseRows: a message for the client, one of a length too great; a Delay_Req at a master's lane and at a client's; each transmission
when due; a source lost by each cause and one that is not; PPS_IN edges 100 ms after the last and before; PPS_OUT; the link; a SET_TIME 2 s
old. -/
theorem test_meets_time_rows :
    (let s1 := timeIs 0 (fun b => { b with tpUp := true, cfg := { b.cfg with role := 1 } })
     s1.ptpLive = true ∧ s1.tb.tpUp = true ∧ ptpWhole (ptpMsg 0 44) = true ∧ s1.ptpOurs (ptpMsg 0 44) = true ∧ s1.tb.cfg.role ≠ 0 ∧
       s1.tb.cfg.transport = 0 ∧ 1522 ≤ 1522 ∧ ¬1523 ≤ 1522) ∧
    (let s1 := timeIs 0 id
     (s1.lane 0).mode = .ethernet ∧ (s1.lane 0).st = .up ∧ s1.tb.cfg.role = 0 ∧ s1.ptpOurs (ptpMsg 1 44) = true ∧ mfld (ptpMsg 1 44) 0 1 % 16 = 1 ∧
       s1.tb.cfg.profile = 0 ∧ tabGet 0 s1.tb.ptpDue 4 ≤ s1.ns ∧ tabGet 0 s1.tb.ptpDue 5 ≤ s1.ns) ∧
    (let s1 := timeIs 0 (fun b => { b with ptpDue := [(5, 1)], cfg := { b.cfg with profile := 1 } })
     tabGet 0 s1.tb.ptpDue 4 ≤ s1.ns ∧ tabGet 0 s1.tb.ptpDue (delayKey 2) ≤ s1.ns ∧ ¬tabGet 0 s1.tb.ptpDue 5 ≤ s1.ns ∧ s1.tb.cfg.profile = 1) ∧
    (let s1 := timeIs 0 (fun b => { b with tpUp := true, cfg := { b.cfg with role := 2, profile := 1 } })
     s1.tb.tpUp = true ∧ s1.tb.cfg.role = 2 ∧ tabGet 0 s1.tb.ptpDue 2 ≤ s1.ns) ∧
    (let s1 := timeIs 0 (fun b => { b with st := .locked, cfg := { b.cfg with role := 1 } })
     s1.tb.st.inUse = true ∧ s1.lossDue .link = true ∧ s1.lossDue .ppsGap = false) ∧
    (let s1 := timeIs 1500000000 (fun b => { b with st := .locked, ppsIn := some 0, cfg := { b.cfg with source := 1 } })
     s1.lossDue .ppsGap = true) ∧
    (timeIs 0 id).tb.st.inUse = false ∧
    (∀ t ∈ [49999999, 50000000], let s1 := timeIs t (fun b => { b with ppsIn := some 0 })
      s1.tb.ppsIn = some 0 ∧ (s1.ns < 0 + 100000000 ↔ t = 49999999)) ∧
    (let s1 := timeIs 500000000 id; s1.ppsRise.isSome = true ∧ s1.supply.live = true ∧ s1.tb.ppsHigh = none) ∧
    (let s1 := timeIs 1 (fun b => { b with ppsHigh := some 2 }); s1.due s1.tb.ppsHigh = true) ∧
    (∀ up, let s1 := timeIs 0 (fun b => { b with tpUp := !up, cfg := { b.cfg with tpRate := 1 } })
      s1.tb.tpUp ≠ up ∧ s1.tb.cfg.tpRate ≠ 0 ∧ s1.supply.lrefAbsent.contains 0 = false) ∧
    (let s := ((on .acquire).modPort 0 (fun x => x.setRing 0 { x.ring 0 with waiting := some { index := 0, entry := 0, since := 0, stamp := 0, arg := 1 } }))
     let s1 := { s with tb := { s.tb with waiting := some (0, 1) } }.elapse 1000000000
     ∃ q ∈ s1.timeWaits, q.2.since + 2000000000 ≤ s1.ns) := by decide +kernel

/-- Channel 15 in a mode, otherwise as f makes it, where the statements read it. -/
def encIs (mode : Nat) (f : Encoder → Encoder) : State :=
  ((on .acquire).setEnc 15 (f { Encoder.reset with owner := some 0, cfg := { EncCfg.reset with mode := mode } })).elapse 10

/-- EncoderEdgesCount: quadrature edges of each mode that count up, down and not, and of both inputs; a step edge that counts and one that does not; up,
down and both; Hall states forward, backward and wrong, the first to the last. -/
theorem test_meets_encoder_edges :
    (∀ q ∈ ([(1, false, false, true, false, some true), (2, true, false, false, false, some false), (3, false, true, false, false, some true),
        (3, false, false, false, false, none)] : List (Nat × Bool × Bool × Bool × Bool × Option Bool)),
      let x := (encIs q.1 (fun x => { x with a := q.2.1, b := q.2.2.1 })).enc 15
      let a := x.passes 0 x.a q.2.2.2.1 0
      let b := x.passes 1 x.b q.2.2.2.2.1 0
      1 ≤ x.cfg.mode ∧ x.cfg.mode ≤ 3 ∧ (x.a = a ∨ x.b = b) ∧ quadStep x.cfg.mode x.a x.b a b = q.2.2.2.2.2) ∧
    (let x := (encIs 3 id).enc 15
     x.a ≠ x.passes 0 x.a true 0 ∧ x.b ≠ x.passes 1 x.b true 0) ∧
    (∀ e, let x := (encIs 4 (fun x => { x with cfg := { x.cfg with stepEdge := e } })).enc 15
      let a := x.passes 0 x.a true 0
      x.cfg.mode = 4 ∧ x.a ≠ a ∧ (a ≠ x.cfg.stepEdge ↔ e = false)) ∧
    (let x := (encIs 5 id).enc 15
     x.cfg.mode = 5 ∧ x.a = false ∧ x.b = false ∧ x.passes 0 x.a true 0 = true ∧ x.passes 1 x.b true 0 = true ∧ x.passes 0 x.a false 0 = false ∧
       x.passes 1 x.b false 0 = false) ∧
    (∀ q ∈ ([(1, 3, true, false), (3, 1, false, true), (5, 1, true, false), (1, 6, false, false), (0, 7, false, false), (7, 0, false, false)] :
        List (Nat × Nat × Bool × Bool)),
      (((encIs 6 (fun x => { x with hall := some q.1 })).enc 15).hall = some q.1 ∧ q.2.1 ≠ q.1) ∧ ((q.2.1 ≠ 0 ∧ hallNext q.1 = q.2.1) ↔ q.2.2.1 = true) ∧
        ((q.1 ≠ 0 ∧ hallNext q.2.1 = q.1) ↔ q.2.2.2 = true)) := by decide +kernel

/-- A reading of all zeros with the check bits c. -/
def reading1 (c : Nat) (nE : Bool) : SerialReading := { frame := 0, check := c, nE := nE, nW := true, noStart := false }

/-- EncoderCommandsAndRowsRun: a Z edge that is accepted and one that is gated; a pair out of fault and in it; a serial frame that starts; readings of
SSI and BiSS that are good, bad, in error and without a start; the observer at a microsecond, with a frame open after it. -/
theorem test_meets_encoder_rows :
    (let x := (encIs 1 id).enc 15
     x.z = false ∧ x.passes 2 x.z true 0 = true ∧ x.cfg.zGate = false ∧ x.cfg.usesPair 2 = true ∧ x.faults.contains 0 = false) ∧
    (let x := (encIs 5 (fun x => { x with cfg := { x.cfg with zGate := true }, faults := [0] })).enc 15
     x.cfg.zGate = true ∧ x.a = false ∧ x.faults.contains 0 = true ∧ x.cfg.usesPair 0 = true) ∧
    (let s1 := encIs 7 id
     (s1.enc 15).cfg.serial = true ∧ (s1.enc 15).serDue ≤ s1.ns ∧ (s1.enc 15).serOpen = none) ∧
    (let x := (encIs 7 (fun x => { x with serOpen := some 0, cfg := { x.cfg with parityEn := true } })).enc 15
     x.serOpen = some 0 ∧ x.cfg.mode ≠ 8 ∧ readingOk x.cfg (reading1 0 true) = true ∧ readingOk x.cfg (reading1 1 true) = false ∧ x.readings = []) ∧
    (let x := (encIs 8 (fun x => { x with serOpen := some 0 })).enc 15
     let good (nE : Bool) : Nat := 63 - crc6 (msbBits x.cfg.frameBits 0 ++ [nE, true])
     x.serOpen = some 0 ∧ x.cfg.mode = 8 ∧ readingOk x.cfg (reading1 (good true) true) = true ∧ readingOk x.cfg (reading1 (good false) false) = true ∧
       x.faults.contains 0 = false) ∧
    (let s1 := ((on .acquire).setEnc 15 { Encoder.reset with st := .locked, serOpen := some 256001 }).elapse 500
     let x := s1.enc 15
     x.st ≠ .off ∧ s1.reached (256 * ((x.tk / 1000 + 1) * 1000)) = true ∧ x.serOpen = some 256001 ∧ 256 * ((x.tk / 1000 + 1) * 1000) < 256001) := by
  decide +kernel

/-- TriggerCommandsRun: TARGET_CONFIG of KIND 0, START at an instant 17 ns ahead and one 16 ns ahead. -/
theorem test_meets_trigger_clauses :
    (let s := (on .configure).setTarget 0 { Target.reset with owner := some 0 }
     Meets s [] 0x3B targetConfigChecks ∧ (targetOf (cmd 0x3B []).e).kind = 0) ∧
    (∀ v ∈ [16, 17], Meets (sequencer0 (on .acquire)) [(8, 0), (0x10, v)] 0x3C triggerStartChecks ∧
      (16 < toInt 64 (v + 2 ^ 64 - ((sequencer0 (on .acquire)).elapse 0).dt) ↔ v = 17)) := by
  simp only [Meets, State.Accepts]; decide +kernel

/-- Sequencer 31 runs with an image of zeros, otherwise as f makes it, where the statements read it. -/
def seqIs (f : Sequencer → Sequencer) : State :=
  ((on .acquire).setSeq 31 (f { Sequencer.reset with owner := some 0, image := zeros 128, running := true })).elapse 5

/-- LamplighterRowsRun: a time slot and a position slot at their instants, timers with and without a period, a start, happenings at the
earliest instant, a held fire, a pulse that starts and one that ends. -/
theorem test_meets_lamplighter :
    (∀ p ∈ [0, 1], let s1 := seqIs (fun x => { x with image := zeros 0x20 ++ leBytes 8 p ++ zeros 88, slots := [(0, { armed := some 0, fire := some (0, .onTime), raw := none, prev := none })] })
      let x := s1.seqr 31
      (x.slot 0).instant = some (0, .onTime) ∧ (x.slot 0).armed.isSome = true ∧ s1.reached 0 = true ∧ (x.slotPos 0 = true ↔ p = 1) ∧
        x.running = true ∧ x.startAt = none) ∧
    (∀ p ∈ ([none, some 256] : List (Option Nat)), let s1 := seqIs (fun x => { x with timers := [(3, { due := 0, period := p })] })
      let x := s1.seqr 31
      tabFind x.timers 3 = some { due := 0, period := p } ∧ s1.reached 0 = true ∧ x.running = true ∧ x.startAt = none) ∧
    (let s1 := seqIs (fun x => { x with startAt := some 256 })
     let x := s1.seqr 31
     x.startAt = some 256 ∧ x.running = true ∧ s1.reached 256 = true ∧ x.dueBy 256 = false) ∧
    (let s1 := seqIs (fun x => { x with haps := [{ kind := 2, index := 3, rising := false, at_ := 0, pos := false, how := .onTime, slot := 0, from_ := none }] })
     let x := s1.seqr 31
     x.haps.map (·.at_) = [0] ∧ x.running = true ∧ x.startAt = none ∧ s1.reached (max (minD 0 [0]) x.busyUntil) = true ∧ x.dueBy (minD 0 [0]) = false ∧
       (x.haps.filter (fun k => k.at_ = minD 0 [0])).any (fun k => k.named { kind := 2, index := 3, edge := 0 }) = true) ∧
    (let f : Fire := { f := 0, o := 0, width := 4, flags := 0, id := 1 }
     let s1 := ((on .acquire).setTarget 255 { Target.reset with held := some (f, 0), pend := [f], pulse := some 0, cfg := { TargetCfg.reset with kind := 2 } }).elapse 1
     let x := s1.target 255
     x.held = some (f, 0) ∧ x.pend = [f] ∧ x.pulse = some 0 ∧ x.cfg.kind = 2 ∧ s1.reached 0 = true) := by decide +kernel

/-! ### Modes, faults, the journal, records and diagnostics -/

/-- The device in a mode as f makes it, where the statements read it after t ticks. -/
def devIs (m : Mode) (t : Nat) (f : State → State) : State := (f (on m)).elapse t

/-- ModesAndSupervisors: MODE_SET to the present mode, to another, and to Configure from Acquire, where streams run and where they do not; a
transition that ends, one that waits for streams, one whose limit has passed; 1 ms after Keep. -/
theorem test_meets_modes_change :
    Mode.ofCode (bitsAt (cmd 0x48 [(8, 10)]).e 8 1 0 3) = .configure ∧
    (∀ q ∈ ([(.configure, false), (.standby, false), (.acquire, true)] : List (Mode × Bool)),
      Meets (on q.1) [(8, 10)] 0x48 modeSetChecks ∧ ((on q.1).elapse 0).toSetup .configure = q.2 ∧ ((on q.1).elapse 0).streamsRun = false) ∧
    (let s := stream0 (on .acquire) .running
     Meets s [(8, 10)] 0x48 modeSetChecks ∧ (s.elapse 0).toSetup .configure = true ∧ (s.elapse 0).streamsRun = true) ∧
    (let s := devIs .configure 0 (fun s => { s with start := { s.start with transition := some (.acquire, 0, 0, false) } })
     s.start.transition = some (.acquire, 0, 0, false) ∧ s.mode ≠ .dark ∧ s.mode ≠ .keep ∧ s.start.modeWait = none) ∧
    (let s := (stream0 { on .acquire with start := { (on .acquire).start with transition := some (.configure, 0, 0, true), modeWait := some (0, 0) } } .running).elapse 0
     s.start.transition.isSome = true ∧ s.start.modeWait = some (0, 0) ∧ s.streamsRun = true ∧ 0 ≤ s.ns ∧ s.mode ≠ .dark) ∧
    (let s := devIs .keep 500000 (fun s => { s with start := { s.start with keepAt := some 1000000 } }); s.due s.start.keepAt = true) := by
  simp only [Meets, State.Accepts]; decide +kernel

/-- ModesAndSupervisors: the supervisors with a standby and without, cores that wait for their self-test, a take-over at its limit and
after it, one guard left, Dark before and after its outputs are safe, failed firmware's absence, and the health values an hour old. -/
theorem test_meets_supervisors :
    (let s := devIs .acquire 0 id
     s.supRuns = true ∧ s.sup.live.length = 2 ∧ s.sup.standby.isSome = true ∧ s.guards.length = 2 ∧ s.start.fw ≠ .failed ∧ s.mode ≠ .keep) ∧
    (let s := devIs .acquire 0 (fun s => { s with sup := { s.sup with standby := none, frozen := [2] }, guards := [0] })
     s.supRuns = true ∧ s.sup.live.length = 2 ∧ s.sup.standby = none ∧ s.sup.frozen ≠ [] ∧ s.guards.length ≠ 2) ∧
    (∀ t ∈ [25000, 25001], let s := devIs .acquire t (fun s => { s with sup := { s.sup with live := [], frozen := [0, 1], resumeBy := some 50000 } })
      s.sup.resumeBy = some 50000 ∧ (s.ns ≤ 50000 ↔ t = 25000) ∧ s.mode ≠ .keep ∧ s.mode ≠ .dark ∧ s.start.fw ≠ .failed) ∧
    (let s := devIs .dark 0 id; s.mode = .dark ∧ s.dark.safe = false) ∧
    (let s := devIs .dark 0 (fun s => { s with dark := { s.dark with safe := true } }); s.mode = .dark ∧ s.dark.safe = true ∧ (s.port 0).silent = false) ∧
    (let s := devIs .acquire 1800000000000 id; s.healthAt + 3600000000000 ≤ s.ns) := by decide +kernel

/-- SpareCommandsRun: PLAN and FORCE of a unit, of a slice and of the supervisors, RETIRE of a free unit, of the standby and of a PLL. -/
theorem test_meets_spare_clauses :
    (∀ p ∈ [3, 2, 10], Meets (on .configure) [(9, p), (0xC, 0xFFFF)] 0x49 sparePlanChecks ∧ smPool (cmd 0x49 [(9, p), (0xC, 0xFFFF)]).e = p) ∧
    (∀ p ∈ [4, 10], Meets (on .configure) [(8, 1), (9, p)] 0x49 spareForceChecks ∧ smPool (cmd 0x49 [(8, 1), (9, p)]).e = p) ∧
    ((on .configure).phys 1 32).st = 1 ∧ (on .configure).sup.standby = some 2 ∧
    (Meets (on .configure) [(8, 2), (9, 8)] 0x49 spareRetireChecks ∧ (on .configure).partsFree 8 0 ≠ 0) := by
  simp only [Meets, State.Accepts]; decide +kernel

/-- FaultsAreHandled: the last unit of a pool in service and a spare free; a take-over that ends; a corrected error below half its limit; a
spare row; a first and a second stack; a Lantern whose part is planned; a planned unit; a patrolled frame, its absence and a vote. -/
theorem test_meets_faults :
    (let s := devIs .acquire 0 id
     s.unitsLive = true ∧ (s.phys 4 31).logical.isSome = true ∧ (s.phys 4 31).st = 0 ∧ 31 < poolSize 4 ∧
       (∃ n ∈ (s.phys 4 31).logical, s.planOf 4 n = none ∧ s.freeSpares 4 n ≠ []) ∧
       2 * [((s.ns : Nat), (0 : Nat))].length < s.wearOf 4 ∧ (s.phys 4 31).errs = [] ∧ s.health.stacksLost = [] ∧ s.patrolledFrame 0 = none) ∧
    (let q : TakeOver := { pool := 4, logical := 0, old := 0, new_ := 32, kind := 1, due := 0, cmd := none }
     let s := devIs .acquire 0 (fun s => { s with takeOvers := [q] })
     s.takeOvers.find? (fun q => q.pool = 4 && q.logical = 0) = some q ∧ 4 ≠ poolSup) ∧
    (let s := devIs .acquire 0 (fun s => { s with health := { s.health with stacksLost := [0] } })
     s.health.stacksLost ≠ [] ∧ s.health.stacksLost.contains 7 = false) ∧
    (∀ p ∈ [3, 4, 5], let q : SparePlan := { pool := p, logical := 0, old := 0, new_ := 64, commit := 0, moved := [], copied := false, kind := 0 }
      let s := devIs .acquire 0 (fun s => (lantern0 { s with plans := [q] }))
      (s.captureCopied 0).planOf p 0 = some q ∧ (s.captureCopied 0).unitsLive = true ∧ ((s.captureCopied 0).lantern 0).st ≠ .free) ∧
    (let s := devIs .acquire 0 (fun s => (sconce0 s).modSconce 0 (fun x => { x with frames := [{ frame 0 false with patrol := true }] }))
     (s.patrolledFrame 0).isSome = true ∧ s.patrol.vote = none ∧ { s with patrol := { s.patrol with vote := some (0, 0) } }.patrol.vote = some (0, 0)) := by
  decide +kernel

/-- FaultsAreHandled: a channel with a spare row, where the device has any (entry 48), and one without. -/
theorem test_meets_spare_rows (h : Config.hbmSpareRows ≠ 0) :
    (devIs .acquire 0 id).partsFree poolRows 0 ≠ 0 ∧
    (devIs .acquire 0 (fun s => s.setPhys poolRows 0 { (s.phys poolRows 0) with used := Config.hbmSpareRows })).partsFree poolRows 0 = 0 := by
  constructor
  · exact h
  · exact Nat.sub_self _

/-- A record of a type and time. -/
def rec0 (typ time : Nat) : JRec := ⟨0, typ, 0, 0, time, zeros 16⟩

/-- JournalRuns: a record 100,001 ns old and one 100,000 ns old; in Replay one of a live happening; a millisecond that has passed, at the
start and later; the NV store with a record to take, with a GAP, and with none; a freeze whose records are out. -/
theorem test_meets_journal_rows :
    (∀ a ∈ [1, 2], let s := devIs .acquire 50001 (fun s => { s with jn := { s.jn with waiting := [rec0 0x10 a] } })
      firstRec s.jn.waiting = some (rec0 0x10 a) ∧ (a + 100000 < s.dt ↔ a = 1) ∧ s.jn.inStaging ≤ stagingSize) ∧
    (let s := devIs .replay 50001 (fun s => { s with jn := { s.jn with waiting := [rec0 0x10 0] } })
     firstRec s.jn.waiting = some (rec0 0x10 0) ∧ (rec0 0x10 0).time + 100000 < s.dt ∧ s.mode = .replay ∧ replayTypes.contains 0x10 = false ∧
       replayTypes.contains 0x51 = true) ∧
    (∀ l ∈ [0, 1, 2], let s := devIs .acquire 1000000 (fun s => { s with jn := { s.jn with lastSync := l } })
      s.dt / 1000000 = 2 ∧ (s.jn.lastSync < s.dt / 1000000 ↔ l ≠ 2)) ∧
    (let s := devIs .acquire 0 (fun s => { s with jn := { s.jn with staged := [(0, rec0 0x10 0)] } }); s.nvReady = true ∧ s.jn.nvGap = none) ∧
    (let s := devIs .acquire 0 (fun s => { s with jn := { s.jn with nvGap := some (1, 0) } }); s.nvReady = true) ∧
    (devIs .acquire 0 id).nvReady = false ∧
    (let s := devIs .acquire 50001 (fun s => { s with jn := { s.jn with freezeAt := some 1 } })
     s.jn.freezeAt = some 1 ∧ 1 + 100000 < s.dt ∧ s.jn.waiting.all (fun r => 1 < r.time) = true) := by decide +kernel

/-- RecordAndReplayRun: PAUSE of a session that runs, that is starved and that is neither, RESUME of one that is paused, and Replay. -/
theorem test_meets_replay_clauses :
    (∀ st ∈ ([.running, .starved, .paused] : List SessionState),
      let s := { on .replay with session := { Session.reset with st := st } }
      Meets s [(8, 2)] 0x4D replayPauseChecks ∧ Meets s [(8, 3)] 0x4D replayResumeChecks ∧ (s.elapse 0).session.st = st ∧ (s.elapse 0).mode = .replay) ∧
    (let s := stream0 (on .record) .configured
     s.capture (s.stream (bitsAt (cmd 0x4C [(8, 2)]).e 0xC 2 0 11)).sconce = none) := by
  simp only [Meets, State.Accepts]; decide +kernel

/-- DiagnosticsRun: an eye scan of a lane that is UP; the end of a loopback at its time and before it, of an HBM test, and of a self-test
whose signature is as expected and not. -/
theorem test_meets_diagnostics_end :
    (let s := (on .diagnose).setLane 0 { Lane.reset with mode := .vlp, st := .up }
     Meets s [(8, 3), (0xE, 20)] 0x4E (diagChecks 3) ∧ (s.lane 0).st = .up) ∧
    (∀ t ∈ [499999, 500000], let s := devIs .diagnose t (fun s => { s with tests := [{ diagTest0 with test := 2, due := 1000000 }] })
      s.tests.find? (fun q => q.id = 0) = some { diagTest0 with test := 2, due := 1000000 } ∧ (1000000 ≤ s.ns ↔ t = 500000)) ∧
    (∀ k ∈ [3, 4, 5], (devIs .diagnose 0 (fun s => { s with tests := [{ diagTest0 with test := k }] })).tests.find? (fun q => q.id = 0) =
      some { diagTest0 with test := k }) ∧
    (let r (b : Byte) : TestResult := { inverted := [], received := [], verdict := 0, errors := 0, body := [0, 0, 0, 0, b] }
     (diagReport diagTest0 (r 0)).verdict ≠ 1 ∧ (diagReport diagTest0 (r 1)).verdict = 1) ∧
    (let s := devIs .diagnose 0 (fun s => s.modPort 0 (fun x => x.setRing 0 { x.ring 0 with waiting := some { index := 0, entry := 0, since := 0, stamp := 0, arg := 0 } }))
     s.diagWaits { diagTest0 with test := 3 } = true) := by
  simp only [Meets, State.Accepts]; decide +kernel

/-! ### Resets, supplies, the management bus and the TAP -/

/-- The device in a mode with a start-up record, a supply and a management target as the functions make them, where the statements read
it after t ticks. -/
def startIs (m : Mode) (t : Nat) (f : StartUp → StartUp) : State := devIs m t (fun s => { s with start := f s.start })

/-- The same for the supply. -/
def supplyIs (m : Mode) (t : Nat) (f : Supply → Supply) : State := devIs m t (fun s => { s with supply := f s.supply })

/-- The same for the management target. -/
def mgIs (m : Mode) (t : Nat) (f : Mg → Mg) : State := devIs m t (fun s => { s with mg := f s.mg })

/-- ResetsAndStartUp and ManagementRegistersAcrossResets: PORST# and WARMRST# high with a supply and without, PORST# low, each end of a
reset that may start and one that may not. -/
theorem test_meets_resets :
    (let s := devIs .acquire 0 id; s.start.porstLow = false ∧ s.start.warmLow = false ∧ s.supply.live = true) ∧
    (let s := supplyIs .keep 0 (fun x => { x with main := x.back }); s.supply.live = false) ∧
    (let s := supplyIs .keep 500 (fun x => { x with collapseAt := some 1000, holdOnly := true }); s.due s.supply.collapseAt = true ∧ s.supply.holdOnly = true) ∧
    (∀ r, let s := startIs .keep 0 (fun x => { x with porstLow := true, warmLow := true, guardUntil := some 0, running := r })
      s.start.porstLow = true ∧ s.start.warmLow = true ∧ s.due s.start.guardUntil = true ∧
        { s with start := { s.start with porstLow := false, warmLow := false } }.mayStart = false) ∧
    (let s := startIs .keep 0 (fun x => { x with porstLow := true })
     { s with start := { s.start with porstLow := false } }.mayStart = true) ∧
    (let s := startIs .keep 0 (fun x => { x with warmLow := true })
     { s with start := { s.start with warmLow := false } }.mayStart = true) ∧
    (let s := startIs .keep 0 (fun x => { x with guardUntil := some 0 })
     s.due s.start.guardUntil = true ∧ { s with start := { s.start with guardUntil := none } }.mayStart = true) := by decide +kernel

/-- ResetsAndStartUp: each step of start-up before it is taken, and its end with one HBM stack lost and with two. -/
theorem test_meets_start_up :
    (let x := (startIs .keep 0 (fun x => { x with running := true, pwrGood := false, pll := false })).start
     x.running = true ∧ x.pwrGood = false) ∧
    (let s := startIs .keep 0 (fun x => { x with running := true, pll := false })
     s.start.running = true ∧ s.start.pwrGood = true ∧ s.start.pll = false ∧ (s.port 3).refClk = true) ∧
    (let x := (startIs .keep 0 (fun x => { x with running := true, fw := .none })).start
     x.running = true ∧ x.pll = true ∧ x.fw = .none) ∧
    (let x := (startIs .keep 0 (fun x => { x with running := true, hbm := false })).start; x.goes = true ∧ x.hbm = false) ∧
    (let x := (startIs .keep 0 (fun x => { x with running := true, tests := false })).start
     x.goes = true ∧ x.hbm = true ∧ x.tests = false ∧ x.cagePower.contains 16 = false ∧ 135 < poolSize 1) ∧
    (let x := (startIs .keep 0 (fun x => { x with running := true, cagePower := [16] })).start
     x.goes = true ∧ x.cagePower.contains 16 = true ∧ x.cageReset.contains 16 = false) ∧
    (∀ n ∈ [1, 2], let x := (startIs .keep 0 (fun x => { x with running := true, hbmFailed := n })).start
      x.goes = true ∧ x.tests = true ∧ (x.hbmFailed < 2 ↔ n = 1)) := by decide +kernel

/-- SuppliesAndClocks: a feed that comes back to nothing, beside the other, and during a collapse; the feed in use and the other out of
range; a collapse at its instant, HOLD alone, a start-up after a collapse, and clocks that are absent. -/
theorem test_meets_supplies :
    (let x := (supplyIs .keep 0 (fun x => { x with main := x.back })).supply; (x.feed 1).inRange = false ∧ x.live = false) ∧
    (let x := (devIs .acquire 0 id).supply
     (x.feed 1).inRange = false ∧ x.live = true ∧ x.collapseAt = none ∧ x.holdOnly = false ∧ (x.feed x.sel).inRange = true ∧ x.sel = 0 ∧
       (x.feed (1 - 0)).inRange = false ∧ x.lrefAbsent.contains 3 = false) ∧
    (let x := (supplyIs .acquire 0 (fun x => { x with main := x.back, collapseAt := some 1000 })).supply
     (x.feed 0).inRange = false ∧ x.live = true ∧ x.collapseAt.isSome = true) ∧
    (let x := (supplyIs .acquire 0 (fun x => { x with back := x.main, lrefAbsent := [3] })).supply
     (x.feed 1).inRange = true ∧ x.sel ≠ 1 ∧ x.lrefAbsent.contains 3 = true) ∧
    (let s := supplyIs .keep 0 (fun x => { x with collapsed := true })
     s.supply.collapsed = true ∧ s.supply.live = true ∧ s.mode = .keep ∧ s.inReset = false ∧ s.start.running = false ∧ s.tap.startWaits = false) ∧
    (let s := devIs .acquire 0 (fun s => s.modPort 0 (fun x => { x with refClk := false }))
     (s.port 0).refClk = false ∧ (s.phys poolPlls 4).st ≠ 4) := by decide +kernel

/-- ManagementRegisters: GUARD_ARM in force for 10 ms less a tick, and 10 ms old. -/
theorem test_meets_guard_arm :
    ∀ t ∈ [4999999, 5000000], let s := mgIs .acquire t (fun x => { x with armed := some 10000000 })
      s.supply.live = true ∧ s.supply.fed = true ∧ s.start.porstLow = false ∧ s.start.warmLow = false ∧ s.start.running = false ∧
        s.mg.armed = some 10000000 ∧ (s.ns < 10000000 ↔ t = 4999999) := by decide +kernel

/-- A CG_XFER block for bus 16 that writes n bytes. -/
def xferBlock (n : Nat) : List Byte := BitVec.ofNat 8 (5 + n) :: 16 :: 0x50 :: 0 :: BitVec.ofNat 8 n :: 0 :: zeros n

/-- ManagementBusRows: a CG_XFER of 0 and of 32 bytes on a bus whose cage has power, one that is reserved, one too short; a transfer that
runs, at its eighth try and before; a recovery at its second and third attempt; a power cycle at each step; an alert held low; a Host
Notify and its seventh and eighth try; a thermal limit; a clock that stops; a bus that is held. -/
theorem test_meets_management_bus :
    (∀ n ∈ [0, 32], let s := startIs .acquire 0 (fun x => { x with cagePower := [16] })
      let l := xferBlock n
      s.supply.live = true ∧ 5 ≤ lfld l 0 1 ∧ lfld l 0 1 ≤ 37 ∧ s.mg.xfer.status ≠ 1 ∧ l.length = lfld l 0 1 + 1 ∧ cgBad (l.drop 1) = false ∧
        (cgParse (l.drop 1)).bus = 16 ∧ (s.bus 16).out = false ∧ (s.bus 16).cycle = none ∧ s.start.cagePower.contains 16 = true) ∧
    (let l : List Byte := [5, 17, 0, 0, 0, 0]; l.length = lfld l 0 1 + 1 ∧ cgBad (l.drop 1) = true) ∧
    (lfld [(4 : Byte)] 0 1 < 5 ∧ 37 < lfld [(38 : Byte)] 0 1) ∧
    (∀ k ∈ [7, 8], let s := mgIs .acquire 0 (fun x => { x with xfer := { x.xfer with status := 1, tries := k, rlen := 1 } })
      s.xferRuns = true ∧ (s.mg.xfer.tries < 8 ↔ k = 7) ∧ [(0 : Byte)].length = s.mg.xfer.rlen) ∧
    (∀ k ∈ [1, 2], let s := mgIs .acquire 0 (fun x => { x with buses := [(16, { CgBus.reset with recovery := some (k, 0) })] })
      (s.bus 16).recovery = some (k, 0) ∧ 0 ≤ s.ns) ∧
    (∀ k ∈ [1, 2], let s := mgIs .acquire 0 (fun x => { x with buses := [(16, { CgBus.reset with cycle := some (k, 0, true) })] })
      (s.bus 16).cycle = some (k, 0, true)) ∧
    (let s := mgIs .acquire 0 (fun x => { x with alertLow := true, notifying := some (0, 0) })
     s.supply.live = true ∧ s.mg.alertLow = true ∧ s.mg.notifying = some (0, 0)) ∧
    (∀ n ∈ [5, 6], (mgIs .acquire 0 (fun x => { x with notifying := some (n + 1, 0) })).mg.notifying = some (n + 1, 0)) ∧
    toInt 16 (devIs .acquire 0 id).mg.therm ≤ (0x640 : BitVec 16).toInt ∧
    (let s := mgIs .acquire 0 (fun x => { x with armed := some 0 }); s.due s.mg.armed = true) ∧
    (let s := mgIs .keep 5000000 (fun x => { x with clock := true }); s.mode = .keep ∧ s.supply.live = true ∧ s.mg.clock = true ∧ s.mg.lastXfer + 10000000 ≤ s.ns) ∧
    (devIs .acquire 0 id).mg.hung = none ∧ (mgIs .acquire 0 (fun x => { x with hung := some (true, false) })).mg.hung.isSome = true := by
  decide +kernel

/-- TestAccessPort: a supply with PORST# high and low, and the controller in Shift-DR and in Capture-DR with IDCODE. -/
theorem test_meets_tap :
    (∀ p, let s := startIs .keep 0 (fun x => { x with porstLow := p }); s.supply.fed = true ∧ s.start.porstLow = p) ∧
    (devIs .keep 0 (fun s => { s with tap := { s.tap with st := .shiftDr } })).tap.st = .shiftDr ∧
    (let s := devIs .keep 0 (fun s => { s with tap := { s.tap with st := .captureDr } }); s.tap.st = .captureDr ∧ s.tap.ir = 0x01) := by decide +kernel

/-- Dark with a command that waits. -/
def darkWith (c : Instr) : State := { on .dark with pending := [c] }

/-- EveryStepKeepsTheInvariant and DarkIsLeftOnlyByResets: Dark with a waiting command that ends it. -/
theorem test_meets_invariant :
    (darkWith (.porstAssert 0)).Inv ∧ (darkWith (.porstAssert 0)).mode = .dark ∧
      ∃ u, step (darkWith (.porstAssert 0)) = .next u ∧ u.mode = .keep :=
  ⟨⟨by decide +kernel, by decide +kernel, by decide +kernel, by decide +kernel⟩, rfl, _, rfl, by decide +kernel⟩

/-- The same with a command that does not end Dark. -/
theorem test_meets_invariant_in_dark :
    (darkWith (.modeTransitionComplete 0)).Inv ∧ (darkWith (.modeTransitionComplete 0)).mode = .dark ∧
      ∃ u, step (darkWith (.modeTransitionComplete 0)) = .next u ∧ u.mode = .dark :=
  ⟨⟨by decide +kernel, by decide +kernel, by decide +kernel, by decide +kernel⟩, rfl, _, rfl, by decide +kernel⟩

/-- UndefinedCodesAreNotAcknowledged: the codes beside the first and the last of the table, and those two. -/
theorem test_meets_undefined_codes :
    let defined := [0x01, 0x02, 0x03, 0x04, 0x08, 0x09, 0x0A, 0x0C, 0x0D, 0x10, 0x11, 0x12, 0x13, 0x20, 0x21, 0x22, 0x23, 0x30, 0x31, 0x32]
    (0x00 ∉ defined ∧ 0x33 ∉ defined) ∧ 0x01 ∈ defined ∧ 0x32 ∈ defined := by decide

/-! ### Lantern instructions that wait, trap or end a routine -/

/-- A gather of one element to the start of the local store is outstanding. -/
def gathers (x : Lantern) : Lantern := { x with gather := some { segment := [], src := 0, dest := 0, elem := 0, indices := [0] } }

/-- ScalarLoadsAndTraps: LW of the gather port and of the interrupt controller, and of the first byte that a gather will write. -/
theorem test_meets_loads_of_ports :
    (∀ q ∈ ([(0x3000000, .gather), (0x4000000, .irq)] : List (Nat × LtRange)),
      let f := fun x : Lantern => x.setS 2 q.1
      Lit f 0x40220000 ∧ iMajor 0x40220000 = 0x10 ∧ (let a := ((litAt f 0x40220000).sreg 2 + sx16 0) % 2 ^ 32
        a % 4 = 0 ∧ (litAt f 0x40220000).rangeOf a = q.2)) ∧
    (Lit gathers 0x40220000 ∧ (litAt gathers 0x40220000).rangeOf 0 = .store ∧ (litAt gathers 0x40220000).stalls 0 4 = true) := by
  simp only [State.AtPc, Lit]; decide +kernel

/-- ScalarStores and ScalarLoadsAndTraps: each store to the output line; SW to the gather port and to the interrupt controller; stores to
the window and to a block. -/
theorem test_meets_stores_elsewhere :
    (∀ q ∈ ([(0x54220000, 0x15, 4), (0x58220000, 0x16, 2), (0x5C220000, 0x17, 1)] : List (Nat × Nat × Nat)),
      let f := fun x : Lantern => x.setS 2 0x2000000
      Lit f q.1 ∧ iMajor q.1 = q.2.1 ∧ (litAt f q.1).rangeOf 0x2000000 = .out ∧ 0x2000000 % q.2.2 = 0 ∧ (litAt f q.1).stalls 0x2000000 q.2.2 = false) ∧
    (∀ q ∈ ([(0x3000000, .gather), (0x4000000, .irq), (0x1070000, .window), (0x5000000, .blocks)] : List (Nat × LtRange)),
      let f := fun x : Lantern => x.setS 2 q.1
      Lit f 0x54220000 ∧ ((litAt f 0x54220000).sreg 2 + sx16 0) % 2 ^ 32 = q.1 ∧ q.1 % 4 = 0 ∧ (litAt f 0x54220000).rangeOf q.1 = q.2) := by
  simp only [State.AtPc, Lit]; decide +kernel

/-- BranchesAndJumps: a taken branch whose target lies before the code, and one beyond it; the same of BP. -/
theorem test_meets_branch_targets :
    (∀ q ∈ ([(0x8000FFFF, true), (0x80000002, false)] : List (Nat × Bool)),
      (lit id q.1).AtPc 0 (BitVec.ofNat 32 q.1) ∧ iMajor q.1 = 0x20 ∧
        (((litAt id q.1).pc : Int) + toInt 16 (iImm q.1) < 0 ↔ q.2 = true) ∧
        (((litAt id q.1).codeWords : Int) ≤ (litAt id q.1).pc + toInt 16 (iImm q.1) ↔ q.2 = false)) ∧
    (∀ w ∈ [0x9C00FFFF, 0x9C000002], (lit id w).AtPc 0 (BitVec.ofNat 32 w) ∧ iMajor w = 0x27 ∧ (litAt id w).preg (nbits w 23 3) ≠ 0) := by
  simp only [State.AtPc]; decide +kernel

/-- VectorInstructions: VLD and VST at an odd address, with a lane beyond the local store, with every lane's guard 1, and where a gather's
bytes are awaited. -/
theorem test_meets_vector_traps :
    (∀ w ∈ [0x60404000, 0x64404000], ∀ b ∈ [1, 0x1FFFC2],
      let f := fun x : Lantern => x.setS 1 b
      let x := litAt f w
      let a := (x.sreg (nbits w 14 5) + ofInt 32 (toInt 14 (nbits w 0 14))) % 2 ^ 32
      Lit f w ∧ a = b ∧ (b = 0x1FFFC2 → nbit (x.preg (nbits w 19 3)) 31 = true ∧ x.readable (a + 62) = false ∧ x.writable (a + 62) = false)) ∧
    (∀ w ∈ [0x60404000, 0x64404000],
      let x := litAt gathers w
      let a := (x.sreg (nbits w 14 5) + ofInt 32 (toInt 14 (nbits w 0 14))) % 2 ^ 32
      Lit gathers w ∧ a % 2 = 0 ∧ x.stalls a 2 = true ∧ ∀ k ∈ List.range 32, x.readable (a + 2 * k) = true ∧ x.writable (a + 2 * k) = true) := by
  simp only [State.AtPc, Lit]; decide +kernel

/-- SpecialAndSystemInstructions: MFSR of LINE_LEN with a frame in work; RETI to a word outside the code; a WAIT that has ended as the last
word. -/
theorem test_meets_system_edges :
    (let s := (linesAt .acquire 1 false true).modLantern 0 (fun x => { x with routine := .lineEntry, bank0 := some (kernel0 0xC0200002) })
     (s.elapse 0).AtPc 0 0xC0200002 ∧ (((s.elapse 0).awake 0).workFrame 0).isSome = true) ∧
    (let f := fun x : Lantern => handler0 ({ x with sr := [(9, 2)] })
     Lit f 0xFC000003 ∧ ∃ y ∈ (litAt f 0xFC000003).handlerReturn, y.codeWords ≤ y.pc) ∧
    (let s := lit (fun x => { x with pc := 2 }) 0xFC000002
     (s.settled 0).runsOut 0 = true) := by
  simp only [State.AtPc, Lit]; decide +kernel

/-- ExtendedInstructions: each operation with an odd array, and with an even one that lies in no range. -/
theorem test_meets_extended_traps :
    ∀ r ∈ ([(0xE0221801, 1, vblkPlan), (0xE0221802, 2, vfirPlan), (0xE0221803, 3, vgathPlan), (0xE0201804, 4, vscanPlan),
        (0xE0220005, 5, vhistPlan), (0xE0200006, 6, vredPlan)] : List (Nat × Nat × (Nat → State → Lantern → Nat → List Nat → ExtGroup))),
      ∀ b ∈ [0x1001, 0x200000],
        let f := fun x : Lantern => (((x.setS 1 b).setS 2 0x2000).setS 3 0x3000).setSpr 5 32
        let x := litAt f r.1
        let p := r.2.2 0 ((lit f r.1).awake 0) x r.1 (groupElems (x.spr 5) (x.spr 4))
        Lit f r.1 ∧ iMajor r.1 = 0x38 ∧ iMinor r.1 = r.2.1 ∧ (p.aligned = false ↔ b = 0x1001) ∧
          (b = 0x200000 → p.reads.any (fun q => !x.readable q.1) = true ∨ p.writes.any (fun q => !x.writable q.1) = true) := by
  simp only [State.AtPc, Lit]; decide +kernel

/-- CommandsThatDoNotRunChangeNothing: a command that a check refuses, and one whose ring is not there. -/
theorem test_meets_commands_that_do_not_run :
    (let c := cmd 0x05 []
     let s := (on .acquire).elapse 0
     s.fetchable c = true ∧ ((portConfigChecks c (s.fetched c)).first (s.fetched c) c.ring.port 0x05 c.e).isSome = true) ∧
    (State.reset.fetchable (cmd 1 []) = false) := by decide +kernel

/-- StepRunsTheFrontCommand and IdleStepIsOneTick: a command waits, and none does. -/
theorem test_meets_queue : (darkWith (.porstAssert 0)).pending = [.porstAssert 0] ∧ State.reset.pending = [] := ⟨rfl, rfl⟩

end Sys2Proof.Machine.Tests
end

section
/-!
SUPPORT. What `State.Inv` reads of a state, its spine, and the frame of every operation: all but the few that move device time, the mode,
start-up or the change of mode leave the spine as it was. One lemma for each operation, in the order of the model.
-/

namespace Sys2Proof.Machine

/-- What the invariant reads of a state. -/
structure Spine where
  pending : List Instr
  time : Nat
  mode : Mode
  running : Bool
  transition : Option (Mode × Nat × Nat × Bool)

/-- The part of a state that `State.Inv` reads. -/
def State.spine (s : State) : Spine := ⟨s.pending, s.time, s.mode, s.start.running, s.start.transition⟩

@[simp] theorem State.spine_mk (pending out ticks time rateAdj fresh mode claim claimLast start seq ports lanes tables sconces sliceBusy streams aux
    auxWait tb encoders seqs targets gio map lanterns channels flights groups health healthNv healthAt plans takeOvers sup guards patrol dark
    windows fatal jn recorder session mg supply tap tests) :
    (State.mk pending out ticks time rateAdj fresh mode claim claimLast start seq ports lanes tables sconces sliceBusy streams aux
      auxWait tb encoders seqs targets gio map lanterns channels flights groups health healthNv healthAt plans takeOvers sup guards patrol dark
      windows fatal jn recorder session mg supply tap tests).spine = ⟨pending, time, mode, start.running, start.transition⟩ := rfl

@[simp] theorem State.spine_eta (s : State) : Spine.mk s.pending s.time s.mode s.start.running s.start.transition = s.spine := rfl

@[simp] theorem State.spine_ite (c : Prop) [Decidable c] (s u : State) :
    (if c then s else u).spine = if c then s.spine else u.spine := apply_ite ..

theorem State.Reports.spine {s u : State} (h : u.Reports s) : u.spine = s.spine := by
  obtain ⟨⟨_, _, _, _, _, rfl⟩, -⟩ := h; rfl

@[simp] theorem State.foldl_spine {α : Type} {f : State → α → State} (h : ∀ t x, (f t x).spine = t.spine) (l : List α) (s : State) :
    (l.foldl f s).spine = s.spine := by
  induction l generalizing s with
  | nil => rfl
  | cons a l ih => exact (ih _).trans (h s a)

/-- The outcome is a next state with the spine of s. -/
def KeepsSpine (s : State) (o : Host.Outcome State Fault Refusal) : Prop := ∀ u, o = .next u → u.spine = s.spine

@[simp] theorem keepsSpine_next (s u : State) : KeepsSpine s (.next u) ↔ u.spine = s.spine := by
  constructor
  · exact fun h => h u rfl
  · rintro h v ⟨⟩; exact h

@[simp] theorem keepsSpine_ite (c : Prop) [Decidable c] (s : State) (o q : Host.Outcome State Fault Refusal) :
    KeepsSpine s (if c then o else q) ↔ if c then KeepsSpine s o else KeepsSpine s q := by split <;> rfl

@[simp] theorem State.elapse_spine (s : State) (n : Nat) :
    (s.elapse n).spine = ⟨s.pending, (s.elapse n).time, s.mode, s.start.running, s.start.transition⟩ := rfl

@[simp] theorem State.foldl_fst_spine {α β : Type} {f : State × β → α → State × β} (h : ∀ a x, (f a x).1.spine = a.1.spine) (l : List α)
    (a : State × β) : (l.foldl f a).1.spine = a.1.spine := by
  induction l generalizing a with
  | nil => rfl
  | cons x l ih => exact (ih _).trans (h a x)

/-! ### What every family shares -/

@[simp] theorem State.say_spine (s : State) (o : Output) : (s.say o).spine = s.spine := (State.say_reports ..).spine
@[simp] theorem State.freshen_spine (s : State) : s.freshen.spine = s.spine := rfl
@[simp] theorem State.setPort_spine (s : State) (p : Nat) (x : Port) : (s.setPort p x).spine = s.spine := rfl
@[simp] theorem State.modPort_spine (s : State) (p : Nat) (f : Port → Port) : (s.modPort p f).spine = s.spine := by simp [State.modPort]
@[simp] theorem State.setRing_spine (s : State) (p i : Nat) (r : Ring) : (s.setRing p i r).spine = s.spine := by simp [State.setRing]
@[simp] theorem State.modRing_spine (s : State) (p i : Nat) (f : Ring → Ring) : (s.modRing p i f).spine = s.spine := by simp [State.modRing]
@[simp] theorem State.setLane_spine (s : State) (l : Nat) (x : Lane) : (s.setLane l x).spine = s.spine := rfl
@[simp] theorem State.modLane_spine (s : State) (l : Nat) (f : Lane → Lane) : (s.modLane l f).spine = s.spine := by simp [State.modLane]
@[simp] theorem State.setLantern_spine (s : State) (n : Nat) (x : Lantern) : (s.setLantern n x).spine = s.spine := rfl

@[simp] theorem State.modLantern_spine (s : State) (n : Nat) (f : Lantern → Lantern) : (s.modLantern n f).spine = s.spine := by
  simp [State.modLantern]

@[simp] theorem State.setSconce_spine (s : State) (k : Nat) (x : Sconce) : (s.setSconce k x).spine = s.spine := rfl

@[simp] theorem State.modSconce_spine (s : State) (k : Nat) (f : Sconce → Sconce) : (s.modSconce k f).spine = s.spine := by
  simp [State.modSconce]

@[simp] theorem State.setStream_spine (s : State) (n : Nat) (x : Stream) : (s.setStream n x).spine = s.spine := rfl

@[simp] theorem State.modStream_spine (s : State) (n : Nat) (f : Stream → Stream) : (s.modStream n f).spine = s.spine := by
  simp [State.modStream]

@[simp] theorem State.sendVector_spine (s : State) (p v : Nat) : (s.sendVector p v).spine = s.spine := (State.sendVector_reports ..).spine
@[simp] theorem State.fireRing_spine (s : State) (p i : Nat) : (s.fireRing p i).spine = s.spine := (State.fireRing_reports ..).spine

@[simp] theorem State.writeEntry_spine (s : State) (p i : Nat) (bytes : List Byte) : (s.writeEntry p i bytes).spine = s.spine :=
  (State.writeEntry_reports ..).spine

@[simp] theorem State.putRecord_spine (s : State) (p i : Nat) (e : EvRec) : (s.putRecord p i e).spine = s.spine :=
  (State.putRecord_reports ..).spine

@[simp] theorem State.journal_spine (s : State) (qual typ island time : Nat) (body : List Byte) :
    (s.journal qual typ island time body).spine = s.spine := (State.journal_reports ..).spine

@[simp] theorem State.journalCommand_spine (s : State) (rid slot : Nat) (e : Entry) (status : Nat) :
    (s.journalCommand rid slot e status).spine = s.spine := (State.journalCommand_reports ..).spine

@[simp] theorem State.closeWindows_spine (s : State) : s.closeWindows.spine = s.spine := (State.closeWindows_reports ..).spine

@[simp] theorem State.recordAt_spine (s : State) (time p i cls typ island subject data : Nat) :
    (s.recordAt time p i cls typ island subject data).spine = s.spine := (State.recordAt_reports ..).spine

@[simp] theorem State.record_spine (s : State) (p i cls typ island subject data : Nat) :
    (s.record p i cls typ island subject data).spine = s.spine := (State.record_reports ..).spine

@[simp] theorem State.report_spine (s : State) (owner : Option Nat) (cls typ island subject data : Nat) :
    (s.report owner cls typ island subject data).spine = s.spine := (State.report_reports ..).spine

@[simp] theorem State.reportPorts_spine (s : State) (pick : Nat → Bool) (cls typ island subject data : Nat) :
    (s.reportPorts pick cls typ island subject data).spine = s.spine := (State.reportPorts_reports ..).spine

@[simp] theorem State.drainRing_spine (s : State) (p i : Nat) : (s.drainRing p i).spine = s.spine := (State.drainRing_reports ..).spine

@[simp] theorem State.finish_spine (s : State) (p i k : Nat) (e : Entry) (st : Status) : (s.finish p i k e st).spine = s.spine :=
  (State.finish_reports ..).spine

@[simp] theorem State.fetched_spine (s : State) (c : RingCmd) : (s.fetched c).spine = s.spine := (State.fetched_reports ..).spine

@[simp] theorem State.settle_spine (s : State) (c : RingCmd) (k : Nat) (d : Done) : (s.settle c k d).spine = s.spine :=
  (State.settle_reports ..).spine

@[simp] theorem State.journalLoad_spine (s : State) (c : LoadCmd) (st : Status) : (s.journalLoad c st).spine = s.spine := by
  simp [State.journalLoad]

@[simp] theorem State.finishWaiting_spine (s : State) (rid arg : Nat) (st : Status) : (s.finishWaiting rid arg st).spine = s.spine :=
  (State.finishWaiting_reports ..).spine

@[simp] theorem State.hostPut_spine (s : State) (p addr : Nat) (data : List Byte) : (s.hostPut p addr data).spine = s.spine :=
  (State.hostPut_reports ..).spine

/-! ### Ring commands (03 R103, R111, R112) -/

@[simp] theorem State.committed_spine (s : State) (c : RingCmd) (op : Nat) : (s.committed c op).spine = s.spine := (committed_reports ..).spine

/-- A command that is not fetched, or that a check refuses, has no effect. -/
theorem command_unaccepted_keeps {s : State} {c : RingCmd} {op : Nat} {chk : State → Checks} (eff : State → State × Done)
    (h : ¬ s.Accepts c op chk) : KeepsSpine s (s.command c op chk eff) := by
  unfold State.command
  split
  · next hf =>
    dsimp only
    split
    · simp
    · next hc => exact absurd ⟨hf, hc⟩ h
  · simp

/-- Beside the effect of a command that is accepted, nothing moves what the invariant reads. -/
theorem State.command_cases {s u : State} {c : RingCmd} {op : Nat} {chk : State → Checks} {eff : State → State × Done}
    (h : s.command c op chk eff = .next u) :
    u.spine = s.spine ∨ s.Accepts c op chk ∧ u.spine = (eff (s.committed c op)).1.spine := by
  by_cases ha : s.Accepts c op chk
  · rw [command_accepted eff ha] at h
    exact .inr ⟨ha, Host.Outcome.next.inj h ▸ settle_spine ..⟩
  · exact .inl (command_unaccepted_keeps eff ha u h)

theorem command_keeps {s : State} {c : RingCmd} {op : Nat} {chk : State → Checks} {eff : State → State × Done}
    (h : ∀ v, (eff v).1.spine = v.spine) : KeepsSpine s (s.command c op chk eff) := by
  intro u hu
  obtain hs | ⟨-, hs⟩ := State.command_cases hu
  · exact hs
  · rw [hs, h, State.committed_spine]

/-! ### Emission of events and the group switches (13) -/

@[simp] theorem State.setChannel_spine (s : State) (n : Nat) (x : Channel) : (s.setChannel n x).spine = s.spine := rfl
@[simp] theorem State.setGroup_spine (s : State) (g : Nat) (x : Group) : (s.setGroup g x).spine = s.spine := rfl
@[simp] theorem State.setSlot_spine (s : State) (n k : Nat) (y : Slot) : (s.setSlot n k y).spine = s.spine := by simp [State.setSlot]
@[simp] theorem State.switchGroup_spine (s : State) (g i op : Nat) : (s.switchGroup g i op).spine = s.spine := by simp [State.switchGroup]

@[simp] theorem State.journalFabric_spine (s : State) (n k kind stamp outcome : Nat) :
    (s.journalFabric n k kind stamp outcome).spine = s.spine := by simp [State.journalFabric]

@[simp] theorem State.gatedRecords_spine (s : State) (n stamp : Nat) : (s.gatedRecords n stamp).spine = s.spine := by
  simp [State.gatedRecords]

@[simp] theorem State.emitOn_spine (s : State) (n stamp p : Nat) : (s.emitOn n stamp p).spine = s.spine := by simp [State.emitOn]

@[simp] theorem State.emit_spine (s : State) (kind index : Nat) (arg : Nat → Bool) (stamp p : Nat) :
    (s.emit kind index arg stamp p).spine = s.spine := by simp [State.emit]

@[simp] theorem State.emit0_spine (s : State) (kind index stamp p : Nat) : (s.emit0 kind index stamp p).spine = s.spine := by
  simp [State.emit0]

/-! ### The auxiliary movers (14 R479 to R483) -/

@[simp] theorem State.hostPutParts_spine (s : State) (port : Nat) (parts : List (Nat × List Byte)) :
    (s.hostPutParts port parts).spine = s.spine := by simp [State.hostPutParts]

@[simp] theorem State.setAux_spine (s : State) (n : Nat) (x : AuxMover) : (s.setAux n x).spine = s.spine := rfl

@[simp] theorem State.auxAdd_spine (s : State) (j : AuxJob) : (s.auxAdd j).spine = s.spine := by
  unfold State.auxAdd; split <;> rfl

@[simp] theorem State.auxPull_spine (s : State) : s.auxPull.spine = s.spine := by
  unfold State.auxPull; split <;> simp

@[simp] theorem State.auxRecord_spine (s : State) (n cls typ : Nat) : (s.auxRecord n cls typ).spine = s.spine := by simp [State.auxRecord]
@[simp] theorem State.auxEnd_spine (s : State) (n : Nat) (moved : List Byte) : (s.auxEnd n moved).spine = s.spine := by simp [State.auxEnd]

@[simp] theorem State.queueBlock_spine (s : State) (c : RingCmd) (va : Nat) (data : List Byte) :
    (s.queueBlock c va data).1.spine = s.spine := by simp [State.queueBlock]

/-! ### Captures of Record mode (16) -/

@[simp] theorem State.setCapture_spine (s : State) (k : Nat) (c : Capture) : (s.setCapture k c).spine = s.spine := rfl
@[simp] theorem State.areaPut_spine (s : State) (b : CapBlock) : (s.areaPut b).spine = s.spine := rfl

@[simp] theorem State.blockOut_spine (s : State) (p i area slotLog2 : Nat) (b : CapBlock) :
    (s.blockOut p i area slotLog2 b).spine = s.spine := by simp [State.blockOut]

theorem State.placeBlock_spine {s u : State} {k : Nat} {c : Capture} {b : CapBlock} (h : s.placeBlock k c b = some u) :
    u.spine = s.spine := by
  unfold State.placeBlock at h
  split at h
  · cases h
  · cases h; simp

@[simp] theorem State.placeBlocks_spine (s : State) (k n : Nat) : (s.placeBlocks k n).spine = s.spine := by
  induction n generalizing s with
  | zero => rfl
  | succ n ih =>
    unfold State.placeBlocks
    repeat' split
    case h_2 _ h => exact (ih _).trans (placeBlock_spine h)
    all_goals rfl

@[simp] theorem State.captureFlush_spine (s : State) (k : Nat) : (s.captureFlush k).spine = s.spine := by
  simp only [State.captureFlush]
  repeat' split
  all_goals simp

@[simp] theorem State.exportBlocks_spine (s : State) (x : Export) (n : Nat) : (s.exportBlocks x n).1.spine = s.spine := by
  induction n generalizing s x with
  | zero => rfl
  | succ n ih =>
    unfold State.exportBlocks
    repeat' split
    all_goals simp [ih]

@[simp] theorem State.recorderFlush_spine (s : State) : s.recorderFlush.spine = s.spine := by simp [State.recorderFlush]

@[simp] theorem State.captureState_spine (s : State) (k port code frame : Nat) : (s.captureState k port code frame).spine = s.spine := by
  simp [State.captureState]

@[simp] theorem State.captureCheck_spine (s : State) (k : Nat) : (s.captureCheck k).spine = s.spine := by
  unfold State.captureCheck; split <;> simp

@[simp] theorem State.captureItem_spine (s : State) (k item dt vc part len time : Nat) (body : List Byte) :
    (s.captureItem k item dt vc part len time body).spine = s.spine := by
  unfold State.captureItem; split <;> simp

@[simp] theorem State.captureEncoder_spine (s : State) (ch stamp kind : Nat) (count : Option Nat) :
    (s.captureEncoder ch stamp kind count).spine = s.spine :=
  foldl_spine (fun t k => by split <;> simp) ..

/-! ### Encoder channels (11) -/

@[simp] theorem State.setEnc_spine (s : State) (e : Nat) (x : Encoder) : (s.setEnc e x).spine = s.spine := rfl
@[simp] theorem State.setGio_spine (s : State) (g : Nat) (x : Gio) : (s.setGio g x).spine = s.spine := rfl
@[simp] theorem State.drive_spine (s : State) (g i : Nat) (level : Bool) : (s.drive g i level).spine = s.spine := by simp [State.drive]

@[simp] theorem State.encRecord_spine (s : State) (e i cls typ hi data : Nat) : (s.encRecord e i cls typ hi data).spine = s.spine := by
  simp [State.encRecord]

@[simp] theorem State.encCount_spine (s : State) (e code n : Nat) : (s.encCount e code n).spine = s.spine := by simp [State.encCount]

@[simp] theorem State.journalObserver_spine (s : State) (e tu : Nat) : (s.journalObserver e tu).spine = s.spine := by
  simp [State.journalObserver]

@[simp] theorem State.journalObsEvent_spine (s : State) (e i cause : Nat) : (s.journalObsEvent e i cause).spine = s.spine := by
  simp [State.journalObsEvent]

@[simp] theorem State.obsChange_spine (s : State) (e i cause : Nat) (old : ObsState) (resid : ℤ) :
    (s.obsChange e i cause old resid).spine = s.spine := by simp [State.obsChange]

@[simp] theorem State.forceLost_spine (s : State) (e i cause : Nat) : (s.forceLost e i cause).spine = s.spine := by simp [State.forceLost]

@[simp] theorem State.obsStep_spine (s : State) (e tu : Nat) : (s.obsStep e tu).spine = s.spine := by
  simp only [State.obsStep]; split <;> simp

@[simp] theorem State.obsUpdate_spine (s : State) (e tu : Nat) : (s.obsUpdate e tu).spine = s.spine := by simp [State.obsUpdate]

@[simp] theorem State.divide_spine (s : State) (e i k : Nat) (forward : Bool) : (s.divide e i k forward).spine = s.spine := by
  simp only [State.divide]; split <;> simp

@[simp] theorem State.divideOut_spine (s : State) (e : Nat) : (s.divideOut e).spine = s.spine := by
  simp only [State.divideOut]
  repeat' split
  all_goals simp

/-! ### Operations of the camera lanes (04) -/

@[simp] theorem State.laneRecord_spine (s : State) (l cls typ sensor hi data : Nat) :
    (s.laneRecord l cls typ sensor hi data).spine = s.spine := by simp [State.laneRecord]

@[simp] theorem State.laneCount_spine (s : State) (l code n : Nat) : (s.laneCount l code n).spine = s.spine := by simp [State.laneCount]
@[simp] theorem State.flagFire_spine (s : State) (fireId bit : Nat) : (s.flagFire fireId bit).spine = s.spine := rfl

@[simp] theorem State.lanePacket_spine (s : State) (l dt sensor : Nat) (short : Bool) (payload : List Byte) :
    (s.lanePacket l dt sensor short payload).spine = s.spine := by simp [State.lanePacket]

@[simp] theorem State.laneSend_spine (s : State) (l dt sensor : Nat) (payload : List Byte) :
    (s.laneSend l dt sensor payload).spine = s.spine := by simp [State.laneSend]

@[simp] theorem State.laneShort_spine (s : State) (l dt sensor : Nat) : (s.laneShort l dt sensor).spine = s.spine := by
  simp [State.laneShort]

@[simp] theorem State.laneTo_spine (s : State) (l : Nat) (st : LaneState) : (s.laneTo l st).spine = s.spine := by simp [State.laneTo]
@[simp] theorem State.diagLaneBack_spine (s : State) (l : Nat) : (s.diagLaneBack l).spine = s.spine := by simp [State.diagLaneBack]

@[simp] theorem State.sendRequest_spine (s : State) (l : Nat) (r : LaneReq) : (s.sendRequest l r).spine = s.spine := by
  simp [State.sendRequest]

@[simp] theorem State.sendRequests_spine (s : State) (l : Nat) : (s.sendRequests l).spine = s.spine := by simp [State.sendRequests]

@[simp] theorem State.endRequest_spine (s : State) (l arg : Nat) (st : Status) : (s.endRequest l arg st).spine = s.spine := by
  simp only [State.endRequest]; split <;> simp

@[simp] theorem State.loseRequests_spine (s : State) (l : Nat) : (s.loseRequests l).spine = s.spine := by simp [State.loseRequests]
@[simp] theorem State.takeRequest_spine (s : State) (l arg : Nat) : (s.takeRequest l arg).spine = s.spine := by simp [State.takeRequest]

@[simp] theorem State.retransmit_spine (s : State) (l sensor : Nat) : (s.retransmit l sensor).spine = s.spine := by
  simp only [State.retransmit]; split <;> simp

@[simp] theorem State.expireRequests_spine (s : State) (l sensor : Nat) : (s.expireRequests l sensor).spine = s.spine := by
  simp [State.expireRequests]

@[simp] theorem State.sendTrig_spine (s : State) (l : Nat) (k : TrigPkt) (leave : Nat) : (s.sendTrig l k leave).spine = s.spine := by
  simp [State.sendTrig]

@[simp] theorem State.loseTrig_spine (s : State) (l : Nat) (k : TrigPkt) : (s.loseTrig l k).spine = s.spine := by simp [State.loseTrig]

@[simp] theorem State.dueTrig_spine (s : State) (l : Nat) (k : TrigPkt) (leave : Nat) : (s.dueTrig l k leave).spine = s.spine := by
  simp [State.dueTrig]

@[simp] theorem State.sendSync_spine (s : State) (l : Nat) : (s.sendSync l).spine = s.spine := by simp [State.sendSync]

@[simp] theorem State.syncChange_spine (s : State) (l : Nat) (locked : Bool) : (s.syncChange l locked).spine = s.spine := by
  simp [State.syncChange]

@[simp] theorem State.syncResponse_spine (s : State) (l : Nat) (pay : List Byte) (t4 : Nat) :
    (s.syncResponse l pay t4).spine = s.spine := by
  simp only [State.syncResponse]; split <;> simp

@[simp] theorem State.syncMiss_spine (s : State) (l : Nat) : (s.syncMiss l).spine = s.spine := by simp [State.syncMiss]
@[simp] theorem State.dueSync_spine (s : State) (l : Nat) : (s.dueSync l).spine = s.spine := by simp [State.dueSync]
@[simp] theorem State.sendNotice_spine (s : State) (l rate : Nat) : (s.sendNotice l rate).spine = s.spine := by simp [State.sendNotice]

@[simp] theorem State.sendItem_spine (s : State) (l : Nat) (q : QItem) : (s.sendItem l q).spine = s.spine := by
  unfold State.sendItem; split <;> simp

@[simp] theorem State.laneFlush_spine (s : State) (l : Nat) : (s.laneFlush l).spine = s.spine := by simp [State.laneFlush]
@[simp] theorem State.sendHalt_spine (s : State) (l : Nat) : (s.sendHalt l).spine = s.spine := by simp [State.sendHalt]

@[simp] theorem State.laneUp_spine (s : State) (l : Nat) : (s.laneUp l).spine = s.spine := by
  simp only [State.laneUp]
  repeat' split
  all_goals simp

@[simp] theorem State.laneDropped_spine (s : State) (l cause : Nat) : (s.laneDropped l cause).spine = s.spine := by simp [State.laneDropped]

@[simp] theorem State.laneLost_spine (s : State) (l : Nat) : (s.laneLost l).spine = s.spine := by
  simp only [State.laneLost]; split <;> simp

@[simp] theorem State.tryUp_spine (s : State) (l : Nat) : (s.tryUp l).spine = s.spine := by simp [State.tryUp]
@[simp] theorem State.sendHello_spine (s : State) (l : Nat) : (s.sendHello l).spine = s.spine := by simp [State.sendHello]

@[simp] theorem State.checkHello_spine (s : State) (l : Nat) (p : List Byte) : (s.checkHello l p).spine = s.spine := by
  simp only [State.checkHello]; split <;> simp

@[simp] theorem State.helloArrives_spine (s : State) (l : Nat) (p : List Byte) : (s.helloArrives l p).spine = s.spine := by
  simp [State.helloArrives]

@[simp] theorem State.enterHunt_spine (s : State) (l : Nat) (header : Bool) : (s.enterHunt l header).spine = s.spine := by
  simp [State.enterHunt]

@[simp] theorem State.overWindow_spine (s : State) (l sn : Nat) : (s.overWindow l sn).spine = s.spine := by simp [State.overWindow]
@[simp] theorem State.shareWindow_spine (s : State) (l : Nat) : (s.shareWindow l).spine = s.spine := by simp [State.shareWindow]

@[simp] theorem State.wick_spine (s : State) (l : Nat) (k : LanePkt) : (s.wick l k).1.spine = s.spine := by
  simp only [State.wick]
  repeat' split
  all_goals simp

@[simp] theorem State.retune_spine (s : State) (l rate : Nat) (recal : Bool) : (s.retune l rate recal).spine = s.spine := by
  simp [State.retune]

/-! ### The Lamplighter (12) -/

@[simp] theorem State.setSeq_spine (s : State) (q : Nat) (x : Sequencer) : (s.setSeq q x).spine = s.spine := rfl
@[simp] theorem State.setTarget_spine (s : State) (g : Nat) (x : Target) : (s.setTarget g x).spine = s.spine := rfl

@[simp] theorem State.trigRecord_spine (s : State) (g : Option Nat) (q cls typ data : Nat) :
    (s.trigRecord g q cls typ data).spine = s.spine := by simp [State.trigRecord]

@[simp] theorem State.tgCount_spine (s : State) (g code : Nat) : (s.tgCount g code).spine = s.spine := by simp [State.tgCount]
@[simp] theorem State.seqCount_spine (s : State) (q code : Nat) : (s.seqCount q code).spine = s.spine := by simp [State.seqCount]

@[simp] theorem State.tgLimited_spine (s : State) (g q cls typ data : Nat) : (s.tgLimited g q cls typ data).spine = s.spine := by
  simp only [State.tgLimited]; split <;> simp

@[simp] theorem State.seqLimited_spine (s : State) (q cls typ data : Nat) : (s.seqLimited q cls typ data).spine = s.spine := by
  simp only [State.seqLimited]; split <;> simp

@[simp] theorem State.queueFire_spine (s : State) (g q : Nat) (x : Fire) : (s.queueFire g q x).spine = s.spine := by
  simp only [State.queueFire]
  repeat' split
  all_goals simp

@[simp] theorem State.giveLane_spine (s : State) (g : Nat) (x : Fire) : (s.giveLane g x).spine = s.spine := by simp [State.giveLane]

@[simp] theorem State.journalFire_spine (s : State) (g outcome f flags accepted : Nat) :
    (s.journalFire g outcome f flags accepted).spine = s.spine := by simp [State.journalFire]

@[simp] theorem State.acceptFire_spine (s : State) (g q f width flags : Nat) : (s.acceptFire g q f width flags).spine = s.spine := by
  simp [State.acceptFire]

@[simp] theorem State.dropDead_spine (s : State) (g q f flags : Nat) : (s.dropDead g q f flags).spine = s.spine := by simp [State.dropDead]

@[simp] theorem State.dropLimit_spine (s : State) (g q f flags : Nat) : (s.dropLimit g q f flags).spine = s.spine := by
  simp [State.dropLimit]

@[simp] theorem State.testFire_spine (s : State) (g q f width flags : Nat) : (s.testFire g q f width flags).spine = s.spine := by
  simp [State.testFire]

@[simp] theorem State.suppressFire_spine (s : State) (g f flags : Nat) : (s.suppressFire g f flags).spine = s.spine := by
  simp [State.suppressFire]

@[simp] theorem State.decideFire_spine (s : State) (g q f width flags : Nat) (position : Bool) :
    (s.decideFire g q f width flags position).spine = s.spine := by
  simp only [State.decideFire]
  repeat' split
  all_goals simp

@[simp] theorem State.mapSlots_spine (s : State) (e : Nat) (f : Sequencer → Nat → Nat → SeqSlot → SeqSlot) :
    (s.mapSlots e f).spine = s.spine := rfl

@[simp] theorem State.slotsOnEdge_spine (s : State) (e visible : Nat) : (s.slotsOnEdge e visible).spine = s.spine := by
  simp [State.slotsOnEdge]

@[simp] theorem State.slotsOnJump_spine (s : State) (e tj : Nat) : (s.slotsOnJump e tj).spine = s.spine := by simp [State.slotsOnJump]
@[simp] theorem State.slotsOnUpdate_spine (s : State) (e : Nat) : (s.slotsOnUpdate e).spine = s.spine := by simp [State.slotsOnUpdate]

@[simp] theorem State.countBy_spine (s : State) (e i : Nat) (forward : Bool) : (s.countBy e i forward).spine = s.spine := by
  rw [State.countBy, slotsOnEdge_spine, divide_spine, setEnc_spine, captureEncoder_spine]

@[simp] theorem State.encJump_spine (s : State) (e tj new hi : Nat) : (s.encJump e tj new hi).spine = s.spine := by simp [State.encJump]

@[simp] theorem State.freeSlot_spine (s : State) (h : Hap) : (s.freeSlot h).spine = s.spine := by
  unfold State.freeSlot; split <;> simp

@[simp] theorem State.offer_spine (s : State) (q : Nat) (h : Hap) : (s.offer q h).spine = s.spine := by simp [State.offer]
@[simp] theorem State.haltSeq_spine (s : State) (q : Nat) : (s.haltSeq q).spine = s.spine := by simp [State.haltSeq]
@[simp] theorem State.haltReport_spine (s : State) (q : Nat) : (s.haltReport q).spine = s.spine := by simp [State.haltReport]
@[simp] theorem State.haltAll_spine (s : State) : s.haltAll.spine = s.spine := by simp [State.haltAll]

@[simp] theorem State.refuseAction_spine (s : State) (q op arg : Nat) : (s.refuseAction q op arg).spine = s.spine := by
  simp [State.refuseAction]

@[simp] theorem State.fireAction_spine (s : State) (q g f width : Nat) (c : Chain) : (s.fireAction q g f width c).spine = s.spine := by
  simp [State.fireAction]

@[simp] theorem State.journalArm_spine (s : State) (q k a : Nat) : (s.journalArm q k a).spine = s.spine := by simp [State.journalArm]

theorem State.armAction_spine {s u : State} {q k : Nat} {prev : Bool} {const : Int} {a : Nat}
    (h : s.armAction q k prev const a = some u) : u.spine = s.spine := by
  simp only [State.armAction] at h
  repeat' split at h
  all_goals simp only [Option.map_eq_some_iff, reduceCtorEq] at h
  all_goals obtain ⟨z, -, rfl⟩ := h; simp

@[simp] theorem State.action_spine (s : State) (q word a : Nat) (c : Chain) : (s.action q word a c).1.spine = s.spine := by
  unfold State.action
  extract_lets x op arg flag const idx long no
  clear_value op arg flag const idx long
  split
  case h_3 =>
    split
    · exact armAction_spine ‹_›
    · simp [no]
  all_goals
    repeat' split
    all_goals simp [no]

@[simp] theorem State.runInstant_spine (q a n : Nat) (s : State) (haps : List Hap) (always : Bool) (chain : Chain) (took : Bool) :
    (State.runInstant q a n s haps always chain took).1.spine = s.spine := by
  induction n generalizing s haps always chain took with
  | zero => rfl
  | succ n ih =>
    simp only [State.runInstant]
    repeat' split
    all_goals simp [ih]

@[simp] theorem State.takeInstant_spine (s : State) (q a : Nat) (haps : List Hap) (always : Bool) :
    (s.takeInstant q a haps always).spine = s.spine := by simp [State.takeInstant]

@[simp] theorem State.gioSafe_spine (s : State) : s.gioSafe.spine = s.spine := by simp [State.gioSafe]

/-! ### EVENT_BIND, EVENT_RELEASE and PERIODIC (13) -/

@[simp] theorem State.takeGroup_spine (s : State) (g p : Nat) : (s.takeGroup g p).spine = s.spine := by simp [State.takeGroup]

@[simp] theorem State.eventLost_spine (s : State) (n k kind bits : Nat) : (s.eventLost n k kind bits).1.spine = s.spine := by
  simp only [State.eventLost]
  repeat' split
  all_goals simp

@[simp] theorem State.retireSlot_spine (keep : Bool) (s : State) (n k : Nat) : (State.retireSlot keep s n k).spine = s.spine := by
  simp [State.retireSlot]

@[simp] theorem State.bind_spine (s : State) (p n : Nat) (e : Entry) : (s.bind p n e).spine = s.spine := by simp [State.bind]
@[simp] theorem eventBindEffect_spine (c : RingCmd) (s : State) : (eventBindEffect c s).1.spine = s.spine := by simp [eventBindEffect]

@[simp] theorem execEventBind_keeps (t : Nat) (c : RingCmd) (s : State) : KeepsSpine (s.elapse t) (execEventBind t c s) :=
  command_keeps (eventBindEffect_spine c)

@[simp] theorem eventSignalEffect_spine (c : RingCmd) (s : State) : (eventSignalEffect c s).1.spine = s.spine := by simp [eventSignalEffect]

@[simp] theorem execEventSignal_keeps (t : Nat) (c : RingCmd) (s : State) : KeepsSpine (s.elapse t) (execEventSignal t c s) :=
  command_keeps (eventSignalEffect_spine c)

@[simp] theorem eventGroupsEffect_spine (c : RingCmd) (s : State) : (eventGroupsEffect c s).1.spine = s.spine := by simp [eventGroupsEffect]

@[simp] theorem execEventGroups_keeps (t : Nat) (c : RingCmd) (s : State) : KeepsSpine (s.elapse t) (execEventGroups t c s) :=
  command_keeps (eventGroupsEffect_spine c)

@[simp] theorem eventStatusEffect_spine (c : RingCmd) (s : State) : (eventStatusEffect c s).1.spine = s.spine := by simp [eventStatusEffect]

@[simp] theorem execEventStatus_keeps (t : Nat) (c : RingCmd) (s : State) : KeepsSpine (s.elapse t) (execEventStatus t c s) :=
  command_keeps (eventStatusEffect_spine c)

@[simp] theorem State.freeChannel_spine (s : State) (n : Nat) : (s.freeChannel n).spine = s.spine := by simp [State.freeChannel]

@[simp] theorem eventReleaseEffect_spine (c : RingCmd) (s : State) : (eventReleaseEffect c s).1.spine = s.spine := by
  simp [eventReleaseEffect]

@[simp] theorem execEventRelease_keeps (t : Nat) (c : RingCmd) (s : State) : KeepsSpine (s.elapse t) (execEventRelease t c s) :=
  command_keeps (eventReleaseEffect_spine c)

@[simp] theorem execPeriodic_keeps (t : Nat) (ch : Fin 256) (s : State) : KeepsSpine (s.elapse t) (execPeriodic t ch s) := by simp [execPeriodic]

/-! ### The Lanterns (08) -/

@[simp] theorem State.lanternRecord_spine (s : State) (n cls typ data : Nat) : (s.lanternRecord n cls typ data).spine = s.spine := by
  simp [State.lanternRecord]

@[simp] theorem State.lanternCount_spine (s : State) (n code k : Nat) : (s.lanternCount n code k).spine = s.spine := by
  simp [State.lanternCount]

@[simp] theorem State.lanternLimited_spine (s : State) (n code cls typ low : Nat) :
    (s.lanternLimited n code cls typ low).spine = s.spine := by simp [State.lanternLimited]

@[simp] theorem State.pend_spine (s : State) (n src : Nat) : (s.pend n src).spine = s.spine := by simp [State.pend]
@[simp] theorem State.doorbell_spine (s : State) (n v : Nat) : (s.doorbell n v).spine = s.spine := by simp [State.doorbell]

@[simp] theorem State.enterLine_spine (s : State) (n : Nat) (f : Frame) (y : Nat) : (s.enterLine n f y).spine = s.spine := by
  simp [State.enterLine]

@[simp] theorem State.enterFrame_spine (s : State) (n : Nat) (f : Frame) : (s.enterFrame n f).spine = s.spine := by simp [State.enterFrame]
@[simp] theorem State.exitFrame_spine (s : State) (n : Nat) (f : Frame) : (s.exitFrame n f).spine = s.spine := by simp [State.exitFrame]
@[simp] theorem State.takeOver_spine (s : State) (n : Nat) : (s.takeOver n).spine = s.spine := by simp [State.takeOver]
@[simp] theorem State.frameDone_spine (s : State) (n : Nat) (f : Frame) : (s.frameDone n f).spine = s.spine := by simp [State.frameDone]

@[simp] theorem State.settleFrame_spine (s : State) (n : Nat) : (s.settleFrame n).spine = s.spine := by
  simp only [State.settleFrame]; split <;> simp

@[simp] theorem State.lanternArrival_spine (s : State) (n : Nat) : (s.lanternArrival n).spine = s.spine := by simp [State.lanternArrival]
@[simp] theorem State.tapsMoved_spine (s : State) (k : Nat) : (s.tapsMoved k).spine = s.spine := by simp [State.tapsMoved]

@[simp] theorem State.lineLeaves_spine (s : State) (n : Nat) (f : Frame) (y : Nat) (px : List Nat) (struck : Bool) :
    (s.lineLeaves n f y px struck).spine = s.spine := by
  simp only [State.lineLeaves]; split <;> simp

@[simp] theorem State.supplyLine_spine (s : State) (n : Nat) (f : Frame) (y : Nat) : (s.supplyLine n f y).spine = s.spine := by
  simp [State.supplyLine]

@[simp] theorem State.lanternIdle_spine (s : State) (n : Nat) : (s.lanternIdle n).spine = s.spine := by simp [State.lanternIdle]

@[simp] theorem State.endRoutine_spine (s : State) (n : Nat) : (s.endRoutine n).spine = s.spine := by
  simp only [State.endRoutine]
  repeat' split
  all_goals simp

@[simp] theorem State.trap_spine (s : State) (n cause pc : Nat) : (s.trap n cause pc).spine = s.spine := by
  simp only [State.trap]
  repeat' split
  all_goals simp

@[simp] theorem State.overrun_spine (s : State) (n : Nat) : (s.overrun n).spine = s.spine := by
  simp only [State.overrun]
  repeat' split
  all_goals simp

/-! ### The address space of a Lantern (08 R289 to R293) -/

@[simp] theorem State.gatherGo_spine (s : State) (n : Nat) : (s.gatherGo n).spine = s.spine := by simp [State.gatherGo]

@[simp] theorem State.gatherWrite_spine (s : State) (n off v : Nat) : (s.gatherWrite n off v).spine = s.spine := by
  unfold State.gatherWrite; split <;> simp

@[simp] theorem State.gatherDone_spine (s : State) (n : Nat) : (s.gatherDone n).1.spine = s.spine := by
  simp only [State.gatherDone]; split <;> simp

@[simp] theorem State.settled_spine (s : State) (n : Nat) : (s.settled n).spine = s.spine := by simp [State.settled]
@[simp] theorem State.irqWrite_spine (s : State) (n off v : Nat) : (s.irqWrite n off v).spine = s.spine := by simp [State.irqWrite]

/-! ### Rates -/

@[simp] theorem State.freeTables_spine (s : State) : s.freeTables.spine = s.spine := rfl

/-! ### Snapshots of a capture (16 R557, R560) -/

@[simp] theorem State.captureOpens_spine (s : State) (k m b : Nat) : (s.captureOpens k m b).spine = s.spine := by
  unfold State.captureOpens; split <;> simp

@[simp] theorem State.captureCloses_spine (s : State) (k m : Nat) : (s.captureCloses k m).spine = s.spine := by
  unfold State.captureCloses; split <;> simp

@[simp] theorem State.capturesEnd_spine (s : State) : s.capturesEnd.spine = s.spine := rfl

@[simp] theorem State.captureCopied_spine (s : State) (n : Nat) : (s.captureCopied n).spine = s.spine := by
  simp only [State.captureCopied]; split <;> simp

@[simp] theorem State.captureImage_spine (s : State) (code who : Nat) (image : List Byte) :
    (s.captureImage code who image).spine = s.spine := by simp [State.captureImage]

/-! ### Operations of the host ports (02) -/

@[simp] theorem State.aerUncorrectable_spine (s : State) (p bit header : Nat) : (s.aerUncorrectable p bit header).spine = s.spine := by
  simp [State.aerUncorrectable]

@[simp] theorem State.aerCorrectable_spine (s : State) (p bit : Nat) : (s.aerCorrectable p bit).spine = s.spine := by
  simp [State.aerCorrectable]

@[simp] theorem State.aerAdvise_spine (s : State) (p bit header : Nat) : (s.aerAdvise p bit header).spine = s.spine := by
  simp [State.aerAdvise]

@[simp] theorem State.reportDegraded_spine (s : State) (p : Nat) : (s.reportDegraded p).spine = s.spine := by simp [State.reportDegraded]
@[simp] theorem State.journalClaim_spine (s : State) (q : Nat) : (s.journalClaim q).spine = s.spine := by simp [State.journalClaim]

@[simp] theorem State.giveClaim_spine (s : State) (q : Nat) (tell : List Nat) : (s.giveClaim q tell).spine = s.spine := by
  simp [State.giveClaim]

@[simp] theorem State.claimLost_spine (s : State) (p : Nat) : (s.claimLost p).spine = s.spine := by
  unfold State.claimLost
  repeat' split
  all_goals simp

@[simp] theorem State.claimReturn_spine (s : State) (p : Nat) : (s.claimReturn p).spine = s.spine := by
  unfold State.claimReturn; split <;> simp

@[simp] theorem State.faultRing_spine (s : State) (p i cause : Nat) : (s.faultRing p i cause).spine = s.spine := by simp [State.faultRing]
@[simp] theorem State.checkInta_spine (s : State) (p : Nat) : (s.checkInta p).spine = s.spine := by simp [State.checkInta]

@[simp] theorem State.rejectWrite_spine (s : State) (p off reason : Nat) : (s.rejectWrite p off reason).spine = s.spine := by
  simp [State.rejectWrite]

@[simp] theorem State.firstRecords_spine (s : State) (p : Nat) : (s.firstRecords p).spine = s.spine := by simp [State.firstRecords]
@[simp] theorem State.bringUp_spine (s : State) (p : Nat) : (s.bringUp p).spine = s.spine := by simp [State.bringUp]
@[simp] theorem State.takeDown_spine (s : State) (p : Nat) : (s.takeDown p).spine = s.spine := by simp [State.takeDown]
@[simp] theorem State.restart0_spine (s : State) (p : Nat) : (s.restart0 p).spine = s.spine := by simp [State.restart0]
@[simp] theorem State.restart1_spine (s : State) (p : Nat) : (s.restart1 p).spine = s.spine := by simp [State.restart1]

@[simp] theorem State.setupAction_spine (s : State) (p : Nat) (a : SetupAction) : (s.setupAction p a).spine = s.spine := by
  unfold State.setupAction
  repeat' split
  all_goals simp

@[simp] theorem State.setupWrite_spine (s : State) (p off v : Nat) : (s.setupWrite p off v).spine = s.spine := by
  unfold State.setupWrite
  generalize v % 8 = k
  rcases k with _ | _ | _ | _ | _ | k <;> simp

@[simp] theorem State.kick_spine (s : State) (p : Nat) : (s.kick p).spine = s.spine := by simp [State.kick]

@[simp] theorem State.journalDoorbell_spine (s : State) (p i h : Nat) : (s.journalDoorbell p i h).spine = s.spine := by
  simp [State.journalDoorbell]

@[simp] theorem State.readIndex_spine (s : State) (p i h : Nat) : (s.readIndex p i h).spine = s.spine := by simp [State.readIndex]

@[simp] theorem State.readWord_spine (s : State) (p : Nat) (w : Nat × BitVec 32) : (s.readWord p w).spine = s.spine := by
  simp [State.readWord]

@[simp] theorem State.poll_spine (s : State) (p : Nat) (ws : List (Nat × BitVec 32)) (next : Nat) : (s.poll p ws next).spine = s.spine := by
  simp [State.poll]

@[simp] theorem State.signalFired_spine (s : State) (p : Nat) : (s.signalFired p).spine = s.spine := by simp [State.signalFired]
@[simp] theorem State.flushPending_spine (s : State) (p : Nat) : (s.flushPending p).spine = s.spine := by simp [State.flushPending]
@[simp] theorem State.unmaskVector_spine (s : State) (p v : Nat) : (s.unmaskVector p v).spine = s.spine := by simp [State.unmaskVector]
@[simp] theorem State.flushPort_spine (s : State) (p : Nat) : (s.flushPort p).spine = s.spine := by simp [State.flushPort]

/-! ### The spare pools (15 R507 to R518) -/

@[simp] theorem State.setPhys_spine (s : State) (pool k : Nat) (u : Phys) : (s.setPhys pool k u).spine = s.spine := rfl

@[simp] theorem State.spareRecord_spine (s : State) (cls typ subject data : Nat) :
    (s.spareRecord cls typ subject data).spine = s.spine := by simp [State.spareRecord]

@[simp] theorem State.correctedInternal_spine (s : State) : s.correctedInternal.spine = s.spine := by simp [State.correctedInternal]

@[simp] theorem State.spareReport_spine (s : State) (pool n old new kind words inst : Nat) (last : Bool) :
    (s.spareReport pool n old new kind words inst last).spine = s.spine := by simp [State.spareReport]

@[simp] theorem State.spareDone_spine (s : State) (pool n old new kind words : Nat) :
    (s.spareDone pool n old new kind words).spine = s.spine := by simp [State.spareDone]

@[simp] theorem State.exhausted_spine (s : State) (pool n phys inst : Nat) (lost : Bool) :
    (s.exhausted pool n phys inst lost).spine = s.spine := by simp [State.exhausted]

@[simp] theorem State.usePart_spine (s : State) (pool k part kind : Nat) : (s.usePart pool k part kind).spine = s.spine := by
  simp [State.usePart]

@[simp] theorem State.sconceMovesTo_spine (s : State) (q : SparePlan) (k : Nat) : (s.sconceMovesTo q k).spine = s.spine := by
  simp [State.sconceMovesTo]

@[simp] theorem State.plansAtBoundary_spine (s : State) (k b : Nat) : (s.plansAtBoundary k b).spine = s.spine := by
  unfold State.plansAtBoundary; split <;> simp

@[simp] theorem State.patrolCheck_spine (s : State) : s.patrolCheck.spine = s.spine := by simp [State.patrolCheck]
@[simp] theorem State.patrolOpens_spine (s : State) (k m : Nat) : (s.patrolOpens k m).spine = s.spine := rfl

@[simp] theorem State.patrolCloses_spine (s : State) (k m tEnd : Nat) : (s.patrolCloses k m tEnd).spine = s.spine := by
  simp [State.patrolCloses]

/-! ### Streams (03 R113 to R127) -/

@[simp] theorem State.ringEvent_spine (s : State) (cRing cls typ island subject data : Nat) :
    (s.ringEvent cRing cls typ island subject data).spine = s.spine := by simp [State.ringEvent]

@[simp] theorem State.streamEvent_spine (s : State) (n cls typ data : Nat) : (s.streamEvent n cls typ data).spine = s.spine := by
  simp [State.streamEvent]

@[simp] theorem State.moverEvent_spine (s : State) (n cls typ data : Nat) : (s.moverEvent n cls typ data).spine = s.spine := by
  simp [State.moverEvent]

@[simp] theorem State.moverEventAt_spine (s : State) (time n cls typ data : Nat) :
    (s.moverEventAt time n cls typ data).spine = s.spine := by simp [State.moverEventAt]

@[simp] theorem State.streamState_spine (s : State) (n : Nat) (st : StreamState) (frame : Nat) :
    (s.streamState n st frame).spine = s.spine := by simp [State.streamState]

@[simp] theorem State.streamCount_spine (s : State) (n code k : Nat) : (s.streamCount n code k).spine = s.spine := by
  simp [State.streamCount]

@[simp] theorem State.spoolLevel_spine (s : State) (port : Nat) : (s.spoolLevel port).spine = s.spine := by simp [State.spoolLevel]
@[simp] theorem State.spoolLevels_spine (s : State) : s.spoolLevels.spine = s.spine := by simp [State.spoolLevels]
@[simp] theorem State.spoolDrop_spine (s : State) (n m : Nat) : (s.spoolDrop n m).spine = s.spine := by simp [State.spoolDrop]
@[simp] theorem State.stopsDone_spine (s : State) (cs : List (Nat × Nat)) : (s.stopsDone cs).spine = s.spine := by simp [State.stopsDone]
@[simp] theorem State.stopDone_spine (s : State) (n m : Nat) : (s.stopDone n m).spine = s.spine := by simp [State.stopDone]

@[simp] theorem State.frameLeft_spine (s : State) (n m : Nat) : (s.frameLeft n m).spine = s.spine := by
  simp only [State.frameLeft]
  repeat' split
  all_goals simp

@[simp] theorem State.stage_spine (s : State) (n m : Nat) : (s.stage n m).spine = s.spine := by simp [State.stage]
@[simp] theorem State.dropFrame_spine (s : State) (n m : Nat) : (s.dropFrame n m).spine = s.spine := by simp [State.dropFrame]

@[simp] theorem State.journalApply_spine (s : State) (qual k who commit m b : Nat) :
    (s.journalApply qual k who commit m b).spine = s.spine := by simp [State.journalApply]

@[simp] theorem State.streamOpens_spine (s : State) (n b m : Nat) : (s.streamOpens n b m).spine = s.spine := by
  unfold State.streamOpens
  extract_lets x0 y z s1 x1 src ring w t d u v last s2 x2
  have h1 : s1.spine = s.spine := by
    simp only [s1, z]
    repeat' split
    all_goals simp
  have h2 : s2.spine = s.spine := by
    simp only [s2, v, u, t]
    repeat' split
    all_goals simp [h1]
  clear_value s1 s2
  repeat' split
  all_goals simp [h1, h2]

@[simp] theorem State.streamsOpen_spine (s : State) (k b m : Nat) : (s.streamsOpen k b m).spine = s.spine := by simp [State.streamsOpen]
@[simp] theorem State.letGo_spine (s : State) (k : Nat) : (s.letGo k).spine = s.spine := by simp [State.letGo]

@[simp] theorem State.failOver_spine (s : State) (n : Nat) : (s.failOver n).spine = s.spine := by
  simp only [State.failOver]; split <;> simp

@[simp] theorem State.streamFreed_spine (s : State) (n : Nat) : (s.streamFreed n).spine = s.spine := by simp [State.streamFreed]

@[simp] theorem State.moveCut_spine (s : State) (n p : Nat) : (s.moveCut n p).spine = s.spine := by
  simp only [State.moveCut]; split <;> simp

@[simp] theorem State.streamPortLost_spine (s : State) (n p : Nat) : (s.streamPortLost n p).spine = s.spine := by
  simp [State.streamPortLost]

/-! ### Frame boundaries -/

@[simp] theorem State.expireFires_spine (s : State) (k b : Nat) : (s.expireFires k b).spine = s.spine := by simp [State.expireFires]

@[simp] theorem State.matchFire_spine (s : State) (k m b : Nat) : (s.matchFire k m b).spine = s.spine := by
  simp only [State.matchFire]; split <;> simp

@[simp] theorem State.swapAtBoundary_spine (s : State) (n b m : Nat) : (s.swapAtBoundary n b m).spine = s.spine := by
  simp only [State.swapAtBoundary]; split <;> simp

@[simp] theorem State.openHook_spine (s : State) (k m b : Nat) (assembly : Bool) : (s.openHook k m b assembly).spine = s.spine := by
  simp [State.openHook]

@[simp] theorem State.uncorrected_spine (s : State) (k n : Nat) : (s.uncorrected k n).spine = s.spine := by simp [State.uncorrected]

@[simp] theorem State.finishCorrections_spine (s : State) (k : Nat) (f : Frame) : (s.finishCorrections k f).spine = s.spine := by
  simp [State.finishCorrections]

@[simp] theorem State.correctFrames_spine (s : State) (k : Nat) : (s.correctFrames k).spine = s.spine := by simp [State.correctFrames]
@[simp] theorem State.sconceMoves_spine (s : State) (k : Nat) : (s.sconceMoves k).spine = s.spine := by simp [State.sconceMoves]
@[simp] theorem State.closeHook_spine (s : State) (k m : Nat) : (s.closeHook k m).spine = s.spine := by simp [State.closeHook]

/-! ### ENCODER_CONFIG and the encoder pins (11) -/

@[simp] theorem State.encConfigure_spine (s : State) (p e : Nat) (c : EncCfg) : (s.encConfigure p e c).spine = s.spine := by
  simp [State.encConfigure]

@[simp] theorem encoderConfigureEffect_spine (c : RingCmd) (s : State) : (encoderConfigureEffect c s).1.spine = s.spine := by
  simp [encoderConfigureEffect]

@[simp] theorem execEncoderConfigure_keeps (t : Nat) (c : RingCmd) (s : State) : KeepsSpine (s.elapse t) (execEncoderConfigure t c s) :=
  command_keeps (encoderConfigureEffect_spine c)

@[simp] theorem setCountEffect_spine (c : RingCmd) (s : State) : (setCountEffect c s).1.spine = s.spine := by simp [setCountEffect]

@[simp] theorem execSetCount_keeps (t : Nat) (c : RingCmd) (s : State) : KeepsSpine (s.elapse t) (execSetCount t c s) :=
  command_keeps (setCountEffect_spine c)

@[simp] theorem dividerEffect_spine (c : RingCmd) (s : State) : (dividerEffect c s).1.spine = s.spine := by simp [dividerEffect]

@[simp] theorem execDivider_keeps (t : Nat) (c : RingCmd) (s : State) : KeepsSpine (s.elapse t) (execDivider t c s) :=
  command_keeps (dividerEffect_spine c)

@[simp] theorem encoderStatusEffect_spine (c : RingCmd) (s : State) : (encoderStatusEffect c s).1.spine = s.spine := by
  simp [encoderStatusEffect]

@[simp] theorem execEncoderStatus_keeps (t : Nat) (c : RingCmd) (s : State) : KeepsSpine (s.elapse t) (execEncoderStatus t c s) :=
  command_keeps (encoderStatusEffect_spine c)

@[simp] theorem encoderReleaseEffect_spine (c : RingCmd) (s : State) : (encoderReleaseEffect c s).1.spine = s.spine := by
  simp [encoderReleaseEffect]

@[simp] theorem execEncoderRelease_keeps (t : Nat) (c : RingCmd) (s : State) : KeepsSpine (s.elapse t) (execEncoderRelease t c s) :=
  command_keeps (encoderReleaseEffect_spine c)

@[simp] theorem State.decodeError_spine (s : State) (e i code : Nat) : (s.decodeError e i code).spine = s.spine := by
  simp [State.decodeError]

@[simp] theorem execQuadratureEdge_keeps (t : Nat) (e : Fin 16) (a b : Bool) (sub : Fin 512) (s : State) :
    KeepsSpine (s.elapse t) (execQuadratureEdge t e a b sub s) := by
  simp only [execQuadratureEdge]
  repeat' split
  all_goals simp

@[simp] theorem execStepEdge_keeps (t : Nat) (e : Fin 16) (step dir : Bool) (sub : Fin 512) (s : State) :
    KeepsSpine (s.elapse t) (execStepEdge t e step dir sub s) := by simp [execStepEdge]

@[simp] theorem execUpDownEdge_keeps (t : Nat) (e : Fin 16) (up down : Bool) (sub : Fin 512) (s : State) :
    KeepsSpine (s.elapse t) (execUpDownEdge t e up down sub s) := by simp [execUpDownEdge]

@[simp] theorem execHallChange_keeps (t : Nat) (e : Fin 16) (u v w : Bool) (sub : Fin 512) (s : State) :
    KeepsSpine (s.elapse t) (execHallChange t e u v w sub s) := by
  simp only [execHallChange]
  repeat' split
  all_goals simp

@[simp] theorem State.zMark_spine (s : State) (e i : Nat) : (s.zMark e i).spine = s.spine := by simp [State.zMark]

@[simp] theorem execZEdge_keeps (t : Nat) (e : Fin 16) (level : Bool) (sub : Fin 512) (s : State) :
    KeepsSpine (s.elapse t) (execZEdge t e level sub s) := by simp [execZEdge]

@[simp] theorem execWireFault_keeps (t : Nat) (e : Fin 16) (pair : Fin 4) (enter : Bool) (s : State) :
    KeepsSpine (s.elapse t) (execWireFault t e pair enter s) := by simp [execWireFault]

@[simp] theorem execSerialFrameStart_keeps (t : Nat) (e : Fin 16) (s : State) : KeepsSpine (s.elapse t) (execSerialFrameStart t e s) := by
  simp [execSerialFrameStart]

@[simp] theorem State.discardReading_spine (s : State) (e code : Nat) : (s.discardReading e code).spine = s.spine := by
  simp [State.discardReading]

@[simp] theorem State.goodReading_spine (s : State) (e i pos : Nat) (warn : Bool) : (s.goodReading e i pos warn).spine = s.spine := by
  simp [State.goodReading]

@[simp] theorem execSerialReading_keeps (t : Nat) (e : Fin 16) (r : SerialReading) (s : State) :
    KeepsSpine (s.elapse t) (execSerialReading t e r s) := by
  simp only [execSerialReading]; split <;> simp

@[simp] theorem execObserverUpdate_keeps (t : Nat) (e : Fin 16) (s : State) : KeepsSpine (s.elapse t) (execObserverUpdate t e s) := by
  simp [execObserverUpdate]

@[simp] theorem execDividerOutputEdge_keeps (t : Nat) (e : Fin 16) (s : State) : KeepsSpine (s.elapse t) (execDividerOutputEdge t e s) := by
  simp [execDividerOutputEdge]

/-! ### The time base (10) -/

@[simp] theorem State.timeTo_spine (s : State) (st : TimeState) : (s.timeTo st).spine = s.spine := by simp [State.timeTo]

@[simp] theorem State.sourceLoss_spine (s : State) : s.sourceLoss.spine = s.spine := by
  unfold State.sourceLoss; split <;> simp

@[simp] theorem State.timeHoldover_spine (s : State) : s.timeHoldover.spine = s.spine := by simp [State.timeHoldover]

@[simp] theorem State.discardOpen_spine (s : State) (k : Nat) : (s.discardOpen k).spine = s.spine := by
  simp only [State.discardOpen]; split <;> simp

@[simp] theorem State.clearStores_spine (s : State) : s.clearStores.spine = s.spine := rfl
@[simp] theorem State.discardAll_spine (s : State) : s.discardAll.spine = s.spine := by simp [State.discardAll]

@[simp] theorem State.timeRecord_spine (s : State) (cls typ subject data : Nat) : (s.timeRecord cls typ subject data).spine = s.spine := by
  simp [State.timeRecord]

@[simp] theorem State.servoRecord_spine (s : State) : s.servoRecord.spine = s.spine := by simp [State.servoRecord]

@[simp] theorem State.servoStep_spine (s : State) (since : Nat) (deferred : Bool) : (s.servoStep since deferred).spine = s.spine := by
  simp [State.servoStep]

@[simp] theorem State.applyCfg_spine (s : State) : s.applyCfg.spine = s.spine := by
  unfold State.applyCfg; split <;> simp

@[simp] theorem State.sourceAvailable_spine (s : State) : s.sourceAvailable.spine = s.spine := by
  unfold State.sourceAvailable; split <;> simp

@[simp] theorem State.queueStamp_spine (s : State) (x : TxStamp) : (s.queueStamp x).spine = s.spine := by simp [State.queueStamp]

@[simp] theorem State.ptpSend_spine (s : State) (annexE : Bool) (port typ seq : Nat) (m : List Byte) :
    (s.ptpSend annexE port typ seq m).spine = s.spine := by simp [State.ptpSend]

@[simp] theorem State.ptpDiscard_spine (s : State) : s.ptpDiscard.spine = s.spine := rfl

@[simp] theorem State.answerPdelay_spine (s : State) (annexE : Bool) (port : Nat) (m : List Byte) (rx : Nat) :
    (s.answerPdelay annexE port m rx).spine = s.spine := by simp [State.answerPdelay]

@[simp] theorem State.answerDelay_spine (s : State) (annexE : Bool) (port : Nat) (m : List Byte) (rx : Nat) :
    (s.answerDelay annexE port m rx).spine = s.spine := by simp [State.answerDelay]

@[simp] theorem State.bmca_spine (s : State) : s.bmca.spine = s.spine := by
  unfold State.bmca
  repeat' split
  all_goals simp

@[simp] theorem State.announce_spine (s : State) (m : List Byte) : (s.announce m).spine = s.spine := by simp [State.announce]
@[simp] theorem State.pathDelay_spine (s : State) (port : Nat) (d : ℤ) : (s.pathDelay port d).spine = s.spine := rfl

@[simp] theorem State.peerAnswer_spine (s : State) (port : Nat) (m : List Byte) (rx : Nat) : (s.peerAnswer port m rx).spine = s.spine := by
  unfold State.peerAnswer
  repeat' split
  all_goals simp

@[simp] theorem State.masterReceive_spine (s : State) (annexE : Bool) (port : Nat) (m : List Byte) (rx : Nat) :
    (s.masterReceive annexE port m rx).spine = s.spine := by
  unfold State.masterReceive; split <;> simp

@[simp] theorem State.ptpDueAt_spine (s : State) (n at_ : Nat) : (s.ptpDueAt n at_).spine = s.spine := rfl
@[simp] theorem State.sendPtpSync_spine (s : State) (l : Nat) : (s.sendPtpSync l).spine = s.spine := by simp [State.sendPtpSync]
@[simp] theorem State.sendPtpAnnounce_spine (s : State) (l : Nat) : (s.sendPtpAnnounce l).spine = s.spine := by simp [State.sendPtpAnnounce]
@[simp] theorem State.sendDelayReq_spine (s : State) (port : Nat) : (s.sendDelayReq port).spine = s.spine := by simp [State.sendDelayReq]

/-! ### Frame assembly (05) -/

@[simp] theorem State.asmRecord_spine (s : State) (k cls typ data : Nat) : (s.asmRecord k cls typ data).spine = s.spine := by
  simp [State.asmRecord]

@[simp] theorem State.asmCount_spine (s : State) (k code n : Nat) : (s.asmCount k code n).spine = s.spine := by simp [State.asmCount]

@[simp] theorem State.asmLimited_spine (s : State) (k typ : Nat) (data : Nat → Nat) : (s.asmLimited k typ data).spine = s.spine := by
  simp [State.asmLimited]

@[simp] theorem State.modOpen_spine (s : State) (k : Nat) (g : Frame → Frame) : (s.modOpen k g).spine = s.spine := by simp [State.modOpen]
@[simp] theorem State.flagOpen_spine (s : State) (k bits : Nat) : (s.flagOpen k bits).spine = s.spine := by simp [State.flagOpen]

@[simp] theorem State.openFrame_spine (s : State) (k vc sensor cam b : Nat) : (s.openFrame k vc sensor cam b).spine = s.spine := by
  simp [State.openFrame]

@[simp] theorem State.shutFrame_spine (s : State) (k tEnd : Nat) (keep : Bool) : (s.shutFrame k tEnd keep).spine = s.spine := by
  simp only [State.shutFrame]; split <;> simp

@[simp] theorem State.addLine_spine (s : State) (k : Nat) (l : Line) (damaged : Bool) (bits endStamp : Nat) :
    (s.addLine k l damaged bits endStamp).spine = s.spine := by
  unfold State.addLine; split <;> simp

@[simp] theorem State.missingLine_spine (s : State) (k : Nat) (num : Option Nat) (stamp : Nat) (trunc : Bool) :
    (s.missingLine k num stamp trunc).spine = s.spine := by
  simp only [State.missingLine]; split <;> simp

@[simp] theorem State.missingLines_spine (s : State) (k vc sensor stamp d m : Nat) :
    (s.missingLines k vc sensor stamp d m).spine = s.spine := by
  induction d generalizing s m with
  | zero => rfl
  | succ d ih => simp [State.missingLines, ih]

@[simp] theorem State.storeLine_spine (s : State) (k stamp pixels : Nat) : (s.storeLine k stamp pixels).1.spine = s.spine := by
  simp only [State.storeLine]; split <;> simp

@[simp] theorem State.closeLine_spine (s : State) (k stamp : Nat) (trunc : Bool) : (s.closeLine k stamp trunc).spine = s.spine := by
  simp only [State.closeLine]; split <;> simp

@[simp] theorem State.closeFrame_spine (s : State) (k tEnd : Nat) (missing : Bool) : (s.closeFrame k tEnd missing).spine = s.spine := by
  simp only [State.closeFrame]
  repeat' split
  all_goals simp

@[simp] theorem State.journalClose_spine (s : State) (why k at_ : Nat) : (s.journalClose why k at_).spine = s.spine := by
  unfold State.journalClose; split <;> simp

@[simp] theorem State.truncate_spine (s : State) (k at_ : Nat) : (s.truncate k at_).spine = s.spine := by
  simp only [State.truncate]
  repeat' split
  all_goals simp

@[simp] theorem State.truncateLane_spine (s : State) (l : Nat) : (s.truncateLane l).spine = s.spine := by simp [State.truncateLane]

@[simp] theorem State.startLine_spine (s : State) (k vc sensor stamp : Nat) : (s.startLine k vc sensor stamp).spine = s.spine := by
  simp only [State.startLine]
  repeat' split
  all_goals simp

@[simp] theorem State.beginLine_spine (s : State) (k stamp num : Nat) : (s.beginLine k stamp num).spine = s.spine := by
  simp [State.beginLine]

@[simp] theorem State.frameStart_spine (s : State) (k vc sensor cam stamp : Nat) :
    (s.frameStart k vc sensor cam stamp).spine = s.spine := by
  simp only [State.frameStart]
  repeat' split
  all_goals simp

@[simp] theorem State.frameEnd_spine (s : State) (k cam stamp : Nat) : (s.frameEnd k cam stamp).spine = s.spine := by
  simp only [State.frameEnd]
  repeat' split
  all_goals simp

@[simp] theorem State.lateLine_spine (s : State) (k m : Nat) : (s.lateLine k m).spine = s.spine := by simp [State.lateLine]

@[simp] theorem State.lineStart_spine (s : State) (k vc sensor m stamp : Nat) : (s.lineStart k vc sensor m stamp).spine = s.spine := by
  simp [State.lineStart]

@[simp] theorem State.lineEnd_spine (s : State) (k stamp : Nat) : (s.lineEnd k stamp).spine = s.spine := by simp [State.lineEnd]

@[simp] theorem State.exposureReport_spine (s : State) (k v : Nat) : (s.exposureReport k v).spine = s.spine := by
  simp only [State.exposureReport]; split <;> simp

@[simp] theorem State.takePixels_spine (s : State) (k dt stamp : Nat) (px : List Nat) : (s.takePixels k dt stamp px).spine = s.spine := by
  simp [State.takePixels]

@[simp] theorem State.lineFor_spine (s : State) (k vc sensor stamp : Nat) : (s.lineFor k vc sensor stamp).spine = s.spine := by
  simp [State.lineFor]

@[simp] theorem State.implicitLines_spine (s : State) (k vc sensor dt stamp n : Nat) (px : List Nat) :
    (s.implicitLines k vc sensor dt stamp n px).spine = s.spine := by
  induction n generalizing s px with
  | zero => rfl
  | succ n ih =>
    cases px with
    | nil => rfl
    | cons a px =>
      simp only [State.implicitLines]
      repeat' split
      all_goals simp [ih]

@[simp] theorem State.pixelPacket_spine (s : State) (k : Nat) (e : List Byte) (vc sensor dt stamp : Nat) (payload : List Byte) :
    (s.pixelPacket k e vc sensor dt stamp payload).spine = s.spine := by
  simp only [State.pixelPacket]
  repeat' split
  all_goals simp

@[simp] theorem State.routeTo_spine (s : State) (k : Nat) (e : List Byte) (q : AsmPkt) : (s.routeTo k e q).spine = s.spine := by
  unfold State.routeTo; split <;> simp

@[simp] theorem State.classify_spine (s : State) (l : Nat) (q : AsmPkt) : (s.classify l q).spine = s.spine := by
  unfold State.classify
  repeat' split
  all_goals simp

@[simp] theorem State.lineTimeout_spine (s : State) (k : Nat) : (s.lineTimeout k).spine = s.spine := by
  simp only [State.lineTimeout]; split <;> simp

@[simp] theorem State.frameTimeout_spine (s : State) (k : Nat) : (s.frameTimeout k).spine = s.spine := by
  unfold State.frameTimeout; split <;> simp

/-! ### Images that commands read -/

@[simp] theorem State.queueImage_spine (s : State) (c : RingCmd) : (s.queueImage c).1.spine = s.spine := by simp [State.queueImage]

/-! ### Table images (05) -/

@[simp] theorem tableLoadEffect_spine (c : RingCmd) (s : State) : (tableLoadEffect c s).1.spine = s.spine := by simp [tableLoadEffect]

@[simp] theorem execTableLoad_keeps (t : Nat) (c : RingCmd) (s : State) : KeepsSpine (s.elapse t) (execTableLoad t c s) :=
  command_keeps (tableLoadEffect_spine c)

@[simp] theorem State.tableLoaded_spine (s : State) (p : Nat) (e : Entry) (d : HostData) : (s.tableLoaded p e d).1.spine = s.spine := by
  simp only [State.tableLoaded]; split <;> simp

@[simp] theorem tableReleaseEffect_spine (c : RingCmd) (s : State) : (tableReleaseEffect c s).1.spine = s.spine := by
  simp only [tableReleaseEffect]; split <;> simp

@[simp] theorem execTableRelease_keeps (t : Nat) (c : RingCmd) (s : State) : KeepsSpine (s.elapse t) (execTableRelease t c s) :=
  command_keeps (tableReleaseEffect_spine c)

/-! ### SCONCE_CONFIG and PARAM_SET (05) -/

@[simp] theorem State.sconceConfig_spine (s : State) (p : Nat) (e : Entry) : (s.sconceConfig p e).spine = s.spine := by
  simp [State.sconceConfig]

@[simp] theorem sconceConfigEffect_spine (c : RingCmd) (s : State) : (sconceConfigEffect c s).1.spine = s.spine := by
  simp [sconceConfigEffect]

@[simp] theorem execSconceConfig_keeps (t : Nat) (c : RingCmd) (s : State) : KeepsSpine (s.elapse t) (execSconceConfig t c s) :=
  command_keeps (sconceConfigEffect_spine c)

@[simp] theorem sconceReleaseEffect_spine (c : RingCmd) (s : State) : (sconceReleaseEffect c s).1.spine = s.spine := by
  simp [sconceReleaseEffect]

@[simp] theorem execSconceRelease_keeps (t : Nat) (c : RingCmd) (s : State) : KeepsSpine (s.elapse t) (execSconceRelease t c s) :=
  command_keeps (sconceReleaseEffect_spine c)

@[simp] theorem State.paramSet_spine (s : State) (p : Nat) (e : Entry) : (s.paramSet p e).spine = s.spine := by simp [State.paramSet]
@[simp] theorem paramSetEffect_spine (c : RingCmd) (s : State) : (paramSetEffect c s).1.spine = s.spine := by simp [paramSetEffect]

@[simp] theorem execParamSet_keeps (t : Nat) (c : RingCmd) (s : State) : KeepsSpine (s.elapse t) (execParamSet t c s) :=
  command_keeps (paramSetEffect_spine c)

/-! ### Kernels and bindings of Lanterns (08) -/

@[simp] theorem State.lanternTaken_spine (s : State) (n p : Nat) : (s.lanternTaken n p).spine = s.spine := by simp [State.lanternTaken]
@[simp] theorem kernelLoadEffect_spine (c : RingCmd) (s : State) : (kernelLoadEffect c s).1.spine = s.spine := by simp [kernelLoadEffect]

@[simp] theorem execKernelLoad_keeps (t : Nat) (c : RingCmd) (s : State) : KeepsSpine (s.elapse t) (execKernelLoad t c s) :=
  command_keeps (kernelLoadEffect_spine c)

@[simp] theorem State.kernelLoaded_spine (s : State) (p : Nat) (e : Entry) (d : HostData) : (s.kernelLoaded p e d).1.spine = s.spine := by
  simp only [State.kernelLoaded]; split <;> simp

@[simp] theorem State.kernelSwap_spine (s : State) (p : Nat) (e : Entry) : (s.kernelSwap p e).spine = s.spine := by simp [State.kernelSwap]
@[simp] theorem kernelSwapEffect_spine (c : RingCmd) (s : State) : (kernelSwapEffect c s).1.spine = s.spine := by simp [kernelSwapEffect]

@[simp] theorem execKernelSwap_keeps (t : Nat) (c : RingCmd) (s : State) : KeepsSpine (s.elapse t) (execKernelSwap t c s) :=
  command_keeps (kernelSwapEffect_spine c)

@[simp] theorem State.lanternBind_spine (s : State) (p : Nat) (e : Entry) : (s.lanternBind p e).spine = s.spine := by
  simp [State.lanternBind]

@[simp] theorem lanternBindEffect_spine (c : RingCmd) (s : State) : (lanternBindEffect c s).1.spine = s.spine := by simp [lanternBindEffect]

@[simp] theorem execLanternBind_keeps (t : Nat) (c : RingCmd) (s : State) : KeepsSpine (s.elapse t) (execLanternBind t c s) :=
  command_keeps (lanternBindEffect_spine c)

@[simp] theorem State.lanternFree_spine (s : State) (n : Nat) : (s.lanternFree n).spine = s.spine := by simp [State.lanternFree]

@[simp] theorem lanternReleaseEffect_spine (c : RingCmd) (s : State) : (lanternReleaseEffect c s).1.spine = s.spine := by
  simp [lanternReleaseEffect]

@[simp] theorem execLanternRelease_keeps (t : Nat) (c : RingCmd) (s : State) : KeepsSpine (s.elapse t) (execLanternRelease t c s) :=
  command_keeps (lanternReleaseEffect_spine c)

/-! ### The journal (16) -/

@[simp] theorem State.trimStaging_spine (s : State) : s.trimStaging.spine = s.spine := rfl
@[simp] theorem State.gapRecord_spine (s : State) (target : Nat) (g : Nat × Nat) : (s.gapRecord target g).1.spine = s.spine := rfl
@[simp] theorem State.gapEvent_spine (s : State) (target n : Nat) : (s.gapEvent target n).spine = s.spine := by simp [State.gapEvent]
@[simp] theorem State.ringPut_spine (s : State) (r : JRec) : (s.ringPut r).spine = s.spine := by simp [State.ringPut]

@[simp] theorem State.ringGapOut_spine (s : State) : s.ringGapOut.spine = s.spine := by
  unfold State.ringGapOut; split <;> simp

@[simp] theorem State.oldTakes_spine (s : State) (q : Nat × JRec) : (s.oldTakes q).spine = s.spine := by
  unfold State.oldTakes; split <;> simp

@[simp] theorem State.ringTakes_spine (s : State) : s.ringTakes.spine = s.spine := by simp [State.ringTakes]
@[simp] theorem State.nvPut_spine (s : State) (n : Option Nat) (r : JRec) : (s.nvPut n r).spine = s.spine := rfl
@[simp] theorem State.nvBlockBad_spine (s : State) (part : Nat) : (s.nvBlockBad part).spine = s.spine := by simp [State.nvBlockBad]

@[simp] theorem State.nvGapOut_spine (s : State) : s.nvGapOut.spine = s.spine := by
  unfold State.nvGapOut; split <;> simp

@[simp] theorem State.nvTakes_spine (s : State) (k : Nat) : (s.nvTakes k).spine = s.spine :=
  (trimStaging_spine _).trans (foldl_spine (by intros; rfl) ..)

@[simp] theorem State.nvPaced_spine (s : State) : s.nvPaced.spine = s.spine := rfl

@[simp] theorem execNvBlockWrite_keeps (t : Nat) (bad : Bool) (s : State) : KeepsSpine (s.elapse t) (execNvBlockWrite t bad s) := by
  simp only [execNvBlockWrite]
  repeat' split
  all_goals simp

@[simp] theorem State.skipOldest_spine (s : State) : s.skipOldest.spine = s.spine := by simp [State.skipOldest]
@[simp] theorem State.emitRecord_spine (s : State) (r : JRec) : (s.emitRecord r).spine = s.spine := by simp [State.emitRecord]

@[simp] theorem execJournalEmit_keeps (t : Nat) (s : State) : KeepsSpine (s.elapse t) (execJournalEmit t s) := by
  simp only [execJournalEmit]; split <;> simp

@[simp] theorem execSync_keeps (t : Nat) (s : State) : KeepsSpine (s.elapse t) (execSync t s) := by
  simp only [execSync]
  repeat' split
  all_goals simp

@[simp] theorem execFatalFreeze_keeps (t : Nat) (s : State) : KeepsSpine (s.elapse t) (execFatalFreeze t s) := by
  simp only [execFatalFreeze]
  repeat' split
  all_goals simp

@[simp] theorem journalTargetsEffect_spine (c : RingCmd) (s : State) : (journalTargetsEffect c s).1.spine = s.spine := by
  simp [journalTargetsEffect]

@[simp] theorem execJournalTargets_keeps (t : Nat) (c : RingCmd) (s : State) : KeepsSpine (s.elapse t) (execJournalTargets t c s) :=
  command_keeps (journalTargetsEffect_spine c)

@[simp] theorem journalMarkEffect_spine (c : RingCmd) (s : State) : (journalMarkEffect c s).1.spine = s.spine := by simp [journalMarkEffect]

@[simp] theorem execJournalMark_keeps (t : Nat) (c : RingCmd) (s : State) : KeepsSpine (s.elapse t) (execJournalMark t c s) :=
  command_keeps (journalMarkEffect_spine c)

@[simp] theorem readNvEffect_spine (c : RingCmd) (s : State) : (readNvEffect c s).1.spine = s.spine := by simp [readNvEffect]

@[simp] theorem execReadNv_keeps (t : Nat) (c : RingCmd) (s : State) : KeepsSpine (s.elapse t) (execReadNv t c s) :=
  command_keeps (readNvEffect_spine c)

@[simp] theorem thawEffect_spine (x0 : RingCmd) (s : State) : (thawEffect x0 s).1.spine = s.spine := rfl

@[simp] theorem execThaw_keeps (t : Nat) (c : RingCmd) (s : State) : KeepsSpine (s.elapse t) (execThaw t c s) :=
  command_keeps (thawEffect_spine c)

@[simp] theorem journalStatusEffect_spine (c : RingCmd) (s : State) : (journalStatusEffect c s).1.spine = s.spine := by
  simp [journalStatusEffect]

@[simp] theorem execJournalStatus_keeps (t : Nat) (c : RingCmd) (s : State) : KeepsSpine (s.elapse t) (execJournalStatus t c s) :=
  command_keeps (journalStatusEffect_spine c)

/-! ### What happens on a host port (02, 21) -/

@[simp] theorem State.msixWrite_spine (s : State) (p off v : Nat) : (s.msixWrite p off v).spine = s.spine := by
  unfold State.msixWrite; split <;> simp

@[simp] theorem State.bar0Write_spine (s : State) (p off v : Nat) : (s.bar0Write p off v).spine = s.spine := by simp [State.bar0Write]

@[simp] theorem State.badAccess_spine (s : State) (p : Nat) (read : Bool) (header : Nat) : (s.badAccess p read header).spine = s.spine := by
  simp [State.badAccess]

@[simp] theorem State.configRequest_spine (s : State) (p : Nat) {f : State → State} (h : ∀ u, (f u).spine = u.spine) :
    (s.configRequest p f).spine = s.spine := by simp [State.configRequest, h]

@[simp] theorem State.memoryRequest_spine (s : State) (p : Nat) (header : BitVec 128) {f : State → State}
    (h : ∀ u, (f u).spine = u.spine) : (s.memoryRequest p header f).spine = s.spine := by simp [State.memoryRequest, h]

@[simp] theorem execKick_keeps (t : Nat) (w : HostTlp) (s : State) : KeepsSpine (s.elapse t) (execKick t w s) := by simp [execKick]

@[simp] theorem State.hostAction_spine (s : State) (w : HostTlp) (a : SetupAction) : (s.hostAction w a).spine = s.spine := by
  simp [State.hostAction]

@[simp] theorem execBringUp_keeps (t : Nat) (w : HostTlp) (s : State) : KeepsSpine (s.elapse t) (execBringUp t w s) := by simp [execBringUp]
@[simp] theorem execTakeDown_keeps (t : Nat) (w : HostTlp) (s : State) : KeepsSpine (s.elapse t) (execTakeDown t w s) := by simp [execTakeDown]

@[simp] theorem execRestartRing0_keeps (t : Nat) (w : HostTlp) (s : State) : KeepsSpine (s.elapse t) (execRestartRing0 t w s) := by
  simp [execRestartRing0]

@[simp] theorem execRestartRing1_keeps (t : Nat) (w : HostTlp) (s : State) : KeepsSpine (s.elapse t) (execRestartRing1 t w s) := by
  simp [execRestartRing1]

@[simp] theorem execSetupActionComplete_keeps (t : Nat) (p : Fin 4) (s : State) : KeepsSpine (s.elapse t) (execSetupActionComplete t p s) := by
  simp [execSetupActionComplete]

@[simp] theorem execLinkUp_keeps (t : Nat) (p : Fin 4) (rate width : Nat) (s : State) :
    KeepsSpine (s.elapse t) (execLinkUp t p rate width s) := by simp [execLinkUp]

@[simp] theorem State.becomeReady_spine (s : State) (p : Nat) : (s.becomeReady p).spine = s.spine := by simp [State.becomeReady]
@[simp] theorem execPortReady_keeps (t : Nat) (p : Fin 4) (s : State) : KeepsSpine (s.elapse t) (execPortReady t p s) := by simp [execPortReady]

@[simp] theorem execFlrComplete_keeps (t : Nat) (p : Fin 4) (s : State) : KeepsSpine (s.elapse t) (execFlrComplete t p s) := by
  simp [execFlrComplete]

@[simp] theorem State.d0Return_spine (s : State) (p : Nat) : (s.d0Return p).spine = s.spine := by simp [State.d0Return]
@[simp] theorem execD0Return_keeps (t : Nat) (p : Fin 4) (s : State) : KeepsSpine (s.elapse t) (execD0Return t p s) := by simp [execD0Return]
@[simp] theorem State.masterOn_spine (s : State) (p : Nat) : (s.masterOn p).spine = s.spine := by simp [State.masterOn]

@[simp] theorem execBusMasterEnable_keeps (t : Nat) (p : Fin 4) (s : State) : KeepsSpine (s.elapse t) (execBusMasterEnable t p s) := by
  simp [execBusMasterEnable]

@[simp] theorem State.intOff_spine (s : State) (p : Nat) : (s.intOff p).spine = s.spine := by simp [State.intOff]
@[simp] theorem State.msixOff_spine (s : State) (p : Nat) : (s.msixOff p).spine = s.spine := by simp [State.msixOff]
@[simp] theorem State.msixOn_spine (s : State) (p : Nat) : (s.msixOn p).spine = s.spine := by simp [State.msixOn]

@[simp] theorem State.enableWrite_spine (s : State) (p : Nat) (msix disable : Bool) : (s.enableWrite p msix disable).spine = s.spine := by
  simp [State.enableWrite]

@[simp] theorem execInterruptEnableChange_keeps (t : Nat) (p : Fin 4) (msix disable : Bool) (s : State) :
    KeepsSpine (s.elapse t) (execInterruptEnableChange t p msix disable s) := by simp [execInterruptEnableChange]

@[simp] theorem execInterruptDisable_keeps (t : Nat) (p : Fin 4) (s : State) : KeepsSpine (s.elapse t) (execInterruptDisable t p s) := by
  simp [execInterruptDisable]

@[simp] theorem execMsixVectorUnmask_keeps (t : Nat) (w : HostTlp) (v : Fin 2048) (s : State) :
    KeepsSpine (s.elapse t) (execMsixVectorUnmask t w v s) := by simp [execMsixVectorUnmask]

@[simp] theorem execHoldoffExpiry_keeps (t : Nat) (p : Fin 4) (r : Fin 1024) (s : State) :
    KeepsSpine (s.elapse t) (execHoldoffExpiry t p r s) := by simp [execHoldoffExpiry]

@[simp] theorem execMsixSpacingExpiry_keeps (t : Nat) (p : Fin 4) (v : Fin 2048) (s : State) :
    KeepsSpine (s.elapse t) (execMsixSpacingExpiry t p v s) := by
  simp only [execMsixSpacingExpiry]; split <;> simp

@[simp] theorem execMalformedTlp_keeps (t : Nat) (p : Fin 4) (k : TlpError) (header : BitVec 128) (s : State) :
    KeepsSpine (s.elapse t) (execMalformedTlp t p k header s) := by simp [execMalformedTlp]

@[simp] theorem execUnsupportedRequest_keeps (t : Nat) (p : Fin 4) (k : BadRequest) (header : BitVec 128) (s : State) :
    KeepsSpine (s.elapse t) (execUnsupportedRequest t p k header s) := by simp [execUnsupportedRequest]

@[simp] theorem execCompleterAbort_keeps (t : Nat) (p : Fin 4) (read : Bool) (header : BitVec 128) (s : State) :
    KeepsSpine (s.elapse t) (execCompleterAbort t p read header s) := by simp [execCompleterAbort]

@[simp] theorem execPoisonedTlpReceived_keeps (t : Nat) (p : Fin 4) (header : BitVec 128) (s : State) :
    KeepsSpine (s.elapse t) (execPoisonedTlpReceived t p header s) := by simp [execPoisonedTlpReceived]

@[simp] theorem execUnexpectedCompletion_keeps (t : Nat) (p : Fin 4) (header : BitVec 128) (s : State) :
    KeepsSpine (s.elapse t) (execUnexpectedCompletion t p header s) := by simp [execUnexpectedCompletion]

@[simp] theorem State.readFails_spine (s : State) (p : Nat) (x : ReadSource) : (s.readFails p x).spine = s.spine := by
  unfold State.readFails; split <;> simp

@[simp] theorem execHostReadFailure_keeps (t : Nat) (p : Fin 4) (x : ReadSource) (tries : Nat) (timeout : Bool) (header : BitVec 128) (s : State) :
    KeepsSpine (s.elapse t) (execHostReadFailure t p x tries timeout header s) := by simp [execHostReadFailure]

@[simp] theorem execAspmL1Entry_keeps (t : Nat) (p : Fin 4) (s : State) : KeepsSpine (s.elapse t) (execAspmL1Entry t p s) := by
  simp [execAspmL1Entry]

@[simp] theorem State.refill_spine (s : State) : s.refill.spine = s.spine := by simp [State.refill]

@[simp] theorem execPoll_keeps (t : Nat) (p : Fin 4) (ws : List (Nat × BitVec 32)) (s : State) :
    KeepsSpine (s.elapse t) (execPoll t p ws s) := by simp [execPoll]

@[simp] theorem execIdlePoll_keeps (t : Nat) (p : Fin 4) (ws : List (Nat × BitVec 32)) (s : State) :
    KeepsSpine (s.elapse t) (execIdlePoll t p ws s) := by simp [execIdlePoll]

/-! ### The commands of the Lamplighter (12) -/

@[simp] theorem State.seqLoaded_spine (s : State) (p : Nat) (e : Entry) (d : HostData) : (s.seqLoaded p e d).1.spine = s.spine := by
  simp only [State.seqLoaded]; split <;> simp

@[simp] theorem seqLoadEffect_spine (c : RingCmd) (s : State) : (seqLoadEffect c s).1.spine = s.spine := by simp [seqLoadEffect]

@[simp] theorem execSeqLoad_keeps (t : Nat) (c : RingCmd) (s : State) : KeepsSpine (s.elapse t) (execSeqLoad t c s) :=
  command_keeps (seqLoadEffect_spine c)

@[simp] theorem State.lineStatic_spine (s : State) (g : Nat) : (s.lineStatic g).spine = s.spine := by simp [State.lineStatic]

@[simp] theorem State.targetConfig_spine (s : State) (p g : Nat) (c : TargetCfg) : (s.targetConfig p g c).spine = s.spine := by
  simp [State.targetConfig]

@[simp] theorem targetConfigEffect_spine (c : RingCmd) (s : State) : (targetConfigEffect c s).1.spine = s.spine := by
  simp [targetConfigEffect]

@[simp] theorem execTargetConfig_keeps (t : Nat) (c : RingCmd) (s : State) : KeepsSpine (s.elapse t) (execTargetConfig t c s) :=
  command_keeps (targetConfigEffect_spine c)

@[simp] theorem triggerStartEffect_spine (c : RingCmd) (s : State) : (triggerStartEffect c s).1.spine = s.spine := State.setSeq_spine ..

@[simp] theorem execTriggerStart_keeps (t : Nat) (c : RingCmd) (s : State) : KeepsSpine (s.elapse t) (execTriggerStart t c s) :=
  command_keeps (triggerStartEffect_spine c)

@[simp] theorem triggerHaltEffect_spine (c : RingCmd) (s : State) : (triggerHaltEffect c s).1.spine = s.spine := by simp [triggerHaltEffect]

@[simp] theorem execTriggerHalt_keeps (t : Nat) (c : RingCmd) (s : State) : KeepsSpine (s.elapse t) (execTriggerHalt t c s) :=
  command_keeps (triggerHaltEffect_spine c)

@[simp] theorem triggerSlotArmEffect_spine (c : RingCmd) (s : State) : (triggerSlotArmEffect c s).1.spine = s.spine := by
  simp only [triggerSlotArmEffect]; split <;> simp

@[simp] theorem execTriggerSlotArm_keeps (t : Nat) (c : RingCmd) (s : State) : KeepsSpine (s.elapse t) (execTriggerSlotArm t c s) :=
  command_keeps (triggerSlotArmEffect_spine c)

@[simp] theorem triggerSlotDisarmEffect_spine (c : RingCmd) (s : State) : (triggerSlotDisarmEffect c s).1.spine = s.spine := by
  simp [triggerSlotDisarmEffect]

@[simp] theorem execTriggerSlotDisarm_keeps (t : Nat) (c : RingCmd) (s : State) : KeepsSpine (s.elapse t) (execTriggerSlotDisarm t c s) :=
  command_keeps (triggerSlotDisarmEffect_spine c)

@[simp] theorem triggerHandoverEffect_spine (c : RingCmd) (s : State) : (triggerHandoverEffect c s).1.spine = s.spine := by
  simp [triggerHandoverEffect]

@[simp] theorem execTriggerHandover_keeps (t : Nat) (c : RingCmd) (s : State) : KeepsSpine (s.elapse t) (execTriggerHandover t c s) :=
  command_keeps (triggerHandoverEffect_spine c)

@[simp] theorem State.gioConfig_spine (s : State) (p g : Nat) (e : Entry) : (s.gioConfig p g e).spine = s.spine := by simp [State.gioConfig]
@[simp] theorem gioConfigEffect_spine (c : RingCmd) (s : State) : (gioConfigEffect c s).1.spine = s.spine := by simp [gioConfigEffect]

@[simp] theorem execGioConfig_keeps (t : Nat) (c : RingCmd) (s : State) : KeepsSpine (s.elapse t) (execGioConfig t c s) :=
  command_keeps (gioConfigEffect_spine c)

@[simp] theorem State.journalCompare_spine (s : State) (q k i : Nat) (how : FireHow) : (s.journalCompare q k i how).spine = s.spine := by
  simp [State.journalCompare]

@[simp] theorem State.fireSlot_spine (s : State) (q k i : Nat) (how : FireHow) : (s.fireSlot q k i how).spine = s.spine := by
  simp [State.fireSlot]

@[simp] theorem State.compareFire_spine (s : State) (q k : Nat) (pos : Bool) : (s.compareFire q k pos).spine = s.spine := by
  simp only [State.compareFire]; split <;> simp

@[simp] theorem execTimeCompareFire_keeps (t : Nat) (q : Fin 32) (slot : Fin 8) (s : State) :
    KeepsSpine (s.elapse t) (execTimeCompareFire t q slot s) := by simp [execTimeCompareFire]

@[simp] theorem execPositionCompareFire_keeps (t : Nat) (q : Fin 32) (slot : Fin 8) (s : State) :
    KeepsSpine (s.elapse t) (execPositionCompareFire t q slot s) := by simp [execPositionCompareFire]

@[simp] theorem execSequencerTimerExpiry_keeps (t : Nat) (q : Fin 32) (tm : Fin 4) (s : State) :
    KeepsSpine (s.elapse t) (execSequencerTimerExpiry t q tm s) := by
  simp only [execSequencerTimerExpiry]; split <;> simp

@[simp] theorem execSequencerStartInstant_keeps (t : Nat) (q : Fin 32) (s : State) :
    KeepsSpine (s.elapse t) (execSequencerStartInstant t q s) := by
  simp only [execSequencerStartInstant]; split <;> simp

@[simp] theorem execTransition_keeps (t : Nat) (q : Fin 32) (h : Happening) (s : State) : KeepsSpine (s.elapse t) (execTransition t q h s) := by
  simp only [execTransition]; split <;> simp

@[simp] theorem execHeldFireRelease_keeps (t : Nat) (tg : Fin 256) (s : State) : KeepsSpine (s.elapse t) (execHeldFireRelease t tg s) := by
  simp only [execHeldFireRelease]; split <;> simp

@[simp] theorem execGioPulseStart_keeps (t : Nat) (tg : Fin 256) (s : State) : KeepsSpine (s.elapse t) (execGioPulseStart t tg s) := by
  simp only [execGioPulseStart]; split <;> simp

@[simp] theorem execGioPulseEnd_keeps (t : Nat) (tg : Fin 256) (s : State) : KeepsSpine (s.elapse t) (execGioPulseEnd t tg s) := by
  simp only [execGioPulseEnd]; split <;> simp

/-! ### Events on their way (12, 13) -/

@[simp] theorem State.pinsSee_spine (s : State) (g : Nat) (level : Bool) : (s.pinsSee g level).spine = s.spine := by simp [State.pinsSee]

@[simp] theorem execGioEdge_keeps (t : Nat) (g : Fin 48) (level : Bool) (sub : Fin 512) (s : State) :
    KeepsSpine (s.elapse t) (execGioEdge t g level sub s) := by simp [execGioEdge]

@[simp] theorem State.slotLoses_spine (s : State) (n k bits : Nat) : (s.slotLoses n k bits).spine = s.spine := by simp [State.slotLoses]

@[simp] theorem State.fabricRecord_spine (s : State) (n k rid : Nat) (v : FabEvent) : (s.fabricRecord n k rid v).spine = s.spine := by
  simp [State.fabricRecord]

@[simp] theorem State.ringSlotGone_spine (s : State) (n k : Nat) : (s.ringSlotGone n k).spine = s.spine := by simp [State.ringSlotGone]

@[simp] theorem State.slotWaits_spine (s : State) (n k : Nat) (v : FabEvent) : (s.slotWaits n k v).1.spine = s.spine := by
  simp only [State.slotWaits]; split <;> simp

@[simp] theorem State.releaseStep_spine (s : State) (index arg : Nat) : (s.releaseStep index arg).1.spine = s.spine := by
  simp only [State.releaseStep]
  repeat' split
  all_goals simp

@[simp] theorem State.arrive_spine (s : State) (f : Flight) : (s.arrive f).spine = s.spine := by
  unfold State.arrive; split <;> simp

@[simp] theorem execEventArrival_keeps (t : Nat) (ch : Fin 256) (slot : Fin 8) (s : State) :
    KeepsSpine (s.elapse t) (execEventArrival t ch slot s) := by
  simp only [execEventArrival]; split <;> simp

theorem State.consumerFree_spine {s u : State} {n k : Nat} (h : s.consumerFree n k = some u) : u.spine = s.spine := by
  simp only [State.consumerFree] at h
  repeat' split at h
  all_goals cases h
  all_goals simp

theorem firstSome_mem {α : Type} {l : List (Option α)} {a : α} (h : firstSome l = some a) : some a ∈ l := by
  induction l with
  | nil => cases h
  | cons o l ih =>
    cases o with
    | none => exact List.mem_cons_of_mem _ (ih h)
    | some b => cases h; exact List.mem_cons_self

@[simp] theorem execConsumerFree_keeps (t : Nat) (ch : Fin 256) (slot : Fin 8) (s : State) :
    KeepsSpine (s.elapse t) (execConsumerFree t ch slot s) := by
  simp only [execConsumerFree]
  split
  · simp
  · rw [keepsSpine_next]
    rcases h : firstSome _ with _ | u
    · rfl
    · obtain ⟨k, -, hk⟩ := List.mem_map.1 (firstSome_mem h)
      exact State.consumerFree_spine hk

@[simp] theorem State.handlerEnters_spine (s : State) (n src : Nat) (y : Lantern) : (s.handlerEnters n src y).spine = s.spine := by
  simp [State.handlerEnters]

@[simp] theorem State.handlerEntry_spine (s : State) (n : Nat) (fast : Bool) : (s.handlerEntry n fast).spine = s.spine := by
  unfold State.handlerEntry
  repeat' split
  all_goals simp

@[simp] theorem execNormalHandlerEntry_keeps (t : Nat) (n : Fin 64) (s : State) : KeepsSpine (s.elapse t) (execNormalHandlerEntry t n s) := by
  simp [execNormalHandlerEntry]

@[simp] theorem execFastHandlerEntry_keeps (t : Nat) (n : Fin 64) (s : State) : KeepsSpine (s.elapse t) (execFastHandlerEntry t n s) := by
  simp [execFastHandlerEntry]

/-! ### What happens on a camera lane (04) -/

@[simp] theorem State.controlResponse_spine (s : State) (l sensor : Nat) (payload : List Byte) :
    (s.controlResponse l sensor payload).spine = s.spine := by
  simp only [State.controlResponse]
  repeat' split
  all_goals simp

@[simp] theorem State.laneDrop_spine (s : State) (l cause : Nat) : (s.laneDrop l cause).spine = s.spine := by simp [State.laneDrop]

@[simp] theorem State.packetBody_spine (s : State) (l : Nat) (k : LanePkt) (t4 : Nat) : (s.packetBody l k t4).spine = s.spine := by
  simp [State.packetBody]

@[simp] theorem State.packet_spine (s : State) (l : Nat) (k : LanePkt) (t4 : Nat) : (s.packet l k t4).spine = s.spine := by
  simp [State.packet]

@[simp] theorem execUndefinedDt_keeps (t : Nat) (l : Fin 128) (k : LanePkt) (s : State) : KeepsSpine (s.elapse t) (execUndefinedDt t l k s) := by
  simp [execUndefinedDt]

@[simp] theorem execHello_keeps (t : Nat) (l : Fin 128) (k : LanePkt) (s : State) : KeepsSpine (s.elapse t) (execHello t l k s) := by
  simp [execHello]

@[simp] theorem execFrameStart_keeps (t : Nat) (l : Fin 128) (k : LanePkt) (s : State) : KeepsSpine (s.elapse t) (execFrameStart t l k s) := by
  simp [execFrameStart]

@[simp] theorem execFrameEnd_keeps (t : Nat) (l : Fin 128) (k : LanePkt) (s : State) : KeepsSpine (s.elapse t) (execFrameEnd t l k s) := by
  simp [execFrameEnd]

@[simp] theorem execLineStart_keeps (t : Nat) (l : Fin 128) (k : LanePkt) (s : State) : KeepsSpine (s.elapse t) (execLineStart t l k s) := by
  simp [execLineStart]

@[simp] theorem execLineEnd_keeps (t : Nat) (l : Fin 128) (k : LanePkt) (s : State) : KeepsSpine (s.elapse t) (execLineEnd t l k s) := by
  simp [execLineEnd]

@[simp] theorem execPixelPacket_keeps (t : Nat) (l : Fin 128) (k : LanePkt) (s : State) : KeepsSpine (s.elapse t) (execPixelPacket t l k s) := by
  simp [execPixelPacket]

@[simp] theorem execExposureReport_keeps (t : Nat) (l : Fin 128) (k : LanePkt) (s : State) :
    KeepsSpine (s.elapse t) (execExposureReport t l k s) := by simp [execExposureReport]

@[simp] theorem execCameraEvent_keeps (t : Nat) (l : Fin 128) (k : LanePkt) (s : State) : KeepsSpine (s.elapse t) (execCameraEvent t l k s) := by
  simp [execCameraEvent]

@[simp] theorem execControlResponse_keeps (t : Nat) (l : Fin 128) (k : LanePkt) (s : State) :
    KeepsSpine (s.elapse t) (execControlResponse t l k s) := by simp [execControlResponse]

@[simp] theorem execTimeSyncResponse_keeps (t : Nat) (l : Fin 128) (k : LanePkt) (frac : BitVec 32) (s : State) :
    KeepsSpine (s.elapse t) (execTimeSyncResponse t l k frac s) := by simp [execTimeSyncResponse]

@[simp] theorem execHcrcError_keeps (t : Nat) (l : Fin 128) (w : BitVec 64) (s : State) : KeepsSpine (s.elapse t) (execHcrcError t l w s) := by
  simp [execHcrcError]

@[simp] theorem execSignalEnergyPresent_keeps (t : Nat) (l : Fin 128) (s : State) : KeepsSpine (s.elapse t) (execSignalEnergyPresent t l s) := by
  simp [execSignalEnergyPresent]

@[simp] theorem execAdaptLock_keeps (t : Nat) (l : Fin 128) (s : State) : KeepsSpine (s.elapse t) (execAdaptLock t l s) := by
  simp [execAdaptLock]

@[simp] theorem execAdaptTimeout_keeps (t : Nat) (l : Fin 128) (s : State) : KeepsSpine (s.elapse t) (execAdaptTimeout t l s) := by
  simp [execAdaptTimeout]

@[simp] theorem execAlignFound_keeps (t : Nat) (l : Fin 128) (direction : Byte) (s : State) :
    KeepsSpine (s.elapse t) (execAlignFound t l direction s) := by simp [execAlignFound]

@[simp] theorem execAlignTimeout_keeps (t : Nat) (l : Fin 128) (s : State) : KeepsSpine (s.elapse t) (execAlignTimeout t l s) := by
  simp [execAlignTimeout]

@[simp] theorem execHelloTimeout_keeps (t : Nat) (l : Fin 128) (s : State) : KeepsSpine (s.elapse t) (execHelloTimeout t l s) := by
  simp [execHelloTimeout]

@[simp] theorem execHelloSend_keeps (t : Nat) (l : Fin 128) (s : State) : KeepsSpine (s.elapse t) (execHelloSend t l s) := by
  simp [execHelloSend]

@[simp] theorem execLaneDrop_keeps (t : Nat) (l : Fin 128) (cause : Nat) (s : State) : KeepsSpine (s.elapse t) (execLaneDrop t l cause s) := by
  simp [execLaneDrop]

@[simp] theorem execRetrainTimeout_keeps (t : Nat) (l : Fin 128) (s : State) : KeepsSpine (s.elapse t) (execRetrainTimeout t l s) := by
  simp [execRetrainTimeout]

@[simp] theorem execLaneLost_keeps (t : Nat) (l : Fin 128) (s : State) : KeepsSpine (s.elapse t) (execLaneLost t l s) := by simp [execLaneLost]

@[simp] theorem execRetransmit_keeps (t : Nat) (l : Fin 128) (sensor : Byte) (s : State) :
    KeepsSpine (s.elapse t) (execRetransmit t l sensor s) := by simp [execRetransmit]

@[simp] theorem execLaneRequestTimeout_keeps (t : Nat) (l : Fin 128) (sensor : Byte) (s : State) :
    KeepsSpine (s.elapse t) (execLaneRequestTimeout t l sensor s) := by simp [execLaneRequestTimeout]

@[simp] theorem State.laneRequest_spine (s : State) (c : RingCmd) : (s.laneRequest c).1.spine = s.spine := by simp [State.laneRequest]
@[simp] theorem laneRequestEffect_spine (c : RingCmd) (s : State) : (laneRequestEffect c s).1.spine = s.spine := by simp [laneRequestEffect]

@[simp] theorem execLaneRequest_keeps (t : Nat) (c : RingCmd) (s : State) : KeepsSpine (s.elapse t) (execLaneRequest t c s) :=
  command_keeps (laneRequestEffect_spine c)

@[simp] theorem execTimeSync_keeps (t : Nat) (l : Fin 128) (s : State) : KeepsSpine (s.elapse t) (execTimeSync t l s) := by simp [execTimeSync]

@[simp] theorem execTsyncMissed_keeps (t : Nat) (l : Fin 128) (s : State) : KeepsSpine (s.elapse t) (execTsyncMissed t l s) := by
  simp only [execTsyncMissed]; split <;> simp

@[simp] theorem execTriggerImmediate_keeps (t : Nat) (l : Fin 128) (tg : Fin 256) (s : State) :
    KeepsSpine (s.elapse t) (execTriggerImmediate t l tg s) := by
  simp only [execTriggerImmediate]; split <;> simp

@[simp] theorem execTriggerScheduled_keeps (t : Nat) (l : Fin 128) (tg : Fin 256) (s : State) :
    KeepsSpine (s.elapse t) (execTriggerScheduled t l tg s) := by
  simp only [execTriggerScheduled]; split <;> simp

@[simp] theorem execHalt_keeps (t : Nat) (l : Fin 128) (s : State) : KeepsSpine (s.elapse t) (execHalt t l s) := by simp [execHalt]

@[simp] theorem execShareWindowEnd_keeps (t : Nat) (l : Fin 128) (s : State) : KeepsSpine (s.elapse t) (execShareWindowEnd t l s) := by
  simp [execShareWindowEnd]

@[simp] theorem execLineTimeout_keeps (t : Nat) (c : Fin 512) (s : State) : KeepsSpine (s.elapse t) (execLineTimeout t c s) := by
  simp [execLineTimeout]

@[simp] theorem execFrameTimeout_keeps (t : Nat) (c : Fin 512) (s : State) : KeepsSpine (s.elapse t) (execFrameTimeout t c s) := by
  simp [execFrameTimeout]

/-! ### Alerts and fatal records (15 R535; 18 R604) -/

@[simp] theorem State.alertDrop_spine (s : State) : s.alertDrop.spine = s.spine := by simp [State.alertDrop]
@[simp] theorem State.alertRelease_spine (s : State) : s.alertRelease.spine = s.spine := by simp [State.alertRelease]
@[simp] theorem State.callHost_spine (s : State) : s.callHost.spine = s.spine := by simp [State.callHost]
@[simp] theorem State.alert_spine (s : State) (k : Nat) : (s.alert k).spine = s.spine := by simp [State.alert]

@[simp] theorem State.fatalRecord_spine (s : State) (typ data : Nat) : (s.fatalRecord typ data).spine = s.spine := by
  simp [State.fatalRecord]

@[simp] theorem State.freezePair_spine (s : State) : s.freezePair.spine = s.spine := by simp [State.freezePair]
@[simp] theorem State.darkSafe_spine (s : State) : s.darkSafe.spine = s.spine := by simp [State.darkSafe]

@[simp] theorem State.darkPort_spine (s : State) (p : Nat) : (s.darkPort p).spine = s.spine := by
  unfold State.darkPort; split <;> simp

/-! ### Supervisors, guards and Dark (15 R524 to R535) -/

@[simp] theorem State.supReport_spine (s : State) : s.supReport.spine = s.spine := by simp [State.supReport]

@[simp] theorem State.coresTaken_spine (s : State) : s.coresTaken.spine = s.spine :=
  foldl_spine (fun t q => by split <;> simp) ..

@[simp] theorem execSupervisorSelfTestDone_keeps (t : Nat) (pass : List (Fin 3)) (s : State) :
    KeepsSpine (s.elapse t) (execSupervisorSelfTestDone t pass s) := by simp [execSupervisorSelfTestDone]

@[simp] theorem execGuardFault_keeps (t : Nat) (g : Fin 2) (s : State) : KeepsSpine (s.elapse t) (execGuardFault t g s) := by
  simp only [execGuardFault]; split <;> simp

@[simp] theorem execDarkDrainEnd_keeps (t : Nat) (p : Fin 4) (s : State) : KeepsSpine (s.elapse t) (execDarkDrainEnd t p s) := by
  simp [execDarkDrainEnd]

@[simp] theorem execEventWindowEnd_keeps (t : Nat) (s : State) : KeepsSpine (s.elapse t) (execEventWindowEnd t s) := by simp [execEventWindowEnd]

@[simp] theorem execHealthNvWrite_keeps (t : Nat) (s : State) : KeepsSpine (s.elapse t) (execHealthNvWrite t s) := by
  simp only [execHealthNvWrite]; split <;> simp

/-! ### The commands of streams, movers and the translation area (03, 14) -/

@[simp] theorem State.streamConfigured_spine (s : State) (p : Nat) (e : Entry) : (s.streamConfigured p e).spine = s.spine := by
  simp [State.streamConfigured]

@[simp] theorem streamConfigEffect_spine (c : RingCmd) (s : State) : (streamConfigEffect c s).1.spine = s.spine := by
  simp [streamConfigEffect]

@[simp] theorem execStreamConfig_keeps (t : Nat) (c : RingCmd) (s : State) : KeepsSpine (s.elapse t) (execStreamConfig t c s) :=
  command_keeps (streamConfigEffect_spine c)

@[simp] theorem State.widen_spine (s : State) (p : Nat) : (s.widen p).spine = s.spine := by simp [State.widen]

@[simp] theorem streamStartEffect_spine (c : RingCmd) (s : State) : (streamStartEffect c s).1.spine = s.spine := by
  simp only [streamStartEffect]; split <;> simp

@[simp] theorem execStreamStart_keeps (t : Nat) (c : RingCmd) (s : State) : KeepsSpine (s.elapse t) (execStreamStart t c s) :=
  command_keeps (streamStartEffect_spine c)

@[simp] theorem State.streamStopBy_spine (s : State) (n : Nat) (cmds : List (Nat × Nat)) (seq : Nat) :
    (s.streamStopBy n cmds seq).spine = s.spine := by
  simp only [State.streamStopBy]; split <;> simp

@[simp] theorem State.streamStop_spine (s : State) (n rid arg : Nat) : (s.streamStop n rid arg).spine = s.spine := by
  simp [State.streamStop]

@[simp] theorem streamStopEffect_spine (c : RingCmd) (s : State) : (streamStopEffect c s).1.spine = s.spine := by
  simp only [streamStopEffect]
  repeat' split
  all_goals simp

@[simp] theorem execStreamStop_keeps (t : Nat) (c : RingCmd) (s : State) : KeepsSpine (s.elapse t) (execStreamStop t c s) :=
  command_keeps (streamStopEffect_spine c)

@[simp] theorem streamReleaseEffect_spine (c : RingCmd) (s : State) : (streamReleaseEffect c s).1.spine = s.spine := by
  simp [streamReleaseEffect]

@[simp] theorem execStreamRelease_keeps (t : Nat) (c : RingCmd) (s : State) : KeepsSpine (s.elapse t) (execStreamRelease t c s) :=
  command_keeps (streamReleaseEffect_spine c)

@[simp] theorem streamMoveEffect_spine (c : RingCmd) (s : State) : (streamMoveEffect c s).1.spine = s.spine := by simp [streamMoveEffect]

@[simp] theorem execStreamMove_keeps (t : Nat) (c : RingCmd) (s : State) : KeepsSpine (s.elapse t) (execStreamMove t c s) :=
  command_keeps (streamMoveEffect_spine c)

@[simp] theorem moverStopEffect_spine (c : RingCmd) (s : State) : (moverStopEffect c s).1.spine = s.spine := by
  simp only [moverStopEffect]
  repeat' split
  all_goals simp

@[simp] theorem execMoverStop_keeps (t : Nat) (c : RingCmd) (s : State) : KeepsSpine (s.elapse t) (execMoverStop t c s) :=
  command_keeps (moverStopEffect_spine c)

@[simp] theorem State.snuff_spine (s : State) (n : Nat) : (s.snuff n).spine = s.spine := by
  simp only [State.snuff]; split <;> simp

@[simp] theorem moverSnuffEffect_spine (c : RingCmd) (s : State) : (moverSnuffEffect c s).1.spine = s.spine := by
  unfold moverSnuffEffect; split <;> simp

@[simp] theorem execMoverSnuff_keeps (t : Nat) (c : RingCmd) (s : State) : KeepsSpine (s.elapse t) (execMoverSnuff t c s) :=
  command_keeps (moverSnuffEffect_spine c)

@[simp] theorem moverResumeEffect_spine (c : RingCmd) (s : State) : (moverResumeEffect c s).1.spine = s.spine := by
  unfold moverResumeEffect; split <;> simp

@[simp] theorem execMoverResume_keeps (t : Nat) (c : RingCmd) (s : State) : KeepsSpine (s.elapse t) (execMoverResume t c s) :=
  command_keeps (moverResumeEffect_spine c)

@[simp] theorem moverPaceEffect_spine (c : RingCmd) (s : State) : (moverPaceEffect c s).1.spine = s.spine := by
  unfold moverPaceEffect; split <;> simp

@[simp] theorem execMoverPace_keeps (t : Nat) (c : RingCmd) (s : State) : KeepsSpine (s.elapse t) (execMoverPace t c s) :=
  command_keeps (moverPaceEffect_spine c)

@[simp] theorem moverSpoolEffect_spine (c : RingCmd) (s : State) : (moverSpoolEffect c s).1.spine = s.spine := by simp [moverSpoolEffect]

@[simp] theorem execMoverSpool_keeps (t : Nat) (c : RingCmd) (s : State) : KeepsSpine (s.elapse t) (execMoverSpool t c s) :=
  command_keeps (moverSpoolEffect_spine c)

@[simp] theorem State.mapWrite_spine (s : State) (p : Nat) (e : Entry) (f : Nat → Nat) : (s.mapWrite p e f).spine = s.spine := rfl
@[simp] theorem State.journalNow_spine (s : State) (c : RingCmd) : (s.journalNow c).spine = s.spine := by simp [State.journalNow]
@[simp] theorem mapRunEffect_spine (c : RingCmd) (s : State) : (mapRunEffect c s).1.spine = s.spine := by simp [mapRunEffect]

@[simp] theorem execMapRun_keeps (t : Nat) (c : RingCmd) (s : State) : KeepsSpine (s.elapse t) (execMapRun t c s) :=
  command_keeps (mapRunEffect_spine c)

@[simp] theorem mapListEffect_spine (c : RingCmd) (s : State) : (mapListEffect c s).1.spine = s.spine := by simp [mapListEffect]

@[simp] theorem execMapList_keeps (t : Nat) (c : RingCmd) (s : State) : KeepsSpine (s.elapse t) (execMapList t c s) :=
  command_keeps (mapListEffect_spine c)

@[simp] theorem State.mapListed_spine (s : State) (p : Nat) (e : Entry) (d : HostData) : (s.mapListed p e d).1.spine = s.spine := by
  simp only [State.mapListed]; split <;> simp

@[simp] theorem mapUnmapEffect_spine (c : RingCmd) (s : State) : (mapUnmapEffect c s).1.spine = s.spine := by simp [mapUnmapEffect]

@[simp] theorem execMapUnmap_keeps (t : Nat) (c : RingCmd) (s : State) : KeepsSpine (s.elapse t) (execMapUnmap t c s) :=
  command_keeps (mapUnmapEffect_spine c)

/-! ### Delivery to host memory (14) -/

@[simp] theorem execDescriptorFetch_keeps (t : Nat) (p : Fin 4) (st : Fin 2048) (d : BitVec 256) (s : State) :
    KeepsSpine (s.elapse t) (execDescriptorFetch t p st d s) := by
  simp only [execDescriptorFetch]
  repeat' split
  all_goals simp

@[simp] theorem State.stallEnd_spine (s : State) (n : Nat) : (s.stallEnd n).spine = s.spine := by simp [State.stallEnd]

@[simp] theorem State.unblock_spine (s : State) (n : Nat) : (s.unblock n).spine = s.spine := by
  simp only [State.unblock]; split <;> simp

@[simp] theorem State.blockStream_spine (s : State) (n cause since : Nat) : (s.blockStream n cause since).spine = s.spine := by
  simp [State.blockStream]

@[simp] theorem execStreamBlocked_keeps (t : Nat) (st : Fin 2048) (cause : Nat) (s : State) :
    KeepsSpine (s.elapse t) (execStreamBlocked t st cause s) := by
  simp only [execStreamBlocked]; split <;> simp

@[simp] theorem State.stallStream_spine (s : State) (n data : Nat) : (s.stallStream n data).spine = s.spine := by simp [State.stallStream]

@[simp] theorem execStall_keeps (t : Nat) (st : Fin 2048) (s : State) : KeepsSpine (s.elapse t) (execStall t st s) := by
  simp only [execStall]; split <;> simp

@[simp] theorem execStallEnd_keeps (t : Nat) (st : Fin 2048) (s : State) : KeepsSpine (s.elapse t) (execStallEnd t st s) := by
  simp only [execStallEnd]; split <;> simp

@[simp] theorem State.portStall_spine (s : State) (p n : Nat) : (s.portStall p n).spine = s.spine := by
  simp only [State.portStall]; split <;> simp

@[simp] theorem State.portStalls_spine (s : State) (p : Nat) : (s.portStalls p).spine = s.spine := by simp [State.portStalls]

@[simp] theorem State.bufferParts_spine (s : State) (p : Nat) (parts : List (Nat × List Byte)) :
    (s.bufferParts p parts).spine = s.spine := by simp [State.bufferParts]

@[simp] theorem State.putBuffer_spine (s : State) (p : Nat) (d : Desc) (off : Nat) (l : List Byte) :
    (s.putBuffer p d off l).spine = s.spine := by simp [State.putBuffer]

@[simp] theorem State.afterGrant_spine (s : State) (n : Nat) (f : Frame) (sf : StreamFrame) : (s.afterGrant n f sf).spine = s.spine := by
  simp [State.afterGrant]

@[simp] theorem execPayloadWriteGrant_keeps (t : Nat) (st : Fin 2048) (s : State) : KeepsSpine (s.elapse t) (execPayloadWriteGrant t st s) := by
  simp only [execPayloadWriteGrant]
  repeat' split
  all_goals simp

@[simp] theorem State.outputEvent_spine (s : State) (n typ cls hi data : Nat) : (s.outputEvent n typ cls hi data).spine = s.spine := by
  simp [State.outputEvent]

@[simp] theorem State.outputEvents_spine (s : State) (n : Nat) (f : Frame) : (s.outputEvents n f).spine = s.spine := by
  simp [State.outputEvents]

@[simp] theorem execFrameTagWrite_keeps (t : Nat) (st : Fin 2048) (s : State) : KeepsSpine (s.elapse t) (execFrameTagWrite t st s) := by
  simp only [execFrameTagWrite]
  repeat' split
  all_goals simp

@[simp] theorem State.loaded_spine (s : State) (p : Nat) (e : Entry) (d : HostData) : (s.loaded p e d).1.spine = s.spine := by
  unfold State.loaded; split <;> simp

@[simp] theorem State.loadedAfterReset_spine (s : State) (p : Nat) (e : Entry) (d : HostData) :
    (s.loadedAfterReset p e d).1.spine = s.spine := by
  unfold State.loadedAfterReset; split <;> simp

@[simp] theorem State.imageEnds_spine (s : State) (c : LoadCmd) (d : HostData) : (s.imageEnds c d).1.spine = s.spine := by
  unfold State.imageEnds; split <;> simp

@[simp] theorem State.mapEnds_spine (s : State) (c : LoadCmd) (d : HostData) : (s.mapEnds c d).1.spine = s.spine := by simp [State.mapEnds]

@[simp] theorem State.blockEnds_spine (s : State) (rid arg port : Nat) (parts : List (Nat × List Byte)) :
    (s.blockEnds rid arg port parts).1.spine = s.spine := by
  unfold State.blockEnds; split <;> simp

@[simp] theorem State.statsEnds_spine (s : State) (n m : Nat) : (s.statsEnds n m).1.spine = s.spine := by
  simp only [State.statsEnds]
  repeat' split
  all_goals simp

@[simp] theorem State.auxEffect_spine (s : State) (j : AuxJob) : (s.auxEffect j).1.spine = s.spine := by
  unfold State.auxEffect; split <;> simp

@[simp] theorem execAuxDone_keeps (t : Nat) (ax : Fin 8) (s : State) : KeepsSpine (s.elapse t) (execAuxDone t ax s) := by
  simp only [execAuxDone]; split <;> simp

/-! ### Loss and change of a host port (02) -/

@[simp] theorem State.seqReleased_spine (s : State) (q : Nat) : (s.seqReleased q).spine = s.spine := by simp [State.seqReleased]
@[simp] theorem State.targetReleased_spine (s : State) (g : Nat) : (s.targetReleased g).spine = s.spine := by simp [State.targetReleased]
@[simp] theorem State.portObjects_spine (s : State) (p : Nat) : (s.portObjects p).spine = s.spine := by simp [State.portObjects]

@[simp] theorem State.portResetRecord_spine (s : State) (p kind : Nat) : (s.portResetRecord p kind).spine = s.spine := by
  simp [State.portResetRecord]

@[simp] theorem State.journalRingLost_spine (s : State) (p : Nat) : (s.journalRingLost p).spine = s.spine := by simp [State.journalRingLost]

@[simp] theorem State.portReset_spine (s : State) (p kind : Nat) (f : Port → Port) : (s.portReset p kind f).spine = s.spine := by
  simp [State.portReset]

@[simp] theorem execFunctionLevelReset_keeps (t : Nat) (p : Fin 4) (s : State) : KeepsSpine (s.elapse t) (execFunctionLevelReset t p s) := by
  simp [execFunctionLevelReset]

@[simp] theorem execHotReset_keeps (t : Nat) (p : Fin 4) (s : State) : KeepsSpine (s.elapse t) (execHotReset t p s) := by simp [execHotReset]
@[simp] theorem execDlDown_keeps (t : Nat) (p : Fin 4) (s : State) : KeepsSpine (s.elapse t) (execDlDown t p s) := by simp [execDlDown]
@[simp] theorem State.d3hotEntry_spine (s : State) (p : Nat) : (s.d3hotEntry p).spine = s.spine := by simp [State.d3hotEntry]

@[simp] theorem execD3hotEntry_keeps (t : Nat) (p : Fin 4) (s : State) : KeepsSpine (s.elapse t) (execD3hotEntry t p s) := by
  simp [execD3hotEntry]

@[simp] theorem State.masterOff_spine (s : State) (p : Nat) : (s.masterOff p).spine = s.spine := by simp [State.masterOff]

@[simp] theorem execBusMasterDisable_keeps (t : Nat) (p : Fin 4) (s : State) : KeepsSpine (s.elapse t) (execBusMasterDisable t p s) := by
  simp [execBusMasterDisable]

@[simp] theorem State.shed_spine (s : State) (p : Nat) (l gone : List Nat) : (s.shed p l gone).1.spine = s.spine := by
  induction l generalizing s gone with
  | nil => rfl
  | cons n l ih =>
    unfold State.shed
    split
    · rfl
    · dsimp only; split <;> simp [ih]

@[simp] theorem State.shortStall_spine (s : State) (n data : Nat) : (s.shortStall n data).spine = s.spine := by simp [State.shortStall]
@[simp] theorem State.recheck_spine (s : State) (p : Nat) : (s.recheck p).spine = s.spine := by simp [State.recheck]

@[simp] theorem State.capacityChange_spine (s : State) (p : Nat) (y : Port) : (s.capacityChange p y).spine = s.spine := by
  simp [State.capacityChange]

@[simp] theorem execLinkCapacityChange_keeps (t : Nat) (p : Fin 4) (rate width : Nat) (s : State) :
    KeepsSpine (s.elapse t) (execLinkCapacityChange t p rate width s) := by simp [execLinkCapacityChange]

@[simp] theorem State.deviceControl_spine (s : State) (p v : Nat) : (s.deviceControl p v).spine = s.spine := by simp [State.deviceControl]

@[simp] theorem State.configWrite_spine (s : State) (p : Nat) (r : CfgReg) (v : Nat) : (s.configWrite p r v).spine = s.spine := by
  unfold State.configWrite; split <;> simp

@[simp] theorem State.bar0Access_spine (s : State) (p off size v : Nat) (header : BitVec 128) :
    (s.bar0Access p off size v header).spine = s.spine := by simp [State.bar0Access]

@[simp] theorem execRegisterWrite_keeps (t : Nat) (p : Fin 4) (w : RegWrite) (s : State) :
    KeepsSpine (s.elapse t) (execRegisterWrite t p w s) := by
  unfold execRegisterWrite; split <;> simp

@[simp] theorem execL0pRequest_keeps (t : Nat) (p : Fin 4) (width : Nat) (s : State) : KeepsSpine (s.elapse t) (execL0pRequest t p width s) := by
  simp [execL0pRequest]

@[simp] theorem execL0pNarrow_keeps (t : Nat) (p : Fin 4) (s : State) : KeepsSpine (s.elapse t) (execL0pNarrow t p s) := by simp [execL0pNarrow]

/-! ### Hard faults and spares (15) -/

@[simp] theorem State.strikeSconce_spine (s : State) (k : Nat) : (s.strikeSconce k).spine = s.spine := by simp [State.strikeSconce]
@[simp] theorem State.strikeTap_spine (s : State) (k tap m : Nat) : (s.strikeTap k tap m).spine = s.spine := by simp [State.strikeTap]

@[simp] theorem State.strikeLantern_spine (s : State) (n : Nat) (all : Bool) : (s.strikeLantern n all).spine = s.spine := by
  simp [State.strikeLantern]

@[simp] theorem State.strikeCoding_spine (s : State) (i : Nat) : (s.strikeCoding i).spine = s.spine := rfl

@[simp] theorem State.strikeUnit_spine (s : State) (pool n : Nat) (moved : List Nat) (due : Nat) :
    (s.strikeUnit pool n moved due).spine = s.spine := by simp [State.strikeUnit]

@[simp] theorem State.evict_spine (s : State) (n : Nat) : (s.evict n).spine = s.spine := by
  induction n generalizing s with
  | zero => rfl
  | succ n ih =>
    unfold State.evict
    repeat' split
    all_goals simp [ih]

@[simp] theorem State.laneDead_spine (s : State) (l : Nat) : (s.laneDead l).spine = s.spine := by simp [State.laneDead]
@[simp] theorem State.sliceDead_spine (s : State) (n : Nat) : (s.sliceDead n).spine = s.spine := by simp [State.sliceDead]
@[simp] theorem State.unitDead_spine (s : State) (pool n : Nat) : (s.unitDead pool n).spine = s.spine := by simp [State.unitDead]

@[simp] theorem State.failUnit_spine (s : State) (pool n k kind : Nat) (cmd : Option (Nat × Nat)) :
    (s.failUnit pool n k kind cmd).spine = s.spine := by
  simp only [State.failUnit]; split <;> simp

@[simp] theorem State.failSpare_spine (s : State) (pool k : Nat) : (s.failSpare pool k).spine = s.spine := by
  simp only [State.failSpare]
  repeat' split
  all_goals simp

@[simp] theorem State.partTakes_spine (s : State) (pool k part limit : Nat) : (s.partTakes pool k part limit).spine = s.spine := rfl
@[simp] theorem State.pllStruck_spine (s : State) (k port : Nat) : (s.pllStruck k port).spine = s.spine := by simp [State.pllStruck]
@[simp] theorem State.pllDead_spine (s : State) (k port : Nat) : (s.pllDead k port).spine = s.spine := by simp [State.pllDead]

@[simp] theorem State.takeOverEnds_spine (s : State) (q : TakeOver) (lostWords : List Nat) :
    (s.takeOverEnds q lostWords).spine = s.spine := by
  simp only [State.takeOverEnds]; split <;> simp

@[simp] theorem State.startPlan_spine (s : State) (pool n old new kind : Nat) : (s.startPlan pool n old new kind).spine = s.spine := by
  simp only [State.startPlan, patrolCheck_spine, spine_ite]
  rw [foldl_spine (fun t k => by split <;> simp)]
  simp

@[simp] theorem State.planUnit_spine (s : State) (pool k : Nat) : (s.planUnit pool k).spine = s.spine := by
  unfold State.planUnit
  repeat' split
  all_goals simp

@[simp] theorem State.planPart_spine (s : State) (pool k part : Nat) : (s.planPart pool k part).spine = s.spine := by simp [State.planPart]
@[simp] theorem State.wearTrend_spine (s : State) (pool k : Nat) : (s.wearTrend pool k).spine = s.spine := by simp [State.wearTrend]
@[simp] theorem State.correct_spine (s : State) (pool k part : Nat) : (s.correct pool k part).spine = s.spine := by simp [State.correct]

/-! ### Faults and spare-ins (15 R507 to R523) -/

@[simp] theorem State.coreOut_spine (s : State) (n kind : Nat) (cmd : Option (Nat × Nat)) : (s.coreOut n kind cmd).spine = s.spine := by
  unfold State.coreOut; split <;> simp

@[simp] theorem execSpareTakeover_keeps (t pool unit : Nat) (lostWords : List Nat) (s : State) :
    KeepsSpine (s.elapse t) (execSpareTakeover t pool unit lostWords s) := by
  simp only [execSpareTakeover]; split <;> simp

@[simp] theorem execCorrectedError_keeps (t pool unit part : Nat) (s : State) :
    KeepsSpine (s.elapse t) (execCorrectedError t pool unit part s) := by simp [execCorrectedError]

@[simp] theorem State.strikeFrames_spine (s : State) (frames : List (Nat × Nat)) : (s.strikeFrames frames).spine = s.spine := rfl

@[simp] theorem execHbmUncorrectable_keeps (t channel row : Nat) (x : HbmHit) (s : State) :
    KeepsSpine (s.elapse t) (execHbmUncorrectable t channel row x s) := by
  unfold execHbmUncorrectable; split <;> simp

@[simp] theorem execPlannedSpareInSwitch_keeps (t pool unit : Nat) (s : State) :
    KeepsSpine (s.elapse t) (execPlannedSpareInSwitch t pool unit s) := by
  simp only [execPlannedSpareInSwitch]; split <;> simp

@[simp] theorem execLocalStoreCopyComplete_keeps (t : Nat) (n : Fin 64) (s : State) :
    KeepsSpine (s.elapse t) (execLocalStoreCopyComplete t n s) := by
  simp only [execLocalStoreCopyComplete]; split <;> simp

@[simp] theorem sparePlanEffect_spine (c : RingCmd) (s : State) : (sparePlanEffect c s).1.spine = s.spine := by
  simp only [sparePlanEffect]; split <;> simp

@[simp] theorem execSparePlan_keeps (t : Nat) (c : RingCmd) (s : State) : KeepsSpine (s.elapse t) (execSparePlan t c s) :=
  command_keeps (sparePlanEffect_spine c)

@[simp] theorem spareForceEffect_spine (c : RingCmd) (s : State) : (spareForceEffect c s).1.spine = s.spine := by simp [spareForceEffect]

@[simp] theorem execSpareForce_keeps (t : Nat) (c : RingCmd) (s : State) : KeepsSpine (s.elapse t) (execSpareForce t c s) :=
  command_keeps (spareForceEffect_spine c)

@[simp] theorem State.retireSpare_spine (s : State) (pool k : Nat) : (s.retireSpare pool k).spine = s.spine := by
  unfold State.retireSpare
  repeat' split
  all_goals simp

@[simp] theorem spareRetireEffect_spine (c : RingCmd) (s : State) : (spareRetireEffect c s).1.spine = s.spine := by simp [spareRetireEffect]

@[simp] theorem execSpareRetire_keeps (t : Nat) (c : RingCmd) (s : State) : KeepsSpine (s.elapse t) (execSpareRetire t c s) :=
  command_keeps (spareRetireEffect_spine c)

@[simp] theorem sparePolicyEffect_spine (c : RingCmd) (s : State) : (sparePolicyEffect c s).1.spine = s.spine := rfl

@[simp] theorem execSparePolicy_keeps (t : Nat) (c : RingCmd) (s : State) : KeepsSpine (s.elapse t) (execSparePolicy t c s) :=
  command_keeps (sparePolicyEffect_spine c)

@[simp] theorem patrolConfigEffect_spine (c : RingCmd) (s : State) : (patrolConfigEffect c s).1.spine = s.spine := rfl

@[simp] theorem execPatrolConfig_keeps (t : Nat) (c : RingCmd) (s : State) : KeepsSpine (s.elapse t) (execPatrolConfig t c s) :=
  command_keeps (patrolConfigEffect_spine c)

@[simp] theorem State.chargeMismatch_spine (s : State) (k n : Nat) : (s.chargeMismatch k n).spine = s.spine := by
  simp [State.chargeMismatch]

@[simp] theorem State.patrolVerdict_spine (s : State) (c m v : Nat) : (s.patrolVerdict c m v).spine = s.spine := by
  simp only [State.patrolVerdict]
  repeat' split
  all_goals simp

@[simp] theorem execPatrolResult_keeps (t : Nat) (c : Fin 512) (r : PatrolOutcome) (s : State) :
    KeepsSpine (s.elapse t) (execPatrolResult t c r s) := by
  simp only [execPatrolResult]
  repeat' split
  all_goals simp

/-! ### Resets (17) -/

@[simp] theorem State.mapTakeOver_spine (s : State) (q : TakeOver) : (s.mapTakeOver q).spine = s.spine := by simp [State.mapTakeOver]
@[simp] theorem State.pinsOff_spine (s : State) : s.pinsOff.spine = s.spine := by simp [State.pinsOff]

/-! ### TIME_CONFIG and what happens to the time base (10) -/

@[simp] theorem State.timeConfigure_spine (s : State) (c : TimeCfg) : (s.timeConfigure c).spine = s.spine := by simp [State.timeConfigure]

@[simp] theorem timeConfigureEffect_spine (c : RingCmd) (s : State) : (timeConfigureEffect c s).1.spine = s.spine := by
  simp [timeConfigureEffect]

@[simp] theorem execTimeConfigure_keeps (t : Nat) (c : RingCmd) (s : State) : KeepsSpine (s.elapse t) (execTimeConfigure t c s) :=
  command_keeps (timeConfigureEffect_spine c)

@[simp] theorem State.loadRate_spine (s : State) (e : Entry) : (s.loadRate e).spine = s.spine := by simp [State.loadRate]
@[simp] theorem readStampsEffect_spine (c : RingCmd) (s : State) : (readStampsEffect c s).1.spine = s.spine := by simp [readStampsEffect]

@[simp] theorem execReadStamps_keeps (t : Nat) (c : RingCmd) (s : State) : KeepsSpine (s.elapse t) (execReadStamps t c s) :=
  command_keeps (readStampsEffect_spine c)

@[simp] theorem timeStatusEffect_spine (c : RingCmd) (s : State) : (timeStatusEffect c s).1.spine = s.spine := by simp [timeStatusEffect]

@[simp] theorem execTimeStatus_keeps (t : Nat) (c : RingCmd) (s : State) : KeepsSpine (s.elapse t) (execTimeStatus t c s) :=
  command_keeps (timeStatusEffect_spine c)

@[simp] theorem execPtpMasterTransmit_keeps (t : Nat) (x : PtpPort) (k : PtpSend) (s : State) :
    KeepsSpine (s.elapse t) (execPtpMasterTransmit t x k s) := by
  simp only [execPtpMasterTransmit]
  repeat' split
  all_goals simp

@[simp] theorem execPtpDelayRequestTransmit_keeps (t : Nat) (s : State) : KeepsSpine (s.elapse t) (execPtpDelayRequestTransmit t s) := by
  simp [execPtpDelayRequestTransmit]

@[simp] theorem State.loseSource_spine (s : State) : s.loseSource.spine = s.spine := by simp [State.loseSource]

@[simp] theorem execSourceLost_keeps (t : Nat) (k : LossKind) (s : State) : KeepsSpine (s.elapse t) (execSourceLost t k s) := by
  simp [execSourceLost]

@[simp] theorem State.tpLink_spine (s : State) (up : Bool) : (s.tpLink up).spine = s.spine := by simp [State.tpLink]
@[simp] theorem execTpLink_keeps (t : Nat) (up : Bool) (s : State) : KeepsSpine (s.elapse t) (execTpLink t up s) := by simp [execTpLink]

@[simp] theorem execPpsOutRise_keeps (t : Nat) (s : State) : KeepsSpine (s.elapse t) (execPpsOutRise t s) := by
  simp only [execPpsOutRise]; split <;> simp

@[simp] theorem execPpsOutFall_keeps (t : Nat) (s : State) : KeepsSpine (s.elapse t) (execPpsOutFall t s) := by
  simp only [execPpsOutFall]; split <;> simp

@[simp] theorem execSetTimePpsTimeout_keeps (t : Nat) (s : State) : KeepsSpine (s.elapse t) (execSetTimePpsTimeout t s) := by
  simp only [execSetTimePpsTimeout]; split <;> simp

/-! ### The management target (18 R595 to R616) -/

@[simp] theorem State.mgSeen_spine (s : State) : s.mgSeen.spine = s.spine := rfl
@[simp] theorem State.mgReject_spine (s : State) : s.mgReject.spine = s.spine := rfl

@[simp] theorem State.mgSend_spine (s : State) (code : Nat) (bytes : List Byte) (ackLast : Bool) :
    (s.mgSend code bytes ackLast).spine = s.spine := by simp [State.mgSend]

/-- A write of a register changes nothing that the invariant reads, or has the effect of the register. -/
theorem State.mgPut_cases (s : State) (code n : Nat) (bytes : List Byte) (apply : List Byte → State → State) :
    (s.mgPut code n bytes apply).spine = s.spine ∨ ∃ b, s.mgPut code n bytes apply = apply b s := by
  unfold State.mgPut
  split
  · exact .inl rfl
  · split
    · exact .inr ⟨_, rfl⟩
    · split
      · split
        · exact .inr ⟨_, rfl⟩
        · exact .inl rfl
      · exact .inl rfl

@[simp] theorem State.mgPut_spine (s : State) (code n : Nat) (bytes : List Byte) {apply : List Byte → State → State}
    (h : ∀ b u, (apply b u).spine = u.spine) : (s.mgPut code n bytes apply).spine = s.spine := by
  rcases s.mgPut_cases code n bytes apply with hs | ⟨b, hb⟩
  · exact hs
  · rw [hb, h]

/-- A transfer to a register changes nothing that the invariant reads, or has the effect that the register gives a write or a read. -/
theorem State.mgAccess_cases (s : State) (code : Nat) (x : MgTransfer) (get : Option (State → List Byte × State))
    (put : Option (Nat × (List Byte → State → State))) :
    (s.mgAccess code x get put).spine = s.spine ∨ (∃ g, get = some g ∧ (s.mgAccess code x get put).spine = (g s.mgSeen).2.spine) ∨
      ∃ p b, put = some p ∧ s.mgAccess code x get put = p.2 b s.mgSeen := by
  unfold State.mgAccess
  split
  · exact .inl rfl
  · dsimp only
    split
    · exact .inr (.inl ⟨_, rfl, by simp⟩)
    · rename_i l p
      rcases s.mgSeen.mgPut_cases code p.1 l p.2 with h | ⟨b, h⟩
      · exact .inl (h.trans (mgSeen_spine s))
      · exact .inr (.inr ⟨p, b, rfl, h⟩)
    · exact .inl (by simp)

@[simp] theorem State.mgAccess_spine (s : State) (code : Nat) (x : MgTransfer) {get : Option (State → List Byte × State)}
    {put : Option (Nat × (List Byte → State → State))} (hg : ∀ g ∈ get, ∀ u, (g u).2.spine = u.spine)
    (hp : ∀ p ∈ put, ∀ b u, (p.2 b u).spine = u.spine) : (s.mgAccess code x get put).spine = s.spine := by
  rcases s.mgAccess_cases code x get put with h | ⟨g, rfl, h⟩ | ⟨p, b, rfl, h⟩
  · exact h
  · rw [h, hg g rfl, mgSeen_spine]
  · rw [h, hp p rfl, mgSeen_spine]

theorem mgGet_spine (f : State → List Byte) : ∀ g ∈ mgGet f, ∀ u, (g u).2.spine = u.spine := by rintro _ ⟨⟩ _; rfl

theorem mgAccess_keeps {s : State} {code : Nat} {x : MgTransfer} {get : Option (State → List Byte × State)}
    {put : Option (Nat × (List Byte → State → State))} (hg : ∀ g ∈ get, ∀ u, (g u).2.spine = u.spine)
    (hp : ∀ p ∈ put, ∀ b u, (p.2 b u).spine = u.spine) : KeepsSpine s (.next (s.mgAccess code x get put)) :=
  (keepsSpine_next ..).2 (s.mgAccess_spine code x hg hp)

@[simp] theorem mgTake_spine (ok : Nat → Bool) {f : Nat → State → State} (h : ∀ v u, (f v u).spine = u.spine) (l : List Byte) (s : State) :
    (mgTake ok f l s).spine = s.spine := by unfold mgTake; split <;> simp [h]

/-- A register that is read alone. -/
theorem mgRead_keeps {s : State} {code : Nat} {x : MgTransfer} {get : Option (State → List Byte × State)}
    (hg : ∀ g ∈ get, ∀ u, (g u).2.spine = u.spine) : KeepsSpine s (.next (s.mgAccess code x get none)) := mgAccess_keeps hg (by simp)

/-- A register that takes a value. -/
theorem mgWrite_keeps {s : State} {code n : Nat} {x : MgTransfer} {get : Option (State → List Byte × State)} {ok : Nat → Bool}
    {f : Nat → State → State} (hg : ∀ g ∈ get, ∀ u, (g u).2.spine = u.spine) (hf : ∀ v u, (f v u).spine = u.spine) :
    KeepsSpine s (.next (s.mgAccess code x get (some (n, mgTake ok f)))) :=
  mgAccess_keeps hg (by rintro _ ⟨⟩ b u; exact mgTake_spine ok hf b u)

@[simp] theorem State.alertCheck_spine (s : State) : s.alertCheck.spine = s.spine := by simp [State.alertCheck]
@[simp] theorem State.healthRead_spine (s : State) : s.healthRead.spine = s.spine := by simp [State.healthRead]

@[simp] theorem State.cgRecord_spine (s : State) (cls typ b data : Nat) : (s.cgRecord cls typ b data).spine = s.spine := by
  simp [State.cgRecord]

@[simp] theorem State.notifyFailed_spine (s : State) : s.notifyFailed.spine = s.spine := by
  simp only [State.notifyFailed]; split <;> simp

@[simp] theorem State.notifyTry_spine (s : State) (n : Nat) (x : NotifyEnd) : (s.notifyTry n x).spine = s.spine := by
  unfold State.notifyTry; split <;> simp

@[simp] theorem State.setBus_spine (s : State) (b : Nat) (x : CgBus) : (s.setBus b x).spine = s.spine := rfl
@[simp] theorem State.xferEnds_spine (s : State) (b st : Nat) : (s.xferEnds b st).spine = s.spine := by simp [State.xferEnds]
@[simp] theorem State.xferGo_spine (s : State) : s.xferGo.spine = s.spine := by simp [State.xferGo]
@[simp] theorem State.cycleBus_spine (s : State) (b : Nat) (byCg : Bool) : (s.cycleBus b byCg).spine = s.spine := by simp [State.cycleBus]
@[simp] theorem State.hangCycle_spine (s : State) (b : Nat) : (s.hangCycle b).spine = s.spine := by simp [State.hangCycle]

@[simp] theorem State.cycleEnds_spine (s : State) (b : Nat) (byCg idle : Bool) : (s.cycleEnds b byCg idle).spine = s.spine := by
  simp [State.cycleEnds]

@[simp] theorem State.cgStart_spine (s : State) (l : List Byte) : (s.cgStart l).spine = s.spine := by simp [State.cgStart]

/-! ### The registers of the management target and the module buses (18) -/

@[simp] theorem execIdentity_keeps (t : Nat) (x : MgTransfer) (s : State) : KeepsSpine (s.elapse t) (execIdentity t x s) :=
  mgRead_keeps (mgGet_spine _)

@[simp] theorem execMgStatus_keeps (t : Nat) (x : MgTransfer) (s : State) : KeepsSpine (s.elapse t) (execMgStatus t x s) :=
  mgRead_keeps (by rintro _ ⟨⟩ _; rfl)

@[simp] theorem execTime_keeps (t : Nat) (x : MgTransfer) (s : State) : KeepsSpine (s.elapse t) (execTime t x s) := mgRead_keeps (mgGet_spine _)

@[simp] theorem execTemp_keeps (t : Nat) (x : MgTransfer) (v : BitVec 16) (s : State) : KeepsSpine (s.elapse t) (execTemp t x v s) :=
  mgRead_keeps (mgGet_spine _)

@[simp] theorem execFatalCount_keeps (t : Nat) (x : MgTransfer) (s : State) : KeepsSpine (s.elapse t) (execFatalCount t x s) :=
  mgRead_keeps (mgGet_spine _)

@[simp] theorem execFatalIndex_keeps (t : Nat) (x : MgTransfer) (s : State) : KeepsSpine (s.elapse t) (execFatalIndex t x s) :=
  mgWrite_keeps (mgGet_spine _) (fun _ _ => rfl)

@[simp] theorem execFatalSlot_keeps (t : Nat) (x : MgTransfer) (s : State) : KeepsSpine (s.elapse t) (execFatalSlot t x s) :=
  mgRead_keeps (by rintro _ ⟨⟩ _; rfl)

@[simp] theorem execPoolIndex_keeps (t : Nat) (x : MgTransfer) (s : State) : KeepsSpine (s.elapse t) (execPoolIndex t x s) :=
  mgWrite_keeps (mgGet_spine _) (fun _ _ => rfl)

@[simp] theorem execPool_keeps (t : Nat) (x : MgTransfer) (s : State) : KeepsSpine (s.elapse t) (execPool t x s) := mgRead_keeps (mgGet_spine _)

@[simp] theorem execAlertStatus_keeps (t : Nat) (x : MgTransfer) (s : State) : KeepsSpine (s.elapse t) (execAlertStatus t x s) :=
  mgWrite_keeps (mgGet_spine _) (fun _ _ => by simp)

@[simp] theorem execAlertMask_keeps (t : Nat) (x : MgTransfer) (s : State) : KeepsSpine (s.elapse t) (execAlertMask t x s) :=
  mgWrite_keeps (mgGet_spine _) (fun _ _ => by simp)

@[simp] theorem execNotifyConfig_keeps (t : Nat) (x : MgTransfer) (s : State) : KeepsSpine (s.elapse t) (execNotifyConfig t x s) :=
  mgWrite_keeps (mgGet_spine _) (fun _ _ => rfl)

@[simp] theorem execThermLimit_keeps (t : Nat) (x : MgTransfer) (s : State) : KeepsSpine (s.elapse t) (execThermLimit t x s) :=
  mgWrite_keeps (mgGet_spine _) (fun _ _ => by simp)

@[simp] theorem execAlertResponse_keeps (t : Nat) (won : Bool) (s : State) : KeepsSpine (s.elapse t) (execAlertResponse t won s) := by
  simp [execAlertResponse]

@[simp] theorem execHostNotify_keeps (t : Nat) (x : NotifyEnd) (s : State) : KeepsSpine (s.elapse t) (execHostNotify t x s) := by
  simp only [execHostNotify]
  repeat' split
  all_goals simp

@[simp] theorem execHostNotifyRetry_keeps (t : Nat) (x : NotifyEnd) (s : State) : KeepsSpine (s.elapse t) (execHostNotifyRetry t x s) := by
  simp only [execHostNotifyRetry]; split <;> simp

@[simp] theorem execThermal_keeps (t : Nat) (v : BitVec 16) (s : State) : KeepsSpine (s.elapse t) (execThermal t v s) := by simp [execThermal]

@[simp] theorem execCgXfer_keeps (t : Nat) (x : MgTransfer) (s : State) : KeepsSpine (s.elapse t) (execCgXfer t x s) := by
  simp only [execCgXfer]
  repeat' split
  all_goals simp

@[simp] theorem execCgResult_keeps (t : Nat) (x : MgTransfer) (s : State) : KeepsSpine (s.elapse t) (execCgResult t x s) :=
  mgRead_keeps (mgGet_spine _)

@[simp] theorem execCgCycle_keeps (t : Nat) (x : MgTransfer) (s : State) : KeepsSpine (s.elapse t) (execCgCycle t x s) :=
  mgWrite_keeps (by simp) (fun _ _ => by simp)

@[simp] theorem execCgCycleMs_keeps (t : Nat) (x : MgTransfer) (s : State) : KeepsSpine (s.elapse t) (execCgCycleMs t x s) :=
  mgWrite_keeps (mgGet_spine _) (fun _ _ => rfl)

@[simp] theorem execCgXferComplete_keeps (t : Nat) (x : CgEnd) (s : State) : KeepsSpine (s.elapse t) (execCgXferComplete t x s) := by
  unfold execCgXferComplete; split <;> simp

@[simp] theorem execCgArbitrationRetry_keeps (t : Nat) (s : State) : KeepsSpine (s.elapse t) (execCgArbitrationRetry t s) := by
  simp only [execCgArbitrationRetry]
  repeat' split
  all_goals simp

@[simp] theorem execCgHang_keeps (t : Nat) (sclLow : Bool) (data : List Byte) (s : State) :
    KeepsSpine (s.elapse t) (execCgHang t sclLow data s) := by simp [execCgHang]

@[simp] theorem execCgRecovery_keeps (t : Nat) (b : Fin 17) (freed : Bool) (s : State) :
    KeepsSpine (s.elapse t) (execCgRecovery t b freed s) := by
  simp only [execCgRecovery]
  repeat' split
  all_goals simp

@[simp] theorem execModuleCycled_keeps (t : Nat) (b : Fin 17) (idle : Bool) (s : State) :
    KeepsSpine (s.elapse t) (execModuleCycled t b idle s) := by
  simp only [execModuleCycled]; split <;> simp

@[simp] theorem execGuardArm_keeps (t : Nat) (x : MgTransfer) (s : State) : KeepsSpine (s.elapse t) (execGuardArm t x s) :=
  mgWrite_keeps (by simp) (fun _ _ => rfl)

@[simp] theorem execGuardArmExpiry_keeps (t : Nat) (s : State) : KeepsSpine (s.elapse t) (execGuardArmExpiry t s) := by
  simp only [execGuardArmExpiry]; split <;> simp

@[simp] theorem execMgUndefinedCommand_keeps (t : Nat) (code : Byte) (s : State) :
    KeepsSpine (s.elapse t) (execMgUndefinedCommand t code s) := by simp [execMgUndefinedCommand]

@[simp] theorem execMgTimeout_keeps (t : Nat) (s : State) : KeepsSpine (s.elapse t) (execMgTimeout t s) := by simp [execMgTimeout]

@[simp] theorem execKeepAddressWake_keeps (t : Nat) (s : State) : KeepsSpine (s.elapse t) (execKeepAddressWake t s) := by
  simp [execKeepAddressWake]

@[simp] theorem execKeepClockStop_keeps (t : Nat) (s : State) : KeepsSpine (s.elapse t) (execKeepClockStop t s) := by simp [execKeepClockStop]

@[simp] theorem execMgHung_keeps (t : Nat) (sda scl : Bool) (s : State) : KeepsSpine (s.elapse t) (execMgHung t sda scl s) := by
  simp only [execMgHung]
  repeat' split
  all_goals simp

/-! ### RECORD_CONFIG (16 R561 to R563) -/

@[simp] theorem recordAreaEffect_spine (c : RingCmd) (s : State) : (recordAreaEffect c s).1.spine = s.spine := rfl

@[simp] theorem execRecordArea_keeps (t : Nat) (c : RingCmd) (s : State) : KeepsSpine (s.elapse t) (execRecordArea t c s) :=
  command_keeps (recordAreaEffect_spine c)

@[simp] theorem recordStartEffect_spine (c : RingCmd) (s : State) : (recordStartEffect c s).1.spine = s.spine := by simp [recordStartEffect]

@[simp] theorem execRecordStart_keeps (t : Nat) (c : RingCmd) (s : State) : KeepsSpine (s.elapse t) (execRecordStart t c s) :=
  command_keeps (recordStartEffect_spine c)

@[simp] theorem recordStopEffect_spine (c : RingCmd) (s : State) : (recordStopEffect c s).1.spine = s.spine := by
  simp only [recordStopEffect]; split <;> simp

@[simp] theorem execRecordStop_keeps (t : Nat) (c : RingCmd) (s : State) : KeepsSpine (s.elapse t) (execRecordStop t c s) :=
  command_keeps (recordStopEffect_spine c)

@[simp] theorem recordExportEffect_spine (c : RingCmd) (s : State) : (recordExportEffect c s).1.spine = s.spine := by
  simp [recordExportEffect]

@[simp] theorem execRecordExport_keeps (t : Nat) (c : RingCmd) (s : State) : KeepsSpine (s.elapse t) (execRecordExport t c s) :=
  command_keeps (recordExportEffect_spine c)

@[simp] theorem recordStatusEffect_spine (c : RingCmd) (s : State) : (recordStatusEffect c s).1.spine = s.spine := by
  simp [recordStatusEffect]

@[simp] theorem execRecordStatus_keeps (t : Nat) (c : RingCmd) (s : State) : KeepsSpine (s.elapse t) (execRecordStatus t c s) :=
  command_keeps (recordStatusEffect_spine c)

/-! ### Lanes in Ethernet mode (04 R168 to R180) -/

@[simp] theorem State.gvspShow_spine (s : State) (l k dt wc : Nat) (payload : List Byte) :
    (s.gvspShow l k dt wc payload).spine = s.spine := by simp [State.gvspShow]

@[simp] theorem State.gvspPacket_spine (s : State) (l k : Nat) (p : List Byte) : (s.gvspPacket l k p).spine = s.spine := by
  simp [State.gvspPacket]

@[simp] theorem State.toPacketRing_spine (s : State) (l : Nat) (b : List Byte) : (s.toPacketRing l b).spine = s.spine := by
  simp [State.toPacketRing]

@[simp] theorem State.flushSends_spine (s : State) (l : Nat) : (s.flushSends l).spine = s.spine := by simp [State.flushSends]

@[simp] theorem packetSendEffect_spine (c : RingCmd) (s : State) : (packetSendEffect c s).1.spine = s.spine := by
  simp only [packetSendEffect]; split <;> simp

@[simp] theorem execLanePacketSend_keeps (t : Nat) (c : RingCmd) (s : State) : KeepsSpine (s.elapse t) (execLanePacketSend t c s) := by
  have h : KeepsSpine (s.elapse t) ((s.elapse t).command c 0x32 (packetSendChecks c) (packetSendEffect c)) :=
  command_keeps (packetSendEffect_spine c)
  unfold execLanePacketSend
  split
  · rename_i u hu; simp [h u hu]
  · exact h

@[simp] theorem execPcsAlignmentLock_keeps (t : Nat) (l : Fin 128) (s : State) : KeepsSpine (s.elapse t) (execPcsAlignmentLock t l s) := by
  simp [execPcsAlignmentLock]

@[simp] theorem execPcsAlignmentLoss_keeps (t : Nat) (l : Fin 128) (s : State) : KeepsSpine (s.elapse t) (execPcsAlignmentLoss t l s) := by
  simp [execPcsAlignmentLoss]

@[simp] theorem execEthernetRetrainTimeout_keeps (t : Nat) (l : Fin 128) (s : State) :
    KeepsSpine (s.elapse t) (execEthernetRetrainTimeout t l s) := by simp [execEthernetRetrainTimeout]

@[simp] theorem execRateSwitch_keeps (t : Nat) (l : Fin 128) (s : State) : KeepsSpine (s.elapse t) (execRateSwitch t l s) := by
  simp only [execRateSwitch]; split <;> simp

@[simp] theorem execSynthesiserLock_keeps (t : Nat) (l : Fin 128) (s : State) : KeepsSpine (s.elapse t) (execSynthesiserLock t l s) := by
  simp only [execSynthesiserLock]; split <;> simp

@[simp] theorem execDownlinkReady_keeps (t : Nat) (l : Fin 128) (s : State) : KeepsSpine (s.elapse t) (execDownlinkReady t l s) := by
  simp only [execDownlinkReady]; split <;> simp

@[simp] theorem execBackgroundRecalibration_keeps (t : Nat) (l : Fin 128) (s : State) :
    KeepsSpine (s.elapse t) (execBackgroundRecalibration t l s) := by simp [execBackgroundRecalibration]

@[simp] theorem execRecalDeferred_keeps (t : Nat) (l : Fin 128) (s : State) : KeepsSpine (s.elapse t) (execRecalDeferred t l s) := by
  simp only [execRecalDeferred]; split <;> simp

@[simp] theorem State.laneConfig_spine (s : State) (c : RingCmd) : (s.laneConfig c).spine = s.spine := by simp [State.laneConfig]
@[simp] theorem laneConfigEffect_spine (c : RingCmd) (s : State) : (laneConfigEffect c s).1.spine = s.spine := by simp [laneConfigEffect]

@[simp] theorem execLaneConfig_keeps (t : Nat) (c : RingCmd) (s : State) : KeepsSpine (s.elapse t) (execLaneConfig t c s) :=
  command_keeps (laneConfigEffect_spine c)

/-! ### A replay session (16 R564 to R571) -/

@[simp] theorem State.modSession_spine (s : State) (f : Session → Session) : (s.modSession f).spine = s.spine := rfl

@[simp] theorem State.modCap_spine (s : State) (k : Nat) (f : ReplayCap → ReplayCap) : (s.modCap k f).spine = s.spine := by
  simp [State.modCap]

@[simp] theorem State.replayState_spine (s : State) (k code reason : Nat) : (s.replayState k code reason).spine = s.spine := by
  simp [State.replayState]

@[simp] theorem State.mismatch_spine (s : State) (k : Option Nat) (row at_ : Nat) : (s.mismatch k row at_).spine = s.spine := by
  simp [State.mismatch]

@[simp] theorem State.replayDiscard_spine (s : State) (k : Nat) : (s.replayDiscard k).spine = s.spine := by
  unfold State.replayDiscard; split <;> simp

@[simp] theorem State.sessionEnd_spine (s : State) (reason : Nat) : (s.sessionEnd reason).spine = s.spine := by
  simp only [State.sessionEnd]
  repeat' split
  all_goals simp

@[simp] theorem State.keepDerived_spine (s : State) (k : Nat) (t : State) : (s.keepDerived k t).spine = s.spine := by
  simp [State.keepDerived]

@[simp] theorem State.replayTo_spine (s : State) (k at_ : Nat) : (s.replayTo k at_).spine = s.spine := by
  unfold State.replayTo; split <;> simp

@[simp] theorem State.withPositions_spine (s : State) (k : Nat) {f : State → State} (h : ∀ u, (f u).spine = u.spine) :
    (s.withPositions k f).spine = s.spine := by simp [State.withPositions, h]

@[simp] theorem State.replayFetch_spine (s : State) (f : ReplayFetch) : (s.replayFetch f).spine = s.spine := by
  simp only [State.replayFetch]
  repeat' split
  all_goals simp

@[simp] theorem State.loadParams_spine (s : State) (k : Nat) (body : List Byte) : (s.loadParams k body).spine = s.spine := by
  simp [State.loadParams]

@[simp] theorem State.loadLantern_spine (s : State) (k tap : Nat) (b : List Byte) : (s.loadLantern k tap b).spine = s.spine := by
  unfold State.loadLantern; split <;> simp

@[simp] theorem State.loadStore_spine (s : State) (k tap : Nat) (b : List Byte) : (s.loadStore k tap b).spine = s.spine := by
  unfold State.loadStore; split <;> simp

@[simp] theorem State.loadSeed_spine (s : State) (k e at_ : Nat) (b : List Byte) : (s.loadSeed k e at_ b).spine = s.spine := by
  simp [State.loadSeed]

@[simp] theorem State.loadTargets_spine (s : State) (k n g : Nat) (b : List Byte) : (s.loadTargets k n g b).spine = s.spine := by
  induction n generalizing s g b with
  | zero => rfl
  | succ n ih =>
    simp only [State.loadTargets]
    repeat' split
    all_goals simp [ih]

@[simp] theorem State.loadPart_spine (s : State) (k : Nat) (i : CapItem) : (s.loadPart k i).spine = s.spine := by simp [State.loadPart]
@[simp] theorem State.loadSnapshot_spine (s : State) (c : ReplayCap) : (s.loadSnapshot c).spine = s.spine := by simp [State.loadSnapshot]

@[simp] theorem State.replayLoad_spine (s : State) : s.replayLoad.spine = s.spine := by
  simp only [State.replayLoad]
  repeat' split
  all_goals simp

/-! ### REPLAY_CONTROL and the decisions of a session (16) -/

@[simp] theorem State.recordedCommand_spine (s : State) (seq at_ : Nat) (bytes : List Byte) :
    (s.recordedCommand seq at_ bytes).spine = s.spine := by
  simp only [State.recordedCommand]
  repeat' split
  all_goals simp

@[simp] theorem State.passApply_spine (s : State) (r : JRec) : (s.passApply r).spine = s.spine := by
  simp only [State.passApply]
  split
  · refine foldl_spine (fun t k => ?_) ..
    repeat' split
    all_goals simp
  · repeat' split
    all_goals simp
  · rfl

@[simp] theorem State.passClose_spine (s : State) (r : JRec) : (s.passClose r).spine = s.spine := by
  simp only [State.passClose]; split <;> simp

@[simp] theorem State.passObserver_spine (s : State) (r : JRec) : (s.passObserver r).spine = s.spine := by simp [State.passObserver]
@[simp] theorem State.passJump_spine (s : State) (r : JRec) : (s.passJump r).spine = s.spine := by simp [State.passJump]

@[simp] theorem State.passArm_spine (s : State) (r : JRec) : (s.passArm r).spine = s.spine := by
  simp only [State.passArm]
  repeat' split
  all_goals simp

@[simp] theorem State.passCompare_spine (s : State) (r : JRec) : (s.passCompare r).spine = s.spine := by
  simp only [State.passCompare]; split <;> simp

@[simp] theorem State.replayQueue_spine (s : State) (k g f flags : Nat) : (s.replayQueue k g f flags).spine = s.spine := by
  simp [State.replayQueue]

@[simp] theorem State.passFire_spine (s : State) (r : JRec) : (s.passFire r).spine = s.spine := by
  simp only [State.passFire]; split <;> simp

@[simp] theorem State.passFabric_spine (s : State) (r : JRec) : (s.passFabric r).spine = s.spine := by simp [State.passFabric]

@[simp] theorem State.passRec_spine (s : State) (r : JRec) : (s.passRec r).spine = s.spine := by
  unfold State.passRec
  repeat' split
  all_goals simp

@[simp] theorem State.passTo_spine (s : State) (at_ : Nat) : (s.passTo at_).spine = s.spine := by simp [State.passTo]

@[simp] theorem State.missedTimeout_spine (s : State) (k at_ : Nat) : (s.missedTimeout k at_).spine = s.spine := by
  unfold State.missedTimeout; split <;> simp

@[simp] theorem State.missedSets_spine (s : State) (k : Nat) (f : Frame) : (s.missedSets k f).spine = s.spine := by simp [State.missedSets]

@[simp] theorem State.presentPacket_spine (s : State) (k : Nat) (i : CapItem) : (s.presentPacket k i).spine = s.spine := by
  simp only [State.presentPacket]; split <;> simp

@[simp] theorem State.presentImage_spine (s : State) (i : CapItem) : (s.presentImage i).spine = s.spine := by
  simp only [State.presentImage]
  repeat' split
  all_goals simp

@[simp] theorem State.present_spine (s : State) (k : Nat) : (s.present k).spine = s.spine := by
  unfold State.present
  repeat' split
  all_goals simp

@[simp] theorem State.endGaps_spine (s : State) : s.endGaps.spine = s.spine := by simp [State.endGaps]

@[simp] theorem State.replayStep_spine (s0 : State) : s0.replayStep.spine = s0.spine := by
  simp only [State.replayStep]
  repeat' split
  all_goals simp

@[simp] theorem State.replayResume_spine (s : State) : s.replayResume.spine = s.spine := by simp [State.replayResume]

@[simp] theorem execReplayItemPresent_keeps (t : Nat) (f : List ReplayFetch) (s : State) :
    KeepsSpine (s.elapse t) (execReplayItemPresent t f s) := by simp [execReplayItemPresent]

@[simp] theorem replayAddEffect_spine (c : RingCmd) (s : State) : (replayAddEffect c s).1.spine = s.spine := by simp [replayAddEffect]

@[simp] theorem execReplayAdd_keeps (t : Nat) (c : RingCmd) (s : State) : KeepsSpine (s.elapse t) (execReplayAdd t c s) :=
  command_keeps (replayAddEffect_spine c)

@[simp] theorem State.replayStart_spine (s : State) (p : Nat) (e : Entry) : (s.replayStart p e).spine = s.spine := by
  simp [State.replayStart]

@[simp] theorem replayStartEffect_spine (c : RingCmd) (s : State) : (replayStartEffect c s).1.spine = s.spine := by simp [replayStartEffect]

@[simp] theorem execReplayStart_keeps (t : Nat) (c : RingCmd) (s : State) : KeepsSpine (s.elapse t) (execReplayStart t c s) :=
  command_keeps (replayStartEffect_spine c)

@[simp] theorem replayPauseEffect_spine (x0 : RingCmd) (s : State) : (replayPauseEffect x0 s).1.spine = s.spine := by
  simp only [replayPauseEffect]
  repeat' split
  all_goals simp

@[simp] theorem execReplayPause_keeps (t : Nat) (c : RingCmd) (s : State) : KeepsSpine (s.elapse t) (execReplayPause t c s) :=
  command_keeps (replayPauseEffect_spine c)

@[simp] theorem replayResumeEffect_spine (x0 : RingCmd) (s : State) : (replayResumeEffect x0 s).1.spine = s.spine := by
  unfold replayResumeEffect; split <;> simp

@[simp] theorem execReplayResume_keeps (t : Nat) (c : RingCmd) (s : State) : KeepsSpine (s.elapse t) (execReplayResume t c s) :=
  command_keeps (replayResumeEffect_spine c)

@[simp] theorem replayEndEffect_spine (x0 : RingCmd) (s : State) : (replayEndEffect x0 s).1.spine = s.spine := by simp [replayEndEffect]

@[simp] theorem execReplayEnd_keeps (t : Nat) (c : RingCmd) (s : State) : KeepsSpine (s.elapse t) (execReplayEnd t c s) :=
  command_keeps (replayEndEffect_spine c)

/-! ### COMMAND_COMPLETION (03 R105, R111) -/

@[simp] theorem State.completes_spine (s : State) (rid : Nat) (w : Waiting) : (s.completes rid w).spine = s.spine := by
  simp only [State.completes]
  repeat' split
  all_goals simp

@[simp] theorem execCommandCompletion_keeps (t : Nat) (r : RingRef) (f : List ReplayFetch) (s : State) :
    KeepsSpine (s.elapse t) (execCommandCompletion t r f s) := by
  simp only [execCommandCompletion]; split <;> simp

/-! ### Streams and outputs as the mode changes (17 R576, R577) -/

@[simp] theorem State.cancelStart_spine (s : State) (n : Nat) : (s.cancelStart n).spine = s.spine := by simp [State.cancelStart]
@[simp] theorem State.stopStreams_spine (s : State) (seq : Nat) : (s.stopStreams seq).spine = s.spine := by simp [State.stopStreams]
@[simp] theorem State.relane_spine (s : State) (l : Nat) (st : LaneState) : (s.relane l st).spine = s.spine := by simp [State.relane]
@[simp] theorem State.lanesOff_spine (s : State) : s.lanesOff.spine = s.spine := by simp [State.lanesOff]
@[simp] theorem State.lamplighterOff_spine (s : State) : s.lamplighterOff.spine = s.spine := by simp [State.lamplighterOff]
@[simp] theorem State.lamplighterOn_spine (s : State) : s.lamplighterOn.spine = s.spine := by simp [State.lamplighterOn]
@[simp] theorem State.modeEffects_spine (s : State) (a b : Mode) : (s.modeEffects a b).spine = s.spine := by simp [State.modeEffects]
@[simp] theorem State.snuffStop_spine (s : State) (n : Nat) : (s.snuffStop n).spine = s.spine := by simp [State.snuffStop]

@[simp] theorem execModeSetStreamSnuff_keeps (t : Nat) (s : State) : KeepsSpine (s.elapse t) (execModeSetStreamSnuff t s) := by
  simp only [execModeSetStreamSnuff]; split <;> simp

/-! ### Diagnose mode (20 R654 to R663) -/

@[simp] theorem State.diagLane_spine (s : State) (test l : Nat) : (s.diagLane test l).spine = s.spine := by simp [State.diagLane]
@[simp] theorem State.diagFrames_spine (s : State) : s.diagFrames.spine = s.spine := by simp [State.diagFrames]
@[simp] theorem State.diagRun_spine (s : State) (test : Nat) (c : RingCmd) : (s.diagRun test c).1.spine = s.spine := by simp [State.diagRun]

@[simp] theorem State.diagCommand_keeps (s : State) (test : Nat) (c : RingCmd) : KeepsSpine s (s.diagCommand test c) :=
  command_keeps (fun v => v.diagRun_spine test c)

@[simp] theorem execNearLoop_keeps (t : Nat) (c : RingCmd) (s : State) : KeepsSpine (s.elapse t) (execNearLoop t c s) := by simp [execNearLoop]
@[simp] theorem execFarLoop_keeps (t : Nat) (c : RingCmd) (s : State) : KeepsSpine (s.elapse t) (execFarLoop t c s) := by simp [execFarLoop]
@[simp] theorem execPattern_keeps (t : Nat) (c : RingCmd) (s : State) : KeepsSpine (s.elapse t) (execPattern t c s) := by simp [execPattern]
@[simp] theorem execEyeScan_keeps (t : Nat) (c : RingCmd) (s : State) : KeepsSpine (s.elapse t) (execEyeScan t c s) := by simp [execEyeScan]
@[simp] theorem execHbmTest_keeps (t : Nat) (c : RingCmd) (s : State) : KeepsSpine (s.elapse t) (execHbmTest t c s) := by simp [execHbmTest]

@[simp] theorem execSliceSelfTest_keeps (t : Nat) (c : RingCmd) (s : State) : KeepsSpine (s.elapse t) (execSliceSelfTest t c s) := by
  simp [execSliceSelfTest]

@[simp] theorem execLanternSelfTest_keeps (t : Nat) (c : RingCmd) (s : State) : KeepsSpine (s.elapse t) (execLanternSelfTest t c s) := by
  simp [execLanternSelfTest]

@[simp] theorem execEncoderSelfTest_keeps (t : Nat) (c : RingCmd) (s : State) : KeepsSpine (s.elapse t) (execEncoderSelfTest t c s) := by
  simp [execEncoderSelfTest]

@[simp] theorem State.diagEnd_spine (s : State) (q : DiagTest) (r : TestReport) : (s.diagEnd q r).spine = s.spine := by simp [State.diagEnd]

@[simp] theorem State.hbmRepair_spine (a : State × List (Nat × Nat)) (x : Nat × Nat) : (State.hbmRepair a x).1.spine = a.1.spine := by
  unfold State.hbmRepair; split <;> simp

@[simp] theorem State.diagFails_spine (s : State) (pool k : Nat) : (s.diagFails pool k).spine = s.spine := by
  simp only [State.diagFails]; split <;> simp

@[simp] theorem execDiagTestEnd_keeps (t id : Nat) (r : TestResult) (s : State) : KeepsSpine (s.elapse t) (execDiagTestEnd t id r s) := by
  simp only [execDiagTestEnd]; split <;> simp

@[simp] theorem abortEffect_spine (c : RingCmd) (s : State) : (abortEffect c s).1.spine = s.spine := by
  simp only [abortEffect]; split <;> simp

@[simp] theorem execAbort_keeps (t : Nat) (c : RingCmd) (s : State) : KeepsSpine (s.elapse t) (execAbort t c s) :=
  command_keeps (abortEffect_spine c)

/-! ### How an instruction issues and retires (09) -/

@[simp] theorem State.retire_spine (s : State) (n : Nat) (pc : ℤ) (jumped : Bool) : (s.retire n pc jumped).spine = s.spine := by
  simp [State.retire]

/-- What the invariant reads of the state that an instruction issued at s leads to. -/
def Issue.spine (s : State) : Issue → Spine
  | .next t | .jump t _ | .back t | .group t _ | .fin t | .waits t => t.spine
  | .trap _ | .stall => s.spine

section
variable (s u : State)
@[simp] theorem Issue.spine_next : (Issue.next u).spine s = u.spine := rfl
@[simp] theorem Issue.spine_jump (pc : Int) : (Issue.jump u pc).spine s = u.spine := rfl
@[simp] theorem Issue.spine_back : (Issue.back u).spine s = u.spine := rfl
@[simp] theorem Issue.spine_group (last : Bool) : (Issue.group u last).spine s = u.spine := rfl
@[simp] theorem Issue.spine_fin : (Issue.fin u).spine s = u.spine := rfl
@[simp] theorem Issue.spine_waits : (Issue.waits u).spine s = u.spine := rfl
@[simp] theorem Issue.spine_trap (cause : Nat) : (Issue.trap cause).spine s = s.spine := rfl
@[simp] theorem Issue.spine_stall : Issue.stall.spine s = s.spine := rfl
end

@[simp] theorem Issue.spine_ite (s : State) (c : Prop) [Decidable c] (i j : Issue) :
    (if c then i else j).spine s = if c then i.spine s else j.spine s := by split <;> rfl

/-- What an instruction does beside its own effect touches its Lantern alone. -/
@[simp] theorem State.isa_spine (s : State) (n : Nat) (w : Word) (mine : Nat → Bool) {f : State → Lantern → Nat → Issue}
    (h : ∀ u x v, (f u x v).spine u = u.spine) : (s.isa n w mine f).spine = s.spine := by
  unfold State.isa
  dsimp only
  split
  · simp
  · split
    · generalize hs : (s.settled n).modLantern n (fun x => { x with waiting := none }) = u
      have hu : u.spine = s.spine := by rw [← hs]; simp
      have hf := h u (u.lantern n) w.toNat
      split <;> rename_i hi <;> rw [hi] at hf <;> simp at hf <;> simp [hf, hu]
    · simp

theorem isa_keeps {s : State} {n : Nat} {w : Word} {mine : Nat → Bool} {f : State → Lantern → Nat → Issue}
    (h : ∀ u x v, (f u x v).spine u = u.spine) : KeepsSpine s (.next (s.isa n w mine f)) :=
  (keepsSpine_next ..).2 (s.isa_spine n w mine h)

@[simp] theorem State.sop_spine (s : State) (n : Nat) (w : Word) (minor : Nat) (g : Nat → Nat → Nat) :
    (s.sop n w minor g).spine = s.spine := isa_spine _ _ _ _ (fun _ _ _ => rfl)

@[simp] theorem State.sopImm_spine (s : State) (n : Nat) (w : Word) (major : Nat) (g : Nat → Nat → Nat) :
    (s.sopImm n w major g).spine = s.spine := isa_spine _ _ _ _ (fun _ _ _ => rfl)

@[simp] theorem State.load_spine (s : State) (n : Nat) (w : Word) (major m : Nat) (g : Nat → Nat) :
    (s.load n w major m g).spine = s.spine := by
  refine isa_spine _ _ _ _ (fun u x v => ?_)
  dsimp only
  repeat' split
  all_goals simp

@[simp] theorem State.store_spine (s : State) (n : Nat) (w : Word) (major m : Nat) : (s.store n w major m).spine = s.spine := by
  refine isa_spine _ _ _ _ (fun u x v => ?_)
  dsimp only
  repeat' split
  all_goals simp

@[simp] theorem State.vload_spine (s : State) (n : Nat) (w : Word) : (s.vload n w).spine = s.spine := by simp [State.vload]
@[simp] theorem State.vstore_spine (s : State) (n : Nat) (w : Word) : (s.vstore n w).spine = s.spine := by simp [State.vstore]

@[simp] theorem State.branch_spine (s : State) (n : Nat) (w : Word) (major : Nat) (c : Nat → Nat → Bool) :
    (s.branch n w major c).spine = s.spine := by simp [State.branch]

@[simp] theorem State.vop_spine (s : State) (n : Nat) (w : Word) (minor : Nat) (g : Nat → Nat → Nat → Nat) :
    (s.vop n w minor g).spine = s.spine := isa_spine _ _ _ _ (fun _ _ _ => rfl)

@[simp] theorem State.vcmp_spine (s : State) (n : Nat) (w : Word) (minor : Nat) (g : Nat → Nat → Nat → Bool) :
    (s.vcmp n w minor g).spine = s.spine := isa_spine _ _ _ _ (fun _ _ _ => rfl)

@[simp] theorem State.pop_spine (s : State) (n : Nat) (w : Word) (minor : Nat) (g : Nat → Nat → Nat) :
    (s.pop n w minor g).spine = s.spine := isa_spine _ _ _ _ (fun _ _ _ => rfl)

@[simp] theorem State.ext_spine (s : State) (n : Nat) (w : Word) (minor : Nat) (plan : State → Lantern → Nat → List Nat → ExtGroup) :
    (s.ext n w minor plan).spine = s.spine := by simp [State.ext]

/-! ### Extended block operations (09 R339 to R341) -/

@[simp] theorem execVblk_keeps (t : Nat) (n : Fin 64) (w : Word) (s : State) : KeepsSpine (s.elapse t) (execVblk t n w s) := by simp [execVblk]
@[simp] theorem execVfir_keeps (t : Nat) (n : Fin 64) (w : Word) (s : State) : KeepsSpine (s.elapse t) (execVfir t n w s) := by simp [execVfir]

@[simp] theorem execVgath_keeps (t : Nat) (n : Fin 64) (w : Word) (s : State) : KeepsSpine (s.elapse t) (execVgath t n w s) := by
  simp [execVgath]

@[simp] theorem execVscan_keeps (t : Nat) (n : Fin 64) (w : Word) (s : State) : KeepsSpine (s.elapse t) (execVscan t n w s) := by
  simp [execVscan]

@[simp] theorem execVhist_keeps (t : Nat) (n : Fin 64) (w : Word) (s : State) : KeepsSpine (s.elapse t) (execVhist t n w s) := by
  simp [execVhist]

@[simp] theorem execVred_keeps (t : Nat) (n : Fin 64) (w : Word) (s : State) : KeepsSpine (s.elapse t) (execVred t n w s) := by simp [execVred]

/-! ### What happens at a Lantern (08) -/

@[simp] theorem execFrameEntry_keeps (t : Nat) (n : Fin 64) (s : State) : KeepsSpine (s.elapse t) (execFrameEntry t n s) := by
  simp only [execFrameEntry]; split <;> simp

@[simp] theorem execLineEntry_keeps (t : Nat) (n : Fin 64) (s : State) : KeepsSpine (s.elapse t) (execLineEntry t n s) := by
  simp only [execLineEntry]; split <;> simp

@[simp] theorem execFrameExit_keeps (t : Nat) (n : Fin 64) (s : State) : KeepsSpine (s.elapse t) (execFrameExit t n s) := by
  simp only [execFrameExit]; split <;> simp

@[simp] theorem execLanternOverrun_keeps (t : Nat) (n : Fin 64) (s : State) : KeepsSpine (s.elapse t) (execLanternOverrun t n s) := by
  simp only [execLanternOverrun]
  repeat' split
  all_goals simp

@[simp] theorem execLanternHoldoffExpiry_keeps (t : Nat) (n : Fin 64) (s : State) :
    KeepsSpine (s.elapse t) (execLanternHoldoffExpiry t n s) := by
  simp only [execLanternHoldoffExpiry]; split <;> simp

@[simp] theorem execGatherDone_keeps (t : Nat) (n : Fin 64) (s : State) : KeepsSpine (s.elapse t) (execGatherDone t n s) := by
  simp only [execGatherDone]; split <;> simp

@[simp] theorem execGo_keeps (t : Nat) (n : Fin 64) (v : Word) (s : State) : KeepsSpine (s.elapse t) (execGo t n v s) := by simp [execGo]

@[simp] theorem execPendingSet_keeps (t : Nat) (n : Fin 64) (w : LanternWrite) (s : State) :
    KeepsSpine (s.elapse t) (execPendingSet t n w s) := by simp [execPendingSet]

@[simp] theorem execPendingClr_keeps (t : Nat) (n : Fin 64) (w : LanternWrite) (s : State) :
    KeepsSpine (s.elapse t) (execPendingClr t n w s) := by simp [execPendingClr]

@[simp] theorem execMaskSet_keeps (t : Nat) (n : Fin 64) (w : LanternWrite) (s : State) : KeepsSpine (s.elapse t) (execMaskSet t n w s) := by
  simp [execMaskSet]

@[simp] theorem execMaskClr_keeps (t : Nat) (n : Fin 64) (w : LanternWrite) (s : State) : KeepsSpine (s.elapse t) (execMaskClr t n w s) := by
  simp [execMaskClr]

@[simp] theorem execClaimNormal_keeps (t : Nat) (n : Fin 64) (s : State) : KeepsSpine (s.elapse t) (execClaimNormal t n s) := by
  simp [execClaimNormal]

@[simp] theorem execClaimFast_keeps (t : Nat) (n : Fin 64) (s : State) : KeepsSpine (s.elapse t) (execClaimFast t n s) := by simp [execClaimFast]

@[simp] theorem execComplete_keeps (t : Nat) (n : Fin 64) (v : Word) (s : State) : KeepsSpine (s.elapse t) (execComplete t n v s) := by
  simp [execComplete]

@[simp] theorem execDoorbell_keeps (t : Nat) (n : Fin 64) (v : Word) (s : State) : KeepsSpine (s.elapse t) (execDoorbell t n v s) := by
  simp [execDoorbell]

@[simp] theorem execCount_keeps (t : Nat) (n : Fin 64) (g : Fin 16) (s : State) : KeepsSpine (s.elapse t) (execCount t n g s) := by
  simp [execCount]

/-! ### Scalar instructions (09 R327 to R332) -/

@[simp] theorem execAdd_keeps (t : Nat) (n : Fin 64) (w : Word) (s : State) : KeepsSpine (s.elapse t) (execAdd t n w s) := by simp [execAdd]
@[simp] theorem execSub_keeps (t : Nat) (n : Fin 64) (w : Word) (s : State) : KeepsSpine (s.elapse t) (execSub t n w s) := by simp [execSub]
@[simp] theorem execAnd_keeps (t : Nat) (n : Fin 64) (w : Word) (s : State) : KeepsSpine (s.elapse t) (execAnd t n w s) := by simp [execAnd]
@[simp] theorem execOr_keeps (t : Nat) (n : Fin 64) (w : Word) (s : State) : KeepsSpine (s.elapse t) (execOr t n w s) := by simp [execOr]
@[simp] theorem execXor_keeps (t : Nat) (n : Fin 64) (w : Word) (s : State) : KeepsSpine (s.elapse t) (execXor t n w s) := by simp [execXor]
@[simp] theorem execSll_keeps (t : Nat) (n : Fin 64) (w : Word) (s : State) : KeepsSpine (s.elapse t) (execSll t n w s) := by simp [execSll]
@[simp] theorem execSrl_keeps (t : Nat) (n : Fin 64) (w : Word) (s : State) : KeepsSpine (s.elapse t) (execSrl t n w s) := by simp [execSrl]
@[simp] theorem execSra_keeps (t : Nat) (n : Fin 64) (w : Word) (s : State) : KeepsSpine (s.elapse t) (execSra t n w s) := by simp [execSra]
@[simp] theorem execSlt_keeps (t : Nat) (n : Fin 64) (w : Word) (s : State) : KeepsSpine (s.elapse t) (execSlt t n w s) := by simp [execSlt]
@[simp] theorem execSltu_keeps (t : Nat) (n : Fin 64) (w : Word) (s : State) : KeepsSpine (s.elapse t) (execSltu t n w s) := by simp [execSltu]
@[simp] theorem execMin_keeps (t : Nat) (n : Fin 64) (w : Word) (s : State) : KeepsSpine (s.elapse t) (execMin t n w s) := by simp [execMin]
@[simp] theorem execMax_keeps (t : Nat) (n : Fin 64) (w : Word) (s : State) : KeepsSpine (s.elapse t) (execMax t n w s) := by simp [execMax]
@[simp] theorem execMinu_keeps (t : Nat) (n : Fin 64) (w : Word) (s : State) : KeepsSpine (s.elapse t) (execMinu t n w s) := by simp [execMinu]
@[simp] theorem execMaxu_keeps (t : Nat) (n : Fin 64) (w : Word) (s : State) : KeepsSpine (s.elapse t) (execMaxu t n w s) := by simp [execMaxu]
@[simp] theorem execMul_keeps (t : Nat) (n : Fin 64) (w : Word) (s : State) : KeepsSpine (s.elapse t) (execMul t n w s) := by simp [execMul]
@[simp] theorem execMulh_keeps (t : Nat) (n : Fin 64) (w : Word) (s : State) : KeepsSpine (s.elapse t) (execMulh t n w s) := by simp [execMulh]

@[simp] theorem execMulhu_keeps (t : Nat) (n : Fin 64) (w : Word) (s : State) : KeepsSpine (s.elapse t) (execMulhu t n w s) := by
  simp [execMulhu]

@[simp] theorem execJalr_keeps (t : Nat) (n : Fin 64) (w : Word) (s : State) : KeepsSpine (s.elapse t) (execJalr t n w s) :=
  isa_keeps (fun _ _ _ => rfl)

@[simp] theorem execAddi_keeps (t : Nat) (n : Fin 64) (w : Word) (s : State) : KeepsSpine (s.elapse t) (execAddi t n w s) := by simp [execAddi]
@[simp] theorem execAndi_keeps (t : Nat) (n : Fin 64) (w : Word) (s : State) : KeepsSpine (s.elapse t) (execAndi t n w s) := by simp [execAndi]
@[simp] theorem execOri_keeps (t : Nat) (n : Fin 64) (w : Word) (s : State) : KeepsSpine (s.elapse t) (execOri t n w s) := by simp [execOri]
@[simp] theorem execXori_keeps (t : Nat) (n : Fin 64) (w : Word) (s : State) : KeepsSpine (s.elapse t) (execXori t n w s) := by simp [execXori]
@[simp] theorem execSlti_keeps (t : Nat) (n : Fin 64) (w : Word) (s : State) : KeepsSpine (s.elapse t) (execSlti t n w s) := by simp [execSlti]

@[simp] theorem execSltiu_keeps (t : Nat) (n : Fin 64) (w : Word) (s : State) : KeepsSpine (s.elapse t) (execSltiu t n w s) := by
  simp [execSltiu]

@[simp] theorem execLui_keeps (t : Nat) (n : Fin 64) (w : Word) (s : State) : KeepsSpine (s.elapse t) (execLui t n w s) := by simp [execLui]
@[simp] theorem execShi_keeps (t : Nat) (n : Fin 64) (w : Word) (s : State) : KeepsSpine (s.elapse t) (execShi t n w s) := by simp [execShi]
@[simp] theorem execLw_keeps (t : Nat) (n : Fin 64) (w : Word) (s : State) : KeepsSpine (s.elapse t) (execLw t n w s) := by simp [execLw]
@[simp] theorem execLh_keeps (t : Nat) (n : Fin 64) (w : Word) (s : State) : KeepsSpine (s.elapse t) (execLh t n w s) := by simp [execLh]
@[simp] theorem execLhu_keeps (t : Nat) (n : Fin 64) (w : Word) (s : State) : KeepsSpine (s.elapse t) (execLhu t n w s) := by simp [execLhu]
@[simp] theorem execLb_keeps (t : Nat) (n : Fin 64) (w : Word) (s : State) : KeepsSpine (s.elapse t) (execLb t n w s) := by simp [execLb]
@[simp] theorem execLbu_keeps (t : Nat) (n : Fin 64) (w : Word) (s : State) : KeepsSpine (s.elapse t) (execLbu t n w s) := by simp [execLbu]
@[simp] theorem execSw_keeps (t : Nat) (n : Fin 64) (w : Word) (s : State) : KeepsSpine (s.elapse t) (execSw t n w s) := by simp [execSw]
@[simp] theorem execSh_keeps (t : Nat) (n : Fin 64) (w : Word) (s : State) : KeepsSpine (s.elapse t) (execSh t n w s) := by simp [execSh]
@[simp] theorem execSb_keeps (t : Nat) (n : Fin 64) (w : Word) (s : State) : KeepsSpine (s.elapse t) (execSb t n w s) := by simp [execSb]
@[simp] theorem execVld_keeps (t : Nat) (n : Fin 64) (w : Word) (s : State) : KeepsSpine (s.elapse t) (execVld t n w s) := by simp [execVld]
@[simp] theorem execVst_keeps (t : Nat) (n : Fin 64) (w : Word) (s : State) : KeepsSpine (s.elapse t) (execVst t n w s) := by simp [execVst]
@[simp] theorem execBeq_keeps (t : Nat) (n : Fin 64) (w : Word) (s : State) : KeepsSpine (s.elapse t) (execBeq t n w s) := by simp [execBeq]
@[simp] theorem execBne_keeps (t : Nat) (n : Fin 64) (w : Word) (s : State) : KeepsSpine (s.elapse t) (execBne t n w s) := by simp [execBne]
@[simp] theorem execBlt_keeps (t : Nat) (n : Fin 64) (w : Word) (s : State) : KeepsSpine (s.elapse t) (execBlt t n w s) := by simp [execBlt]
@[simp] theorem execBge_keeps (t : Nat) (n : Fin 64) (w : Word) (s : State) : KeepsSpine (s.elapse t) (execBge t n w s) := by simp [execBge]
@[simp] theorem execBltu_keeps (t : Nat) (n : Fin 64) (w : Word) (s : State) : KeepsSpine (s.elapse t) (execBltu t n w s) := by simp [execBltu]
@[simp] theorem execBgeu_keeps (t : Nat) (n : Fin 64) (w : Word) (s : State) : KeepsSpine (s.elapse t) (execBgeu t n w s) := by simp [execBgeu]

@[simp] theorem execJal_keeps (t : Nat) (n : Fin 64) (w : Word) (s : State) : KeepsSpine (s.elapse t) (execJal t n w s) :=
  isa_keeps (fun _ _ _ => rfl)

@[simp] theorem execBp_keeps (t : Nat) (n : Fin 64) (w : Word) (s : State) : KeepsSpine (s.elapse t) (execBp t n w s) := by
  simp only [execBp, keepsSpine_next]
  exact State.isa_spine _ _ _ _ (fun u x v => by simp)

@[simp] theorem execIllegal_keeps (t : Nat) (n : Fin 64) (w : Word) (s : State) : KeepsSpine (s.elapse t) (execIllegal t n w s) := by
  simp [execIllegal]

/-! ### System instructions (09 R337, R338) -/

@[simp] theorem execMfsr_keeps (t : Nat) (n : Fin 64) (w : Word) (s : State) : KeepsSpine (s.elapse t) (execMfsr t n w s) :=
  isa_keeps (fun _ _ _ => rfl)

@[simp] theorem execMtsr_keeps (t : Nat) (n : Fin 64) (w : Word) (s : State) : KeepsSpine (s.elapse t) (execMtsr t n w s) := by simp [execMtsr]
@[simp] theorem execLend_keeps (t : Nat) (n : Fin 64) (w : Word) (s : State) : KeepsSpine (s.elapse t) (execLend t n w s) := by simp [execLend]

@[simp] theorem execLdrop_keeps (t : Nat) (n : Fin 64) (w : Word) (s : State) : KeepsSpine (s.elapse t) (execLdrop t n w s) :=
  isa_keeps (fun _ _ _ => rfl)

@[simp] theorem execWait_keeps (t : Nat) (n : Fin 64) (w : Word) (s : State) : KeepsSpine (s.elapse t) (execWait t n w s) := by simp [execWait]

@[simp] theorem execReti_keeps (t : Nat) (n : Fin 64) (w : Word) (s : State) : KeepsSpine (s.elapse t) (execReti t n w s) := by
  simp only [execReti, keepsSpine_next]
  exact State.isa_spine _ _ _ _ (fun u x v => by split <;> simp)

/-! ### Vector instructions (09 R333 to R336) -/

@[simp] theorem execVadd_keeps (t : Nat) (n : Fin 64) (w : Word) (s : State) : KeepsSpine (s.elapse t) (execVadd t n w s) := by simp [execVadd]
@[simp] theorem execVsub_keeps (t : Nat) (n : Fin 64) (w : Word) (s : State) : KeepsSpine (s.elapse t) (execVsub t n w s) := by simp [execVsub]

@[simp] theorem execVadds_keeps (t : Nat) (n : Fin 64) (w : Word) (s : State) : KeepsSpine (s.elapse t) (execVadds t n w s) := by
  simp [execVadds]

@[simp] theorem execVsubs_keeps (t : Nat) (n : Fin 64) (w : Word) (s : State) : KeepsSpine (s.elapse t) (execVsubs t n w s) := by
  simp [execVsubs]

@[simp] theorem execVmin_keeps (t : Nat) (n : Fin 64) (w : Word) (s : State) : KeepsSpine (s.elapse t) (execVmin t n w s) := by simp [execVmin]
@[simp] theorem execVmax_keeps (t : Nat) (n : Fin 64) (w : Word) (s : State) : KeepsSpine (s.elapse t) (execVmax t n w s) := by simp [execVmax]

@[simp] theorem execVmins_keeps (t : Nat) (n : Fin 64) (w : Word) (s : State) : KeepsSpine (s.elapse t) (execVmins t n w s) := by
  simp [execVmins]

@[simp] theorem execVmaxs_keeps (t : Nat) (n : Fin 64) (w : Word) (s : State) : KeepsSpine (s.elapse t) (execVmaxs t n w s) := by
  simp [execVmaxs]

@[simp] theorem execVand_keeps (t : Nat) (n : Fin 64) (w : Word) (s : State) : KeepsSpine (s.elapse t) (execVand t n w s) := by simp [execVand]
@[simp] theorem execVor_keeps (t : Nat) (n : Fin 64) (w : Word) (s : State) : KeepsSpine (s.elapse t) (execVor t n w s) := by simp [execVor]
@[simp] theorem execVxor_keeps (t : Nat) (n : Fin 64) (w : Word) (s : State) : KeepsSpine (s.elapse t) (execVxor t n w s) := by simp [execVxor]
@[simp] theorem execVsll_keeps (t : Nat) (n : Fin 64) (w : Word) (s : State) : KeepsSpine (s.elapse t) (execVsll t n w s) := by simp [execVsll]
@[simp] theorem execVsrl_keeps (t : Nat) (n : Fin 64) (w : Word) (s : State) : KeepsSpine (s.elapse t) (execVsrl t n w s) := by simp [execVsrl]
@[simp] theorem execVsra_keeps (t : Nat) (n : Fin 64) (w : Word) (s : State) : KeepsSpine (s.elapse t) (execVsra t n w s) := by simp [execVsra]

@[simp] theorem execVabsd_keeps (t : Nat) (n : Fin 64) (w : Word) (s : State) : KeepsSpine (s.elapse t) (execVabsd t n w s) := by
  simp [execVabsd]

@[simp] theorem execVavg_keeps (t : Nat) (n : Fin 64) (w : Word) (s : State) : KeepsSpine (s.elapse t) (execVavg t n w s) := by simp [execVavg]
@[simp] theorem execVmul_keeps (t : Nat) (n : Fin 64) (w : Word) (s : State) : KeepsSpine (s.elapse t) (execVmul t n w s) := by simp [execVmul]

@[simp] theorem execVmulh_keeps (t : Nat) (n : Fin 64) (w : Word) (s : State) : KeepsSpine (s.elapse t) (execVmulh t n w s) := by
  simp [execVmulh]

@[simp] theorem execVmulsh_keeps (t : Nat) (n : Fin 64) (w : Word) (s : State) : KeepsSpine (s.elapse t) (execVmulsh t n w s) :=
  isa_keeps (fun _ _ _ => rfl)

@[simp] theorem execVmacw_keeps (t : Nat) (n : Fin 64) (w : Word) (s : State) : KeepsSpine (s.elapse t) (execVmacw t n w s) :=
  isa_keeps (fun _ _ _ => rfl)

@[simp] theorem execVsel_keeps (t : Nat) (n : Fin 64) (w : Word) (s : State) : KeepsSpine (s.elapse t) (execVsel t n w s) :=
  isa_keeps (fun _ _ _ => rfl)

@[simp] theorem execVeq_keeps (t : Nat) (n : Fin 64) (w : Word) (s : State) : KeepsSpine (s.elapse t) (execVeq t n w s) := by simp [execVeq]
@[simp] theorem execVne_keeps (t : Nat) (n : Fin 64) (w : Word) (s : State) : KeepsSpine (s.elapse t) (execVne t n w s) := by simp [execVne]
@[simp] theorem execVltu_keeps (t : Nat) (n : Fin 64) (w : Word) (s : State) : KeepsSpine (s.elapse t) (execVltu t n w s) := by simp [execVltu]
@[simp] theorem execVgeu_keeps (t : Nat) (n : Fin 64) (w : Word) (s : State) : KeepsSpine (s.elapse t) (execVgeu t n w s) := by simp [execVgeu]
@[simp] theorem execVlt_keeps (t : Nat) (n : Fin 64) (w : Word) (s : State) : KeepsSpine (s.elapse t) (execVlt t n w s) := by simp [execVlt]
@[simp] theorem execVge_keeps (t : Nat) (n : Fin 64) (w : Word) (s : State) : KeepsSpine (s.elapse t) (execVge t n w s) := by simp [execVge]
@[simp] theorem execPand_keeps (t : Nat) (n : Fin 64) (w : Word) (s : State) : KeepsSpine (s.elapse t) (execPand t n w s) := by simp [execPand]
@[simp] theorem execPor_keeps (t : Nat) (n : Fin 64) (w : Word) (s : State) : KeepsSpine (s.elapse t) (execPor t n w s) := by simp [execPor]
@[simp] theorem execPxor_keeps (t : Nat) (n : Fin 64) (w : Word) (s : State) : KeepsSpine (s.elapse t) (execPxor t n w s) := by simp [execPxor]
@[simp] theorem execPnot_keeps (t : Nat) (n : Fin 64) (w : Word) (s : State) : KeepsSpine (s.elapse t) (execPnot t n w s) := by simp [execPnot]

@[simp] theorem execVbcast_keeps (t : Nat) (n : Fin 64) (w : Word) (s : State) : KeepsSpine (s.elapse t) (execVbcast t n w s) :=
  isa_keeps (fun _ _ _ => rfl)

@[simp] theorem execVslide_keeps (t : Nat) (n : Fin 64) (w : Word) (s : State) : KeepsSpine (s.elapse t) (execVslide t n w s) :=
  isa_keeps (fun _ _ _ => rfl)

@[simp] theorem execVmove_keeps (t : Nat) (n : Fin 64) (w : Word) (s : State) : KeepsSpine (s.elapse t) (execVmove t n w s) :=
  isa_keeps (fun _ _ _ => rfl)

@[simp] theorem execPfroms_keeps (t : Nat) (n : Fin 64) (w : Word) (s : State) : KeepsSpine (s.elapse t) (execPfroms t n w s) :=
  isa_keeps (fun _ _ _ => rfl)

@[simp] theorem execPtos_keeps (t : Nat) (n : Fin 64) (w : Word) (s : State) : KeepsSpine (s.elapse t) (execPtos t n w s) :=
  isa_keeps (fun _ _ _ => rfl)

/-! ### QUERY (15 R538 to R543) -/

@[simp] theorem State.query_keeps (s : State) (c : RingCmd) (ok : Nat → Bool) (len : Nat) (block : State → List Byte) :
    KeepsSpine s (s.query c ok len block) := command_keeps (fun v => v.queueBlock_spine ..)

@[simp] theorem execQueryVersion_keeps (t : Nat) (c : RingCmd) (s : State) : KeepsSpine (s.elapse t) (execQueryVersion t c s) := by
  simp [execQueryVersion]

@[simp] theorem execQueryHealth_keeps (t : Nat) (c : RingCmd) (s : State) : KeepsSpine (s.elapse t) (execQueryHealth t c s) := by
  simp [execQueryHealth]

@[simp] theorem execQueryLedger_keeps (t : Nat) (c : RingCmd) (s : State) : KeepsSpine (s.elapse t) (execQueryLedger t c s) := by
  simp [execQueryLedger]

@[simp] theorem execQueryCounters_keeps (t : Nat) (c : RingCmd) (s : State) : KeepsSpine (s.elapse t) (execQueryCounters t c s) := by
  simp [execQueryCounters]

/-! ### The ring commands and CLAIM_PASS (03, 02) -/

@[simp] theorem nopEffect_spine (x0 : RingCmd) (s : State) : (nopEffect x0 s).1.spine = s.spine := rfl
@[simp] theorem execNop_keeps (t : Nat) (c : RingCmd) (s : State) : KeepsSpine (s.elapse t) (execNop t c s) := command_keeps (nopEffect_spine c)

@[simp] theorem execUndefinedOpcode_keeps (t : Nat) (c : RingCmd) (s : State) : KeepsSpine (s.elapse t) (execUndefinedOpcode t c s) := by
  simp [execUndefinedOpcode]

@[simp] theorem ringCreateEffect_spine (c : RingCmd) (s : State) : (ringCreateEffect c s).1.spine = s.spine := by simp [ringCreateEffect]

@[simp] theorem execRingCreate_keeps (t : Nat) (c : RingCmd) (s : State) : KeepsSpine (s.elapse t) (execRingCreate t c s) :=
  command_keeps (ringCreateEffect_spine c)

@[simp] theorem ringDestroyEffect_spine (c : RingCmd) (s : State) : (ringDestroyEffect c s).1.spine = s.spine := by simp [ringDestroyEffect]

@[simp] theorem execRingDestroy_keeps (t : Nat) (c : RingCmd) (s : State) : KeepsSpine (s.elapse t) (execRingDestroy t c s) :=
  command_keeps (ringDestroyEffect_spine c)

@[simp] theorem ringModerateEffect_spine (c : RingCmd) (s : State) : (ringModerateEffect c s).1.spine = s.spine := by
  simp [ringModerateEffect]

@[simp] theorem execRingModerate_keeps (t : Nat) (c : RingCmd) (s : State) : KeepsSpine (s.elapse t) (execRingModerate t c s) :=
  command_keeps (ringModerateEffect_spine c)

@[simp] theorem portConfigEffect_spine (c : RingCmd) (s : State) : (portConfigEffect c s).1.spine = s.spine := by simp [portConfigEffect]

@[simp] theorem execPortConfig_keeps (t : Nat) (c : RingCmd) (s : State) : KeepsSpine (s.elapse t) (execPortConfig t c s) :=
  command_keeps (portConfigEffect_spine c)

@[simp] theorem claimPassEffect_spine (c : RingCmd) (s : State) : (claimPassEffect c s).1.spine = s.spine := by simp [claimPassEffect]

@[simp] theorem execClaimPass_keeps (t : Nat) (c : RingCmd) (s : State) : KeepsSpine (s.elapse t) (execClaimPass t c s) :=
  command_keeps (claimPassEffect_spine c)

/-! ### Start-up and supplies (17, 19) -/

@[simp] theorem execPwrGood_keeps (t : Nat) (s : State) : KeepsSpine (s.elapse t) (execPwrGood t s) := by simp [execPwrGood]
@[simp] theorem execPllLock_keeps (t : Nat) (s : State) : KeepsSpine (s.elapse t) (execPllLock t s) := by simp [execPllLock]

@[simp] theorem execHbmTrained_keeps (t : Nat) (failed : List (Fin 8)) (s : State) : KeepsSpine (s.elapse t) (execHbmTrained t failed s) := by
  simp [execHbmTrained]

@[simp] theorem execCagePowerEnable_keeps (t : Nat) (b : Fin 17) (s : State) : KeepsSpine (s.elapse t) (execCagePowerEnable t b s) := by
  simp [execCagePowerEnable]

@[simp] theorem execCageResetRelease_keeps (t : Nat) (b : Fin 17) (s : State) : KeepsSpine (s.elapse t) (execCageResetRelease t b s) := by
  simp [execCageResetRelease]

@[simp] theorem State.unitOut_spine (s : State) (pool k : Nat) : (s.unitOut pool k).spine = s.spine := by
  simp only [State.unitOut]
  repeat' split
  all_goals simp

@[simp] theorem execStartUpSelfTestsDone_keeps (t : Nat) (failed : List (Nat × Nat)) (s : State) :
    KeepsSpine (s.elapse t) (execStartUpSelfTestsDone t failed s) := by simp [execStartUpSelfTestsDone]

@[simp] theorem State.supplyReport_spine (s : State) (cls : Nat) (failed : Bool) : (s.supplyReport cls failed).spine = s.spine := by
  simp [State.supplyReport]

@[simp] theorem State.useFeed_spine (s : State) (f : Nat) : (s.useFeed f).spine = s.spine := by simp [State.useFeed]

@[simp] theorem execFeedOutOfRange_keeps (t : Nat) (f : Fin 2) (otherNear : Bool) (s : State) :
    KeepsSpine (s.elapse t) (execFeedOutOfRange t f otherNear s) := by simp [execFeedOutOfRange]

@[simp] theorem State.qualify_spine (s : State) (f : Nat) : (s.qualify f).spine = s.spine := by simp [State.qualify]

@[simp] theorem execFeedQualified_keeps (t : Nat) (f : Fin 2) (s : State) : KeepsSpine (s.elapse t) (execFeedQualified t f s) := by
  simp only [execFeedQualified]; split <;> simp

@[simp] theorem execEmberReferenceAbsent_keeps (t : Nat) (s : State) : KeepsSpine (s.elapse t) (execEmberReferenceAbsent t s) := by
  simp [execEmberReferenceAbsent]

@[simp] theorem execEmberReferenceReturn_keeps (t : Nat) (s : State) : KeepsSpine (s.elapse t) (execEmberReferenceReturn t s) := by
  simp [execEmberReferenceReturn]

@[simp] theorem execLrefclkAbsent_keeps (t : Nat) (k : Fin 4) (s : State) : KeepsSpine (s.elapse t) (execLrefclkAbsent t k s) := by
  simp [execLrefclkAbsent]

@[simp] theorem execLrefclkReturn_keeps (t : Nat) (k : Fin 4) (s : State) : KeepsSpine (s.elapse t) (execLrefclkReturn t k s) := by
  simp [execLrefclkReturn]

@[simp] theorem execHprefclkAbsent_keeps (t : Nat) (p : Fin 4) (s : State) : KeepsSpine (s.elapse t) (execHprefclkAbsent t p s) := by
  simp [execHprefclkAbsent]

@[simp] theorem execHprefclkStable_keeps (t : Nat) (p : Fin 4) (s : State) : KeepsSpine (s.elapse t) (execHprefclkStable t p s) := by
  simp [execHprefclkStable]

/-! ### The test access port (20) -/

@[simp] theorem State.captureDr_spine (s : State) : s.captureDr.spine = s.spine := by simp [State.captureDr]

@[simp] theorem State.tapEdge_spine (s : State) (tdi : Bool) : (s.tapEdge tdi).spine = s.spine := by
  simp only [State.tapEdge]; split <;> simp

end Sys2Proof.Machine
end

section
/-!
SUPPORT. The operations that move the spine: device time, the mode, start-up, the change of mode; and what each of them makes of the
invariant.
-/

namespace Sys2Proof.Machine

section
variable (s : State)
@[simp] theorem State.spine_pending : s.spine.pending = s.pending := rfl
@[simp] theorem State.spine_time : s.spine.time = s.time := rfl
@[simp] theorem State.spine_mode : s.spine.mode = s.mode := rfl
@[simp] theorem State.spine_running : s.spine.running = s.start.running := rfl
@[simp] theorem State.spine_transition : s.spine.transition = s.start.transition := rfl
end

/-! ### What moves device time (10 R354, R370, R383) -/

/-- The spine of u is that of s, or that of s at another device time of 96 bits. -/
def State.Retimed (u s : State) : Prop := u.spine = s.spine ∨ ∃ n < 2 ^ 96, u.spine = { s.spine with time := n }

theorem State.Retimed.trans {u v s : State} (h : u.Retimed v) (g : v.Retimed s) : u.Retimed s := by
  obtain h | ⟨n, hn, h⟩ := h <;> obtain g | ⟨m, hm, g⟩ := g
  · exact .inl (h.trans g)
  · exact .inr ⟨m, hm, h.trans g⟩
  · exact .inr ⟨n, hn, by rw [h, g]⟩
  · exact .inr ⟨n, hn, by rw [h, g]⟩

/-- What follows a retimed state without moving its spine. -/
theorem State.Retimed.after {u v s : State} (h : v.Retimed s) (e : u.spine = v.spine) : u.Retimed s := .trans (.inl e) h

/-- What comes before and does not move the spine. -/
theorem State.Retimed.before {u v s : State} (h : u.Retimed v) (e : v.spine = s.spine) : u.Retimed s := h.trans (.inl e)

theorem State.Retimed.ite {c : Prop} [Decidable c] {u v s : State} (h : u.Retimed s) (g : v.Retimed s) : (if c then u else v).Retimed s := by
  split <;> assumption

theorem State.elapse_retimed (s : State) (n : Nat) : (s.elapse n).Retimed s := by
  refine .inr ⟨_, ?_, State.elapse_spine s n⟩
  simp only [elapse_time]
  omega

theorem State.timeStep_retimed (s : State) (new : Nat) : (s.timeStep new).Retimed s :=
  .inr ⟨new % 2 ^ 96, Nat.mod_lt _ (by decide), by simp [State.timeStep]⟩

theorem State.stepOrSlew_retimed (s : State) (off : Int) (since : Nat) : (s.stepOrSlew off since).Retimed s :=
  .ite (.ite ((timeStep_retimed ..).before (servoRecord_spine s)) (.inl (by simp))) (.inl (by simp))

theorem State.adopt_retimed (s : State) (off : Int) (since : Nat) : (s.adopt off since).Retimed s := by
  refine (stepOrSlew_retimed ..).before ?_
  split
  · split <;> simp
  · simp

theorem State.servo_retimed (s : State) (off : Int) : (s.servo off).Retimed s := by
  simp only [State.servo]
  split
  · exact .ite ((adopt_retimed ..).before (by simp)) (.inl (by simp))
  · exact .ite (((stepOrSlew_retimed ..).before (by simp)).after (timeTo_spine ..)) ((stepOrSlew_retimed ..).before (by simp))
  · exact .inl (by simp)
  · exact .inl (by simp)

theorem State.syncDone_retimed (s : State) (t1 t2 : Int) : (s.syncDone t1 t2).Retimed s :=
  (servo_retimed ..).before rfl

/-- Only SYNC and FOLLOW_UP reach the servo. -/
theorem State.clientReceive_retimed (s : State) (m : List Byte) (rx : Nat) : (s.clientReceive m rx).Retimed s := by
  simp only [State.clientReceive]
  split
  case h_1 => exact .ite (.ite (.inl rfl) ((syncDone_retimed ..).before rfl)) (.inl rfl)
  case h_2 =>
    split
    · exact .ite (syncDone_retimed ..) (.inl rfl)
    · exact .inl rfl
  all_goals
    refine .inl ?_
    repeat' split
    all_goals simp

/-- Only the timing port is a client of the servo. -/
theorem State.ptpReceive_retimed (s : State) (x : PtpPort) (tr : PtpTransport) (length : Nat) (m : List Byte) (rx : Nat) :
    (s.ptpReceive x tr length m rx).Retimed s := by
  refine .ite (.inl rfl) ?_
  cases x with
  | timing => exact .ite (.inl rfl) (.ite (.inl (ptpDiscard_spine s)) (.ite (.inl rfl) (clientReceive_retimed ..)))
  | lane l => exact .inl (by simp)

theorem State.loadTime_retimed (s : State) (new : Nat) (ago : Int) : (s.loadTime new ago).Retimed s := by
  refine (timeStep_retimed s (ofInt 96 ((new : Int) * 2 ^ 32 + ago))).after ?_
  unfold State.loadTime
  generalize s.timeStep _ = u
  dsimp only
  repeat' split
  all_goals simp

theorem setTimeEffect_retimed (c : RingCmd) (s : State) : (setTimeEffect c s).1.Retimed s := by
  simp only [setTimeEffect]
  split
  · exact .inl (by simp)
  · exact .ite ((State.loadTime_retimed ..).before (State.loadRate_spine ..)) (.inl (State.loadRate_spine ..))

theorem State.ppsLoad_retimed (s : State) (w : Nat × Nat) (x : Waiting) (i : Nat) : (s.ppsLoad w x i).Retimed s := by
  unfold State.ppsLoad
  generalize hu : ({ s with tb := { s.tb with waiting := none } } : State) = u
  have hs : u.spine = s.spine := by rw [← hu]; simp
  dsimp only
  split
  · refine ((loadTime_retimed (u.loadRate x.entry) _ _).before ?_).after (finishWaiting_spine ..)
    exact (loadRate_spine ..).trans hs
  · exact .inl ((finishWaiting_spine ..).trans hs)

theorem State.ppsEdge_retimed (s : State) (i : Nat) : (s.ppsEdge i).Retimed s := by
  unfold State.ppsEdge
  extract_lets s1 s2
  have hs : s2.spine = s.spine := by simp [s2, s1]
  clear_value s2
  split
  · exact (ppsLoad_retimed ..).before hs
  · exact .ite ((servo_retimed ..).before ((sourceAvailable_spine s2).trans hs)) (.inl hs)

theorem State.ethernetFrame_retimed (s : State) (l : Nat) (f : EthFrame) : (s.ethernetFrame l f).Retimed s := by
  refine .ite (.inl rfl) (.ite (.inl (laneCount_spine ..)) (.ite (ptpReceive_retimed ..) ?_))
  split
  · exact .ite (ptpReceive_retimed ..) (.inl (by simp))
  · exact .inl (toPacketRing_spine ..)

/-! ### What moves the mode, start-up and the change of mode (15 R529, R536; 17 R573, R577, R581, R588) -/

@[simp] theorem State.setMode_spine (s : State) (m : Mode) : (s.setMode m).spine = { s.spine with mode := m } :=
  (alert_spine ..).trans (congrArg (fun x : Spine => { x with mode := m }) (journal_spine s ..))

/-- The spine of Dark: no change of mode goes on. -/
def Spine.dark (x : Spine) : Spine := { x with mode := .dark, transition := none }

/-- The spine of Keep before start-up. -/
def Spine.keep (x : Spine) : Spine := { x with mode := .keep, running := false, transition := none }

/-- The spine of a main domain that has lost its state. -/
def Spine.cleared (x : Spine) : Spine := { x with running := false, transition := none }

theorem State.enterDark_spine (s : State) (cause : Nat) : (s.enterDark cause).spine =
    if s.mode == .dark || s.mode == .keep || s.start.fw == .failed then s.spine else s.spine.dark := by
  unfold State.enterDark
  split
  · rfl
  · extract_lets back s1
    have h : s1.spine = { s.spine with mode := .dark } := by simp [s1, back]
    exact congrArg (fun x : Spine => { x with transition := none }) h

@[simp] theorem State.clearMain_spine (s : State) : s.clearMain.spine = s.spine.cleared := by
  have h : (s.takeOvers.foldl State.mapTakeOver s.pinsOff).spine = s.spine := by simp
  exact (timeHoldover_spine _).trans (congrArg Spine.cleared h)

@[simp] theorem State.toKeep_spine (s : State) : s.toKeep.spine = s.spine.keep := by
  unfold State.toKeep
  split
  · next h => rw [clearMain_spine, Spine.cleared, Spine.keep, ← eq_of_beq h]; rfl
  · rw [clearMain_spine, setMode_spine]; rfl

@[simp] theorem State.assertReset_spine (s : State) (kind time : Nat) : (s.assertReset kind time).spine = s.spine.keep :=
  s.toKeep_spine

@[simp] theorem State.loseAll_spine (s : State) : s.loseAll.spine = ⟨s.pending, 0, .keep, false, none⟩ :=
  congrArg (fun x : Spine => (⟨x.pending, 0, .keep, false, none⟩ : Spine)) s.clearMain_spine

theorem State.modeDone_spine (s : State) (m : Mode) (rid arg : Nat) (stopped : Bool) :
    (s.modeDone m rid arg stopped).spine = { s.spine with mode := m, transition := none } := by
  simp [State.modeDone]

/-! ### The invariant of a spine -/

/-- What `State.Inv` says of a spine. -/
structure Spine.Ok (x : Spine) : Prop where
  pending : ∀ c ∈ x.pending, c.wf = true
  time : x.time < 2 ^ 96
  startUp : x.running = true → x.mode = .keep
  transition : x.mode = .keep ∨ x.mode = .dark → x.transition = none

theorem State.inv_iff (s : State) : s.Inv ↔ s.spine.Ok := ⟨fun ⟨a, b, c, d⟩ => ⟨a, b, c, d⟩, fun ⟨a, b, c, d⟩ => ⟨a, b, c, d⟩⟩

theorem State.Inv.of_spine {u s : State} (h : s.Inv) (e : u.spine = s.spine) : u.Inv := by
  rw [State.inv_iff] at h ⊢; rwa [e]

theorem State.Inv.of_retimed {u s : State} (h : s.Inv) (r : u.Retimed s) : u.Inv := by
  obtain r | ⟨n, hn, r⟩ := r
  · exact h.of_spine r
  · rw [State.inv_iff] at h ⊢
    rw [r]
    exact ⟨h.pending, hn, h.startUp, h.transition⟩

theorem State.Inv.elapse {s : State} (h : s.Inv) (n : Nat) : (s.elapse n).Inv := h.of_retimed (s.elapse_retimed n)

theorem Spine.Ok.keep {x : Spine} (h : x.Ok) : x.keep.Ok := ⟨h.pending, h.time, nofun, fun _ => rfl⟩

theorem Spine.Ok.cleared {x : Spine} (h : x.Ok) : x.cleared.Ok := ⟨h.pending, h.time, nofun, fun _ => rfl⟩

theorem Spine.Ok.dark {x : Spine} (h : x.Ok) (hm : x.mode ≠ .keep) : x.dark.Ok :=
  ⟨h.pending, h.time, fun hr => absurd (h.startUp hr) hm, fun _ => rfl⟩

theorem State.Inv.toKeep {s : State} (h : s.Inv) : s.toKeep.Inv := by
  rw [State.inv_iff] at h ⊢; rw [toKeep_spine]; exact h.keep

theorem State.Inv.assertReset {s : State} (h : s.Inv) (kind time : Nat) : (s.assertReset kind time).Inv :=
  h.toKeep.of_spine ((s.assertReset_spine kind time).trans s.toKeep_spine.symm)

theorem State.Inv.clearMain {s : State} (h : s.Inv) : s.clearMain.Inv := by
  rw [State.inv_iff] at h ⊢; rw [clearMain_spine]; exact h.cleared

theorem State.Inv.enterDark {s : State} (h : s.Inv) (cause : Nat) : (s.enterDark cause).Inv := by
  rw [State.inv_iff] at h ⊢
  rw [enterDark_spine]
  split
  · exact h
  · next hm => exact h.dark (fun hk => hm (by simp_all))

theorem State.Inv.loseAll {s : State} (h : s.Inv) : s.loseAll.Inv := by
  rw [State.inv_iff] at h ⊢; rw [loseAll_spine]; exact ⟨h.pending, Nat.two_pow_pos 96, nofun, fun _ => rfl⟩

theorem State.Inv.collapse {s : State} (h : s.Inv) (hold : Bool) : (s.collapse hold).Inv := by
  unfold State.collapse
  split
  · exact h.loseAll
  · exact h.toKeep.of_spine (by simp)

/-- Start-up begins, from Keep, where no change of mode is in progress. -/
theorem State.beginStart_spine {s : State} (h : s.start.transition = none) : s.beginStart.spine = { s.spine with running := true } := by
  unfold State.beginStart
  extract_lets s1 u v
  have h1 : s1.pending = s.pending ∧ s1.time = s.time ∧ s1.mode = s.mode ∧ u.transition = none := by
    simp only [u, s1]
    split
    · have hc := s.clearMain_spine
      exact ⟨congrArg Spine.pending hc, congrArg Spine.time hc, congrArg Spine.mode hc, congrArg Spine.transition hc⟩
    · exact ⟨rfl, rfl, rfl, h⟩
  obtain ⟨hp, ht, hm, hu⟩ := h1
  have hv : v.transition = none := by simp only [v]; split <;> exact hu
  change (⟨s1.pending, s1.time, s1.mode, true, v.transition⟩ : Spine) = ⟨s.pending, s.time, s.mode, true, s.start.transition⟩
  rw [hp, ht, hm, hv, h]

theorem State.Inv.beginStart {s : State} (h : s.Inv) (hm : s.mode = .keep) : s.beginStart.Inv := by
  have ht : s.start.transition = none := h.transition (.inl hm)
  rw [State.inv_iff] at h ⊢
  rw [beginStart_spine ht]
  exact ⟨h.pending, h.time, fun _ => hm, h.transition⟩

theorem State.mayStart_mode {s : State} (h : s.mayStart = true) : s.mode = .keep := by
  simp only [State.mayStart, Bool.and_eq_true] at h
  exact eq_of_beq h.1.1.1.1

theorem State.Inv.wakeUp {s : State} (h : s.Inv) (kind : Nat) (hm : s.mode = .keep) : (s.wakeUp kind).Inv :=
  State.Inv.beginStart (h.of_spine rfl) hm

theorem State.Inv.guardReset {s : State} (h : s.Inv) : s.guardReset.Inv := (h.assertReset 3 s.dt).of_spine rfl

/-- A start that a release allows. -/
theorem State.Inv.mayBegin {s : State} (h : s.Inv) : (if s.mayStart then s.beginStart else s).Inv := by
  split
  · next hs => exact h.beginStart (State.mayStart_mode hs)
  · exact h

theorem State.Inv.pairStops {s : State} (h : s.Inv) (cause : Nat) : (s.pairStops cause).Inv := by
  unfold State.pairStops
  split
  · exact h.enterDark cause
  · exact h.of_spine (by simp)

theorem State.Inv.stackLost {s : State} (h : s.Inv) (k : Nat) : (s.stackLost k).Inv := by
  unfold State.stackLost
  split
  · exact h
  · dsimp only
    split
    · exact State.Inv.enterDark (h.of_spine (by rfl)) 5
    · exact h.of_spine (by simp)

theorem State.Inv.failPart {s : State} (h : s.Inv) (pool k part : Nat) : (s.failPart pool k part).Inv := by
  unfold State.failPart
  split
  · split
    · exact State.Inv.stackLost (h.of_spine (by simp)) _
    · exact h.of_spine (by simp)
  · split
    · split
      · exact State.Inv.enterDark (h.of_spine (by simp)) 4
      · exact h.of_spine (by simp)
    · exact h.of_spine (by simp)

/-- A change of mode ends outside Keep, where no start-up runs. -/
theorem State.Inv.modeDone {s : State} (h : s.Inv) (hk : s.mode ≠ .keep) (m : Mode) (rid arg : Nat) (stopped : Bool) :
    (s.modeDone m rid arg stopped).Inv := by
  have hr : s.start.running = false := by simpa using mt h.startUp hk
  rw [State.inv_iff] at h ⊢
  rw [modeDone_spine]
  exact ⟨h.pending, h.time, fun hs => absurd hs (by simp [hr]), fun _ => rfl⟩

/-! ### The test access port (20 R648, R651) -/

theorem State.Inv.pinsFreed {s : State} (h : s.Inv) : s.pinsFreed.Inv := by
  unfold State.pinsFreed
  dsimp only
  split
  · next hs => exact State.Inv.beginStart (h.of_spine rfl) (State.mayStart_mode (Bool.and_eq_true_iff.1 hs).2)
  · exact h.of_spine rfl

theorem State.Inv.instruction {s : State} (h : s.Inv) (code : Nat) : (s.instruction code).Inv := by
  unfold State.instruction
  split
  · exact h.of_spine rfl
  · split <;> exact State.Inv.pinsFreed (h.of_spine rfl)

theorem State.Inv.tapReset {s : State} (h : s.Inv) : s.tapReset.Inv := State.Inv.instruction (h.of_spine (by rfl)) _

theorem State.Inv.tapLoad {s : State} (h : s.Inv) (code : Nat) : (s.tapLoad code).Inv := by
  unfold State.tapLoad
  split
  · exact State.Inv.instruction (h.of_spine (by rfl)) _
  · exact h

theorem State.Inv.tapEnter {s : State} (h : s.Inv) (before : TapState) : (s.tapEnter before).Inv := by
  unfold State.tapEnter
  dsimp only
  split
  case h_1 => split; exacts [h, h.tapReset]
  case h_2 => exact h.instruction _
  all_goals exact h.of_spine (by simp)

theorem State.Inv.ite {c : Prop} [Decidable c] {u v : State} (h : c → u.Inv) (g : ¬ c → v.Inv) : (if c then u else v).Inv := by
  split
  · next hc => exact h hc
  · next hc => exact g hc

/-- Standby after start-up. -/
theorem State.Inv.standby {u s : State} (h : s.Inv) (e : u.spine = { s.spine with mode := .standby, running := false }) : u.Inv := by
  rw [State.inv_iff] at h ⊢
  rw [e]
  exact ⟨h.pending, h.time, nofun, fun hm => by obtain hm | hm := hm <;> cases hm⟩

/-- A write of a register keeps the invariant when what the register does keeps it. -/
theorem State.Inv.mgAccess {s : State} {code : Nat} {x : MgTransfer} {put : Option (Nat × (List Byte → State → State))} (h : s.Inv)
    (hp : ∀ p ∈ put, ∀ b u, u.Inv → (p.2 b u).Inv) : (s.mgAccess code x none put).Inv := by
  rcases s.mgAccess_cases code x none put with hs | ⟨g, ⟨⟩, -⟩ | ⟨p, b, hput, hs⟩
  · exact h.of_spine hs
  · rw [hs]
    exact hp p hput b _ (h.of_spine s.mgSeen_spine)

end Sys2Proof.Machine
end

section
/-!
The commands that move the spine keep the invariant, every other command keeps the spine, and so every step keeps the invariant.
-/

namespace Sys2Proof.Machine

/-! ### The commands that move the spine -/

/-- Whatever next state the outcome is, it keeps the invariant. -/
def KeepsInv (o : Host.Outcome State Fault Refusal) : Prop := ∀ u, o = .next u → u.Inv

theorem keepsInv_next {u : State} (h : u.Inv) : KeepsInv (.next u) := by rintro _ ⟨⟩; exact h

theorem KeepsInv.ite {c : Prop} [Decidable c] {o q : Host.Outcome State Fault Refusal} (h : KeepsInv o) (g : KeepsInv q) :
    KeepsInv (if c then o else q) := by
  split <;> assumption

theorem KeepsSpine.keepsInv {s : State} {o : Host.Outcome State Fault Refusal} (k : KeepsSpine s o) (h : s.Inv) : KeepsInv o :=
  fun u hu => h.of_spine (k u hu)

/-! ### MODE_SET (17 R574, R576) -/

theorem firstSome_none {α : Type} {l : List (Option α)} (h : firstSome l = none) : ∀ o ∈ l, o = none := by
  induction l with
  | nil => nofun
  | cons o l ih =>
    cases o with
    | none => exact List.forall_mem_cons.2 ⟨rfl, ih h⟩
    | some a => cases h

theorem Checks.state_of_first {k : Checks} {s : State} {p op : Nat} {e : Entry} (h : k.first s p op e = none) : k.state = none :=
  firstSome_none h _ (by simp)

theorem modeMay_source {a b : Mode} (h : modeMay a b = true) : a ≠ .keep ∧ a ≠ .dark := by
  cases a <;> cases b <;> simp_all [modeMay]

/-- MODE_SET to another mode is refused in Keep and in Dark. -/
theorem State.modeRefused_source {s : State} {m : Mode} {stop : Bool} (h : s.modeRefused m stop = none) (hm : m ≠ s.mode) :
    s.mode ≠ .keep ∧ s.mode ≠ .dark := by
  unfold State.modeRefused at h
  split at h
  · cases h
  · split at h
    · next he => exact absurd (eq_of_beq he) hm
    · split at h
      · cases h
      · next hn => exact modeMay_source (by simpa using hn)

theorem modeSetEffect_spine (c : RingCmd) (s : State) : (modeSetEffect c s).1.spine = s.spine ∨
    Mode.ofCode (bitsAt c.e 8 1 0 3) ≠ s.mode ∧ ∃ x, (modeSetEffect c s).1.spine = { s.spine with transition := some x } := by
  unfold modeSetEffect
  extract_lets e m stop rid a seq s1 stops s3
  split
  · exact .inl rfl
  · next hm =>
    have h3 : s3.spine = s.spine := by simp [s3, s1]
    refine .inr ⟨fun he => hm (beq_iff_eq.2 he), (m, rid, a, stops), ?_⟩
    exact congrArg (fun x : Spine => { x with transition := some (m, rid, a, stops) }) h3

theorem State.Inv.modeSetEffect {s : State} {c : RingCmd} (h : s.Inv) (ha : s.Accepts c 0x48 (modeSetChecks c)) :
    (modeSetEffect c (s.committed c 0x48)).1.Inv := by
  have hv : (s.committed c 0x48).spine = s.spine := s.committed_spine c 0x48
  obtain he | ⟨hm, x, he⟩ := modeSetEffect_spine c (s.committed c 0x48)
  · exact h.of_spine (he.trans hv)
  · have hmode : (s.committed c 0x48).mode = s.mode := congrArg Spine.mode hv
    obtain ⟨hk, hd⟩ := State.modeRefused_source (Checks.state_of_first ha.2) (s := s.fetched c) (hmode ▸ hm)
    rw [State.inv_iff] at h ⊢
    rw [he, hv]
    exact ⟨h.pending, h.time, h.startUp, fun hs => absurd hs (not_or.2 ⟨hk, hd⟩)⟩

section
variable {s : State} (h : s.Inv) (t : Nat)
include h

theorem execSetTime_keepsInv (c : RingCmd) : KeepsInv (execSetTime t c s) := by
  rintro u hu
  obtain hs | ⟨-, hs⟩ := State.command_cases hu
  · exact (h.elapse t).of_spine hs
  · exact (h.elapse t).of_retimed (((setTimeEffect_retimed c _).before (State.committed_spine ..)).after hs)

theorem execPtpMessage_keepsInv (x : PtpPort) (f : PtpFrame) (sub : Fin 512) : KeepsInv (execPtpMessage t x f sub s) :=
  keepsInv_next ((h.elapse t).of_retimed (State.ptpReceive_retimed ..))

theorem execPpsInEdge_keepsInv (sub : Fin 512) : KeepsInv (execPpsInEdge t sub s) :=
  .ite (keepsInv_next ((h.elapse t).of_spine rfl)) (keepsInv_next ((h.elapse t).of_retimed ((State.ppsEdge_retimed ..).before rfl)))

theorem execEthernetFrame_keepsInv (l : Fin 128) (f : EthFrame) : KeepsInv (execEthernetFrame t l f s) :=
  keepsInv_next ((h.elapse t).of_retimed (State.ethernetFrame_retimed ..))

theorem execGvspPacket_keepsInv (l : Fin 128) (f : EthFrame) : KeepsInv (execGvspPacket t l f s) :=
  keepsInv_next ((h.elapse t).of_retimed (State.ethernetFrame_retimed ..))

theorem execModeSet_keepsInv (c : RingCmd) : KeepsInv (execModeSet t c s) := by
  rintro u hu
  obtain hs | ⟨ha, hs⟩ := State.command_cases hu
  · exact (h.elapse t).of_spine hs
  · exact ((h.elapse t).modeSetEffect ha).of_spine hs

theorem execModeTransitionComplete_keepsInv : KeepsInv (execModeTransitionComplete t s) := by
  unfold execModeTransitionComplete
  dsimp only
  split
  · split
    · exact keepsInv_next (h.elapse t)
    · next hm => exact keepsInv_next ((h.elapse t).modeDone (fun hk => hm (by simp_all)) _ _ _ _)
  · exact keepsInv_next (h.elapse t)

theorem execKeepPowerDown_keepsInv : KeepsInv (execKeepPowerDown t s) := .ite (keepsInv_next (h.elapse t).clearMain) (keepsInv_next (h.elapse t))

theorem execLockstepMismatch_keepsInv : KeepsInv (execLockstepMismatch t s) := by
  refine keepsInv_next ?_
  split; exacts [(h.elapse t).pairStops 3, h.elapse t]

theorem execHeartbeatLate_keepsInv : KeepsInv (execHeartbeatLate t s) := by
  refine keepsInv_next ?_
  split; exacts [(h.elapse t).pairStops 2, h.elapse t]

theorem execStandbyResume_keepsInv : KeepsInv (execStandbyResume t s) := by
  unfold execStandbyResume
  dsimp only
  split
  · exact keepsInv_next (h.elapse t)
  · refine .ite (keepsInv_next (h.elapse t)) (.ite (keepsInv_next ?_) (keepsInv_next ?_))
    · exact State.Inv.enterDark ((h.elapse t).of_spine (by rfl)) 1
    · exact (h.elapse t).of_spine (by simp)

theorem execDark_keepsInv : KeepsInv (execDark t s) := by
  unfold execDark
  extract_lets s1 late s2
  have h2 : s2.Inv := by simp only [s2, s1]; split; exacts [(h.elapse t).enterDark 1, h.elapse t]
  refine keepsInv_next ?_
  split
  · exact h2.of_spine s2.darkSafe_spine
  · exact h2

theorem execDarkPinLow_keepsInv : KeepsInv (execDarkPinLow t s) := keepsInv_next ((h.elapse t).enterDark 6)

theorem execHardFault_keepsInv (pool unit part : Nat) : KeepsInv (execHardFault t pool unit part s) := by
  unfold execHardFault
  refine .ite (keepsInv_next (h.elapse t)) (.ite ?_ (.ite (.ite (keepsInv_next (h.elapse t)) (.ite ?_ ?_)) ?_))
  · dsimp only
    refine KeepsSpine.keepsInv (s := s.elapse t) ?_ (h.elapse t)
    split <;> simp
  · exact keepsInv_next ((h.elapse t).of_spine (by simp))
  · exact keepsInv_next ((h.elapse t).enterDark _)
  · exact keepsInv_next ((h.elapse t).failPart ..)

theorem execHbmStackLost_keepsInv (k : Fin 8) : KeepsInv (execHbmStackLost t k s) := by
  refine keepsInv_next ?_
  split; exacts [(h.elapse t).stackLost k, h.elapse t]

theorem execWake_keepsInv (x : MgTransfer) : KeepsInv (execWake t x s) := by
  refine keepsInv_next ((h.elapse t).mgAccess ?_)
  rintro _ ⟨⟩ b u hu
  refine .ite (fun _ => hu.of_spine rfl) (fun _ => .ite (fun _ => hu.of_spine rfl) (fun _ => .ite (fun hs => ?_) (fun _ => hu)))
  exact hu.wakeUp 4 (State.mayStart_mode hs)

theorem execGuardReset_keepsInv (x : MgTransfer) : KeepsInv (execGuardReset t x s) := by
  refine keepsInv_next ((h.elapse t).mgAccess ?_)
  rintro _ ⟨⟩ b u hu
  exact .ite (fun _ => .ite (fun _ => hu.guardReset) (fun _ => hu.of_spine rfl)) (fun _ => hu.of_spine rfl)

theorem execPorstAssert_keepsInv : KeepsInv (execPorstAssert t s) :=
  .ite (keepsInv_next (h.elapse t)) (.ite (keepsInv_next ((h.elapse t).of_spine rfl))
    (keepsInv_next (((h.elapse t).assertReset 1 ((s.elapse t).dt - 1000)).of_spine rfl)))

theorem execPorstRelease_keepsInv (straps : Fin 8) : KeepsInv (execPorstRelease t straps s) :=
  .ite (keepsInv_next (h.elapse t)) (keepsInv_next (State.Inv.mayBegin ((h.elapse t).of_spine (by rfl))))

theorem execWarmrstAssert_keepsInv : KeepsInv (execWarmrstAssert t s) := by
  unfold execWarmrstAssert
  extract_lets s1 s2
  have h2 : s2.Inv := by simp only [s2]; split; exacts [h.elapse t, (h.elapse t).assertReset ..]
  exact .ite (keepsInv_next (h.elapse t)) (keepsInv_next (h2.of_spine rfl))

theorem execWarmrstRelease_keepsInv : KeepsInv (execWarmrstRelease t s) :=
  .ite (keepsInv_next (h.elapse t)) (keepsInv_next (State.Inv.mayBegin ((h.elapse t).of_spine (by rfl))))

theorem execGuardResetEnd_keepsInv : KeepsInv (execGuardResetEnd t s) :=
  .ite (keepsInv_next (State.Inv.mayBegin ((h.elapse t).of_spine (by rfl)))) (keepsInv_next (h.elapse t))

theorem execFirmwareVerified_keepsInv (failA : Fin 4) (passB : Bool) : KeepsInv (execFirmwareVerified t failA passB s) := by
  refine .ite (keepsInv_next (h.elapse t)) (.ite (keepsInv_next ((h.elapse t).of_spine rfl)) (.ite (keepsInv_next ((h.elapse t).of_spine rfl)) ?_))
  refine keepsInv_next ((h.elapse t).standby ((State.alert_spine ..).trans ?_))
  exact congrArg (fun x : Spine => { x with running := false }) ((s.elapse t).setMode_spine .standby)

theorem execStartDone_keepsInv : KeepsInv (execStartDone t s) := by
  unfold execStartDone
  extract_lets s1 start s2 s3
  have h2 : s2.Inv := (h.elapse t).standby ((State.alert_spine ..).trans (State.setMode_spine ..))
  have h3 : s3.Inv := h2.of_spine (by simp [s3])
  exact .ite (keepsInv_next (.ite (fun _ => h3.enterDark 5) (fun _ => h3))) (keepsInv_next (h.elapse t))

theorem execFeedApplied_keepsInv (f : Fin 2) : KeepsInv (execFeedApplied t f s) := by
  refine .ite (keepsInv_next (h.elapse t)) (.ite ?_ (.ite (keepsInv_next (.ite (fun _ => ?_) (fun _ => ?_))) (.ite ?_ ?_)))
  · exact keepsInv_next ((h.elapse t).of_retimed (.inr ⟨0, Nat.two_pow_pos 96, State.useFeed_spine ..⟩))
  · exact (h.elapse t).of_spine (State.useFeed_spine ..)
  · exact (h.elapse t).of_spine ((State.supplyReport_spine ..).trans (State.useFeed_spine ..))
  · exact keepsInv_next ((h.elapse t).of_spine (State.useFeed_spine ..))
  · exact keepsInv_next ((h.elapse t).of_spine rfl)

theorem execFeedReturnStart_keepsInv (f : Fin 2) : KeepsInv (execFeedReturnStart t f s) := by
  unfold execFeedReturnStart
  extract_lets s1 s2
  have h2 : s2.Inv := (h.elapse t).of_spine (State.qualify_spine ..)
  exact .ite (keepsInv_next (.ite (fun hs => h2.wakeUp 5 (State.mayStart_mode hs)) (fun _ => h2))) (keepsInv_next (h.elapse t))

theorem execCollapse_keepsInv (hold : Bool) : KeepsInv (execCollapse t hold s) :=
  .ite (keepsInv_next ((h.elapse t).collapse hold)) (keepsInv_next (h.elapse t))

theorem execHoldExhausted_keepsInv : KeepsInv (execHoldExhausted t s) := .ite (keepsInv_next (h.elapse t).loseAll) (keepsInv_next (h.elapse t))

theorem execTrstLow_keepsInv : KeepsInv (execTrstLow t s) := by
  refine keepsInv_next ?_
  split; exacts [(h.elapse t).tapReset, h.elapse t]

theorem execTapClock_keepsInv (tms tdi : Bool) : KeepsInv (execTapClock t tms tdi s) :=
  .ite (keepsInv_next (h.elapse t)) (keepsInv_next (State.Inv.tapEnter ((h.elapse t).of_spine (by simp)) _))

end

/-! ### Every command, and the step -/

/-- The commands that move what the invariant reads have their own lemmas; the last arm is every other command, whose frame lemma
says that it leaves all of it as the passing of its ticks left it. -/
theorem exec_keepsInv {s : State} (h : s.Inv) (c : Instr) : KeepsInv (exec c s) := by
  cases c with
  | setTime t c => exact execSetTime_keepsInv h t c
  | ptpMessage t x f sub => exact execPtpMessage_keepsInv h t x f sub
  | ppsInEdge t sub => exact execPpsInEdge_keepsInv h t sub
  | ethernetFrame t l f => exact execEthernetFrame_keepsInv h t l f
  | gvspPacket t l f => exact execGvspPacket_keepsInv h t l f
  | modeSet t c => exact execModeSet_keepsInv h t c
  | modeTransitionComplete t => exact execModeTransitionComplete_keepsInv h t
  | keepPowerDown t => exact execKeepPowerDown_keepsInv h t
  | lockstepMismatch t => exact execLockstepMismatch_keepsInv h t
  | heartbeatLate t => exact execHeartbeatLate_keepsInv h t
  | standbyResume t => exact execStandbyResume_keepsInv h t
  | dark t => exact execDark_keepsInv h t
  | darkPinLow t => exact execDarkPinLow_keepsInv h t
  | hardFault t pool unit part => exact execHardFault_keepsInv h t pool unit part
  | hbmStackLost t k => exact execHbmStackLost_keepsInv h t k
  | wake t x => exact execWake_keepsInv h t x
  | guardReset t x => exact execGuardReset_keepsInv h t x
  | porstAssert t => exact execPorstAssert_keepsInv h t
  | porstRelease t straps => exact execPorstRelease_keepsInv h t straps
  | warmrstAssert t => exact execWarmrstAssert_keepsInv h t
  | warmrstRelease t => exact execWarmrstRelease_keepsInv h t
  | guardResetEnd t => exact execGuardResetEnd_keepsInv h t
  | firmwareVerified t failA passB => exact execFirmwareVerified_keepsInv h t failA passB
  | startDone t => exact execStartDone_keepsInv h t
  | feedApplied t f => exact execFeedApplied_keepsInv h t f
  | feedReturnStart t f => exact execFeedReturnStart_keepsInv h t f
  | collapse t hold => exact execCollapse_keepsInv h t hold
  | holdExhausted t => exact execHoldExhausted_keepsInv h t
  | trstLow t => exact execTrstLow_keepsInv h t
  | tapClock t tms tdi => exact execTapClock_keepsInv h t tms tdi
  | extest t | idcode t | samplePreload t | extestPulse t | extestTrain t | clamp t | highz t | scanStatus t | bypass t =>
    exact keepsInv_next ((h.elapse t).tapLoad _)
  | _ t => exact KeepsSpine.keepsInv (s := s.elapse t) (by simp only [exec]; simp) (h.elapse t)

/-- Settles O54: a command that moves the mode, start-up, the change of mode or device time does so within the invariant, and every other
one leaves all that the invariant reads as the passing of its ticks left it. -/
theorem everyStepKeepsTheInvariant : Obligations.EveryStepKeepsTheInvariant := by
  intro s u h hu
  unfold step at hu
  split at hu
  · next c rest hp =>
    have hr : ({ s with pending := rest } : State).Inv :=
      ⟨fun d hd => h.pending d (hp ▸ List.mem_cons_of_mem c hd), h.time, h.startUp, h.transition⟩
    exact exec_keepsInv hr c u hu
  · cases hu
    exact h.elapse 1

end Sys2Proof.Machine
end

section
/-!
The codes of the management bus (00 R16, 18 R598).
-/

namespace Sys2Proof.Machine

/-- Settles O58: the list of codes that the command tests is that of the table. -/
theorem undefinedCodesAreNotAcknowledged : Obligations.UndefinedCodesAreNotAcknowledged := by
  intro t s code hlive defined
  have hl : (s.elapse t).supply.live = true := hlive
  have hexec : exec (.mgUndefinedCommand t code) s =
      .next (if (s.elapse t).supply.live && !defined.contains code.toNat then (s.elapse t).mgSeen.say .mgNack else s.elapse t) := rfl
  rw [hexec, hl, Bool.true_and]
  constructor <;> intro hc <;> simp [hc]

end Sys2Proof.Machine
end

section
/-!
Reporting, said more closely than by `State.Reports`: it leaves the journal ring and the commands that wait as they are.
-/

namespace Sys2Proof.Machine

variable {s u v w : State}

/-- u is s but for reporting, and neither the journal ring nor a waiting command has changed. -/
structure State.Tells (u s : State) : Prop where
  reports : u.Reports s
  ring : u.jn.ring = s.jn.ring
  ringEn : u.jn.ringEn = s.jn.ringEn
  waiting : ∀ p i, (u.ring p i).waiting = (s.ring p i).waiting

theorem State.Tells.refl (s : State) : s.Tells s := ⟨.refl s, rfl, rfl, fun _ _ => rfl⟩

theorem State.Tells.trans (h : u.Tells v) (g : v.Tells w) : u.Tells w :=
  ⟨h.reports.trans g.reports, h.ring.trans g.ring, h.ringEn.trans g.ringEn, fun p i => (h.waiting p i).trans (g.waiting p i)⟩

theorem State.Tells.ite {c : Prop} [Decidable c] (h : u.Tells s) (g : v.Tells s) : (if c then u else v).Tells s := by
  split <;> assumption

/-- What holds of every step of a fold holds of the fold. -/
theorem State.Tells.foldl {α : Type} {f : State → α → State} (h : ∀ t x, (f t x).Tells t) (l : List α) (s : State) :
    (l.foldl f s).Tells s := by
  induction l generalizing s with
  | nil => exact .refl s
  | cons a l ih => exact (ih (f s a)).trans (h s a)

theorem State.say_tells (s : State) (o : Output) : (s.say o).Tells s := ⟨say_reports .., rfl, rfl, fun _ _ => rfl⟩

/-- The event windows and the sequence numbers may change. -/
theorem State.tells_of (s : State) (wd : List EvWindow) (q : Tab Nat) : State.Tells { s with windows := wd, seq := q } s :=
  ⟨reports_of s s.jn wd q, rfl, rfl, fun _ _ => rfl⟩

/-- A port that keeps its configuration, and each ring of it its shape and its waiting command. -/
theorem State.setPort_tells (s : State) (p : Nat) (x : Port) (h : x.config = (s.port p).config)
    (g : ∀ i, (x.ring i).shape = ((s.port p).ring i).shape ∧ (x.ring i).waiting = ((s.port p).ring i).waiting) :
    (s.setPort p x).Tells s := by
  refine ⟨setPort_reports s p x h (fun i => (g i).1), rfl, rfl, fun q i => ?_⟩
  by_cases hq : q = p
  · subst hq; simpa [State.ring] using (g i).2
  · simp [State.ring, State.port_setPort_other, hq]

theorem State.setRing_tells (s : State) (p i : Nat) (r : Ring) (h : r.shape = (s.ring p i).shape)
    (g : r.waiting = (s.ring p i).waiting) : (s.setRing p i r).Tells s := by
  refine setPort_tells s p _ rfl (fun j => ?_)
  by_cases hj : j = i
  · subst hj; simpa [State.ring] using ⟨h, g⟩
  · simp [Port.ring_setRing_other, hj]

theorem State.modRing_tells (s : State) (p i : Nat) (f : Ring → Ring) (h : ∀ r, (f r).shape = r.shape ∧ (f r).waiting = r.waiting) :
    (s.modRing p i f).Tells s := setRing_tells s p i _ (h _).1 (h _).2

theorem State.modPort_tells (s : State) (p : Nat) (f : Port → Port) (h : ∀ x, (f x).config = x.config ∧ (f x).rings = x.rings) :
    (s.modPort p f).Tells s :=
  setPort_tells s p _ (h _).1 (fun i => by simp [Port.ring, (h _).2])

/-! ### Interrupts and event records -/

theorem State.sendVector_tells (s : State) (p v : Nat) : (s.sendVector p v).Tells s := by
  unfold State.sendVector
  exact .ite (setPort_tells _ _ _ rfl fun _ => ⟨rfl, rfl⟩) ((say_tells ..).trans (setPort_tells _ _ _ rfl fun _ => ⟨rfl, rfl⟩))

theorem State.signalVector_tells (s : State) (p v : Nat) : (s.signalVector p v).Tells s := by
  unfold State.signalVector
  dsimp only
  split
  · exact .refl s
  · split
    · exact .ite (setPort_tells _ _ _ rfl fun _ => ⟨rfl, rfl⟩) (sendVector_tells ..)
    · exact sendVector_tells ..

theorem State.fireRing_tells (s : State) (p i : Nat) : (s.fireRing p i).Tells s := by
  unfold State.fireRing
  exact .ite (.refl s) (.ite (modRing_tells _ _ _ _ fun _ => ⟨rfl, rfl⟩) (.ite (signalVector_tells ..)
    (.ite (setPort_tells _ _ _ rfl fun _ => ⟨rfl, rfl⟩) ((say_tells ..).trans (setPort_tells _ _ _ rfl fun _ => ⟨rfl, rfl⟩)))))

theorem State.moderate_tells (s : State) (p i : Nat) (b : Bool) : (s.moderate p i b).Tells s := by
  have fired : ((s.setRing p i { s.ring p i with timer := none, count := 0 }).fireRing p i).Tells s :=
    (fireRing_tells ..).trans (setRing_tells _ _ _ _ (by rfl) (by rfl))
  unfold State.moderate
  exact .ite fired (.ite fired (setRing_tells _ _ _ _ rfl rfl))

theorem State.writeEntry_tells (s : State) (p i : Nat) (b : List Byte) : (s.writeEntry p i b).Tells s :=
  (moderate_tells ..).trans ((modPort_tells _ _ _ (by intro; exact ⟨rfl, rfl⟩)).trans
    ((setRing_tells _ _ _ _ (by rfl) (by rfl)).trans ((say_tells ..).trans (say_tells ..))))

theorem Ring.hold_waiting (r : Ring) (e : EvRec) : (r.hold e).waiting = r.waiting := by
  unfold Ring.hold
  split <;> rfl

theorem State.putRecord_tells (s : State) (p i : Nat) (e : EvRec) : (s.putRecord p i e).Tells s := by
  have held : (s.setRing p i ((s.ring p i).hold e)).Tells s := setRing_tells _ _ _ _ (Ring.hold_shape ..) (Ring.hold_waiting ..)
  unfold State.putRecord
  dsimp only
  split
  · exact .refl s
  · exact .ite held (.refl s)
  · exact .ite (.refl s) (.ite (writeEntry_tells ..) held)

theorem State.journal_tells (s : State) (q t i d : Nat) (b : List Byte) : (s.journal q t i d b).Tells s := by
  unfold State.journal
  exact .ite (.refl s) ⟨reports_of s _ _ _, rfl, rfl, fun _ _ => rfl⟩

theorem State.journalCommand_tells (s : State) (r k : Nat) (e : Entry) (st : Nat) : (s.journalCommand r k e st).Tells s :=
  (State.Tells.foldl (fun _ _ => journal_tells ..) _ _).trans (journal_tells ..)

theorem State.journalLane_tells (s : State) (t y i d : Nat) : (s.journalLane t y i d).Tells s := by
  unfold State.journalLane
  exact .ite (journal_tells ..) (.refl s)

theorem State.makeRecord_tells (s : State) (p i : Nat) (e : EvRec) : (s.makeRecord p i e).Tells s :=
  (putRecord_tells ..).trans (tells_of s _ _)

theorem State.closeWindow_tells (s : State) (w : EvWindow) : (s.closeWindow w).Tells s := by
  unfold State.closeWindow
  split
  · exact makeRecord_tells ..
  · exact .refl s

theorem State.windowed_tells (s : State) (p i : Nat) (e : EvRec) : (s.windowed p i e).Tells s := by
  unfold State.windowed
  dsimp only
  split
  · exact (makeRecord_tells ..).trans (tells_of s _ _)
  · exact .ite ((makeRecord_tells ..).trans ((closeWindow_tells ..).trans (tells_of s _ _)))
      (.ite ((makeRecord_tells ..).trans (tells_of s _ _)) (tells_of s _ _))

theorem State.recordAt_tells (s : State) (t p i c y k b d : Nat) : (s.recordAt t p i c y k b d).Tells s := by
  unfold State.recordAt
  exact .ite ((makeRecord_tells ..).trans (journalLane_tells ..)) ((windowed_tells ..).trans (journalLane_tells ..))

theorem State.record_tells (s : State) (p i c y k b d : Nat) : (s.record p i c y k b d).Tells s := recordAt_tells ..

theorem State.report_tells (s : State) (o : Option Nat) (c y k b d : Nat) : (s.report o c y k b d).Tells s := record_tells ..

theorem State.reportPorts_tells (s : State) (f : Nat → Bool) (c y k b d : Nat) : (s.reportPorts f c y k b d).Tells s :=
  State.Tells.foldl (fun _ _ => record_tells ..) _ _

/-! ### Ring commands -/

theorem State.finish_tells (s : State) (p i k : Nat) (e : Entry) (st : Status) : (s.finish p i k e st).Tells s := by
  have put (a b : Nat) (x y : List Byte) (f : Port → Port) (h : ∀ x, (f x).config = x.config ∧ (f x).rings = x.rings) :
      (((s.say (.hostWrite p a x)).say (.hostWrite p b y)).modPort p f).Tells s :=
    (modPort_tells _ _ _ h).trans ((say_tells ..).trans (say_tells ..))
  unfold State.finish
  exact .ite (.refl s) (.ite (setRing_tells _ _ _ _ rfl rfl) (.ite ((record_tells ..).trans (put _ _ _ _ _ fun _ => ⟨rfl, rfl⟩))
    (put _ _ _ _ _ fun _ => ⟨rfl, rfl⟩)))

theorem State.fetched_tells (s : State) (c : RingCmd) : (s.fetched c).Tells s :=
  (modPort_tells _ _ _ (by intro; exact ⟨rfl, rfl⟩)).trans (modRing_tells _ _ _ _ (by intro; exact ⟨rfl, rfl⟩))

theorem State.committed_tells (s : State) (c : RingCmd) (op : Nat) : (s.committed c op).Tells s := by
  unfold State.committed
  exact .ite (fetched_tells ..) ((journalCommand_tells ..).trans (fetched_tells ..))

/-- The end of a waiting command leaves the journal ring alone. -/
theorem State.finishWaiting_jn (s : State) (rid arg : Nat) (st : Status) :
    (s.finishWaiting rid arg st).jn.ring = s.jn.ring ∧ (s.finishWaiting rid arg st).jn.ringEn = s.jn.ringEn := by
  unfold State.finishWaiting
  dsimp only
  split
  · exact ⟨rfl, rfl⟩
  · split
    · exact ⟨(finish_tells ..).ring, (finish_tells ..).ringEn⟩
    · exact ⟨rfl, rfl⟩

end Sys2Proof.Machine
end

section
/-!
The state after reset (17 R573, R587; 02 R75).
-/

namespace Sys2Proof.Machine

/-- Settles O55: the queue is empty, device time is 0, and the mode is Keep with no change of it in progress. -/
theorem resetMeetsTheInvariant : Obligations.ResetMeetsTheInvariant := by
  refine ⟨?_, rfl, rfl, rfl⟩
  exact { pending := fun _ h => absurd h List.not_mem_nil, time := Nat.two_pow_pos 96, startUp := fun _ => rfl, transition := fun _ => rfl }

end Sys2Proof.Machine
end

section
/-!
The commands of rings and ports, and the control claim (02 R75 to R77, 03 R106 to R114).
-/

namespace Sys2Proof.Machine

variable {s u v : State}

/-! ### The control claim -/

/-- Every record about the claim's new holder is a report. -/
theorem State.claimTold (s : State) (q old : Nat) (tell : List Nat) :
    (tell.foldl (fun (t : State) p => t.record p 1 3 0x0005 islandSup q old) s).Tells s :=
  State.Tells.foldl (fun _ _ => record_tells ..) _ _

theorem State.journalClaim_reports (s : State) (q : Nat) : (s.journalClaim q).Reports s := by
  unfold State.journalClaim
  exact .dite ((record_reports ..).trans (reports_of s _ _ _)) (.refl s)

theorem State.giveClaim_reports (s : State) (q : Nat) (tell : List Nat) :
    (s.giveClaim q tell).Reports { s with claim := some q, claimLast := q } :=
  (journalClaim_reports ..).trans (claimTold ..).reports

/-- The journal ring stays enabled only on the port that holds the claim (16 R554). -/
theorem State.journalClaim_jn (s : State) (q : Nat) : (s.journalClaim q).jn.ring = s.jn.ring ∧
    (s.journalClaim q).jn.ringEn = (s.jn.ringEn && s.jn.ring / 1024 == q) := by
  unfold State.journalClaim
  split
  · next h =>
    have off : (s.jn.ring / 1024 == q) = false := by simp_all
    exact ⟨(record_tells ..).ring, (record_tells ..).ringEn.trans (by rw [off, Bool.and_false])⟩
  · next h =>
    refine ⟨rfl, ?_⟩
    cases hr : s.jn.ringEn <;> simp_all

theorem State.giveClaim_jn (s : State) (q : Nat) (tell : List Nat) : (s.giveClaim q tell).jn.ring = s.jn.ring ∧
    (s.giveClaim q tell).jn.ringEn = (s.jn.ringEn && s.jn.ring / 1024 == q) := by
  have told := State.claimTold { s with claim := some q, claimLast := q } q (s.claim.getD s.claimLast) tell
  obtain ⟨hr, he⟩ := State.journalClaim_jn (tell.foldl (fun (t : State) p => t.record p 1 3 0x0005 islandSup q (s.claim.getD s.claimLast))
    { s with claim := some q, claimLast := q }) q
  exact ⟨hr.trans told.ring, he.trans (by rw [told.ring, told.ringEn])⟩

theorem State.checkInta_tells (s : State) (p : Nat) : (s.checkInta p).Tells s := by
  unfold State.checkInta
  exact .ite ((say_tells ..).trans (setPort_tells _ _ _ rfl fun _ => ⟨rfl, rfl⟩)) (.refl s)

/-! ### The ring of the command itself -/

theorem Ring.kind_of_shape {x y : Ring} (h : x.shape = y.shape) : x.kind = y.kind := (congrArg Ring.kind h : x.shape.kind = y.shape.kind)

theorem State.fetched_ring_shape (s : State) (c : RingCmd) (p i : Nat) : ((s.fetched c).ring p i).shape = (s.ring p i).shape :=
  ((s.fetched_reports c).2.2 p).2 i

/-- The ring that offers a command is a command ring in service (03 R91). -/
theorem State.fetchable_ring {c : RingCmd} (h : s.fetchable c = true) : (s.ring c.p c.i).live = true ∧ (s.ring c.p c.i).kind = 1 := by
  simp only [State.fetchable, Bool.and_eq_true, beq_iff_eq] at h
  exact ⟨h.1.1.1.1.2, h.1.1.1.2⟩

theorem State.setRing_ring_other (s : State) (p : Nat) {i j : Nat} (r : Ring) (h : j ≠ i) : (s.setRing p i r).ring p j = s.ring p j := by
  simp [State.ring, State.setRing, State.modPort, Port.ring_setRing_other _ _ h]

/-- No check of an accepted command fails: those of its rings and of its object's state (03 R112). -/
theorem Checks.rings_of_first {k : Checks} {s : State} {p op : Nat} {e : Entry} (h : k.first s p op e = none) : k.rings = none :=
  firstSome_none h _ (by simp)

/-- A command that changes ring i of its port, which is not the command's own ring. -/
theorem command_sets_ring {c : RingCmd} {op : Nat} {chk : State → Checks} {eff : State → State × Done} {i : Nat} (r : Ring)
    (h : s.Accepts c op chk) (hi : i ≠ c.i) (g : ∀ v, v.Reports s → (eff v).1.Reports (s.setRing c.p i r) ∧ (eff v).2 = .ok) :
    ∃ u, s.command c op chk eff = .next u ∧ u.Reports (s.setRing c.p i r) ∧ u.Completed s c .success := by
  refine command_does _ h g rfl ?_ ?_
  · simp [State.setRing, State.modPort, Port.setRing, RingCmd.p, Port.canWrite]
  · exact congrArg Ring.shape (s.setRing_ring_other c.p r (Ne.symm hi))

/-! ### The commands -/

theorem ringCreate_other {c : RingCmd} (h : s.Accepts c 0x02 (ringCreateChecks c)) : bitsAt c.e 8 2 0 10 ≠ c.i := by
  intro hi
  have live : ((s.fetched c).ring c.p c.i).live = true :=
    (Ring.live_of_shape (s.fetched_ring_shape c c.p c.i)).trans (State.fetchable_ring h.1).1
  have state := Checks.state_of_first h.2
  simp [ringCreateChecks, hi, live] at state

theorem ringDestroy_other {c : RingCmd} (h : s.Accepts c 0x03 (ringDestroyChecks c)) : bitsAt c.e 8 2 0 10 ≠ c.i := by
  intro hi
  have state := Checks.state_of_first h.2
  simp [ringDestroyChecks, hi] at state

theorem ringModerate_other {c : RingCmd} (h : s.Accepts c 0x04 (ringModerateChecks c)) : bitsAt c.e 8 2 0 10 ≠ c.i := by
  intro hi
  have kind : ((s.fetched c).ring c.p c.i).kind = 1 :=
    (Ring.kind_of_shape (s.fetched_ring_shape c c.p c.i)).trans (State.fetchable_ring h.1).2
  have rings := Checks.rings_of_first h.2
  simp [ringModerateChecks, hi, kind, hostFilled] at rings

/-- An entry with an undefined opcode completes with BAD_OPCODE (03 R106). -/
theorem undefinedOpcode_completes {c : RingCmd} (h : s.fetchable c = true) :
    ((s.fetched c).settle c (s.ring c.p c.i).d (.status ⟨1, 0⟩)).Completed s c ⟨1, 0⟩ := by
  obtain ⟨hl, hw, hm⟩ := State.fetchable_live h
  have hr := s.fetched_reports c
  have shape := s.fetched_ring_shape c c.p c.i
  exact State.finish_completed _ s c _ ((Ring.live_of_shape shape).trans hl) (by rwa [hr.mode])
    ((Port.canWrite_of_config (hr.2.2 _).1).trans hw) (Ring.addr_of_shape shape _)

/-- What CLAIM_PASS leaves of the claim (02 R75, R672). -/
def State.claimPassed (s : State) (p q : Nat) : State := if q = p then s else { s with claim := some q, claimLast := q }

theorem claimPassEffect_reports {c : RingCmd} (h : v.Reports s) :
    (claimPassEffect c v).1.Reports (s.claimPassed c.p (bitsAt c.e 8 1 0 2)) := by
  simp only [claimPassEffect, State.claimPassed]
  split
  · exact h
  · exact (State.giveClaim_reports ..).trans (h.map (fun s => { s with claim := some (bitsAt c.e 8 1 0 2), claimLast := bitsAt c.e 8 1 0 2 })
      fun _ _ _ _ _ _ => rfl)

/-- After CLAIM_PASS the journal ring is enabled only if it was, and then the claim has not left its port (16 R554). -/
theorem claimPassEffect_ringEn (c : RingCmd) (h : (claimPassEffect c v).1.jn.ringEn = true) :
    v.jn.ringEn = true ∧ (bitsAt c.e 8 1 0 2 = c.p ∨ v.jn.ring / 1024 = bitsAt c.e 8 1 0 2) := by
  simp only [claimPassEffect] at h
  split at h
  · next hq => exact ⟨h, .inl hq⟩
  · rw [(State.giveClaim_jn ..).2, Bool.and_eq_true, beq_iff_eq] at h
    exact ⟨h.1, .inr h.2⟩

theorem claimPass_does {c : RingCmd} (h : s.Accepts c 0x06 (claimPassChecks c)) :
    ∃ u, s.command c 0x06 (claimPassChecks c) (claimPassEffect c) = .next u ∧
      u.Reports (s.claimPassed c.p (bitsAt c.e 8 1 0 2)) ∧
      (u.jn.ringEn = true → s.jn.ringEn = true ∧ (bitsAt c.e 8 1 0 2 = c.p ∨ s.jn.ring / 1024 = bitsAt c.e 8 1 0 2)) ∧
      u.Completed s c .success := by
  have same : (s.claimPassed c.p (bitsAt c.e 8 1 0 2)).mode = s.mode ∧ (s.claimPassed c.p (bitsAt c.e 8 1 0 2)).ports = s.ports := by
    unfold State.claimPassed; split <;> exact ⟨rfl, rfl⟩
  obtain ⟨u, hu, hr, hc⟩ := command_does' _ h (fun v hv => ⟨claimPassEffect_reports (c := c) hv, rfl⟩) same.1 same.2
  refine ⟨u, hu, hr, fun hj => ?_, hc⟩
  rw [State.command_accepted (claimPassEffect c) h] at hu
  cases hu
  have before := s.committed_tells c 0x06
  have after := State.finish_tells (claimPassEffect c (s.committed c 0x06)).1 c.ring.port c.ring.idx
    (s.ring c.ring.port c.ring.idx).d c.e .success
  have kept := claimPassEffect_ringEn c (after.ringEn.symm.trans hj)
  rwa [before.ringEn, before.ring] at kept

/-- Settles O4: the effect of each command, on a ring that is not the command's own, is its statement but for reporting. -/
theorem ringPortAndClaimCommands : Obligations.RingPortAndClaimCommands := by
  refine ⟨fun t c s0 => ⟨fun h => ?_, fun h => ?_, fun h => ?_, fun h => ?_, fun h => ?_, fun h => ?_⟩, fun t c s0 h => claimPass_does h⟩
  · exact command_does' _ h (fun v hv => ⟨hv, rfl⟩) rfl rfl
  · have hx : exec (.undefinedOpcode t c) s0 =
        .next (((s0.elapse t).fetched c).settle c ((s0.elapse t).ring c.p c.i).d (.status ⟨1, 0⟩)) := if_pos h
    exact ⟨_, hx, (State.settle_reports ..).trans (State.fetched_reports ..), undefinedOpcode_completes h⟩
  · exact command_sets_ring _ h (ringCreate_other h) (fun v hv => ⟨hv.setRing _ _ rfl, rfl⟩)
  · exact command_sets_ring _ h (ringDestroy_other h) (fun v hv => ⟨(State.checkInta_tells ..).reports.trans (hv.setRing _ _ rfl), rfl⟩)
  · refine command_sets_ring _ h (ringModerate_other h) (fun v hv => ⟨hv.setRing _ _ ?_, rfl⟩)
    exact congrArg (fun r : Ring => { r with vector := bitsAt c.e 0xA 2 0 11, holdoff := fld c.e 0xC 2, threshold := fld c.e 0xE 2 })
      ((hv.2.2 _).2 _)
  · refine command_does _ h (fun v hv => ⟨hv.setPort _ ?_ fun i => (hv.2.2 _).2 i, rfl⟩) rfl ?_ ?_
    · exact congrArg (fun x : Port => { x with pollInterval := fld c.e 8 2 }) (hv.2.2 c.p).1
    · simp [State.modPort, RingCmd.p, Port.canWrite]
    · simp [State.modPort, State.ring, RingCmd.p, Port.ring]

end Sys2Proof.Machine
end

section
/-!
What happens to the streams, channels, sequencers and targets of a host port leaves the ports, the claim and the translation entries.
-/

namespace Sys2Proof.Machine

variable {s u v : State}

/-- A port's configuration without the marks of what has been reported once. -/
def Port.standing (x : Port) : Port := { x.config with degraded := false, reported := false, spoolHigh := false }

/-- Where the host ports stand: the claim, the journal ring, the translation entries, each port and its rings but for reporting, and the
owners of sconces and lanes. -/
@[ext] structure Footing where
  claim : Option Nat
  journalRing : Nat
  journalOn : Bool
  map : List MapEntry
  port : Nat → Port
  ring : Nat → Nat → Ring
  sconce : Nat → Option Nat
  lane : Nat → Option Nat

/-- Where the host ports of a state stand. -/
def State.footing (s : State) : Footing where
  claim := s.claim
  journalRing := s.jn.ring
  journalOn := s.jn.ringEn
  map := s.map
  port := fun p => (s.port p).standing
  ring := fun p i => (s.ring p i).shape
  sconce := fun k => (s.sconce k).owner
  lane := fun l => (s.lane l).owner

theorem Port.standing_of_config {x y : Port} (h : x.config = y.config) : x.standing = y.standing :=
  congrArg (fun z : Port => { z with degraded := false, reported := false, spoolHigh := false }) h

theorem State.Reports.footing_but (h : u.Reports s) :
    u.footing = { s.footing with journalRing := u.jn.ring, journalOn := u.jn.ringEn } := by
  obtain ⟨⟨_, _, _, _, _, rfl⟩, -, hp⟩ := h
  have port : (fun p => (State.port _ p).standing) = fun p => (s.port p).standing := funext fun p => Port.standing_of_config (hp p).1
  have ring : (fun p i => (State.ring _ p i).shape) = fun p i => (s.ring p i).shape := funext fun p => funext (hp p).2
  exact Footing.ext rfl rfl rfl rfl port ring rfl rfl

theorem State.Reports.footing (h : u.Reports s) (hr : u.jn.ring = s.jn.ring) (he : u.jn.ringEn = s.jn.ringEn) :
    u.footing = s.footing := by
  rw [h.footing_but, hr, he]
  rfl

theorem State.Tells.footing (h : u.Tells s) : u.footing = s.footing := h.reports.footing h.ring h.ringEn

@[simp] theorem State.footing_ite (c : Prop) [Decidable c] (s u : State) :
    (if c then s else u).footing = if c then s.footing else u.footing := apply_ite ..

@[simp] theorem State.foldl_footing {α : Type} {f : State → α → State} (h : ∀ t x, (f t x).footing = t.footing) (l : List α) (s : State) :
    (l.foldl f s).footing = s.footing := by
  induction l generalizing s with
  | nil => rfl
  | cons a l ih => exact (ih _).trans (h s a)

/-! ### What every family shares -/

@[simp] theorem State.say_footing (s : State) (o : Output) : (s.say o).footing = s.footing := rfl
@[simp] theorem State.setStream_footing (s : State) (n : Nat) (x : Stream) : (s.setStream n x).footing = s.footing := rfl
@[simp] theorem State.modStream_footing (s : State) (n : Nat) (f : Stream → Stream) : (s.modStream n f).footing = s.footing := rfl
@[simp] theorem State.setChannel_footing (s : State) (n : Nat) (x : Channel) : (s.setChannel n x).footing = s.footing := rfl
@[simp] theorem State.setSeq_footing (s : State) (q : Nat) (x : Sequencer) : (s.setSeq q x).footing = s.footing := rfl
@[simp] theorem State.setTarget_footing (s : State) (g : Nat) (x : Target) : (s.setTarget g x).footing = s.footing := rfl
@[simp] theorem State.setGio_footing (s : State) (g : Nat) (x : Gio) : (s.setGio g x).footing = s.footing := rfl

theorem State.setPort_footing (s : State) (p : Nat) {x : Port} (h : x.standing = (s.port p).standing) (g : x.rings = (s.port p).rings) :
    (s.setPort p x).footing = s.footing := by
  have port : (fun q => ((s.setPort p x).port q).standing) = fun q => (s.port q).standing := by
    funext q
    by_cases hq : q = p
    · subst hq; simpa using h
    · rw [s.port_setPort_other x hq]
  have ring : (fun q i => ((s.setPort p x).ring q i).shape) = fun q i => (s.ring q i).shape := by
    funext q i
    by_cases hq : q = p
    · subst hq; simp [State.ring, Port.ring, g]
    · simp [State.ring, s.port_setPort_other x hq]
  exact Footing.ext rfl rfl rfl rfl port ring rfl rfl

theorem State.modSconce_footing (s : State) (k : Nat) {f : Sconce → Sconce} (h : ∀ x, (f x).owner = x.owner) :
    (s.modSconce k f).footing = s.footing := by
  have owner : (fun j => ((s.modSconce k f).sconce j).owner) = fun j => (s.sconce j).owner := by
    funext j
    by_cases hj : j = k
    · subst hj; simp [State.modSconce, h]
    · simp [State.modSconce, State.sconce_setSconce_other _ _ hj]
  exact Footing.ext rfl rfl rfl rfl rfl rfl owner rfl

@[simp] theorem State.record_footing (s : State) (p i c y k b d : Nat) : (s.record p i c y k b d).footing = s.footing :=
  (record_tells ..).footing

@[simp] theorem State.recordAt_footing (s : State) (t p i c y k b d : Nat) : (s.recordAt t p i c y k b d).footing = s.footing :=
  (recordAt_tells ..).footing

@[simp] theorem State.report_footing (s : State) (o : Option Nat) (c y k b d : Nat) : (s.report o c y k b d).footing = s.footing :=
  (report_tells ..).footing

@[simp] theorem State.reportPorts_footing (s : State) (f : Nat → Bool) (c y k b d : Nat) :
    (s.reportPorts f c y k b d).footing = s.footing := (reportPorts_tells ..).footing

@[simp] theorem State.journal_footing (s : State) (q t i d : Nat) (b : List Byte) : (s.journal q t i d b).footing = s.footing :=
  (journal_tells ..).footing

@[simp] theorem State.finishWaiting_footing (s : State) (rid arg : Nat) (st : Status) :
    (s.finishWaiting rid arg st).footing = s.footing :=
  (finishWaiting_reports ..).footing (s.finishWaiting_jn rid arg st).1 (s.finishWaiting_jn rid arg st).2

/-! ### Streams (14) -/

@[simp] theorem State.ringEvent_footing (s : State) (r c y k b d : Nat) : (s.ringEvent r c y k b d).footing = s.footing := record_footing ..
@[simp] theorem State.streamEvent_footing (s : State) (n c y d : Nat) : (s.streamEvent n c y d).footing = s.footing := ringEvent_footing ..

@[simp] theorem State.moverEventAt_footing (s : State) (t n c y d : Nat) : (s.moverEventAt t n c y d).footing = s.footing :=
  recordAt_footing ..

@[simp] theorem State.streamCount_footing (s : State) (n c k : Nat) : (s.streamCount n c k).footing = s.footing := rfl

@[simp] theorem State.spoolLevel_footing (s : State) (p : Nat) : (s.spoolLevel p).footing = s.footing := by
  have mark (b : Bool) : (s.setPort p { s.port p with spoolHigh := b }).footing = s.footing := s.setPort_footing p rfl rfl
  unfold State.spoolLevel
  simp [mark]

@[simp] theorem State.spoolLevels_footing (s : State) : s.spoolLevels.footing = s.footing := foldl_footing (fun _ _ => spoolLevel_footing ..) ..

@[simp] theorem State.stopsDone_footing (s : State) (cs : List (Nat × Nat)) : (s.stopsDone cs).footing = s.footing :=
  foldl_footing (fun _ _ => finishWaiting_footing ..) ..

@[simp] theorem State.letGo_footing (s : State) (k : Nat) : (s.letGo k).footing = s.footing := s.modSconce_footing k fun _ => rfl

@[simp] theorem State.streamFreed_footing (s : State) (n : Nat) : (s.streamFreed n).footing = s.footing := by
  simp [State.streamFreed]

@[simp] theorem State.failOver_footing (s : State) (n : Nat) : (s.failOver n).footing = s.footing := by
  unfold State.failOver
  dsimp only
  split <;> simp

@[simp] theorem State.moveCut_footing (s : State) (n p : Nat) : (s.moveCut n p).footing = s.footing := by
  unfold State.moveCut
  dsimp only
  split <;> simp

@[simp] theorem State.streamPortLost_footing (s : State) (n p : Nat) : (s.streamPortLost n p).footing = s.footing := by
  simp [State.streamPortLost]

@[simp] theorem State.blockStream_footing (s : State) (n c t : Nat) : (s.blockStream n c t).footing = s.footing := by
  simp [State.blockStream]

@[simp] theorem State.stallStream_footing (s : State) (n d : Nat) : (s.stallStream n d).footing = s.footing := by
  simp [State.stallStream]

@[simp] theorem State.portStall_footing (s : State) (p n : Nat) : (s.portStall p n).footing = s.footing := by
  unfold State.portStall
  dsimp only
  rw [footing_ite, moveCut_footing, ite_self]
  split
  · simp
  · simp

@[simp] theorem State.portStalls_footing (s : State) (p : Nat) : (s.portStalls p).footing = s.footing :=
  foldl_footing (fun _ _ => portStall_footing ..) ..

@[simp] theorem State.shed_footing (s : State) (p : Nat) (l gone : List Nat) : (s.shed p l gone).1.footing = s.footing := by
  induction l generalizing s gone with
  | nil => rfl
  | cons n l ih =>
    unfold State.shed
    dsimp only
    split
    · rfl
    · split
      · exact ih ..
      · exact ih ..

@[simp] theorem State.shortStall_footing (s : State) (n d : Nat) : (s.shortStall n d).footing = s.footing := by
  simp [State.shortStall]

@[simp] theorem State.recheck_footing (s : State) (p : Nat) : (s.recheck p).footing = s.footing := by
  simp [State.recheck]

/-! ### Channels, sequencers and targets (12, 13) -/

@[simp] theorem State.retireSlot_footing (b : Bool) (s : State) (n k : Nat) : (s.retireSlot b n k).footing = s.footing := rfl

@[simp] theorem State.freeChannel_footing (s : State) (n : Nat) : (s.freeChannel n).footing = s.footing := by
  unfold State.freeChannel
  dsimp only
  rw [setChannel_footing]
  exact foldl_footing (fun _ _ => retireSlot_footing ..) ..

@[simp] theorem State.freeSlot_footing (s : State) (h : Hap) : (s.freeSlot h).footing = s.footing := by
  unfold State.freeSlot
  split <;> rfl

@[simp] theorem State.haltReport_footing (s : State) (q : Nat) : (s.haltReport q).footing = s.footing := by
  simp [State.haltReport, State.trigRecord, State.haltSeq]

@[simp] theorem State.seqReleased_footing (s : State) (q : Nat) : (s.seqReleased q).footing = s.footing := by
  simp [State.seqReleased]

@[simp] theorem State.drive_footing (s : State) (g i : Nat) (level : Bool) : (s.drive g i level).footing = s.footing := by
  simp [State.drive]

theorem tabFind_map {α : Type} (t : Tab α) (f : Nat → α → α) (k : Nat) : tabFind (tabMap t f) k = (tabFind t k).map (f k) := by
  induction t with
  | nil => rfl
  | cons x t ih =>
    simp only [tabMap, List.map_cons, tabFind]
    split
    · next h => subst h; rfl
    · exact ih

/-- Changing every listed object changes what each number reads, when the change leaves the default as it is. -/
theorem tabGet_map {α : Type} (d : α) (t : Tab α) (f : Nat → α → α) (k : Nat) (h : f k d = d) :
    tabGet d (tabMap t f) k = f k (tabGet d t k) := by
  unfold tabGet
  rw [tabFind_map]
  cases tabFind t k with
  | none => exact h.symm
  | some a => rfl

/-- Every sconce may change, but for its owner. -/
theorem State.tabMap_sconces_footing (s : State) {f : Nat → Sconce → Sconce} (h : ∀ k x, (f k x).owner = x.owner)
    (hd : ∀ k, f k Sconce.reset = Sconce.reset) : State.footing { s with sconces := tabMap s.sconces f } = s.footing := by
  have owner : (fun k => (tabGet Sconce.reset (tabMap s.sconces f) k).owner) = fun k => (s.sconce k).owner :=
    funext fun k => (congrArg Sconce.owner (tabGet_map _ _ _ k (hd k))).trans (h ..)
  exact Footing.ext rfl rfl rfl rfl rfl rfl owner rfl

@[simp] theorem State.targetReleased_footing (s : State) (g : Nat) : (s.targetReleased g).footing = s.footing := by
  unfold State.targetReleased
  dsimp only
  rw [setTarget_footing, tabMap_sconces_footing]
  · simp
  · intros; rfl
  · intros; rfl

@[simp] theorem State.freeTables_footing (s : State) : s.freeTables.footing = s.footing := rfl

end Sys2Proof.Machine
end

section
/-!
The readiness and the resets of a host port (02 R54 to R59, R77).
-/

namespace Sys2Proof.Machine

variable {s u v : State}

/-! ### What the host's requests meet (02 R46, R54) -/

theorem State.answers_iff (s : State) (p : Nat) : s.answers p = true ↔ (s.port p).link = .up ∧ (s.port p).ready = true := by
  simp [State.answers]

theorem State.configRequest_ready {p : Nat} (h : s.answers p = true) (f : State → State) : s.configRequest p f = f s := by
  obtain ⟨hl, hr⟩ := (s.answers_iff p).1 h
  simp [State.configRequest, hl, hr]

theorem State.configRequest_retry {p : Nat} (hl : (s.port p).link = .up) (hr : (s.port p).ready = false) (f : State → State) :
    s.configRequest p f = s.say (.answer p .retryStatus) := by
  simp [State.configRequest, hl, hr]

/-! ### What a port held while it could not write (02 R58, R59, R66, R68) -/

theorem State.flushPending_reports (s : State) (p : Nat) : (s.flushPending p).Reports s := by
  unfold State.flushPending
  refine .dite (.refl s) (State.Reports.foldl (fun _ _ => (sendVector_reports ..).trans (modPort_reports _ _ _ ?_ ?_)) _ _)
  all_goals intro; rfl

theorem State.signalFired_reports (s : State) (p : Nat) : (s.signalFired p).Reports s :=
  State.Reports.foldl (fun _ _ => (fireRing_reports ..).trans (modRing_reports _ _ _ _ (by intro; rfl))) _ _

theorem State.flushPort_reports (s : State) (p : Nat) : (s.flushPort p).Reports s := by
  refine (signalFired_reports ..).trans ((flushPending_reports ..).trans (State.Reports.foldl (fun t i => ?_) _ _))
  exact (drainRing_reports ..).trans ((State.Reports.foldl (fun _ _ => finish_reports ..) _ _).trans (setRing_reports _ _ _ _ rfl))

/-! ### The control claim -/

/-- The claim passes with reports alone, but for the journal ring (02 R75, 16 R554). -/
theorem State.giveClaim_footing (s : State) (q : Nat) (tell : List Nat) : (s.giveClaim q tell).footing =
    { s.footing with claim := some q, journalOn := s.jn.ringEn && s.jn.ring / 1024 == q } := by
  rw [(s.giveClaim_reports q tell).footing_but, (s.giveClaim_jn q tell).1, (s.giveClaim_jn q tell).2]
  rfl

theorem State.claimReturn_footing (s : State) (p : Nat) :
    ∃ c on, (s.claimReturn p).footing = { s.footing with claim := c, journalOn := on } := by
  unfold State.claimReturn
  split
  · exact ⟨_, _, s.giveClaim_footing p [p]⟩
  · exact ⟨_, _, rfl⟩

/-- The claim has left a port whose command ring left service (02 R77). -/
theorem State.claimLost_footing (s : State) (p : Nat) : ∃ c on, c ≠ some p ∧ (on = true → s.jn.ringEn = true) ∧
    (s.claimLost p).footing = { s.footing with claim := c, journalOn := on } := by
  unfold State.claimLost
  split
  · split
    · next q l hq =>
      have hm : q ∈ portNumbers.filter (fun q => q != p && (s.ring q 0).live) := hq ▸ List.mem_cons_self
      have hne : q ≠ p := by simpa using (Bool.and_eq_true_iff.1 (List.mem_filter.1 hm).2).1
      exact ⟨_, _, fun h => hne (Option.some.inj h), fun h => (Bool.and_eq_true_iff.1 h).1, s.giveClaim_footing q [q]⟩
    · exact ⟨none, _, nofun, id, rfl⟩
  · next hc => exact ⟨_, _, hc, id, rfl⟩

/-! ### The resets (02 R56, R57) -/

/-- What a port's reset takes from where the ports stand: its translation entries and its ownership. -/
def Footing.portGone (x : Footing) (p : Nat) : Footing :=
  { x with map := x.map.filter (fun m => m.port != p)
           sconce := fun k => if x.sconce k == some p then none else x.sconce k
           lane := fun l => if x.lane l == some p then none else x.lane l }

theorem State.portObjects_footing (s : State) (p : Nat) : (s.portObjects p).footing = s.footing.portGone p := by
  have lost : ((tabKeys s.streams (fun x => x.st != .free)).foldl (fun t n => t.streamPortLost n p) s).footing = s.footing :=
    foldl_footing (fun _ _ => streamPortLost_footing ..) ..
  unfold State.portObjects
  extract_lets mine s1 s2 s3 s4
  have released : s2.footing = s1.footing.portGone p := by
    have sconce : (fun k => (s2.sconce k).owner) = fun k => if (s1.sconce k).owner == some p then none else (s1.sconce k).owner := by
      funext k
      refine (congrArg Sconce.owner
        (tabGet_map Sconce.reset s1.sconces (fun _ x => if mine x.owner then { x with owner := none } else x) k rfl)).trans ?_
      exact apply_ite Sconce.owner ..
    have lane : (fun l => (s2.lane l).owner) = fun l => if (s1.lane l).owner == some p then none else (s1.lane l).owner := by
      funext l
      refine (congrArg Lane.owner
        (tabGet_map Lane.reset s1.lanes (fun _ x => if mine x.owner then { x with owner := none } else x) l rfl)).trans ?_
      exact apply_ite Lane.owner ..
    exact Footing.ext rfl rfl rfl rfl rfl rfl sconce lane
  have channels : s3.footing = s2.footing := foldl_footing (fun _ _ => freeChannel_footing ..) ..
  have sequencers : s4.footing = s3.footing := foldl_footing (fun _ _ => seqReleased_footing ..) ..
  have targets : ((tabKeys s4.targets (fun x => mine x.owner)).foldl (fun t g => t.targetReleased g) s4).footing = s4.footing :=
    foldl_footing (fun _ _ => targetReleased_footing ..) ..
  rw [freeTables_footing, targets, sequencers, channels, released, lost]

theorem State.journalRingLost_footing (s : State) (p : Nat) : (s.journalRingLost p).footing =
    { s.footing with journalOn := s.jn.ringEn && s.jn.ring / 1024 != p } := by
  unfold State.journalRingLost
  split
  · next h =>
    have on : (s.jn.ringEn && s.jn.ring / 1024 != p) = false := by simp_all
    rw [on]; rfl
  · next h =>
    have on : (s.jn.ringEn && s.jn.ring / 1024 != p) = s.jn.ringEn := by cases hr : s.jn.ringEn <;> simp_all
    rw [on]; rfl

/-- A reset leaves port p as `f` leaves its reset registers, and takes what was the port's (02 R57, R77, 17 R587). -/
theorem State.portReset_footing (s : State) (p kind : Nat) (f : Port → Port) : ∃ c on, c ≠ some p ∧
    (s.jn.ring / 1024 = p → on = false) ∧ (s.portReset p kind f).footing =
      { (s.modPort p (fun x => f x.functionReset)).footing.portGone p with claim := c, journalOn := on } := by
  unfold State.portReset
  extract_lets s1 s2 s3
  have told : s3.footing = s1.footing.portGone p := by
    rw [← portObjects_footing]
    exact (journal_footing ..).trans (reportPorts_footing ..)
  obtain ⟨c, on, hc, -, hf⟩ := s3.claimLost_footing p
  have ring : (s3.claimLost p).jn.ring = s.jn.ring :=
    (congrArg Footing.journalRing hf).trans (congrArg Footing.journalRing told)
  refine ⟨c, _, hc, fun hr => ?_, (journalRingLost_footing ..).trans (by rw [hf, told])⟩
  simp [ring, hr]

/-- What a reset of port p makes of state s, which leaves it this link and this end of a function-level reset (02 R56, R57, R77, 17 R587). -/
def State.PortGone (u s : State) (p : Nat) (link : Link) (flr : Option Nat) : Prop :=
  (∀ r, (u.ring p r).live = false) ∧ (u.port p).link = link ∧ (u.port p).ready = false ∧ (u.port p).flrUntil = flr ∧
    (u.port p).doorbell = false ∧ (u.port p).bme = false ∧ (u.port p).aerUncSev = (s.port p).aerUncSev ∧
    u.map = s.map.filter (fun m => m.port != p) ∧ u.claim ≠ some p ∧ (s.jn.ring / 1024 = p → u.jn.ringEn = false) ∧
    (∀ k, (u.sconce k).owner ≠ some p) ∧ ∀ l, (u.lane l).owner ≠ some p

/-- Whatever `f` makes of the port's link, a reset takes the rest of the port. -/
theorem portReset_gone (s : State) (p kind : Nat) (f : Port → Port) (hr : ∀ x, (f x).rings = x.rings)
    (hf : ∀ x, (f x).ready = false ∧ (f x).doorbell = x.doorbell ∧ (f x).bme = x.bme ∧ (f x).aerUncSev = x.aerUncSev) :
    (s.portReset p kind f).PortGone s p (f (s.port p).functionReset).link (f (s.port p).functionReset).flrUntil := by
  obtain ⟨c, on, hc, hon, h⟩ := s.portReset_footing p kind f
  have free (o : Option Nat) : (if o == some p then none else o) ≠ some p := by split <;> simp_all
  have hp : ((s.portReset p kind f).port p).standing = (f (s.port p).functionReset).standing :=
    (congrFun (congrArg Footing.port h) p).trans (congrArg Port.standing (State.port_setPort ..))
  have shape (r : Nat) : ((s.portReset p kind f).ring p r).shape = Ring.reset.shape := by
    refine (congrFun (congrFun (congrArg Footing.ring h) p) r).trans (congrArg Ring.shape ?_)
    simp [State.modPort, State.ring, Port.ring, hr, Port.functionReset, Port.reset, tabGet, tabFind]
  obtain ⟨ready, doorbell, bme, severity⟩ := hf (s.port p).functionReset
  generalize s.portReset p kind f = u, f (s.port p).functionReset = y at *
  refine ⟨fun r => Ring.live_of_shape (shape r), (congrArg Port.link hp).trans rfl, (congrArg Port.ready hp).trans ready,
    (congrArg Port.flrUntil hp).trans rfl, (congrArg Port.doorbell hp).trans doorbell, (congrArg Port.bme hp).trans bme,
    (congrArg Port.aerUncSev hp).trans severity, congrArg Footing.map h, (congrArg Footing.claim h).trans_ne hc,
    fun hj => (congrArg Footing.journalOn h).trans (hon hj), fun k => ?_, fun l => ?_⟩
  · exact (congrFun (congrArg Footing.sconce h) k).trans_ne (free _)
  · exact (congrFun (congrArg Footing.lane h) l).trans_ne (free _)

/-! ### The rows -/

theorem execLinkUp_trains {t : Nat} {p : Fin 4} {rate width : Nat} (hl : (s.port p).link ≠ .up) (hs : s.start.pll = true)
    (hc : (s.port p).refClk = true) (hr : legalRate rate = true) (hw : legalWidth width = true) :
    exec (.linkUp t p rate width) s =
      .next (((s.elapse t).setPort p { s.port p with link := .up, rate := rate, width := width, fullWidth := width }).reportDegraded p) := by
  refine if_pos ?_
  change ((s.port p).link != .up && s.start.pll && (s.port p).refClk && legalRate rate && legalWidth width) = true
  simp [hl, hs, hc, hr, hw]

/-- A port with its link up that is not in a function-level reset becomes ready outside Keep (02 R54). -/
theorem execPortReady_readies {t : Nat} {p : Fin 4} (hl : ((s.elapse t).port p).link = .up) (hr : ((s.elapse t).port p).ready = false)
    (hf : ((s.elapse t).port p).flrUntil = none) (hm : s.mode ≠ .keep) : exec (.portReady t p) s = .next ((s.elapse t).becomeReady p) := by
  refine if_pos ?_
  change (((s.elapse t).port p).link == .up && !((s.elapse t).port p).ready && ((s.elapse t).port p).flrUntil.isNone && s.mode != .keep) = true
  simp [hl, hr, hf, hm]

theorem State.becomeReady_eq (s : State) (p : Nat) :
    let ready := s.setPort p { s.port p with ready := true, flrUntil := none }
    let told := if (s.port p).drsEnable then ready.say (.drs p) else ready
    s.becomeReady p = if s.start.fw = .failed then told.aerUncorrectable p 22 0 else told := by
  unfold State.becomeReady
  dsimp only
  split
  · simp only [beq_iff_eq]; rfl
  · simp only [beq_iff_eq]; rfl

theorem State.d0Return_reports {p : Nat} (h : (s.port p).d3hot = true) :
    (s.d0Return p).Reports (s.setPort p { s.port p with d3hot := false }) := by
  simp only [State.d0Return, h, if_true]
  exact flushPort_reports ..

theorem State.masterOn_reports {p : Nat} (h : (s.port p).bme = false) : (s.masterOn p).Reports
    (s.setPort p { s.port p with bme := true, nextPoll := min (s.port p).nextPoll (s.ns + 1000) }) := by
  simp only [State.masterOn, h, Bool.false_eq_true, if_false]
  exact flushPort_reports ..

/-- Settles O26: a row either acts on the port alone or, as a reset, takes from where the ports stand what belonged to its port. -/
theorem portReadinessAndResets : Obligations.PortReadinessAndResets := by
  refine ⟨fun t p s => ⟨?_, ?_, ?_, ?_, ?_, ?_⟩, fun t p s => ⟨?_, ?_, ?_⟩⟩
  · exact fun rate width hl hs hc hr hw => execLinkUp_trains hl hs hc hr hw
  · refine fun hl hr hf hm => ⟨fun hfw => ?_, fun hfw => ?_⟩
    · rw [execPortReady_readies hl hr hf hm, State.becomeReady_eq]
      exact congrArg Host.Outcome.next (if_neg hfw)
    · rw [execPortReady_readies hl hr hf hm, State.becomeReady_eq]
      exact congrArg Host.Outcome.next (if_pos hfw)
  · exact fun hf => if_pos hf
  · exact fun ha hd => ⟨_, congrArg Host.Outcome.next (State.configRequest_ready ha _), State.d0Return_reports hd⟩
  · exact fun ha hb => ⟨_, congrArg Host.Outcome.next (State.configRequest_ready ha _), State.masterOn_reports hb⟩
  · exact fun hl hr =>
      ⟨congrArg Host.Outcome.next (State.configRequest_retry hl hr _), congrArg Host.Outcome.next (State.configRequest_retry hl hr _)⟩
  · intro ha
    have gone := portReset_gone (s.elapse t) p 0 (fun x => { x with ready := false, flrUntil := some ((s.elapse t).ns + 10000000) })
      (fun _ => rfl) fun _ => ⟨rfl, rfl, rfl, rfl⟩
    have link : ((s.elapse t).port p).functionReset.link = .up := ((State.answers_iff ..).1 ha).1
    exact ⟨_, congrArg Host.Outcome.next (State.configRequest_ready ha _), link ▸ gone⟩
  · exact fun hl => ⟨_, if_pos (beq_iff_eq.2 hl), portReset_gone (s.elapse t) p 1 Port.linkLost (fun _ => rfl) fun _ => ⟨rfl, rfl, rfl, rfl⟩⟩
  · exact fun hl => ⟨_, if_pos (beq_iff_eq.2 hl), portReset_gone (s.elapse t) p 2 Port.linkLost (fun _ => rfl) fun _ => ⟨rfl, rfl, rfl, rfl⟩⟩

end Sys2Proof.Machine
end

section
/-!
The set-up registers and configuration space of a host port (02 R41 to R73; 21 R664 to R669).
-/

namespace Sys2Proof.Machine

variable {s u v : State}

/-! ### Writes to BAR0 (02 R44 to R46) -/

theorem State.memoryRequest_accepted {p : Nat} (ha : s.answers p = true) (hm : (s.port p).mse = true) (h : BitVec 128) (f : State → State) :
    s.memoryRequest p h f = f s := by
  simp [State.memoryRequest, ha, hm]

theorem State.memoryRequest_unsupported {p : Nat} (ha : s.answers p = true) (hm : (s.port p).mse = false) (h : BitVec 128)
    (f : State → State) : s.memoryRequest p h f = s.aerUncorrectable p 20 h.toNat := by
  simp [State.memoryRequest, ha, hm, aerUnsupported]

/-- A write of 4 bytes to a set-up register reaches it (21 R664). -/
theorem execRegisterWrite_setup {t : Nat} {p : Fin 4} {v : BitVec 64} {h : BitVec 128} (off : BitVec 16)
    (ha : (s.elapse t).answers p = true) (hm : ((s.elapse t).port p).mse = true) (hd : s.mode ≠ .dark) (h4 : off.toNat % 4 = 0)
    (hs : off.toNat < 0x1000) :
    exec (.registerWrite t p (.bar0 off 4 v h)) s = .next ((s.elapse t).setupWrite p off.toNat (v.toNat % 2 ^ 32)) := by
  refine congrArg Host.Outcome.next ((State.memoryRequest_accepted ha hm ..).trans ?_)
  simp [State.bar0Access, State.bar0Write, h4, hs, hd]

/-! ### Set-up registers (21 R665, R667, R668) -/

section
variable {p w : Nat} (hd : s.mode ≠ .dark)
include hd

theorem State.setupWrite_status (h : nbit w 17 = true) : s.setupWrite p 0x004 w = s.modPort p (fun x => { x with reject := false }) := by
  simp [State.setupWrite, hd, h]

theorem State.setupWrite_scratch : s.setupWrite p 0x00C w = s.modPort p (fun x => { x with scratch := w % 2 ^ 32 }) := by
  simp [State.setupWrite, hd]

theorem State.setupWrite_cmdLow (h : s.locked p 0 = false) : s.setupWrite p 0x020 w =
    s.modPort p (fun x => { x with cmdBase := x.cmdBase / 2 ^ 32 * 2 ^ 32 + w % 2 ^ 32 / 4096 * 4096 }) := by
  simp [State.setupWrite, hd, h]

theorem State.setupWrite_cmdHigh (h : s.locked p 0 = false) : s.setupWrite p 0x024 w =
    s.modPort p (fun x => { x with cmdBase := x.cmdBase % 2 ^ 32 + w % 2 ^ 32 * 2 ^ 32 }) := by
  simp [State.setupWrite, hd, h]

theorem State.setupWrite_evtLow (h : s.locked p 1 = false) : s.setupWrite p 0x030 w =
    s.modPort p (fun x => { x with evtBase := x.evtBase / 2 ^ 32 * 2 ^ 32 + w % 2 ^ 32 / 4096 * 4096 }) := by
  simp [State.setupWrite, hd, h]

theorem State.setupWrite_evtHigh (h : s.locked p 1 = false) : s.setupWrite p 0x034 w =
    s.modPort p (fun x => { x with evtBase := x.evtBase % 2 ^ 32 + w % 2 ^ 32 * 2 ^ 32 }) := by
  simp [State.setupWrite, hd, h]

theorem State.setupWrite_dbLow (h : s.locked p 2 = false) : s.setupWrite p 0x040 w =
    s.modPort p (fun x => { x with dbBase := x.dbBase / 2 ^ 32 * 2 ^ 32 + w % 2 ^ 32 / 4096 * 4096 }) := by
  simp [State.setupWrite, hd, h]

theorem State.setupWrite_dbHigh (h : s.locked p 2 = false) : s.setupWrite p 0x044 w =
    s.modPort p (fun x => { x with dbBase := x.dbBase % 2 ^ 32 + w % 2 ^ 32 * 2 ^ 32 }) := by
  simp [State.setupWrite, hd, h]

/-- The size of ring 0, from 6 to 16. -/
theorem State.setupWrite_cmdSize (h : s.locked p 0 = false) (h6 : 6 ≤ w % 32) (h16 : w % 32 ≤ 16) :
    s.setupWrite p 0x028 w = s.modPort p (fun x => { x with cmdSize := w % 32 }) := by
  simp [State.setupWrite, hd, h, Nat.not_lt.2 h6, Nat.not_lt.2 h16]

theorem State.setupWrite_cmdSize_range (h : s.locked p 0 = false) (hw : w % 32 < 6 ∨ 16 < w % 32) :
    s.setupWrite p 0x028 w = s.rejectWrite p 0x028 1 := by
  simp [State.setupWrite, hd, h, hw]

/-- The size of ring 1, from 6 to 16. -/
theorem State.setupWrite_evtSize (h : s.locked p 1 = false) (h6 : 6 ≤ w % 32) (h16 : w % 32 ≤ 16) :
    s.setupWrite p 0x038 w = s.modPort p (fun x => { x with evtSize := w % 32 }) := by
  simp [State.setupWrite, hd, h, Nat.not_lt.2 h6, Nat.not_lt.2 h16]

theorem State.setupWrite_evtSize_range (h : s.locked p 1 = false) (hw : w % 32 < 6 ∨ 16 < w % 32) :
    s.setupWrite p 0x038 w = s.rejectWrite p 0x038 1 := by
  simp [State.setupWrite, hd, h, hw]

/-- A locked register rejects (21 R668). -/
theorem State.setupWrite_locked {off which : Nat} (h : s.locked p which = true)
    (ho : which = 0 ∧ off ∈ [0x020, 0x024, 0x028] ∨ which = 1 ∧ off ∈ [0x030, 0x034, 0x038] ∨ which = 2 ∧ off ∈ [0x040, 0x044]) :
    s.setupWrite p off w = s.rejectWrite p off 2 := by
  simp only [List.mem_cons, List.not_mem_nil, or_false] at ho
  rcases ho with ⟨rfl, rfl | rfl | rfl⟩ | ⟨rfl, rfl | rfl | rfl⟩ | ⟨rfl, rfl | rfl⟩ <;> simp [State.setupWrite, hd, h]

/-- An undefined action of SETUP_CONTROL rejects (21 R669). -/
theorem State.setupWrite_control (h : 5 ≤ w % 8) : s.setupWrite p 0x050 w = s.rejectWrite p 0x050 1 := by
  have hw : w % 8 = 5 ∨ w % 8 = 6 ∨ w % 8 = 7 := by omega
  rcases hw with hw | hw | hw <;> simp [State.setupWrite, hd, hw]

end

/-! ### Configuration space (02 R41 to R73) -/

/-- A write to a register of the port's own configuration space (02 R54). -/
theorem execRegisterWrite_config {t : Nat} {p : Fin 4} {v : BitVec 32} (r : CfgReg) (hr : r ≠ .drsControl) :
    exec (.registerWrite t p (.config r v)) s = .next ((s.elapse t).configRequest p (fun u => u.configWrite p r v.toNat)) := by
  cases r with
  | drsControl => exact absurd rfl hr
  | _ => rfl

theorem execRegisterWrite_drs {t : Nat} {p : Fin 4} {v : BitVec 32} (hl : ((s.elapse t).port p).link = .up) :
    exec (.registerWrite t p (.config .drsControl v)) s = .next ((s.elapse t).configWrite p .drsControl v.toNat) :=
  if_pos (beq_iff_eq.2 hl)

theorem State.deviceControl_sameCapacity {p n : Nat}
    (h : Port.capacity { s.port p with relaxed := nbit n 4, mps := min 1024 (128 * 2 ^ nbits n 5 3) } = (s.port p).capacity) :
    s.deviceControl p n = s.setPort p { s.port p with relaxed := nbit n 4, mps := min 1024 (128 * 2 ^ nbits n 5 3) } := if_pos h

theorem State.msixControl_fnMask (s : State) (p n : Nat) : ((s.configWrite p .msixControl n).port p).fnMask = nbit n 14 := by
  have h := ((State.flushPending_reports (s.modPort p (fun x => { x with fnMask := nbit n 14 })) p).2.2 p).1
  exact (congrArg Port.fnMask h).trans (by simp [State.modPort, Port.config])

/-! ### Set-up actions (21 R669) -/

/-- What an accepted action does beside setting BUSY. -/
def State.actionDone (s : State) (p : Nat) : SetupAction → State
  | .bringUp => s.bringUp p
  | .takeDown => s.takeDown p
  | .restartRing0 => s.restart0 p
  | .restartRing1 => s.restart1 p

theorem State.setupAction_accepted {p : Nat} {a : SetupAction} (hd : s.mode ≠ .dark) (h : s.actionRefusal p a = none) :
    s.setupAction p a = (s.modPort p (fun x => { x with busy := some (a, s.ns + 10000) })).actionDone p a := by
  have dark : (s.mode == .dark) = false := beq_false_of_ne hd
  cases a <;> simp [State.setupAction, dark, h, State.actionDone]

theorem State.setupAction_refused {p why : Nat} {a : SetupAction} (hd : s.mode ≠ .dark) (h : s.actionRefusal p a = some why) :
    s.setupAction p a = s.rejectWrite p 0x050 why := by
  have dark : (s.mode == .dark) = false := beq_false_of_ne hd
  simp [State.setupAction, dark, h]

@[simp] theorem State.reportDegraded_footing (s : State) (p : Nat) : (s.reportDegraded p).footing = s.footing := by
  have mark (b : Bool) : (s.setPort p { s.port p with degraded := b }).footing = s.footing := s.setPort_footing p rfl rfl
  unfold State.reportDegraded
  simp [mark]

@[simp] theorem State.firstRecords_footing (s : State) (p : Nat) : (s.firstRecords p).footing = s.footing := by
  have mark : (s.modPort p (fun x => { x with reported := true })).footing = s.footing := s.setPort_footing p rfl rfl
  unfold State.firstRecords
  simp [mark]

theorem State.footing_port (h : u.footing = s.footing) (p : Nat) : (u.port p).standing = (s.port p).standing :=
  congrFun (congrArg Footing.port h) p

theorem State.footing_ring (h : u.footing = s.footing) (p i : Nat) : (u.ring p i).shape = (s.ring p i).shape :=
  congrFun (congrFun (congrArg Footing.ring h) p) i

theorem State.setRing_standing (s : State) (p i : Nat) (r : Ring) : ((s.setRing p i r).port p).standing = (s.port p).standing := by
  simp only [State.setRing, State.modPort, State.port_setPort]
  rfl

theorem State.claimReturn_port (s : State) (p q : Nat) : ((s.claimReturn p).port q).standing = (s.port q).standing := by
  obtain ⟨c, on, h⟩ := s.claimReturn_footing p
  exact congrFun (congrArg Footing.port h) q

theorem State.claimReturn_ring (s : State) (p q i : Nat) : ((s.claimReturn p).ring q i).shape = (s.ring q i).shape := by
  obtain ⟨c, on, h⟩ := s.claimReturn_footing p
  exact congrFun (congrFun (congrArg Footing.ring h) q) i

theorem State.claimLost_port (s : State) (p q : Nat) : ((s.claimLost p).port q).standing = (s.port q).standing := by
  obtain ⟨c, on, -, -, h⟩ := s.claimLost_footing p
  exact congrFun (congrArg Footing.port h) q

theorem State.claimLost_ring (s : State) (p q i : Nat) : ((s.claimLost p).ring q i).shape = (s.ring q i).shape := by
  obtain ⟨c, on, -, -, h⟩ := s.claimLost_footing p
  exact congrFun (congrFun (congrArg Footing.ring h) q) i

theorem State.claimLost_claim (s : State) (p : Nat) : (s.claimLost p).claim ≠ some p := by
  obtain ⟨c, on, hc, -, h⟩ := s.claimLost_footing p
  exact (congrArg Footing.claim h).trans_ne hc

theorem Port.ring0_of_standing {x y : Port} (h : x.standing = y.standing) : x.ring0 = y.ring0 := (congrArg Port.ring0 h :)
theorem Ring.st_of_shape {x y : Ring} (h : x.shape = y.shape) : x.st = y.st := (congrArg Ring.st h :)
theorem Port.busy_of_standing {x y : Port} (h : x.standing = y.standing) : x.busy = y.busy := (congrArg Port.busy h :)
theorem Port.doorbell_of_standing {x y : Port} (h : x.standing = y.standing) : x.doorbell = y.doorbell := (congrArg Port.doorbell h :)
theorem Port.pollInterval_of_standing {x y : Port} (h : x.standing = y.standing) : x.pollInterval = y.pollInterval :=
  (congrArg Port.pollInterval h :)

/-- BRING_UP (21 R669): the page is in service, and rings 1 and 0 as their registers give them. -/
theorem State.bringUp_port (s : State) (p : Nat) : ((s.bringUp p).port p).standing =
    Port.standing { s.port p with doorbell := true, epoch := 0, pollInterval := 5, nextPoll := s.ns, lastActive := s.ns } := by
  refine (claimReturn_port ..).trans ((setRing_standing ..).trans ((footing_port (reportDegraded_footing ..) p).trans
    ((footing_port (firstRecords_footing ..) p).trans ((setRing_standing ..).trans ?_))))
  exact congrArg Port.standing (port_setPort ..)

theorem State.bringUp_ring1 (s : State) (p : Nat) : ((s.bringUp p).ring p 1).shape = (s.port p).ring1.shape := by
  unfold State.bringUp
  extract_lets s1 s2 s3
  have ring : (s3.ring p 1).shape = (s1.port p).ring1.shape := by
    refine (footing_ring (reportDegraded_footing ..) p 1).trans ((footing_ring (firstRecords_footing ..) p 1).trans ?_)
    exact congrArg Ring.shape (ring_setRing ..)
  have port : (s1.port p).ring1 = (s.port p).ring1 := (congrArg Port.ring1 (port_setPort ..)).trans rfl
  rw [claimReturn_ring, setRing_ring_other _ _ _ (by decide), ring, port]

theorem State.bringUp_ring0 (s : State) (p : Nat) : ((s.bringUp p).ring p 0).shape = (s.port p).ring0.shape := by
  unfold State.bringUp
  extract_lets s1 s2 s3
  have port : (s3.port p).standing = (s1.port p).standing :=
    (footing_port (reportDegraded_footing ..) p).trans ((footing_port (firstRecords_footing ..) p).trans (setRing_standing ..))
  have page : (s1.port p).ring0 = (s.port p).ring0 := (congrArg Port.ring0 (port_setPort ..)).trans rfl
  rw [claimReturn_ring, ring_setRing, Port.ring0_of_standing port, page]

theorem State.takeDown_port (s : State) (p : Nat) :
    ((s.takeDown p).port p).standing = Port.standing { s.port p with doorbell := false } := by
  refine (claimLost_port ..).trans ((footing_port (checkInta_tells ..).footing p).trans ?_)
  refine (congrArg Port.standing (port_setPort ..)).trans ?_
  have h : (((s.setRing p 0 Ring.reset).setRing p 1 Ring.reset).port p).standing = (s.port p).standing :=
    (setRing_standing ..).trans (setRing_standing ..)
  exact congrArg (fun x : Port => { x with doorbell := false }) h

/-- TAKE_DOWN (21 R669): rings 0 and 1 leave service. -/
theorem State.takeDown_ring (s : State) (p i : Nat) (h : i = 0 ∨ i = 1) : ((s.takeDown p).ring p i).shape = Ring.reset.shape := by
  refine (claimLost_ring ..).trans ((footing_ring (checkInta_tells ..).footing p i).trans (congrArg Ring.shape ?_))
  have page (u : State) : (u.modPort p (fun x => { x with doorbell := false, degraded := false })).ring p i = u.ring p i := by
    simp [State.modPort, State.ring, Port.ring]
  rw [page]
  obtain rfl | rfl := h
  · rw [setRing_ring_other _ _ _ (by decide), ring_setRing]
  · rw [ring_setRing]

theorem State.restart0_port (s : State) (p : Nat) : ((s.restart0 p).port p).standing = (s.port p).standing :=
  (claimReturn_port ..).trans (setRing_standing ..)

theorem State.restart0_ring (s : State) (p : Nat) : ((s.restart0 p).ring p 0).shape = (s.port p).ring0.shape :=
  (claimReturn_ring ..).trans (congrArg Ring.shape (ring_setRing ..))

theorem State.restart1_port (s : State) (p : Nat) : ((s.restart1 p).port p).standing = (s.port p).standing :=
  (Port.standing_of_config ((drainRing_reports ..).2.2 p).1).trans (setRing_standing ..)

theorem State.restart1_ring (s : State) (p : Nat) : ((s.restart1 p).ring p 1).shape = (s.port p).ring1.shape :=
  (((drainRing_reports ..).2.2 p).2 1).trans ((congrArg Ring.shape (ring_setRing ..)).trans rfl)

section
variable {t : Nat} {p : Fin 4} {h : BitVec 128}

/-- SETUP_CONTROL's rows write the register of a port that answers, in any mode but Dark. -/
theorem State.hostAction_accepted {a : SetupAction} (ha : s.answers p = true) (hm : (s.port p).mse = true) (hd : s.mode ≠ .dark)
    (hr : s.actionRefusal p a = none) :
    s.hostAction ⟨p, h⟩ a = (s.modPort p (fun x => { x with busy := some (a, s.ns + 10000) })).actionDone p a :=
  (State.memoryRequest_accepted ha hm ..).trans (State.setupAction_accepted hd hr)

theorem State.hostAction_refused {a : SetupAction} {why : Nat} (ha : s.answers p = true) (hm : (s.port p).mse = true) (hd : s.mode ≠ .dark)
    (hr : s.actionRefusal p a = some why) : s.hostAction ⟨p, h⟩ a = s.rejectWrite p 0x050 why :=
  (State.memoryRequest_accepted ha hm ..).trans (State.setupAction_refused hd hr)

theorem State.hostAction_unsupported (a : SetupAction) (ha : s.answers p = true) (hm : (s.port p).mse = false) :
    s.hostAction ⟨p, h⟩ a = s.aerUncorrectable p 20 h.toNat := State.memoryRequest_unsupported ha hm ..

end

theorem State.modPort_busy_ring0 (s : State) (p : Nat) (b : Option (SetupAction × Nat)) :
    ((s.modPort p (fun x => { x with busy := b })).port p).ring0 = (s.port p).ring0 := (congrArg Port.ring0 (port_setPort ..)).trans rfl

theorem State.modPort_busy_ring1 (s : State) (p : Nat) (b : Option (SetupAction × Nat)) :
    ((s.modPort p (fun x => { x with busy := b })).port p).ring1 = (s.port p).ring1 := (congrArg Port.ring1 (port_setPort ..)).trans rfl

section
variable (t : Nat) (p : Fin 4) (h : BitVec 128) (ha : (s.elapse t).answers p = true) (hm : ((s.elapse t).port p).mse = true)
  (hd : s.mode ≠ .dark)
include ha hm hd

theorem execBringUp_accepted (hr : (s.elapse t).actionRefusal p .bringUp = none) : ∃ u, exec (.bringUp t ⟨p, h⟩) s = .next u ∧
    (u.port p).busy = some (.bringUp, (s.elapse t).ns + 10000) ∧ (u.ring p 0).shape = ((s.elapse t).port p).ring0.shape ∧
    (u.ring p 1).shape = ((s.elapse t).port p).ring1.shape ∧ (u.port p).doorbell = true ∧ (u.port p).pollInterval = 5 := by
  have port := State.bringUp_port ((s.elapse t).modPort p (fun x => { x with busy := some (.bringUp, (s.elapse t).ns + 10000) })) p
  refine ⟨_, congrArg Host.Outcome.next (State.hostAction_accepted ha hm hd hr), ?_, ?_, ?_, ?_, ?_⟩
  · exact (Port.busy_of_standing port).trans (congrArg Port.busy (State.port_setPort ..))
  · exact (State.bringUp_ring0 ..).trans (congrArg Ring.shape (State.modPort_busy_ring0 ..))
  · exact (State.bringUp_ring1 ..).trans (congrArg Ring.shape (State.modPort_busy_ring1 ..))
  · exact Port.doorbell_of_standing port
  · exact Port.pollInterval_of_standing port

theorem execTakeDown_accepted (hr : (s.elapse t).actionRefusal p .takeDown = none) : ∃ u, exec (.takeDown t ⟨p, h⟩) s = .next u ∧
    (u.port p).busy = some (.takeDown, (s.elapse t).ns + 10000) ∧ (u.ring p 0).st = .outOfService ∧ (u.ring p 1).st = .outOfService ∧
    (u.port p).doorbell = false := by
  have port := State.takeDown_port ((s.elapse t).modPort p (fun x => { x with busy := some (.takeDown, (s.elapse t).ns + 10000) })) p
  refine ⟨_, congrArg Host.Outcome.next (State.hostAction_accepted ha hm hd hr), ?_, ?_, ?_, ?_⟩
  · exact (Port.busy_of_standing port).trans (congrArg Port.busy (State.port_setPort ..))
  · exact Ring.st_of_shape (State.takeDown_ring _ p 0 (.inl rfl))
  · exact Ring.st_of_shape (State.takeDown_ring _ p 1 (.inr rfl))
  · exact Port.doorbell_of_standing port

theorem execRestartRing0_accepted (hr : (s.elapse t).actionRefusal p .restartRing0 = none) :
    ∃ u, exec (.restartRing0 t ⟨p, h⟩) s = .next u ∧ (u.port p).busy = some (.restartRing0, (s.elapse t).ns + 10000) ∧
      (u.ring p 0).shape = ((s.elapse t).port p).ring0.shape := by
  refine ⟨_, congrArg Host.Outcome.next (State.hostAction_accepted ha hm hd hr), ?_, ?_⟩
  · exact (Port.busy_of_standing (State.restart0_port ..)).trans (congrArg Port.busy (State.port_setPort ..))
  · exact (State.restart0_ring ..).trans (congrArg Ring.shape (State.modPort_busy_ring0 ..))

theorem execRestartRing1_accepted (hr : (s.elapse t).actionRefusal p .restartRing1 = none) :
    ∃ u, exec (.restartRing1 t ⟨p, h⟩) s = .next u ∧ (u.port p).busy = some (.restartRing1, (s.elapse t).ns + 10000) ∧
      (u.ring p 1).shape = ((s.elapse t).port p).ring1.shape := by
  refine ⟨_, congrArg Host.Outcome.next (State.hostAction_accepted ha hm hd hr), ?_, ?_⟩
  · exact (Port.busy_of_standing (State.restart1_port ..)).trans (congrArg Port.busy (State.port_setPort ..))
  · exact (State.restart1_ring ..).trans (congrArg Ring.shape (State.modPort_busy_ring1 ..))

end

/-- Settles O25: each register's write is one case of `State.setupWrite` or `State.configWrite`, and each action one of
`State.actionDone`. -/
theorem setupAndConfigurationRegisters : Obligations.SetupAndConfigurationRegisters := by
  refine ⟨?_, ?_, ?_⟩
  · intro t p s v h s1 w low high ha hm hd
    have hw : w % 2 ^ 32 = w := Nat.mod_mod _ _
    have hd : s1.mode ≠ .dark := hd
    have write (off : BitVec 16) (h4 : off.toNat % 4 = 0 ∧ off.toNat < 0x1000) {y : State} (hy : s1.setupWrite p off.toNat w = y) :
        exec (.registerWrite t p (.bar0 off 4 v h)) s = .next y :=
      (execRegisterWrite_setup off ha hm hd h4.1 h4.2).trans (congrArg _ hy)
    have lock (off : BitVec 16) {which : Nat} (hl : s1.locked p which = true)
        (ho : which = 0 ∧ off.toNat ∈ [0x020, 0x024, 0x028] ∨ which = 1 ∧ off.toNat ∈ [0x030, 0x034, 0x038] ∨
          which = 2 ∧ off.toNat ∈ [0x040, 0x044]) :
        exec (.registerWrite t p (.bar0 off 4 v h)) s = .next (s1.rejectWrite p off.toNat 2) := by
      refine write off ?_ (State.setupWrite_locked hd hl ho)
      simp only [List.mem_cons, List.not_mem_nil, or_false] at ho
      omega
    refine ⟨?_, ?_, ?_, ?_, ?_, ?_, ?_, ?_, ?_, ?_, ?_, ?_, ?_, ?_, ?_, ?_, ?_, ?_, ?_, ?_, ?_⟩
    · exact write 0x00C (by decide) ((State.setupWrite_scratch hd).trans (by rw [hw]))
    · exact fun h17 => write 0x004 (by decide) (State.setupWrite_status hd h17)
    · exact fun hl => write 0x020 (by decide) ((State.setupWrite_cmdLow hd hl).trans (by rw [hw]))
    · exact fun hl => write 0x024 (by decide) ((State.setupWrite_cmdHigh hd hl).trans (by rw [hw]))
    · exact fun hl h6 h16 => write 0x028 (by decide) (State.setupWrite_cmdSize hd hl h6 h16)
    · exact fun hl hr => write 0x028 (by decide) (State.setupWrite_cmdSize_range hd hl hr)
    · exact fun hl => write 0x030 (by decide) ((State.setupWrite_evtLow hd hl).trans (by rw [hw]))
    · exact fun hl => write 0x034 (by decide) ((State.setupWrite_evtHigh hd hl).trans (by rw [hw]))
    · exact fun hl h6 h16 => write 0x038 (by decide) (State.setupWrite_evtSize hd hl h6 h16)
    · exact fun hl hr => write 0x038 (by decide) (State.setupWrite_evtSize_range hd hl hr)
    · exact fun hl => write 0x040 (by decide) ((State.setupWrite_dbLow hd hl).trans (by rw [hw]))
    · exact fun hl => write 0x044 (by decide) ((State.setupWrite_dbHigh hd hl).trans (by rw [hw]))
    · exact fun hl => lock 0x020 hl (by decide)
    · exact fun hl => lock 0x024 hl (by decide)
    · exact fun hl => lock 0x028 hl (by decide)
    · exact fun hl => lock 0x030 hl (by decide)
    · exact fun hl => lock 0x034 hl (by decide)
    · exact fun hl => lock 0x038 hl (by decide)
    · exact fun hl => lock 0x040 hl (by decide)
    · exact fun hl => lock 0x044 hl (by decide)
    · exact fun h5 => write 0x050 (by decide) (State.setupWrite_control hd h5)
  · intro t p s v s1 x n y
    refine ⟨fun hl hr => ?_, fun hl => execRegisterWrite_drs hl, fun hl hr => congrArg _ (State.configRequest_retry hl hr _)⟩
    have write (r : CfgReg) (hr' : r ≠ .drsControl) : exec (.registerWrite t p (.config r v)) s = .next (s1.configWrite p r n) :=
      (execRegisterWrite_config r hr').trans (congrArg _ (State.configRequest_ready ((s1.answers_iff p).2 ⟨hl, hr⟩) _))
    refine ⟨write _ nofun, write _ nofun, write _ nofun, write _ nofun, write _ nofun, write _ nofun, write _ nofun, write _ nofun,
      write _ nofun, write _ nofun, write _ nofun, fun hc => ?_, _, write _ nofun, State.msixControl_fnMask ..⟩
    exact (write .deviceControl nofun).trans (congrArg _ (State.deviceControl_sameCapacity hc))
  · intro t p s h s1 x ring0 ring1 rejected
    have refused {a : SetupAction} (ha : s1.answers p = true) (hm : x.mse = true) (hd : s.mode ≠ .dark) (why : Nat)
        (hr : s1.actionRefusal p a = some why) :
        (Host.Outcome.next (s1.hostAction ⟨p, h⟩ a) : Host.Outcome State Fault Refusal) = .next (rejected why) :=
      congrArg _ (State.hostAction_refused ha hm hd hr)
    have unsupported (a : SetupAction) (ha : s1.answers p = true) (hm : x.mse = false) :
        (Host.Outcome.next (s1.hostAction ⟨p, h⟩ a) : Host.Outcome State Fault Refusal) = .next (s1.aerUncorrectable p 20 h.toNat) :=
      congrArg _ (State.hostAction_unsupported a ha hm)
    refine ⟨fun ha hm hd => ?_, fun ha hm => ?_, rfl⟩
    · exact ⟨execBringUp_accepted t p h ha hm hd, refused ha hm hd, execTakeDown_accepted t p h ha hm hd, refused ha hm hd,
        execRestartRing0_accepted t p h ha hm hd, refused ha hm hd, execRestartRing1_accepted t p h ha hm hd, refused ha hm hd⟩
    · exact ⟨unsupported _ ha hm, unsupported _ ha hm, unsupported _ ha hm, unsupported _ ha hm⟩

end Sys2Proof.Machine
end

section
/-!
The interrupts, the errors, the power states and the link of a host port (02 R45, R46, R53, R58 to R71).
-/

namespace Sys2Proof.Machine

variable {s u v w : State}

/-! ### Only the ports and what was sent -/

/-- Only the ports and what was sent out may differ. -/
def State.OnPorts (u s : State) : Prop := ∃ ports out, u = { s with ports := ports, out := out }

theorem State.OnPorts.refl (s : State) : s.OnPorts s := ⟨_, _, rfl⟩

theorem State.OnPorts.trans (h : u.OnPorts v) (g : v.OnPorts w) : u.OnPorts w := by
  obtain ⟨_, _, rfl⟩ := h
  obtain ⟨_, _, rfl⟩ := g
  exact ⟨_, _, rfl⟩

theorem State.OnPorts.eq (h : u.OnPorts s) : u = { s with ports := u.ports, out := u.out } := by obtain ⟨_, _, rfl⟩ := h; rfl

theorem State.Within.trans (h : u.Within v) (g : v.Within w) : u.Within w := by
  obtain ⟨_, _, _, _, _, rfl⟩ := h
  obtain ⟨_, _, _, _, _, rfl⟩ := g
  exact ⟨_, _, _, _, _, rfl⟩

theorem State.OnPorts.within (h : u.OnPorts s) : u.Within s := by obtain ⟨_, _, rfl⟩ := h; exact ⟨_, _, _, _, _, rfl⟩

theorem State.Reports.within (h : u.Reports s) : u.Within s := h.1

theorem State.modPort_onPorts (s : State) (p : Nat) (f : Port → Port) : (s.modPort p f).OnPorts s := ⟨_, _, rfl⟩

theorem State.setPort_setPort (s : State) (p : Nat) (x y : Port) : (s.setPort p x).setPort p y = s.setPort p y := by
  simp [State.setPort, tabPut_put]

/-! ### Interrupts (02 R66 to R70) -/

theorem State.intOff_port (s : State) (p : Nat) :
    (s.intOff p).port p = { s.port p with intDisable := true, intStatus := false, intaRings := [] } := by
  unfold State.intOff
  dsimp only
  split <;> exact State.port_setPort ..

theorem State.intOff_onPorts (s : State) (p : Nat) : (s.intOff p).OnPorts s := by
  unfold State.intOff
  dsimp only
  split <;> exact ⟨_, _, rfl⟩

theorem State.intOff_sent {p : Nat} (hi : (s.port p).intStatus = true) (hs : (s.port p).silent = false) :
    (s.intOff p).Sent (.intx p false) := by
  simp [State.intOff, hi, hs, State.Sent, State.say]

/-- The write of both enables, before what fired is signalled (02 R68). -/
theorem State.enableWrite_reports (s : State) (p : Nat) (msix disable : Bool) : ∃ v : State, (s.enableWrite p msix disable).Reports v ∧
    (v.port p).msixEnable = msix ∧ (v.port p).intDisable = disable ∧ v.Within s := by
  unfold State.enableWrite
  extract_lets s1 s2
  have one : (s1.port p).intDisable = disable ∧ s1.Within s := by
    simp only [s1]
    cases disable <;> simp only [Bool.false_eq_true, if_true, if_false]
    · exact ⟨congrArg Port.intDisable (port_setPort ..), (modPort_onPorts ..).within⟩
    · exact ⟨congrArg Port.intDisable (s.intOff_port p), (s.intOff_onPorts p).within⟩
  have two : (s2.port p).msixEnable = msix ∧ (s2.port p).intDisable = (s1.port p).intDisable ∧ s2.Within s1 := by
    simp only [s2]
    cases msix <;> simp only [Bool.false_eq_true, if_true, if_false]
    · exact ⟨congrArg Port.msixEnable (port_setPort ..), (congrArg Port.intDisable (port_setPort ..)).trans rfl, (modPort_onPorts ..).within⟩
    · have on := State.flushPending_reports (s1.modPort p (fun x => { x with msixEnable := true })) p
      have port := (on.2.2 p).1
      rw [State.modPort, port_setPort] at port
      exact ⟨congrArg Port.msixEnable port, (congrArg Port.intDisable port).trans rfl, on.within.trans (modPort_onPorts ..).within⟩
  refine ⟨s2, ?_, two.1, two.2.1.trans one.1, two.2.2.trans one.2⟩
  exact .dite (signalFired_reports ..) (.refl _)

theorem State.enableWrite_does (s : State) (p : Nat) (msix disable : Bool) :
    ((s.enableWrite p msix disable).port p).msixEnable = msix ∧ ((s.enableWrite p msix disable).port p).intDisable = disable ∧
      (s.enableWrite p msix disable).Within s := by
  obtain ⟨v, hr, hm, hd, hw⟩ := s.enableWrite_reports p msix disable
  have port := (hr.2.2 p).1
  exact ⟨(congrArg Port.msixEnable port).trans hm, (congrArg Port.intDisable port).trans hd, hr.within.trans hw⟩

/-- A vector that neither mask holds is sent at once (02 R66). -/
theorem State.sendVector_unmasked {p v : Nat} (hf : (s.port p).fnMask = false)
    (hm : (tabGet MsixEntry.reset (s.port p).msixTable v).masked = false) : s.sendVector p v =
      (s.setPort p { s.port p with vecLast := tabPut (s.port p).vecLast v s.ns }).say
        (.msix p v (tabGet MsixEntry.reset (s.port p).msixTable v).addr (tabGet MsixEntry.reset (s.port p).msixTable v).data) := by
  simp [State.sendVector, hf, hm]

/-- A vector that a mask holds becomes pending (02 R66). -/
theorem State.sendVector_masked {p v : Nat}
    (hm : (s.port p).fnMask = true ∨ (tabGet MsixEntry.reset (s.port p).msixTable v).masked = true)
    (hp : (s.port p).pba.contains v = false) : s.sendVector p v = s.setPort p { s.port p with pba := v :: (s.port p).pba } := by
  obtain h | h := hm <;> simp_all [State.sendVector]

theorem State.sendVector_onPorts (s : State) (p v : Nat) : (s.sendVector p v).OnPorts s := by
  unfold State.sendVector
  dsimp only
  split <;> exact ⟨_, _, rfl⟩

/-- A pending vector is sent. -/
def State.sendPending (p : Nat) (s : State) (v : Nat) : State :=
  (s.modPort p (fun y => { y with pba := y.pba.filter (· != v) })).sendVector p v

theorem State.sendPending_onPorts (p : Nat) (s : State) (v : Nat) : (s.sendPending p v).OnPorts s :=
  (sendVector_onPorts ..).trans (modPort_onPorts ..)

/-- Pending vectors that no mask holds are sent, and pend no more. -/
theorem State.sendPending_foldl {p : Nat} (l : List Nat) (s : State) (hf : (s.port p).fnMask = false)
    (hl : ∀ v ∈ l, (tabGet MsixEntry.reset (s.port p).msixTable v).masked = false) :
    let u := l.foldl (State.sendPending p) s
    u.OnPorts s ∧ (u.port p).msixTable = (s.port p).msixTable ∧ (∀ v, v ∈ (u.port p).pba → v ∈ (s.port p).pba ∧ v ∉ l) ∧
      (∀ o ∈ s.out, u.Sent o) ∧ ∀ v ∈ l, u.Sent (.msix p v (tabGet MsixEntry.reset (s.port p).msixTable v).addr
        (tabGet MsixEntry.reset (s.port p).msixTable v).data) := by
  induction l generalizing s with
  | nil => exact ⟨.refl s, rfl, fun v hv => ⟨hv, List.not_mem_nil⟩, fun o ho => ho, nofun⟩
  | cons a l ih =>
    have step : s.sendPending p a = (s.setPort p { s.port p with
          pba := (s.port p).pba.filter (· != a), vecLast := tabPut (s.port p).vecLast a s.ns }).say
        (.msix p a (tabGet MsixEntry.reset (s.port p).msixTable a).addr (tabGet MsixEntry.reset (s.port p).msixTable a).data) := by
      have ha := hl a List.mem_cons_self
      rw [State.sendPending, State.sendVector_unmasked] <;> simp [State.modPort, hf, ha, setPort_setPort]
      rfl
    have port : (s.sendPending p a).port p = { s.port p with
        pba := (s.port p).pba.filter (· != a), vecLast := tabPut (s.port p).vecLast a s.ns } := by
      rw [step]; exact port_setPort ..
    obtain ⟨hon, htab, hpba, hout, hsent⟩ := ih (s.sendPending p a) (by rw [port]; exact hf)
      (by rw [port]; exact fun v hv => hl v (List.mem_cons_of_mem _ hv))
    rw [port] at htab hpba hsent
    refine ⟨hon.trans (sendPending_onPorts ..), htab, fun v hv => ?_, fun o ho => hout o ?_, fun v hv => ?_⟩
    · obtain ⟨hm, hn⟩ := hpba v hv
      obtain ⟨hm, ha⟩ := List.mem_filter.1 hm
      exact ⟨hm, by simpa using ⟨by simpa using ha, hn⟩⟩
    · rw [step]; exact List.mem_cons_of_mem _ ho
    · obtain rfl | hv := List.mem_cons.1 hv
      · exact hout _ (by rw [step]; exact List.mem_cons_self)
      · exact hsent v hv

theorem State.flushPending_eq (s : State) (p : Nat) : s.flushPending p =
    if (s.port p).fnMask || !(s.port p).canSignal then s
    else ((s.port p).pba.filter (fun v => !(tabGet MsixEntry.reset (s.port p).msixTable v).masked)).foldl (State.sendPending p) s := rfl

/-- MSIX_VECTOR_UNMASK: the vector's entry is unmasked, and sent when it was pending (02 R66). -/
theorem State.unmaskVector_does (s : State) (p v : Nat) :
    let x := s.port p
    let u := s.unmaskVector p v
    (tabGet MsixEntry.reset (u.port p).msixTable v).masked = false ∧
      (x.fnMask = false → x.canSignal = true → x.pba.contains v = true → (u.port p).pba.contains v = false ∧
        u.Sent (.msix p v (tabGet MsixEntry.reset x.msixTable v).addr (tabGet MsixEntry.reset x.msixTable v).data)) ∧ u.OnPorts s := by
  intro x u
  let f : Port → Port := fun x => { x with msixTable := tabMod MsixEntry.reset x.msixTable v (fun e => { e with masked := false }) }
  have hu : u = (s.modPort p f).flushPending p := rfl
  have port : (s.modPort p f).port p = f x := State.port_setPort ..
  have entry : tabGet MsixEntry.reset (f x).msixTable v = { tabGet MsixEntry.reset x.msixTable v with masked := false } :=
    tabGet_put_same ..
  have on := s.modPort_onPorts p f
  rw [State.flushPending_eq, port] at hu
  by_cases hs : ((f x).fnMask || !(f x).canSignal) = true
  · rw [if_pos hs] at hu
    rw [hu, port, entry]
    refine ⟨rfl, fun hf hc => ?_, on⟩
    have open_ : ((f x).fnMask || !(f x).canSignal) = (x.fnMask || !x.canSignal) := rfl
    simp [open_, hf, hc] at hs
  · rw [if_neg hs] at hu
    have unmasked : (f x).fnMask = false := by simp_all
    obtain ⟨hon, htab, hpba, -, hsent⟩ := State.sendPending_foldl (p := p)
      ((f x).pba.filter (fun v => !(tabGet MsixEntry.reset (f x).msixTable v).masked)) (s.modPort p f) (by rw [port]; exact unmasked)
      (fun w hw => by rw [port]; simpa using (List.mem_filter.1 hw).2)
    rw [← hu, port] at htab hpba hsent
    rw [← hu] at hon
    refine ⟨by rw [htab, entry], fun _ _ hv => ?_, hon.trans on⟩
    have mem : v ∈ (f x).pba.filter (fun v => !(tabGet MsixEntry.reset (f x).msixTable v).masked) :=
      List.mem_filter.2 ⟨List.contains_iff_mem.1 hv, by rw [entry]; rfl⟩
    have sent := hsent v mem
    rw [entry] at sent
    exact ⟨by simpa using fun h => (hpba v h).2 mem, sent⟩

/-- MSIX_SPACING_EXPIRY: the message that waited is on its way again (02 R70). -/
theorem execMsixSpacingExpiry_due {t : Nat} {p : Fin 4} {v : Fin 2048} {due : Nat}
    (hw : tabFind ((s.elapse t).port p).vecWait v = some due) (hd : due ≤ (s.elapse t).ns) (hc : ((s.elapse t).port p).canSignal = true) :
    exec (.msixSpacingExpiry t p v) s = .next (((s.elapse t).setPort p { (s.elapse t).port p with
      vecWait := tabDel ((s.elapse t).port p).vecWait v }).sendVector p v) := by
  change execMsixSpacingExpiry t p v s = _
  simp only [execMsixSpacingExpiry, hw]
  exact if_pos (by simp [hd, hc])

/-! ### Errors (02 R45, R46, R71) -/

/-- u is s but for one error: its status bit at port p, the port's other error registers, and its message unless it is masked. -/
def State.Logged (u s : State) (p bit : Nat) : Prop :=
  (u.port p).aerUnc = ((s.port p).aerUnc ||| 2 ^ bit) ∧
    (u.port p).config = Port.config { s.port p with aerUnc := (u.port p).aerUnc, aerCor := (u.port p).aerCor,
                                                    firstError := (u.port p).firstError, headerLog := (u.port p).headerLog } ∧
    (∀ q, q ≠ p → u.port q = s.port q) ∧ u = { s with ports := u.ports, out := u.out } ∧
    (nbit (s.port p).aerUncMask bit = false → nbit (s.port p).aerCorMask 13 = false → ∃ m, u.Sent (.err p m))

section
variable {p bit : Nat} {y : Port} (hb : y.aerUnc = ((s.port p).aerUnc ||| 2 ^ bit))
  (hy : y = { s.port p with aerUnc := y.aerUnc, aerCor := y.aerCor, firstError := y.firstError, headerLog := y.headerLog })
include hb hy

/-- The error registers of a port take an error that a mask holds. -/
theorem State.setPort_logged (hm : nbit (s.port p).aerUncMask bit = true ∨ nbit (s.port p).aerCorMask 13 = true) :
    (s.setPort p y).Logged s p bit := by
  refine ⟨?_, ?_, fun q hq => s.port_setPort_other _ hq, rfl, fun hu hc => ?_⟩
  · rwa [State.port_setPort]
  · rw [State.port_setPort]
    exact congrArg Port.config hy
  · simp [hu, hc] at hm

/-- The error registers of a port take an error whose message is sent. -/
theorem State.setPort_say_logged (m : ErrMsg) : ((s.setPort p y).say (.err p m)).Logged s p bit := by
  refine ⟨?_, ?_, fun q hq => s.port_setPort_other _ hq, rfl, fun _ _ => ⟨m, List.mem_cons_self⟩⟩
  · exact (congrArg Port.aerUnc (s.port_setPort p y)).trans hb
  · change ((s.setPort p y).port p).config = Port.config { s.port p with
      aerUnc := ((s.setPort p y).port p).aerUnc, aerCor := ((s.setPort p y).port p).aerCor,
      firstError := ((s.setPort p y).port p).firstError, headerLog := ((s.setPort p y).port p).headerLog }
    rw [State.port_setPort]
    exact congrArg Port.config hy

end

theorem State.aerUncorrectable_logged (s : State) (p bit header : Nat) : (s.aerUncorrectable p bit header).Logged s p bit := by
  unfold State.aerUncorrectable
  dsimp only
  split
  · next hm => exact setPort_logged rfl rfl (.inl hm)
  · exact setPort_say_logged rfl rfl _

theorem State.aerAdvise_logged (s : State) (p bit header : Nat) : (s.aerAdvise p bit header).Logged s p bit := by
  unfold State.aerAdvise State.aerCorrectable
  dsimp only
  rw [State.port_setPort, State.setPort_setPort]
  split
  · exact aerUncorrectable_logged ..
  · split
    · next hm => exact setPort_logged rfl rfl (.inr hm)
    · exact setPort_say_logged rfl rfl _

theorem State.aerUncorrectable_sent {o : Output} (h : s.Sent o) (p bit header : Nat) : (s.aerUncorrectable p bit header).Sent o := by
  unfold State.aerUncorrectable
  dsimp only
  split
  · exact h
  · exact List.mem_cons_of_mem _ h

theorem State.aerAdvise_sent {o : Output} (h : s.Sent o) (p bit header : Nat) : (s.aerAdvise p bit header).Sent o := by
  unfold State.aerAdvise State.aerCorrectable
  dsimp only
  split
  · exact aerUncorrectable_sent h ..
  · split
    · exact h
    · exact List.mem_cons_of_mem _ h

/-- A request that breaks 02 R45 is logged, and answered when it is a read. -/
theorem State.badAccess_logged (s : State) (p : Nat) (read : Bool) (header : Nat) : (s.badAccess p read header).Logged s p 15 ∧
    (read = true → (s.badAccess p read header).Sent (.answer p .completerAbort)) := by
  cases read with
  | false => exact ⟨aerAdvise_logged .., nofun⟩
  | true => exact ⟨(s.say _).aerAdvise_logged .., fun _ => aerAdvise_sent List.mem_cons_self ..⟩

theorem State.bar0Access_logged {p off size v : Nat} {h : BitVec 128} (h4 : ¬(size = 4 ∧ off % 4 = 0)) (h8 : ¬(size = 8 ∧ off % 8 = 0)) :
    (s.bar0Access p off size v h).Logged s p 15 := by
  have abort : s.bar0Access p off size v h = s.badAccess p false h.toNat := by simp [State.bar0Access, h4, h8]
  rw [abort]
  exact (badAccess_logged ..).1

/-- Every memory request is an Unsupported Request while Memory Space Enable is 0 (02 R46). -/
theorem State.memoryRequest_logged {p : Nat} (ha : s.answers p = true) (hm : (s.port p).mse = false) (h : BitVec 128) (f : State → State) :
    (s.memoryRequest p h f).Logged s p 20 := by
  rw [memoryRequest_unsupported ha hm]
  exact aerUncorrectable_logged ..

/-! ### Power states (02 R58, R59) -/

theorem Port.canWrite_of_standing {x y : Port} (h : x.standing = y.standing) : x.canWrite = y.canWrite := (congrArg Port.canWrite h :)
theorem Port.d3hot_of_standing {x y : Port} (h : x.standing = y.standing) : x.d3hot = y.d3hot := (congrArg Port.d3hot h :)
theorem Port.bme_of_standing {x y : Port} (h : x.standing = y.standing) : x.bme = y.bme := (congrArg Port.bme h :)

@[simp] theorem State.portResetRecord_footing (s : State) (p kind : Nat) : (s.portResetRecord p kind).footing = s.footing :=
  reportPorts_footing ..

theorem State.d3hotEntry_does {p : Nat} (h : (s.port p).d3hot = false) :
    ((s.d3hotEntry p).port p).standing = Port.standing { s.port p with d3hot := true } ∧ (s.d3hotEntry p).claim ≠ some p := by
  simp only [State.d3hotEntry, h, Bool.false_eq_true, if_false]
  refine ⟨(claimLost_port ..).trans ?_, claimLost_claim _ p⟩
  have told : (((s.setPort p { s.port p with d3hot := true }).portStalls p).portResetRecord p 3).footing =
      (s.setPort p { s.port p with d3hot := true }).footing := by simp
  exact (footing_port told p).trans (congrArg Port.standing (port_setPort ..))

theorem State.masterOff_port {p : Nat} (h : (s.port p).bme = true) :
    ((s.masterOff p).port p).standing = Port.standing { s.port p with bme := false } := by
  simp only [State.masterOff, h, if_true]
  have told : (((s.setPort p { s.port p with bme := false }).portStalls p).portResetRecord p 4).footing =
      (s.setPort p { s.port p with bme := false }).footing := by simp
  exact (footing_port told p).trans (congrArg Port.standing (port_setPort ..))

/-! ### The link's capacity (02 R53) -/

theorem Port.rate_of_standing {x y : Port} (h : x.standing = y.standing) : x.rate = y.rate := (congrArg Port.rate h :)
theorem Port.width_of_standing {x y : Port} (h : x.standing = y.standing) : x.width = y.width := (congrArg Port.width h :)
theorem Port.fullWidth_of_standing {x y : Port} (h : x.standing = y.standing) : x.fullWidth = y.fullWidth := (congrArg Port.fullWidth h :)
theorem Port.rate_of_config {x y : Port} (h : x.config = y.config) : x.rate = y.rate := (congrArg Port.rate h :)
theorem Port.degraded_of_config {x y : Port} (h : x.config = y.config) : x.degraded = y.degraded := (congrArg Port.degraded h :)

theorem State.capacityChange_port (s : State) (p : Nat) (y : Port) : ((s.capacityChange p y).port p).standing = y.standing := by
  have told : (s.capacityChange p y).footing = (s.setPort p y).footing := by
    unfold State.capacityChange
    simp
  exact (footing_port told p).trans (congrArg Port.standing (port_setPort ..))

/-- A port above 8.0 GT/s that was not marked as degraded is left as it is (02 R49). -/
theorem State.reportDegraded_reports {p : Nat} (hr : 80 < (s.port p).rate) (hd : (s.port p).degraded = false) :
    (s.reportDegraded p).Reports s := by
  have high : ((s.port p).link == .up && decide ((s.port p).rate ≤ 80)) = false := by simp [hr]
  simp only [State.reportDegraded, high]
  exact setPort_reports _ _ _ (congrArg (fun b => Port.config { s.port p with degraded := b }) hd.symm) fun _ => rfl

theorem State.capacityChange_rises {p : Nat} {y : Port} (hc : (s.port p).capacity < y.capacity) (hr : 80 < y.rate)
    (hd : y.degraded = false) : (s.capacityChange p y).Reports (s.setPort p y) := by
  have told := record_reports (s.setPort p y) p 1 3 0x0002 (islandPort p) p y.linkData
  have port : (((s.setPort p y).record p 1 3 0x0002 (islandPort p) p y.linkData).port p).config = y.config :=
    (told.2.2 p).1.trans (congrArg Port.config (port_setPort ..))
  simp only [State.capacityChange, hc, decide_true, if_true]
  exact (reportDegraded_reports ((Port.rate_of_config port).symm ▸ hr) ((Port.degraded_of_config port).trans hd)).trans told

/-! ### The rows -/

section
variable {t : Nat} {p : Fin 4} {h : BitVec 128}

theorem execMsixVectorUnmask_unmasks (v : Fin 2048) (ha : (s.elapse t).answers p = true) (hm : ((s.elapse t).port p).mse = true)
    (hd : s.mode ≠ .dark) : exec (.msixVectorUnmask t ⟨p, h⟩ v) s = .next ((s.elapse t).unmaskVector p v) := by
  refine congrArg Host.Outcome.next ((State.memoryRequest_accepted ha hm ..).trans (if_neg ?_))
  simpa using hd

theorem execMalformedTlp_logged (k : TlpError) (hl : ((s.elapse t).port p).link = .up)
    (hk : k = .ecrc → ((s.elapse t).port p).ecrcCheck = true) :
    ∃ u, exec (.malformedTlp t p k h) s = .next u ∧ u.Logged (s.elapse t) p (tlpErrorBit k) := by
  refine ⟨_, if_pos ?_, State.aerUncorrectable_logged ..⟩
  cases k <;> simp_all

theorem execUnsupportedRequest_logged {k : BadRequest} (ha : (s.elapse t).answers p = true)
    (hk : k ≠ .memorySpaceOff ∨ ((s.elapse t).port p).mse = false) :
    ∃ u, exec (.unsupportedRequest t p k h) s = .next u ∧ u.Logged (s.elapse t) p 20 ∧ u.Sent (.answer p .unsupported) := by
  refine ⟨_, if_pos ?_, ((s.elapse t).say _).aerUncorrectable_logged .., State.aerUncorrectable_sent List.mem_cons_self ..⟩
  obtain hk | hk := hk <;> simp [ha, hk]

theorem execHostReadFailure_advised {r : ReadSource} {tries : Nat} (timeout : Bool) (hr : (s.elapse t).readsSource p r = true)
    (h0 : 0 < tries) (h3 : tries < 3) : ∃ u, exec (.hostReadFailure t p r tries timeout h) s = .next u ∧
      u.Logged (s.elapse t) p (if timeout then aerTimeout else aerPoisoned) := by
  refine ⟨_, ?_, (s.elapse t).aerAdvise_logged p _ (if timeout then 0 else h.toNat)⟩
  change execHostReadFailure t p r tries timeout h s = _
  simp [execHostReadFailure, hr, h3, Nat.pos_iff_ne_zero.1 h0]

theorem execHoldoffExpiry_fires {r : Fin 1024} (hl : ((s.elapse t).ring p r).live = true) (ht : ((s.elapse t).ring p r).timer.isSome = true)
    (hd : (s.elapse t).due ((s.elapse t).ring p r).timer = true) : exec (.holdoffExpiry t p r) s =
      .next (((s.elapse t).setRing p r { (s.elapse t).ring p r with timer := none, count := 0 }).fireRing p r) :=
  if_pos (by simp [hl, ht, hd])

section
variable (ha : (s.elapse t).answers p = true) (he : ((s.elapse t).port p).l0pEnable = true)
include ha he

/-- A legal L0p request is declined where it would narrow the link below the width that 02 R63 requires. -/
theorem execL0pRequest_eq {w : Nat} (hl : legalWidth w = true) (hf : w ≤ ((s.elapse t).port p).fullWidth) : exec (.l0pRequest t p w) s =
    if w < ((s.elapse t).port p).width && w < (s.elapse t).neededWidth p then .next ((s.elapse t).say (.l0p p w false))
    else .next (((s.elapse t).setPort p { (s.elapse t).port p with width := w }).say (.l0p p w true)) :=
  if_pos (by simp [ha, he, hl, hf])

theorem execL0pNarrow_narrows (hd : (s.elapse t).delivers p = true) (hw : (s.elapse t).neededWidth p < ((s.elapse t).port p).width) :
    exec (.l0pNarrow t p) s = .next (((s.elapse t).setPort p { (s.elapse t).port p with width := (s.elapse t).neededWidth p }).say
      (.l0p p ((s.elapse t).neededWidth p) true)) :=
  if_pos (by simp [ha, he, hd, hw])

end

theorem execLinkCapacityChange_changes {rate width : Nat} (hl : ((s.elapse t).port p).link = .up) (hr : legalRate rate = true)
    (hw : legalWidth width = true) : exec (.linkCapacityChange t p rate width) s = .next ((s.elapse t).capacityChange p
      { (s.elapse t).port p with rate := rate, width := width, fullWidth := width }) :=
  if_pos (by simp [hl, hr, hw])

end

/-- Settles O27: interrupts act on the ports and what is sent, an error is logged, and the power and link rows leave the port's standing
but for their own field. -/
theorem portInterruptsErrorsAndPower : Obligations.PortInterruptsErrorsAndPower := by
  refine ⟨?_, ?_, ?_, ?_⟩
  · intro t p s h s1 x
    refine ⟨fun ha => ?_, fun msix disable ha => ?_, ?_, fun r => execHoldoffExpiry_fires, ?_⟩
    · exact ⟨_, congrArg Host.Outcome.next (State.configRequest_ready ha _), s1.intOff_port p, State.intOff_sent, (s1.intOff_onPorts p).eq⟩
    · exact ⟨_, congrArg Host.Outcome.next (State.configRequest_ready ha _), State.enableWrite_does ..⟩
    · intro v e ha hm hd
      obtain ⟨unmasked, sent, on⟩ := s1.unmaskVector_does p v
      exact ⟨_, execMsixVectorUnmask_unmasks v ha hm hd, unmasked, sent, on.eq⟩
    · intro v due y hw hd hc
      rw [execMsixSpacingExpiry_due hw hd hc]
      have port : (s1.setPort p y).port p = y := s1.port_setPort p y
      refine ⟨fun hf hu => congrArg Host.Outcome.next ?_, fun hm hp => congrArg Host.Outcome.next ?_⟩
      · rw [State.sendVector_unmasked (by rwa [port]) (by rwa [port]), port, State.setPort_setPort]
        rfl
      · rw [State.sendVector_masked (by rwa [port]) (by rwa [port]), port, State.setPort_setPort]
  · intro t p s h s1 x logged
    refine ⟨fun hl => ?_, fun k ha hk => execUnsupportedRequest_logged ha hk, fun ha hm => ?_, fun ha hm => ?_, fun r tries hr h0 h3 => ?_⟩
    · exact ⟨execMalformedTlp_logged .malformed hl nofun, execMalformedTlp_logged .flowControl hl nofun,
        execMalformedTlp_logged .dataLink hl nofun, fun he => execMalformedTlp_logged .ecrc hl fun _ => he,
        _, if_pos (beq_iff_eq.2 hl), State.aerUncorrectable_logged ..⟩
    · have open_ : (s1.answers p && (s1.port p).mse) = true := Bool.and_eq_true_iff.2 ⟨ha, hm⟩
      exact ⟨fun read => ⟨_, if_pos open_, s1.badAccess_logged p read h.toNat⟩, ⟨_, if_pos open_, s1.aerAdvise_logged ..⟩,
        fun off size v h4 h8 => ⟨_, congrArg Host.Outcome.next (State.memoryRequest_accepted ha hm ..), State.bar0Access_logged h4 h8⟩⟩
    · exact ⟨fun off size v => ⟨_, rfl, State.memoryRequest_logged ha hm ..⟩, ⟨_, rfl, State.memoryRequest_logged ha hm ..⟩,
        fun v => ⟨_, rfl, State.memoryRequest_logged ha hm ..⟩⟩
    · exact ⟨execHostReadFailure_advised true hr h0 h3, execHostReadFailure_advised false hr h0 h3⟩
  · intro t p s s1 x
    refine ⟨fun ha hd => ?_, fun ha hb => ?_, fun w ha he hl hf => ?_, execL0pNarrow_narrows⟩
    · obtain ⟨port, claim⟩ := State.d3hotEntry_does hd
      refine ⟨_, congrArg Host.Outcome.next (State.configRequest_ready ha _), Port.d3hot_of_standing port, ?_, claim⟩
      exact Port.canWrite_of_standing port
    · have port := State.masterOff_port hb
      refine ⟨_, congrArg Host.Outcome.next (State.configRequest_ready ha _), Port.bme_of_standing port, ?_⟩
      exact (Port.canWrite_of_standing port).trans (by simp [Port.canWrite])
    · rw [execL0pRequest_eq ha he hl hf]
      refine ⟨fun h1 h2 => if_pos ?_, fun h => if_neg ?_⟩
      · exact Bool.and_eq_true_iff.2 ⟨decide_eq_true h1, decide_eq_true h2⟩
      · rw [Bool.and_eq_true, decide_eq_true_iff, decide_eq_true_iff]
        exact fun ⟨h1, h2⟩ => h.elim (Nat.not_le.2 h1) (Nat.not_le.2 h2)
  · intro t p s rate width s1 x y hl hr hw
    have row : exec (.linkCapacityChange t p rate width) s = .next (s1.capacityChange p y) := execLinkCapacityChange_changes hl hr hw
    have port := s1.capacityChange_port p y
    exact ⟨⟨_, row, Port.rate_of_standing port, Port.width_of_standing port, Port.fullWidth_of_standing port⟩,
      fun hc h80 hd => ⟨_, row, State.capacityChange_rises hc h80 hd⟩⟩

end Sys2Proof.Machine
end

section
/-!
The end of the transfers of the auxiliary movers and of the commands that wait (14 R479 to R481, R488; 16 R554).
-/

namespace Sys2Proof.Machine

variable {s u v w : State}

/-! ### What the end of any transfer leaves -/

/-- No table, bank, program or translation entry has changed, nothing that was sent is taken back, and no ring has begun to wait. -/
structure State.Ends (u s : State) : Prop where
  tables : u.tables = s.tables
  lanterns : u.lanterns = s.lanterns
  seqs : u.seqs = s.seqs
  map : u.map = s.map
  sent : ∀ o, s.Sent o → u.Sent o
  waiting : ∀ p i, (u.ring p i).waiting = (s.ring p i).waiting ∨ (u.ring p i).waiting = none

theorem State.Ends.refl (s : State) : s.Ends s := ⟨rfl, rfl, rfl, rfl, fun _ => id, fun _ _ => .inl rfl⟩

theorem State.Ends.trans (h : u.Ends v) (g : v.Ends w) : u.Ends w := by
  refine ⟨h.tables.trans g.tables, h.lanterns.trans g.lanterns, h.seqs.trans g.seqs, h.map.trans g.map,
    fun o ho => h.sent o (g.sent o ho), fun p i => ?_⟩
  obtain hw | hw := h.waiting p i
  · exact (g.waiting p i).imp hw.trans hw.trans
  · exact .inr hw

theorem State.Ends.ite {c : Prop} [Decidable c] (h : u.Ends s) (g : v.Ends s) : (if c then u else v).Ends s := by
  split <;> assumption

theorem State.Ends.foldl {α : Type} {f : State → α → State} (h : ∀ t x, (f t x).Ends t) (l : List α) (s : State) :
    (l.foldl f s).Ends s := by
  induction l generalizing s with
  | nil => exact .refl s
  | cons a l ih => exact (ih (f s a)).trans (h s a)

theorem State.Tells.ends (h : u.Tells s) : u.Ends s := by
  obtain ⟨⟨⟨_, _, _, _, _, rfl⟩, sent, -⟩, -, -, waiting⟩ := h
  exact ⟨rfl, rfl, rfl, rfl, sent, fun p i => .inl (waiting p i)⟩

/-- A state that differs neither in the ports nor in what a transfer loads or sends. -/
theorem State.ends_of (ht : u.tables = s.tables) (hl : u.lanterns = s.lanterns) (hs : u.seqs = s.seqs) (hm : u.map = s.map)
    (ho : u.out = s.out) (hp : u.ports = s.ports) : u.Ends s := by
  refine ⟨ht, hl, hs, hm, fun o (h : o ∈ s.out) => show o ∈ u.out from ho ▸ h, fun p i => .inl ?_⟩
  simp [State.ring, State.port, hp]

/-- A command waits for no other work than that with this number (03 R105). -/
def State.WaitsOnly (s : State) (rid arg : Nat) : Prop := ∀ w, (s.ring (rid / 1024) (rid % 1024)).waiting = some w → w.arg = arg

theorem State.WaitsOnly.of_waitsFor {rid arg : Nat} (h : (s.waitsFor rid arg).isSome = true) : s.WaitsOnly rid arg := by
  intro w hw
  by_contra hne
  simp [State.waitsFor, hw, hne] at h

theorem State.Ends.waitsOnly {rid arg : Nat} (h : u.Ends s) (g : s.WaitsOnly rid arg) : u.WaitsOnly rid arg := by
  intro w hw
  obtain he | he := h.waiting (rid / 1024) (rid % 1024)
  · exact g w (he.symm.trans hw)
  · exact absurd (he.symm.trans hw) nofun

/-- A ring that waits no more. -/
def State.waitEnds (s : State) (p i : Nat) : State := s.modRing p i (fun r => { r with waiting := none })

theorem State.waitEnds_waiting (s : State) (p i : Nat) : ((s.waitEnds p i).ring p i).waiting = none := congrArg Ring.waiting (ring_setRing ..)

theorem State.waitEnds_ends (s : State) (p i : Nat) : (s.waitEnds p i).Ends s := by
  refine ⟨rfl, rfl, rfl, rfl, fun _ => id, fun q j => ?_⟩
  by_cases hq : q = p
  · subst hq
    by_cases hj : j = i
    · subst hj; exact .inr (s.waitEnds_waiting q j)
    · exact .inl (congrArg Ring.waiting (s.setRing_ring_other q _ hj))
  · exact .inl (by simp [State.waitEnds, State.modRing, State.setRing, State.modPort, State.ring, State.port_setPort_other, hq])

theorem State.finishWaiting_ends (s : State) (rid arg : Nat) (st : Status) : (s.finishWaiting rid arg st).Ends s := by
  unfold State.finishWaiting
  dsimp only
  split
  · exact .refl s
  · exact .ite ((finish_tells ..).ends.trans (s.waitEnds_ends ..)) (.refl s)

/-- The end of the command's work is the end of its wait (03 R105). -/
theorem State.finishWaiting_waiting {rid arg : Nat} (h : s.WaitsOnly rid arg) (st : Status) :
    ((s.finishWaiting rid arg st).ring (rid / 1024) (rid % 1024)).waiting = none := by
  unfold State.finishWaiting
  dsimp only
  split
  · next hw => exact hw
  · next w hw =>
    rw [if_pos (h w hw)]
    exact ((finish_tells ..).waiting ..).trans (s.waitEnds_waiting ..)

/-! ### The mover itself (14 R480, R481; 13 R448) -/

theorem State.emitOn_ends (s : State) (n stamp p : Nat) : (s.emitOn n stamp p).Ends s := by
  have channel (x : Channel) : (s.setChannel n x).Ends s := ends_of rfl rfl rfl rfl rfl rfl
  unfold State.emitOn
  refine .ite (channel _) (.ite ?_ (ends_of rfl rfl rfl rfl rfl rfl))
  exact (State.Tells.foldl (fun _ _ => journal_tells ..) _ _).ends.trans (channel _)

theorem State.emit0_ends (s : State) (kind index stamp p : Nat) : (s.emit0 kind index stamp p).Ends s := by
  unfold State.emit0 State.emit
  exact .ite (.refl s) (.foldl (fun _ _ => emitOn_ends ..) _ _)

theorem State.setAux_ends (s : State) (n : Nat) (x : AuxMover) : (s.setAux n x).Ends s := ends_of rfl rfl rfl rfl rfl rfl

theorem State.auxAdd_ends (s : State) (j : AuxJob) : (s.auxAdd j).Ends s := by
  unfold State.auxAdd
  split
  · exact setAux_ends ..
  · exact ends_of rfl rfl rfl rfl rfl rfl

theorem State.auxPull_ends (s : State) : s.auxPull.Ends s := by
  unfold State.auxPull
  split
  · exact .refl s
  · exact .ite ((auxAdd_ends ..).trans (ends_of rfl rfl rfl rfl rfl rfl)) (.refl s)

theorem State.auxEnd_ends (s : State) (n : Nat) (moved : List Byte) : (s.auxEnd n moved).Ends s := by
  have done (x : AuxMover) : ((s.setAux n x).emit0 0xC n (s.dt * 256) 25600).Ends s := (emit0_ends ..).trans (setAux_ends ..)
  exact (auxPull_ends _).trans (.ite ((report_tells ..).ends.trans (done _)) (done _))

/-! ### An image committed during captures (16 R557) -/

theorem State.hostPutParts_tells (s : State) (port : Nat) (parts : List (Nat × List Byte)) : (s.hostPutParts port parts).Tells s :=
  State.Tells.foldl (fun _ _ => say_tells ..) _ _

theorem State.setCapture_ends (s : State) (k : Nat) (c : Capture) : (s.setCapture k c).Ends s := ends_of rfl rfl rfl rfl rfl rfl

theorem State.placeBlock_ends {k : Nat} {c : Capture} {b : CapBlock} (h : s.placeBlock k c b = some u) : u.Ends s := by
  simp only [State.placeBlock, Option.ite_none_left_eq_some, Option.some.injEq] at h
  obtain ⟨-, rfl⟩ := h
  have kept : (if c.toHbm = true then (s.setCapture k { c with queue := c.queue.tail }).areaPut b
      else s.setCapture k { c with queue := c.queue.tail }).Ends s := .ite (ends_of rfl rfl rfl rfl rfl rfl) (setCapture_ends ..)
  exact .ite (((writeEntry_tells ..).trans (hostPutParts_tells ..)).ends.trans kept) kept

theorem State.placeBlocks_ends (s : State) (k n : Nat) : (s.placeBlocks k n).Ends s := by
  induction n generalizing s with
  | zero => exact .refl s
  | succ n ih =>
    unfold State.placeBlocks
    split
    · exact .refl s
    · split
      · exact .refl s
      · split
        · exact .refl s
        · next h => exact (ih _).trans (placeBlock_ends h)

theorem State.captureFlush_ends (s : State) (k : Nat) : (s.captureFlush k).Ends s := by
  unfold State.captureFlush
  split
  · exact .refl s
  · next c _ =>
    have placed := s.placeBlocks_ends k c.queue.length
    dsimp only
    split
    · exact placed
    · refine .ite (.trans (.foldl (fun _ _ => finishWaiting_ends ..) _ _) (.trans ?_ placed)) placed
      exact ends_of rfl rfl rfl rfl rfl rfl

theorem State.captureCheck_ends (s : State) (k : Nat) : (s.captureCheck k).Ends s := by
  unfold State.captureCheck
  split
  · exact .refl s
  · exact .ite ((record_tells ..).ends.trans (setCapture_ends ..)) (.refl s)

theorem State.captureItem_ends (s : State) (k item dt vc part len time : Nat) (body : List Byte) :
    (s.captureItem k item dt vc part len time body).Ends s := by
  unfold State.captureItem
  split
  · exact .refl s
  · exact .ite ((captureCheck_ends ..).trans ((captureFlush_ends ..).trans (setCapture_ends ..))) (.refl s)

theorem State.captureImage_ends (s : State) (code who : Nat) (image : List Byte) : (s.captureImage code who image).Ends s :=
  .foldl (fun _ _ => captureItem_ends ..) _ _

/-! ### The effect of each transfer -/

theorem State.hostPutParts_sent (s : State) (port : Nat) (parts : List (Nat × List Byte)) :
    ∀ q ∈ parts, (s.hostPutParts port parts).Sent (.hostWrite port q.1 q.2) := by
  induction parts generalizing s with
  | nil => nofun
  | cons a parts ih =>
    intro q hq
    obtain rfl | hq := List.mem_cons.1 hq
    · exact ((s.hostPut port q.1 q.2).hostPutParts_tells port parts).reports.2.1 _ List.mem_cons_self
    · exact ih _ q hq

/-- A block goes to the host, and its command completes (14 R479). -/
theorem State.blockEnds_does {rid arg : Nat} (h : (s.waitsFor rid arg).isSome = true) (port : Nat) (parts : List (Nat × List Byte)) :
    (∀ q ∈ parts, (s.blockEnds rid arg port parts).1.Sent (.hostWrite port q.1 q.2)) ∧
      ((s.blockEnds rid arg port parts).1.ring (rid / 1024) (rid % 1024)).waiting = none := by
  obtain ⟨w, hw⟩ := Option.isSome_iff_exists.1 h
  simp only [State.blockEnds, hw]
  refine ⟨fun q hq => (finishWaiting_ends ..).sent _ (s.hostPutParts_sent port parts q hq), finishWaiting_waiting ?_ _⟩
  exact (hostPutParts_tells ..).ends.waitsOnly (.of_waitsFor h)

theorem State.journalLoad_ends (s : State) (c : LoadCmd) (st : Status) : (s.journalLoad c st).Ends s := (journalCommand_tells ..).ends

/-- An image has its effect, and its command completes (05 R190, 08 R295, 12 R424). -/
theorem State.imageEnds_does {c : LoadCmd} (hg : c.gone = false) (d : HostData) :
    let u := (s.imageEnds c d).1
    u.Ends (s.loaded (c.ring / 1024) c.entry d).1 ∧
      ((s.loaded (c.ring / 1024) c.entry d).1.WaitsOnly c.ring c.arg → (u.ring (c.ring / 1024) (c.ring % 1024)).waiting = none) := by
  unfold State.imageEnds
  extract_lets e p image r nm s1 s2
  have loaded : r = s.loaded p e d := if_neg (by simp [hg])
  have journaled : s1.Ends r.1 := journalLoad_ends ..
  have captured : s2.Ends r.1 := .ite ((captureImage_ends ..).trans ((journal_tells ..).ends.trans journaled)) journaled
  rw [← loaded]
  exact ⟨(finishWaiting_ends ..).trans captured, fun h => finishWaiting_waiting (captured.waitsOnly h) _⟩

/-- The command of a load is journaled and ends, whatever state v its load has left (14 R488). -/
theorem State.loadEnds_does (v : State) (c : LoadCmd) (st : Status) :
    ((v.journalLoad c st).finishWaiting c.ring c.arg st).Ends v ∧ (v.WaitsOnly c.ring c.arg →
      (((v.journalLoad c st).finishWaiting c.ring c.arg st).ring (c.ring / 1024) (c.ring % 1024)).waiting = none) :=
  ⟨(finishWaiting_ends ..).trans (journalLoad_ends ..), fun h => finishWaiting_waiting ((journalLoad_ends ..).waitsOnly h) _⟩

/-- The list of a port that was not reset since is mapped (14 R488). -/
theorem State.mapEnds_mapped {c : LoadCmd} (hg : c.gone = false) (d : HostData) : (s.mapEnds c d).1 =
    ((s.mapListed (c.ring / 1024) c.entry d).1.journalLoad c (s.mapListed (c.ring / 1024) c.entry d).2).finishWaiting c.ring c.arg
      (s.mapListed (c.ring / 1024) c.entry d).2 := by
  simp only [State.mapEnds, hg, Bool.false_eq_true, if_false]

/-- No page of a port that was reset since is mapped (02 R57). -/
theorem State.mapEnds_gone {c : LoadCmd} (hg : c.gone = true) (d : HostData) : (s.mapEnds c d).1 =
    (s.journalLoad c (s.mapListed (c.ring / 1024) c.entry d).2).finishWaiting c.ring c.arg (s.mapListed (c.ring / 1024) c.entry d).2 := by
  simp only [State.mapEnds, hg, if_true]

/-! ### A load does not touch the rings -/

theorem State.tableLoaded_ports (s : State) (p : Nat) (e : Entry) (d : HostData) : (s.tableLoaded p e d).1.ports = s.ports := by
  unfold State.tableLoaded
  dsimp only
  split <;> rfl

theorem State.kernelLoaded_ports (s : State) (p : Nat) (e : Entry) (d : HostData) : (s.kernelLoaded p e d).1.ports = s.ports := by
  have taken (n : Nat) : (s.lanternTaken n p).ports = s.ports := by
    unfold State.lanternTaken
    dsimp only
    split <;> rfl
  unfold State.kernelLoaded
  dsimp only
  split
  · rfl
  · exact taken _

theorem State.seqLoaded_ports (s : State) (p : Nat) (e : Entry) (d : HostData) : (s.seqLoaded p e d).1.ports = s.ports := by
  unfold State.seqLoaded
  dsimp only
  split <;> rfl

theorem State.loaded_ports (s : State) (p : Nat) (e : Entry) (d : HostData) : (s.loaded p e d).1.ports = s.ports := by
  unfold State.loaded
  split
  · exact tableLoaded_ports ..
  · exact kernelLoaded_ports ..
  · exact seqLoaded_ports ..

theorem State.mapListed_ports (s : State) (p : Nat) (e : Entry) (d : HostData) : (s.mapListed p e d).1.ports = s.ports := by
  unfold State.mapListed
  dsimp only
  generalize firstSome _ = r
  cases r <;> rfl

theorem State.WaitsOnly.of_ports {rid arg : Nat} (h : s.WaitsOnly rid arg) (hp : u.ports = s.ports) : u.WaitsOnly rid arg := by
  simpa [State.WaitsOnly, State.ring, State.port, hp] using h

/-! ### The rows -/

section
variable {t : Nat} {ax : Fin 8} {j : AuxJob} {rest : List AuxJob}

theorem execAuxDone_ends (hq : ((s.elapse t).auxMover ax).queue = j :: rest) (hr : ((s.elapse t).auxMover ax).runs = true)
    (hc : (s.elapse t).auxCan j = true) (hd : s.mode ≠ .dark) (hk : s.mode ≠ .keep) :
    exec (.auxDone t ax) s = .next (((s.elapse t).auxEffect j).1.auxEnd ax ((s.elapse t).auxEffect j).2) := by
  change execAuxDone t ax s = _
  simp only [execAuxDone, hq]
  exact if_pos (by simp [hr, hc, hd, hk])

end

theorem State.replayFetches_mode (s : State) (f : List ReplayFetch) : (f.foldl State.replayFetch s).mode = s.mode :=
  (congrArg Spine.mode (State.foldl_spine (fun _ _ => State.replayFetch_spine ..) ..) :)

theorem execCommandCompletion_completes {t : Nat} {r : RingRef} {f : List ReplayFetch} {w : Waiting}
    (hw : ((f.foldl State.replayFetch (s.elapse t)).ring r.port r.idx).waiting = some w) (hd : s.mode ≠ .dark) (hk : s.mode ≠ .keep) :
    exec (.commandCompletion t r f) s = .next ((f.foldl State.replayFetch (s.elapse t)).completes (ringId r.port r.idx) w) := by
  have mode : (f.foldl State.replayFetch (s.elapse t)).mode = s.mode := State.replayFetches_mode ..
  change execCommandCompletion t r f s = _
  simp [execCommandCompletion, hw, mode, hd, hk]

/-- READ_NV's end is its status (16 R554). -/
theorem State.completes_readNv {rid : Nat} {w : Waiting} (h : fld w.entry 0 1 = 0x4B) :
    s.completes rid w = s.finishWaiting rid w.arg .success := by
  simp [State.completes, h]

theorem ringId_port (p : Nat) (i : Fin 1024) : ringId p i / 1024 = p := by unfold ringId; omega
theorem ringId_index (p : Nat) (i : Fin 1024) : ringId p i % 1024 = i := by unfold ringId; omega

/-- The status of an entry is written with OWN 1 (03 R103). -/
theorem State.finish_sent {p i k : Nat} {e : Entry} {st : Status} (hl : (s.ring p i).live = true) (hm : s.mode ≠ .dark)
    (hw : (s.port p).canWrite = true) : (s.finish p i k e st).Sent (.hostWrite p ((s.ring p i).addr k + 0x3F) [0x80]) := by
  have dark : (s.mode == .dark) = false := beq_false_of_ne hm
  have live : ((s.port p).ring i).live = true := hl
  unfold State.finish
  simp only [live, dark, hw, Bool.not_true, Bool.or_false, Bool.false_eq_true, if_false]
  split
  · exact (record_tells ..).reports.2.1 _ List.mem_cons_self
  · exact List.mem_cons_self

theorem State.waitEnds_ring (s : State) (p i : Nat) : (s.waitEnds p i).ring p i = { s.ring p i with waiting := none } := ring_setRing ..

theorem State.waitEnds_canWrite (s : State) (p i : Nat) : ((s.waitEnds p i).port p).canWrite = (s.port p).canWrite :=
  (congrArg Port.canWrite (port_setPort ..)).trans rfl

theorem State.finishWaiting_finishes {rid : Nat} {w : Waiting} (h : (s.ring (rid / 1024) (rid % 1024)).waiting = some w) (st : Status) :
    s.finishWaiting rid w.arg st = (s.waitEnds (rid / 1024) (rid % 1024)).finish (rid / 1024) (rid % 1024) w.index w.entry st := by
  simp [State.finishWaiting, h, State.waitEnds]

/-- A waiting command whose ring is in service gets its status (03 R103). -/
theorem State.finishWaiting_sent {rid : Nat} {w : Waiting} (h : (s.ring (rid / 1024) (rid % 1024)).waiting = some w)
    (hl : (s.ring (rid / 1024) (rid % 1024)).live = true) (hm : s.mode ≠ .dark) (hc : (s.port (rid / 1024)).canWrite = true) (st : Status) :
    (s.finishWaiting rid w.arg st).Sent (.hostWrite (rid / 1024) ((s.ring (rid / 1024) (rid % 1024)).addr w.index + 0x3F) [0x80]) := by
  have ring := s.waitEnds_ring (rid / 1024) (rid % 1024)
  rw [finishWaiting_finishes h]
  have sent := State.finish_sent (s := s.waitEnds (rid / 1024) (rid % 1024)) (p := rid / 1024) (i := rid % 1024) (k := w.index)
    (e := w.entry) (st := st) (by rw [ring]; exact hl) hm ((s.waitEnds_canWrite ..).trans hc)
  rw [ring] at sent
  exact sent

/-- Settles O30: a transfer's effect is that of its job, and its end and the journal's records leave it; a waiting command's end is its
status. -/
theorem transfersAndCommandsEnd : Obligations.TransfersAndCommandsEnd := by
  refine ⟨?_, ?_⟩
  · intro t ax s j rest s1 e waits hq hr hc hd hk
    have row := execAuxDone_ends hq hr hc hd hk
    have after : (e.1.auxEnd ax e.2).Ends e.1 := State.auxEnd_ends ..
    refine ⟨row, ?_, ?_, ?_, ?_⟩
    · rintro rid arg port parts rfl hw
      obtain ⟨sent, done⟩ := State.blockEnds_does hw port parts
      refine ⟨_, row, fun q hq => after.sent _ (sent q hq), ?_⟩
      exact (after.waiting ..).elim (·.trans done) id
    · rintro c d rfl hg
      obtain ⟨ends, done⟩ := State.imageEnds_does (s := s1) hg d
      have ends := after.trans ends
      refine ⟨_, row, fun ho => ends.tables.trans ?_, fun ho => ends.lanterns.trans ?_, fun ho => ends.seqs.trans ?_, fun hw => ?_⟩
      · simp only [State.loaded, ho]
      · simp only [State.loaded, ho]
      · simp only [State.loaded, ho]
      · have waits := (State.WaitsOnly.of_waitsFor hw).of_ports (s1.loaded_ports (c.ring / 1024) c.entry d)
        exact (after.waiting ..).elim (·.trans (done waits)) id
    · rintro c d rfl hg
      have mapped := State.mapEnds_mapped (s := s1) hg d
      obtain ⟨ends, done⟩ := (s1.mapListed (c.ring / 1024) c.entry d).1.loadEnds_does c (s1.mapListed (c.ring / 1024) c.entry d).2
      rw [← mapped] at ends done
      refine ⟨_, row, (after.trans ends).map, fun hw => ?_⟩
      have waits := (State.WaitsOnly.of_waitsFor hw).of_ports (s1.mapListed_ports (c.ring / 1024) c.entry d)
      exact (after.waiting ..).elim (·.trans (done waits)) id
    · rintro c d rfl hg
      have gone := State.mapEnds_gone (s := s1) hg d
      obtain ⟨ends, -⟩ := s1.loadEnds_does c (s1.mapListed (c.ring / 1024) c.entry d).2
      rw [← gone] at ends
      exact ⟨_, row, (after.trans ends).map⟩
  · intro t r f s w s1 g hw hd hk
    have row := execCommandCompletion_completes hw hd hk
    refine ⟨row, fun ho hl hc => ⟨_, row, ?_⟩⟩
    rw [State.completes_readNv ho]
    have port := ringId_port r.port r.idx
    have index := ringId_index r.port r.idx
    have waits : (s1.ring (ringId r.port r.idx / 1024) (ringId r.port r.idx % 1024)).waiting = some w := by rw [port, index]; exact hw
    have only : s1.WaitsOnly (ringId r.port r.idx) w.arg := fun v hv => congrArg Waiting.arg (Option.some.inj (hv.symm.trans waits))
    have done := State.finishWaiting_waiting only .success
    have sent := State.finishWaiting_sent waits (by rw [port, index]; exact hl) ((State.replayFetches_mode ..).trans_ne hd)
      (by rw [port]; exact hc) .success
    rw [port, index] at done sent
    exact ⟨done, sent, State.finishWaiting_reports ..⟩

end Sys2Proof.Machine
end

section
/-!
The answer to a command that has been fetched (03 R91, R103, R105, R112): what its status needs of the state that the command leaves, and
the commands that do not run.
-/

namespace Sys2Proof.Machine

variable {s u v w : State}

/-- A completion meets in u what it meets in s: the mode, the ports that may write, and the rings but for what reporting moves in them. -/
structure State.Answers (u s : State) : Prop where
  mode : u.mode = s.mode
  canWrite : ∀ p, (u.port p).canWrite = (s.port p).canWrite
  shape : ∀ p i, (u.ring p i).shape = (s.ring p i).shape

theorem State.Answers.trans (h : u.Answers v) (g : v.Answers w) : u.Answers w :=
  ⟨h.mode.trans g.mode, fun p => (h.canWrite p).trans (g.canWrite p), fun p i => (h.shape p i).trans (g.shape p i)⟩

theorem State.Reports.answers (h : u.Reports s) : u.Answers s :=
  ⟨h.mode, fun p => Port.canWrite_of_config (h.2.2 p).1, fun p => (h.2.2 p).2⟩

theorem State.answers_of_ports (hm : u.mode = s.mode) (hp : u.ports = s.ports) : u.Answers s :=
  ⟨hm, fun p => by simp [State.port, hp], fun p i => by simp [State.ring, State.port, hp]⟩

theorem State.answers_of_footing (hm : u.mode = s.mode) (h : u.footing = s.footing) : u.Answers s :=
  ⟨hm, fun p => Port.canWrite_of_standing (State.footing_port h p), State.footing_ring h⟩

/-- A port that keeps its rings, and may write if it could. -/
theorem State.modPort_answers (s : State) (p : Nat) {f : Port → Port} (hw : ∀ x, (f x).canWrite = x.canWrite)
    (hr : ∀ x, (f x).rings = x.rings) : (s.modPort p f).Answers s := by
  have keeps (q : Nat) : ((s.modPort p f).port q).canWrite = (s.port q).canWrite ∧ ((s.modPort p f).port q).rings = (s.port q).rings := by
    by_cases hq : q = p
    · subst hq; simp [State.modPort, hw, hr]
    · simp [State.modPort, State.port_setPort_other, hq]
  exact ⟨rfl, fun q => (keeps q).1, fun q i => by simp [State.ring, Port.ring, (keeps q).2]⟩

/-- The status of a fetched command is written to its entry (03 R103). -/
theorem State.settle_completed {c : RingCmd} (h : s.fetchable c = true) (hv : v.Answers s) (st : Status) :
    (v.settle c (s.ring c.p c.i).d (.status st)).Completed s c st := by
  obtain ⟨live, writes, dark⟩ := State.fetchable_live h
  exact State.finish_completed v s c st ((Ring.live_of_shape (hv.shape ..)).trans live) (hv.mode.trans_ne dark)
    ((hv.canWrite _).trans writes) (Ring.addr_of_shape (hv.shape ..) _)

section
variable {c : RingCmd} {op : Nat} {chk : State → Checks} {eff : State → State × Done} {P : State → Prop}

/-- A command whose effect leaves its ring and port able to take the completion is answered with SUCCESS (03 R103). -/
theorem State.command_succeeds (h : s.Accepts c op chk)
    (g : ∀ v, v.Reports s → (eff v).2 = .ok ∧ (eff v).1.Answers v ∧ ∀ u, u.Reports (eff v).1 → P u) :
    ∃ u, s.command c op chk eff = .next u ∧ P u ∧ u.Completed s c .success := by
  have start := State.committed_reports s c op
  obtain ⟨ok, answers, effect⟩ := g _ start
  refine ⟨_, State.command_accepted eff h, effect _ (State.settle_reports ..), ?_⟩
  rw [ok]
  exact State.settle_completed h.1 (answers.trans start.answers) .success

/-- A command that waits, with the number of its end (03 R105). -/
theorem State.command_waits_for {a : Nat} (h : s.Accepts c op chk)
    (g : ∀ v, v.Reports s → (eff v).2 = .waits a ∧ (eff v).1.ns = s.ns ∧ (eff v).1.dt = s.dt ∧ ∀ u, u.Reports (eff v).1 → P u) :
    ∃ u, s.command c op chk eff = .next u ∧ P u ∧ u.WaitsFor s c a := by
  obtain ⟨waits, ns, dt, effect⟩ := g _ (State.committed_reports s c op)
  refine ⟨_, State.command_accepted eff h, effect _ (State.settle_reports ..), ?_⟩
  simp [waits, State.WaitsFor, State.settle, State.modRing, ns, dt]

/-- A command that a check refuses has moved its ring on and is journaled; then it completes (03 R103, R112). -/
theorem State.command_refused {st : Status} (hf : s.fetchable c = true)
    (hs : (chk (s.fetched c)).first (s.fetched c) c.ring.port op c.e = some st) :
    s.command c op chk eff = .next (((s.fetched c).journalCommand (ringId c.p c.i)
      ((s.ring c.p c.i).d % ((s.fetched c).ring c.p c.i).size) c.e st.code).settle c (s.ring c.p c.i).d (.status st)) := by
  simp only [State.command, hf, hs, if_true]
  rfl

/-- An entry that the ring does not offer is left where it is (03 R91, R105). -/
theorem State.command_unfetched (hf : s.fetchable c = false) : s.command c op chk eff = .next s := by
  simp only [State.command, hf, Bool.false_eq_true, if_false]

end

/-- Settles O3: the fetch, the journal record and the completion are all reporting, and the completion reaches the ring's entry. -/
theorem commandsThatDoNotRunChangeNothing : Obligations.CommandsThatDoNotRunChangeNothing := by
  refine ⟨fun s c op chk eff st hf hs => ?_, fun s c op chk eff hf => State.command_unfetched hf⟩
  have logged := (State.journalCommand_reports (s.fetched c) (ringId c.p c.i)
    ((s.ring c.p c.i).d % ((s.fetched c).ring c.p c.i).size) c.e st.code).trans (s.fetched_reports c)
  exact ⟨_, State.command_refused hf hs, (State.settle_reports ..).trans logged, State.settle_completed hf logged.answers st⟩

end Sys2Proof.Machine
end

section
/-!
STREAM_CONFIG, STREAM_START, STREAM_STOP and STREAM_RELEASE (03 R125 to R127, 14 R473).
-/

namespace Sys2Proof.Machine

variable {s u v w : State}

/-! ### Streams and sconces beside reporting -/

theorem State.Within.streams (h : u.Within s) : u.streams = s.streams := by obtain ⟨_, _, _, _, _, rfl⟩ := h; rfl
theorem State.Within.sconces (h : u.Within s) : u.sconces = s.sconces := by obtain ⟨_, _, _, _, _, rfl⟩ := h; rfl
theorem State.Within.stream (h : u.Within s) (n : Nat) : u.stream n = s.stream n := congrArg (tabGet Stream.reset · n) h.streams
theorem State.Within.sconce (h : u.Within s) (k : Nat) : u.sconce k = s.sconce k := congrArg (tabGet Sconce.reset · k) h.sconces

theorem State.Within.ite {c : Prop} [Decidable c] (h : u.Within s) (g : v.Within s) : (if c then u else v).Within s := by
  split <;> assumption

theorem State.Within.foldl {α : Type} {f : State → α → State} (h : ∀ t x, (f t x).Within t) (l : List α) (s : State) :
    (l.foldl f s).Within s := by
  induction l generalizing s with
  | nil => exact (State.Reports.refl s).within
  | cons a l ih => exact (ih (f s a)).trans (h s a)

theorem State.setPort_within (s : State) (p : Nat) (x : Port) : (s.setPort p x).Within s := ⟨_, _, _, _, _, rfl⟩

theorem State.Within.setSconce (h : u.Within s) (k : Nat) (y : Sconce) : (u.setSconce k y).Within (s.setSconce k y) := by
  obtain ⟨_, _, _, _, _, rfl⟩ := h
  exact ⟨_, _, _, _, _, rfl⟩

theorem State.Reports.setStream (h : u.Reports s) (n : Nat) (y : Stream) : (u.setStream n y).Reports (s.setStream n y) :=
  h.map (·.setStream n y) fun _ _ _ _ _ _ => rfl

theorem State.Reports.freshen (h : u.Reports s) : u.freshen.Reports s.freshen := h.map State.freshen fun _ _ _ _ _ _ => rfl

/-- What differs from s by one stream differs from it by its streams. -/
theorem State.Reports.but_streams {n : Nat} {y : Stream} (h : u.Reports (s.setStream n y)) : u.Reports { s with streams := u.streams } := by
  rw [h.within.streams]
  exact h

theorem State.Within.but_streams {n : Nat} {y : Stream} (h : u.Within (s.setStream n y)) : u.Within { s with streams := u.streams } := by
  rw [h.streams]
  exact h

theorem State.setStream_setStream (s : State) (n : Nat) (x y : Stream) : (s.setStream n x).setStream n y = s.setStream n y := by
  simp [State.setStream, tabPut_put]

theorem State.streamState_reports (s : State) (n : Nat) (st : StreamState) (m : Nat) :
    (s.streamState n st m).Reports (s.setStream n { s.stream n with st := st }) := by
  unfold State.streamState State.streamEvent State.ringEvent
  exact record_reports ..

/-- A stream enters a state, and its record is made (03 R116). -/
theorem State.setStream_streamState (s : State) (n : Nat) (y : Stream) (st : StreamState) (m : Nat) :
    ((s.setStream n y).streamState n st m).Reports (s.setStream n { y with st := st }) := by
  have told := State.streamState_reports (s.setStream n y) n st m
  rwa [State.stream_setStream, State.setStream_setStream] at told

/-! ### STREAM_CONFIG (03 R125, R127) -/

theorem State.streamConfigured_reports (h : v.Reports s) (p : Nat) (e : Entry) : (v.streamConfigured p e).Reports (s.streamConfigured p e) :=
  h.map (·.streamConfigured p e) fun _ _ _ _ _ _ => rfl

/-- The stream that STREAM_CONFIG makes is Configured already when its record is made. -/
theorem State.streamConfigured_again (s : State) (p : Nat) (e : Entry) :
    (s.streamConfigured p e).setStream (cmdStream e) { (s.streamConfigured p e).stream (cmdStream e) with st := .configured } =
      s.streamConfigured p e := by
  simp [State.streamConfigured, State.modSconce, State.setSconce, State.setStream, State.sconce, State.stream, tabPut_put]

theorem streamConfigEffect_reports {c : RingCmd} (h : v.Reports s) : (streamConfigEffect c v).1.Reports (s.streamConfigured c.p c.e) := by
  have configured := State.streamConfigured_reports h c.p c.e
  have told := State.streamState_reports (v.streamConfigured c.p c.e) (cmdStream c.e) .configured 0
  rw [State.streamConfigured_again] at told
  exact .dite (told.trans configured) configured

theorem State.streamConfigured_stream_other (s : State) (p : Nat) (e : Entry) {m : Nat} (h : m ≠ cmdStream e) :
    (s.streamConfigured p e).stream m = s.stream m := State.stream_setStream_other _ _ h

theorem State.streamConfigured_sconce (s : State) (p : Nat) (e : Entry) :
    (s.streamConfigured p e).sconce (bitsAt e 0xA 2 0 9) = { s.sconce (bitsAt e 0xA 2 0 9) with owner := some p } :=
  State.sconce_setSconce ..

theorem State.streamConfigured_sconce_other (s : State) (p : Nat) (e : Entry) {j : Nat} (h : j ≠ bitsAt e 0xA 2 0 9) :
    (s.streamConfigured p e).sconce j = s.sconce j := State.sconce_setSconce_other _ _ h

/-! ### STREAM_START (14 R473) -/

/-- The stream with its start pending on a frame mover, neither stopped nor paced (14 R473). -/
def State.streamStarts (s : State) (n : Nat) : State :=
  let x := s.stream n
  s.setStream n { x with
    uncharged := false, startPending := some s.dt, startSeq := s.commitSeq, mover := s.moverPick n (x.dRing / 1024), lastWrite := s.ns
    stopped := false, draining := false, pace := 0, paceBytes := 0, paceLeft := 0 }

/-- Widening a link changes the port's width and tells the host (02 R63, R64). -/
theorem State.widen_keeps (s : State) (p : Nat) : (s.widen p).Within s ∧ (s.widen p).Answers s := by
  unfold State.widen
  dsimp only
  split
  · exact ⟨((State.say_reports ..).within).trans (State.modPort_onPorts ..).within,
      (State.say_reports ..).answers.trans (s.modPort_answers p (fun _ => rfl) fun _ => rfl)⟩
  · exact ⟨(State.Reports.refl s).within, (State.Reports.refl s).answers⟩

theorem streamStartEffect_starts (c : RingCmd) (v : State) : (streamStartEffect c v).1.Within (v.streamStarts (cmdStream c.e)) ∧
    (streamStartEffect c v).1.Answers v := by
  have starts : (v.streamStarts (cmdStream c.e)).Answers v := State.answers_of_ports rfl rfl
  have once (p : Nat) : ((v.streamStarts (cmdStream c.e)).widen p).Within (v.streamStarts (cmdStream c.e)) ∧
      ((v.streamStarts (cmdStream c.e)).widen p).Answers v :=
    ⟨(State.widen_keeps ..).1, (State.widen_keeps ..).2.trans starts⟩
  simp only [streamStartEffect, State.modStream_eq, State.stream_setStream, State.setStream_setStream]
  split
  · exact ⟨(State.widen_keeps ..).1.trans (once _).1, (State.widen_keeps ..).2.trans (once _).2⟩
  · exact once _

theorem streamStart_runs {c : RingCmd} (h : s.Accepts c 0x11 (streamStartChecks c)) :
    ∃ u, s.command c 0x11 (streamStartChecks c) (streamStartEffect c) = .next u ∧
      (∃ v : State, v.Reports s ∧ u.Within (v.streamStarts (cmdStream c.e))) ∧ u.Completed s c .success :=
  State.command_succeeds h fun v hv => ⟨rfl, (streamStartEffect_starts c v).2,
    fun _ hu => ⟨v, hv, hu.within.trans (streamStartEffect_starts c v).1⟩⟩

/-! ### STREAM_STOP (03 R127) -/

/-- The stream Stopping for these commands, with the last frame where it is known (03 R127). -/
def State.stopsAt (s : State) (n : Nat) (cmds : List (Nat × Nat)) (seq : Nat) (last : Option Nat) : State :=
  s.setStream n { s.stream n with st := .stopping, stopCmds := cmds, stopSeq := seq, stopAt := some last }

section
variable {n : Nat} {cmds : List (Nat × Nat)} {seq : Nat}

theorem State.stopsAt_reports (last : Option Nat) :
    ((s.setStream n { s.stream n with stopCmds := cmds, stopSeq := seq, stopAt := some last }).streamState n .stopping 0).Reports
      (s.stopsAt n cmds seq last) := State.setStream_streamState ..

/-- A stop that is done leaves its stream Configured, and no stop waits for it (03 R127). -/
theorem State.stopDone_configured {last : Option Nat} (h : v.Reports (s.stopsAt n cmds seq last)) (m : Nat) :
    ∃ y : Stream, y.st = .configured ∧ y.stopAt = none ∧ (v.stopDone n m).Reports (s.setStream n y) := by
  have done (u : State) (cs : List (Nat × Nat)) : (u.stopsDone cs).Reports u :=
    State.Reports.foldl (fun _ _ => State.finishWaiting_reports ..) _ _
  have beside (y : Stream) : (v.setStream n y).Reports (s.setStream n y) := by
    simpa only [State.stopsAt, State.setStream_setStream] using h.setStream n y
  exact ⟨_, rfl, rfl, (done ..).trans ((State.setStream_streamState ..).trans (beside _))⟩

/-- No frame that the stream may carry is open: the next one is its last. -/
theorem State.streamStopBy_next (h : ∀ f, (s.sconce (s.stream n).sconce).openFrame = some f → f.number < (s.stream n).first) :
    (s.streamStopBy n cmds seq).Reports (s.stopsAt n cmds seq none) := by
  cases ho : (s.sconce (s.stream n).sconce).openFrame with
  | none =>
    simp only [State.streamStopBy, ho]
    exact State.stopsAt_reports none
  | some f =>
    simp only [State.streamStopBy, ho, Nat.not_le.mpr (h f ho), if_false]
    exact State.stopsAt_reports none

/-- The open frame is one that the stream carries: it is the last. -/
theorem State.streamStopBy_carried {f : Frame} (ho : (s.sconce (s.stream n).sconce).openFrame = some f)
    (hf : (s.stream n).first ≤ f.number) (hc : (s.stream n).frames.any (fun g => g.number == f.number) = true) :
    (s.streamStopBy n cmds seq).Reports (s.stopsAt n cmds seq (some f.number)) := by
  simp only [State.streamStopBy, ho, hf, hc, if_true]
  exact (State.journal_reports ..).trans (State.stopsAt_reports (some f.number))

/-- The open frame is one that the stream might carry and does not: the stop is done. -/
theorem State.streamStopBy_missed {f : Frame} (ho : (s.sconce (s.stream n).sconce).openFrame = some f)
    (hf : (s.stream n).first ≤ f.number) (hc : (s.stream n).frames.any (fun g => g.number == f.number) = false) :
    ∃ y : Stream, y.st = .configured ∧ y.stopAt = none ∧ (s.streamStopBy n cmds seq).Reports (s.setStream n y) := by
  simp only [State.streamStopBy, ho, hf, hc, if_true, Bool.false_eq_true, if_false]
  exact State.stopDone_configured ((State.journal_reports ..).trans (State.stopsAt_reports (some f.number))) f.number

end

/-- The command waits for its stream's last frame, behind these: the stream is in this state, one number is taken, and nothing else is
different (03 R105, R127). -/
def State.WaitsForLast (u s : State) (c : RingCmd) (cmds : List (Nat × Nat)) (last : Option Nat) (st : StreamState) : Prop :=
  let n := cmdStream c.e
  (u.stream n).st = st ∧ (u.stream n).stopAt = some last ∧ (u.stream n).stopCmds = cmds ++ [(ringId c.p c.i, s.fresh)] ∧
    u.WaitsFor s c s.fresh ∧ (∀ m, m ≠ n → u.stream m = s.stream m) ∧ u.Reports { s with streams := u.streams, fresh := s.fresh + 1 }

section
variable {c : RingCmd}

/-- An effect that leaves its stream as one with a stop that waits, and takes a number, makes the command wait. -/
theorem streamStop_waits {cmds : List (Nat × Nat)} {last : Option Nat} {st : StreamState} (h : s.Accepts c 0x12 (streamStopChecks c))
    (g : ∀ v, v.Reports s → (streamStopEffect c v).2 = .waits s.fresh ∧
      ∃ y : Stream, y.st = st ∧ y.stopAt = some last ∧ y.stopCmds = cmds ++ [(ringId c.p c.i, s.fresh)] ∧
        (streamStopEffect c v).1.Reports (s.freshen.setStream (cmdStream c.e) y)) :
    ∃ u, s.command c 0x12 (streamStopChecks c) (streamStopEffect c) = .next u ∧ u.WaitsForLast s c cmds last st := by
  obtain ⟨u, hu, ⟨y, state, stopAt, stopCmds, effect⟩, waits⟩ := State.command_waits_for
    (P := fun u => ∃ y : Stream, y.st = st ∧ y.stopAt = some last ∧ y.stopCmds = cmds ++ [(ringId c.p c.i, s.fresh)] ∧
      u.Reports (s.freshen.setStream (cmdStream c.e) y)) h fun v hv => by
    obtain ⟨waits, y, state, stopAt, stopCmds, effect⟩ := g v hv
    exact ⟨waits, effect.ns, effect.dt, fun u hu => ⟨y, state, stopAt, stopCmds, hu.trans effect⟩⟩
  have stream : u.stream (cmdStream c.e) = y := (effect.within.stream _).trans (State.stream_setStream ..)
  exact ⟨u, hu, stream ▸ state, stream ▸ stopAt, stream ▸ stopCmds, waits,
    fun m hm => (effect.within.stream m).trans (State.stream_setStream_other _ _ hm), effect.but_streams⟩

theorem State.Reports.fresh (h : u.Reports s) : u.fresh = s.fresh := by obtain ⟨⟨_, _, _, _, _, rfl⟩, -⟩ := h; rfl

/-- The effect of STREAM_STOP on a stream that is not Running: its start is pending. -/
theorem streamStopEffect_pending (hr : (v.stream (cmdStream c.e)).st ≠ .running) : streamStopEffect c v =
    (v.freshen.setStream (cmdStream c.e) { v.stream (cmdStream c.e) with
      stopCmds := (v.stream (cmdStream c.e)).stopCmds ++ [(ringId c.p c.i, v.fresh)], stopAt := some none, stopSeq := v.commitSeq },
      .waits v.fresh) := if_neg (ne_true_of_eq_false (beq_false_of_ne hr))

/-- The stop of a stream whose start is pending waits with the start (03 R127). -/
theorem streamStop_pending (h : s.Accepts c 0x12 (streamStopChecks c)) (hr : (s.stream (cmdStream c.e)).st ≠ .running) :
    ∃ u, s.command c 0x12 (streamStopChecks c) (streamStopEffect c) = .next u ∧
      u.WaitsForLast s c (s.stream (cmdStream c.e)).stopCmds none (s.stream (cmdStream c.e)).st := by
  refine streamStop_waits h fun v hv => ?_
  rw [← hv.within.stream] at hr ⊢
  rw [streamStopEffect_pending hr, ← hv.fresh]
  refine ⟨rfl, _, ?_, ?_, ?_, hv.freshen.setStream _ _⟩ <;> rfl

/-- The effect of STREAM_STOP on a Running stream. -/
theorem streamStopEffect_running (hr : (v.stream (cmdStream c.e)).st = .running) : streamStopEffect c v =
    (v.freshen.streamStop (cmdStream c.e) (ringId c.p c.i) v.fresh,
      if ((v.freshen.streamStop (cmdStream c.e) (ringId c.p c.i) v.fresh).stream (cmdStream c.e)).st = .configured
      then .ok else .waits v.fresh) := by
  simp only [streamStopEffect, hr, beq_iff_eq, if_true]
  split <;> rfl

/-- The stop of a Running stream whose last frame is open or to come waits for it (03 R127). -/
theorem streamStop_running {last : Option Nat} (h : s.Accepts c 0x12 (streamStopChecks c)) (hr : (s.stream (cmdStream c.e)).st = .running)
    (g : ∀ (v : State) cmds seq, v.Reports s →
      (v.freshen.streamStopBy (cmdStream c.e) cmds seq).Reports (v.freshen.stopsAt (cmdStream c.e) cmds seq last)) :
    ∃ u, s.command c 0x12 (streamStopChecks c) (streamStopEffect c) = .next u ∧ u.WaitsForLast s c [] last .stopping := by
  refine streamStop_waits h fun v hv => ?_
  have effect := g v [(ringId c.p c.i, v.fresh)] v.freshen.commitSeq hv
  have stopping : ((v.freshen.streamStop (cmdStream c.e) (ringId c.p c.i) v.fresh).stream (cmdStream c.e)).st ≠ .configured := by
    rw [show (v.freshen.streamStop (cmdStream c.e) (ringId c.p c.i) v.fresh).stream (cmdStream c.e) = _ from effect.within.stream _]
    simp [State.stopsAt]
  rw [streamStopEffect_running (by rw [hv.within.stream]; exact hr), if_neg stopping, ← hv.fresh]
  exact ⟨rfl, _, rfl, rfl, rfl, effect.trans (hv.freshen.setStream _ _)⟩

theorem streamStop_next (h : s.Accepts c 0x12 (streamStopChecks c)) (hr : (s.stream (cmdStream c.e)).st = .running)
    (hn : ∀ f, (s.sconce (s.stream (cmdStream c.e)).sconce).openFrame = some f → f.number < (s.stream (cmdStream c.e)).first) :
    ∃ u, s.command c 0x12 (streamStopChecks c) (streamStopEffect c) = .next u ∧ u.WaitsForLast s c [] none .stopping := by
  refine streamStop_running h hr fun v cmds seq hv => ?_
  simp only [← hv.within.stream, ← hv.within.sconce] at hn
  exact State.streamStopBy_next hn

theorem streamStop_carried {f : Frame} (h : s.Accepts c 0x12 (streamStopChecks c)) (hr : (s.stream (cmdStream c.e)).st = .running)
    (ho : (s.sconce (s.stream (cmdStream c.e)).sconce).openFrame = some f) (hf : (s.stream (cmdStream c.e)).first ≤ f.number)
    (hc : (s.stream (cmdStream c.e)).frames.any (fun g => g.number == f.number) = true) :
    ∃ u, s.command c 0x12 (streamStopChecks c) (streamStopEffect c) = .next u ∧ u.WaitsForLast s c [] (some f.number) .stopping := by
  refine streamStop_running h hr fun v cmds seq hv => ?_
  simp only [← hv.within.stream, ← hv.within.sconce] at ho hf hc
  exact State.streamStopBy_carried ho hf hc

/-- The stop of a Running stream that does not carry the open frame, though it may, is done at once (03 R127). -/
theorem streamStop_done {f : Frame} (h : s.Accepts c 0x12 (streamStopChecks c)) (hr : (s.stream (cmdStream c.e)).st = .running)
    (ho : (s.sconce (s.stream (cmdStream c.e)).sconce).openFrame = some f) (hf : (s.stream (cmdStream c.e)).first ≤ f.number)
    (hc : (s.stream (cmdStream c.e)).frames.any (fun g => g.number == f.number) = false) :
    ∃ u, s.command c 0x12 (streamStopChecks c) (streamStopEffect c) = .next u ∧
      (∃ y : Stream, y.st = .configured ∧ y.stopAt = none ∧ u.Reports (s.freshen.setStream (cmdStream c.e) y)) ∧
      u.Completed s c .success := by
  refine State.command_succeeds h fun v hv => ?_
  simp only [← hv.within.stream, ← hv.within.sconce] at hr ho hf hc
  obtain ⟨y, configured, stopAt, effect⟩ := State.streamStopBy_missed (s := v.freshen) (cmds := [(ringId c.p c.i, v.fresh)])
    (seq := v.freshen.commitSeq) ho hf hc
  have done : ((v.freshen.streamStop (cmdStream c.e) (ringId c.p c.i) v.fresh).stream (cmdStream c.e)).st = .configured := by
    rw [show (v.freshen.streamStop (cmdStream c.e) (ringId c.p c.i) v.fresh).stream (cmdStream c.e) = _ from effect.within.stream _]
    simpa using configured
  rw [streamStopEffect_running hr, if_pos done]
  exact ⟨rfl, effect.answers.trans (State.answers_of_ports rfl rfl),
    fun u hu => ⟨y, configured, stopAt, hu.trans (effect.trans (hv.freshen.setStream _ y))⟩⟩

end

/-! ### STREAM_RELEASE (03 R127) -/

theorem State.spoolLevels_within (s : State) : s.spoolLevels.Within s := by
  refine State.Within.foldl (fun t p => ?_) _ _
  have told (b : Bool) (c d k x : Nat) : ((t.setPort p { t.port p with spoolHigh := b }).record p 1 c d islandNoc k x).Within t :=
    (State.record_reports ..).within.trans (State.setPort_within ..)
  unfold State.spoolLevel
  exact .ite (told ..) (.ite (told ..) (State.Reports.refl t).within)

/-- STREAM_RELEASE leaves where the host ports stand as it is. -/
theorem streamReleaseEffect_answers (c : RingCmd) (v : State) : (streamReleaseEffect c v).1.Answers v :=
  State.answers_of_footing (congrArg Spine.mode (streamReleaseEffect_spine c v)) (by simp [streamReleaseEffect, State.streamState])

/-- Beside the ports and reporting, the stream is Free with its counters, and one sconce may let frames go. -/
theorem streamReleaseEffect_frees (c : RingCmd) (h : v.Reports s) : ∃ k z, (streamReleaseEffect c v).1.Within
    ((s.setStream (cmdStream c.e) { Stream.reset with counters := (s.stream (cmdStream c.e)).counters }).setSconce k z) := by
  rw [← h.within.stream]
  have freed := ((State.streamState_reports v (cmdStream c.e) .free 0).setStream (cmdStream c.e)
    { Stream.reset with counters := (v.stream (cmdStream c.e)).counters }).within
  rw [State.setStream_setStream] at freed
  exact ⟨_, _, (State.spoolLevels_within _).trans ((freed.trans (h.setStream _ _).within).setSconce _ _)⟩

theorem streamRelease_runs {c : RingCmd} (h : s.Accepts c 0x14 (streamReleaseChecks c)) :
    ∃ u, s.command c 0x14 (streamReleaseChecks c) (streamReleaseEffect c) = .next u ∧
      (∃ k z, u.Within
        ((s.setStream (cmdStream c.e) { Stream.reset with counters := (s.stream (cmdStream c.e)).counters }).setSconce k z)) ∧
      u.Completed s c .success := by
  refine State.command_succeeds h fun v hv => ⟨rfl, streamReleaseEffect_answers c v, fun u hu => ?_⟩
  obtain ⟨k, z, freed⟩ := streamReleaseEffect_frees c hv
  exact ⟨k, z, hu.within.trans freed⟩

/-- Settles O7: each effect, but for reporting, is an update of one stream, and for STREAM_CONFIG and STREAM_RELEASE of one sconce. -/
theorem streamCommandsRun : Obligations.StreamCommandsRun := by
  refine ⟨fun t c s0 h => ?_, fun t c s0 h => ?_, fun t c s0 h => ⟨fun hr => ?_, fun hr ho => ?_, fun f hr ho => ⟨fun hf => ?_, fun hf hc => ?_,
    fun hf hc => ?_⟩⟩, fun t c s0 h => ?_⟩
  · obtain ⟨u, hu, hc, done⟩ := command_does' _ h (fun v hv => ⟨streamConfigEffect_reports hv, rfl⟩) rfl rfl
    have stream := (hc.within.stream (cmdStream c.e)).trans (State.stream_setStream ..)
    refine ⟨u, hu, ⟨?_, fun m hm => ?_, ?_, fun j hj => ?_, ?_⟩, done⟩
    · rw [stream]
      exact ⟨rfl, rfl, rfl, rfl, rfl, rfl, rfl, rfl, rfl, rfl, rfl, rfl, rfl, rfl⟩
    · exact (hc.within.stream m).trans (State.streamConfigured_stream_other _ _ _ hm)
    · exact (hc.within.sconce _).trans (State.streamConfigured_sconce ..)
    · exact (hc.within.sconce j).trans (State.streamConfigured_sconce_other _ _ _ hj)
    · rw [hc.within.streams, hc.within.sconces]
      exact hc
  · obtain ⟨u, hu, ⟨v, hv, starts⟩, done⟩ := streamStart_runs h
    have stream := (starts.stream (cmdStream c.e)).trans (State.stream_setStream ..)
    have effect := starts.trans (hv.setStream (cmdStream c.e) _).within
    refine ⟨u, hu, ?_, done⟩
    rw [stream, ← hv.within.stream, ← hv.dt]
    exact ⟨rfl, rfl, rfl, rfl, rfl, rfl, rfl, fun m hm => (effect.stream m).trans (State.stream_setStream_other _ _ hm), effect.but_streams⟩
  · exact streamStop_pending h hr
  · exact streamStop_next h hr fun f hf => absurd (ho.symm.trans hf) nofun
  · exact streamStop_next h hr fun g hg => Option.some.inj (ho.symm.trans hg) ▸ hf
  · exact streamStop_carried h hr ho hf hc
  · obtain ⟨u, hu, ⟨y, configured, stopAt, effect⟩, done⟩ := streamStop_done h hr ho hf hc
    have stream : u.stream (cmdStream c.e) = y := (effect.within.stream _).trans (State.stream_setStream ..)
    exact ⟨u, hu, stream ▸ configured, stream ▸ stopAt,
      fun m hm => (effect.within.stream m).trans (State.stream_setStream_other _ _ hm), effect.but_streams, done⟩
  · obtain ⟨u, hu, ⟨k, z, freed⟩, done⟩ := streamRelease_runs h
    refine ⟨u, hu, ⟨(freed.stream _).trans (State.stream_setStream ..),
      fun m hm => (freed.stream m).trans (State.stream_setStream_other _ _ hm), ?_⟩, done⟩
    rw [freed.streams, freed.sconces]
    exact freed

end Sys2Proof.Machine
end

section
/-!
SUPPORT. What the operations of a camera lane change and what they leave as it was (04 R136 to R182): but for reporting they stay on their
lane, and each moves few fields of it.
-/

namespace Sys2Proof.Machine

variable {s u v w : State} {l : Nat}

/-! ### One lane and reporting -/

theorem State.Within.lanes (h : u.Within s) : u.lanes = s.lanes := by obtain ⟨_, _, _, _, _, rfl⟩ := h; rfl
theorem State.Within.lane (h : u.Within s) (m : Nat) : u.lane m = s.lane m := congrArg (tabGet Lane.reset · m) h.lanes

/-- But for reporting, only lane l may differ. -/
structure State.OnLane (u s : State) (l : Nat) : Prop where
  other : ∀ m, m ≠ l → u.lane m = s.lane m
  reports : u.Reports { s with lanes := u.lanes }

theorem State.OnLane.refl (s : State) (l : Nat) : s.OnLane s l := ⟨fun _ _ => rfl, State.Reports.refl s⟩

theorem State.OnLane.trans (h : u.OnLane v l) (g : v.OnLane s l) : u.OnLane s l :=
  ⟨fun m hm => (h.other m hm).trans (g.other m hm),
    h.reports.trans (g.reports.map (fun t => { t with lanes := u.lanes }) fun _ _ _ _ _ _ => rfl)⟩

theorem State.OnLane.ite {c : Prop} [Decidable c] (h : u.OnLane s l) (g : v.OnLane s l) : (if c then u else v).OnLane s l := by
  split <;> assumption

theorem State.OnLane.foldl {α : Type} {f : State → α → State} (h : ∀ t x, (f t x).OnLane t l) (xs : List α) (s : State) :
    (xs.foldl f s).OnLane s l := by
  induction xs generalizing s with
  | nil => exact .refl s l
  | cons a xs ih => exact (ih (f s a)).trans (h s a)

theorem State.Reports.onLane (h : u.Reports s) (l : Nat) : u.OnLane s l := by
  refine ⟨fun m _ => h.within.lane m, ?_⟩
  rw [h.within.lanes]
  exact h

theorem State.OnLane.sent (h : u.OnLane s l) {o : Output} (ho : s.Sent o) : u.Sent o := h.reports.2.1 o ho
theorem State.OnLane.ns (h : u.OnLane s l) : u.ns = s.ns := h.reports.ns
theorem State.OnLane.dt (h : u.OnLane s l) : u.dt = s.dt := h.reports.dt
theorem State.OnLane.mode (h : u.OnLane s l) : u.mode = s.mode := h.reports.mode
theorem State.OnLane.fresh (h : u.OnLane s l) : u.fresh = s.fresh := h.reports.fresh

theorem State.OnLane.answers (h : u.OnLane s l) : u.Answers s := h.reports.answers.trans (State.answers_of_ports rfl rfl)

theorem State.setLane_onLane (s : State) (l : Nat) (x : Lane) : (s.setLane l x).OnLane s l :=
  ⟨fun _ hm => s.lane_setLane_other x hm, State.Reports.refl _⟩

theorem State.modLane_onLane (s : State) (l : Nat) (f : Lane → Lane) : (s.modLane l f).OnLane s l := s.setLane_onLane l _

@[simp] theorem State.lane_modLane (s : State) (l : Nat) (f : Lane → Lane) : (s.modLane l f).lane l = f (s.lane l) := s.lane_setLane l _
@[simp] theorem State.lane_freshen (s : State) (m : Nat) : s.freshen.lane m = s.lane m := rfl

/-! ### Records, counters and states (04 R137, R146, R182) -/

theorem State.laneRecord_reports (s : State) (l cls typ sensor hi data : Nat) : (s.laneRecord l cls typ sensor hi data).Reports s :=
  State.report_reports ..

@[simp] theorem State.lane_laneRecord (s : State) (l cls typ sensor hi data m : Nat) :
    (s.laneRecord l cls typ sensor hi data).lane m = s.lane m := (State.laneRecord_reports ..).within.lane m

theorem State.laneCount_onLane (s : State) (l code n : Nat) : (s.laneCount l code n).OnLane s l := by
  unfold State.laneCount
  exact .ite (.refl s l) (.ite (((State.laneRecord_reports ..).onLane l).trans ((State.modLane_onLane ..).trans (s.setLane_onLane l _)))
    (s.setLane_onLane l _))

/-- The counter rises, and the reports of LANE_ERRORS are noted. -/
theorem State.laneCount_lane (s : State) (l code n : Nat) : ∃ r, (s.laneCount l code n).lane l =
    { s.lane l with
      counters := if n = 0 then (s.lane l).counters else tabPut (s.lane l).counters code (satAdd 32 (tabGet 0 (s.lane l).counters code) n)
      reports := r } := by
  unfold State.laneCount
  split
  · exact ⟨(s.lane l).reports, rfl⟩
  · extract_lets x v s1 old base free
    split
    · exact ⟨_, by rw [State.lane_laneRecord, State.lane_modLane, State.lane_setLane]⟩
    · exact ⟨(s.lane l).reports, s.lane_setLane l _⟩

theorem State.laneCount_counter_same (s : State) (l code : Nat) {n : Nat} (h : n ≠ 0) :
    tabGet 0 ((s.laneCount l code n).lane l).counters code = satAdd 32 (tabGet 0 (s.lane l).counters code) n := by
  obtain ⟨r, hr⟩ := s.laneCount_lane l code n
  simp [hr, h]

theorem State.laneCount_counter_other (s : State) (l n : Nat) {code c : Nat} (h : c ≠ code) :
    tabGet 0 ((s.laneCount l code n).lane l).counters c = tabGet 0 (s.lane l).counters c := by
  obtain ⟨r, hr⟩ := s.laneCount_lane l code n
  rw [hr]
  dsimp only
  split
  · rfl
  · exact tabGet_put_other _ _ _ h

/-- What counting leaves of a lane: what does not read its counters. -/
theorem State.laneCount_keeps {α : Type} (f : Lane → α) (h : ∀ x c r, f { x with counters := c, reports := r } = f x)
    (s : State) (l code n : Nat) : f ((s.laneCount l code n).lane l) = f (s.lane l) := by
  obtain ⟨r, hr⟩ := s.laneCount_lane l code n
  rw [hr, h]

/-- The lane in a state that it has just entered. -/
def Lane.entered (x : Lane) (st : LaneState) (ns : Nat) : Lane :=
  { x with st := st, since := ns, limit := (x.stateLimit st).map (· + ns), phase := 0, sentSeen := false
           gotHello := false, gotSeen := false, beaconDue := ns }

theorem State.laneTo_eq {st : LaneState} (h : (s.lane l).st ≠ st) : s.laneTo l st =
    (s.setLane l ((s.lane l).entered st s.ns)).laneRecord l 3 0x0101 0 0 (st.code + (s.lane l).st.code * 2 ^ 8) :=
  if_neg (ne_true_of_eq_false (beq_false_of_ne h))

theorem State.laneTo_same {st : LaneState} (h : (s.lane l).st = st) : s.laneTo l st = s := if_pos (beq_iff_eq.2 h)

theorem State.laneTo_onLane (s : State) (l : Nat) (st : LaneState) : (s.laneTo l st).OnLane s l := by
  by_cases h : (s.lane l).st = st
  · rw [State.laneTo_same h]; exact .refl s l
  · rw [State.laneTo_eq h]; exact ((State.laneRecord_reports ..).onLane l).trans (s.setLane_onLane l _)

theorem State.laneTo_lane {st : LaneState} (h : (s.lane l).st ≠ st) : (s.laneTo l st).lane l = (s.lane l).entered st s.ns := by
  rw [State.laneTo_eq h, State.lane_laneRecord, State.lane_setLane]

theorem State.laneTo_st (s : State) (l : Nat) (st : LaneState) : ((s.laneTo l st).lane l).st = st := by
  by_cases h : (s.lane l).st = st
  · rw [State.laneTo_same h, h]
  · rw [State.laneTo_lane h]; rfl

/-- What a change of state leaves of a lane. -/
theorem State.laneTo_keeps {α : Type} (f : Lane → α) (h : ∀ x st ns, f (x.entered st ns) = f x) (s : State) (l : Nat) (st : LaneState) :
    f ((s.laneTo l st).lane l) = f (s.lane l) := by
  by_cases hs : (s.lane l).st = st
  · rw [State.laneTo_same hs]
  · rw [State.laneTo_lane hs, h]

end Sys2Proof.Machine
end

section
/-!
The checks of the wick (04 R136, R143 to R145, R166, R167).
-/

namespace Sys2Proof.Machine

variable {s u v w : State} {l : Nat} {k : LanePkt}

/-! ### The windows of merged sensors (04 R167) -/

theorem State.overWindow_onLane (s : State) (l sn : Nat) : (s.overWindow l sn).OnLane s l := by
  have counted (y : Lane) : ((s.setLane l y).laneCount l 0x13 1).OnLane s l := (State.laneCount_onLane ..).trans (s.setLane_onLane l y)
  unfold State.overWindow
  exact .ite (((State.laneRecord_reports ..).onLane l).trans ((State.modLane_onLane ..).trans (counted _))) (counted _)

/-- What the judgement of a window leaves of its lane. -/
theorem State.overWindow_keeps {α : Type} (f : Lane → α)
    (h : ∀ x c r o a, f { x with counters := c, reports := r, shareOver := o, shareLast := a } = f x) (s : State) (l sn : Nat) :
    f ((s.overWindow l sn).lane l) = f (s.lane l) := by
  have counted (o : Tab Nat) : f (((s.setLane l { s.lane l with shareOver := o }).laneCount l 0x13 1).lane l) = f (s.lane l) := by
    rw [State.laneCount_keeps f (fun x c r => h x c r x.shareOver x.shareLast), State.lane_setLane]
    exact h _ _ _ _ (s.lane l).shareLast
  unfold State.overWindow
  extract_lets y n free s1
  split
  · rw [State.lane_laneRecord, State.lane_modLane]
    exact (h _ _ _ _ _).trans (counted _)
  · exact counted _

theorem State.overWindows_keeps {α : Type} (f : Lane → α)
    (h : ∀ x c r o a, f { x with counters := c, reports := r, shareOver := o, shareLast := a } = f x) (s : State) (l : Nat) (xs : List Nat) :
    f ((xs.foldl (fun t sn => t.overWindow l sn) s).lane l) = f (s.lane l) := by
  induction xs generalizing s with
  | nil => rfl
  | cons a xs ih => exact (ih _).trans (State.overWindow_keeps f h s l a)

theorem State.shareWindow_onLane (s : State) (l : Nat) : (s.shareWindow l).OnLane s l := by
  unfold State.shareWindow
  exact .ite (.refl s l) ((State.OnLane.foldl (fun _ _ => State.overWindow_onLane ..) _ _).trans (s.setLane_onLane l _))

/-- The lane without its account of what it receives. -/
def Lane.core (x : Lane) : Lane :=
  { x with counters := [], reports := [], hunt := false, rxSeq := none, share := [], shareStart := 0, shareOver := [], shareLast := [] }

theorem State.shareWindow_core (s : State) (l : Nat) : ((s.shareWindow l).lane l).core = (s.lane l).core := by
  unfold State.shareWindow
  dsimp only
  split
  · rfl
  · rw [State.overWindows_keeps Lane.core fun _ _ _ _ _ => rfl, State.lane_setLane]
    rfl

/-- A window is judged without a count of the wick's own: its counter is 0x13 (04 R146, R167). -/
theorem State.overWindow_counter (s : State) (l sn : Nat) {c : Nat} (h : c ≠ 0x13) :
    tabGet 0 ((s.overWindow l sn).lane l).counters c = tabGet 0 (s.lane l).counters c := by
  have counted (o : Tab Nat) : tabGet 0 (((s.setLane l { s.lane l with shareOver := o }).laneCount l 0x13 1).lane l).counters c =
      tabGet 0 (s.lane l).counters c := by
    rw [State.laneCount_counter_other _ _ _ h, State.lane_setLane]
  unfold State.overWindow
  extract_lets y n free s1
  split
  · rw [State.lane_laneRecord, State.lane_modLane]
    exact counted _
  · exact counted _

theorem State.shareWindow_counter (s : State) (l : Nat) {c : Nat} (h : c ≠ 0x13) :
    tabGet 0 ((s.shareWindow l).lane l).counters c = tabGet 0 (s.lane l).counters c := by
  have judged (xs : List Nat) (v : State) :
      tabGet 0 ((xs.foldl (fun t sn => t.overWindow l sn) v).lane l).counters c = tabGet 0 (v.lane l).counters c := by
    induction xs generalizing v with
    | nil => rfl
    | cons a xs ih => exact (ih _).trans (v.overWindow_counter l a h)
  unfold State.shareWindow
  dsimp only
  split
  · rfl
  · rw [judged, State.lane_setLane]

/-! ### What the wick does before it judges a packet -/

/-- The bits that the code corrected, and those it could not, are counted (04 R133, R146). -/
def State.heard (s : State) (l : Nat) (k : LanePkt) : State :=
  ((s.shareWindow l).laneCount l 1 k.corrected).laneCount l 2 k.uncorrectable

/-- A valid header ends the hunt, and its SEQ and length are accounted for (04 R136, R143, R167). -/
def State.headed (s : State) (l : Nat) (k : LanePkt) : State :=
  let s0 := s.heard l k
  let x := s0.lane l
  let lost := match x.rxSeq with | some r => (hdrSeq k + 511 - r) % 256 | none => 0
  let share : Tab Nat := if x.mode == .merged then tabMod 0 x.share (hdrSensor k) (· + pktBytes k) else x.share
  (s0.setLane l { x with hunt := false, rxSeq := some (hdrSeq k), share := share }).laneCount l 7 lost

theorem State.heard_onLane (s : State) (l : Nat) (k : LanePkt) : (s.heard l k).OnLane s l :=
  (State.laneCount_onLane ..).trans ((State.laneCount_onLane ..).trans (s.shareWindow_onLane l))

theorem State.headed_onLane (s : State) (l : Nat) (k : LanePkt) : (s.headed l k).OnLane s l :=
  (State.laneCount_onLane ..).trans ((State.setLane_onLane ..).trans (s.heard_onLane l k))

theorem State.laneCount_core (s : State) (l code n : Nat) : ((s.laneCount l code n).lane l).core = (s.lane l).core :=
  State.laneCount_keeps Lane.core (fun _ _ _ => rfl) ..

theorem State.heard_core (s : State) (l : Nat) (k : LanePkt) : ((s.heard l k).lane l).core = (s.lane l).core :=
  (State.laneCount_core ..).trans ((State.laneCount_core ..).trans (s.shareWindow_core l))

theorem State.headed_core (s : State) (l : Nat) (k : LanePkt) : ((s.headed l k).lane l).core = (s.lane l).core := by
  refine (State.laneCount_core ..).trans (Eq.trans ?_ (s.heard_core l k))
  rw [State.lane_setLane]
  rfl

theorem State.headed_counter_undefinedDt (s : State) (l : Nat) (k : LanePkt) :
    tabGet 0 ((s.headed l k).lane l).counters 5 = tabGet 0 (s.lane l).counters 5 := by
  unfold State.headed State.heard
  simp only [State.lane_setLane, State.laneCount_counter_other _ _ _ (show 5 ≠ 7 by decide),
    State.laneCount_counter_other _ _ _ (show 5 ≠ 2 by decide), State.laneCount_counter_other _ _ _ (show 5 ≠ 1 by decide),
    State.shareWindow_counter _ _ (show 5 ≠ 0x13 by decide)]

/-! ### Its judgement (04 R144, R145, R166) -/

/-- The SENSOR is none that the lane may carry, of the whole hub's packets and, after a hub's first HELLO, of its sensors. -/
def Lane.strange (x : Lane) (k : LanePkt) : Bool :=
  (if x.mode == .merged then x.sensorCount != 0 && decide (x.sensorCount ≤ hdrSensor k) else hdrSensor k != 0) &&
    !(x.mode == .merged && decide (hdrSensor k = 0xFF) && (decide (hdrDt k = 6) || decide (hdrDt k = 7) || decide (hdrDt k = 0x3E)))

theorem State.wick_badHeader (h : hdrOk k.hdr = false) : s.wick l k =
    (if ((s.heard l k).lane l).hunt then s.heard l k else (s.heard l k).enterHunt l (fld k.hdr 0 1 = 0xFB), false) := by
  simp only [State.wick, h, Bool.not_false, if_true]
  rfl

theorem State.wick_header (h : hdrOk k.hdr = true) : s.wick l k =
    if bitsAt k.hdr 1 1 6 2 != 0 || bitsAt k.hdr 2 1 4 4 != 0 then ((s.headed l k).laneCount l 6 1, false)
    else if !dtDefined (hdrDt k) then ((s.headed l k).laneCount l 5 1, false)
    else if !dtShort (hdrDt k) && crc32c (pktPayload k) != k.crc.toNat then ((s.headed l k).laneCount l 4 1, false)
    else if k.overlaps then (s.headed l k, false)
    else if ((s.heard l k).lane l).strange k then ((s.headed l k).laneCount l 6 1, false)
    else (s.headed l k, true) := by
  simp only [State.wick, h, Bool.not_true, Bool.false_eq_true, if_false]
  rfl

theorem State.enterHunt_onLane (s : State) (l : Nat) (header : Bool) : (s.enterHunt l header).OnLane s l := by
  unfold State.enterHunt
  exact (State.laneCount_onLane ..).trans ((State.modLane_onLane ..).trans (.ite (State.laneCount_onLane ..) (.refl s l)))

/-- Whatever the wick's judgement, the lane is one of these. -/
theorem State.wick_cases {P : State → Prop} (heard : P (s.heard l k)) (hunts : ∀ b, P ((s.heard l k).enterHunt l b))
    (headed : P (s.headed l k)) (counts : ∀ c, P ((s.headed l k).laneCount l c 1)) : P (s.wick l k).1 := by
  cases h : hdrOk k.hdr with
  | false =>
    rw [State.wick_badHeader h]
    exact iteInduction (fun _ => heard) (fun _ => hunts _)
  | true =>
    rw [State.wick_header h]
    split_ifs
    exacts [counts _, counts _, counts _, headed, counts _, headed]

theorem State.wick_onLane (s : State) (l : Nat) (k : LanePkt) : (s.wick l k).1.OnLane s l :=
  State.wick_cases (P := fun u => u.OnLane s l) (s.heard_onLane l k)
    (fun _ => (State.enterHunt_onLane ..).trans (s.heard_onLane l k)) (s.headed_onLane l k)
    (fun _ => (State.laneCount_onLane ..).trans (s.headed_onLane l k))

theorem State.enterHunt_core (s : State) (l : Nat) (header : Bool) : ((s.enterHunt l header).lane l).core = (s.lane l).core := by
  refine (State.laneCount_core ..).trans ?_
  rw [State.lane_modLane]
  cases header with
  | false => rfl
  | true => exact s.laneCount_core l 3 1

/-- The wick leaves all of its lane but the account of what it receives. -/
theorem State.wick_core (s : State) (l : Nat) (k : LanePkt) : ((s.wick l k).1.lane l).core = (s.lane l).core :=
  State.wick_cases (P := fun u => (u.lane l).core = (s.lane l).core) (s.heard_core l k)
    (fun _ => (State.enterHunt_core ..).trans (s.heard_core l k)) (s.headed_core l k)
    (fun _ => (State.laneCount_core ..).trans (s.headed_core l k))

/-- The SENSOR is the lane's own: a hub's, or its sensors', or any before its first HELLO; else 0. -/
theorem Lane.strange_eq (x : Lane) (k : LanePkt) : x.strange k =
    !(if x.mode == .merged then x.sensorCount == 0 || decide (hdrSensor k < x.sensorCount) ||
        (hdrSensor k == 0xFF && (hdrDt k == 6 || hdrDt k == 7 || hdrDt k == 0x3E))
      else hdrSensor k == 0) := by
  unfold Lane.strange
  cases hm : x.mode == .merged with
  | false => simp [bne]
  | true =>
    have below : decide (x.sensorCount ≤ hdrSensor k) = !decide (hdrSensor k < x.sensorCount) := by
      rw [← decide_not, decide_eq_decide, Nat.not_lt]
    simp [bne, below, beq_eq_decide]

theorem Lane.strange_of_core {x y : Lane} (h : x.core = y.core) (k : LanePkt) : x.strange k = y.strange k := by
  have mode : x.mode = y.mode := (congrArg Lane.mode h :)
  have sensors : x.sensorCount = y.sensorCount := (congrArg Lane.sensorCount h :)
  simp only [Lane.strange, mode, sensors]

theorem State.wick_accepts (s : State) (l : Nat) (k : LanePkt) : (s.wick l k).2 =
    (hdrOk k.hdr && bitsAt k.hdr 1 1 6 2 == 0 && bitsAt k.hdr 2 1 4 4 == 0 && dtDefined (hdrDt k) &&
      (dtShort (hdrDt k) || crc32c (pktPayload k) == k.crc.toNat) && !k.overlaps && !(s.lane l).strange k) := by
  cases h : hdrOk k.hdr with
  | false => simp [State.wick_badHeader h]
  | true =>
    rw [State.wick_header h, Lane.strange_of_core (s.heard_core l k)]
    split_ifs <;> grind

/-- Settles O32: the wick's judgement is one Boolean expression, of the lane as it was, and all that it changes is the account of its lane. -/
theorem wickAcceptsValidPackets : Obligations.WickAcceptsValidPackets := by
  intro s l k x r merged mine
  have lane : r.1.OnLane s l := s.wick_onLane l k
  refine ⟨?_, lane.other, lane.reports⟩
  have accepted : r.2 = _ := s.wick_accepts l k
  rw [Lane.strange_eq, Bool.not_not] at accepted
  exact accepted

end Sys2Proof.Machine
end

section
/-!
The packets of a lane that receives, and the frames of an Ethernet lane (04 R144, R145, R152, R157, R169 to R171, R182).
-/

namespace Sys2Proof.Machine

variable {s u v w : State} {l : Nat} {k : LanePkt}

/-! ### Packets (04 R144, R145) -/

theorem State.packet_received {t4 : Nat} (hr : (s.lane l).receives s.ns = true) (hd : s.mode ≠ .dark) (hk : s.mode ≠ .keep) :
    s.packet l k t4 = if (s.wick l k).2 then (s.wick l k).1.packetBody l k t4 else (s.wick l k).1 := by
  simp [State.packet, hr, hd, hk]

theorem Lane.st_of_core {x y : Lane} (h : x.core = y.core) : x.st = y.st := (congrArg Lane.st h :)

section
variable {t4 : Nat}

theorem State.packetBody_hello (hd : hdrDt k = 0x3E) (hs : (s.lane l).st ≠ .up) :
    s.packetBody l k t4 = s.helloArrives l (pktPayload k) := by
  simp [State.packetBody, hd, hs]

theorem State.packetBody_hello_up (hd : hdrDt k = 0x3E) (hs : (s.lane l).st = .up) : s.packetBody l k t4 = s.laneDrop l 4 := by
  simp [State.packetBody, hd, hs]

theorem State.packetBody_syncResponse (hs : (s.lane l).st = .up) (hd : hdrDt k = 6) :
    s.packetBody l k t4 = s.syncResponse l (pktPayload k) t4 := by
  simp [State.packetBody, hd, hs]

theorem State.packetBody_controlResponse (hs : (s.lane l).st = .up) (hd : hdrDt k = 7) :
    s.packetBody l k t4 = s.controlResponse l (hdrSensor k) (pktPayload k) := by
  simp [State.packetBody, hd, hs]

theorem State.packetBody_cameraEvent (hs : (s.lane l).st = .up) (hd : hdrDt k = 8) :
    s.packetBody l k t4 = s.laneRecord l 3 0x010D (hdrSensor k) 0 (lfld (pktPayload k) 0 8) := by
  simp [State.packetBody, hd, hs]

theorem State.packetBody_image (hs : (s.lane l).st = .up) (h6 : hdrDt k ≠ 6) (h7 : hdrDt k ≠ 7) (h8 : hdrDt k ≠ 8) (hh : hdrDt k ≠ 0x3E) :
    s.packetBody l k t4 =
      s.classify l { sensor := hdrSensor k, vc := hdrVc k, dt := hdrDt k, wc := hdrWc k, payload := pktPayload k, stamp := s.dt } := by
  simp [State.packetBody, h6, h7, h8, hh, hs]

end

/-- A packet of an undefined data type is not accepted, and is counted (04 R145, R146). -/
theorem State.wick_undefinedDt (hh : hdrOk k.hdr = true) (h1 : bitsAt k.hdr 1 1 6 2 = 0) (h2 : bitsAt k.hdr 2 1 4 4 = 0)
    (hd : dtDefined (hdrDt k) = false) : s.wick l k = ((s.headed l k).laneCount l 5 1, false) := by
  simp [State.wick_header hh, h1, h2, hd]

/-! ### Frames (04 R169 to R171) -/

/-- A frame of a legal length with a right check sequence (04 R169). -/
def ethGood (f : EthFrame) : Prop :=
  64 ≤ f.bytes.length ∧ f.bytes.length ≤ 9216 ∧ crc32 (f.bytes.take (f.bytes.length - 4)) = lfld f.bytes (f.bytes.length - 4) 4

/-- A datagram in the lane's GVSP channels (04 R170). -/
def Lane.takesGvsp (x : Lane) (d : Udp) : Prop :=
  d.port ≠ 319 ∧ d.port ≠ 320 ∧ d.dst = x.ipv4 ∧ x.gvspPort ≤ d.port ∧ d.port < x.gvspPort + 4

theorem ethGood_checks {f : EthFrame} (h : ethGood f) : (f.bytes.length < 64 || 9216 < f.bytes.length ||
    crc32 (f.bytes.take (f.bytes.length - 4)) != lfld f.bytes (f.bytes.length - 4) 4) = false := by
  obtain ⟨h64, h9216, hcrc⟩ := h
  simp [hcrc, h64, h9216]

section
variable {l : Fin 128} {f : EthFrame} (hm : (s.lane l).mode = .ethernet) (hs : (s.lane l).st = .up)
  (hw : (s.lane l).wickWorks s.ns = true) (hd : s.mode ≠ .dark) (hk : s.mode ≠ .keep)
include hm hs hw hd hk

theorem State.ethernetFrame_bad (hg : ¬ethGood f) : s.ethernetFrame l f = s.laneCount l 0x10 1 := by
  have bad : (f.bytes.length < 64 || 9216 < f.bytes.length ||
      crc32 (f.bytes.take (f.bytes.length - 4)) != lfld f.bytes (f.bytes.length - 4) 4) = true := by
    by_contra h
    simp_all [ethGood]
  simp [State.ethernetFrame, hm, hs, hw, hd, hk, bad]

theorem State.ethernetFrame_ptp (hg : ethGood f) (he : (ethBody (f.bytes.take (f.bytes.length - 4))).1 = 0x88F7) :
    s.ethernetFrame l f = s.ptpReceive (.lane l) .annexF f.bytes.length (ethBody (f.bytes.take (f.bytes.length - 4))).2 (s.edgeAt f.sub) := by
  simp only [State.ethernetFrame, ethGood_checks hg, he]
  simp [hm, hs, hw, hd, hk]

theorem State.ethernetFrame_other (hg : ethGood f) (he : (ethBody (f.bytes.take (f.bytes.length - 4))).1 ≠ 0x88F7)
    (hu : (ethBody (f.bytes.take (f.bytes.length - 4))).1 ≠ 0x0800 ∨ udpOf (ethBody (f.bytes.take (f.bytes.length - 4))).2 = none) :
    s.ethernetFrame l f = s.toPacketRing l (f.bytes.take (f.bytes.length - 4)) := by
  have none : (if (ethBody (f.bytes.take (f.bytes.length - 4))).1 = 0x0800 then udpOf (ethBody (f.bytes.take (f.bytes.length - 4))).2
      else none) = none := by
    obtain hu | hu := hu <;> simp [hu]
  simp only [State.ethernetFrame, ethGood_checks hg, none]
  simp [hm, hs, hw, hd, hk, he]

section
variable {d : Udp} (hg : ethGood f) (he : (ethBody (f.bytes.take (f.bytes.length - 4))).1 = 0x0800)
  (hu : udpOf (ethBody (f.bytes.take (f.bytes.length - 4))).2 = some d)
include hg he hu

theorem State.ethernetFrame_udp : s.ethernetFrame l f =
    if d.port = 319 || d.port = 320 then s.ptpReceive (.lane l) .annexE f.bytes.length d.data (s.edgeAt f.sub)
    else if d.dst = (s.lane l).ipv4 && (s.lane l).gvspPort ≤ d.port && d.port < (s.lane l).gvspPort + 4 then
      if d.ok then s.gvspPacket l (d.port - (s.lane l).gvspPort) d.data else s.laneCount l 0x10 1
    else s.toPacketRing l (f.bytes.take (f.bytes.length - 4)) := by
  simp only [State.ethernetFrame, ethGood_checks hg, he, hu]
  simp [hm, hs, hw, hd, hk]

theorem State.ethernetFrame_ptpDatagram (hp : d.port = 319 ∨ d.port = 320) :
    s.ethernetFrame l f = s.ptpReceive (.lane l) .annexE f.bytes.length d.data (s.edgeAt f.sub) := by
  rw [State.ethernetFrame_udp hm hs hw hd hk hg he hu]
  exact if_pos (by simpa using hp)

theorem State.ethernetFrame_gvsp (hc : (s.lane l).takesGvsp d) : s.ethernetFrame l f =
    if d.ok then s.gvspPacket l (d.port - (s.lane l).gvspPort) d.data else s.laneCount l 0x10 1 := by
  obtain ⟨h319, h320, hdst, hlow, hhigh⟩ := hc
  rw [State.ethernetFrame_udp hm hs hw hd hk hg he hu]
  simp [h319, h320, hdst, hlow, hhigh]

theorem State.ethernetFrame_strange (h319 : d.port ≠ 319) (h320 : d.port ≠ 320) (hc : ¬(s.lane l).takesGvsp d) :
    s.ethernetFrame l f = s.toPacketRing l (f.bytes.take (f.bytes.length - 4)) := by
  have out : (d.dst = (s.lane l).ipv4 && (s.lane l).gvspPort ≤ d.port && d.port < (s.lane l).gvspPort + 4) = false := by
    by_contra h
    simp_all [Lane.takesGvsp]
  rw [State.ethernetFrame_udp hm hs hw hd hk hg he hu, out]
  simp [h319, h320]

end

end

/-- Settles O33: every packet row is `State.packet`, and both Ethernet rows are `State.ethernetFrame`. -/
theorem lanePacketsAndEthernetFrames : Obligations.LanePacketsAndEthernetFrames := by
  refine ⟨?_, ?_⟩
  · intro t l k frac s s1 r dt t4 pkt hr hd hk
    have packet (a : Nat) : s1.packet l k a = if r.2 then r.1.packetBody l k a else r.1 := State.packet_received hr hd hk
    have refused (h : r.2 = false) (a : Nat) : s1.packet l k a = r.1 := by rw [packet, h]; rfl
    have accepted (h : r.2 = true) (a : Nat) : s1.packet l k a = r.1.packetBody l k a := by rw [packet, h]; rfl
    have st : (r.1.lane l).st = (s1.lane l).st := Lane.st_of_core (s1.wick_core l k)
    refine ⟨fun h => ?_, fun h ht hs => ?_, fun h ht hs => ?_, fun h hs ht => ?_, fun h hs ht => ?_, fun h hs ht => ?_,
      fun h hs h6 h7 h8 hh => ?_, fun hh h1 h2 hu => ?_⟩
    · have row (a : Nat) : (.next (s1.packet l k a) : Host.Outcome State Fault Refusal) = .next r.1 := congrArg _ (refused h a)
      exact ⟨row _, row _, row _, row _, row _, row _, row _, row _, row _, row _, row _⟩
    · exact congrArg _ ((accepted h _).trans (State.packetBody_hello ht (st.trans_ne hs)))
    · exact congrArg _ ((accepted h _).trans (State.packetBody_hello_up ht (st.trans hs)))
    · exact congrArg _ ((accepted h _).trans (State.packetBody_syncResponse (st.trans hs) ht))
    · exact congrArg _ ((accepted h _).trans (State.packetBody_controlResponse (st.trans hs) ht))
    · exact congrArg _ ((accepted h _).trans (State.packetBody_cameraEvent (st.trans hs) ht))
    · have row (a : Nat) : (.next (s1.packet l k a) : Host.Outcome State Fault Refusal) = .next (r.1.classify l pkt) :=
        congrArg _ ((accepted h a).trans (State.packetBody_image (st.trans hs) h6 h7 h8 hh))
      exact ⟨row _, row _, row _, row _, row _, row _⟩
    · have wick : r = ((s1.headed l k).laneCount l 5 1, false) := State.wick_undefinedDt hh h1 h2 hu
      refine ⟨r.1, congrArg _ (refused (congrArg Prod.snd wick) _), ?_⟩
      rw [wick, State.laneCount_counter_same _ _ _ (by decide), State.headed_counter_undefinedDt]
      rfl
  · intro t l f s s1 x n b e good gvsp hm hs hw hd hk
    have row {u : State} (h : s1.ethernetFrame l f = u) : exec (.ethernetFrame t l f) s = .next u := congrArg _ h
    have bad (hg : ¬good) := row (State.ethernetFrame_bad hm hs hw hd hk hg)
    have ptp (hg : good) (he : e.1 = 0x88F7) := row (State.ethernetFrame_ptp hm hs hw hd hk hg he)
    have other (hg : good) (he : e.1 ≠ 0x88F7) (hu : e.1 ≠ 0x0800 ∨ udpOf e.2 = none) :=
      row (State.ethernetFrame_other hm hs hw hd hk hg he hu)
    have datagram (d : Udp) (hg : good) (he : e.1 = 0x0800) (hu : udpOf e.2 = some d) (hp : d.port = 319 ∨ d.port = 320) :=
      row (State.ethernetFrame_ptpDatagram hm hs hw hd hk hg he hu hp)
    have shown (d : Udp) (hg : good) (he : e.1 = 0x0800) (hu : udpOf e.2 = some d) (hc : gvsp d) (ho : d.ok = true) :=
      row ((State.ethernetFrame_gvsp hm hs hw hd hk hg he hu hc).trans (if_pos ho))
    have damaged (d : Udp) (hg : good) (he : e.1 = 0x0800) (hu : udpOf e.2 = some d) (hc : gvsp d) (ho : d.ok = false) :=
      row ((State.ethernetFrame_gvsp hm hs hw hd hk hg he hu hc).trans (if_neg (ne_true_of_eq_false ho)))
    have strange (d : Udp) (hg : good) (he : e.1 = 0x0800) (hu : udpOf e.2 = some d) (h319 : d.port ≠ 319) (h320 : d.port ≠ 320)
        (hc : ¬gvsp d) := row (State.ethernetFrame_strange hm hs hw hd hk hg he hu h319 h320 hc)
    exact ⟨bad, ptp, fun d hg he hu => ⟨datagram d hg he hu, shown d hg he hu, damaged d hg he hu, strange d hg he hu⟩, other,
      bad, ptp, fun d hg he hu => ⟨datagram d hg he hu, shown d hg he hu, damaged d hg he hu, strange d hg he hu⟩, other⟩

end Sys2Proof.Machine
end

section
/-!
SUPPORT. The frames in progress of a lane are completed at a drop (05 R204): elapsed time, the lanes and what a ring command's completion
needs stay as they are. One lemma for each operation, in the order of the model.
-/

namespace Sys2Proof.Machine

variable {s u v w : State}

/-- Elapsed time, the lanes, the ports that may write, and the rings but for what reporting moves in them. -/
@[ext] structure Bearing where
  ticks : Nat
  lanes : Tab Lane
  canWrite : Nat → Bool
  ring : Nat → Nat → Ring

/-- The part of a state that the completion of a frame leaves. -/
def State.bearing (s : State) : Bearing := ⟨s.ticks, s.lanes, fun p => (s.port p).canWrite, fun p i => (s.ring p i).shape⟩

theorem State.Reports.bearing (h : u.Reports s) : u.bearing = s.bearing := by
  refine Bearing.ext ?_ h.within.lanes (funext h.answers.canWrite) (funext fun p => funext (h.answers.shape p))
  obtain ⟨⟨_, _, _, _, _, rfl⟩, -⟩ := h
  rfl

theorem State.bearing_ns (h : u.bearing = s.bearing) : u.ns = s.ns := congrArg (fun b : Bearing => 2 * b.ticks) h

theorem State.bearing_answers (h : u.bearing = s.bearing) (hm : u.mode = s.mode) : u.Answers s :=
  ⟨hm, fun p => congrArg (fun b : Bearing => b.canWrite p) h, fun p i => congrArg (fun b : Bearing => b.ring p i) h⟩

@[simp] theorem State.bearing_ite (c : Prop) [Decidable c] (s u : State) :
    (if c then s else u).bearing = if c then s.bearing else u.bearing := apply_ite ..

@[simp] theorem State.foldl_bearing {α : Type} {f : State → α → State} (h : ∀ t x, (f t x).bearing = t.bearing) (l : List α) (s : State) :
    (l.foldl f s).bearing = s.bearing := by
  induction l generalizing s with
  | nil => rfl
  | cons a l ih => exact (ih _).trans (h s a)

/-! ### What every family shares -/

@[simp] theorem State.setLantern_bearing (s : State) (n : Nat) (x : Lantern) : (s.setLantern n x).bearing = s.bearing := rfl
@[simp] theorem State.modLantern_bearing (s : State) (n : Nat) (f : Lantern → Lantern) : (s.modLantern n f).bearing = s.bearing := rfl
@[simp] theorem State.setSconce_bearing (s : State) (k : Nat) (x : Sconce) : (s.setSconce k x).bearing = s.bearing := rfl
@[simp] theorem State.modSconce_bearing (s : State) (k : Nat) (f : Sconce → Sconce) : (s.modSconce k f).bearing = s.bearing := rfl
@[simp] theorem State.setChannel_bearing (s : State) (n : Nat) (x : Channel) : (s.setChannel n x).bearing = s.bearing := rfl

@[simp] theorem State.report_bearing (s : State) (o : Option Nat) (c y k b d : Nat) : (s.report o c y k b d).bearing = s.bearing :=
  (State.report_reports ..).bearing

@[simp] theorem State.journal_bearing (s : State) (q t i d : Nat) (b : List Byte) : (s.journal q t i d b).bearing = s.bearing :=
  (State.journal_reports ..).bearing

/-! ### Events (13 R447, R450) -/

@[simp] theorem State.gatedRecords_bearing (s : State) (n stamp : Nat) : (s.gatedRecords n stamp).bearing = s.bearing :=
  State.foldl_bearing (fun _ _ => State.journal_bearing ..) ..

@[simp] theorem State.emitOn_bearing (s : State) (n stamp p : Nat) : (s.emitOn n stamp p).bearing = s.bearing := by
  unfold State.emitOn
  extract_lets x close
  split
  · rfl
  · split
    · exact State.gatedRecords_bearing ..
    · rfl

@[simp] theorem State.emit0_bearing (s : State) (kind index stamp p : Nat) : (s.emit0 kind index stamp p).bearing = s.bearing := by
  simp [State.emit0, State.emit]

/-! ### The taps (08 R286, R307) -/

@[simp] theorem State.pend_bearing (s : State) (n src : Nat) : (s.pend n src).bearing = s.bearing := by simp [State.pend]
@[simp] theorem State.takeOver_bearing (s : State) (n : Nat) : (s.takeOver n).bearing = s.bearing := by simp [State.takeOver]
@[simp] theorem State.frameDone_bearing (s : State) (n : Nat) (f : Frame) : (s.frameDone n f).bearing = s.bearing := by
  simp [State.frameDone]

@[simp] theorem State.settleFrame_bearing (s : State) (n : Nat) : (s.settleFrame n).bearing = s.bearing := by
  simp only [State.settleFrame]; split <;> simp

@[simp] theorem State.lanternArrival_bearing (s : State) (n : Nat) : (s.lanternArrival n).bearing = s.bearing := by
  simp [State.lanternArrival]

@[simp] theorem State.tapsMoved_bearing (s : State) (k : Nat) : (s.tapsMoved k).bearing = s.bearing := by simp [State.tapsMoved]

/-! ### The pipeline moves on, and a frame has closed (06 R246, 15 R521, 16 R560) -/

@[simp] theorem State.uncorrected_bearing (s : State) (k n : Nat) : (s.uncorrected k n).bearing = s.bearing := by simp [State.uncorrected]

@[simp] theorem State.finishCorrections_bearing (s : State) (k : Nat) (f : Frame) : (s.finishCorrections k f).bearing = s.bearing := by
  simp [State.finishCorrections]

@[simp] theorem State.correctFrames_bearing (s : State) (k : Nat) : (s.correctFrames k).bearing = s.bearing := by
  simp [State.correctFrames]

@[simp] theorem State.letGo_bearing (s : State) (k : Nat) : (s.letGo k).bearing = s.bearing := by simp [State.letGo]
@[simp] theorem State.sconceMoves_bearing (s : State) (k : Nat) : (s.sconceMoves k).bearing = s.bearing := by simp [State.sconceMoves]

@[simp] theorem State.captureCloses_bearing (s : State) (k m : Nat) : (s.captureCloses k m).bearing = s.bearing := by
  unfold State.captureCloses; split <;> simp

@[simp] theorem State.patrolCloses_bearing (s : State) (k m tEnd : Nat) : (s.patrolCloses k m tEnd).bearing = s.bearing := by
  unfold State.patrolCloses; split <;> rfl

@[simp] theorem State.closeHook_bearing (s : State) (k m : Nat) : (s.closeHook k m).bearing = s.bearing := by simp [State.closeHook]

/-! ### Frame assembly (05) -/

@[simp] theorem State.asmRecord_bearing (s : State) (k cls typ data : Nat) : (s.asmRecord k cls typ data).bearing = s.bearing :=
  State.report_bearing ..

@[simp] theorem State.asmCount_bearing (s : State) (k code n : Nat) : (s.asmCount k code n).bearing = s.bearing := by
  simp [State.asmCount]

@[simp] theorem State.asmLimited_bearing (s : State) (k typ : Nat) (data : Nat → Nat) : (s.asmLimited k typ data).bearing = s.bearing := by
  simp [State.asmLimited]

@[simp] theorem State.modOpen_bearing (s : State) (k : Nat) (g : Frame → Frame) : (s.modOpen k g).bearing = s.bearing := rfl
@[simp] theorem State.flagOpen_bearing (s : State) (k bits : Nat) : (s.flagOpen k bits).bearing = s.bearing := rfl

@[simp] theorem State.shutFrame_bearing (s : State) (k tEnd : Nat) (keep : Bool) : (s.shutFrame k tEnd keep).bearing = s.bearing := by
  simp only [State.shutFrame]; split <;> simp

@[simp] theorem State.addLine_bearing (s : State) (k : Nat) (l : Line) (damaged : Bool) (bits endStamp : Nat) :
    (s.addLine k l damaged bits endStamp).bearing = s.bearing := by
  unfold State.addLine; split <;> simp

@[simp] theorem State.missingLine_bearing (s : State) (k : Nat) (num : Option Nat) (stamp : Nat) (trunc : Bool) :
    (s.missingLine k num stamp trunc).bearing = s.bearing := by
  simp only [State.missingLine]; split <;> simp

@[simp] theorem State.storeLine_bearing (s : State) (k stamp pixels : Nat) : (s.storeLine k stamp pixels).1.bearing = s.bearing := by
  simp only [State.storeLine]; split <;> rfl

@[simp] theorem State.closeLine_bearing (s : State) (k stamp : Nat) (trunc : Bool) : (s.closeLine k stamp trunc).bearing = s.bearing := by
  simp only [State.closeLine]; split <;> simp

@[simp] theorem State.journalClose_bearing (s : State) (why k at_ : Nat) : (s.journalClose why k at_).bearing = s.bearing := by
  unfold State.journalClose; split <;> simp

@[simp] theorem State.truncate_bearing (s : State) (k at_ : Nat) : (s.truncate k at_).bearing = s.bearing := by
  simp only [State.truncate]
  repeat' split
  all_goals simp

@[simp] theorem State.truncateLane_bearing (s : State) (l : Nat) : (s.truncateLane l).bearing = s.bearing := by
  simp [State.truncateLane]

theorem State.truncateLane_mode (s : State) (l : Nat) : (s.truncateLane l).mode = s.mode := congrArg Spine.mode (s.truncateLane_spine l)
theorem State.truncateLane_dt (s : State) (l : Nat) : (s.truncateLane l).dt = s.dt :=
  congrArg (fun x : Spine => x.time / 2 ^ 32 % 2 ^ 64) (s.truncateLane_spine l)

end Sys2Proof.Machine
end

section
/-!
SUPPORT. What a lane sends, and what waits to be sent (04 R143, R150 to R156, R165, R172, R178): each operation stays on its lane, and takes
nothing back that was sent.
-/

namespace Sys2Proof.Machine

variable {s u v w : State} {l : Nat}

/-! ### Packets and requests (04 R143, R150 to R152) -/

theorem State.lanePacket_onLane (s : State) (l dt sensor : Nat) (short : Bool) (payload : List Byte) :
    (s.lanePacket l dt sensor short payload).OnLane s l :=
  ((State.say_reports ..).onLane l).trans (s.setLane_onLane l _)

/-- What a packet leaves of its lane. -/
theorem State.lanePacket_keeps {α : Type} (f : Lane → α) (h : ∀ x q w, f { x with txSeq := q, wireEnd := w } = f x)
    (s : State) (l dt sensor : Nat) (short : Bool) (payload : List Byte) :
    f ((s.lanePacket l dt sensor short payload).lane l) = f (s.lane l) :=
  (congrArg f (s.lane_setLane l _)).trans (h ..)

theorem State.lanePacket_sent (s : State) (l dt sensor : Nat) (short : Bool) (payload : List Byte) :
    (s.lanePacket l dt sensor short payload).Sent
      (.downlink l (packetBytes dt sensor (s.lane l).txSeq short payload.length payload)) := List.mem_cons_self

/-- What a request asks, beside its transmissions (04 R151). -/
def LaneReq.asked (r : LaneReq) : LaneReq := { r with sent := 0, timer := none }

theorem State.sendRequest_onLane (s : State) (l : Nat) (r : LaneReq) : (s.sendRequest l r).OnLane s l := by
  unfold State.sendRequest
  exact (State.modLane_onLane ..).trans (s.lanePacket_onLane l 0x01 r.sensor false r.payload)

theorem State.sendRequest_keeps {α : Type} (f : Lane → α) (h : ∀ x q w r, f { x with txSeq := q, wireEnd := w, requests := r } = f x)
    (s : State) (l : Nat) (r : LaneReq) : f ((s.sendRequest l r).lane l) = f (s.lane l) := by
  have rest (x : Lane) (r : List LaneReq) : f { x with requests := r } = f x := h x x.txSeq x.wireEnd r
  unfold State.sendRequest
  rw [State.lane_modLane, rest]
  exact State.lanePacket_keeps f (fun x q w => h x q w x.requests) ..

theorem State.sendRequest_asked (s : State) (l : Nat) (r : LaneReq) :
    ((s.sendRequest l r).lane l).requests.map LaneReq.asked = (s.lane l).requests.map LaneReq.asked := by
  have kept : ((s.laneSend l 0x01 r.sensor r.payload).lane l).requests = (s.lane l).requests :=
    State.lanePacket_keeps Lane.requests (fun _ _ _ => rfl) ..
  unfold State.sendRequest
  rw [State.lane_modLane]
  dsimp only
  rw [kept, List.map_map]
  refine List.map_congr_left fun q _ => ?_
  rw [Function.comp_apply]
  split <;> rfl

theorem State.sendRequests_onLane (s : State) (l : Nat) : (s.sendRequests l).OnLane s l := by
  unfold State.sendRequests
  exact .ite (.refl s l) (.foldl (fun _ _ => State.sendRequest_onLane ..) _ _)

/-- What the transmission of requests leaves of a lane. -/
theorem State.sendRequests_keeps {α : Type} (f : Lane → α) (h : ∀ x q w r, f { x with txSeq := q, wireEnd := w, requests := r } = f x)
    (s : State) (l : Nat) : f ((s.sendRequests l).lane l) = f (s.lane l) := by
  have all (rs : List LaneReq) (v : State) : f ((rs.foldl (fun t r => t.sendRequest l r) v).lane l) = f (v.lane l) := by
    induction rs generalizing v with
    | nil => rfl
    | cons r rs ih => exact (ih _).trans (State.sendRequest_keeps f h ..)
  unfold State.sendRequests
  split
  · rfl
  · exact all ..

theorem State.sendRequests_asked (s : State) (l : Nat) :
    ((s.sendRequests l).lane l).requests.map LaneReq.asked = (s.lane l).requests.map LaneReq.asked := by
  have all (rs : List LaneReq) (v : State) :
      ((rs.foldl (fun t r => t.sendRequest l r) v).lane l).requests.map LaneReq.asked = (v.lane l).requests.map LaneReq.asked := by
    induction rs generalizing v with
    | nil => rfl
    | cons r rs ih => exact (ih _).trans (State.sendRequest_asked ..)
  unfold State.sendRequests
  split
  · rfl
  · exact all ..

theorem State.sendRequest_sent (s : State) (l : Nat) (r : LaneReq) : (s.sendRequest l r).Sent
    (.downlink l (packetBytes 0x01 r.sensor (s.lane l).txSeq false r.payload.length r.payload)) :=
  (State.modLane_onLane ..).sent (State.lanePacket_sent ..)

/-- Every request that is ready is sent (04 R150 to R152). -/
theorem State.sendRequests_sent (hc : (s.lane l).canSend = true) (hd : s.mode ≠ .dark) {r : LaneReq}
    (hr : r ∈ (s.lane l).readyRequests) :
    ∃ q, (s.sendRequests l).Sent (.downlink l (packetBytes 0x01 r.sensor q false r.payload.length r.payload)) := by
  have all (rs : List LaneReq) (v : State) (hr : r ∈ rs) : ∃ q, (rs.foldl (fun t r => t.sendRequest l r) v).Sent
      (.downlink l (packetBytes 0x01 r.sensor q false r.payload.length r.payload)) := by
    induction rs generalizing v with
    | nil => nomatch hr
    | cons a rs ih =>
      obtain rfl | hr := List.mem_cons.1 hr
      · exact ⟨_, (State.OnLane.foldl (fun _ _ => State.sendRequest_onLane ..) rs _).sent (v.sendRequest_sent l r)⟩
      · exact ih _ hr
  have sends : s.sendRequests l = (s.lane l).readyRequests.foldl (fun t r => t.sendRequest l r) s := by
    simp [State.sendRequests, hc, hd]
  rw [sends]
  exact all _ s hr

/-- The requests of a lane are lost, and its frames that wait (04 R174, R175). -/
theorem State.loseRequests_reports (s : State) (l : Nat) :
    (s.loseRequests l).Reports (s.setLane l { s.lane l with requests := [], sends := [] }) :=
  (State.Reports.foldl (fun _ _ => State.finishWaiting_reports ..) _ _).trans
    (State.Reports.foldl (fun _ _ => State.finishWaiting_reports ..) _ _)

theorem State.loseRequests_onLane (s : State) (l : Nat) : (s.loseRequests l).OnLane s l :=
  ((s.loseRequests_reports l).onLane l).trans (s.setLane_onLane l _)

theorem State.loseRequests_lane (s : State) (l : Nat) :
    (s.loseRequests l).lane l = { s.lane l with requests := [], sends := [] } :=
  ((s.loseRequests_reports l).within.lane l).trans (s.lane_setLane l _)

/-! ### Frames (04 R172) -/

theorem State.flushSends_onLane (s : State) (l : Nat) : (s.flushSends l).OnLane s l := by
  unfold State.flushSends
  exact .ite (((State.Reports.foldl (fun _ _ => (State.finishWaiting_reports ..).trans (State.say_reports ..)) _ _).onLane l).trans
    (s.setLane_onLane l _)) (.refl s l)

/-- What the frames that leave take with them of their lane. -/
theorem State.flushSends_keeps {α : Type} (f : Lane → α) (h : ∀ x, f { x with sends := [] } = f x) (s : State) (l : Nat) :
    f ((s.flushSends l).lane l) = f (s.lane l) := by
  unfold State.flushSends
  dsimp only
  split
  · rw [((State.Reports.foldl (fun _ _ => (State.finishWaiting_reports ..).trans (State.say_reports ..)) _ _).within.lane l),
      State.lane_setLane, h]
  · rfl

/-! ### What was sent stays sent -/

/-- Nothing that was sent is taken back. -/
structure State.SentStays (u s : State) : Prop where
  sent : ∀ o, s.Sent o → u.Sent o

theorem State.SentStays.refl (s : State) : s.SentStays s := ⟨fun _ => id⟩
theorem State.SentStays.trans (h : u.SentStays v) (g : v.SentStays w) : u.SentStays w := ⟨fun o ho => h.sent o (g.sent o ho)⟩
theorem State.OnLane.sentStays (h : u.OnLane s l) : u.SentStays s := ⟨fun _ => h.sent⟩

theorem State.SentStays.ite {c : Prop} [Decidable c] (h : u.SentStays s) (g : v.SentStays s) : (if c then u else v).SentStays s := by
  split <;> assumption

theorem State.SentStays.foldl {α : Type} {f : State → α → State} (h : ∀ t x, (f t x).SentStays t) (xs : List α) (s : State) :
    (xs.foldl f s).SentStays s := by
  induction xs generalizing s with
  | nil => exact .refl s
  | cons a xs ih => exact (ih (f s a)).trans (h s a)

theorem State.sendTrig_sentStays (s : State) (l : Nat) (k : TrigPkt) (leave : Nat) : (s.sendTrig l k leave).SentStays s := by
  unfold State.sendTrig
  extract_lets late head s1 s2
  have one : s1.OnLane s l := by
    simp only [s1]
    exact .ite (State.lanePacket_onLane ..) (State.lanePacket_onLane ..)
  have two : s2.OnLane s l := by
    simp only [s2]
    exact .ite ((State.modLane_onLane ..).trans one) one
  have told : ((s2.laneCount l 0x0E 1).laneRecord l 2 0x0108 k.sensor k.target ((leave - k.onTime) / 256)).OnLane s l :=
    ((State.laneRecord_reports ..).onLane l).trans ((State.laneCount_onLane ..).trans two)
  exact .ite ⟨told.sentStays.sent⟩ two.sentStays

theorem State.sendNotice_onLane (s : State) (l rate : Nat) : (s.sendNotice l rate).OnLane s.freshen l :=
  (State.lanePacket_onLane ..).trans (State.modLane_onLane ..)

/-- The lane as a TIME_SYNC leaves it, before its packet (04 R156). -/
def Lane.synced (x : Lane) (t1 ns : Nat) : Lane :=
  { x with syncId := (x.syncId + 1) % 2 ^ 32, syncOpen := x.syncOpen ++ [((x.syncId + 1) % 2 ^ 32, t1, ns)]
           syncDue := ns + 125000 * x.syncPeriod }

/-- T1 of a TIME_SYNC that is handed to the downlink now (04 R156). -/
def State.syncT1 (s : State) (l : Nat) : Nat := (s.time + (s.wireStart l - 256 * s.ns) * 2 ^ 24) / 2 ^ 30 * 2 ^ 30

/-- The payload of the next TIME_SYNC of a lane (04 R156). -/
def State.syncPayload (s : State) (l : Nat) : List Byte :=
  leBytes 8 (s.syncT1 l / 2 ^ 32) ++ leBytes 4 (s.syncT1 l % 2 ^ 32) ++ leBytes 4 (((s.lane l).syncId + 1) % 2 ^ 32) ++
    leBytes 8 (Config.lanePhaseStep s.fresh).toNat ++ leBytes 4 (Config.laneRateAdj s.fresh).toNat ++ zeros 4

theorem State.sendSync_eq (s : State) (l : Nat) : s.sendSync l =
    ((s.setLane l ((s.lane l).synced (s.syncT1 l) s.ns)).freshen).lanePacket l 0x02 (s.lane l).syncSensor false (s.syncPayload l) := rfl

theorem State.sendSync_sentStays (s : State) (l : Nat) : (s.sendSync l).SentStays s := by
  have synced (y : Lane) : (s.setLane l y).freshen.SentStays s := ⟨fun _ => id⟩
  rw [State.sendSync_eq]
  exact (State.lanePacket_onLane ..).sentStays.trans (synced _)

theorem State.sendItem_sentStays (s : State) (l : Nat) (q : QItem) : (s.sendItem l q).SentStays s := by
  cases q with
  | halt => exact (State.lanePacket_onLane ..).sentStays
  | trig k => exact State.sendTrig_sentStays ..
  | notice r => exact ⟨(s.sendNotice_onLane l r).sentStays.sent⟩
  | sync => exact State.sendSync_sentStays ..

theorem State.laneFlush_sentStays (s : State) (l : Nat) : (s.laneFlush l).SentStays s := by
  unfold State.laneFlush
  refine .ite (.refl s) ?_
  exact (State.sendRequests_onLane ..).sentStays.trans
    ((State.SentStays.foldl (fun _ _ => State.sendItem_sentStays ..) _ _).trans (s.setLane_onLane l _).sentStays)

theorem State.sendHalt_onLane (s : State) (l : Nat) : (s.sendHalt l).OnLane s l := by
  unfold State.sendHalt
  exact .ite (s.setLane_onLane l _) (.ite ((State.lanePacket_onLane ..).trans (s.setLane_onLane l _))
    ((State.modLane_onLane ..).trans (s.setLane_onLane l _)))

theorem State.laneUp_sentStays (s : State) (l : Nat) : (s.laneUp l).SentStays s := by
  unfold State.laneUp
  extract_lets s1 x y s2 s3
  have one : s1.OnLane s l := State.laneTo_onLane ..
  have two : s2.OnLane s l := (s1.setLane_onLane l y).trans one
  have three : s3.OnLane s l := by
    simp only [s3]
    split
    · exact .ite two (((State.laneRecord_reports ..).onLane l).trans two)
    · exact two
  exact .ite ((s1.setLane_onLane l _).trans one).sentStays
    (.ite ((s3.sendHalt_onLane l).trans three).sentStays ((s3.laneFlush_sentStays l).trans three.sentStays))

theorem State.tryUp_sentStays (s : State) (l : Nat) : (s.tryUp l).SentStays s := by
  unfold State.tryUp
  exact .ite (s.laneUp_sentStays l) (.refl s)

end Sys2Proof.Machine
end

section
/-!
Bring-up, drop and loss of a lane (04 R137 to R140, R145, R165, R174, R175).
-/

namespace Sys2Proof.Machine

variable {s u v w : State} {l : Nat}

/-! ### States (04 R137) -/

theorem State.vlpIn_st {st : LaneState} (h : s.vlpIn l st = true) : (s.lane l).st = st := by
  simp only [State.vlpIn, Bool.and_eq_true, beq_iff_eq] at h
  exact h.1.1.2

/-- The lane has just entered this state, and no other lane has changed. -/
structure State.Entered (u s : State) (l : Nat) (st : LaneState) : Prop where
  st : (u.lane l).st = st
  since : (u.lane l).since = s.ns
  onLane : u.OnLane s l

theorem State.laneTo_entered {st : LaneState} (h : (s.lane l).st ≠ st) : (s.laneTo l st).Entered s l st :=
  ⟨s.laneTo_st l st, by rw [State.laneTo_lane h]; rfl, s.laneTo_onLane l st⟩

/-! ### HELLO and HALT (04 R137, R165) -/

theorem State.sendHello_sent (h : (s.lane l).transmits = true) : (s.sendHello l).Sent (.downlink l
    (packetBytes 0x3E (s.lane l).syncSensor (s.lane l).txSeq false (s.lane l).helloPayload.length (s.lane l).helloPayload)) := by
  simp only [State.sendHello, h, if_true]
  refine (State.tryUp_sentStays ..).sent _ ((State.modLane_onLane ..).sent ?_)
  have sent := (s.setLane l { s.lane l with beaconDue := s.ns + 10000 }).lanePacket_sent l 0x3E (s.lane l).syncSensor false
    (s.lane l).helloPayload
  rwa [State.lane_setLane] at sent

/-- HALT replaces what waits, and is sent or waits itself (04 R165). -/
theorem State.sendHalt_does (hv : (s.lane l).vlp = true) (hs : (s.lane l).st = .up) :
    ((s.lane l).transmits = true → (s.sendHalt l).Sent (.downlink l (packetBytes 0x05 0xFF (s.lane l).txSeq true 0 [])) ∧
        ((s.sendHalt l).lane l).queue = []) ∧
      ((s.lane l).transmits = false → ((s.sendHalt l).lane l).queue = [.halt]) ∧
      ((s.sendHalt l).lane l).beaconDue = s.ns + 10000 := by
  have up : (!((s.lane l).vlp && (s.lane l).st == .up)) = false := by simp [hv, hs]
  simp only [State.sendHalt, up, Bool.false_eq_true, if_false]
  cases ht : (s.lane l).transmits with
  | false =>
    simp
  | true =>
    simp only [if_true, State.laneShort]
    have sent := (s.setLane l { s.lane l with beaconDue := s.ns + 10000, queue := [] }).lanePacket_sent l 0x05 0xFF true []
    rw [State.lane_setLane] at sent
    refine ⟨fun _ => ⟨sent, ?_⟩, nofun, ?_⟩
    · rw [State.lanePacket_keeps Lane.queue fun _ _ _ => rfl, State.lane_setLane]
    · rw [State.lanePacket_keeps Lane.beaconDue fun _ _ _ => rfl, State.lane_setLane]

/-! ### UP in Ethernet mode (04 R175) -/

theorem State.laneUp_ethernet (h : (s.lane l).mode = .ethernet) : ((s.laneUp l).lane l).st = .up := by
  unfold State.laneUp
  extract_lets s1 x y s2 s3
  have mode : x.mode = .ethernet := (State.laneTo_keeps Lane.mode (fun _ _ _ => rfl) s l .up).trans h
  rw [if_pos (beq_iff_eq.2 mode), State.lane_setLane]
  exact s.laneTo_st l .up

theorem State.queueStamp_lanes (s : State) (x : TxStamp) : (s.queueStamp x).lanes = s.lanes := by
  unfold State.queueStamp
  extract_lets after n free s1
  split
  · rfl
  · split
    · rfl
    · split
      · exact (State.report_reports ..).within.lanes
      · rfl

theorem State.ptpSend_lanes (s : State) (annexE : Bool) (port typ seq : Nat) (m : List Byte) :
    (s.ptpSend annexE port typ seq m).lanes = s.lanes := by
  unfold State.ptpSend
  dsimp only
  split
  · exact State.queueStamp_lanes ..
  · rfl

theorem State.sendPtpAnnounce_lane (s : State) (l m : Nat) : (s.sendPtpAnnounce l).lane m = s.lane m :=
  congrArg (tabGet Lane.reset · m) (State.ptpSend_lanes ..)

/-! ### Drop and loss (04 R138, R174, R175) -/

/-- The lane has dropped: it retrains, and the instants of the drop are known. -/
def State.Dropped (u s : State) (l : Nat) : Prop := (u.lane l).st = .retrain ∧ (u.lane l).dropAt = some (s.dt, s.ns)

theorem State.laneDropped_dropped (s : State) (l cause : Nat) : (s.laneDropped l cause).Dropped s l := by
  unfold State.laneDropped State.Dropped
  extract_lets x s1
  rw [State.lane_laneRecord]
  refine ⟨State.laneTo_st .., ?_⟩
  rw [State.laneTo_keeps Lane.dropAt fun _ _ _ => rfl, State.laneCount_keeps Lane.dropAt fun _ _ _ => rfl]
  exact congrArg Lane.dropAt (s.lane_setLane l _)

theorem State.laneDrop_dropped (s : State) (l cause : Nat) : (s.laneDrop l cause).Dropped s l := by
  have dropped := (s.truncateLane l).laneDropped_dropped l cause
  unfold State.Dropped at dropped
  rwa [State.truncateLane_dt, State.bearing_ns (s.truncateLane_bearing l)] at dropped

theorem State.laneLost_eq {d at_ : Nat} (hd : (s.lane l).dropAt = some (d, at_)) (hs : (s.lane l).st ≠ .up) (hl : (s.lane l).lost = false)
    (ha : at_ + 100000000 ≤ s.ns) :
    s.laneLost l = ((s.setLane l { s.lane l with lost := true }).loseRequests l).laneRecord l 1 0x0103 0 0 d := by
  simp [State.laneLost, hd, hs, hl, ha]

/-! ### The hunt (04 R136, R145) -/

theorem State.enterHunt_hunt (s : State) (l : Nat) (header : Bool) : ((s.enterHunt l header).lane l).hunt = true := by
  unfold State.enterHunt
  rw [State.laneCount_keeps Lane.hunt fun _ _ _ => rfl, State.lane_modLane]

/-! ### The rows -/

section
variable {t : Nat} {l : Fin 128}

theorem execEthernetRetrainTimeout_due (hm : ((s.elapse t).lane l).mode = .ethernet) (hs : ((s.elapse t).lane l).st = .retrain)
    (hd : (s.elapse t).due ((s.elapse t).lane l).limit = true) :
    exec (.ethernetRetrainTimeout t l) s = .next ((s.elapse t).laneTo l .waitSignal) :=
  if_pos (by simp [hm, hs, hd])

theorem execHelloSend_due (hh : ((s.elapse t).lane l).helloing = true) (hb : ((s.elapse t).lane l).beaconDue ≤ (s.elapse t).ns)
    (hd : s.mode ≠ .dark) : exec (.helloSend t l) s = .next ((s.elapse t).sendHello l) :=
  if_pos (by simp [hh, hb, hd])

theorem execLaneDrop_drops {cause : Nat} (hs : ((s.elapse t).lane l).st = .up)
    (hc : if ((s.elapse t).lane l).mode = .ethernet then cause = 1 ∨ cause = 5 else 1 ≤ cause ∧ cause ≤ 3) (hd : s.mode ≠ .dark) :
    exec (.laneDrop t l cause) s = .next ((s.elapse t).laneDrop l cause) := by
  refine if_pos ?_
  split at hc
  · next hm => simp [hs, hm, hd, hc]
  · next hm => simp [hs, hm, hd, hc]

theorem execPcsAlignmentLoss_drops (hs : ((s.elapse t).lane l).st = .up) (hm : ((s.elapse t).lane l).mode = .ethernet)
    (hd : s.mode ≠ .dark) : exec (.pcsAlignmentLoss t l) s = .next ((s.elapse t).laneDrop l 5) :=
  if_pos (by simp [hs, hm, hd])

theorem execPcsAlignmentLock_up (hm : ((s.elapse t).lane l).mode = .ethernet)
    (hs : ((s.elapse t).lane l).st = .waitSignal ∨ ((s.elapse t).lane l).st = .retrain) (hr : ((s.elapse t).lane l).refStopped = false)
    (hd : s.mode ≠ .dark) : ∃ u, exec (.pcsAlignmentLock t l) s = .next u ∧ (u.lane l).st = .up := by
  refine ⟨_, if_pos (by obtain hs | hs := hs <;> simp [hs, hm, hr, hd]), ?_⟩
  rw [State.flushSends_keeps Lane.st fun _ => rfl]
  have up := State.laneUp_ethernet hm
  split
  · rwa [State.sendPtpAnnounce_lane]
  · exact up

theorem execHcrcError_hunts {x : BitVec 64} (hr : ((s.elapse t).lane l).receives (s.elapse t).ns = true) (hd : s.mode ≠ .dark)
    (hk : s.mode ≠ .keep) (hh : ((s.elapse t).lane l).hunt = false) (hi : x.toNat ≠ 0x0707070707070707) (ho : hdrOk x = false) :
    exec (.hcrcError t l x) s = .next ((s.elapse t).enterHunt l (fld x 0 1 = 0xFB)) :=
  if_pos (by simp [hr, hd, hk, hh, hi, ho])

theorem execHalt_due (hm : s.mode = .dark) (hv : ((s.elapse t).lane l).vlp = true) (hs : ((s.elapse t).lane l).st = .up)
    (hb : ((s.elapse t).lane l).beaconDue ≤ (s.elapse t).ns) : exec (.halt t l) s = .next ((s.elapse t).sendHalt l) :=
  if_pos (by simp [hm, hv, hs, hb])

end

/-- Settles O34: a row of bring-up is one change of state, and a drop truncates the lane's frames, which leaves time and the lanes. -/
theorem laneStatesChange : Obligations.LaneStatesChange := by
  intro t l s s1 x entered dropped
  have enter {v : State} {st : LaneState} (h : v.Entered s1 l st) : entered v st :=
    ⟨h.st, h.since, h.onLane.other, h.onLane.reports⟩
  have enters {a b : LaneState} (h : s1.vlpIn l a = true) (hab : a ≠ b) : entered (s1.laneTo l b) b :=
    enter (State.laneTo_entered ((State.vlpIn_st h).trans_ne hab))
  have timed {a : LaneState} (h : s1.vlpIn l a = true) (hd : s1.due x.limit = true) : (s1.vlpIn l a && s1.due x.limit) = true :=
    Bool.and_eq_true_iff.2 ⟨h, hd⟩
  refine ⟨fun h => ⟨_, if_pos h, enters h nofun⟩, fun h => ⟨_, if_pos h, enters h nofun⟩, fun h hd => ⟨_, if_pos (timed h hd), enters h nofun⟩,
    fun d h => ?_, fun h hd => ⟨_, if_pos (timed h hd), enters h nofun⟩, fun h hd => ⟨_, if_pos (timed h hd), enters h nofun⟩,
    fun h hd => ⟨_, if_pos (timed h hd), enters h nofun⟩, fun hm hs hd => ?_, fun hh hb hd ht => ?_, fun cause hs hc hd => ?_,
    fun hs hm hd => ?_, execPcsAlignmentLock_up, fun d at_ hd hs hl ha => ?_, fun y hr hd hk hh hi ho => ?_, fun hm hv hs hb => ?_⟩
  · have found : ((s1.modLane l (fun x => { x with direction := d.toNat })).lane l).st ≠ .hello := by
      rw [State.lane_modLane]
      exact (State.vlpIn_st h).trans_ne nofun
    have hello := State.laneTo_entered found
    refine ⟨_, if_pos h, enter ⟨hello.st, hello.since, hello.onLane.trans (State.modLane_onLane ..)⟩, ?_⟩
    rw [State.laneTo_keeps Lane.direction fun _ _ _ => rfl, State.lane_modLane]
  · exact ⟨_, execEthernetRetrainTimeout_due hm hs hd, enter (State.laneTo_entered (hs.trans_ne nofun))⟩
  · exact ⟨_, execHelloSend_due hh hb hd, State.sendHello_sent ht⟩
  · exact ⟨_, execLaneDrop_drops hs hc hd, State.laneDrop_dropped ..⟩
  · exact ⟨_, execPcsAlignmentLoss_drops hs hm hd, State.laneDrop_dropped ..⟩
  · have lane : (s1.laneLost l).OnLane s1 l ∧ (s1.laneLost l).lane l = { x with lost := true, requests := [], sends := [] } := by
      rw [State.laneLost_eq hd hs hl ha, State.lane_laneRecord, State.loseRequests_lane, State.lane_setLane]
      exact ⟨((State.laneRecord_reports ..).onLane l).trans ((State.loseRequests_onLane ..).trans (s1.setLane_onLane l _)), rfl⟩
    obtain ⟨onLane, lost⟩ := lane
    exact ⟨_, rfl, by rw [lost], by rw [lost], by rw [lost], onLane.other, onLane.reports⟩
  · exact ⟨_, execHcrcError_hunts hr hd hk hh hi ho, State.enterHunt_hunt .., (State.enterHunt_onLane ..).reports⟩
  · exact ⟨_, execHalt_due hm hv hs hb, State.sendHalt_does hv hs⟩

end Sys2Proof.Machine
end

section
/-!
LANE_REQUEST, LANE_PACKET_SEND and LANE_CONFIG (04 R154, R172, R179, R180).
-/

namespace Sys2Proof.Machine

variable {s u v w : State} {l : Nat} {c : RingCmd}

/-! ### LANE_REQUEST (04 R151, R154) -/

/-- The request that a LANE_REQUEST adds (04 R151). -/
def State.requestOf (s : State) (c : RingCmd) : LaneReq where
  ring := ringId c.p c.i
  arg := s.fresh
  since := s.ns
  sensor := fld c.e 9 1
  op := fld c.e 0xA 1
  length := fld c.e 0xB 1
  address := fld c.e 0xC 4
  data := leBytes 32 (fld c.e 0x10 32)
  result := if bitAt c.e 8 7 then some ((s.translate c.p (bufferVa c.e 0x30) 64 0x30).2.headD (0, 0, 0)).2.2 else none
  reqSeq := tabGet 0 (s.lane (cmdLane c.e)).reqSeq (fld c.e 9 1)
  sent := 0
  timer := none
  dropped := false

/-- The lane with the request of a command, and the next REQ_SEQ of its SENSOR (04 R151). -/
def State.requested (s : State) (c : RingCmd) : Lane :=
  let x := s.lane (cmdLane c.e)
  let sn := fld c.e 9 1
  { x with owner := some c.p, requests := x.requests ++ [s.requestOf c], reqSeq := tabPut x.reqSeq sn ((tabGet 0 x.reqSeq sn + 1) % 65536) }

theorem laneRequestEffect_eq (c : RingCmd) (s : State) : laneRequestEffect c s =
    ((s.freshen.setLane (cmdLane c.e) (s.requested c)).sendRequests (cmdLane c.e), .waits s.fresh) := rfl

theorem laneRequestEffect_onLane (c : RingCmd) (s : State) : (laneRequestEffect c s).1.OnLane s.freshen (cmdLane c.e) := by
  rw [laneRequestEffect_eq]
  exact (State.sendRequests_onLane ..).trans (s.freshen.setLane_onLane ..)

/-- What the transmission of requests leaves of the lane with its new request. -/
theorem laneRequestEffect_keeps {α : Type} (f : Lane → α) (h : ∀ x q w r, f { x with txSeq := q, wireEnd := w, requests := r } = f x)
    (c : RingCmd) (s : State) : f ((laneRequestEffect c s).1.lane (cmdLane c.e)) = f (s.requested c) := by
  rw [laneRequestEffect_eq]
  exact (State.sendRequests_keeps f h ..).trans (congrArg f (State.lane_setLane ..))

/-- The request waits on the lane, or has been sent (04 R150). -/
theorem laneRequestEffect_asks (c : RingCmd) (s : State) :
    ∃ r ∈ ((laneRequestEffect c s).1.lane (cmdLane c.e)).requests, r.asked = (s.requestOf c).asked := by
  have asked := (s.freshen.setLane (cmdLane c.e) (s.requested c)).sendRequests_asked (cmdLane c.e)
  rw [State.lane_setLane] at asked
  have mem : (s.requestOf c).asked ∈ (s.requested c).requests.map LaneReq.asked :=
    List.mem_map_of_mem (List.mem_append_right _ (List.mem_singleton_self _))
  rw [← asked] at mem
  exact List.mem_map.1 mem

/-! ### The end of a command that waits (03 R103, R105) -/

/-- The command has completed, or waits with this number; and a completion meets what it would have met before it. -/
def State.EndsWith (u s : State) (c : RingCmd) (a : Nat) : Prop := u.Answers s ∧ (u.Completed s c .success ∨ u.WaitsFor s c a)

theorem ringId_ring (c : RingCmd) : ringId c.p c.i / 1024 = c.ring.port ∧ ringId c.p c.i % 1024 = c.ring.idx :=
  ⟨ringId_port c.p c.ring.idx, ringId_index c.p c.ring.idx⟩

theorem State.Completed.stays {st : Status} (h : v.Completed s c st) (g : u.SentStays v) : u.Completed s c st :=
  ⟨g.sent _ h.1, g.sent _ h.2⟩

theorem State.waitEnds_ring_other (s : State) {p i q j : Nat} (h : ¬(q = p ∧ j = i)) : (s.waitEnds p i).ring q j = s.ring q j := by
  by_cases hq : q = p
  · subst hq
    exact s.setRing_ring_other q _ fun hj => h ⟨rfl, hj⟩
  · simp [State.waitEnds, State.modRing, State.setRing, State.modPort, State.ring, State.port_setPort_other, hq]

/-- The end of one command leaves what the other rings wait for. -/
theorem State.finishWaiting_waiting_other (s : State) {rid q j : Nat} (arg : Nat) (st : Status) (h : ¬(q = rid / 1024 ∧ j = rid % 1024)) :
    ((s.finishWaiting rid arg st).ring q j).waiting = (s.ring q j).waiting := by
  unfold State.finishWaiting
  dsimp only
  split
  · rfl
  · split
    · exact ((State.finish_tells ..).waiting q j).trans (congrArg Ring.waiting (s.waitEnds_ring_other h))
    · rfl

/-- A ring that waits for other work waits on. -/
theorem State.finishWaiting_waits {rid arg : Nat} {w : Waiting} (h : (s.ring (rid / 1024) (rid % 1024)).waiting = some w) (ha : w.arg ≠ arg)
    (st : Status) : s.finishWaiting rid arg st = s := by
  simp [State.finishWaiting, h, ha]

/-- The end of the command's work completes it. -/
theorem State.WaitsFor.completes {a : Nat} (h : v.WaitsFor s c a) (hf : s.fetchable c = true) (ha : v.Answers s) :
    (v.finishWaiting (ringId c.p c.i) a .success).Completed s c .success := by
  obtain ⟨port, index⟩ := ringId_ring c
  have waits : (v.ring (ringId c.p c.i / 1024) (ringId c.p c.i % 1024)).waiting =
      some { index := (s.ring c.ring.port c.ring.idx).d, entry := c.e, since := s.ns, stamp := s.dt, arg := a } := by
    rw [port, index]; exact h
  have ended : (v.waitEnds c.ring.port c.ring.idx).Answers s :=
    (State.modRing_reports _ _ _ _ (by intro; rfl)).answers.trans ha
  obtain ⟨live, writes, dark⟩ := State.fetchable_live hf
  rw [State.finishWaiting_finishes waits, port, index]
  exact State.finish_completed _ s c _ ((Ring.live_of_shape (ended.shape ..)).trans live) (ended.mode.trans_ne dark)
    ((ended.canWrite _).trans writes) (Ring.addr_of_shape (ended.shape ..) _)

/-- The end of any command leaves this one completed or waiting. -/
theorem State.EndsWith.finishWaiting {a : Nat} (h : v.EndsWith s c a) (hf : s.fetchable c = true) (rid arg : Nat) :
    (v.finishWaiting rid arg .success).EndsWith s c a := by
  obtain ⟨answers, done | waits⟩ := h
  · exact ⟨(State.finishWaiting_reports ..).answers.trans answers, .inl (done.stays ⟨(State.finishWaiting_reports ..).2.1⟩)⟩
  · refine ⟨(State.finishWaiting_reports ..).answers.trans answers, ?_⟩
    by_cases hr : c.ring.port.val = rid / 1024 ∧ c.ring.idx.val = rid % 1024
    · obtain ⟨hp, hi⟩ := hr
      by_cases ha : a = arg
      · obtain ⟨port, index⟩ := ringId_ring c
        have own : rid = ringId c.p c.i := by omega
        rw [own, ← ha]
        exact .inl (waits.completes hf answers)
      · rw [State.finishWaiting_waits (by rw [← hp, ← hi]; exact waits) ha]
        exact .inr waits
    · exact .inr ((v.finishWaiting_waiting_other arg .success hr).trans waits)

/-! ### LANE_PACKET_SEND (04 R172) -/

/-- A frame leaves, and its command completes. -/
def State.frameLeaves (l : Nat) (s : State) (q : Nat × Nat × List Byte) : State :=
  (s.say (.ethernet l (wireFrame q.2.2))).finishWaiting q.1 q.2.1 .success

theorem State.frameLeaves_reports (l : Nat) (s : State) (q : Nat × Nat × List Byte) : (s.frameLeaves l q).Reports s :=
  (State.finishWaiting_reports ..).trans (s.say_reports _)

theorem State.frameLeaves_sent (l : Nat) (s : State) (q : Nat × Nat × List Byte) : (s.frameLeaves l q).Sent (.ethernet l (wireFrame q.2.2)) :=
  (State.finishWaiting_reports ..).2.1 _ List.mem_cons_self

theorem State.EndsWith.say {a : Nat} (h : v.EndsWith s c a) (o : Output) : (v.say o).EndsWith s c a :=
  ⟨(v.say_reports o).answers.trans h.1, h.2.imp (fun done => done.stays ⟨(v.say_reports o).2.1⟩) id⟩

theorem State.EndsWith.framesLeave {a : Nat} (hf : s.fetchable c = true) (qs : List (Nat × Nat × List Byte)) (h : v.EndsWith s c a) :
    (qs.foldl (State.frameLeaves l) v).EndsWith s c a := by
  induction qs generalizing v with
  | nil => exact h
  | cons q qs ih => exact ih ((h.say _).finishWaiting hf q.1 q.2.1)

theorem State.flushSends_eq (hm : (s.lane l).mode = .ethernet) (hs : (s.lane l).st = .up) (ht : (s.lane l).transmits = true)
    (hd : s.mode ≠ .dark) : s.flushSends l = (s.lane l).sends.foldl (State.frameLeaves l) (s.setLane l { s.lane l with sends := [] }) :=
  if_pos (by simp [hm, hs, ht, hd])

theorem State.flushSends_holds (h : ¬((s.lane l).st = .up ∧ (s.lane l).transmits = true)) : s.flushSends l = s :=
  if_neg (by simp only [Bool.and_eq_true, beq_iff_eq]; tauto)

/-- The lane with the frame of a LANE_PACKET_SEND behind those that wait (04 R172). -/
def State.framed (s : State) (c : RingCmd) : Lane :=
  let x := s.lane (cmdLane c.e)
  { x with owner := some c.p, sends := x.sends ++ [(ringId c.p c.i, s.fresh, imageBytes c.data (fld c.e 0xA 2))] }

theorem packetSendEffect_eq (h : readFault c.data (fld c.e 0xA 2) = none) (s : State) :
    packetSendEffect c s = (s.freshen.setLane (cmdLane c.e) (s.framed c), .waits s.fresh) := by
  simp only [packetSendEffect, h]
  rfl

theorem State.Reports.framed (h : v.Reports s) (c : RingCmd) : v.framed c = s.framed c := by
  simp only [State.framed, h.within.lane, h.fresh]

/-- The frame joins those that wait, and its command waits with it. -/
theorem packetSend_waits (h : s.Accepts c 0x32 (packetSendChecks c)) (hr : readFault c.data (fld c.e 0xA 2) = none) :
    ∃ u, s.command c 0x32 (packetSendChecks c) (packetSendEffect c) = .next u ∧
      u.Reports (s.freshen.setLane (cmdLane c.e) (s.framed c)) ∧ u.WaitsFor s c s.fresh := by
  refine State.command_waits_for h fun v hv => ?_
  have effect : (packetSendEffect c v).1.Reports (s.freshen.setLane (cmdLane c.e) (s.framed c)) := by
    rw [packetSendEffect_eq hr, hv.framed]
    exact hv.freshen.map (·.setLane (cmdLane c.e) (s.framed c)) fun _ _ _ _ _ _ => rfl
  refine ⟨?_, effect.ns, effect.dt, fun u hu => hu.trans effect⟩
  rw [packetSendEffect_eq hr, hv.fresh]

theorem packetSendChecks_state (c : RingCmd) (s : State) : (packetSendChecks c s).state =
    if (s.lane (cmdLane c.e)).mode == .ethernet then none else some (s.badState (s.lane (cmdLane c.e)).st.code) := rfl

/-- LANE_PACKET_SEND runs in Ethernet mode only (04 R172). -/
theorem packetSend_mode (h : s.Accepts c 0x32 (packetSendChecks c)) : (s.lane (cmdLane c.e)).mode = .ethernet := by
  have state := Checks.state_of_first h.2
  rw [packetSendChecks_state, (s.fetched_reports c).within.lane] at state
  by_contra hm
  rw [if_neg (by simpa using hm)] at state
  exact nomatch state

theorem execLanePacketSend_eq {t : Nat} (h : (s.elapse t).command c 0x32 (packetSendChecks c) (packetSendEffect c) = .next u) :
    execLanePacketSend t c s = .next (u.flushSends (cmdLane c.e)) := by
  unfold execLanePacketSend
  rw [h]

/-- On a lane that transmits the frame leaves, behind those that waited, and its command completes. -/
theorem State.flushSends_framed (hf : s.fetchable c = true) (hm : (s.lane (cmdLane c.e)).mode = .ethernet)
    (hs : (s.lane (cmdLane c.e)).st = .up) (ht : (s.lane (cmdLane c.e)).transmits = true)
    (hu : u.Reports (s.freshen.setLane (cmdLane c.e) (s.framed c))) (hw : u.WaitsFor s c s.fresh) :
    (u.flushSends (cmdLane c.e)).Sent (.ethernet (cmdLane c.e) (wireFrame (imageBytes c.data (fld c.e 0xA 2)))) ∧
      ((u.flushSends (cmdLane c.e)).lane (cmdLane c.e)).sends = [] ∧ (u.flushSends (cmdLane c.e)).Completed s c .success := by
  have lane : u.lane (cmdLane c.e) = s.framed c := (hu.within.lane _).trans (State.lane_setLane ..)
  have answers : u.Answers s := hu.answers.trans (State.answers_of_ports rfl rfl)
  have eq := State.flushSends_eq (s := u) (l := cmdLane c.e) (by rw [lane]; exact hm) (by rw [lane]; exact hs) (by rw [lane]; exact ht)
    (answers.mode.trans_ne (State.fetchable_live hf).2.2)
  have ends : ((s.lane (cmdLane c.e)).sends.foldl (State.frameLeaves (cmdLane c.e))
      (u.setLane (cmdLane c.e) { s.framed c with sends := [] })).EndsWith s c s.fresh :=
    State.EndsWith.framesLeave hf _ ⟨(u.setLane_onLane ..).answers.trans answers, .inr hw⟩
  rw [eq, lane, show (s.framed c).sends = (s.lane (cmdLane c.e)).sends ++ _ from rfl, List.foldl_append, List.foldl_cons, List.foldl_nil]
  refine ⟨State.frameLeaves_sent .., ?_, ?_⟩
  · rw [(State.frameLeaves_reports ..).within.lane, (State.Reports.foldl (State.frameLeaves_reports _) _ _).within.lane,
      State.lane_setLane]
  · obtain ⟨after, done | waits⟩ := ends.say (.ethernet (cmdLane c.e) (wireFrame (imageBytes c.data (fld c.e 0xA 2))))
    · exact done.stays ⟨(State.finishWaiting_reports ..).2.1⟩
    · exact waits.completes hf after

/-- A frame that cannot be read ends its command (04 R172). -/
theorem packetSend_faults {why : Status} (h : s.Accepts c 0x32 (packetSendChecks c)) (hr : readFault c.data (fld c.e 0xA 2) = some why) :
    ∃ u, s.command c 0x32 (packetSendChecks c) (packetSendEffect c) = .next u ∧ u.Completed s c why := by
  have effect (v : State) : packetSendEffect c v = (v, .status why) := by simp only [packetSendEffect, hr]
  refine ⟨_, State.command_accepted _ h, ?_⟩
  rw [effect]
  dsimp only
  exact State.settle_completed h.1 (s.committed_reports c 0x32).answers why

/-! ### LANE_CONFIG (04 R179, R180) -/

/-- The owner and the settings of a lane, but for its downlink rate. -/
def Lane.settings (x : Lane) : Option Nat × LaneMode × Nat × Nat × Nat × Nat × List Nat :=
  (x.owner, x.mode, x.upRate, x.txPreset, x.syncPeriod, x.asymmetry, x.ethFields)

/-- The settings that LANE_CONFIG gives its lane (04 R179). -/
def configSettings (c : RingCmd) : Option Nat × LaneMode × Nat × Nat × Nat × Nat × List Nat :=
  (some c.p, LaneMode.ofCode (bitsAt c.e 9 1 0 2), bitsAt c.e 0xA 1 0 4, bitsAt c.e 0xB 1 0 4, fld c.e 0xC 2, fld c.e 0xE 2,
    laneEthFields c.e)

theorem LaneMode.ofCode_code (m : LaneMode) : LaneMode.ofCode m.code = m := by cases m <;> rfl

theorem State.retune_settings (s : State) (l rate : Nat) (recal : Bool) :
    ((s.retune l rate recal).lane l).settings = (s.lane l).settings := by
  unfold State.retune
  dsimp only
  split_ifs
  · unfold State.sendNotice
    rw [State.laneSend, State.lanePacket_keeps Lane.settings fun _ _ _ => rfl, State.lane_modLane]
    rfl
  · rw [State.lane_setLane]; rfl
  · rw [State.lane_setLane]; rfl
  · rw [State.lane_setLane]; rfl
  · rfl

theorem State.retune_answers (s : State) (l rate : Nat) (recal : Bool) : (s.retune l rate recal).Answers s := by
  unfold State.retune
  dsimp only
  split_ifs
  · exact (s.sendNotice_onLane l rate).answers.trans (State.answers_of_ports rfl rfl)
  all_goals exact State.answers_of_ports rfl rfl

/-- What every LANE_CONFIG writes of its lane (04 R146, R180). -/
def laneConfigured (c : RingCmd) (x : Lane) : Lane :=
  { x with owner := some c.p, txPreset := bitsAt c.e 0xB 1 0 4, syncPeriod := fld c.e 0xC 2, asymmetry := fld c.e 0xE 2
           counters := [], reports := tabMap x.reports (fun _ r => (0, r.2)) }

/-- What a LANE_CONFIG that changes the lane writes beside that (04 R180). -/
def laneReconfigured (c : RingCmd) (ns : Nat) (x : Lane) : Lane :=
  let eth := laneEthFields c.e
  { laneConfigured c x with
    mode := LaneMode.ofCode (bitsAt c.e 9 1 0 2), upRate := bitsAt c.e 0xA 1 0 4, downRate := bitsAt c.e 0xA 1 4 4
    packetRing := eth.getD 0 0, mac := eth.getD 1 0, packetArea := eth.getD 2 0, ipv4 := eth.getD 3 0
    gvspPort := eth.getD 4 0, queue := [], synth := .ready, switch := none, deferred := none, dropAt := none, lost := false
    syncOpen := [], share := [], shareStart := ns, gvsp := [], hunt := false, lastHello := [] }

theorem laneReconfigured_settings (c : RingCmd) (ns : Nat) (x : Lane) : (laneReconfigured c ns x).settings = configSettings c := rfl

/-- A LANE_CONFIG that changes none of the other settings leaves them as it gives them. -/
theorem laneConfigured_settings (h : s.laneMinor c.e = true) : (laneConfigured c (s.lane (cmdLane c.e))).settings = configSettings c := by
  simp only [State.laneMinor, Bool.and_eq_true, decide_eq_true_eq, beq_iff_eq] at h
  obtain ⟨⟨mode, upRate⟩, eth⟩ := h
  unfold configSettings
  rw [← mode, LaneMode.ofCode_code, ← upRate, ← eth]
  rfl

theorem State.laneConfig_minor (h : s.laneMinor c.e = true) : s.laneConfig c =
    let l := cmdLane c.e
    let s1 := s.modLane l (laneConfigured c)
    let s2 := if (s1.lane l).st == .mismatch then s1.laneTo l .hello else s1
    if (s2.lane l).mode == .off then s2.modLane l (fun x => { x with downRate := bitsAt c.e 0xA 1 4 4 })
    else s2.retune l (bitsAt c.e 0xA 1 4 4) (bitAt c.e 9 2) := if_pos h

theorem State.laneConfig_major (h : s.laneMinor c.e = false) : s.laneConfig c =
    let l := cmdLane c.e
    let s1 := if (s.lane l).st == .up then s.truncateLane l else s
    let s2 := (s1.loseRequests l).laneTo l .off
    let z := laneReconfigured c s.ns (s2.lane l)
    let s3 := s2.setLane l z
    if z.mode == .off || z.refStopped then s3 else s3.laneTo l .waitSignal := if_neg (ne_true_of_eq_false h)

theorem State.laneTo_settings (s : State) (l : Nat) (st : LaneState) : ((s.laneTo l st).lane l).settings = (s.lane l).settings :=
  State.laneTo_keeps Lane.settings (fun _ _ _ => rfl) ..

/-- LANE_CONFIG gives its lane its settings (04 R179). -/
theorem State.laneConfig_settings (s : State) (c : RingCmd) :
    ((s.laneConfig c).lane (cmdLane c.e)).settings = configSettings c := by
  cases hm : s.laneMinor c.e with
  | true =>
    rw [State.laneConfig_minor hm]
    extract_lets l s1 s2
    have one : (s1.lane l).settings = configSettings c := (congrArg Lane.settings (s.lane_modLane l _)).trans (laneConfigured_settings hm)
    have two : (s2.lane l).settings = configSettings c := by
      simp only [s2]
      split
      · exact (State.laneTo_settings ..).trans one
      · exact one
    split
    · rw [State.lane_modLane]
      exact two
    · exact (State.retune_settings ..).trans two
  | false =>
    rw [State.laneConfig_major hm]
    extract_lets l s1 s2 z s3
    have three : (s3.lane l).settings = configSettings c := (congrArg Lane.settings (s2.lane_setLane l z)).trans (laneReconfigured_settings ..)
    split
    · exact three
    · exact (State.laneTo_settings ..).trans three

/-- LANE_CONFIG leaves what the completion of its command needs. -/
theorem State.laneConfig_answers (s : State) (c : RingCmd) : (s.laneConfig c).Answers s := by
  cases hm : s.laneMinor c.e with
  | true =>
    rw [State.laneConfig_minor hm]
    extract_lets l s1 s2
    have two : s2.OnLane s l := by
      simp only [s2]
      exact .ite ((State.laneTo_onLane ..).trans (s.modLane_onLane l _)) (s.modLane_onLane l _)
    split
    · exact ((s2.modLane_onLane l _).trans two).answers
    · exact (State.retune_answers ..).trans two.answers
  | false =>
    rw [State.laneConfig_major hm]
    extract_lets l s1 s2 z s3
    have one : s1.Answers s := by
      simp only [s1]
      split
      · exact State.bearing_answers (s.truncateLane_bearing l) (s.truncateLane_mode l)
      · exact (State.Reports.refl s).answers
    have three : s3.OnLane s1 l := (s2.setLane_onLane l z).trans ((State.laneTo_onLane ..).trans (s1.loseRequests_onLane l))
    split
    · exact three.answers.trans one
    · exact ((s3.laneTo_onLane l .waitSignal).trans three).answers.trans one

theorem laneConfig_runs (h : s.Accepts c 0x30 (laneConfigChecks c)) :
    ∃ u, s.command c 0x30 (laneConfigChecks c) (laneConfigEffect c) = .next u ∧
      (u.lane (cmdLane c.e)).settings = configSettings c ∧ u.Completed s c .success :=
  State.command_succeeds h fun v _ => ⟨rfl, v.laneConfig_answers c, fun u hu => by
    rw [hu.within.lane]
    exact v.laneConfig_settings c⟩

/-! ### The commands -/

theorem State.Reports.requestOf (h : v.Reports s) (c : RingCmd) :
    v.requestOf c = { s.requestOf c with result := (v.requestOf c).result } := by
  simp only [State.requestOf, h.within.lane, h.fresh, h.ns]

theorem State.Reports.requested_reqSeq (h : v.Reports s) (c : RingCmd) : (v.requested c).reqSeq = (s.requested c).reqSeq := by
  simp only [State.requested, h.within.lane]

theorem laneRequest_runs (h : s.Accepts c 0x31 (laneRequestChecks c)) :
    ∃ u, s.command c 0x31 (laneRequestChecks c) (laneRequestEffect c) = .next u ∧
      (u.OnLane s.freshen (cmdLane c.e) ∧
        (∃ r ∈ (u.lane (cmdLane c.e)).requests, ∃ d, r.asked = LaneReq.asked { s.requestOf c with result := d }) ∧
        (u.lane (cmdLane c.e)).owner = some c.p ∧ (u.lane (cmdLane c.e)).reqSeq = (s.requested c).reqSeq) ∧
      u.WaitsFor s c s.fresh := by
  refine State.command_waits_for h fun v hv => ?_
  have effect := (laneRequestEffect_onLane c v).trans (hv.freshen.onLane _)
  refine ⟨?_, effect.ns, effect.dt, fun u hu => ⟨(hu.onLane _).trans effect, ?_, ?_, ?_⟩⟩
  · rw [laneRequestEffect_eq, hv.fresh]
  · obtain ⟨r, mem, asked⟩ := laneRequestEffect_asks c v
    rw [hv.requestOf] at asked
    rw [hu.within.lane]
    exact ⟨r, mem, _, asked⟩
  · rw [hu.within.lane, laneRequestEffect_keeps Lane.owner fun _ _ _ _ => rfl]
    rfl
  · rw [hu.within.lane, laneRequestEffect_keeps Lane.reqSeq fun _ _ _ _ => rfl, hv.requested_reqSeq]

/-- Settles O35: a request and a frame join their lane and their command waits; the end of a frame's command is one step of the lane's
frames leaving; LANE_CONFIG is a change of its lane's settings. -/
theorem laneCommandsRun : Obligations.LaneCommandsRun := by
  refine ⟨fun t c s0 => ?_, fun t c s0 => ?_, fun t c s0 => ?_⟩
  · intro s l x sn h
    obtain ⟨u, run, ⟨onLane, ⟨r, mem, d, asked⟩, owner, reqSeq⟩, waits⟩ := laneRequest_runs h
    have field {α : Type} (f : LaneReq → α) := congrArg f asked
    refine ⟨u, run, ⟨r, mem, field LaneReq.ring, field LaneReq.arg, field LaneReq.since, field LaneReq.sensor, field LaneReq.op,
      field LaneReq.length, field LaneReq.address, field LaneReq.reqSeq⟩, owner, reqSeq, onLane.other, ?_, _, waits⟩
    rw [onLane.fresh]
    exact onLane.reports
  · intro s l x bytes h
    refine ⟨fun hr hs ht => ?_, fun hr hn => ?_, fun why hr => ?_⟩
    · obtain ⟨u, run, effect, waits⟩ := packetSend_waits h hr
      exact ⟨_, execLanePacketSend_eq run, State.flushSends_framed h.1 (packetSend_mode h) hs ht effect waits⟩
    · obtain ⟨u, run, effect, waits⟩ := packetSend_waits h hr
      have lane : u.lane l = s.framed c := (effect.within.lane _).trans (State.lane_setLane ..)
      have holds : u.flushSends l = u := State.flushSends_holds (by rw [lane]; exact hn)
      exact ⟨u, (execLanePacketSend_eq run).trans (congrArg _ holds), waits, congrArg Lane.sends lane⟩
    · obtain ⟨u, run, done⟩ := packetSend_faults h hr
      exact ⟨_, execLanePacketSend_eq run, done.stays (State.flushSends_onLane ..).sentStays⟩
  · intro s h
    obtain ⟨u, run, settings, done⟩ := laneConfig_runs h
    simp only [Lane.settings, configSettings, Prod.mk.injEq] at settings
    exact ⟨u, run, settings, done⟩

end Sys2Proof.Machine
end

section
/-!
The timers, triggers and synthesiser of a lane (04 R152, R155 to R157, R161, R162, R167, R176 to R178), and the timeouts of assembly (05 R203).
-/

namespace Sys2Proof.Machine

variable {s u v w : State} {l : Nat}

/-! ### Requests in time (04 R152, R155) -/

/-- A request is looked at: the first of its SENSOR is ready unless its timer runs. -/
def readyStep (acc : List Nat × List LaneReq) (r : LaneReq) : List Nat × List LaneReq :=
  if acc.1.contains r.sensor then acc else (r.sensor :: acc.1, if r.timer.isSome then acc.2 else acc.2 ++ [r])

theorem Lane.readyRequests_eq (x : Lane) : x.readyRequests = (x.requests.foldl readyStep ([], [])).2 := rfl

theorem readyStep_keeps {r : LaneReq} (rs : List LaneReq) {acc : List Nat × List LaneReq} (h : r ∈ acc.2) : r ∈ (rs.foldl readyStep acc).2 := by
  induction rs generalizing acc with
  | nil => exact h
  | cons a rs ih =>
    refine ih ?_
    unfold readyStep
    split
    · exact h
    · dsimp only
      split
      · exact h
      · exact List.mem_append_left _ h

/-- The first request of a SENSOR is found when none before it was of its SENSOR. -/
theorem readyStep_finds {n : Nat} {r : LaneReq} (ht : r.timer = none) (rs : List LaneReq) {acc : List Nat × List LaneReq}
    (h : rs.find? (fun q => q.sensor = n) = some r) (hn : n ∉ acc.1) : r ∈ (rs.foldl readyStep acc).2 := by
  induction rs generalizing acc with
  | nil => nomatch h
  | cons a rs ih =>
    rw [List.foldl_cons]
    by_cases ha : a.sensor = n
    · have first : a = r := by simpa [List.find?_cons, ha] using h
      subst first
      refine readyStep_keeps rs ?_
      simp [readyStep, ha, hn, ht]
    · refine ih (by simpa [List.find?_cons, ha] using h) ?_
      unfold readyStep
      split
      · exact hn
      · exact fun hm => (List.mem_cons.1 hm).elim (Ne.symm ha) hn

theorem Lane.readyRequests_mem {x : Lane} {n : Nat} {r : LaneReq} (h : x.requests.find? (fun q => q.sensor = n) = some r)
    (ht : r.timer = none) : r ∈ x.readyRequests := by
  rw [Lane.readyRequests_eq]
  exact readyStep_finds ht _ h List.not_mem_nil

/-- A request that takes the place of the first of its SENSOR is the first. -/
theorem find_again {n : Nat} {r again : LaneReq} {rs : List LaneReq} (ha : again.sensor = n)
    (h : rs.find? (fun q => q.sensor = n) = some r) :
    (rs.map (fun q => if q.arg = r.arg then again else q)).find? (fun q => q.sensor = n) = some again := by
  induction rs with
  | nil => nomatch h
  | cons a rs ih =>
    rw [List.map_cons]
    by_cases hr : a.arg = r.arg
    · simp [hr, ha]
    · have later : a.sensor ≠ n := by
        intro hn
        have first : a = r := by simpa [List.find?_cons, hn] using h
        exact hr (congrArg LaneReq.arg first)
      simpa [List.find?_cons, hr, later] using ih (by simpa [List.find?_cons, later] using h)

theorem State.endRequest_onLane (s : State) (l arg : Nat) (st : Status) : (s.endRequest l arg st).OnLane s l := by
  unfold State.endRequest
  dsimp only
  split
  · exact .refl s l
  · exact (State.sendRequests_onLane ..).trans (((State.finishWaiting_reports ..).onLane l).trans (s.setLane_onLane l _))

/-- What a lane still asks after the end of a request it asked before, and it is not that one. -/
theorem State.endRequest_mem {arg : Nat} {st : Status} {q : LaneReq} (h : q ∈ ((s.endRequest l arg st).lane l).requests) :
    q.arg ≠ arg ∧ ∃ p ∈ (s.lane l).requests, p.asked = q.asked := by
  unfold State.endRequest at h
  dsimp only at h
  split at h
  · next hn => exact ⟨by simpa using List.find?_eq_none.1 hn q h, q, h, rfl⟩
  · have mem := List.mem_map_of_mem (f := LaneReq.asked) h
    rw [State.sendRequests_asked, (State.finishWaiting_reports ..).within.lane, State.lane_setLane] at mem
    obtain ⟨p, hp, asked⟩ := List.mem_map.1 mem
    obtain ⟨hp, ha⟩ := List.mem_filter.1 hp
    have same : p.arg = q.arg := (congrArg LaneReq.arg asked :)
    exact ⟨same ▸ by simpa using ha, p, hp, asked⟩

/-- What a lane still asks after the end of several requests. -/
theorem State.endRequests_mem {f : LaneReq → Status} {q : LaneReq} (es : List LaneReq)
    (h : q ∈ ((es.foldl (fun t r => t.endRequest l r.arg (f r)) s).lane l).requests) :
    (∀ e ∈ es, q.arg ≠ e.arg) ∧ ∃ p ∈ (s.lane l).requests, p.asked = q.asked := by
  induction es generalizing s with
  | nil => exact ⟨nofun, q, h, rfl⟩
  | cons a es ih =>
    obtain ⟨later, p, hp, asked⟩ := ih h
    obtain ⟨first, p', hp', asked'⟩ := State.endRequest_mem hp
    have same : p.arg = q.arg := (congrArg LaneReq.arg asked :)
    exact ⟨List.forall_mem_cons.2 ⟨same ▸ first, later⟩, p', hp', asked'.trans asked⟩

/-- No request of the SENSOR is older than 250 ms (04 R155). -/
theorem State.expireRequests_young {sensor : Nat} {q : LaneReq} (h : q ∈ ((s.expireRequests l sensor).lane l).requests)
    (hs : q.sensor = sensor) : s.ns < q.since + 250000000 := by
  obtain ⟨kept, p, hp, asked⟩ := State.endRequests_mem _ h
  have arg : p.arg = q.arg := (congrArg LaneReq.arg asked :)
  have since : p.since = q.since := (congrArg LaneReq.since asked :)
  have own : p.sensor = q.sensor := (congrArg LaneReq.sensor asked :)
  by_contra old
  refine kept p (List.mem_filter.2 ⟨hp, ?_⟩) arg.symm
  simpa [own, hs, since] using old

theorem State.expireRequests_onLane (s : State) (l sensor : Nat) : (s.expireRequests l sensor).OnLane s l :=
  State.OnLane.foldl (fun _ _ => State.endRequest_onLane ..) _ _

section
variable {sensor : Nat} {r : LaneReq} (hf : (s.lane l).requests.find? (fun r => r.sensor = sensor) = some r) (ht : r.timer.isSome = true)
  (hd : s.due r.timer = true)
include hf ht hd

theorem State.retransmit_again (h8 : r.sent < 8) : s.retransmit l sensor =
    ((s.setLane l { s.lane l with requests := (s.lane l).requests.map (fun q => if q.arg = r.arg then { r with timer := none } else q) }).laneCount
      l 0x0A 1).sendRequests l := by
  simp only [State.retransmit, hf, ht, hd, Bool.and_self, h8, if_true]

theorem State.retransmit_gives_up (h8 : 8 ≤ r.sent) : s.retransmit l sensor = (s.laneCount l 0x0B 1).endRequest l r.arg (.noAck l) := by
  simp only [State.retransmit, hf, ht, hd, Bool.and_self, Nat.not_lt.2 h8, if_true, if_false]

/-- An unanswered request is sent again (04 R152). -/
theorem State.retransmit_sent (h8 : r.sent < 8) (hc : (s.lane l).canSend = true) (hm : s.mode ≠ .dark) :
    ∃ q, (s.retransmit l sensor).Sent (.downlink l (packetBytes 0x01 r.sensor q false r.payload.length r.payload)) := by
  have sensor_eq : r.sensor = sensor := by simpa using List.find?_some hf
  rw [State.retransmit_again hf ht hd h8]
  have onLane := (State.laneCount_onLane (s.setLane l { s.lane l with
    requests := (s.lane l).requests.map (fun q => if q.arg = r.arg then { r with timer := none } else q) }) l 0x0A 1).trans (s.setLane_onLane l _)
  refine State.sendRequests_sent (r := { r with timer := none }) ?_ (onLane.mode.trans_ne hm) (Lane.readyRequests_mem (n := sensor) ?_ rfl)
  · rw [State.laneCount_keeps Lane.canSend fun _ _ _ => rfl, State.lane_setLane]
    exact hc
  · rw [State.laneCount_keeps Lane.requests fun _ _ _ => rfl, State.lane_setLane]
    exact find_again sensor_eq hf

end

/-! ### Time sync (04 R156, R157) -/

theorem State.sendSync_keeps {α : Type} (f : Lane → α) (h : ∀ x q w, f { x with txSeq := q, wireEnd := w } = f x) (s : State) (l : Nat) :
    f ((s.sendSync l).lane l) = f ((s.lane l).synced (s.syncT1 l) s.ns) := by
  rw [State.sendSync_eq, State.lanePacket_keeps f h, State.lane_freshen, State.lane_setLane]

theorem State.sendSync_sent (s : State) (l : Nat) : (s.sendSync l).Sent
    (.downlink l (packetBytes 0x02 (s.lane l).syncSensor (s.lane l).txSeq false (s.syncPayload l).length (s.syncPayload l))) := by
  rw [State.sendSync_eq]
  have sent := (s.setLane l ((s.lane l).synced (s.syncT1 l) s.ns)).freshen.lanePacket_sent l 0x02 (s.lane l).syncSensor false (s.syncPayload l)
  rwa [State.lane_freshen, State.lane_setLane] at sent

theorem leBytes_length (n v : Nat) : (leBytes n v).length = n := by
  induction n generalizing v with
  | zero => rfl
  | succ n ih => simp [leBytes, ih]

/-- The payload of a TIME_SYNC begins with T1 and its SYNC_ID. -/
theorem State.syncPayload_take (s : State) (l : Nat) : (s.syncPayload l).take 16 =
    leBytes 8 (s.syncT1 l / 2 ^ 32) ++ leBytes 4 (s.syncT1 l % 2 ^ 32) ++ leBytes 4 (((s.lane l).syncId + 1) % 2 ^ 32) := by
  unfold State.syncPayload
  rw [List.append_assoc, List.append_assoc _ _ (_ ++ _)]
  exact List.take_left' (by simp [leBytes_length])

theorem State.dueSync_sends (h : (s.lane l).canSend = true) : s.dueSync l = s.sendSync l := if_pos h

theorem State.dueSync_queues (hc : (s.lane l).canSend = false) (hv : (s.lane l).vlp = true) (hs : (s.lane l).st = .up)
    (hr : (s.lane l).syncRoom = true) : s.dueSync l =
      s.setLane l { s.lane l with syncDue := s.ns + 125000 * (s.lane l).syncPeriod, queue := (s.lane l).queue ++ [.sync] } := by
  simp [State.dueSync, hc, hv, hs, hr]

theorem State.dueSync_skips (hc : (s.lane l).canSend = false) (h : (s.lane l).st ≠ .up ∨ (s.lane l).syncRoom = false) : s.dueSync l =
    s.setLane l { s.lane l with syncDue := s.ns + 125000 * (s.lane l).syncPeriod } := by
  obtain h | h := h <;> simp [State.dueSync, hc, h]

theorem State.syncChange_onLane (s : State) (l : Nat) (locked : Bool) : (s.syncChange l locked).OnLane s l := by
  unfold State.syncChange
  exact .ite (.refl s l) (((State.laneRecord_reports ..).onLane l).trans (s.setLane_onLane l _))

theorem State.syncChange_keeps {α : Type} (f : Lane → α) (h : ∀ x b, f { x with syncLocked := b } = f x) (s : State) (l : Nat)
    (locked : Bool) : f ((s.syncChange l locked).lane l) = f (s.lane l) := by
  unfold State.syncChange
  dsimp only
  split
  · rfl
  · rw [State.lane_laneRecord, State.lane_setLane, h]

/-- The lane whose oldest TIME_SYNC was not answered (04 R157). -/
def Lane.missed (x : Lane) : Lane := { x with syncOpen := x.syncOpen.tail, syncGood := 0, syncMissed := x.syncMissed + 1 }

theorem State.syncMiss_onLane (s : State) (l : Nat) : (s.syncMiss l).OnLane s l := by
  have missed : ((s.setLane l (s.lane l).missed).laneCount l 0x0D 1).OnLane s l :=
    (State.laneCount_onLane ..).trans (s.setLane_onLane l _)
  unfold State.syncMiss
  exact .ite ((State.syncChange_onLane ..).trans missed) missed

theorem State.syncMiss_keeps {α : Type} (f : Lane → α)
    (h : ∀ x c r b, f { x with counters := c, reports := r, syncLocked := b } = f x) (s : State) (l : Nat) :
    f ((s.syncMiss l).lane l) = f (s.lane l).missed := by
  have missed : f (((s.setLane l (s.lane l).missed).laneCount l 0x0D 1).lane l) = f (s.lane l).missed := by
    rw [State.laneCount_keeps f fun x c r => h x c r x.syncLocked, State.lane_setLane]
  unfold State.syncMiss
  dsimp only
  split
  · rw [State.syncChange_keeps f fun x b => h x x.counters x.reports b]
    exact missed
  · exact missed

/-! ### Triggers (04 R161, R162, R174, R176) -/

/-- A trigger that is taken leaves the lane up, and able to transmit, as it was. -/
theorem Lane.takeTrig_lane {x y : Lane} {tg : Nat} {scheduled : Bool} {k : TrigPkt} (h : x.takeTrig tg scheduled = some (k, y)) :
    y.vlp = x.vlp ∧ y.st = x.st ∧ y.transmits = x.transmits := by
  unfold Lane.takeTrig at h
  split at h
  · obtain ⟨-, rfl⟩ := Prod.mk.inj (Option.some.inj h)
    exact ⟨rfl, rfl, rfl⟩
  · nomatch h

section
variable {y : Lane} (hd : s.mode ≠ .dark) (k : TrigPkt) (leave : Nat)
include hd

theorem State.dueTrig_sends (hv : y.vlp = true) (hs : y.st = .up) (ht : s.laneTested l = false) (hx : y.transmits = true) :
    (s.setLane l y).dueTrig l k leave = (s.setLane l y).sendTrig l k leave := by
  have tested : (s.setLane l y).laneTested l = s.laneTested l := rfl
  simp [State.dueTrig, hd, tested, ht, hv, hs, hx]

theorem State.dueTrig_loses (h : y.vlp = false ∨ y.st ≠ .up ∨ s.laneTested l = true) :
    (s.setLane l y).dueTrig l k leave = (s.setLane l y).loseTrig l k := by
  have tested : (s.setLane l y).laneTested l = s.laneTested l := rfl
  obtain h | h | h := h <;> simp [State.dueTrig, hd, tested, h]

end

/-! ### Merged sensors (04 R167) -/

theorem State.shareWindow_open (h : s.ns < (s.lane l).shareStart + 100000) : s.shareWindow l = s := if_pos (by simp [h])

/-- The windows that have ended are judged, and the present one is empty and not yet over. -/
theorem State.shareWindow_ends (hm : (s.lane l).mode = .merged) (h : (s.lane l).shareStart + 100000 ≤ s.ns) :
    ((s.shareWindow l).lane l).share = [] ∧ s.ns < ((s.shareWindow l).lane l).shareStart + 100000 := by
  have ended : ((s.lane l).mode != .merged || decide (s.ns < (s.lane l).shareStart + 100000)) = false := by simp [hm, h]
  simp only [State.shareWindow, ended, Bool.false_eq_true, if_false]
  rw [State.overWindows_keeps Lane.share fun _ _ _ _ _ => rfl, State.overWindows_keeps Lane.shareStart fun _ _ _ _ _ => rfl,
    State.lane_setLane]
  exact ⟨rfl, by dsimp only; omega⟩

/-! ### The rows of a lane -/

section
variable {t : Nat} {l : Fin 128}

theorem execTimeSync_due (hv : ((s.elapse t).lane l).vlp = true) (hp : ((s.elapse t).lane l).syncPeriod ≠ 0)
    (ha : ((s.elapse t).lane l).syncDue ≤ (s.elapse t).ns) (hd : s.mode ≠ .dark) :
    exec (.timeSync t l) s = .next ((s.elapse t).dueSync l) := if_pos (by simp [hv, hp, ha, hd])

theorem execTsyncMissed_missed {id a b : Nat} {rest : List (Nat × Nat × Nat)} (ho : ((s.elapse t).lane l).syncOpen = (id, a, b) :: rest)
    (hb : b + 100000 ≤ (s.elapse t).ns) : exec (.tsyncMissed t l) s = .next ((s.elapse t).syncMiss l) := by
  change execTsyncMissed t l s = _
  simp only [execTsyncMissed, ho, hb, if_true]

/-- A trigger as it leaves at once (04 R159, R161). -/
def TrigPkt.atOnce (k : TrigPkt) : TrigPkt := if k.scheduled then { k with scheduled := false, onTime := k.due + 128 } else k

section
variable {tg : Fin 256} {k : TrigPkt} {y : Lane} (hk : ((s.elapse t).lane l).takeTrig tg false = some (k, y))
  (hr : (s.elapse t).reached k.due = true)
include hk hr

theorem execTriggerImmediate_due : exec (.triggerImmediate t l tg) s = .next (((s.elapse t).setLane l y).dueTrig l k.atOnce k.due) := by
  change execTriggerImmediate t l tg s = _
  simp only [execTriggerImmediate, TrigPkt.atOnce, hk, hr, if_true]

variable (hd : s.mode ≠ .dark)
include hd

theorem execTriggerImmediate_sends (hv : ((s.elapse t).lane l).vlp = true) (hs : ((s.elapse t).lane l).st = .up)
    (ht : (s.elapse t).laneTested l = false) (hx : ((s.elapse t).lane l).transmits = true) :
    exec (.triggerImmediate t l tg) s = .next (((s.elapse t).setLane l y).sendTrig l k.atOnce k.due) := by
  obtain ⟨vlp, st, transmits⟩ := Lane.takeTrig_lane hk
  rw [execTriggerImmediate_due hk hr]
  exact congrArg _ (State.dueTrig_sends (s := s.elapse t) hd _ _ (vlp.trans hv) (st.trans hs) ht (transmits.trans hx))

theorem execTriggerImmediate_loses
    (h : ((s.elapse t).lane l).vlp = false ∨ ((s.elapse t).lane l).st ≠ .up ∨ (s.elapse t).laneTested l = true) :
    exec (.triggerImmediate t l tg) s = .next (((s.elapse t).setLane l y).loseTrig l k.atOnce) := by
  obtain ⟨vlp, st, -⟩ := Lane.takeTrig_lane hk
  rw [← vlp, ← st] at h
  rw [execTriggerImmediate_due hk hr]
  exact congrArg _ (State.dueTrig_loses (s := s.elapse t) hd _ _ h)

end

/-- The lane that a scheduled trigger leaves behind: it forgets the instants of those that have left (04 R161). -/
def State.schedLane (s : State) (y : Lane) : Lane := { y with schedSent := y.schedSent.filter (fun a => s.dt ≤ a) }

section
variable {tg : Fin 256} {k : TrigPkt} {y : Lane} (hk : ((s.elapse t).lane l).takeTrig tg true = some (k, y))
  (hr : (s.elapse t).reached (((s.elapse t).lane l).schedLeave k) = true)
include hk hr

theorem execTriggerScheduled_due : exec (.triggerScheduled t l tg) s =
      .next (((s.elapse t).setLane l ((s.elapse t).schedLane y)).dueTrig l k (((s.elapse t).lane l).schedLeave k)) := by
  change execTriggerScheduled t l tg s = _
  simp only [execTriggerScheduled, State.schedLane, hk, hr, if_true]

variable (hd : s.mode ≠ .dark)
include hd

theorem execTriggerScheduled_sends (hv : ((s.elapse t).lane l).vlp = true) (hs : ((s.elapse t).lane l).st = .up)
    (ht : (s.elapse t).laneTested l = false) (hx : ((s.elapse t).lane l).transmits = true) : exec (.triggerScheduled t l tg) s =
      .next (((s.elapse t).setLane l ((s.elapse t).schedLane y)).sendTrig l k (((s.elapse t).lane l).schedLeave k)) := by
  obtain ⟨vlp, st, transmits⟩ := Lane.takeTrig_lane hk
  rw [execTriggerScheduled_due hk hr]
  exact congrArg _ (State.dueTrig_sends (s := s.elapse t) hd k _ (vlp.trans hv) (st.trans hs) ht (transmits.trans hx))

theorem execTriggerScheduled_loses
    (h : ((s.elapse t).lane l).vlp = false ∨ ((s.elapse t).lane l).st ≠ .up ∨ (s.elapse t).laneTested l = true) :
    exec (.triggerScheduled t l tg) s = .next (((s.elapse t).setLane l ((s.elapse t).schedLane y)).loseTrig l k) := by
  obtain ⟨vlp, st, -⟩ := Lane.takeTrig_lane hk
  rw [← vlp, ← st] at h
  rw [execTriggerScheduled_due hk hr]
  exact congrArg _ (State.dueTrig_loses (s := s.elapse t) hd k _ h)

end

theorem execRateSwitch_switches {i r : Nat} (hx : ((s.elapse t).lane l).switch = some (i, r)) (hi : i ≤ (s.elapse t).ns) :
    exec (.rateSwitch t l) s =
      .next ((s.elapse t).setLane l { (s.elapse t).lane l with downRate := r, synth := .locking, switch := none }) := by
  change execRateSwitch t l s = _
  simp only [execRateSwitch, hx, hi, if_true]

theorem execSynthesiserLock_locks (hx : ((s.elapse t).lane l).synth = .locking) : exec (.synthesiserLock t l) s =
    .next ((s.elapse t).setLane l { (s.elapse t).lane l with synth := .locked ((s.elapse t).ns + 20000) }) := by
  change execSynthesiserLock t l s = _
  simp only [execSynthesiserLock, hx]

theorem execDownlinkReady_locked {r : Nat} (hx : ((s.elapse t).lane l).synth = .locked r) (hr : r ≤ (s.elapse t).ns) :
    exec (.downlinkReady t l) s = .next (((((s.elapse t).setLane l { (s.elapse t).lane l with
      synth := .ready, deferred := none }).laneRecord l 3 0x010A 0 0 (s.elapse t).dt).laneFlush l).flushSends l) := by
  change execDownlinkReady t l s = _
  simp only [execDownlinkReady, hx, hr, if_true]

theorem execDownlinkReady_background {r : Nat} (hx : ((s.elapse t).lane l).synth = .background r) (hr : r ≤ (s.elapse t).ns) :
    exec (.downlinkReady t l) s = .next ((((s.elapse t).setLane l { (s.elapse t).lane l with synth := .ready }).laneFlush l).flushSends l) := by
  change execDownlinkReady t l s = _
  simp only [execDownlinkReady, hx, hr, if_true]

section
variable (hx : ((s.elapse t).lane l).synth = .ready) (hm : ((s.elapse t).lane l).mode ≠ .off) (hd : s.mode ≠ .dark)
include hx hm hd

theorem execBackgroundRecalibration_runs (hs : (s.elapse t).trigSoon l = false) : exec (.backgroundRecalibration t l) s =
    .next ((s.elapse t).setLane l { (s.elapse t).lane l with synth := .background ((s.elapse t).ns + 20000), deferred := none }) := by
  change execBackgroundRecalibration t l s = _
  simp [execBackgroundRecalibration, hx, hm, hd, hs]

/-- A recalibration is deferred while a trigger is near (04 R177). -/
theorem execBackgroundRecalibration_defers (hs : (s.elapse t).trigSoon l = true) : ∃ u, exec (.backgroundRecalibration t l) s = .next u ∧
    (u.lane l).synth = .ready ∧ (u.lane l).deferred.isSome = true := by
  refine ⟨_, (if_pos (by simp [hx, hm, hd])).trans (if_pos hs), ?_⟩
  rw [State.lane_setLane]
  refine ⟨hx, ?_⟩
  dsimp only
  split <;> rfl

end

theorem execRecalDeferred_reports {since n : Nat} (hx : ((s.elapse t).lane l).deferred = some (since, n))
    (ha : since + (n + 1) * 1000000000 ≤ (s.elapse t).ns) : exec (.recalDeferred t l) s = .next (((s.elapse t).setLane l
      { (s.elapse t).lane l with deferred := some (since, n + 1) }).laneRecord l 2 0x010B 0 0 (n + 1)) := by
  change execRecalDeferred t l s = _
  simp only [execRecalDeferred, hx, ha, if_true]

end

/-! ### Timeouts of assembly (05 R203) -/

section
variable {k : Nat}

theorem State.lineTimeout_eq {o : OpenLine} (ho : (s.sconce k).line = some o) (hw : abLineTimeout (s.sconce k).asm ≠ 0) : s.lineTimeout k =
    if o.lastStamp + abLineTimeout (s.sconce k).asm ≤ s.dt then
      (((s.journalClose 1 k (o.lastStamp + abLineTimeout (s.sconce k).asm)).flagOpen k flMissingEnd).closeLine k
        (o.lastStamp + abLineTimeout (s.sconce k).asm) false).sconceMoves k
    else s := by
  simp [State.lineTimeout, ho, hw]

theorem State.frameTimeout_eq {f : Frame} (ho : (s.sconce k).openFrame = some f) (hw : abFrameTimeout (f.grp 1) ≠ 0) : s.frameTimeout k =
    if f.lastStamp + abFrameTimeout (f.grp 1) ≤ s.dt then
      ((s.journalClose 2 k (f.lastStamp + abFrameTimeout (f.grp 1))).closeFrame k (f.lastStamp + abFrameTimeout (f.grp 1)) true).sconceMoves k
    else s := by
  simp [State.frameTimeout, ho, hw]

end

/-- Settles O36: each timer's row, once its time has come, is one operation of its lane or its sconce. -/
theorem laneAndFrameTimersRun : Obligations.LaneAndFrameTimersRun := by
  refine ⟨?_, ?_⟩
  · intro t l s s1 x
    refine ⟨fun sensor r hf ht hd => ⟨fun h8 hc hm => ?_, fun h8 => ?_⟩, fun sensor => ?_, fun hv hp ha hd => ⟨fun hc => ?_, fun hc hs hr => ?_,
      fun hc h => ?_⟩, fun id a b rest ho hb => ?_, fun tg k y hk hr hd => ?_, fun tg k y hk hr hd => ?_, fun hm h => ?_, fun hm h => ?_,
      fun i r => execRateSwitch_switches, execSynthesiserLock_locks, fun r => execDownlinkReady_locked, fun r => execDownlinkReady_background,
      fun hx hm hd => ⟨execBackgroundRecalibration_runs hx hm hd, execBackgroundRecalibration_defers hx hm hd⟩,
      fun since n => execRecalDeferred_reports⟩
    · obtain ⟨q, sent⟩ := State.retransmit_sent hf ht hd h8 hc hm
      exact ⟨_, q, rfl, sent⟩
    · refine ⟨_, rfl, fun q hq => ?_⟩
      rw [State.retransmit_gives_up hf ht hd h8] at hq
      exact (State.endRequest_mem hq).1
    · exact ⟨_, rfl, fun q hq hs => State.expireRequests_young hq hs, (State.expireRequests_onLane ..).other⟩
    · refine ⟨_, s1.syncPayload l, (execTimeSync_due hv hp ha hd).trans (congrArg _ (State.dueSync_sends hc)), ?_, ?_, ?_,
        s1.syncPayload_take l, s1.sendSync_sent l⟩
      · exact State.sendSync_keeps Lane.syncId (fun _ _ _ => rfl) s1 l
      · exact State.sendSync_keeps Lane.syncOpen (fun _ _ _ => rfl) s1 l
      · exact State.sendSync_keeps Lane.syncDue (fun _ _ _ => rfl) s1 l
    · exact (execTimeSync_due hv hp ha hd).trans (congrArg _ (State.dueSync_queues hc hv hs hr))
    · exact (execTimeSync_due hv hp ha hd).trans (congrArg _ (State.dueSync_skips hc h))
    · refine ⟨_, execTsyncMissed_missed ho hb, ?_, ?_, ?_, (s1.syncMiss_onLane l).reports⟩
      · exact (State.syncMiss_keeps Lane.syncOpen (fun _ _ _ _ => rfl) s1 l).trans (congrArg List.tail ho)
      · exact State.syncMiss_keeps Lane.syncGood (fun _ _ _ _ => rfl) s1 l
      · exact State.syncMiss_keeps Lane.syncMissed (fun _ _ _ _ => rfl) s1 l
    · exact ⟨execTriggerImmediate_sends hk hr hd, execTriggerImmediate_loses hk hr hd⟩
    · exact ⟨execTriggerScheduled_sends hk hr hd, execTriggerScheduled_loses hk hr hd⟩
    · obtain ⟨share, start⟩ := State.shareWindow_ends hm h
      exact ⟨_, rfl, share, start, (s1.shareWindow_onLane l).other, (s1.shareWindow_onLane l).reports⟩
    · exact congrArg _ (State.shareWindow_open h)
  · intro t k s s1 x ha
    refine ⟨fun o ho hw => ?_, fun f ho hw => ?_⟩
    · intro at_
      have row : exec (.lineTimeout t k) s = .next (s1.lineTimeout k) := if_pos ha
      rw [row, State.lineTimeout_eq ho hw]
      exact ⟨fun h => congrArg _ (if_pos h), fun h => congrArg _ (if_neg (Nat.not_le.2 h))⟩
    · intro at_
      have row : exec (.frameTimeout t k) s = .next (s1.frameTimeout k) := if_pos ha
      rw [row, State.frameTimeout_eq ho hw]
      exact ⟨fun h => congrArg _ (if_pos h), fun h => congrArg _ (if_neg (Nat.not_le.2 h))⟩

end Sys2Proof.Machine
end

section
/-!
Commands that wait for an auxiliary mover (14 R479): their transfer joins a queue, or waits for a place in one, and nothing else changes.
-/

namespace Sys2Proof.Machine

variable {s u v : State} {j : AuxJob}

/-- A transfer stands in the queue of an auxiliary mover, or waits for a place in one (14 R479). -/
def State.HasJob (s : State) (j : AuxJob) : Prop := (∃ n, j ∈ (s.auxMover n).queue) ∨ j ∈ s.auxWait

theorem State.Within.hasJob (h : u.Within s) (g : s.HasJob j) : u.HasJob j := by
  obtain ⟨_, _, _, _, _, rfl⟩ := h
  exact g

theorem State.auxAdd_hasJob (s : State) (j : AuxJob) : (s.auxAdd j).HasJob j := by
  unfold State.auxAdd
  split
  · next n _ => exact .inl ⟨n, by simp⟩
  · exact .inr (by simp)

/-- A transfer that joins a queue or waits changes nothing but the movers and what waits for them. -/
theorem State.auxAdd_eq (s : State) (j : AuxJob) :
    s.auxAdd j = { s with aux := (s.auxAdd j).aux, auxWait := (s.auxAdd j).auxWait } := by
  unfold State.auxAdd
  split <;> rfl

theorem State.freshen_ns (s : State) : s.freshen.ns = s.ns := rfl
theorem State.freshen_dt (s : State) : s.freshen.dt = s.dt := rfl
theorem State.auxAdd_ns (s : State) (j : AuxJob) : (s.auxAdd j).ns = s.ns := by unfold State.auxAdd; split <;> rfl
theorem State.auxAdd_dt (s : State) (j : AuxJob) : (s.auxAdd j).dt = s.dt := by unfold State.auxAdd; split <;> rfl

/-- But for reporting, u is s with a transfer left to the auxiliary movers, and with the number of the command that waits for it. -/
structure State.Queues (u s : State) (j : AuxJob) : Prop where
  job : u.HasJob j
  reports : u.Reports { s with aux := u.aux, auxWait := u.auxWait, fresh := u.fresh }

/-- What differs from s by the movers' work and a number differs from it by its own. -/
theorem State.Reports.but_movers {a : Tab AuxMover} {w : List AuxJob} {n : Nat}
    (h : u.Reports { s with aux := a, auxWait := w, fresh := n }) :
    u.Reports { s with aux := u.aux, auxWait := u.auxWait, fresh := u.fresh } := by
  obtain ⟨⟨_, _, _, _, _, rfl⟩, kept⟩ := h
  exact ⟨⟨_, _, _, _, _, rfl⟩, kept⟩

theorem State.Reports.queues (h : v.Reports s) (hu : u.Reports (v.freshen.auxAdd j)) : u.Queues s j := by
  refine ⟨hu.within.hasJob (State.auxAdd_hasJob ..), ?_⟩
  rw [State.auxAdd_eq] at hu
  generalize (v.freshen.auxAdd j).aux = a, (v.freshen.auxAdd j).auxWait = w at hu
  exact (hu.trans (h.freshen.map (fun s => { s with aux := a, auxWait := w }) fun _ _ _ _ _ _ => rfl)).but_movers

section
variable {c : RingCmd} {op : Nat} {chk : State → Checks}

/-- A command that leaves a transfer with the auxiliary movers waits for it (03 R105). -/
theorem command_queues {eff : State → State × Done} (P : AuxJob → Prop) (h : s.Accepts c op chk)
    (g : ∀ v, v.Reports s → ∃ j, P j ∧ eff v = (v.freshen.auxAdd j, .waits v.fresh)) :
    ∃ u, s.command c op chk eff = .next u ∧ (∃ j, P j ∧ u.Queues s j) ∧ u.WaitsFor s c s.fresh := by
  refine State.command_waits_for (P := fun u => ∃ j, P j ∧ u.Queues s j) h fun v hv => ?_
  obtain ⟨j, hj, effect⟩ := g v hv
  simp only [effect, State.auxAdd_ns, State.auxAdd_dt, State.freshen_ns, State.freshen_dt, hv.fresh, hv.ns, hv.dt, true_and]
  exact fun u hu => ⟨j, hj, hv.queues hu⟩

theorem State.Reports.translate (h : v.Reports s) (p va n off : Nat) : v.translate p va n off = s.translate p va n off := by
  obtain ⟨⟨_, _, _, _, _, rfl⟩, -⟩ := h
  rfl

/-- The transfer of a block that reporting leaves as it is writes the block of the state that the command found, by the pages of the
buffer (14 R479, R485). -/
theorem command_queues_block {va : Nat} {block : State → List Byte} (h : s.Accepts c op chk) (hb : ∀ v, v.Reports s → block v = block s) :
    ∃ u, s.command c op chk (fun v => v.queueBlock c va (block v)) = .next u ∧
      (∃ arg parts, parts = splitParts va (block s) (s.translate c.p va (block s).length 0).2 ∧
        u.HasJob (.block (ringId c.p c.i) arg c.p parts)) ∧
      u.Reports { s with aux := u.aux, auxWait := u.auxWait, fresh := u.fresh } ∧ ∃ arg, u.WaitsFor s c arg := by
  obtain ⟨u, hu, ⟨_, ⟨arg, rfl⟩, queues⟩, waits⟩ := command_queues
    (fun j => ∃ arg, j = .block (ringId c.p c.i) arg c.p (splitParts va (block s) (s.translate c.p va (block s).length 0).2)) h
    fun v hv => ⟨_, ⟨v.fresh, rfl⟩, by rw [← hv.translate, ← hb v hv]⟩
  exact ⟨u, hu, ⟨arg, _, rfl, queues.job⟩, queues.reports, _, waits⟩

/-- The transfer of an image reads what the command brings (14 R479). -/
theorem command_queues_image (h : s.Accepts c op chk) :
    ∃ u, s.command c op chk (·.queueImage c) = .next u ∧
      (∃ q : LoadCmd, q.ring = ringId c.p c.i ∧ q.entry = c.e ∧ q.gone = false ∧ u.HasJob (.image q c.data)) ∧
      u.Reports { s with aux := u.aux, auxWait := u.auxWait, fresh := u.fresh } ∧ ∃ arg, u.WaitsFor s c arg := by
  obtain ⟨u, hu, ⟨_, ⟨q, ring, entry, stays, rfl⟩, queues⟩, waits⟩ := command_queues
    (fun j => ∃ q : LoadCmd, q.ring = ringId c.p c.i ∧ q.entry = c.e ∧ q.gone = false ∧ j = .image q c.data) h
    fun v _ => ⟨_, ⟨v.loadCmd c, rfl, rfl, rfl, rfl⟩, rfl⟩
  exact ⟨u, hu, ⟨q, ring, entry, stays, queues.job⟩, queues.reports, _, waits⟩

end

end Sys2Proof.Machine
end

section
/-!
What the blocks of QUERY show (15 R539 to R543) does not change by reporting.
-/

namespace Sys2Proof.Machine

variable {s v : State}

theorem State.Reports.versionBlock (h : v.Reports s) : v.versionBlock = s.versionBlock := by
  obtain ⟨⟨_, _, _, _, _, rfl⟩, -⟩ := h
  rfl

theorem State.Reports.healthBlock (h : v.Reports s) : v.healthBlock = s.healthBlock := by
  obtain ⟨⟨_, _, _, _, _, rfl⟩, -⟩ := h
  rfl

theorem State.Reports.counterBlock (h : v.Reports s) (kind n : Nat) : v.counterBlock kind n = s.counterBlock kind n := by
  obtain ⟨⟨_, _, _, _, _, rfl⟩, -⟩ := h
  rfl

/-! ### The ledger (14 R491, R493): of the ports it reads what their configuration gives -/

theorem Port.capacity_of_config {x y : Port} (h : x.config = y.config) : x.capacity = y.capacity :=
  (congrArg Port.capacity h : x.config.capacity = y.config.capacity)

theorem Port.spoolGiB_of_config {x y : Port} (h : x.config = y.config) : x.spoolGiB = y.spoolGiB :=
  (congrArg Port.spoolGiB h : x.config.spoolGiB = y.config.spoolGiB)

theorem State.Reports.portLimit (h : v.Reports s) (p : Nat) : v.portLimit p = s.portLimit p := by
  rw [State.portLimit, State.portLimit, Port.capacity_of_config (h.2.2 p).1]

theorem State.Reports.portDemand (h : v.Reports s) (p : Nat) : v.portDemand p = s.portDemand p := by
  obtain ⟨⟨_, _, _, _, _, rfl⟩, -⟩ := h
  rfl

theorem State.Reports.inbound (h : v.Reports s) (p : Nat) : v.inbound p = s.inbound p := by
  obtain ⟨⟨_, _, _, _, _, rfl⟩, -⟩ := h
  rfl

theorem State.Reports.hbmBytes (h : v.Reports s) : v.hbmBytes = s.hbmBytes := by
  have spool : (fun p => (v.port p).spoolGiB) = fun p => (s.port p).spoolGiB := funext fun p => Port.spoolGiB_of_config (h.2.2 p).1
  rw [State.hbmBytes, State.hbmBytes, spool]
  obtain ⟨⟨_, _, _, _, _, rfl⟩, -⟩ := h
  rfl

theorem State.Reports.hbmDemand (h : v.Reports s) : v.hbmDemand = s.hbmDemand := by
  have limit : v.portLimit = s.portLimit := funext h.portLimit
  rw [State.hbmDemand, State.hbmDemand, limit]
  obtain ⟨⟨_, _, _, _, _, rfl⟩, -⟩ := h
  rfl

theorem State.Reports.ledgerRows (h : v.Reports s) : v.ledgerRows = s.ledgerRows := by
  rw [State.ledgerRows, State.ledgerRows, h.hbmBytes, h.hbmDemand]
  simp only [h.portLimit, h.portDemand, h.inbound]
  obtain ⟨⟨_, _, _, _, _, rfl⟩, -⟩ := h
  rfl

theorem State.Reports.ledgerBlock (h : v.Reports s) : v.ledgerBlock = s.ledgerBlock := by
  rw [State.ledgerBlock, State.ledgerBlock, h.ledgerRows]
  obtain ⟨⟨_, _, _, _, _, rfl⟩, -⟩ := h
  rfl

end Sys2Proof.Machine
end

section
/-!
QUERY, TABLE_LOAD, KERNEL_LOAD and SEQ_LOAD (05 R189, 08 R294, 12 R425, 15 R538).
-/

namespace Sys2Proof.Machine

/-- Settles O5: each effect leaves one transfer with the auxiliary movers, and a block, sampled as the command is accepted (entry 11), is
that of the state which the command found, since reporting does not change it. -/
theorem auxiliaryMoversTakeQueriesAndImages : Obligations.AuxiliaryMoversTakeQueriesAndImages := by
  refine ⟨fun t c s0 => ⟨fun h => ?_, fun h => ?_, fun h => ?_, fun h => ?_⟩, fun t c s0 => ⟨fun h => ?_, fun h => ?_, fun h => ?_⟩⟩
  · exact command_queues_block h fun _ => State.Reports.versionBlock
  · exact command_queues_block h fun _ => State.Reports.healthBlock
  · exact command_queues_block h fun _ => State.Reports.ledgerBlock
  · exact command_queues_block (block := fun u => u.counterBlock (qKind c.e) (qIndex c.e)) h fun _ hv => hv.counterBlock ..
  · exact command_queues_image h
  · exact command_queues_image h
  · exact command_queues_image h

end Sys2Proof.Machine
end

section
/-!
SCONCE_CONFIG and its release, PARAM_SET and TABLE_RELEASE (05 R185, R186, R190, R212, R214; 06 R246).
-/

namespace Sys2Proof.Machine

variable {s u v : State}

/-! ### A sconce set anew (05 R186) -/

/-- Sconce k gives up its open frame and is set to x, as SCONCE_CONFIG and its release both do (05 R186). -/
def State.replaceSconce (s : State) (k : Nat) (x : Sconce) : State := (s.discardOpen k).setSconce k x

section
variable {k : Nat} {x : Sconce}

theorem State.discardOpen_frame (s : State) (k : Nat) : ∃ a d f, s.discardOpen k = { s with sconces := a, lanterns := d, streams := f } := by
  simp only [State.discardOpen]
  split <;> exact ⟨_, _, _, rfl⟩

theorem State.discardOpen_closed (h : (s.sconce k).openFrame = none) : s.discardOpen k = s := by
  simp only [State.discardOpen, h]

theorem State.discardOpen_sconce_other (s : State) {j : Nat} (h : j ≠ k) : (s.discardOpen k).sconce j = s.sconce j := by
  simp only [State.discardOpen]
  split
  · rfl
  · exact State.sconce_setSconce_other _ _ h

/-- Only sconces, Lanterns and streams can change. -/
theorem State.replaceSconce_frame (s : State) (k : Nat) (x : Sconce) :
    ∃ a d f, s.replaceSconce k x = { s with sconces := a, lanterns := d, streams := f } := by
  obtain ⟨a, d, f, h⟩ := s.discardOpen_frame k
  exact ⟨_, d, f, by rw [State.replaceSconce, h]; rfl⟩

theorem State.replaceSconce_closed (h : (s.sconce k).openFrame = none) : s.replaceSconce k x = s.setSconce k x := by
  rw [State.replaceSconce, State.discardOpen_closed h]

theorem State.replaceSconce_sconce (s : State) (k : Nat) (x : Sconce) : (s.replaceSconce k x).sconce k = x := State.sconce_setSconce ..

theorem State.replaceSconce_sconce_other (s : State) {j : Nat} (h : j ≠ k) : (s.replaceSconce k x).sconce j = s.sconce j :=
  (State.sconce_setSconce_other _ _ h).trans (s.discardOpen_sconce_other h)

theorem State.replaceSconce_lane (s : State) (k : Nat) (x : Sconce) (l : Nat) : (s.replaceSconce k x).lane l = s.lane l := by
  obtain ⟨_, _, _, h⟩ := s.replaceSconce_frame k x
  rw [h]
  rfl

end

/-! ### What these commands can change -/

theorem State.freeTables_sconce (s : State) (k : Nat) : s.freeTables.sconce k = s.sconce k := rfl
theorem State.modLane_sconce (s : State) (l : Nat) (g : Lane → Lane) (k : Nat) : (s.modLane l g).sconce k = s.sconce k := rfl

theorem State.Within.lanterns (h : u.Within s) : u.lanterns = s.lanterns := by obtain ⟨_, _, _, _, _, rfl⟩ := h; rfl

/-- What differs from s by sconces, lanes, tables, Lanterns and streams differs from it by its own. -/
theorem State.Reports.but_sconces {a : Tab Sconce} {b : Tab Lane} {t : Tab Table} {d : Tab Lantern} {f : Tab Stream}
    (h : u.Reports { s with sconces := a, lanes := b, tables := t, lanterns := d, streams := f }) :
    u.Reports { s with sconces := u.sconces, lanes := u.lanes, tables := u.tables, lanterns := u.lanterns, streams := u.streams } := by
  obtain ⟨⟨_, _, _, _, _, rfl⟩, kept⟩ := h
  exact ⟨⟨_, _, _, _, _, rfl⟩, kept⟩

/-- u is v with other sconces, lanes, tables, Lanterns and streams. -/
def State.SconcesMove (u v : State) : Prop :=
  ∃ a b t d f, u = { v with sconces := a, lanes := b, tables := t, lanterns := d, streams := f }

theorem State.SconcesMove.answers (h : u.SconcesMove v) : u.Answers v := by
  obtain ⟨_, _, _, _, _, rfl⟩ := h
  exact State.answers_of_ports rfl rfl

theorem State.SconcesMove.reports {w : State} (h : w.SconcesMove v) (hv : v.Reports s) (hu : u.Reports w) :
    u.Reports { s with sconces := u.sconces, lanes := u.lanes, tables := u.tables, lanterns := u.lanterns, streams := u.streams } := by
  obtain ⟨a, b, t, d, f, rfl⟩ := h
  exact (hu.trans (hv.map (fun s => { s with sconces := a, lanes := b, tables := t, lanterns := d, streams := f })
    fun _ _ _ _ _ _ => rfl)).but_sconces

/-- A command whose effect leaves the ports and the mode completes, and its next state is its effect but for reporting. -/
theorem command_takes_effect {c : RingCmd} {op : Nat} {chk : State → Checks} {eff : State → State} (h : s.Accepts c op chk)
    (he : ∀ v, (eff v).Answers v) :
    ∃ u, s.command c op chk (fun v => (eff v, .ok)) = .next u ∧ (∃ v, v.Reports s ∧ u.Reports (eff v)) ∧ u.Completed s c .success :=
  State.command_succeeds (P := fun u => ∃ v, v.Reports s ∧ u.Reports (eff v)) h fun v hv => ⟨rfl, he v, fun _ hu => ⟨v, hv, hu⟩⟩

/-! ### SCONCE_CONFIG (05 R185, R186) -/

section
variable (s : State) (p : Nat) (e : Entry)

/-- The sconce that SCONCE_CONFIG makes. -/
def State.configuredSconce : Sconce :=
  let x := (s.discardOpen (cmdSconce e)).sconce (cmdSconce e)
  { Sconce.limitsOf Sconce.reset x with
    configured := true, owner := some p, lane := bitsAt e 0xB 1 0 7, classifier := bitAt e 0xA 1
    format := if bitAt e 0xA 1 then s.tableOfKind p (fld e 0xC 4) 1 else none
    maxRate := fld e 0x10 2, par := [(1, blockOf e)], fires := x.fires }

theorem State.sconceConfig_eq : s.sconceConfig p e = ((s.replaceSconce (cmdSconce e) (s.configuredSconce p e)).modLane (bitsAt e 0xB 1 0 7)
    (fun y => { y with owner := some p })).freeTables := rfl

theorem State.sconceConfig_moves : (s.sconceConfig p e).SconcesMove s := by
  obtain ⟨_, _, _, h⟩ := s.replaceSconce_frame (cmdSconce e) (s.configuredSconce p e)
  rw [State.sconceConfig_eq, h]
  exact ⟨_, _, _, _, _, rfl⟩

theorem State.sconceConfig_sconce : (s.sconceConfig p e).sconce (cmdSconce e) = s.configuredSconce p e := by
  rw [State.sconceConfig_eq, State.freeTables_sconce, State.modLane_sconce, State.replaceSconce_sconce]

theorem State.sconceConfig_sconce_other {j : Nat} (h : j ≠ cmdSconce e) : (s.sconceConfig p e).sconce j = s.sconce j := by
  rw [State.sconceConfig_eq, State.freeTables_sconce, State.modLane_sconce, State.replaceSconce_sconce_other _ h]

theorem State.sconceConfig_lane :
    (s.sconceConfig p e).lane (bitsAt e 0xB 1 0 7) = { s.lane (bitsAt e 0xB 1 0 7) with owner := some p } := by
  rw [State.sconceConfig_eq, ← s.replaceSconce_lane (cmdSconce e) (s.configuredSconce p e)]
  exact State.lane_setLane ..

theorem State.sconceConfig_lane_other {j : Nat} (h : j ≠ bitsAt e 0xB 1 0 7) : (s.sconceConfig p e).lane j = s.lane j := by
  rw [State.sconceConfig_eq, ← s.replaceSconce_lane (cmdSconce e) (s.configuredSconce p e)]
  exact State.lane_setLane_other _ _ h

theorem State.sconceConfig_closed (h : (s.sconce (cmdSconce e)).openFrame = none) :
    (s.sconceConfig p e).lanterns = s.lanterns ∧ (s.sconceConfig p e).streams = s.streams := by
  rw [State.sconceConfig_eq, State.replaceSconce_closed h]
  exact ⟨rfl, rfl⟩

end

theorem State.Reports.tableOfKind (h : v.Reports s) (p handle kind : Nat) : v.tableOfKind p handle kind = s.tableOfKind p handle kind := by
  obtain ⟨⟨_, _, _, _, _, rfl⟩, -⟩ := h
  rfl

/-! ### SCONCE_CONFIG with RELEASE 1 (05 R186, 06 R246) -/

/-- The sconce that the release named is as after reset but for its limits, and its tables that nothing else names are freed. -/
def State.sconceReleased (s : State) (k : Nat) : State := (s.replaceSconce k (Sconce.limitsOf Sconce.reset (s.sconce k))).freeTables

theorem State.sconceReleased_moves (s : State) (k : Nat) : (s.sconceReleased k).SconcesMove s := by
  obtain ⟨_, _, _, h⟩ := s.replaceSconce_frame k (Sconce.limitsOf Sconce.reset (s.sconce k))
  rw [State.sconceReleased, h]
  exact ⟨_, _, _, _, _, rfl⟩

theorem State.sconceReleased_lanes (s : State) (k : Nat) : (s.sconceReleased k).lanes = s.lanes := by
  obtain ⟨_, _, _, h⟩ := s.replaceSconce_frame k (Sconce.limitsOf Sconce.reset (s.sconce k))
  rw [State.sconceReleased, h]
  rfl

theorem State.sconceReleased_sconce (s : State) (k : Nat) :
    (s.sconceReleased k).sconce k = Sconce.limitsOf Sconce.reset (s.sconce k) := State.replaceSconce_sconce ..

theorem State.sconceReleased_sconce_other (s : State) {k j : Nat} (h : j ≠ k) : (s.sconceReleased k).sconce j = s.sconce j :=
  State.replaceSconce_sconce_other _ h

/-! ### PARAM_SET (05 R212, R214) -/

/-- The pending set that PARAM_SET adds. -/
def State.pendingSet (s : State) (p : Nat) (e : Entry) : PendingSet where
  group := fld e 0xA 1
  data := blockOf e
  ids := (groupTables (fld e 0xA 1) e).filterMap fun q => (s.tableOfKind p (fld e q.2.1 4) q.2.2).map fun i => (q.1, i)
  c := s.dt
  at_ := if bitAt e 0xB 0 then some (fld e 0x10 8) else none
  commitSeq := s.commitSeq

theorem State.paramSet_eq (s : State) (p : Nat) (e : Entry) : s.paramSet p e = s.setSconce (cmdSconce e)
    { s.sconce (cmdSconce e) with owner := some p, sets := (s.sconce (cmdSconce e)).sets ++ [s.pendingSet p e] } := rfl

theorem State.Reports.setSconce (h : u.Reports s) (k : Nat) (y : Sconce) : (u.setSconce k y).Reports (s.setSconce k y) :=
  h.map (·.setSconce k y) fun _ _ _ _ _ _ => rfl

/-! ### TABLE_RELEASE (05 R190) -/

theorem tableReleaseEffect_reports {c : RingCmd} (h : v.Reports s) : (tableReleaseEffect c v).1.Reports (tableReleaseEffect c s).1 := by
  refine h.map (fun s => (tableReleaseEffect c s).1) fun s p j w q o => ?_
  have same : State.tableOf { s with ports := p, jn := j, windows := w, seq := q, out := o } c.p (fld c.e 8 4) =
    s.tableOf c.p (fld c.e 8 4) := rfl
  simp only [tableReleaseEffect, same]
  split <;> rfl

theorem tableReleaseEffect_keeps (c : RingCmd) (s : State) :
    (tableReleaseEffect c s).1.mode = s.mode ∧ (tableReleaseEffect c s).1.ports = s.ports := by
  simp only [tableReleaseEffect]
  split <;> exact ⟨rfl, rfl⟩

/-! ### The commands -/

/-- Settles O6: each effect sets one sconce, and SCONCE_CONFIG one lane, or takes one table away; an open frame that is given up is taken
from the Lanterns and streams that had it. -/
theorem sconceAndTableCommandsRun : Obligations.SconceAndTableCommandsRun := by
  refine ⟨fun t c s0 h => ?_, fun t c s0 h => ?_, fun t c s0 h => ?_, fun t c s0 h => ?_⟩
  · obtain ⟨u, hu, ⟨v, hv, effect⟩, done⟩ := command_takes_effect (eff := fun v => v.sconceConfig c.p c.e) h
      fun v => (v.sconceConfig_moves c.p c.e).answers
    have now := effect.within
    have sconce := (now.sconce _).trans (v.sconceConfig_sconce c.p c.e)
    refine ⟨u, hu, ⟨?_, ?_, fun j hj => ?_, fun j hj => ?_, fun hf => ?_, (v.sconceConfig_moves c.p c.e).reports hv effect⟩, done⟩
    · rw [sconce, ← hv.tableOfKind]
      exact ⟨rfl, rfl, rfl, rfl, rfl, rfl, rfl, rfl, rfl⟩
    · rw [now.lane, State.sconceConfig_lane, hv.within.lane]
    · rw [now.sconce, State.sconceConfig_sconce_other _ _ _ hj, hv.within.sconce]
    · rw [now.lane, State.sconceConfig_lane_other _ _ _ hj, hv.within.lane]
    · rw [← hv.within.sconce] at hf
      obtain ⟨lanterns, streams⟩ := v.sconceConfig_closed c.p c.e hf
      exact ⟨(now.lanterns.trans lanterns).trans hv.within.lanterns, (now.streams.trans streams).trans hv.within.streams⟩
  · obtain ⟨u, hu, ⟨v, hv, effect⟩, done⟩ := command_takes_effect (eff := fun v => v.sconceReleased (cmdSconce c.e)) h
      fun v => (v.sconceReleased_moves _).answers
    have now := effect.within
    have lanes := (now.lanes.trans (v.sconceReleased_lanes _)).trans hv.within.lanes
    have moved := (v.sconceReleased_moves _).reports hv effect
    rw [lanes] at moved
    refine ⟨u, hu, ⟨?_, fun j hj => ?_, moved⟩, done⟩
    · rw [now.sconce, State.sconceReleased_sconce, ← hv.within.sconce]
      rfl
    · rw [now.sconce, State.sconceReleased_sconce_other _ hj, hv.within.sconce]
  · obtain ⟨u, hu, ⟨v, hv, effect⟩, done⟩ := command_takes_effect (eff := fun v => v.paramSet c.p c.e) h
      fun v => State.answers_of_ports rfl rfl
    rw [State.paramSet_eq, hv.within.sconce] at effect
    have set := effect.trans (hv.setSconce ..)
    refine ⟨u, hu, ⟨⟨v.pendingSet c.p c.e, (set.within.sconce _).trans (State.sconce_setSconce ..), rfl, rfl, hv.dt, rfl⟩,
      fun j hj => (set.within.sconce j).trans (State.sconce_setSconce_other _ _ hj), ?_⟩, done⟩
    rw [set.within.sconces]
    exact set
  · obtain ⟨mode, ports⟩ := tableReleaseEffect_keeps c (s0.elapse t)
    exact command_does' _ h (fun v hv => ⟨tableReleaseEffect_reports hv, rfl⟩) mode ports

end Sys2Proof.Machine
end

section
/-!
The scalar stores of a Lantern (09 R329): to the local store, to the output line, to the gather port and to the interrupt controller.
-/

namespace Sys2Proof.Machine

variable {s u : State}

/-! ### Bytes of a value and of a memory (00 R5; 08 R289) -/

theorem leBytes_getElem {n k : Nat} (v : Nat) (h : k < (leBytes n v).length) : (leBytes n v)[k] = BitVec.ofNat 8 (v / 2 ^ (8 * k)) := by
  induction n generalizing v k with
  | zero => simp [leBytes] at h
  | succ n ih =>
    cases k with
    | zero => simp [leBytes]
    | succ k =>
      have shift : 256 * 2 ^ (8 * k) = 2 ^ (8 * (k + 1)) := by rw [Nat.mul_succ, Nat.pow_add]; omega
      simp only [leBytes, List.getElem_cons_succ, ih, Nat.div_div_eq_div_mul, shift]

/-- Bytes in the local store, written one at a time, are written to its memory. -/
theorem Lantern.putBytes_store (l : List Byte) (x : Lantern) (a : Nat) (h : a + l.length ≤ 0x200000) :
    x.putBytes a l = { x with store := memWrite x.store a l } := by
  induction l generalizing x a with
  | nil => rfl
  | cons v l ih =>
    simp only [List.length_cons] at h
    have range : x.rangeOf a = .store := if_pos (by omega)
    rw [Lantern.putBytes, ih _ _ (by omega), Lantern.putByte, range]
    rfl

/-- Writes of bytes leave what neither the local store nor the output line holds. -/
theorem Lantern.putBytes_keeps {α : Type} (f : Lantern → α) (hs : ∀ x m, f { x with store := m } = f x)
    (ho : ∀ x l, f { x with outLine := l } = f x) (l : List Byte) (x : Lantern) (a : Nat) : f (x.putBytes a l) = f x := by
  induction l generalizing x a with
  | nil => rfl
  | cons v l ih =>
    rw [Lantern.putBytes, ih, Lantern.putByte]
    split
    · exact hs ..
    · exact ho ..
    · rfl

/-! ### What the gather port and the interrupt controller leave (08 R292, R293, R308 to R312) -/

theorem State.Reports.lantern (h : u.Reports s) (n : Nat) : u.lantern n = s.lantern n :=
  congrArg (tabGet Lantern.reset · n) h.within.lanterns

theorem State.Ends.lantern (h : u.Ends s) (n : Nat) : u.lantern n = s.lantern n := congrArg (tabGet Lantern.reset · n) h.lanterns

/-- A counter of a Lantern rises (08 R310). -/
def Lantern.counted (x : Lantern) (code k : Nat) : Lantern :=
  { x with counters := tabPut x.counters code (satAdd 32 (tabGet 0 x.counters code) k) }

theorem State.lanternCount_eq (s : State) (n code k : Nat) : s.lanternCount n code k = s.setLantern n ((s.lantern n).counted code k) := rfl

/-- A limited record of a Lantern raises a counter of it, and notes when it was last written (08 R310). -/
theorem State.lanternLimited_reports (s : State) (n code cls typ low : Nat) : ∃ c r f, (s.lanternLimited n code cls typ low).Reports
    (s.setLantern n { s.lantern n with counters := c, reports := r, firstStruck := f }) := by
  unfold State.lanternLimited
  simp only [State.lanternCount_eq, State.lantern_setLantern, setLantern_set]
  cases tabFind ((s.lantern n).counted code 1).reports typ with
  | none =>
    rw [if_pos rfl]
    exact ⟨_, _, _, State.report_reports ..⟩
  | some r =>
    dsimp only
    split
    · exact ⟨_, _, _, State.report_reports ..⟩
    · exact ⟨_, _, _, .refl _⟩

theorem State.lanternLimited_keeps {α : Type} (f : Lantern → α)
    (h : ∀ x c r t, f { x with counters := c, reports := r, firstStruck := t } = f x) (s : State) (n code cls typ low : Nat) :
    f ((s.lanternLimited n code cls typ low).lantern n) = f (s.lantern n) := by
  obtain ⟨c, r, t, reports⟩ := s.lanternLimited_reports n code cls typ low
  rw [reports.lantern, State.lantern_setLantern, h]

/-- An event at a source moves the interrupt controller alone (08 R310). -/
theorem Lantern.event_keeps {α : Type} (f : Lantern → α)
    (h : ∀ x c p t e d, f { x with irqCount := c, irqPending := p, pendedAt := t, earliest := e, holdoffDone := d } = f x)
    (x : Lantern) (src now : Nat) : f (x.event src now) = f x := by
  unfold Lantern.event
  split
  · rfl
  · dsimp only
    split <;> exact h x ..

theorem Lantern.event_pc (x : Lantern) (src now : Nat) : (x.event src now).pc = x.pc :=
  Lantern.event_keeps Lantern.pc (fun _ _ _ _ _ _ => rfl) x src now

theorem Lantern.pinSees_pc (x : Lantern) (k : Nat) (level edge : Bool) (now : Nat) : (x.pinSees k level edge now).pc = x.pc := by
  simp only [Lantern.pinSees, apply_ite Lantern.pc, Lantern.event_pc]
  simp [Lantern.setHigh, Lantern.setPending, Lantern.clearPending, Lantern.timeEarliest]

theorem Lantern.completeSource_pc (x : Lantern) (k : Nat) : (x.completeSource k).pc = x.pc := by unfold Lantern.completeSource; split <;> rfl

theorem State.doorbell_pc (s : State) (n v : Nat) : ((s.doorbell n v).lantern n).pc = (s.lantern n).pc := by
  unfold State.doorbell
  split
  · simp [State.pend, State.modLantern, Lantern.event_pc]
  · exact State.lanternLimited_keeps Lantern.pc (fun _ _ _ _ => rfl) ..

theorem State.irqWrite_pc (s : State) (n off v : Nat) : ((s.irqWrite n off v).lantern n).pc = (s.lantern n).pc := by
  simp only [State.irqWrite, apply_ite (fun t : State => (t.lantern n).pc), State.lantern_setLantern, State.doorbell_pc, Lantern.pinSees_pc,
    Lantern.completeSource_pc]
  simp [Lantern.setPending, Lantern.clearPending, Lantern.setMask, Lantern.timeEarliest]

theorem State.gatherGo_pc (s : State) (n : Nat) : ((s.gatherGo n).lantern n).pc = (s.lantern n).pc := by
  unfold State.gatherGo
  dsimp only
  split
  · simp
  · rw [(State.auxAdd_ends ..).lantern, State.lanternCount_eq]
    simp [Lantern.counted]

theorem State.gatherWrite_pc (s : State) (n off v : Nat) : ((s.gatherWrite n off v).lantern n).pc = (s.lantern n).pc := by
  unfold State.gatherWrite
  split
  case h_5 => split; exacts [s.gatherGo_pc n, rfl]
  all_goals simp

/-! ### A store issues (09 R322, R329) -/

section
variable {n : Fin 64} {w : Word} {major m : Nat}

theorem isMajor_of {k v : Nat} (h : iMajor v = k) : isMajor k v = true := beq_iff_eq.2 h

/-- An instruction that answers a state in which its Lantern stands at the same word: the Lantern goes on. -/
theorem isa_goes_on (h : s.AtPc n w) {mine : Nat → Bool} (hm : mine w.toNat = true) {f : State → Lantern → Nat → Issue} {t : State}
    (hf : f (s.awake n) ((s.awake n).lantern n) w.toNat = .next t) (hp : (t.lantern n).pc = ((s.awake n).lantern n).pc) :
    s.isa n w mine f = t.goesOn n (t.lantern n) := by
  rw [isa_eq h mine hm]
  simp only [hf, State.retire, State.goesOn, ← hp]
  by_cases inside : (t.lantern n).pc + 1 < (t.lantern n).codeWords
  · have within : ¬(((t.lantern n).pc : Int) + 1 < 0 ∨ ((t.lantern n).codeWords : Int) ≤ (t.lantern n).pc + 1) := by omega
    simp [inside, within]
    rfl
  · have beyond : ((t.lantern n).codeWords : Int) ≤ (t.lantern n).pc + 1 := by omega
    simp [inside, beyond]

/-- A word of major opcode `major` stands at PC of Lantern x, and its access is to a, a multiple of its m bytes. -/
structure State.Stores (s : State) (n : Fin 64) (w : Word) (major m : Nat) (x : Lantern) (a : Nat) : Prop where
  atPc : s.AtPc n w
  major : iMajor w.toNat = major
  lantern : (s.awake n).lantern n = x
  address : memAddr x w.toNat = a
  aligned : a % m = 0

variable {x : Lantern} {a : Nat}

/-- A store that no gather will write meanwhile, to the local store or the output line. -/
theorem State.store_bytes (h : s.Stores n w major m x a) (hr : x.rangeOf a = .store ∨ x.rangeOf a = .out) (hs : x.stalls a m = false) :
    s.store n w major m = (s.awake n).goesOn n (x.putBytes a (leBytes m (x.sreg (iRd w.toNat)))) := by
  obtain ⟨atPc, hm, rfl, rfl, ha⟩ := h
  refine isa_next atPc _ (isMajor_of hm) _ _ (Lantern.putBytes_keeps Lantern.codeWords (fun _ _ => rfl) (fun _ _ => rfl) ..)
    (Lantern.putBytes_keeps Lantern.pc (fun _ _ => rfl) (fun _ _ => rfl) ..) ?_
  obtain hr | hr := hr <;> simp [ha, hr, hs]

/-- A store to the local store writes its memory. -/
theorem State.store_local (h : s.Stores n w major m x a) (hl : a + m ≤ 0x200000) (h0 : 0 < m) (hs : x.stalls a m = false) :
    s.store n w major m =
      (s.awake n).goesOn n { x with store := memWrite x.store a (leBytes m (x.sreg (iRd w.toNat))) } := by
  rw [State.store_bytes h (.inl (if_pos (by omega))) hs, Lantern.putBytes_store _ _ _ (by rwa [leBytes_length])]

theorem State.store_gather (h : s.Stores n w major 4 x a) (hr : x.rangeOf a = .gather) :
    s.store n w major 4 = ((s.awake n).gatherWrite n (a % 0x20) (x.sreg (iRd w.toNat))).goesOn n
      (((s.awake n).gatherWrite n (a % 0x20) (x.sreg (iRd w.toNat))).lantern n) := by
  obtain ⟨atPc, hm, rfl, rfl, ha⟩ := h
  exact isa_goes_on atPc (isMajor_of hm) (by simp [ha, hr]) (State.gatherWrite_pc ..)

theorem State.store_irq (h : s.Stores n w major 4 x a) (hr : x.rangeOf a = .irq) :
    s.store n w major 4 = ((s.awake n).irqWrite n (a % 0x100) (x.sreg (iRd w.toNat))).goesOn n
      (((s.awake n).irqWrite n (a % 0x100) (x.sreg (iRd w.toNat))).lantern n) := by
  obtain ⟨atPc, hm, rfl, rfl, ha⟩ := h
  exact isa_goes_on atPc (isMajor_of hm) (by simp [ha, hr]) (State.irqWrite_pc ..)

end

/-- What stands in a memory after a write of a value's bytes: these bytes, lowest first, and every other byte as before. -/
theorem memWrite_leBytes {m : List Host.Cell} (h : Memory.wf m = true) (a k d : Nat) :
    (∀ b, b < a ∨ a + k ≤ b → memGet (memWrite m a (leBytes k d)) b = memGet m b) ∧
      ∀ j, j < k → memGet (memWrite m a (leBytes k d)) (a + j) = BitVec.ofNat 8 (d / 2 ^ (8 * j)) := by
  refine ⟨fun b hb => memGet_write_outside _ _ _ _ h (by rwa [leBytes_length]), fun j hj => ?_⟩
  have inside : j < (leBytes k d).length := by rwa [leBytes_length]
  rw [memGet_write_inside _ _ _ _ h inside, leBytes_getElem]

/-- Settles O14: each width of store is one write of bytes, and the words of the ports are writes of their own. -/
theorem scalarStores : Obligations.ScalarStores := by
  intro t n w s s1 x v a d stored h wf
  have written (k : Nat) : stored k (memWrite x.store a (leBytes k d)) := memWrite_leBytes wf a k d
  have stores {major m : Nat} (hm : iMajor v = major) (ha : a % m = 0) : (s.elapse t).Stores n w major m x a := ⟨h, hm, rfl, rfl, ha⟩
  refine ⟨fun hm ha hl hs => ⟨_, congrArg _ (State.store_local (stores hm ha) hl (by omega) hs), written 4⟩,
    fun hm ha hl hs => ⟨_, congrArg _ (State.store_local (stores hm ha) hl (by omega) hs), written 2⟩,
    fun hm hl hs => ⟨_, congrArg _ (State.store_local (stores hm (Nat.mod_one _)) hl (by omega) hs), written 1⟩,
    fun hr => ⟨fun hm ha hs => congrArg _ (State.store_bytes (stores hm ha) (.inr hr) hs),
      fun hm ha hs => congrArg _ (State.store_bytes (stores hm ha) (.inr hr) hs),
      fun hm hs => congrArg _ (State.store_bytes (stores hm (Nat.mod_one _)) (.inr hr) hs)⟩,
    fun hm ha hr => congrArg _ (State.store_gather (stores hm ha) hr), fun hm ha hr => congrArg _ (State.store_irq (stores hm ha) hr)⟩

end Sys2Proof.Machine
end

section
/-!
KERNEL_SWAP, LANTERN_BIND and its release (08 R297 to R299).
-/

namespace Sys2Proof.Machine

variable {s u v w : State}

/-! ### One Lantern, and reporting -/

theorem State.Reports.setLantern (h : u.Reports s) (n : Nat) (y : Lantern) : (u.setLantern n y).Reports (s.setLantern n y) :=
  h.map (·.setLantern n y) fun _ _ _ _ _ _ => rfl

/-- What differs from s by its Lanterns differs from it by its own. -/
theorem State.Reports.but_lanterns {a : Tab Lantern} (h : u.Reports { s with lanterns := a }) : u.Reports { s with lanterns := u.lanterns } := by
  obtain ⟨⟨_, _, _, _, _, rfl⟩, kept⟩ := h
  exact ⟨⟨_, _, _, _, _, rfl⟩, kept⟩

/-- What differs from s by Lanterns and sconces differs from it by its own. -/
theorem State.Reports.but_bindings {a : Tab Lantern} {b : Tab Sconce} (h : u.Reports { s with lanterns := a, sconces := b }) :
    u.Reports { s with lanterns := u.lanterns, sconces := u.sconces } := by
  obtain ⟨⟨_, _, _, _, _, rfl⟩, kept⟩ := h
  exact ⟨⟨_, _, _, _, _, rfl⟩, kept⟩

/-- What differs from s by Lanterns, sconces and the event fabric differs from it by its own. -/
theorem State.Reports.but_fabric {a : Tab Lantern} {b : Tab Sconce} {c : Tab Channel} {f : List Flight} {q : Tab Sequencer}
    (h : u.Reports { s with lanterns := a, sconces := b, channels := c, flights := f, seqs := q }) :
    u.Reports { s with lanterns := u.lanterns, sconces := u.sconces, channels := u.channels, flights := u.flights, seqs := u.seqs } := by
  obtain ⟨⟨_, _, _, _, _, rfl⟩, kept⟩ := h
  exact ⟨⟨_, _, _, _, _, rfl⟩, kept⟩

/-- What reporting and the new Lantern n leave: Lantern n is the new one, and the others are as before. -/
theorem State.Reports.set_lantern {n : Nat} {y : Lantern} (h : u.Reports (s.setLantern n y)) :
    u.lantern n = y ∧ (∀ m, m ≠ n → u.lantern m = s.lantern m) ∧ u.Reports { s with lanterns := u.lanterns } :=
  ⟨(h.lantern n).trans (State.lantern_setLantern ..), fun m hm => (h.lantern m).trans (State.lantern_setLantern_other _ _ hm),
    h.but_lanterns⟩

theorem State.lanternRecord_reports (s : State) (n cls typ data : Nat) : (s.lanternRecord n cls typ data).Reports s := report_reports ..

/-! ### KERNEL_SWAP (08 R297) -/

/-- The swap that KERNEL_SWAP asks for stands in its Lantern, which the command's port may take. -/
theorem State.kernelSwap_eq (s : State) (p : Nat) (e : Entry) : ∃ o, s.kernelSwap p e = s.setLantern (cmdLantern e)
    { s.lantern (cmdLantern e) with
      owner := o, swap := some (s.dt, if bitAt e 9 1 then some (fld e 0x10 8) else none, bitAt e 9 0), swapSeq := s.commitSeq } := by
  simp only [State.kernelSwap, State.lanternTaken]
  split
  · exact ⟨some p, by simp [State.modLantern, setLantern_set]⟩
  · exact ⟨_, rfl⟩

/-! ### LANTERN_BIND (08 R298, R299) -/

theorem lanternBindEffect_reports (c : RingCmd) (s : State) : (lanternBindEffect c s).1.Reports
    ((s.lanternBind c.p c.e).modSconce (bitsAt c.e 0xA 2 0 9) fun y => { y with owner := some c.p }) :=
  State.lanternRecord_reports _ (cmdLantern c.e) 3 0x0301 (bindingData true (bitsAt c.e 9 1 0 2))

/-! ### The release of a binding (08 R280, R299; 13 R460) -/

/-- u is v with other channels, events on their way and sequencers. -/
def State.FabricMoves (u v : State) : Prop := ∃ c f q, u = { v with channels := c, flights := f, seqs := q }

theorem State.FabricMoves.trans (h : u.FabricMoves v) (g : v.FabricMoves w) : u.FabricMoves w := by
  obtain ⟨_, _, _, rfl⟩ := h
  obtain ⟨_, _, _, rfl⟩ := g
  exact ⟨_, _, _, rfl⟩

theorem State.FabricMoves.foldl {α : Type} {f : State → α → State} (h : ∀ t x, (f t x).FabricMoves t) (l : List α) (s : State) :
    (l.foldl f s).FabricMoves s := by
  induction l generalizing s with
  | nil => exact ⟨_, _, _, rfl⟩
  | cons a l ih => exact (ih (f s a)).trans (h s a)

theorem State.freeChannel_moves (s : State) (n : Nat) : (s.freeChannel n).FabricMoves s :=
  State.FabricMoves.trans ⟨_, _, _, rfl⟩ (.foldl (fun _ _ => ⟨_, _, _, rfl⟩) _ _)

/-- The Lantern that the end of its binding leaves. -/
def Lantern.freed (x : Lantern) : Lantern :=
  { takeSwaps (fun _ => false) x x.swapAt with
    st := .free, owner := none, sconce := 0, tap := 0, policy := false, slack := 0, chMask := 0, fill := 0, swap := none
    routine := .idle, frame := none, normal := none, fast := none, waiting := none, outLine := [] }

/-- With no swap that has yet to take over it keeps what it holds. -/
theorem Lantern.freed_keeps {x : Lantern} (h : x.swapAt = []) :
    x.freed.bank0 = x.bank0 ∧ x.freed.bank1 = x.bank1 ∧ x.freed.bank = x.bank ∧ x.freed.store = x.store := by
  rw [Lantern.freed, h]
  exact ⟨rfl, rfl, rfl, rfl⟩

/-- The lines of the Lantern pass its sconce, and the channels it owns are released. -/
theorem State.lanternFree_frees (s : State) (n : Nat) : ∃ b c f q, (s.lanternFree n).Reports
    ({ s with sconces := b, channels := c, flights := f, seqs := q }.setLantern n (s.lantern n).freed) := by
  unfold State.lanternFree
  extract_lets x s0 s1 s2
  obtain ⟨c, f, q, freed⟩ : s2.FabricMoves s1 := .foldl (fun _ _ => State.freeChannel_moves ..) _ _
  have told : s2.Reports { s0 with channels := c, flights := f, seqs := q } :=
    freed ▸ (State.report_reports ..).map (fun t => { t with channels := c, flights := f, seqs := q }) fun _ _ _ _ _ _ => rfl
  exact ⟨_, c, f, q, told.setLantern n _⟩

/-- The release of a binding: a Lantern that is Free already stays as it is. -/
def State.released (s : State) (n : Nat) : State := if (s.lantern n).st == .free then s else s.lanternFree n

theorem State.released_frees (s : State) (n : Nat) : ∃ a b c f q,
    (s.released n).Reports { s with lanterns := a, sconces := b, channels := c, flights := f, seqs := q } ∧
      ((s.released n).lantern n).st = .free ∧
      ((s.lantern n).swapAt = [] → ((s.released n).lantern n).bank0 = (s.lantern n).bank0 ∧
        ((s.released n).lantern n).bank1 = (s.lantern n).bank1 ∧ ((s.released n).lantern n).bank = (s.lantern n).bank ∧
        ((s.released n).lantern n).store = (s.lantern n).store) ∧
      ∀ m, m ≠ n → (s.released n).lantern m = s.lantern m := by
  by_cases free : (s.lantern n).st = .free
  · have same : s.released n = s := if_pos (beq_iff_eq.2 free)
    rw [same]
    exact ⟨_, _, _, _, _, .refl s, free, fun _ => ⟨rfl, rfl, rfl, rfl⟩, fun _ _ => rfl⟩
  · have ends : s.released n = s.lanternFree n := if_neg (mt beq_iff_eq.1 free)
    obtain ⟨b, c, f, q, reports⟩ := s.lanternFree_frees n
    obtain ⟨set, other, -⟩ := reports.set_lantern
    rw [ends, set]
    exact ⟨_, b, c, f, q, reports, rfl, Lantern.freed_keeps, other⟩

/-! ### The commands -/

/-- Settles O10: each effect sets one Lantern; a binding also takes the sconce for the port, and a release gives back the channels. -/
theorem kernelAndBindCommandsRun : Obligations.KernelAndBindCommandsRun := by
  refine ⟨?_, ?_⟩
  · intro t c s0 s n h
    obtain ⟨u, hu, ⟨v, hv, effect⟩, done⟩ := command_takes_effect (eff := fun v => v.kernelSwap c.p c.e) h fun v => by
      obtain ⟨_, swapped⟩ := v.kernelSwap_eq c.p c.e
      exact swapped ▸ State.answers_of_ports rfl rfl
    obtain ⟨_, swapped⟩ := v.kernelSwap_eq c.p c.e
    obtain ⟨set, other, reports⟩ := (effect.trans (swapped ▸ hv.setLantern ..)).set_lantern
    rw [hv.lantern, hv.dt] at set
    exact ⟨u, hu, by rw [set]; exact ⟨rfl, rfl, rfl, rfl, other, reports⟩, done⟩
  · intro t c s0 s n old
    refine ⟨fun h => ?_, fun h => ?_⟩
    · obtain ⟨u, hu, ⟨v, hv, effect⟩, done⟩ := command_takes_effect (eff := fun v => (lanternBindEffect c v).1) h fun v =>
        (lanternBindEffect_reports c v).answers.trans (State.answers_of_ports rfl rfl)
      have bound := effect.trans (lanternBindEffect_reports c v)
      have set : u.lantern n = _ := (bound.lantern n).trans (State.lantern_setLantern v n _)
      have same := hv.lantern n
      refine ⟨u, hu, ⟨?_, ?_, fun m hm => ?_, ?_⟩, done⟩
      · rw [set]
        exact ⟨rfl, rfl, rfl, rfl, rfl, rfl, rfl, rfl⟩
      · rw [set]
        exact ⟨(congrArg Lantern.bank0 same :), (congrArg Lantern.bank1 same :), (congrArg Lantern.bank same :),
          (congrArg Lantern.store same :), rfl⟩
      · exact (bound.lantern m).trans ((v.lantern_setLantern_other _ hm).trans (hv.lantern m))
      · exact (bound.trans (hv.map (fun t => { t with lanterns := _, sconces := _ }) fun _ _ _ _ _ _ => rfl)).but_bindings
    · obtain ⟨u, hu, ⟨v, hv, effect⟩, done⟩ := command_takes_effect (eff := fun v => v.released n) h fun v => by
        obtain ⟨_, _, _, _, _, reports, -⟩ := v.released_frees n
        exact reports.answers.trans (State.answers_of_ports rfl rfl)
      obtain ⟨a, b, ch, f, q, reports, free, kept, other⟩ := v.released_frees n
      rw [← effect.lantern n] at free kept
      rw [hv.lantern n] at kept
      exact ⟨u, hu, ⟨free, kept, fun m hm => (effect.lantern m).trans ((other m hm).trans (hv.lantern m)),
        ((effect.trans reports).trans (hv.map (fun t => { t with lanterns := a, sconces := b, channels := ch, flights := f, seqs := q })
          fun _ _ _ _ _ _ => rfl)).but_fabric⟩, done⟩

end Sys2Proof.Machine
end

section
/-!
What happens at a Lantern (08 R286, R287, R292, R293, R302, R311): its routines start, an overrun strikes, the holdoff ends, and gathers start
and end.
-/

namespace Sys2Proof.Machine

variable {t : Nat} {n : Fin 64} {s : State}

/-! ### The routines start (08 R286) -/

section
variable {f : Frame}

theorem execFrameEntry_enters (hf : (s.elapse t).nextFrame n = some f) (hh : ((s.elapse t).lantern n).hdr 0x10 ≠ 0xFFFF)
    (hl : 0 < (f.tapLines ((s.elapse t).lantern n).tap).1.length ∨ (f.tapLines ((s.elapse t).lantern n).tap).2 = true) :
    exec (.frameEntry t n) s = .next ((s.elapse t).enterFrame n f) := by
  change execFrameEntry t n s = _
  have shown : (!(f.tapLines ((s.elapse t).lantern n).tap).1.isEmpty || (f.tapLines ((s.elapse t).lantern n).tap).2) = true := by
    simpa [List.length_pos_iff] using hl
  simp [execFrameEntry, hf, hh, shown]

/-- The frame whose lines may start: the one in work and, without FRAME_ENTRY, else the next (08 R286). -/
def State.lineFrame (s : State) (n : Nat) : Option Frame :=
  if (s.lantern n).hdr 0x10 = 0xFFFF then (match s.workFrame n with | some g => some g | none => s.nextFrame n) else s.workFrame n

theorem State.lineFrame_eq (s : State) (n : Nat) :
    (if (s.lantern n).hdr 0x10 = 0xFFFF then firstSome [s.workFrame n, s.nextFrame n] else s.workFrame n) = s.lineFrame n := by
  have first : firstSome [s.workFrame n, s.nextFrame n] = (match s.workFrame n with | some g => some g | none => s.nextFrame n) := by
    cases s.workFrame n <;> cases s.nextFrame n <;> rfl
  rw [first, State.lineFrame]

theorem execLineEntry_enters (hr : ((s.elapse t).lantern n).routine = .idle) (hf : (s.elapse t).lineFrame n = some f)
    (hy : (f.returnedAt ((s.elapse t).lantern n).tap).length < (f.tapLines ((s.elapse t).lantern n).tap).1.length)
    (hb : (f.returnedAt ((s.elapse t).lantern n).tap).length + ((s.elapse t).lantern n).below <
      (f.tapLines ((s.elapse t).lantern n).tap).1.length ∨ (f.tapLines ((s.elapse t).lantern n).tap).2 = true) :
    exec (.lineEntry t n) s = .next ((s.elapse t).enterLine n f (f.returnedAt ((s.elapse t).lantern n).tap).length) := by
  change execLineEntry t n s = _
  simp [execLineEntry, State.lineFrame_eq, hr, hf, hy, hb]

theorem execFrameExit_enters (hh : ((s.elapse t).lantern n).hdr 0x12 ≠ 0xFFFF) (hr : ((s.elapse t).lantern n).routine = .idle)
    (hf : (s.elapse t).lineFrame n = some f) (hd : f.drained ((s.elapse t).lantern n).tap = true) :
    exec (.frameExit t n) s = .next ((s.elapse t).exitFrame n f) := by
  change execFrameExit t n s = _
  simp [execFrameExit, State.lineFrame_eq, hr, hf, hh, hd]

end

/-! ### Overruns and the holdoff (08 R302, R311; 16 R567) -/

theorem execLanternOverrun_live (hm : s.mode ≠ .replay) : exec (.lanternOverrun t n) s =
    .next (if ((s.elapse t).lantern n).slack <
      waitingLines ((s.elapse t).lantern n).below ((s.elapse t).lantern n).tap ((s.elapse t).framesOf n)
      then (s.elapse t).overrun n else s.elapse t) := by
  change execLanternOverrun t n s = _
  simp [execLanternOverrun, hm]

theorem execLanternOverrun_replayed (hm : s.mode = .replay) {r : JRec} (hr : (s.elapse t).replayStrike n = some r) :
    exec (.lanternOverrun t n) s =
      .next (({ s.elapse t with session := { (s.elapse t).session with kept := (s.elapse t).session.kept.erase r } }).overrun n) :=
  (if_pos (beq_iff_eq.2 hm)).trans (by rw [hr])

theorem execLanternOverrun_unreplayed (hm : s.mode = .replay) (hr : (s.elapse t).replayStrike n = none) :
    exec (.lanternOverrun t n) s = .next (s.elapse t) :=
  (if_pos (beq_iff_eq.2 hm)).trans (by rw [hr])

theorem lanternNs_eq (clocks : Nat) : lanternNs clocks = (clocks * 5 + 6) / 7 := rfl

theorem execLanternHoldoffExpiry_pending {e : Nat} (he : (((s.elapse t).settled n).lantern n).earliest = some e) :
    exec (.lanternHoldoffExpiry t n) s = .next (
      if e + ((((s.elapse t).settled n).lantern n).irqHoldoff * 5 + 6) / 7 ≤ ((s.elapse t).settled n).ns then
        ((s.elapse t).settled n).setLantern n { ((s.elapse t).settled n).lantern n with holdoffDone := true }
      else (s.elapse t).settled n) := by
  change execLanternHoldoffExpiry t n s = _
  simp [execLanternHoldoffExpiry, he, lanternNs_eq]

/-! ### A gather starts (08 R292) -/

theorem State.settled_lantern_other (s : State) {n m : Nat} (h : m ≠ n) : (s.settled n).lantern m = s.lantern m := by
  unfold State.settled
  split
  · rfl
  · exact State.lantern_setLantern_other _ _ h

/-- What a GO is refused for: a gather is outstanding, a list leaves the local store, the element size is undefined, or nothing is asked for. -/
def Lantern.RefusesGo (x : Lantern) : Prop :=
  x.gather.isSome = true ∨ 0x200000 < x.gIndex + 4 * x.gCount ∨ 0x200000 < x.gDest + 2 ^ x.gElem * x.gCount ∨ x.gElem = 7 ∨ x.gCount = 0

/-- The Lantern with the gather that GO starts. -/
def Lantern.gathers (x : Lantern) : Lantern :=
  { x with
    gRefused := false, gRange := false
    gather := some
      { segment := (match x.kernel with | some k => k.segment | none => []), src := x.gSrc, dest := x.gDest, elem := x.gElem
        indices := (List.range x.gCount).map (fun k => leVal (memRead x.store (x.gIndex + 4 * k) 4)) } }

theorem Lantern.gathers_store (x : Lantern) : x.gathers.store = x.store := by rw [Lantern.gathers]
theorem Lantern.counted_store (x : Lantern) (code k : Nat) : (x.counted code k).store = x.store := by rw [Lantern.counted]

theorem State.gatherGo_refused (h : (s.lantern n).RefusesGo) : s.gatherGo n = s.setLantern n { s.lantern n with gRefused := true } :=
  if_pos (by simpa [Lantern.RefusesGo, or_assoc] using h)

theorem State.gatherGo_starts (h : ¬(s.lantern n).RefusesGo) :
    s.gatherGo n = (s.setLantern n ((s.lantern n).gathers.counted 4 1)).auxAdd (.gather n) := by
  refine (if_neg (by simpa [Lantern.RefusesGo, or_assoc] using h)).trans ?_
  rw [State.lanternCount_eq, State.lantern_setLantern, setLantern_set]
  rfl

theorem execGo_writes (h : (((s.elapse t).settled n).lantern n).routine ≠ .idle) (v : Word) : exec (.go t n v) s =
    .next (if nbit v.toNat 0 then ((s.elapse t).settled n).gatherGo n else (s.elapse t).settled n) :=
  congrArg _ (if_pos (bne_iff_ne.2 h))

/-! ### A gather ends (08 R293) -/

theorem nbit_eq_testBit (v k : Nat) : nbit v k = v.testBit k := by
  rw [Nat.testBit_eq_decide_div_mod_eq, nbit, nbits, Nat.shiftRight_eq_div_pow, pow_one]
  rfl

theorem Lantern.event_irqPending (x : Lantern) {src : Nat} (now : Nat) (h : src < 52) :
    (x.event src now).irqPending = (x.irqPending ||| 2 ^ src) := by
  have small : (2 ^ src) % 2 ^ 52 = 2 ^ src := Nat.mod_eq_of_lt (Nat.pow_lt_pow_right (by decide) h)
  unfold Lantern.event
  rw [if_neg (Nat.not_le.2 h)]
  dsimp only
  split <;> exact congrArg (x.irqPending ||| ·) small

/-- A source pends once an event has reached it. -/
theorem Lantern.event_pends (x : Lantern) {src : Nat} (now : Nat) (h : src < 52) : nbit (x.event src now).irqPending src = true := by
  simp [x.event_irqPending now h, nbit_eq_testBit]

/-- An event at one source leaves the others pending. -/
theorem Lantern.event_leaves_pending {x : Lantern} {src k : Nat} (now : Nat) (h : src < 52) (hk : nbit x.irqPending k = true) :
    nbit (x.event src now).irqPending k = true := by
  rw [nbit_eq_testBit] at hk ⊢
  simp [x.event_irqPending now h, hk]

theorem State.pend_lantern (s : State) (n src : Nat) : (s.pend n src).lantern n = (s.lantern n).event src s.ns := State.lantern_setLantern ..

/-- The Lantern to whose local store the gather g has written its bytes. -/
def Lantern.gathered (x : Lantern) (g : GatherJob) : Lantern :=
  { x with gather := none, gRange := (gatherBytes g).2, store := memWrite x.store g.dest (gatherBytes g).1 }

theorem State.gatherDone_eq {g : GatherJob} (hg : (s.lantern n).gather = some g) : s.gatherDone n =
    (if (gatherBytes g).2 then
        (((s.setLantern n ((s.lantern n).gathered g)).pend n 48).pend n 49).lanternLimited n 0x05 2 0x0305 0
      else (s.setLantern n ((s.lantern n).gathered g)).pend n 48, (gatherBytes g).1) := by
  simp only [State.gatherDone, hg]
  rfl

/-- The end of a gather leaves what neither the interrupt controller nor the counters hold. -/
theorem State.gatherDone_keeps {g : GatherJob} (hg : (s.lantern n).gather = some g) {α : Type} (f : Lantern → α)
    (he : ∀ x c p t e d, f { x with irqCount := c, irqPending := p, pendedAt := t, earliest := e, holdoffDone := d } = f x)
    (hl : ∀ x c r t, f { x with counters := c, reports := r, firstStruck := t } = f x) :
    f ((s.gatherDone n).1.lantern n) = f ((s.lantern n).gathered g) := by
  rw [State.gatherDone_eq hg]
  split
  · rw [State.lanternLimited_keeps f hl, State.pend_lantern, Lantern.event_keeps f he, State.pend_lantern, Lantern.event_keeps f he,
      State.lantern_setLantern]
  · rw [State.pend_lantern, Lantern.event_keeps f he, State.lantern_setLantern]

/-- Source 48 pends, and source 49 where an element lay beyond the segment. -/
theorem State.gatherDone_pends {g : GatherJob} (hg : (s.lantern n).gather = some g) :
    nbit ((s.gatherDone n).1.lantern n).irqPending 48 = true ∧
      ((gatherBytes g).2 = true → nbit ((s.gatherDone n).1.lantern n).irqPending 49 = true) := by
  rw [State.gatherDone_eq hg]
  split
  next =>
    rw [State.lanternLimited_keeps Lantern.irqPending (fun _ _ _ _ => rfl), State.pend_lantern, State.pend_lantern]
    exact ⟨Lantern.event_leaves_pending _ (by decide) (Lantern.event_pends _ _ (by decide)), fun _ => Lantern.event_pends _ _ (by decide)⟩
  next range =>
    rw [State.pend_lantern]
    exact ⟨Lantern.event_pends _ _ (by decide), fun h => absurd h range⟩

theorem execGatherDone_ends {k : Nat} (hk : (List.range 8).find? (fun k => ((s.elapse t).auxMover k).runs &&
      ((s.elapse t).auxMover k).queue.head? == some (AuxJob.gather n)) = some k) :
    exec (.gatherDone t n) s = .next (((s.elapse t).gatherDone n).1.auxEnd k ((s.elapse t).gatherDone n).2) := by
  change execGatherDone t n s = _
  simp only [execGatherDone, hk]

/-! ### The rows -/

/-- Settles O22: each routine enters its Lantern anew, an overrun, an expiry and a GO are one operation under their row's condition, and the end
of a gather is told to the interrupt controller alone. -/
theorem lanternRoutines : Obligations.LanternRoutines := by
  refine ⟨?_, ?_, ?_, ?_⟩
  · intro t n s f s1 x work lines closed left entered
    exact ⟨fun hf hh hl => ⟨_, execFrameEntry_enters hf hh hl, rfl, rfl, rfl, rfl, rfl, rfl, rfl, rfl, rfl, rfl, rfl, rfl, rfl⟩,
      fun hr hf hy hb => ⟨_, execLineEntry_enters hr hf hy hb, ⟨rfl, rfl, rfl, rfl, rfl, rfl, rfl, rfl, rfl, rfl, rfl, rfl, rfl⟩, rfl⟩,
      fun hh hr hf hd => ⟨_, execFrameExit_enters hh hr hf hd, rfl, rfl, rfl, rfl, rfl, rfl, rfl, rfl, rfl, rfl, rfl, rfl, rfl⟩⟩
  · intro t n s s1 x s2 z
    exact ⟨fun hm h => (execLanternOverrun_live hm).trans (congrArg _ (if_pos h)),
      fun hm h => (execLanternOverrun_live hm).trans (congrArg _ (if_neg (Nat.not_lt.2 h))),
      fun r hm hr => execLanternOverrun_replayed hm hr, execLanternOverrun_unreplayed,
      fun e he h => (execLanternHoldoffExpiry_pending he).trans (congrArg _ (if_pos h)),
      fun e he h => (execLanternHoldoffExpiry_pending he).trans (congrArg _ (if_neg (Nat.not_le.2 h)))⟩
  · intro t n v s s1 x bad hr
    refine ⟨fun hv hb => ?_, fun hv hb => ?_, fun hv => ?_⟩
    · exact (execGo_writes hr v).trans (congrArg _ ((if_pos hv).trans (State.gatherGo_refused hb)))
    · have started := State.gatherGo_starts hb
      have ends := State.auxAdd_ends (s1.setLantern n (x.gathers.counted 4 1)) (.gather n)
      have set := (ends.lantern n).trans (State.lantern_setLantern ..)
      refine ⟨_, (execGo_writes hr v).trans (congrArg _ ((if_pos hv).trans started)), ?_, ?_, ?_, fun m hm => ?_, ?_⟩
      · exact ⟨_, congrArg Lantern.gather set, rfl, rfl, rfl, rfl⟩
      · exact congrArg Lantern.gRefused set
      · rw [set, Lantern.counted_store, Lantern.gathers_store]
      · exact (ends.lantern m).trans ((State.lantern_setLantern_other _ _ hm).trans (State.settled_lantern_other _ hm))
      · rw [ends.lanterns]
        exact State.auxAdd_eq ..
    · exact (execGo_writes hr v).trans (congrArg _ (if_neg (by simp [hv])))
  · intro t n s k g s1 hk hg
    have hg1 : (s1.lantern n).gather = some g := hg
    have told := (State.auxEnd_ends (s1.gatherDone n).1 k (s1.gatherDone n).2).lantern n
    have pends := State.gatherDone_pends hg1
    rw [← told] at pends
    refine ⟨_, execGatherDone_ends hk, ?_, ?_, ?_, pends⟩
    · exact (congrArg Lantern.gather told).trans (State.gatherDone_keeps hg1 Lantern.gather (fun _ _ _ _ _ _ => rfl) fun _ _ _ _ => rfl)
    · exact (congrArg Lantern.gRange told).trans (State.gatherDone_keeps hg1 Lantern.gRange (fun _ _ _ _ _ _ => rfl) fun _ _ _ _ => rfl)
    · exact (congrArg Lantern.store told).trans (State.gatherDone_keeps hg1 Lantern.store (fun _ _ _ _ _ _ => rfl) fun _ _ _ _ => rfl)

end Sys2Proof.Machine
end

section
/-!
The handlers of a Lantern are entered (08 R309, R311, R313; 09 R345 to R347, R352).
-/

namespace Sys2Proof.Machine

variable {s u : State} {n : Nat} {fast : Bool}

/-! ### What an entry saves (09 R346, R347) -/

/-- The special register that keeps PC while a handler of the class runs. -/
def epcOf (fast : Bool) : Nat := if fast then 0xA else 9

/-- The handler's slot of a class. -/
def Lantern.slotOf (x : Lantern) (fast : Bool) : Option SaveSlot := if fast then x.fast else x.normal

/-- The Lantern y is x as a handler of the class enters it, with the source that its first CLAIM is given. -/
structure Lantern.Entered (y x : Lantern) (fast : Bool) (given : Option Nat) : Prop where
  pc : y.pc = (x.vector fast).getD 0
  epc : y.spr (epcOf fast) = x.pc % 2 ^ 32
  progress : y.spr 4 = 0
  registers : y.s = x.s
  taken : tabGet 0 y.counters 7 = satAdd 32 (tabGet 0 x.counters 7) 1
  slot : y.slotOf fast = some { x.save with given := given }

theorem Lantern.enterHandler_enters (x : Lantern) (fast : Bool) (given : Option Nat) :
    ((x.enterHandler fast given).counted 7 1).Entered x fast given := by
  have kept (sr : Tab Nat) (k v : Nat) (h : k ≠ 4) : tabGet 0 (tabPut (tabPut sr k v) 4 (0 % 2 ^ 32)) k = v :=
    (tabGet_put_other 0 _ _ h).trans (tabGet_put_same ..)
  cases fast with
  | false =>
    simp only [Lantern.enterHandler, Lantern.giveSource, Lantern.enterNormal, Lantern.counted, Lantern.setSpr, Bool.false_eq_true, if_false]
    exact ⟨rfl, kept _ 9 _ (by decide), tabGet_put_same .., rfl, tabGet_put_same .., rfl⟩
  | true =>
    simp only [Lantern.enterHandler, Lantern.giveSource, Lantern.enterFast, Lantern.counted, Lantern.setSpr, if_true]
    exact ⟨rfl, kept _ 0xA _ (by decide), tabGet_put_same .., rfl, tabGet_put_same .., rfl⟩

/-- An entry counts and is journaled (08 R313, R314). -/
theorem State.handlerEnters_reports (s : State) (n src : Nat) (y : Lantern) :
    (s.handlerEnters n src y).Reports (s.setLantern n (y.counted 7 1)) := by
  have counted : (s.setLantern n y).lanternCount n 7 1 = s.setLantern n (y.counted 7 1) := by
    rw [State.lanternCount_eq, State.lantern_setLantern, setLantern_set]
  rw [← counted]
  exact State.journal_reports ..

/-! ### When a handler is entered (09 R345, R352) -/

theorem State.settled_mode (s : State) (n : Nat) : (s.settled n).mode = s.mode := by
  unfold State.settled
  split <;> rfl

/-- Outside Replay, when the class can be delivered. -/
theorem State.handlerEntry_live (hk : s.mode ≠ .keep) (hd : s.mode ≠ .dark) (hr : s.mode ≠ .replay)
    (ready : (if fast then (s.lantern n).fastReady else (s.lantern n).normalReady) = true) :
    s.handlerEntry n fast =
      s.handlerEnters n (((s.lantern n).deliverable fast).headD 0) ((s.lantern n).enterHandler fast none) := by
  simp [State.handlerEntry, hk, hd, hr, ready]

/-- The state once a Replay has used a journaled record (09 R352). -/
def State.useRecord (s : State) (r : JRec) : State :=
  { s with session := { s.session with kept := s.session.kept.erase r, recs := s.session.recs.erase r } }

/-- In Replay, at a journaled point that finds the Lantern free for the handler, with the journaled source. -/
theorem State.handlerEntry_replay (hm : s.mode = .replay) {r : JRec} (hr : s.replayIrq n fast = some r)
    (hi : (s.lantern n).routine ≠ .idle) (hf : (s.lantern n).fast.isNone = true) (hn : fast = true ∨ (s.lantern n).normal.isNone = true)
    (hv : ((s.lantern n).vector fast).isSome = true) :
    s.handlerEntry n fast =
      (s.useRecord r).handlerEnters n (lbits r.body 0 1 0 6) ((s.lantern n).enterHandler fast (some (lbits r.body 0 1 0 6))) := by
  have free : ((s.lantern n).routine != .idle && (s.lantern n).fast.isNone && (fast || (s.lantern n).normal.isNone) &&
      ((s.lantern n).vector fast).isSome) = true := by
    simp only [hf, hv, bne_iff_ne, Bool.and_eq_true, Bool.or_eq_true]
    exact ⟨⟨⟨hi, trivial⟩, hn⟩, trivial⟩
  have runs : (s.mode == .keep || s.mode == .dark) = false := by rw [hm]; rfl
  have replays : (s.mode == .replay) = true := beq_iff_eq.2 hm
  simp only [State.handlerEntry, runs, replays, hr, free, if_true]
  rfl

/-- What differs from s by its Lanterns and its Replay session differs from it by its own. -/
theorem State.Reports.but_session {a : Tab Lantern} {b : Session} (h : u.Reports { s with lanterns := a, session := b }) :
    u.Reports { s with lanterns := u.lanterns, session := u.session } := by
  obtain ⟨⟨_, _, _, _, _, rfl⟩, kept⟩ := h
  exact ⟨⟨_, _, _, _, _, rfl⟩, kept⟩

/-- Settles O24: an entry, outside Replay and in it, sets its Lantern to the one that has entered the handler. -/
theorem lanternHandlers : Obligations.LanternHandlers := by
  intro t n s s1 x saved hk hd
  have mode : s1.mode = s.mode := State.settled_mode ..
  rw [← mode] at hk hd ⊢
  have enters (v : State) (fast : Bool) (src : Nat) (given : Option Nat) :
      ∃ u, v.handlerEnters n src (x.enterHandler fast given) = u ∧ (u.lantern n).Entered x fast given ∧
        u.Reports { v with lanterns := u.lanterns } := by
    obtain ⟨set, -, reports⟩ := (v.handlerEnters_reports n src (x.enterHandler fast given)).set_lantern
    exact ⟨_, rfl, set ▸ x.enterHandler_enters fast given, reports⟩
  refine ⟨fun ready hr => ?_, fun r hm hr hi hf hn hv => ?_, fun ready hr => ?_, fun r hm hr hi hf hv => ?_⟩
  · obtain ⟨u, hu, ⟨pc, epc, progress, registers, taken, slot⟩, reports⟩ := enters s1 false ((x.deliverable false).headD 0) none
    exact ⟨u, congrArg Host.Outcome.next ((State.handlerEntry_live (fast := false) hk hd hr ready).trans hu),
      ⟨pc, epc, progress, registers, taken⟩, slot, reports⟩
  · obtain ⟨u, hu, ⟨pc, epc, progress, registers, taken, slot⟩, reports⟩ := enters (s1.useRecord r) false (lbits r.body 0 1 0 6) _
    exact ⟨u, congrArg Host.Outcome.next ((State.handlerEntry_replay (fast := false) hm hr hi hf (.inr hn) hv).trans hu),
      ⟨pc, epc, progress, registers, taken⟩, slot, reports.but_session⟩
  · obtain ⟨u, hu, ⟨pc, epc, progress, registers, taken, slot⟩, reports⟩ := enters s1 true ((x.deliverable true).headD 0) none
    exact ⟨u, congrArg Host.Outcome.next ((State.handlerEntry_live (fast := true) hk hd hr ready).trans hu),
      ⟨pc, epc, progress, registers, taken⟩, slot, reports⟩
  · obtain ⟨u, hu, ⟨pc, epc, progress, registers, taken, slot⟩, reports⟩ := enters (s1.useRecord r) true (lbits r.body 0 1 0 6) _
    exact ⟨u, congrArg Host.Outcome.next ((State.handlerEntry_replay (fast := true) hm hr hi hf (.inl rfl) hv).trans hu),
      ⟨pc, epc, progress, registers, taken⟩, slot, reports.but_session⟩

end Sys2Proof.Machine
end

section
/-!
The interrupt controller of a Lantern, the edges of GIO lines, and the arrivals of events (08 R308 to R312; 09 R352; 12 R425, R442;
13 R453 to R455, R471).
-/

namespace Sys2Proof.Machine

variable {s u : State} {n : Nat} {x : Lantern} {fast : Bool}

/-! ### The controller's write registers (08 R308) -/

/-- What a running kernel does at its Lantern's registers is done. -/
theorem Lantern.runs_of_routine (h : x.routine ≠ .idle) : x.runs = true := bne_iff_ne.2 h

theorem State.irqWrite_pendingSet (s : State) (n v : Nat) (high : Bool) : s.irqWrite n (if high then 0x0C else 0x08) v =
    s.setLantern n ((s.lantern n).setPending (toHalf v high) s.ns) := by
  cases high <;> simp [State.irqWrite]

theorem State.irqWrite_pendingClr (s : State) (n v : Nat) (high : Bool) : s.irqWrite n (if high then 0x14 else 0x10) v =
    s.setLantern n ((s.lantern n).clearPending (toHalf v high) s.ns) := by
  cases high <;> simp [State.irqWrite]

theorem State.irqWrite_maskSet (s : State) (n v : Nat) (high : Bool) : s.irqWrite n (if high then 0x1C else 0x18) v =
    s.setLantern n ((s.lantern n).setMask (toHalf v high) true) := by
  cases high <;> simp [State.irqWrite]

theorem State.irqWrite_maskClr (s : State) (n v : Nat) (high : Bool) : s.irqWrite n (if high then 0x24 else 0x20) v =
    s.setLantern n ((s.lantern n).setMask (toHalf v high) false) := by
  cases high <;> simp [State.irqWrite]

theorem State.irqWrite_complete (s : State) (n v : Nat) :
    s.irqWrite n 0x40 v = s.setLantern n ((s.lantern n).completeSource (v % 256)) := by
  simp [State.irqWrite]

theorem State.irqWrite_doorbell (s : State) (n v : Nat) : s.irqWrite n 0x44 v = s.doorbell n (v % 256) := by
  simp [State.irqWrite]

theorem Lantern.completeSource_of_lt {k : Nat} (h : k < 64) :
    x.completeSource k = { x with irqActive := x.irqActive &&& (2 ^ k ^^^ (2 ^ 64 - 1)) } := if_pos h

theorem Lantern.completeSource_of_ge {k : Nat} (h : 64 ≤ k) : x.completeSource k = x := if_neg (by omega)

theorem State.doorbell_of_lt {v : Nat} (h : v < 32) : s.doorbell n v = s.setLantern n ((s.lantern n).event v s.ns) := if_pos h

theorem State.doorbell_of_ge {v : Nat} (h : 32 ≤ v) : s.doorbell n v = s.lanternLimited n 0x06 2 0x0306 (v % 256) := if_neg (by omega)

/-! ### Its claims and its counters (08 R309, R310; 09 R352) -/

/-- The source that the handler of a class has been given. -/
def Lantern.givenTo (x : Lantern) (fast : Bool) : Option Nat := (if fast then x.fast else x.normal).bind (·.given)

theorem Lantern.claim_given {k : Nat} (h : x.givenTo fast = some k) (now : Nat) :
    (x.claim fast now).1 = (x.giveSource fast none).take k now := by
  unfold Lantern.givenTo at h
  rw [Lantern.claim, h]

theorem Lantern.claim_none (h : x.givenTo fast = none) (empty : x.deliverable fast = []) (now : Nat) : (x.claim fast now).1 = x := by
  unfold Lantern.givenTo at h
  rw [Lantern.claim, h, empty]

theorem Lantern.claim_lowest {k : Nat} {l : List Nat} (h : x.givenTo fast = none) (some_ : x.deliverable fast = k :: l) (now : Nat) :
    (x.claim fast now).1 = x.take k now := by
  unfold Lantern.givenTo at h
  rw [Lantern.claim, h, some_]

theorem Lantern.irqRead_claimNormal (x : Lantern) (now : Nat) : x.irqRead 0x38 now = x.claim false now := by simp [Lantern.irqRead]

theorem Lantern.irqRead_claimFast (x : Lantern) (now : Nat) : x.irqRead 0x3C now = x.claim true now := by simp [Lantern.irqRead]

theorem Lantern.irqRead_count (x : Lantern) (now : Nat) {g : Nat} (h : g < 16) :
    (x.irqRead (0x80 + 4 * g) now).1 = { x with irqCount := x.irqCount.filter (fun p => p.1 / 4 != g) } := by
  have word : (0x80 + 4 * g - 0x80) / 4 = g := by omega
  have inside : (decide (0x80 ≤ 0x80 + 4 * g) && decide (0x80 + 4 * g < 0xC0)) = true := by simp; omega
  have past (k : Nat) (hk : k < 0x80) : ¬ 0x80 + 4 * g < k ∧ 0x80 + 4 * g ≠ k := by omega
  simp only [Lantern.irqRead]
  rw [if_neg (past 0x18 (by decide)).1, if_neg (past 0x28 (by decide)).1, if_neg (past 0x30 (by decide)).1,
    if_neg (past 0x38 (by decide)).1, if_neg (past 0x38 (by decide)).2, if_neg (past 0x3C (by decide)).2,
    if_neg (past 0x48 (by decide)).2, if_pos inside, word]

/-! ### The rows of a running kernel's accesses (08 R308, R309) -/

section
variable {t : Nat} {n : Fin 64} {r : State} (now : (s.elapse t).settled n = r) (running : (r.lantern n).routine ≠ .idle)
include running

theorem irqWrite_running (off v : Nat) : (if (r.lantern n).runs then r.irqWrite n off v else r) = r.irqWrite n off v :=
  if_pos (Lantern.runs_of_routine running)

theorem irqRead_running (off : Nat) {y : Lantern} (h : ((r.lantern n).irqRead off r.ns).1 = y) :
    (if (r.lantern n).runs then r.setLantern n ((r.lantern n).irqRead off r.ns).1 else r) = r.setLantern n y :=
  h ▸ if_pos (Lantern.runs_of_routine running)

include now

theorem execClaimNormal_running {y : Lantern} (h : ((r.lantern n).claim false r.ns).1 = y) :
    exec (.claimNormal t n) s = .next (r.setLantern n y) := by
  subst now
  exact congrArg Host.Outcome.next (irqRead_running running 0x38 (by rw [Lantern.irqRead_claimNormal, h]))

theorem execClaimFast_running {y : Lantern} (h : ((r.lantern n).claim true r.ns).1 = y) :
    exec (.claimFast t n) s = .next (r.setLantern n y) := by
  subst now
  exact congrArg Host.Outcome.next (irqRead_running running 0x3C (by rw [Lantern.irqRead_claimFast, h]))

theorem execComplete_running (v : Word) :
    exec (.complete t n v) s = .next (r.setLantern n ((r.lantern n).completeSource (v.toNat % 256))) := by
  subst now
  exact congrArg Host.Outcome.next ((irqWrite_running running ..).trans (State.irqWrite_complete ..))

theorem execDoorbell_running (v : Word) : exec (.doorbell t n v) s = .next (r.doorbell n (v.toNat % 256)) := by
  subst now
  exact congrArg Host.Outcome.next ((irqWrite_running running ..).trans (State.irqWrite_doorbell ..))

end

/-! ### What an edge leaves of the GIO lines (12 R425, 13 R451) -/

theorem State.Reports.gio (h : u.Reports s) : u.gio = s.gio := by obtain ⟨⟨_, _, _, _, _, rfl⟩, -⟩ := h; rfl

theorem State.foldl_gio {α : Type} {f : State → α → State} (h : ∀ t x, (f t x).gio = t.gio) (l : List α) (s : State) :
    (l.foldl f s).gio = s.gio := by
  induction l generalizing s with
  | nil => rfl
  | cons a l ih => exact (ih (f s a)).trans (h s a)

theorem State.emitOn_gio (s : State) (n stamp p : Nat) : (s.emitOn n stamp p).gio = s.gio := by
  have records (u : State) : (u.gatedRecords n stamp).gio = u.gio := foldl_gio (fun _ _ => (State.journal_reports ..).gio) _ _
  simp only [State.emitOn, apply_ite State.gio, records, State.setChannel_gio, ite_self]

theorem State.emit_gio (s : State) (kind index : Nat) (arg : Nat → Bool) (stamp p : Nat) : (s.emit kind index arg stamp p).gio = s.gio := by
  unfold State.emit
  split
  · rfl
  · exact foldl_gio (fun _ _ => State.emitOn_gio ..) _ _

theorem State.offer_gio (s : State) (q : Nat) (h : Hap) : (s.offer q h).gio = s.gio := by
  have frees : (s.freeSlot h).gio = s.gio := by unfold State.freeSlot; split <;> rfl
  simp only [State.offer, apply_ite State.gio, State.setSeq_gio, frees, ite_self]

theorem State.pinsSee_gio (s : State) (g : Nat) (level : Bool) : (s.pinsSee g level).gio = s.gio :=
  foldl_gio (fun t n => t.setLantern_gio n _) _ _

/-! ### GIO edges (12 R425, R442) -/

/-- The line's filter has not passed yet at instant i. -/
def Gio.early (x : Gio) (i : Nat) : Bool := match x.moved with | some j => i < j + 320 * x.filter | none => false

theorem Gio.early_of_moved {y : Gio} {i j : Nat} (h : y.moved = some j) (hi : i < j + 320 * y.filter) : y.early i = true := by
  simp [Gio.early, h, hi]

theorem Gio.not_early {y : Gio} {i : Nat} (h : ∀ j, y.moved = some j → j + 320 * y.filter ≤ i) : y.early i = false := by
  unfold Gio.early
  split
  · next j hj => simpa using h j hj
  · rfl

section
variable {t : Nat} {g : Fin 48} {level : Bool} {sub : Fin 512}

/-- The instant of an edge, on the grid of 250 ps. -/
def State.gioEdgeAt (s : State) (sub : Fin 512) : Nat := (s.dt256 + sub.val) / 64 * 64

/-- An edge has no effect: it repeats the level, comes in Keep, or comes too soon after the last. -/
def State.ignoresEdge (s : State) (g i : Nat) (level : Bool) : Bool :=
  (s.gioLine g).seen == level || s.mode == .keep || (s.gioLine g).early i

theorem State.ignoresEdge_iff {g i : Nat} : s.ignoresEdge g i level = true ↔
    (s.gioLine g).seen = level ∨ s.mode = .keep ∨ (s.gioLine g).early i = true := by
  simp [State.ignoresEdge, or_assoc]

/-- The line has taken the level of an edge. -/
def State.edged (s : State) (g i : Nat) (level : Bool) : State := s.setGio g { s.gioLine g with seen := level, moved := some i }

theorem execGioEdge_ignored (h : s.ignoresEdge g ((s.elapse t).gioEdgeAt sub) level = true) :
    exec (.gioEdge t g level sub) s = .next (s.elapse t) := if_pos h

theorem execGioEdge_dark (h : s.ignoresEdge g ((s.elapse t).gioEdgeAt sub) level = false) (hd : s.mode = .dark) :
    exec (.gioEdge t g level sub) s = .next ((s.elapse t).edged g ((s.elapse t).gioEdgeAt sub) level) :=
  (if_neg (Bool.eq_false_iff.1 h)).trans (if_pos (beq_iff_eq.2 hd))

theorem execGioEdge_moves (h : s.ignoresEdge g ((s.elapse t).gioEdgeAt sub) level = false) :
    ∃ u, exec (.gioEdge t g level sub) s = .next u ∧ u.gio = ((s.elapse t).edged g ((s.elapse t).gioEdgeAt sub) level).gio := by
  by_cases hd : s.mode = .dark
  · exact ⟨_, execGioEdge_dark h hd, rfl⟩
  · refine ⟨_, (if_neg (Bool.eq_false_iff.1 h)).trans (if_neg (mt beq_iff_eq.1 hd)), ?_⟩
    exact (State.pinsSee_gio ..).trans ((State.emit_gio ..).trans ((State.foldl_gio (fun _ _ => State.offer_gio ..) _ _).trans
      (State.journal_reports ..).gio))
end

/-! ### Arrivals (13 R453, R454) -/

section
variable {t : Nat} {ch : Fin 256} {slot : Fin 8} {f : Flight}

/-- An event on its way to the same consumer comes before this one. -/
def State.comesAfter (s : State) (f : Flight) : Bool :=
  s.flights.any (fun g => g.kind = f.kind && g.index = f.index && (g.arrive < f.arrive || (g.arrive = f.arrive && g.ch < f.ch)))

/-- The first event on its way to a slot. -/
def State.flightTo (s : State) (ch : Fin 256) (slot : Fin 8) : Option Flight :=
  s.flights.find? (fun f => f.ch = ch.val && f.slot % 8 = slot.val)

theorem execEventArrival_some (h : (s.elapse t).flightTo ch slot = some f) : exec (.eventArrival t ch slot) s =
    if (s.elapse t).reached f.arrive && !s.comesAfter f && s.mode != .dark && s.mode != .keep then
      .next (({ s.elapse t with flights := s.flights.erase f }).arrive f)
    else .next (s.elapse t) := by
  unfold State.flightTo at h
  change execEventArrival t ch slot s = _
  rw [execEventArrival, h]
  rfl

/-- An event for a Lantern pends its source, and is journaled. -/
theorem State.arrive_lantern (s : State) (h : f.kind = 2) :
    (s.arrive f).Reports (s.setLantern f.index ((s.lantern f.index).event f.arg s.ns)) := by
  have arrives : s.arrive f = (s.pend f.index f.arg).journalFabric f.ch f.slot f.kind f.stamp 0 := by
    unfold State.arrive
    simp only [h]
  rw [arrives]
  exact State.journal_reports ..

/-! ### Consumers that become free (13 R455, R470) -/

theorem firstSome_singleton {α : Type} (a : Option α) : firstSome [a] = a := by cases a <;> rfl

theorem execConsumerFree_present (hd : s.mode ≠ .dark) (hk : s.mode ≠ .keep) (past : ((s.elapse t).channel ch).past = []) :
    exec (.consumerFree t ch slot) s = .next (((s.elapse t).consumerFree ch slot).getD (s.elapse t)) := by
  change execConsumerFree t ch slot s = _
  have live : ((s.elapse t).mode == .dark || (s.elapse t).mode == .keep) = false := by simp [hd, hk]
  simp only [execConsumerFree, live, past, List.map_nil, List.filter_nil, List.nil_append, List.map_cons, firstSome_singleton,
    Bool.false_eq_true, if_false]

theorem State.consumerFree_mover {n k : Nat} {y : Slot} (hy : (s.channel n).slot k = y) (kind : y.kind = 4) (busy : y.busy.isSome = true)
    (used : s.stepUsed y.index y.arg = true) (pending : y.pending = none) :
    s.consumerFree n k = some (s.setSlot n k { y with busy := none, pending := none }) := by
  simp only [State.consumerFree, hy, kind, busy, used, pending, Bool.and_self, if_true]

theorem State.consumerFree_halted {n k : Nat} {y : Slot} {q : FabEvent} (hy : (s.channel n).slot k = y) (kind : y.kind = 3)
    (busy : y.busy = none) (pending : y.pending = some q) (halted : (s.seqr y.index).running = false) :
    s.consumerFree n k = some ((s.setSlot n k { y with busy := none, pending := none }).journalFabric n k 3 q.stamp 0) := by
  simp only [State.consumerFree, hy, kind, busy, pending, halted, Bool.false_eq_true, if_false]

/-- A Lantern's source and a group's switch are never busy. -/
theorem State.consumerFree_instant {n k : Nat} (kind : ((s.channel n).slot k).kind = 2 ∨ ((s.channel n).slot k).kind = 5) :
    s.consumerFree n k = none := by
  obtain kind | kind := kind <;> simp only [State.consumerFree, kind]
end

/-- Settles O23: each register of the controller by what its write or read does, each row of an edge and of an event by its guard.
That PENDING_SET raises no COUNT and that a pin source in MODE 3 pends again is the model's reading (entry 37). -/
theorem interruptsAndEvents : Obligations.InterruptsAndEvents := by
  refine ⟨?_, ?_, ?_, ?_, ?_⟩
  · intro t n w s s1 x m pending running
    have write (off : Nat) : _ = s1.irqWrite n off w.v.toNat := irqWrite_running running off w.v.toNat
    exact ⟨⟨_, congrArg Host.Outcome.next ((write _).trans (s1.irqWrite_pendingSet ..)), rfl, rfl⟩,
      ⟨_, congrArg Host.Outcome.next ((write _).trans (s1.irqWrite_pendingClr ..)), rfl, rfl⟩,
      congrArg Host.Outcome.next ((write _).trans (s1.irqWrite_maskSet ..)),
      congrArg Host.Outcome.next ((write _).trans (s1.irqWrite_maskClr ..))⟩
  · intro t n s s1 x given running
    refine ⟨fun h empty => execClaimNormal_running rfl running (Lantern.claim_none h empty _),
      fun k l h lowest => execClaimNormal_running rfl running (Lantern.claim_lowest h lowest _),
      fun k h => execClaimNormal_running rfl running (Lantern.claim_given h _),
      fun h empty => execClaimFast_running rfl running (Lantern.claim_none h empty _),
      fun k l h lowest => execClaimFast_running rfl running (Lantern.claim_lowest h lowest _),
      fun k h => execClaimFast_running rfl running (Lantern.claim_given h _),
      fun y k => ⟨rfl, rfl⟩, fun v h => ?_, fun v h => ?_, fun v h => ?_, fun v h => ?_, fun g => ?_⟩
    · rw [execComplete_running rfl running, Lantern.completeSource_of_lt h]
    · rw [execComplete_running rfl running, Lantern.completeSource_of_ge h]
    · rw [execDoorbell_running rfl running, State.doorbell_of_lt h]
    · rw [execDoorbell_running rfl running, State.doorbell_of_ge h, Nat.mod_mod]
    · exact congrArg Host.Outcome.next (irqRead_running running _ (x.irqRead_count _ g.isLt))
  · intro t g level sub s s1 x i y
    have ignored (h : x.seen = level ∨ s.mode = .keep ∨ x.early i = true) : exec (.gioEdge t g level sub) s = .next s1 :=
      execGioEdge_ignored (State.ignoresEdge_iff.2 h)
    have effective (seen : x.seen ≠ level) (filtered : ∀ j, x.moved = some j → j + 320 * x.filter ≤ i) (hk : s.mode ≠ .keep) :
        s.ignoresEdge g i level = false :=
      Bool.eq_false_iff.2 fun h => (State.ignoresEdge_iff.1 h).elim seen fun h => h.elim hk (Bool.eq_false_iff.1 (Gio.not_early filtered))
    refine ⟨fun h => ignored (h.imp_right .inl), fun j moved h => ignored (.inr (.inr (Gio.early_of_moved moved h))),
      fun seen filtered hd => execGioEdge_dark (effective seen filtered (by simp [hd])) hd, fun seen filtered hk => ?_⟩
    obtain ⟨u, hu, gio⟩ := execGioEdge_moves (effective seen filtered hk)
    have line (k : Nat) : u.gioLine k = (s1.setGio g y).gioLine k := congrArg (tabGet Gio.reset · k) gio
    exact ⟨u, hu, (line g).trans (State.gioLine_setGio ..), fun k hk => (line k).trans (State.gioLine_setGio_other _ _ _ _ hk)⟩
  · intro t ch slot s f s1 found ahead
    have row : exec (.eventArrival t ch slot) s = _ := execEventArrival_some found
    have arrives (due : s1.reached f.arrive = true) (first : ahead = false) (hd : s.mode ≠ .dark) (hk : s.mode ≠ .keep) :
        exec (.eventArrival t ch slot) s = .next (({ s1 with flights := s.flights.erase f }).arrive f) := by
      have first : s.comesAfter f = false := first
      exact row.trans (if_pos (by simp [due, first, hd, hk, s1]))
    have waits (h : s1.reached f.arrive = false ∨ s.comesAfter f = true ∨ s.mode = .dark ∨ s.mode = .keep) :
        exec (.eventArrival t ch slot) s = .next s1 :=
      row.trans (if_neg (by obtain h | h | h | h := h <;> simp [h, s1]))
    refine ⟨arrives, fun due first hd hk kind => ?_, fun h => waits (h.imp_right .inl), fun h => waits (.inr (.inr h))⟩
    obtain ⟨pends, -, reports⟩ := (State.arrive_lantern { s1 with flights := s.flights.erase f } kind).set_lantern
    exact ⟨_, arrives due first hd hk, pends, reports⟩
  · intro t ch slot s s1 y hd hk past
    have row : exec (.consumerFree t ch slot) s = .next ((s1.consumerFree ch slot).getD s1) := execConsumerFree_present hd hk past
    refine ⟨fun kind busy used pending => row.trans (by rw [State.consumerFree_mover rfl kind busy used pending]; rfl),
      fun q kind busy pending halted => ⟨_, row.trans (by rw [State.consumerFree_halted rfl kind busy pending halted]; rfl),
        State.journal_reports ..⟩,
      fun kind => row.trans (by rw [State.consumerFree_instant kind]; rfl)⟩

end Sys2Proof.Machine
end

section
/-!
What the registers of a Lantern read after a write (09 R316, R319, R348), and what the entry to a handler and its return keep of them
(09 R346, R347, R350).
-/

namespace Sys2Proof.Machine

/-! ### Registers (09 R316, R319) -/

section
variable (x : Lantern) (j k v : Nat)

@[simp] theorem setS_pc : (x.setS k v).pc = x.pc := by simp only [Lantern.setS, apply_ite Lantern.pc, ite_self]
@[simp] theorem setV_pc : (x.setV k v).pc = x.pc := rfl
@[simp] theorem setP_pc : (x.setP k v).pc = x.pc := by simp only [Lantern.setP, apply_ite Lantern.pc, ite_self]
@[simp] theorem setSpr_pc : (x.setSpr k v).pc = x.pc := rfl

theorem Lantern.sreg_zero : x.sreg 0 = 0 := if_pos rfl

/-- Where a scalar register stands: the fast handler's upper sixteen have a bank of their own (09 R348). -/
theorem Lantern.setS_cases : (k = 0 ∧ x.setS k v = x) ∨
    (k ≠ 0 ∧ (16 ≤ k ∧ x.fast.isSome = true) ∧ x.setS k v = { x with shadow := tabPut x.shadow (k - 16) (v % 2 ^ 32) }) ∨
    (k ≠ 0 ∧ ¬(16 ≤ k ∧ x.fast.isSome = true) ∧ x.setS k v = { x with s := tabPut x.s k (v % 2 ^ 32) }) := by
  by_cases zero : k = 0
  · simp [zero, Lantern.setS]
  · by_cases shadowed : 16 ≤ k ∧ x.fast.isSome = true
    · simp [zero, shadowed, Lantern.setS]
    · simp [zero, shadowed, Lantern.setS]

theorem Lantern.sreg_setS : (x.setS k v).sreg j = if j = k ∧ k ≠ 0 then v % 2 ^ 32 else x.sreg j := by
  obtain ⟨zero, set⟩ | ⟨pos, ⟨high, fast⟩, set⟩ | ⟨pos, main, set⟩ := x.setS_cases k v
  · rw [set]; simp [zero]
  · rw [set]
    by_cases same : j = k
    · subst same; simp [Lantern.sreg, pos, high, fast]
    · have apart (hj : 16 ≤ j) : j - 16 ≠ k - 16 := by omega
      by_cases hj : 16 ≤ j
      · simp [Lantern.sreg, same, hj, fast, tabGet_put_other _ _ _ (apart hj)]
      · simp [Lantern.sreg, same, hj]
  · rw [set]
    by_cases same : j = k
    · subst same; simp [Lantern.sreg, pos, main]
    · simp [Lantern.sreg, same, tabGet_put_other]

theorem Lantern.spr_setSpr : (x.setSpr k v).spr j = if j = k then v % 2 ^ 32 else x.spr j := tabGet_put ..

end

/-- Settles O12: a write of a scalar register stands in one place of one of the two banks. -/
theorem scalarRegistersReadBack : Obligations.ScalarRegistersReadBack := by
  intro x j k v _ _
  refine ⟨x.sreg_setS j k v, x.sreg_zero, fun fast high => ?_⟩
  obtain ⟨zero, -⟩ | ⟨-, -, set⟩ | ⟨-, main, -⟩ := x.setS_cases k v
  · omega
  · rw [set]
  · exact absurd ⟨high, fast⟩ main

/-! ### Handlers (09 R346, R347, R350) -/

theorem Lantern.spr_of_sr {x y : Lantern} (h : x.sr = y.sr) (k : Nat) : x.spr k = y.spr k := congrArg (tabGet 0 · k) h

/-- A return from x's handler puts back what its entry saved of the special registers. -/
theorem Lantern.spr_restore_save {x : Lantern} (small : ∀ k, x.spr k < 2 ^ 32) (y : Lantern) {z : Lantern} (h : z.sr = (y.restore x.save).sr) :
    z.spr 4 = x.spr 4 ∧ z.spr 7 = x.spr 7 ∧ z.spr 5 = x.spr 5 ∧ z.spr 6 = x.spr 6 := by
  have fits (k : Nat) : x.spr k % 2 ^ 32 = x.spr k := Nat.mod_eq_of_lt (small k)
  simp only [Lantern.spr_of_sr h, Lantern.restore, Lantern.save, Lantern.spr_setSpr, fits]
  simp

/-- A special register is no other field of a Lantern. -/
theorem Lantern.setSpr_keeps {α : Type} (f : Lantern → α) (h : ∀ x sr, f { x with sr := sr } = f x) (x : Lantern) (k v : Nat) :
    f (x.setSpr k v) = f x := h ..

theorem Lantern.restore_keeps {α : Type} (f : Lantern → α) (h : ∀ x sr, f { x with sr := sr } = f x) (x : Lantern) (q : SaveSlot) :
    f (x.restore q) = f x := by simp only [Lantern.restore, Lantern.setSpr_keeps f h]

theorem Lantern.handlerReturn_fast {x : Lantern} {q : SaveSlot} (h : x.fast = some q) :
    x.handlerReturn = some { x.restore q with fast := none, pc := x.spr 0xA } := by rw [Lantern.handlerReturn, h]

theorem Lantern.handlerReturn_normal {x : Lantern} {q : SaveSlot} (hf : x.fast = none) (hn : x.normal = some q) :
    x.handlerReturn = some { x.restore q with normal := none, pc := x.spr 9 } := by rw [Lantern.handlerReturn, hf, hn]

/-- Settles O20: PC comes back from the register that the entry keeps it in, the others from the handler's slot. -/
theorem handlerReturnRestores : Obligations.HandlerReturnRestores := by
  intro x hpc small
  have kept {y : Lantern} {k : Nat} (hk : k ≠ 4) (h : y.sr = ((x.setSpr k x.pc).setSpr 4 0).sr) : y.spr k = x.pc := by
    rw [Lantern.spr_of_sr h, Lantern.spr_setSpr, if_neg hk, Lantern.spr_setSpr, if_pos rfl, Nat.mod_eq_of_lt hpc]
  refine ⟨fun _ => ?_, fun fast _ => ?_⟩
  · obtain ⟨progress, xacc, xlen, xshift⟩ := Lantern.spr_restore_save small x.enterFast
      (z := { x.enterFast.restore x.save with fast := none, pc := x.enterFast.spr 0xA }) rfl
    have epc : x.enterFast.spr 0xA = x.pc := kept (by decide) rfl
    have rest {α : Type} (f : Lantern → α) (h : ∀ x sr, f { x with sr := sr } = f x) := x.enterFast.restore_keeps f h x.save
    exact ⟨_, Lantern.handlerReturn_fast rfl, epc, progress, xacc, xlen, xshift, rfl, rest Lantern.normal fun _ _ => rfl,
      rest Lantern.s fun _ _ => rfl, rest Lantern.shadow fun _ _ => rfl⟩
  · obtain ⟨progress, xacc, xlen, xshift⟩ := Lantern.spr_restore_save small x.enterNormal
      (z := { x.enterNormal.restore x.save with normal := none, pc := x.enterNormal.spr 9 }) rfl
    have epc : x.enterNormal.spr 9 = x.pc := kept (by decide) rfl
    exact ⟨_, Lantern.handlerReturn_normal fast rfl, epc, progress, xacc, xlen, xshift, rfl,
      x.enterNormal.restore_keeps Lantern.s (fun _ _ => rfl) x.save⟩

end Sys2Proof.Machine
end

section
/-!
How an instruction of a Lantern ends (09 R322, R325, R332, R343), and the scalar instructions (09 R327 to R332).
-/

namespace Sys2Proof.Machine

variable {s : State} {n : Fin 64} {w : Word}

/-! ### What an issued instruction ends in (09 R322, R332, R343) -/

/-- Lantern n where an instruction issues. -/
abbrev State.issuer (s : State) (n : Nat) : Lantern := (s.awake n).lantern n

theorem next_congr {a b : State} (h : a = b) : (.next a : Host.Outcome State Fault Refusal) = .next b := congrArg _ h

theorem isMinor_of {m k v : Nat} (hm : iMajor v = m) (hk : iMinor v = k) : isMinor m k v = true := by simp [isMinor, hm, hk]

theorem isVMinor_of {m k v : Nat} (hm : iMajor v = m) (hk : iVMinor v = k) : isVMinor m k v = true := by simp [isVMinor, hm, hk]

section
variable {mine : Nat → Bool} {f : State → Lantern → Nat → Issue}

theorem isa_trap (h : s.AtPc n w) (hm : mine w.toNat = true) {cause : Nat} (hf : f (s.awake n) (s.issuer n) w.toNat = .trap cause) :
    s.isa n w mine f = (s.awake n).trap n cause (s.issuer n).pc := by
  rw [isa_eq h mine hm, hf]

theorem isa_stall (h : s.AtPc n w) (hm : mine w.toNat = true) (hf : f (s.awake n) (s.issuer n) w.toNat = .stall) :
    s.isa n w mine f = s.awake n := by
  rw [isa_eq h mine hm, hf]

/-- An instruction that leaves its Lantern as it is: it goes on. -/
theorem isa_goes_on_unchanged (h : s.AtPc n w) (hm : mine w.toNat = true) (hf : f (s.awake n) (s.issuer n) w.toNat = .next (s.awake n)) :
    s.isa n w mine f = (s.awake n).goesOn n (s.issuer n) := isa_goes_on h hm hf rfl

/-- A jump to a word of the code, which leaves its Lantern as y beside PC. -/
theorem isa_jump (h : s.AtPc n w) (hm : mine w.toNat = true) {t : State} {pc : Int} {y : Lantern}
    (hf : f (s.awake n) (s.issuer n) w.toNat = .jump t pc) (hy : t.lantern n = y) (hc : y.codeWords = (s.issuer n).codeWords)
    (h0 : 0 ≤ pc) (h1 : pc < (s.issuer n).codeWords) : s.isa n w mine f = t.setLantern n (y.retired pc.toNat) := by
  subst hy
  have inside : ¬(pc < 0 ∨ ((s.issuer n).codeWords : Int) ≤ pc) := by omega
  rw [isa_eq h mine hm, hf]
  simp only [Bool.or_eq_true, decide_eq_true_eq, inside, if_false]
  exact retire_eq' _ _ _ _ h0 (hc ▸ h1)

theorem isa_jump_outside (h : s.AtPc n w) (hm : mine w.toNat = true) {t : State} {pc : Int}
    (hf : f (s.awake n) (s.issuer n) w.toNat = .jump t pc) (outside : pc < 0 ∨ ((s.issuer n).codeWords : Int) ≤ pc) :
    s.isa n w mine f = (s.awake n).trap n 4 (s.issuer n).pc := by
  rw [isa_eq h mine hm, hf]
  simp [outside]
end

/-! ### SOP and the immediates (09 R327, R328) -/

theorem b2n_decide (p : Prop) [Decidable p] : b2n (decide p) = if p then 1 else 0 := by simp [b2n]

theorem State.sop_eq (h : s.AtPc n w) {minor : Nat} (hm : iMajor w.toNat = 0) (hk : iMinor w.toNat = minor) (g : Nat → Nat → Nat) :
    s.sop n w minor g = (s.awake n).goesOn n ((s.issuer n).setS (iRd w.toNat)
      (g ((s.issuer n).sreg (iRa w.toNat)) ((s.issuer n).sreg (iRb w.toNat)))) :=
  isa_next h _ (isMinor_of hm hk) _ _ (setS_code ..) (setS_pc ..) rfl

theorem State.sopImm_eq (h : s.AtPc n w) {major : Nat} (hm : iMajor w.toNat = major) (g : Nat → Nat → Nat) :
    s.sopImm n w major g = (s.awake n).goesOn n ((s.issuer n).setS (iRd w.toNat) (g ((s.issuer n).sreg (iRa w.toNat)) (iImm w.toNat))) :=
  isa_next h _ (isMajor_of hm) _ _ (setS_code ..) (setS_pc ..) rfl

/-- Settles O11: each row of SOP, and each immediate row, by its function. -/
theorem scalarInstructions : Obligations.ScalarInstructions := by
  refine ⟨?_, ?_⟩
  · intro t n w s s1 x v a b rd h hm
    have sop {minor : Nat} {g : Nat → Nat → Nat} (hk : iMinor v = minor) :
        (.next ((s.elapse t).sop n w minor g) : Host.Outcome State Fault Refusal) = .next (rd (g a b)) := next_congr (State.sop_eq h hm hk g)
    exact ⟨sop, sop, sop, sop, sop, sop, sop, sop, fun hk => (sop hk).trans (by rw [b2n_decide]; rfl),
      fun hk => (sop hk).trans (by rw [b2n_decide]), sop, sop, sop, sop, sop, sop, sop⟩
  · intro t n w s s1 x v a i rd h
    have imm {major : Nat} {g : Nat → Nat → Nat} (hm : iMajor v = major) :
        (.next ((s.elapse t).sopImm n w major g) : Host.Outcome State Fault Refusal) = .next (rd (g a i)) := next_congr (State.sopImm_eq h hm g)
    exact ⟨imm, imm, imm, imm, fun hm => (imm hm).trans (by rw [b2n_decide]; rfl), fun hm => (imm hm).trans (by rw [b2n_decide]), imm, imm⟩

/-! ### Branches and jumps (09 R327, R332) -/

/-- Where a Lantern goes that branches to a word, in the code or beyond it. -/
def State.branches (s : State) (n : Nat) (target : Int) : State :=
  if 0 ≤ target ∧ target < (s.issuer n).codeWords then (s.awake n).setLantern n ((s.issuer n).retired target.toNat)
  else (s.awake n).trap n 4 (s.issuer n).pc

theorem isa_branches (h : s.AtPc n w) {mine : Nat → Bool} {f : State → Lantern → Nat → Issue} (hm : mine w.toNat = true) {target : Int}
    (hf : f (s.awake n) (s.issuer n) w.toNat = .jump (s.awake n) target) : s.isa n w mine f = s.branches n target := by
  unfold State.branches
  split
  next inside => exact isa_jump h hm hf rfl rfl inside.1 inside.2
  next outside => exact isa_jump_outside h hm hf (by omega)

theorem State.branch_eq (h : s.AtPc n w) {major : Nat} (hm : iMajor w.toNat = major) (c : Nat → Nat → Bool) :
    s.branch n w major c = if c ((s.issuer n).sreg (iRd w.toNat)) ((s.issuer n).sreg (iRa w.toNat)) then
      s.branches n ((s.issuer n).pc + toInt 16 (iImm w.toNat)) else (s.awake n).goesOn n (s.issuer n) := by
  split
  next taken => exact isa_branches h (isMajor_of hm) (if_pos taken)
  next not_taken => exact isa_goes_on_unchanged h (isMajor_of hm) (if_neg not_taken)

/-- Settles O15: a taken branch and a jump go to their target, in the code or beyond it; a branch not taken goes on. -/
theorem branchesAndJumps : Obligations.BranchesAndJumps := by
  refine ⟨?_, ?_⟩
  · intro t n w s s1 x v a b target goes h
    have branch {major : Nat} {c : Nat → Nat → Bool} (hm : iMajor v = major) :
        (.next ((s.elapse t).branch n w major c) : Host.Outcome State Fault Refusal) = .next (goes (c a b)) :=
      next_congr (State.branch_eq h hm c)
    exact ⟨branch, branch, branch, branch, branch, branch⟩
  · intro t n w s s1 x v p taken bp jal link h
    have code : link.codeWords = x.codeWords := setS_code ..
    refine ⟨fun hm ht h0 h1 => next_congr ?_, fun hm ht => next_congr ?_, fun hm ht outside => next_congr ?_,
      fun hm h0 h1 => next_congr ?_, fun hm outside => next_congr ?_, fun hm hk inside => next_congr ?_,
      fun hm hk outside => next_congr ?_⟩
    · exact isa_jump h (isMajor_of hm) (if_pos ht) rfl rfl h0 h1
    · exact isa_goes_on_unchanged h (isMajor_of hm) (if_neg (Bool.eq_false_iff.1 ht))
    · exact isa_jump_outside h (isMajor_of hm) (if_pos ht) outside
    · exact (isa_jump h (isMajor_of hm) rfl (State.lantern_setLantern ..) code h0 h1).trans (setLantern_set ..)
    · exact isa_jump_outside h (isMajor_of hm) rfl outside
    · exact (isa_jump h (isMinor_of hm hk) rfl (State.lantern_setLantern ..) code (Int.natCast_nonneg _) (Int.ofNat_lt.2 inside)).trans
        (setLantern_set ..)
    · exact isa_jump_outside h (isMinor_of hm hk) rfl (.inr (Int.ofNat_le.2 outside))

end Sys2Proof.Machine
end

section
/-!
The scalar loads of a Lantern, and where loads and stores trap (09 R329, R330).
-/

namespace Sys2Proof.Machine

variable {s : State} {n : Fin 64} {w : Word} {major m : Nat} {x : Lantern} {a : Nat}

/-! ### What a read of the interrupt controller leaves (08 R308, R309) -/

theorem Lantern.claim_keeps {α : Type} (f : Lantern → α) (ht : ∀ x k now, f (Lantern.take x k now) = f x)
    (hg : ∀ x fast k, f (Lantern.giveSource x fast k) = f x) (x : Lantern) (fast : Bool) (now : Nat) : f (x.claim fast now).1 = f x := by
  unfold Lantern.claim
  split
  · exact (ht ..).trans (hg ..)
  · split
    · rfl
    · exact ht ..

theorem Lantern.irqRead_keeps {α : Type} (f : Lantern → α) (hc : ∀ x c, f { x with irqCount := c } = f x)
    (ht : ∀ x k now, f (Lantern.take x k now) = f x) (hg : ∀ x fast k, f (Lantern.giveSource x fast k) = f x)
    (x : Lantern) (off now : Nat) : f (x.irqRead off now).1 = f x := by
  simp only [Lantern.irqRead, apply_ite Prod.fst, apply_ite f, Lantern.claim_keeps f ht hg, hc, ite_self]

theorem Lantern.irqRead_pc (x : Lantern) (off now : Nat) : (x.irqRead off now).1.pc = x.pc :=
  Lantern.irqRead_keeps Lantern.pc (fun _ _ => rfl) (fun _ _ _ => rfl) (fun _ fast _ => by cases fast <;> rfl) ..

theorem Lantern.irqRead_code (x : Lantern) (off now : Nat) : (x.irqRead off now).1.codeWords = x.codeWords :=
  Lantern.irqRead_keeps Lantern.codeWords (fun _ _ => rfl) (fun _ _ _ => rfl) (fun _ fast _ => by cases fast <;> rfl) ..

/-! ### Loads -/

/-- The ranges that hold bytes: the local store, the window, the output line and the blocks. -/
def LtRange.holdsBytes (r : LtRange) : Prop := r = .store ∨ r = .window ∨ r = .out ∨ r = .blocks

theorem State.load_memory (h : s.Stores n w major m x a) (hr : (x.rangeOf a).holdsBytes) (hs : x.stalls a m = false) (g : Nat → Nat) :
    s.load n w major m g = (s.awake n).goesOn n (x.setS (iRd w.toNat) (g ((s.awake n).ltRead n a m))) := by
  obtain ⟨atPc, hm, rfl, rfl, ha⟩ := h
  refine isa_next atPc _ (isMajor_of hm) _ _ (setS_code ..) (setS_pc ..) ?_
  obtain hr | hr | hr | hr := hr <;> simp [ha, hr, hs]

theorem State.load_awaited (h : s.Stores n w major m x a) (hr : (x.rangeOf a).holdsBytes) (hs : x.stalls a m = true) (g : Nat → Nat) :
    s.load n w major m g = s.awake n := by
  obtain ⟨atPc, hm, rfl, rfl, ha⟩ := h
  refine isa_stall atPc (isMajor_of hm) ?_
  obtain hr | hr | hr | hr := hr <;> simp [ha, hr, hs]

theorem State.load_gather (h : s.Stores n w major 4 x a) (hr : x.rangeOf a = .gather) (g : Nat → Nat) :
    s.load n w major 4 g = (s.awake n).goesOn n (x.setS (iRd w.toNat) (x.gatherRead (a % 0x20))) := by
  obtain ⟨atPc, hm, rfl, rfl, ha⟩ := h
  exact isa_next atPc _ (isMajor_of hm) _ _ (setS_code ..) (setS_pc ..) (by simp [ha, hr])

theorem State.load_irq (h : s.Stores n w major 4 x a) (hr : x.rangeOf a = .irq) (g : Nat → Nat) :
    s.load n w major 4 g = (s.awake n).goesOn n
      ((x.irqRead (a % 0x100) (s.awake n).ns).1.setS (iRd w.toNat) (x.irqRead (a % 0x100) (s.awake n).ns).2) := by
  obtain ⟨atPc, hm, rfl, rfl, ha⟩ := h
  exact isa_next atPc _ (isMajor_of hm) _ _ ((setS_code ..).trans (Lantern.irqRead_code ..)) ((setS_pc ..).trans (Lantern.irqRead_pc ..))
    (by simp [ha, hr])

/-! ### Traps -/

theorem State.load_misaligned (h : s.AtPc n w) (hm : iMajor w.toNat = major) (ha : memAddr (s.issuer n) w.toNat % m ≠ 0) (g : Nat → Nat) :
    s.load n w major m g = (s.awake n).trap n 3 (s.issuer n).pc := isa_trap h (isMajor_of hm) (if_pos (bne_iff_ne.2 ha))

theorem State.store_misaligned (h : s.AtPc n w) (hm : iMajor w.toNat = major) (ha : memAddr (s.issuer n) w.toNat % m ≠ 0) :
    s.store n w major m = (s.awake n).trap n 3 (s.issuer n).pc := isa_trap h (isMajor_of hm) (if_pos (bne_iff_ne.2 ha))

/-- Where neither a load nor a store of m bytes may go. -/
def LtRange.refuses (r : LtRange) (m : Nat) : Prop := r = .fault ∨ (m < 4 ∧ (r = .gather ∨ r = .irq))

theorem State.load_access (h : s.Stores n w major m x a) (hr : (x.rangeOf a).refuses m) (g : Nat → Nat) :
    s.load n w major m g = (s.awake n).trap n 2 x.pc := by
  obtain ⟨atPc, hm, rfl, rfl, ha⟩ := h
  refine isa_trap atPc (isMajor_of hm) ?_
  obtain hr | ⟨small, hr | hr⟩ := hr
  · simp [ha, hr]
  all_goals simp [ha, hr, small.ne]

theorem State.store_access (h : s.Stores n w major m x a)
    (hr : (x.rangeOf a).refuses m ∨ x.rangeOf a = .window ∨ x.rangeOf a = .blocks) :
    s.store n w major m = (s.awake n).trap n 2 x.pc := by
  obtain ⟨atPc, hm, rfl, rfl, ha⟩ := h
  refine isa_trap atPc (isMajor_of hm) ?_
  obtain (hr | ⟨small, hr | hr⟩) | hr | hr := hr
  · simp [ha, hr]
  · simp [ha, hr, small.ne]
  · simp [ha, hr, small.ne]
  all_goals simp [ha, hr]

/-- Settles O13: each load by the range its address lies in; each trap of a load and of a store by the check that fails. -/
theorem scalarLoadsAndTraps : Obligations.ScalarLoadsAndTraps := by
  refine ⟨?_, ?_⟩
  · intro t n w s s1 x v a memory rd irq h
    have loads {major m : Nat} (hm : iMajor v = major) (ha : a % m = 0) : (s.elapse t).Stores n w major m x a := ⟨h, hm, rfl, rfl, ha⟩
    exact ⟨fun hm ha hr hs => next_congr (State.load_memory (loads hm ha) hr hs _),
      fun hm ha hr hs => next_congr (State.load_memory (loads hm ha) hr hs _),
      fun hm ha hr hs => next_congr (State.load_memory (loads hm ha) hr hs _),
      fun hm hr hs => next_congr (State.load_memory (loads hm (Nat.mod_one _)) hr hs _),
      fun hm hr hs => next_congr (State.load_memory (loads hm (Nat.mod_one _)) hr hs _),
      fun hm ha hr => next_congr (State.load_gather (loads hm ha) hr _),
      fun hm ha hr => next_congr (State.load_irq (loads hm ha) hr _),
      fun hm ha hr hs => next_congr (State.load_awaited (loads hm ha) hr hs _)⟩
  · rintro ⟨i, major, m⟩ hr t n w s h s1 x v a hm
    have row : (∃ g, major < 0x15 ∧ exec (i t n w) s = .next ((s.elapse t).load n w major m g)) ∨
        exec (i t n w) s = .next ((s.elapse t).store n w major m) := by
      simp only [List.mem_cons, Prod.mk.injEq, List.not_mem_nil, or_false] at hr
      obtain ⟨rfl, rfl, rfl⟩ | ⟨rfl, rfl, rfl⟩ | ⟨rfl, rfl, rfl⟩ | ⟨rfl, rfl, rfl⟩ | ⟨rfl, rfl, rfl⟩ | ⟨rfl, rfl, rfl⟩ | ⟨rfl, rfl, rfl⟩ |
        ⟨rfl, rfl, rfl⟩ := hr
      iterate 5 exact .inl ⟨_, by decide, rfl⟩
      all_goals exact .inr rfl
    have access (ha : a % m = 0) : (s.elapse t).Stores n w major m x a := ⟨h, hm, rfl, rfl, ha⟩
    obtain ⟨g, load, row⟩ | row := row
    · exact ⟨fun ha => row.trans (next_congr (State.load_misaligned h hm ha g)),
        fun ha hr => row.trans (next_congr (State.load_access (access ha) hr g)), fun store => absurd load (Nat.not_lt.2 store)⟩
    · exact ⟨fun ha => row.trans (next_congr (State.store_misaligned h hm ha)),
        fun ha hr => row.trans (next_congr (State.store_access (access ha) (.inl hr))),
        fun _ ha hr => row.trans (next_congr (State.store_access (access ha) (.inr hr)))⟩

end Sys2Proof.Machine
end

section
/-!
The vector instructions, the compares and the predicate instructions of a Lantern (09 R329, R330, R333 to R336).
-/

namespace Sys2Proof.Machine

variable {s : State} {n : Fin 64} {w : Word}

/-! ### Lanes of a register (09 R317, R333) -/

theorem nbits_testBit (v lo w i : Nat) : (nbits v lo w).testBit i = (decide (i < w) && v.testBit (lo + i)) := by
  rw [nbits, Nat.testBit_mod_two_pow, Nat.testBit_shiftRight]

/-- A register as the bits below a lane, the lane and the bits above it. -/
theorem lane_split (r lo w : Nat) : r = 2 ^ lo * (2 ^ w * (r / 2 ^ lo / 2 ^ w) + nbits r lo w) + r % 2 ^ lo := by
  rw [nbits, Nat.shiftRight_eq_div_pow, Nat.div_add_mod, Nat.div_add_mod]

theorem putLane_eq (w r k v : Nat) :
    putLane w r k v = 2 ^ (w * k) * (2 ^ w * (r / 2 ^ (w * k) / 2 ^ w) + v % 2 ^ w) + r % 2 ^ (w * k) := by
  have split := lane_split r (w * k) w
  simp only [Nat.mul_add, Nat.mul_comm (2 ^ (w * k)) (nbits ..)] at split
  unfold putLane
  rw [Nat.mul_add, Nat.mul_comm (2 ^ (w * k)) (v % 2 ^ w)]
  omega

theorem nbits_putLane_same (w r k v : Nat) : nbits (putLane w r k v) (w * k) w = v % 2 ^ w := by
  have low : r % 2 ^ (w * k) < 2 ^ (w * k) := Nat.mod_lt _ (Nat.two_pow_pos _)
  rw [putLane_eq, nbits, Nat.shiftRight_eq_div_pow, Nat.mul_add_div (Nat.two_pow_pos _), Nat.div_eq_of_lt low, Nat.add_zero,
    Nat.mul_add_mod, Nat.mod_mod]

/-- A bit outside the lane stays. -/
theorem testBit_putLane_outside {w k i : Nat} (r v : Nat) (h : i < w * k ∨ w * k + w ≤ i) : (putLane w r k v).testBit i = r.testBit i := by
  have low : r % 2 ^ (w * k) < 2 ^ (w * k) := Nat.mod_lt _ (Nat.two_pow_pos _)
  have lane (u : Nat) : u % 2 ^ w < 2 ^ w := Nat.mod_lt _ (Nat.two_pow_pos _)
  conv_rhs => rw [lane_split r (w * k) w]
  rw [putLane_eq, Nat.testBit_two_pow_mul_add _ low, Nat.testBit_two_pow_mul_add _ low]
  split
  · rfl
  · have above : ¬i - w * k < w := by omega
    rw [nbits, Nat.testBit_two_pow_mul_add _ (lane _), Nat.testBit_two_pow_mul_add _ (lane _), if_neg above, if_neg above]

theorem nbits_putLane_other {w j k : Nat} (r v : Nat) (h : j ≠ k) : nbits (putLane w r k v) (w * j) w = nbits r (w * j) w := by
  refine Nat.eq_of_testBit_eq fun i => ?_
  rw [nbits_testBit, nbits_testBit]
  by_cases hi : i < w
  · rw [testBit_putLane_outside]
    obtain before | after := Nat.lt_or_gt_of_ne h
    · have := Nat.mul_le_mul_left w (Nat.succ_le_of_lt before)
      rw [Nat.mul_succ] at this
      omega
    · have := Nat.mul_le_mul_left w (Nat.succ_le_of_lt after)
      rw [Nat.mul_succ] at this
      omega
  · simp [hi]

/-- A fold that writes lanes under a guard writes exactly these. -/
theorem nbits_foldl_putLane (w : Nat) (guard : Nat → Bool) (g : Nat → Nat) (r j m : Nat) :
    nbits ((List.range m).foldl (fun r k => if guard k then putLane w r k (g k) else r) r) (w * j) w =
      if j < m ∧ guard j = true then g j % 2 ^ w else nbits r (w * j) w := by
  induction m with
  | zero => simp
  | succ m ih =>
    rw [List.range_succ, List.foldl_append, List.foldl_cons, List.foldl_nil]
    by_cases same : j = m
    · subst same
      by_cases on : guard j = true
      · simp [on, nbits_putLane_same]
      · simp [on, ih]
    · have ahead : j < m + 1 ↔ j < m := by omega
      simp only [ahead]
      split
      · rw [nbits_putLane_other _ _ same, ih]
      · exact ih

/-- A lane that lies in the low bits of a register. -/
theorem nbits_mod {lo w m : Nat} (r : Nat) (h : lo + w ≤ m) : nbits (r % 2 ^ m) lo w = nbits r lo w := by
  refine Nat.eq_of_testBit_eq fun i => ?_
  rw [nbits_testBit, nbits_testBit, Nat.testBit_mod_two_pow]
  by_cases hi : i < w
  · simp [show lo + i < m by omega]
  · simp [hi]

theorem Lantern.vreg_setV (x : Lantern) (k v : Nat) : (x.setV k v).vreg k = v % 2 ^ 512 := tabGet_put_same ..

/-- Settles O17: vMake writes lane after lane under the guard, and each lane lies in the register's 512 bits. -/
theorem vectorResultIsElementwise : Obligations.VectorResultIsElementwise := by
  intro x v g k hk
  have inside : vWidth v * k + vWidth v ≤ 512 := by
    have := Nat.mul_le_of_le_div _ _ _ (Nat.succ_le_of_lt hk)
    rwa [Nat.mul_comm, Nat.mul_succ] at this
  rw [Lantern.vreg_setV, nbits_mod _ inside, vMake, nbits_foldl_putLane]
  simp [hk]

/-! ### VOP and its relations (09 R334, R336) -/

theorem absDiff_eq (a b : Nat) : absDiff a b = if a ≤ b then b - a else a - b := by
  unfold absDiff
  split <;> omega

/-- An instruction that makes a vector register under the guard. -/
theorem isa_setV (h : s.AtPc n w) {mine : Nat → Bool} (hm : mine w.toNat = true) {f : State → Lantern → Nat → Issue} {r : Nat}
    (hf : f (s.awake n) (s.issuer n) w.toNat = .next ((s.awake n).setLantern n ((s.issuer n).setV (iVd w.toNat) r))) :
    s.isa n w mine f = (s.awake n).goesOn n ((s.issuer n).setV (iVd w.toNat) r) :=
  isa_next h _ hm _ _ (setV_code ..) (setV_pc ..) hf

theorem State.vop_eq (h : s.AtPc n w) {minor : Nat} (hm : iMajor w.toNat = 0x28) (hk : iVMinor w.toNat = minor) (g : Nat → Nat → Nat → Nat) :
    s.vop n w minor g = (s.awake n).goesOn n ((s.issuer n).setV (iVd w.toNat) (vMake (s.issuer n) w.toNat fun k =>
      g (vWidth w.toNat) (vA (s.issuer n) w.toNat k) (vB (s.issuer n) w.toNat k))) :=
  isa_setV h (isVMinor_of hm hk) rfl

/-! ### Accesses of several elements (09 R330) -/

/-- What an access of several elements answers: MISALIGNED, then ACCESS, then the wait for a gather's bytes, then what it does. -/
def Issue.checked (misaligned fault awaited : Bool) (i : Issue) : Issue :=
  if misaligned then .trap 3 else if fault then .trap 2 else if awaited then .stall else i

section
variable {misaligned fault awaited : Bool} {i : Issue}

theorem Issue.checked_misaligned (hm : misaligned = true) : Issue.checked misaligned fault awaited i = .trap 3 := if_pos hm

theorem Issue.checked_fault (hm : misaligned = false) (hf : fault = true) : Issue.checked misaligned fault awaited i = .trap 2 := by
  simp [Issue.checked, hm, hf]

theorem Issue.checked_awaited (hm : misaligned = false) (hf : fault = false) (ha : awaited = true) :
    Issue.checked misaligned fault awaited i = .stall := by simp [Issue.checked, hm, hf, ha]

theorem Issue.checked_issues (hm : misaligned = false) (hf : fault = false) (ha : awaited = false) :
    Issue.checked misaligned fault awaited i = i := by simp [Issue.checked, hm, hf, ha]
end

section
variable {α : Type} {l : List α} {p : α → Bool}
theorem any_not_of_exists (h : ∃ k ∈ l, p k = false) : l.any (fun k => !p k) = true := by simpa using h
theorem any_not_of_forall (h : ∀ k ∈ l, p k = true) : l.any (fun k => !p k) = false := by simpa using h
theorem any_of_forall_not (h : ∀ k ∈ l, p k = false) : l.any p = false := by simpa using h
theorem any_of_not_forall (h : ¬∀ k ∈ l, p k = false) : l.any p = true := by simpa using h
end

/-- What every step of a fold keeps, the fold keeps. -/
theorem foldl_keeps {α β γ : Type} (f : α → β) {g : α → γ → α} (h : ∀ y i, f (g y i) = f y) (l : List γ) (x : α) :
    f (l.foldl g x) = f x := by
  induction l generalizing x with
  | nil => rfl
  | cons i l ih => exact (ih _).trans (h ..)

theorem Lantern.putBytes_pc (x : Lantern) (a : Nat) (l : List Byte) : (x.putBytes a l).pc = x.pc :=
  Lantern.putBytes_keeps Lantern.pc (fun _ _ => rfl) (fun _ _ => rfl) ..

theorem Lantern.putBytes_code (x : Lantern) (a : Nat) (l : List Byte) : (x.putBytes a l).codeWords = x.codeWords :=
  Lantern.putBytes_keeps Lantern.codeWords (fun _ _ => rfl) (fun _ _ => rfl) ..

/-- Settles O16: each row of VOP by its function, the others by the register they make, and VLD and VST by their checks. -/
theorem vectorInstructions : Obligations.VectorInstructions := by
  refine ⟨?_, ?_, ?_⟩
  · intro t n w s s1 x v e vd r h hm
    have vop {minor : Nat} {g : Nat → Nat → Nat → Nat} (hk : iVMinor v = minor) :
        (.next ((s.elapse t).vop n w minor g) : Host.Outcome State Fault Refusal) = .next (vd (g e)) := next_congr (State.vop_eq h hm hk g)
    exact ⟨vop, vop, vop, vop, vop, vop, vop, vop, vop, vop, vop, vop, vop, vop, fun hk => (vop hk).trans (by simp only [absDiff_eq]),
      vop, vop, vop, fun hk => next_congr (isa_setV h (isVMinor_of hm hk) rfl)⟩
  · intro t n w s s1 x v s16 vd h
    have makes {m k : Nat} {f : State → Lantern → Nat → Issue} {r : Nat} (hm : iMajor v = m) (hk : iVMinor v = k)
        (hf : f s1 x v = .next (s1.setLantern n (x.setV (iVd v) r))) :
        (.next ((s.elapse t).isa n w (isVMinor m k) f) : Host.Outcome State Fault Refusal) = .next (vd r) :=
      next_congr (isa_setV h (isVMinor_of hm hk) hf)
    exact ⟨fun hm hk => makes hm hk rfl, fun hm hk => makes hm hk rfl, fun hm hk => makes hm hk rfl,
      fun hm hk => makes hm hk (by simp only [Bool.or_eq_true, decide_eq_true_eq]; rfl), fun hm hk => makes hm hk rfl⟩
  · intro t n w s s1 x v a lane on free h
    have odd (ha : a % 2 = 1) : (a % 2 != 0) = true := by simp [ha]
    have even (ha : a % 2 = 0) : (a % 2 != 0) = false := by simp [ha]
    refine ⟨fun hm ha hr hs => next_congr ?_, fun hm ha hr hs => next_congr ?_,
      fun ha => ⟨fun hm => next_congr ?_, fun hm => next_congr ?_⟩, fun hm ha hf => next_congr ?_, fun hm ha hf => next_congr ?_,
      fun ha hs => ⟨fun hm hr => next_congr ?_, fun hm hr => next_congr ?_⟩⟩
    · exact isa_setV h (isMajor_of hm) (Issue.checked_issues (even ha) (any_not_of_forall hr) (any_of_forall_not hs))
    · exact isa_next h _ (isMajor_of hm) _ _ (foldl_keeps Lantern.codeWords (fun _ _ => Lantern.putBytes_code ..) ..)
        (foldl_keeps Lantern.pc (fun _ _ => Lantern.putBytes_pc ..) ..)
        (Issue.checked_issues (even ha) (any_not_of_forall hr) (any_of_forall_not hs))
    · exact isa_trap h (isMajor_of hm) (Issue.checked_misaligned (odd ha))
    · exact isa_trap h (isMajor_of hm) (Issue.checked_misaligned (odd ha))
    · exact isa_trap h (isMajor_of hm) (Issue.checked_fault (even ha) (any_not_of_exists hf))
    · exact isa_trap h (isMajor_of hm) (Issue.checked_fault (even ha) (any_not_of_exists hf))
    · exact isa_stall h (isMajor_of hm) (Issue.checked_awaited (even ha) (any_not_of_forall hr) (any_of_not_forall hs))
    · exact isa_stall h (isMajor_of hm) (Issue.checked_awaited (even ha) (any_not_of_forall hr) (any_of_not_forall hs))

/-! ### Compares (09 R335) -/

/-- The number whose bits below m are where c holds. -/
def bitsWhere (c : Nat → Bool) (m : Nat) : Nat := (List.range m).foldl (fun r k => if c k then r + 2 ^ k else r) 0

theorem bitsWhere_succ (c : Nat → Bool) (m : Nat) :
    bitsWhere c (m + 1) = if c m then bitsWhere c m + 2 ^ m else bitsWhere c m := by
  simp only [bitsWhere, List.range_succ, List.foldl_append, List.foldl_cons, List.foldl_nil]

theorem bitsWhere_lt (c : Nat → Bool) (m : Nat) : bitsWhere c m < 2 ^ m := by
  induction m with
  | zero => simp [bitsWhere]
  | succ m ih =>
    rw [bitsWhere_succ, Nat.pow_succ]
    split <;> omega

theorem testBit_bitsWhere (c : Nat → Bool) (m k : Nat) : (bitsWhere c m).testBit k = (decide (k < m) && c k) := by
  induction m with
  | zero => simp [bitsWhere]
  | succ m ih =>
    have low := bitsWhere_lt c m
    have split : bitsWhere c (m + 1) = 2 ^ m * b2n (c m) + bitsWhere c m := by
      rw [bitsWhere_succ]
      cases c m <;> simp [b2n, Nat.add_comm]
    rw [split, Nat.testBit_two_pow_mul_add _ low, ih]
    obtain below | rfl | above := Nat.lt_trichotomy k m
    · simp [below, Nat.lt_succ_of_lt below]
    · cases c k <;> simp [b2n]
    · have bit : (b2n (c m)).testBit (k - m) = false := by
        refine Nat.testBit_lt_two_pow ?_
        have := Nat.pow_le_pow_right (n := 2) (by decide) (show 1 ≤ k - m by omega)
        cases c m <;> simp [b2n]; omega
      simp [bit, Nat.not_lt_of_lt above, show ¬k < m + 1 by omega]

/-- The bit of lane k that a compare by c writes. -/
def Lantern.compares (x : Lantern) (v : Nat) (c : Nat → Nat → Bool) (k : Nat) : Bool :=
  let j := if iW v then k / 2 else k
  vGuard x v j && c (vA x v j) (vB x v j)

/-- An instruction that writes a predicate register. -/
theorem isa_setP (h : s.AtPc n w) {mine : Nat → Bool} (hm : mine w.toNat = true) {f : State → Lantern → Nat → Issue} {r : Nat}
    (hf : f (s.awake n) (s.issuer n) w.toNat = .next ((s.awake n).setLantern n ((s.issuer n).setP (nbits w.toNat 22 3) r))) :
    s.isa n w mine f = (s.awake n).goesOn n ((s.issuer n).setP (nbits w.toNat 22 3) r) := isa_next h _ hm _ _ (setP_code ..) (setP_pc ..) hf

theorem State.vcmp_eq (h : s.AtPc n w) {minor : Nat} (hm : iMajor w.toNat = 0x29) (hk : iVMinor w.toNat = minor) (g : Nat → Nat → Nat → Bool) :
    s.vcmp n w minor g = (s.awake n).goesOn n
      ((s.issuer n).setP (nbits w.toNat 22 3) (bitsWhere ((s.issuer n).compares w.toNat (g (vWidth w.toNat))) 32)) :=
  isa_setP h (isVMinor_of hm hk) rfl

theorem State.pop_eq (h : s.AtPc n w) {minor : Nat} (hm : iMajor w.toNat = 0x29) (hk : iVMinor w.toNat = minor) (g : Nat → Nat → Nat) :
    s.pop n w minor g = (s.awake n).goesOn n ((s.issuer n).setP (nbits w.toNat 22 3)
      (g ((s.issuer n).preg (nbits w.toNat 18 3)) ((s.issuer n).preg (nbits w.toNat 13 3)))) :=
  isa_setP h (isVMinor_of hm hk) rfl

/-- Settles O18: a compare's predicate has its bits where the guarded test holds; the predicate instructions by their functions. -/
theorem vectorComparesAndPredicates : Obligations.VectorComparesAndPredicates := by
  refine ⟨?_, ?_⟩
  · intro t n w s s1 x v e pd holds h hm
    have compare {minor : Nat} {g : Nat → Nat → Nat → Bool} (hk : iVMinor v = minor) :
        ∃ m, (.next ((s.elapse t).vcmp n w minor g) : Host.Outcome State Fault Refusal) = .next (pd m) ∧ holds m (g e) :=
      ⟨bitsWhere (x.compares v (g e)) 32, next_congr (State.vcmp_eq h hm hk g), bitsWhere_lt .., fun k hk => by
        rw [nbit_eq_testBit, testBit_bitsWhere, decide_eq_true hk, Bool.true_and]; rfl⟩
    exact ⟨compare, compare, compare, compare, compare, compare⟩
  · intro t n w s s1 x v a b pd h
    have pop {minor : Nat} {g : Nat → Nat → Nat} (hm : iMajor v = 0x29) (hk : iVMinor v = minor) :
        (.next ((s.elapse t).pop n w minor g) : Host.Outcome State Fault Refusal) = .next (pd (g a b)) := next_congr (State.pop_eq h hm hk g)
    exact ⟨pop, pop, pop, pop, fun hm hk => next_congr (isa_setP h (isVMinor_of hm hk) rfl),
      fun hm hk => next_congr (isa_next h _ (isVMinor_of hm hk) _ _ (setS_code ..) (setS_pc ..) rfl)⟩

end Sys2Proof.Machine
end

section
/-!
The special registers and the system instructions of a Lantern (09 R319, R325, R337, R338, R344, R350).
-/

namespace Sys2Proof.Machine

variable {s : State} {n : Fin 64} {w : Word}

/-! ### MFSR (09 R319) -/

/-- MFSR of a register that reads r and leaves its Lantern as y. -/
theorem execMfsr_eq {t : Nat} (h : (s.elapse t).AtPc n w) (hm : iMajor w.toNat = 0x30) {y : Lantern} {r : Nat}
    (hr : ((s.elapse t).awake n).readSpr n (nbits w.toNat 0 8) = (y, r)) (hc : y.codeWords = ((s.elapse t).issuer n).codeWords)
    (hp : y.pc = ((s.elapse t).issuer n).pc) : execMfsr t n w s = .next (((s.elapse t).awake n).goesOn n (y.setS (iRd w.toNat) r)) :=
  next_congr (isa_next h _ (isMajor_of hm) _ _ ((setS_code ..).trans hc) ((setS_pc ..).trans hp) (by rw [hr]))

theorem State.readSpr_lineY (s : State) (n : Nat) : s.readSpr n 0 = (s.lantern n,
    if (s.lantern n).routine = .lineEntry then (s.lantern n).lineY else 0xFFFFFFFF) := by
  simp only [State.readSpr, beq_iff_eq]

theorem State.readSpr_lineLen {n : Nat} {f : Frame} (hf : s.workFrame n = some f) :
    s.readSpr n 2 = (s.lantern n, f.elements (s.lantern n).tap) := by simp only [State.readSpr, hf]

theorem State.readSpr_phase (s : State) (n : Nat) : s.readSpr n 1 = (s.lantern n,
    if (s.lantern n).routine = .frameEntry then 1 else if (s.lantern n).routine = .frameExit then 2 else 0) := by
  unfold State.readSpr
  dsimp only
  cases (s.lantern n).routine <;> rfl

/-- The registers that are read as they are stored. -/
theorem State.readSpr_stored (s : State) (n : Nat) {k : Nat} (h : (3 ≤ k ∧ k ≤ 0x0B) ∨ k = 0x0F ∨ k = 0x12) :
    s.readSpr n k = (s.lantern n, (s.lantern n).spr k) := by
  unfold State.readSpr
  split
  case h_9 => rfl
  all_goals omega

/-! ### MTSR (09 R319, R337) -/

/-- A legal MTSR names XLEN, XSHIFT, XACC, HANDLERS or one of the two registers that keep PC in a handler (09 R319, R337). -/
theorem isaLegal_mtsr {v : Nat} (h : isaLegal v = true) (hm : iMajor v = 0x31) : 5 ≤ nbits v 0 8 ∧ nbits v 0 8 ≤ 0xA := by
  simp only [isaLegal, hm, Bool.and_eq_true, decide_eq_true_eq] at h
  obtain ⟨⟨-, low⟩, high⟩ := h
  exact ⟨low, high⟩

theorem sprRange_iff {k : Nat} (hk : 5 ≤ k ∧ k ≤ 0xA) (a : Nat) : sprRange k a = true ↔
    (k = 5 → 1 ≤ a ∧ a ≤ 32768) ∧ (k = 6 → a ≤ 31) ∧ (k = 8 → a ≤ 3) ∧ (9 ≤ k → a < 2 ^ 13) := by
  obtain ⟨low, high⟩ := hk
  interval_cases k <;> simp [sprRange]

/-! ### LEND, WAIT, RETI (09 R338, R350) -/

section
variable {mine : Nat → Bool} {f : State → Lantern → Nat → Issue}

theorem isa_fin (h : s.AtPc n w) (hm : mine w.toNat = true) (hf : f (s.awake n) (s.issuer n) w.toNat = .fin (s.awake n)) :
    s.isa n w mine f = ((s.awake n).setLantern n ((s.issuer n).setSpr 0xF ((s.issuer n).spr 0xF + 1))).endRoutine n := by
  rw [isa_eq h mine hm, hf]
  rfl

theorem isa_waits (h : s.AtPc n w) (hm : mine w.toNat = true) {c : Nat}
    (hf : f (s.awake n) (s.issuer n) w.toNat = .waits ((s.awake n).setLantern n { s.issuer n with waiting := some c })) :
    s.isa n w mine f =
      (s.awake n).setLantern n (Lantern.retired { s.issuer n with waiting := some c } ((s.issuer n).pc + 1)) := by
  rw [isa_eq h mine hm, hf]
  dsimp only
  rw [State.lantern_setLantern, setLantern_set]
  rfl

theorem isa_back (h : s.AtPc n w) (hm : mine w.toNat = true) {y : Lantern}
    (hf : f (s.awake n) (s.issuer n) w.toNat = .back ((s.awake n).setLantern n y)) :
    s.isa n w mine f = if y.codeWords ≤ y.pc then (s.awake n).trap n 4 (s.issuer n).pc
      else (s.awake n).setLantern n (y.setSpr 0xF (y.spr 0xF + 1)) := by
  rw [isa_eq h mine hm, hf]
  dsimp only
  rw [State.lantern_setLantern, setLantern_set]
end

theorem Lantern.inHandler_iff (x : Lantern) : x.inHandler = true ↔ x.normal.isSome = true ∨ x.fast.isSome = true := by
  rw [Lantern.inHandler, Bool.or_eq_true]

theorem Lantern.handlerReturn_none {x : Lantern} (h : ¬(x.normal.isSome = true ∨ x.fast.isSome = true)) : x.handlerReturn = none := by
  obtain ⟨normal, fast⟩ : x.normal = none ∧ x.fast = none := by simpa using h
  rw [Lantern.handlerReturn, fast, normal]

/-- Settles O19: a special register by what it reads or may hold, a system instruction by whether a handler runs. -/
theorem specialAndSystemInstructions : Obligations.SpecialAndSystemInstructions := by
  refine ⟨?_, ?_⟩
  · intro t n w s s1 x v k a rd h
    have reads {r : Nat} (hm : iMajor v = 0x30) (hr : s1.readSpr n k = (x, r)) : exec (.mfsr t n w) s = .next (rd x r) :=
      execMfsr_eq h hm hr rfl rfl
    have ⟨_, _, legal⟩ := h
    have inRange (hm : iMajor v = 0x31) := sprRange_iff (k := k) (isaLegal_mtsr legal hm) a
    have latches (hk : k = 0x11) : s1.readSpr n k = (x.setSpr 0x12 (s1.dt / 2 ^ 32), s1.dt % 2 ^ 32) := by rw [hk]; rfl
    refine ⟨fun hm hk => reads hm ?_, fun hm hk => reads hm ?_, fun f hm hk hf => reads hm ?_, fun hm hk => reads hm ?_,
      fun hm hk => reads hm ?_, fun hm hk => reads hm ?_, fun hm hk => reads hm ?_,
      fun hm hk => execMfsr_eq h hm (latches hk) (setSpr_code ..) (setSpr_pc ..),
      fun hm hk => reads hm (State.readSpr_stored _ _ hk), fun hm h5 h6 h8 h9 => next_congr ?_, fun hm out => next_congr ?_⟩
    · rw [hk, State.readSpr_lineY]
    · rw [hk, State.readSpr_phase]
    · rw [hk, State.readSpr_lineLen hf]
    · rw [hk]; rfl
    · rw [hk]; rfl
    · rw [hk]; rfl
    · rw [hk]; rfl
    · exact isa_next h _ (isMajor_of hm) _ _ (setSpr_code ..) (setSpr_pc ..) (if_pos ((inRange hm).2 ⟨h5, h6, h8, h9⟩))
    · have beyond : sprRange k a ≠ true := by rw [Ne, inRange hm]; omega
      exact isa_trap h (isMajor_of hm) (if_neg beyond)
  · intro t n w s s1 x v m handler
    have outside (h : ¬handler) : ¬x.inHandler = true := mt x.inHandler_iff.1 h
    refine ⟨fun h hm => ⟨fun hk hh => next_congr ?_, fun hk hh => next_congr ?_, fun hk => next_congr ?_, fun hk hh => next_congr ?_,
      fun hk hh => next_congr ?_, fun y hk hy inside => next_congr ?_, fun y hk hy beyond => next_congr ?_, fun hk hh => next_congr ?_⟩,
      fun runs issues illegal => next_congr ?_, fun runsOut => next_congr (if_pos runsOut)⟩
    · exact isa_fin h (isMinor_of hm hk) (if_neg (outside hh))
    · exact isa_trap h (isMinor_of hm hk) (if_pos (x.inHandler_iff.2 hh))
    · exact isa_trap h (isMinor_of hm hk) rfl
    · exact isa_waits h (isMinor_of hm hk) (if_neg (outside hh))
    · exact isa_trap h (isMinor_of hm hk) (if_pos (x.inHandler_iff.2 hh))
    · exact (isa_back h (isMinor_of hm hk) (by rw [hy])).trans (if_neg (Nat.not_le.2 inside))
    · exact (isa_back h (isMinor_of hm hk) (by rw [hy])).trans (if_pos beyond)
    · exact isa_trap h (isMinor_of hm hk) (by rw [Lantern.handlerReturn_none hh])
    · exact (if_neg (Bool.eq_false_iff.1 runs)).trans (if_pos (Bool.and_eq_true_iff.2 ⟨issues, congrArg not illegal⟩))

end Sys2Proof.Machine
end

section
/-!
The extended operations of a Lantern (09 R330, R339 to R341).
-/

namespace Sys2Proof.Machine

variable {s : State} {n : Fin 64} {w : Word}

/-! ### What the writes of a group leave (09 R341) -/

section
variable (n : Nat) (u : State) (x : Lantern) (v : Nat) (is : List Nat)

theorem Lantern.putElems_pc (d : Nat) (vs : List (Nat × Nat)) : (x.putElems d vs).pc = x.pc :=
  foldl_keeps Lantern.pc (fun _ _ => Lantern.putBytes_pc ..) ..

theorem vblkPlan_pc : (vblkPlan n u x v is).after.pc = x.pc := Lantern.putElems_pc ..
theorem vfirPlan_pc : (vfirPlan n u x v is).after.pc = x.pc := Lantern.putElems_pc ..
theorem vgathPlan_pc : (vgathPlan n u x v is).after.pc = x.pc := Lantern.putElems_pc ..

theorem vscanPlan_pc : (vscanPlan n u x v is).after.pc = x.pc :=
  foldl_keeps (fun p : Nat × Lantern => p.2.pc) (fun _ _ => Lantern.putBytes_pc ..) is (x.spr 7, x)

theorem vhistPlan_pc : (vhistPlan n u x v is).after.pc = x.pc := foldl_keeps Lantern.pc (fun _ _ => Lantern.putBytes_pc ..) is x

theorem vredPlan_pc : (vredPlan n u x v is).after.pc = x.pc := rfl
end

/-! ### A group issues (09 R339, R341) -/

theorem State.retire_goesOn (t : State) (n : Nat) : t.retire n ((t.lantern n).pc + 1) false = t.goesOn n (t.lantern n) := by
  by_cases inside : (t.lantern n).pc + 1 < (t.lantern n).codeWords
  · rw [State.goesOn, if_pos inside]
    exact retire_eq' _ _ _ _ (by omega) (by omega)
  · have beyond : ((t.lantern n).codeWords : Int) ≤ (t.lantern n).pc + 1 := by omega
    simp [State.retire, State.goesOn, inside, beyond]

theorem State.goesOn_setLantern (s : State) (n : Nat) (x y : Lantern) : (s.setLantern n x).goesOn n y = s.goesOn n y := by
  simp only [State.goesOn, setLantern_set]

/-- A group that leaves its Lantern as y: the last one retires, another one goes on to the next group. -/
theorem isa_group (h : s.AtPc n w) {mine : Nat → Bool} (hm : mine w.toNat = true) {f : State → Lantern → Nat → Issue} {y : Lantern}
    {last : Bool} (hf : f (s.awake n) (s.issuer n) w.toNat = .group ((s.awake n).setLantern n y) last) (hp : y.pc = (s.issuer n).pc) :
    s.isa n w mine f = if last then (s.awake n).goesOn n y
      else (s.awake n).setLantern n ((y.setSpr 0xF (y.spr 0xF + 1)).setSpr 4 (y.spr 4 + 1)) := by
  have retires := ((s.awake n).setLantern n y).retire_goesOn n
  rw [State.lantern_setLantern, State.goesOn_setLantern, hp] at retires
  rw [isa_eq h mine hm, hf]
  dsimp only
  rw [retires, State.modLantern, State.lantern_setLantern, setLantern_set]

section
variable (h : s.AtPc n w) {minor : Nat} (hm : iMajor w.toNat = 0x38) (hk : iMinor w.toNat = minor)
  {plan : State → Lantern → Nat → List Nat → ExtGroup} {p : ExtGroup}
  (hp : plan (s.awake n) (s.issuer n) w.toNat (groupElems ((s.issuer n).spr 5) ((s.issuer n).spr 4)) = p)
include h hm hk hp

theorem State.ext_misaligned (ha : p.aligned = false) : s.ext n w minor plan = (s.awake n).trap n 3 (s.issuer n).pc := by
  subst hp
  exact isa_trap h (isMinor_of hm hk) (Issue.checked_misaligned (congrArg not ha))

theorem State.ext_access (ha : p.aligned = true)
    (fault : (∃ q ∈ p.reads, (s.issuer n).readable q.1 = false) ∨ ∃ q ∈ p.writes, (s.issuer n).writable q.1 = false) :
    s.ext n w minor plan = (s.awake n).trap n 2 (s.issuer n).pc := by
  subst hp
  exact isa_trap h (isMinor_of hm hk) (Issue.checked_fault (congrArg not ha)
    (Bool.or_eq_true_iff.2 (fault.imp any_not_of_exists any_not_of_exists)))

theorem State.ext_runs (ha : p.aligned = true)
    (reads : ∀ q ∈ p.reads, (s.issuer n).readable q.1 = true ∧ (s.issuer n).stalls q.1 q.2 = false)
    (writes : ∀ q ∈ p.writes, (s.issuer n).writable q.1 = true ∧ (s.issuer n).stalls q.1 q.2 = false)
    (pc : p.after.pc = (s.issuer n).pc) :
    s.ext n w minor plan = if (s.issuer n).spr 5 ≤ 32 * ((s.issuer n).spr 4 + 1) then (s.awake n).goesOn n p.after
      else (s.awake n).setLantern n ((p.after.setSpr 0xF (p.after.spr 0xF + 1)).setSpr 4 (p.after.spr 4 + 1)) := by
  subst hp
  have free : ∀ q ∈ ExtGroup.reads _ ++ ExtGroup.writes _, (s.issuer n).stalls q.1 q.2 = false := List.forall_mem_append.2
    ⟨fun q hq => (reads q hq).2, fun q hq => (writes q hq).2⟩
  refine (isa_group h (isMinor_of hm hk) (Issue.checked_issues (congrArg not ha)
    (Bool.or_eq_false_iff.2 ⟨any_not_of_forall fun q hq => (reads q hq).1, any_not_of_forall fun q hq => (writes q hq).1⟩)
    (any_of_forall_not free)) pc).trans ?_
  simp only [decide_eq_true_eq]
end

/-- Settles O21: a group by its plan's checks, and the plans of VBLK, VGATH and VRED by what they put. -/
theorem extendedInstructions : Obligations.ExtendedInstructions := by
  refine ⟨?_, ?_⟩
  · intro t n w s s1 x v is runs group faulty h hm
    have issues {minor : Nat} {plan : State → Lantern → Nat → List Nat → ExtGroup} (hpc : (plan s1 x v is).after.pc = x.pc)
        (hk : iMinor v = minor) (hr : runs (plan s1 x v is)) :
        (.next ((s.elapse t).ext n w minor plan) : Host.Outcome State Fault Refusal) = .next (group (plan s1 x v is)) := by
      obtain ⟨aligned, reads, writes⟩ := hr
      exact next_congr (State.ext_runs h hm hk rfl aligned reads writes hpc)
    have traps {minor : Nat} {plan : State → Lantern → Nat → List Nat → ExtGroup} (hk : iMinor v = minor) :
        ((plan s1 x v is).aligned = false →
          (.next ((s.elapse t).ext n w minor plan) : Host.Outcome State Fault Refusal) = .next (s1.trap n 3 x.pc)) ∧
        ((plan s1 x v is).aligned = true → faulty (plan s1 x v is) →
          (.next ((s.elapse t).ext n w minor plan) : Host.Outcome State Fault Refusal) = .next (s1.trap n 2 x.pc)) :=
      ⟨fun ha => next_congr (State.ext_misaligned h hm hk rfl ha), fun ha hf => next_congr (State.ext_access h hm hk rfl ha hf)⟩
    exact ⟨issues (vblkPlan_pc ..), issues (vfirPlan_pc ..), issues (vgathPlan_pc ..), issues (vscanPlan_pc ..), issues (vhistPlan_pc ..),
      issues (vredPlan_pc ..), traps, traps, traps, traps, traps, traps⟩
  · intro n u x v is a b d read
    refine ⟨fun copy => ?_, rfl, fun sum => ?_⟩
    · have reads_b : (iFn v == 0xB) = false := beq_eq_false_iff_ne.2 copy
      simp only [vblkPlan, reads_b, Bool.false_eq_true, if_false]
      rfl
    · simp only [vredPlan, sum]
      rfl

end Sys2Proof.Machine
end

section
/-!
The rows of the Lamplighter: compares, timers, starts, transitions, held fires and pulses (12 R423, R425 to R427, R431 to R433; 10 R360;
11 R407).
-/

namespace Sys2Proof.Machine

variable {s u : State}

/-! ### Offers (12 R425, R426) -/

theorem State.Within.seqs (h : u.Within s) : u.seqs = s.seqs := by obtain ⟨_, _, _, _, _, rfl⟩ := h; rfl
theorem State.Within.seqr (h : u.Within s) (q : Nat) : u.seqr q = s.seqr q := congrArg (tabGet Sequencer.reset · q) h.seqs

theorem State.freeSlot_seqr (s : State) (h : Hap) (q : Nat) : (s.freeSlot h).seqr q = s.seqr q := by
  unfold State.freeSlot
  split <;> rfl

/-- A sequencer that runs, and whose start instant has come, takes what it is offered. -/
theorem State.offer_taken {q : Nat} (hr : (s.seqr q).running = true) (hs : (s.seqr q).startAt = none) (h : Hap) :
    s.offer q h = s.setSeq q { s.seqr q with haps := (s.seqr q).haps ++ [h] } := by
  simp [State.offer, hr, hs]

theorem State.offer_slots (s : State) (q : Nat) (h : Hap) : ((s.offer q h).seqr q).slots = (s.seqr q).slots := by
  simp only [State.offer, apply_ite (fun t : State => (t.seqr q).slots), State.seqr_setSeq, State.freeSlot_seqr, ite_self]

theorem State.offer_seqr_other {q j : Nat} (h : Hap) (hj : j ≠ q) : (s.offer q h).seqr j = s.seqr j := by
  simp only [State.offer, apply_ite (fun t : State => t.seqr j), State.seqr_setSeq_other _ _ _ _ hj, State.freeSlot_seqr, ite_self]

/-! ### Compares (10 R360, 11 R407, 12 R428) -/

/-- The sequencer with slot k disarmed. -/
def Sequencer.disarm (x : Sequencer) (k : Nat) : Sequencer :=
  { x with slots := tabPut x.slots k { x.slot k with armed := none, fire := none, raw := none } }

theorem Sequencer.disarm_armed (x : Sequencer) (k : Nat) : ((x.disarm k).slot k).armed = none := congrArg SeqSlot.armed (tabGet_put_same ..)

/-- The happening that the firing of slot k offers. -/
def Sequencer.firing (x : Sequencer) (k i : Nat) (how : FireHow) : Hap where
  kind := 1
  index := k
  rising := false
  at_ := i
  pos := x.slotPos k
  how := how
  slot := k
  from_ := none

/-- The state in which a firing is offered: its slot is disarmed, and it is journaled. -/
def State.disarmed (s : State) (q k i : Nat) (how : FireHow) : State := (s.setSeq q ((s.seqr q).disarm k)).journalCompare q k i how

theorem State.fireSlot_eq (s : State) (q k i : Nat) (how : FireHow) :
    s.fireSlot q k i how = (s.disarmed q k i how).offer q ((s.seqr q).firing k i how) := rfl

theorem State.disarmed_reports (s : State) (q k i : Nat) (how : FireHow) :
    (s.disarmed q k i how).Reports (s.setSeq q ((s.seqr q).disarm k)) := State.journal_reports ..

theorem State.disarmed_seqr (s : State) (q k i : Nat) (how : FireHow) : (s.disarmed q k i how).seqr q = (s.seqr q).disarm k :=
  ((s.disarmed_reports ..).within.seqr q).trans (State.seqr_setSeq ..)

/-- A slot that fires is disarmed, its firing waits at its sequencer if that one runs, and no other sequencer changes. -/
theorem State.fireSlot_fires (s : State) (q k i : Nat) (how : FireHow) : (((s.fireSlot q k i how).seqr q).slot k).armed = none ∧
    ((s.seqr q).running = true → (s.seqr q).startAt = none →
      ∃ h ∈ ((s.fireSlot q k i how).seqr q).haps, h.kind = 1 ∧ h.index = k ∧ h.at_ = i ∧ h.how = how) ∧
    ∀ j, j ≠ q → (s.fireSlot q k i how).seqr j = s.seqr j := by
  have own := s.disarmed_seqr q k i how
  rw [State.fireSlot_eq]
  refine ⟨?_, fun hr hs => ⟨(s.seqr q).firing k i how, ?_, rfl, rfl, rfl, rfl⟩, fun j hj => ?_⟩
  · rw [Sequencer.slot, State.offer_slots, own]
    exact Sequencer.disarm_armed ..
  · rw [State.offer_taken (by rw [own]; exact hr) (by rw [own]; exact hs), State.seqr_setSeq]
    exact List.mem_append_right _ (List.mem_singleton_self _)
  · exact (State.offer_seqr_other _ hj).trans (((s.disarmed_reports ..).within.seqr j).trans (State.seqr_setSeq_other _ _ _ _ hj))

/-- An armed slot of its kind fires once its instant is reached. -/
theorem State.compareFire_fires {q k i : Nat} {how : FireHow} {pos : Bool} (hi : ((s.seqr q).slot k).instant = some (i, how))
    (ha : ((s.seqr q).slot k).armed.isSome = true) (hr : s.reached i = true) (hp : (s.seqr q).slotPos k = pos) :
    s.compareFire q k pos = s.fireSlot q k i how := by
  simp [State.compareFire, hi, ha, hr, hp]

/-! ### Timers, starts and transitions (12 R423, R425 to R427) -/

/-- The timers after the expiry of timer tm: a periodic one restarts at its expiry, another stops. -/
def Sequencer.timersAfter (x : Sequencer) (tm : Nat) (y : SeqTimer) : Tab SeqTimer :=
  match y.period with
  | some p => tabPut x.timers tm { y with due := y.due + p }
  | none => tabDel x.timers tm

/-- The happening that the expiry of timer tm offers. -/
def SeqTimer.expiry (y : SeqTimer) (tm : Nat) : Hap where
  kind := 2
  index := tm
  rising := false
  at_ := y.due
  pos := false
  how := .onTime
  slot := 0
  from_ := none

/-- The happenings of an instant. -/
def Sequencer.hapsAt (x : Sequencer) (i : Nat) : List Hap := x.haps.filter (fun k => k.at_ = i)

/-- The happenings of every other instant. -/
def Sequencer.hapsBut (x : Sequencer) (i : Nat) : List Hap := x.haps.filter (fun k => k.at_ != i)

section
variable {t : Nat} {q : Fin 32}

theorem execSequencerTimerExpiry_taken {tm : Fin 4} {y : SeqTimer} {l : Tab SeqTimer}
    (hf : tabFind ((s.elapse t).seqr q).timers tm = some y) (hd : (s.elapse t).reached y.due = true)
    (hr : ((s.elapse t).seqr q).running = true) (hs : ((s.elapse t).seqr q).startAt = none)
    (hl : ((s.elapse t).seqr q).timersAfter tm y = l) : exec (.sequencerTimerExpiry t q tm) s =
      .next (((s.elapse t).setSeq q { (s.elapse t).seqr q with timers := l }).setSeq q
        { (s.elapse t).seqr q with timers := l, haps := ((s.elapse t).seqr q).haps ++ [y.expiry tm] }) := by
  have row : exec (.sequencerTimerExpiry t q tm) s =
      .next (((s.elapse t).setSeq q { (s.elapse t).seqr q with timers := l }).offer q (y.expiry tm)) := by
    change execSequencerTimerExpiry t q tm s = _
    simp only [execSequencerTimerExpiry, hf, hd, if_true, ← hl]
    rfl
  have own := (s.elapse t).seqr_setSeq q { (s.elapse t).seqr q with timers := l }
  rw [row, State.offer_taken (by rw [own]; exact hr) (by rw [own]; exact hs), own]

theorem execSequencerStartInstant_starts {i : Nat} (ha : ((s.elapse t).seqr q).startAt = some i) (hr : ((s.elapse t).seqr q).running = true)
    (hi : (s.elapse t).reached i = true) (hd : ((s.elapse t).seqr q).dueBy i = false) : exec (.sequencerStartInstant t q) s =
      .next ((((s.elapse t).setSeq q { (s.elapse t).seqr q with
        startAt := none, st := 0, haps := ((s.elapse t).seqr q).hapsBut i }).trigRecord none q 3 0x0601 1).takeInstant q i
          (((s.elapse t).seqr q).hapsAt i) true) := by
  change execSequencerStartInstant t q s = _
  simp [execSequencerStartInstant, ha, hr, hi, hd, Sequencer.hapsAt, Sequencer.hapsBut]

/-- The happenings of the earliest instant are taken, from the instant on at which the sequencer is free. -/
theorem execTransition_takes {h : Happening} {a first : Nat} {rest : List Nat} (ha : ((s.elapse t).seqr q).haps.map (·.at_) = a :: rest)
    (hf : minD a (a :: rest) = first) (hr : ((s.elapse t).seqr q).running = true) (hs : ((s.elapse t).seqr q).startAt = none)
    (hi : (s.elapse t).reached (max first ((s.elapse t).seqr q).busyUntil) = true) (hd : ((s.elapse t).seqr q).dueBy first = false)
    (hn : (((s.elapse t).seqr q).hapsAt first).any (fun k => k.named h) = true) : exec (.transition t q h) s =
      .next (((s.elapse t).setSeq q { (s.elapse t).seqr q with haps := ((s.elapse t).seqr q).hapsBut first }).takeInstant q
        (max first ((s.elapse t).seqr q).busyUntil) (((s.elapse t).seqr q).hapsAt first) false) := by
  unfold Sequencer.hapsAt at hn
  change execTransition t q h s = _
  simp only [execTransition, ha, hf]
  exact if_pos (by rw [hr, hs, hi, hd, hn]; rfl)

end

/-! ### Held fires and pulses (12 R431 to R433) -/

section
variable {t : Nat} {g : Fin 256}

theorem execHeldFireRelease_accepts {f : Fire} {i : Nat} (hh : ((s.elapse t).target g).held = some (f, i))
    (hi : (s.elapse t).reached i = true) : exec (.heldFireRelease t g) s =
      .next (((s.elapse t).setTarget g { (s.elapse t).target g with held := none }).acceptFire g f.id i f.width f.flags) := by
  change execHeldFireRelease t g s = _
  simp only [execHeldFireRelease, hh, hi, if_true]

theorem execGioPulseStart_starts {f : Fire} {rest : List Fire} (hp : ((s.elapse t).target g).pend = f :: rest)
    (hk : ((s.elapse t).target g).cfg.kind = 2) (hi : (s.elapse t).reached f.o = true) : exec (.gioPulseStart t g) s =
      .next (((s.elapse t).setTarget g { (s.elapse t).target g with pend := rest, pulse := some (f.o + 64 * f.width) }).drive
        ((s.elapse t).target g).cfg.lane f.o (!((s.elapse t).target g).cfg.polarity)) := by
  change execGioPulseStart t g s = _
  simp [execGioPulseStart, hp, hk, hi]

theorem execGioPulseEnd_ends {i : Nat} (hp : ((s.elapse t).target g).pulse = some i) (hk : ((s.elapse t).target g).cfg.kind = 2)
    (hi : (s.elapse t).reached i = true) : exec (.gioPulseEnd t g) s =
      .next (((s.elapse t).setTarget g { (s.elapse t).target g with pulse := none }).drive ((s.elapse t).target g).cfg.lane i
        ((s.elapse t).target g).cfg.polarity) := by
  change execGioPulseEnd t g s = _
  simp [execGioPulseEnd, hp, hk, hi]

end

/-- Settles O42: a compare's row is the firing of its slot, and each other row is one operation of its sequencer or its target. -/
theorem lamplighterRowsRun : Obligations.LamplighterRowsRun := by
  intro t s s1
  refine ⟨?_, ?_, ?_, ?_, fun g => ?_⟩
  · intro q k i how x hi ha hr
    have fires := s1.fireSlot_fires q k i how
    exact ⟨fun hp => ⟨_, next_congr (State.compareFire_fires hi ha hr hp), fires⟩,
      fun hp => ⟨_, next_congr (State.compareFire_fires hi ha hr hp), fires⟩⟩
  · intro q tm y x h hf hd hr hs
    refine ⟨fun hp => ?_, fun p hp => ?_⟩
    · exact execSequencerTimerExpiry_taken hf hd hr hs (by rw [Sequencer.timersAfter, hp])
    · exact execSequencerTimerExpiry_taken hf hd hr hs (by rw [Sequencer.timersAfter, hp])
  · intro q i x ha hr hi hd
    exact execSequencerStartInstant_starts ha hr hi hd
  · intro q h a rest x first now ha hr hs hi hd hn
    exact execTransition_takes ha rfl hr hs hi hd hn
  · exact ⟨fun f i => execHeldFireRelease_accepts, fun f rest => execGioPulseStart_starts, fun i => execGioPulseEnd_ends⟩

end Sys2Proof.Machine
end

section
/-!
What the operations of the time base leave (10): but for reporting, only the rate and the time base; and for a step of the phase, what the
completion of a ring command needs.
-/

namespace Sys2Proof.Machine

variable {s u v w : State}

/-! ### The rate and the time base -/

theorem State.Within.tb (h : u.Within s) : u.tb = s.tb := by obtain ⟨_, _, _, _, _, rfl⟩ := h; rfl
theorem State.Within.time (h : u.Within s) : u.time = s.time := by obtain ⟨_, _, _, _, _, rfl⟩ := h; rfl
theorem State.Within.rateAdj (h : u.Within s) : u.rateAdj = s.rateAdj := by obtain ⟨_, _, _, _, _, rfl⟩ := h; rfl

/-- But for reporting, u is s at another rate and with another time base. -/
def State.OnTime (u s : State) : Prop := u.Reports { s with tb := u.tb, rateAdj := u.rateAdj }

/-- Reporting beside another rate and another time base. -/
theorem State.Reports.onTime_of {b : TimeBase} {r : Int} (h : u.Reports { s with tb := b, rateAdj := r }) : u.OnTime s := by
  obtain ⟨⟨_, _, _, _, _, rfl⟩, kept⟩ := h
  exact ⟨⟨_, _, _, _, _, rfl⟩, kept⟩

theorem State.Reports.onTime (h : u.Reports s) : u.OnTime s := State.Reports.onTime_of (b := s.tb) (r := s.rateAdj) h

theorem State.onTime_of (s : State) (b : TimeBase) (r : Int) : State.OnTime { s with tb := b, rateAdj := r } s :=
  (State.Reports.refl _).onTime_of

theorem State.OnTime.refl (s : State) : s.OnTime s := State.Reports.refl s

theorem State.OnTime.trans (h : u.OnTime v) (g : v.OnTime w) : u.OnTime w := by
  have beside := State.Reports.map g (fun t : State => { t with tb := u.tb, rateAdj := u.rateAdj }) fun _ _ _ _ _ _ => rfl
  exact State.Reports.trans h beside

theorem State.OnTime.ite {c : Prop} [Decidable c] (h : u.OnTime s) (g : v.OnTime s) : (if c then u else v).OnTime s := by
  split <;> assumption

theorem State.OnTime.answers (h : u.OnTime s) : u.Answers s :=
  (State.Reports.answers h).trans (State.answers_of_ports rfl rfl)

/-! ### States and records (10 R368, R369, R383) -/

/-- The time base on its way to a state: in that state already, it stays as it is. -/
def State.entering (s : State) (st : TimeState) : TimeBase :=
  if s.tb.st == st then s.tb
  else { s.tb with
    st := st, good := 0, bad := 0
    settle := if st == .settling then [] else s.tb.settle
    holdSince := if s.tb.st == .holdover && st == .settling then s.tb.holdSince else s.ns }

theorem State.timeTo_reports (s : State) (st : TimeState) : (s.timeTo st).Reports { s with tb := s.entering st } := by
  unfold State.timeTo State.entering
  by_cases h : s.tb.st == st
  · simp only [h, if_true]
    exact .refl s
  · simp only [h]
    exact State.reportPorts_reports ..

theorem State.entering_st (s : State) (st : TimeState) : (s.entering st).st = st := by
  unfold State.entering
  split
  · next h => exact eq_of_beq h
  · rfl

theorem State.timeTo_tb (s : State) (st : TimeState) : (s.timeTo st).tb = s.entering st := (s.timeTo_reports st).within.tb

theorem State.timeTo_st (s : State) (st : TimeState) : (s.timeTo st).tb.st = st :=
  (congrArg TimeBase.st (s.timeTo_tb st)).trans (s.entering_st st)

/-- A change of state leaves everything of the time base that it does not set. -/
theorem State.timeTo_keeps {α : Type} (f : TimeBase → α)
    (h : ∀ x st g b l a, f { x with st := st, good := g, bad := b, settle := l, holdSince := a } = f x) (s : State) (st : TimeState) :
    f (s.timeTo st).tb = f s.tb := by
  rw [State.timeTo_tb, State.entering]
  split
  · rfl
  · exact h ..

theorem State.timeTo_onTime (s : State) (st : TimeState) : (s.timeTo st).OnTime s := (s.timeTo_reports st).onTime_of
theorem State.timeTo_tpUp (s : State) (st : TimeState) : (s.timeTo st).tb.tpUp = s.tb.tpUp :=
  State.timeTo_keeps TimeBase.tpUp (fun _ _ _ _ _ _ => rfl) s st

theorem State.timeRecord_reports (s : State) (cls typ subject data : Nat) : (s.timeRecord cls typ subject data).Reports s :=
  State.report_reports ..

theorem State.sourceLoss_onTime (s : State) : s.sourceLoss.OnTime s := by
  unfold State.sourceLoss
  split
  · exact (State.timeTo_onTime ..).trans (s.onTime_of ..)
  · exact (State.timeTo_onTime ..).trans (s.onTime_of ..)
  · exact s.onTime_of ..
  · exact .refl s

theorem State.sourceAvailable_onTime (s : State) : s.sourceAvailable.OnTime s := by
  unfold State.sourceAvailable
  split
  · exact (State.timeTo_onTime ..).trans (s.onTime_of ..)
  · exact State.timeTo_onTime ..
  · exact .refl s

/-! ### The timing port's link (10 R365, R369) -/

theorem State.sourceLoss_tpUp (s : State) : s.sourceLoss.tb.tpUp = s.tb.tpUp := by
  unfold State.sourceLoss
  split
  · exact State.timeTo_tpUp ..
  · exact State.timeTo_tpUp ..
  · rfl
  · rfl

theorem State.sourceAvailable_tpUp (s : State) : s.sourceAvailable.tb.tpUp = s.tb.tpUp := by
  unfold State.sourceAvailable
  split
  · exact State.timeTo_tpUp ..
  · exact State.timeTo_tpUp ..
  · rfl

theorem State.bmca_tpUp (s : State) : s.bmca.tb.tpUp = s.tb.tpUp := by
  unfold State.bmca
  split
  · rfl
  · extract_lets same path _ b s1 _
    have chosen : s1.tb.tpUp = s.tb.tpUp := by
      change TimeBase.tpUp (if path then _ else _) = _
      split <;> rfl
    split
    · exact (State.sourceAvailable_tpUp s1).trans chosen
    · exact (State.sourceAvailable_tpUp s1).trans chosen
    · split <;> exact chosen
    · split
      · exact chosen
      · exact (State.timeTo_tpUp ..).trans chosen

theorem State.loseSource_tpUp (s : State) : s.loseSource.tb.tpUp = s.tb.tpUp := (State.bmca_tpUp _).trans s.sourceLoss_tpUp

/-- A link that changes leaves TP_UP at its new level, whatever becomes of the source. -/
theorem State.tpLink_tpUp {up : Bool} (hp : s.ptpLive = true) (hu : s.tb.tpUp ≠ up) (hr : s.tb.cfg.tpRate ≠ 0 ∨ up = false) :
    (s.tpLink up).tb.tpUp = up := by
  unfold State.tpLink
  rw [if_pos (by simpa [hp, hu] using hr)]
  extract_lets _ s2
  have linked : s2.tb.tpUp = up := congrArg TimeBase.tpUp (State.timeRecord_reports ..).within.tb
  clear_value s2
  split
  · exact s2.loseSource_tpUp.trans linked
  · exact linked

/-! ### Events (13 R447, R450) -/

theorem State.emitOn_tb (s : State) (n stamp p : Nat) : (s.emitOn n stamp p).tb = s.tb := by
  have records (u : State) : (u.gatedRecords n stamp).tb = u.tb := foldl_keeps State.tb (fun _ _ => (State.journal_reports ..).within.tb) ..
  simp only [State.emitOn, apply_ite State.tb, records, State.setChannel_tb, ite_self]

theorem State.emit_tb (s : State) (kind index : Nat) (arg : Nat → Bool) (stamp p : Nat) : (s.emit kind index arg stamp p).tb = s.tb := by
  unfold State.emit
  split
  · rfl
  · exact foldl_keeps State.tb (fun _ _ => State.emitOn_tb ..) ..

theorem State.emit_ends (s : State) (kind index : Nat) (arg : Nat → Bool) (stamp p : Nat) : (s.emit kind index arg stamp p).Ends s := by
  unfold State.emit
  exact .ite (.refl s) (.foldl (fun _ _ => State.emitOn_ends ..) _ _)

/-! ### Steps of the phase (10 R370, R375) -/

theorem State.discardOpen_keeps {α : Type} (f : State → α)
    (h : ∀ s k x l m, f { s.setSconce k x with lanterns := l, streams := m } = f s) (s : State) (k : Nat) : f (s.discardOpen k) = f s := by
  unfold State.discardOpen
  extract_lets x
  split
  · rfl
  · exact h ..

theorem State.discardAll_keeps {α : Type} (f : State → α)
    (h : ∀ s k x l m, f { s.setSconce k x with lanterns := l, streams := m } = f s) (hc : ∀ s, f (State.clearStores s) = f s)
    (s : State) : f s.discardAll = f s :=
  (hc _).trans (foldl_keeps f (fun _ _ => State.discardOpen_keeps f h ..) ..)

theorem State.timeStep_keeps {α : Type} (f : State → α) (hr : ∀ {u s : State}, u.Reports s → f u = f s)
    (h : ∀ s k x l m, f { s.setSconce k x with lanterns := l, streams := m } = f s) (hc : ∀ s, f (State.clearStores s) = f s)
    (ht : ∀ s n b c e, f { s with time := n, tb := b, channels := c, encoders := e } = f s) (s : State) (new : Nat) :
    f (s.timeStep new) = f s := by
  have told : (s.timeStep new).Reports _ := (State.journal_reports ..).trans (State.reportPorts_reports ..)
  exact (hr told).trans ((ht _ _ _ _ _).trans ((State.discardAll_keeps f h hc _).trans (ht s (new % 2 ^ 96) s.tb s.channels s.encoders)))

theorem State.timeStep_rateAdj (s : State) (new : Nat) : (s.timeStep new).rateAdj = s.rateAdj :=
  State.timeStep_keeps State.rateAdj (fun h => h.within.rateAdj) (fun _ _ _ _ _ => rfl) (fun _ => rfl) (fun _ _ _ _ _ => rfl) s new

/-- A step leaves what the completion of a ring command needs. -/
theorem State.timeStep_answers (s : State) (new : Nat) : (s.timeStep new).Answers s :=
  State.bearing_answers
    (State.timeStep_keeps State.bearing (fun h => h.bearing) (fun _ _ _ _ _ => rfl) (fun _ => rfl) (fun _ _ _ _ _ => rfl) s new)
    (State.timeStep_keeps State.mode (fun h => h.mode) (fun _ _ _ _ _ => rfl) (fun _ => rfl) (fun _ _ _ _ _ => rfl) s new)

theorem State.timeStep_cfg (s : State) (new : Nat) : (s.timeStep new).tb.cfg = s.tb.cfg := by
  have told : (s.timeStep new).Reports _ := (State.journal_reports ..).trans (State.reportPorts_reports ..)
  exact (congrArg TimeBase.cfg told.within.tb).trans rfl

theorem State.timeStep_time (s : State) (new : Nat) : (s.timeStep new).time = new % 2 ^ 96 := by
  have moved : (s.timeStep new).spine = { s.spine with time := new % 2 ^ 96 } := by simp [State.timeStep]
  exact congrArg Spine.time moved

/-- After a phase load, PPS_IN as the source goes through SETTLING (10 R375). -/
def State.resettle (s : State) : State :=
  if s.tb.cfg.role = 0 && s.tb.cfg.source = 1 then
    match s.tb.st with
    | .settling => { s with tb := { s.tb with settle := [] } }
    | .acquiring | .locked => ({ s with rateAdj := s.tb.holdRate }).timeTo .settling
    | _ => s.sourceAvailable
  else s

theorem State.loadTime_eq (s : State) (new : Nat) (ago : Int) :
    s.loadTime new ago = (s.timeStep (ofInt 96 ((new : Int) * 2 ^ 32 + ago))).resettle := rfl

theorem State.resettle_onTime (s : State) : s.resettle.OnTime s := by
  unfold State.resettle
  refine .ite ?_ (.refl s)
  split
  · exact s.onTime_of ..
  · exact (State.timeTo_onTime ..).trans (s.onTime_of ..)
  · exact (State.timeTo_onTime ..).trans (s.onTime_of ..)
  · exact s.sourceAvailable_onTime

theorem State.loadTime_answers (s : State) (new : Nat) (ago : Int) : (s.loadTime new ago).Answers s :=
  (State.resettle_onTime _).answers.trans (s.timeStep_answers _)

/-- A phase load that takes effect at once sets device time (10 R375). -/
theorem State.loadTime_dt (s : State) {new : Nat} (h : new < 2 ^ 64) : (s.loadTime new 0).dt = new := by
  have time : (s.loadTime new 0).time = new * 2 ^ 32 := by
    refine (State.resettle_onTime _).within.time.trans ((s.timeStep_time _).trans ?_)
    simp only [ofInt]
    omega
  rw [State.dt, time]
  omega

/-- A phase load under another source than PPS_IN leaves the rate (10 R371, R375). -/
theorem State.loadTime_rateAdj {s : State} (h : s.tb.cfg.source ≠ 1) (new : Nat) (ago : Int) :
    (s.loadTime new ago).rateAdj = s.rateAdj := by
  have free : (s.timeStep (ofInt 96 ((new : Int) * 2 ^ 32 + ago))).resettle = s.timeStep (ofInt 96 ((new : Int) * 2 ^ 32 + ago)) :=
    if_neg (by simp [State.timeStep_cfg, h])
  rw [State.loadTime_eq, free]
  exact s.timeStep_rateAdj _

end Sys2Proof.Machine
end

section
/-!
TIME_CONFIG (10 R375 to R382).
-/

namespace Sys2Proof.Machine

variable {s u v : State} {c : RingCmd}

/-! ### CONFIGURE (10 R379) -/

/-- The operands of CONFIGURE change the source of the time base. -/
def TimeCfg.newSource (c o : TimeCfg) : Bool :=
  c.role != o.role || c.source != o.source || c.profile != o.profile || c.transport != o.transport || c.domain != o.domain ||
    c.tpRate != o.tpRate || c.tpFec != o.tpFec

theorem TimeCfg.newSource_iff {c o : TimeCfg} : c.newSource o = true ↔
    ¬(c.role = o.role ∧ c.source = o.source ∧ c.profile = o.profile ∧ c.transport = o.transport ∧ c.domain = o.domain ∧
      c.tpRate = o.tpRate ∧ c.tpFec = o.tpFec) := by
  simp only [TimeCfg.newSource, Bool.or_eq_true, bne_iff_ne, ne_eq, not_and_or, or_assoc]

/-- The configuration that CONFIGURE is compared with: the one that waits, else the one in force. -/
def State.latestCfg (s : State) : TimeCfg := s.tb.cfgNext.getD s.tb.cfg

section
variable {n : TimeCfg}

/-- What CONFIGURE does about a new source. -/
theorem State.timeConfigure_newSource (h : n.newSource s.latestCfg = true) : (s.timeConfigure n).OnTime s ∧
    (s.timeConfigure n).tb.cfg = n ∧ (s.timeConfigure n).tb.cfgNext = none ∧
    (n.role = 0 → n.source = 0 → (s.timeConfigure n).tb.st = .freeRun) := by
  unfold State.timeConfigure
  extract_lets o live old source free s1 _ s2 _ s3
  have left : s1.OnTime s := .ite (.refl s) (.ite (State.timeTo_onTime ..) s.sourceLoss_onTime)
  have taken : s3.OnTime s ∧ s3.tb.cfg = n ∧ s3.tb.cfgNext = none := by
    have put : s2.OnTime s := (s1.onTime_of ..).trans left
    simp only [s3]
    split
    · have down := State.timeRecord_reports { s2 with tb := { s2.tb with tpUp := false } } 3 0x0406 0 0
      exact ⟨down.onTime_of.trans put, congrArg TimeBase.cfg down.within.tb, congrArg TimeBase.cfgNext down.within.tb⟩
    · exact ⟨put, rfl, rfl⟩
  rw [if_pos (c := source = true) h]
  obtain ⟨onTime, cfg, next⟩ := taken
  split
  · exact ⟨(s3.timeTo_onTime _).trans onTime, (State.timeTo_keeps TimeBase.cfg (fun _ _ _ _ _ _ => rfl) s3 _).trans cfg,
      (State.timeTo_keeps TimeBase.cfgNext (fun _ _ _ _ _ _ => rfl) s3 _).trans next, fun _ _ => s3.timeTo_st _⟩
  · next servo => exact ⟨onTime, cfg, next, fun role source => absurd (by simp [free, role, source]) servo⟩

/-- Without a servo the operands take effect at once (entry 99). -/
theorem State.timeConfigure_free (h : n.newSource s.latestCfg = false) (hr : n.role = 0) (hs : n.source = 0) :
    (s.timeConfigure n).OnTime s ∧ (s.timeConfigure n).tb.cfg = n ∧ (s.timeConfigure n).tb.cfgNext = none := by
  unfold State.timeConfigure
  extract_lets o live old source
  rw [if_neg (c := source = true) (Bool.eq_false_iff.1 h), if_pos (by simp [hr, hs])]
  exact ⟨s.onTime_of .., rfl, rfl⟩

/-- A servo takes the operands at its next update, PPS_OUT its own at once. -/
theorem State.timeConfigure_servo (h : n.newSource s.latestCfg = false) (hs : n.role ≠ 0 ∨ n.source ≠ 0) :
    (s.timeConfigure n).OnTime s ∧ (s.timeConfigure n).tb.cfgNext = some n ∧
    (s.timeConfigure n).tb.cfg = { s.tb.cfg with ppsOutOffset := n.ppsOutOffset, ppsWidth := n.ppsWidth } := by
  unfold State.timeConfigure
  extract_lets o live old source
  rw [if_neg (c := source = true) (Bool.eq_false_iff.1 h), if_neg (by simpa [← not_and_or] using hs)]
  exact ⟨s.onTime_of .., rfl, rfl⟩

theorem State.timeConfigure_onTime (s : State) (n : TimeCfg) : (s.timeConfigure n).OnTime s := by
  by_cases h : n.newSource s.latestCfg = true
  · exact (timeConfigure_newSource h).1
  · by_cases hs : n.role = 0 ∧ n.source = 0
    · exact (timeConfigure_free (Bool.eq_false_iff.2 h) hs.1 hs.2).1
    · exact (timeConfigure_servo (Bool.eq_false_iff.2 h) (not_and_or.1 hs)).1

end

/-! ### SET_TIME (10 R375, R380, R381) -/

theorem State.loadRate_rateAdj (s : State) (e : Entry) :
    (s.loadRate e).rateAdj = if bitAt e 9 1 then toInt 32 (fld e 0x18 4) else s.rateAdj := apply_ite State.rateAdj ..

theorem State.loadRate_onTime (s : State) (e : Entry) : (s.loadRate e).OnTime s := .ite (s.onTime_of s.tb _) (.refl s)

/-- The state in which a SET_TIME of a ring waits for the next PPS_IN edge (10 R381). -/
def State.timeAwaits (s : State) (rid : Nat) : State :=
  State.freshen { s with tb := { s.tb with waiting := some (rid, s.fresh) } }

theorem setTimeEffect_waits (h : bitAt c.e 9 2 = true) (s : State) :
    setTimeEffect c s = (s.timeAwaits (ringId c.p c.i), .waits s.fresh) := if_pos h

theorem State.Reports.timeAwaits (h : v.Reports s) (rid : Nat) : (v.timeAwaits rid).Reports (s.timeAwaits rid) :=
  h.map (·.timeAwaits rid) fun _ _ _ _ _ _ => rfl

/-- What SET_TIME does that waits for no edge. -/
def State.setNow (s : State) (e : Entry) : State :=
  if bitAt e 9 0 then (s.loadRate e).loadTime (fld e 0x10 8) 0 else s.loadRate e

theorem setTimeEffect_now (h : bitAt c.e 9 2 = false) (s : State) : setTimeEffect c s = (s.setNow c.e, .ok) :=
  if_neg (Bool.eq_false_iff.1 h)

theorem State.setNow_answers (s : State) (e : Entry) : (s.setNow e).Answers s := by
  have rate := (s.loadRate_onTime e).answers
  unfold State.setNow
  split
  · exact (State.loadTime_answers ..).trans rate
  · exact rate

theorem fld_lt {w : Nat} (e : BitVec w) (off n : Nat) : fld e off n < 2 ^ (8 * n) := Nat.mod_lt _ (Nat.two_pow_pos _)

/-- A phase is loaded as it stands in the operands. -/
theorem State.setNow_dt {e : Entry} (h : bitAt e 9 0 = true) (s : State) : (s.setNow e).dt = fld e 0x10 8 :=
  (congrArg State.dt (if_pos h)).trans (State.loadTime_dt _ (fld_lt e 0x10 8))

theorem State.setNow_time {e : Entry} (h : bitAt e 9 0 = false) (s : State) : (s.setNow e).time = s.time :=
  (congrArg State.time (if_neg (Bool.eq_false_iff.1 h))).trans (s.loadRate_onTime e).within.time

/-- A rate is set, also beside a phase: only PPS_IN's source would take it to the holdover rate. -/
theorem State.setNow_rateAdj {e : Entry} (h : bitAt e 9 0 = true → s.tb.cfg.source ≠ 1) :
    (s.setNow e).rateAdj = if bitAt e 9 1 then toInt 32 (fld e 0x18 4) else s.rateAdj := by
  have cfg : (s.loadRate e).tb.cfg = s.tb.cfg := by unfold State.loadRate; split <;> rfl
  rw [← State.loadRate_rateAdj, State.setNow]
  split
  · next phase => exact State.loadTime_rateAdj (by rw [cfg]; exact h phase) ..
  · rfl

/-- SET_TIME sets no rate under the source PPS_IN (10 R381). -/
theorem setTime_source (h : s.Accepts c 0x38 (setTimeChecks c)) (hr : bitAt c.e 9 1 = true) : s.tb.cfg.source ≠ 1 := by
  intro hs
  have refused := firstSome_none (Checks.state_of_first h.2) _ (List.mem_cons_of_mem _ List.mem_cons_self)
  have cfg : (s.fetched c).tb.cfg = s.tb.cfg := congrArg TimeBase.cfg (State.fetched_reports ..).within.tb
  rw [cfg, hr, hs] at refused
  simp at refused

/-! ### READ_STAMPS and STATUS (10 R377, R382) -/

/-- The state with another time base. -/
def State.onBase (s : State) (b : TimeBase) : State := { s with tb := b }

theorem State.onBase_translate (s : State) (b : TimeBase) (p va n off : Nat) :
    (s.onBase b).translate p va n off = s.translate p va n off := rfl

/-- A command that changes the time base and has a block written waits for the mover by the number with which the block stands in a
queue. -/
theorem command_waits_for_block {op va : Nat} {chk : State → Checks} {eff : State → State × Done} {b : TimeBase} {data : List Byte}
    (h : s.Accepts c op chk)
    (g : ∀ v : State, v.Reports s → ∃ w : State, w.Reports (s.onBase b) ∧ eff v = w.queueBlock c va data) :
    ∃ u, s.command c op chk eff = .next u ∧
      u.Queues (s.onBase b) (.block (ringId c.p c.i) s.fresh c.p (splitParts va data (s.translate c.p va data.length 0).2)) ∧
      u.WaitsFor s c s.fresh := by
  refine State.command_waits_for h fun v hv => ?_
  obtain ⟨w, hw, effect⟩ := g v hv
  have number : w.fresh = s.fresh := hw.fresh
  have ns : w.ns = s.ns := hw.ns
  have dt : w.dt = s.dt := hw.dt
  have parts : w.translate c.p va data.length 0 = s.translate c.p va data.length 0 :=
    (hw.translate ..).trans (s.onBase_translate ..)
  simp only [effect, State.queueBlock, number, parts, State.auxAdd_ns, State.auxAdd_dt, State.freshen_ns, State.freshen_dt, ns, dt, true_and]
  exact fun u hu => hw.queues hu

/-- The state whose stamp queue READ_STAMPS has emptied. -/
def State.stampsRead (s : State) : State := s.onBase { s.tb with stamps := [], overflow := 0 }

/-- The block of READ_STAMPS (10 R377). -/
def State.stampBlock (s : State) : List Byte :=
  leBytes 1 s.tb.stamps.length ++ zeros 3 ++ leBytes 4 s.tb.overflow ++ zeros 8 ++ fitTo 256 (s.tb.stamps.flatMap TxStamp.bytes)

theorem readStampsEffect_eq (c : RingCmd) (s : State) :
    readStampsEffect c s = s.stampsRead.queueBlock c (bufferVa c.e 0x10) s.stampBlock := rfl

theorem State.Reports.stampsRead (h : v.Reports s) : v.stampsRead.Reports s.stampsRead := h.map State.stampsRead fun _ _ _ _ _ _ => rfl

theorem State.Reports.stampBlock (h : v.Reports s) : v.stampBlock = s.stampBlock := by
  unfold State.stampBlock
  rw [h.within.tb]

theorem State.Reports.timeBlock (h : v.Reports s) : v.timeBlock = s.timeBlock := by
  obtain ⟨⟨_, _, _, _, _, rfl⟩, -⟩ := h
  rfl

/-- Settles O37: CONFIGURE by its three cases, SET_TIME by what its operands say, and the blocks of the last two are those of the state that
the command found. That the operands take effect at once under ROLE 0 with SOURCE FREE is the model's reading (entry 99). -/
theorem timeCommandsRun : Obligations.TimeCommandsRun := by
  refine ⟨?_, ?_, ?_, ?_, ?_⟩
  · intro t c s0 s o n same h
    obtain ⟨u, hu, ⟨v, hv, after⟩, done⟩ := State.command_succeeds (eff := timeConfigureEffect c)
      (P := fun u => ∃ v : State, v.Reports s ∧ u.Reports (v.timeConfigure n)) h
      fun v hv => ⟨rfl, (v.timeConfigure_onTime n).answers, fun u hu => ⟨v, hv, hu⟩⟩
    have latest : v.latestCfg = o := by rw [State.latestCfg, hv.within.tb]
    have moves (h : ¬same) : n.newSource v.latestCfg = true := by rw [latest]; exact TimeCfg.newSource_iff.2 h
    have stays (h : same) : n.newSource v.latestCfg = false := by
      rw [latest]; exact Bool.eq_false_iff.2 fun hn => TimeCfg.newSource_iff.1 hn h
    have base : u.tb = (v.timeConfigure n).tb := after.within.tb
    have beside : u.OnTime s := after.onTime.trans ((v.timeConfigure_onTime n).trans hv.onTime)
    refine ⟨u, hu, fun now => ?_, fun hs servo => ?_, fun hs role source => ?_, beside, done⟩
    · rw [base]
      by_cases hs : same
      · obtain ⟨role, source⟩ := now.resolve_left (not_not_intro hs)
        exact (State.timeConfigure_free (stays hs) role source).2
      · obtain ⟨-, cfg, next, -⟩ := State.timeConfigure_newSource (moves hs)
        exact ⟨cfg, next⟩
    · rw [base, ← hv.within.tb]
      exact (State.timeConfigure_servo (stays hs) servo).2
    · rw [base]
      exact (State.timeConfigure_newSource (moves hs)).2.2.2 role source
  · intro t c s0 s edge h
    obtain ⟨u, hu, told, waits⟩ := State.command_waits_for (a := s.fresh) (eff := setTimeEffect c)
      (P := fun u => u.Reports (s.timeAwaits (ringId c.p c.i))) h fun v hv => by
        rw [setTimeEffect_waits edge, hv.fresh]
        exact ⟨rfl, hv.ns, hv.dt, fun u hu => hu.trans (hv.timeAwaits _)⟩
    have base : u.tb = (s.timeAwaits (ringId c.p c.i)).tb := told.within.tb
    refine ⟨u, hu, waits, base, ?_⟩
    rw [base, told.fresh]
    exact told
  · intro t c s0 s now h
    obtain ⟨u, hu, ⟨v, hv, after⟩, done⟩ := State.command_succeeds (eff := setTimeEffect c)
      (P := fun u => ∃ v : State, v.Reports s ∧ u.Reports (v.setNow c.e)) h
      fun v hv => by rw [setTimeEffect_now now]; exact ⟨rfl, v.setNow_answers c.e, fun u hu => ⟨v, hv, hu⟩⟩
    refine ⟨u, hu, done, fun phase => after.dt.trans (v.setNow_dt phase),
      fun phase => after.within.time.trans ((v.setNow_time phase).trans hv.within.time), fun rate => ?_, fun rate phase => ?_⟩
    · have source : v.tb.cfg.source ≠ 1 := by rw [hv.within.tb]; exact setTime_source h rate
      exact after.within.rateAdj.trans ((State.setNow_rateAdj fun _ => source).trans (if_pos rate))
    · have set := State.setNow_rateAdj (s := v) (e := c.e) fun h => absurd (phase.symm.trans h) nofun
      exact after.within.rateAdj.trans (set.trans ((if_neg (Bool.eq_false_iff.1 rate)).trans hv.within.rateAdj))
  · intro t c s0 s block parts h
    obtain ⟨u, hu, queues, waits⟩ := command_waits_for_block (eff := readStampsEffect c) h
      fun v hv => ⟨_, hv.stampsRead, by rw [readStampsEffect_eq, hv.stampBlock]⟩
    have base : u.tb = s.stampsRead.tb := queues.reports.within.tb
    refine ⟨u, s.fresh, hu, waits, queues.job, base, ?_⟩
    rw [base]
    exact queues.reports
  · intro t c s0 s block parts h
    obtain ⟨u, hu, queues, waits⟩ := command_waits_for_block (eff := timeStatusEffect c) (b := s.tb) h
      fun v hv => ⟨v, hv, by rw [timeStatusEffect, hv.timeBlock]⟩
    exact ⟨u, _, hu, waits, queues.job, queues.reports⟩

end Sys2Proof.Machine
end

section
/-!
What happens to the time base: PTP frames and transmissions, a lost source, PPS_IN and PPS_OUT (10 R363 to R365, R369, R373, R374, R381).
-/

namespace Sys2Proof.Machine

variable {s u : State} {t : Nat}

/-! ### PTP (10 R363 to R365) -/

/-- The timing port hands a frame to the client: one of its transport and domain, whole and of no more than 1,522 bytes. -/
def State.timingTakes (s : State) (f : PtpFrame) : Bool :=
  f.transport == (if s.ownTransport 1 then .annexE else .annexF) && f.length ≤ 1522 && ptpWhole f.message && s.ptpOurs f.message

theorem State.timingTakes_iff {f : PtpFrame} : s.timingTakes f = true ↔ f.length ≤ 1522 ∧ ptpWhole f.message = true ∧
    s.ptpOurs f.message = true ∧ f.transport = (if s.tb.cfg.transport = 1 then .annexE else .annexF) := by
  simp only [State.timingTakes, State.ownTransport, if_true, decide_eq_true_eq, Bool.and_eq_true, beq_iff_eq]
  tauto

section
variable {f : PtpFrame} {sub : Fin 512} (hl : (s.elapse t).ptpLive = true)
include hl

theorem execPtpMessage_timing (hu : (s.elapse t).tb.tpUp = true) : exec (.ptpMessage t .timing f sub) s = .next
    (if (s.elapse t).timingTakes f then
      if (s.elapse t).tb.cfg.role = 0 then s.elapse t else (s.elapse t).clientReceive f.message ((s.elapse t).edgeAt sub)
    else (s.elapse t).ptpDiscard) := by
  change execPtpMessage t .timing f sub s = _
  simp only [execPtpMessage, State.ptpReceive, hl, hu, Bool.not_true, Bool.false_eq_true, if_false]
  cases h : (s.elapse t).timingTakes f <;> simp only [State.timingTakes] at h <;> simp [h]

/-- A lane in Ethernet mode passes on a PTP message of any transport that is one. -/
theorem execPtpMessage_lane {l : Fin 128} (hm : ((s.elapse t).lane l).mode = .ethernet) (hs : ((s.elapse t).lane l).st = .up)
    (hf : f.transport ≠ .other) : exec (.ptpMessage t (.lane l) f sub) s = .next
    (if (s.elapse t).tb.cfg.role = 1 then (s.elapse t).ptpDiscard
    else if !ptpWhole f.message then s.elapse t
    else if (s.elapse t).ptpOurs f.message then
      (s.elapse t).masterReceive (f.transport == .annexE) (l + 2) f.message ((s.elapse t).edgeAt sub)
    else (s.elapse t).ptpDiscard) := by
  change execPtpMessage t (.lane l) f sub s = _
  simp [execPtpMessage, State.ptpReceive, hl, hm, hs, hf]

end

/-- A master answers a Delay_Req under the profile that has them. -/
theorem State.masterReceive_delayReq {m : List Byte} (ht : mfld m 0 1 % 16 = 1) (hp : s.tb.cfg.profile = 0) (annexE : Bool) (port rx : Nat) :
    s.masterReceive annexE port m rx = s.answerDelay annexE port m rx := by
  simp [State.masterReceive, ht, hp]

/-- A lane port sends as master. -/
def State.laneMaster (s : State) (l : Nat) : Bool :=
  s.ptpLive && s.tb.cfg.role != 1 && (s.lane l).mode == .ethernet && (s.lane l).st == .up

/-- A transmission of this number is due. -/
def State.ptpDue (s : State) (k : Nat) : Bool := tabGet 0 s.tb.ptpDue k ≤ s.ns

theorem State.ptpDue_iff {k : Nat} : s.ptpDue k = true ↔ tabGet 0 s.tb.ptpDue k ≤ s.ns := decide_eq_true_iff

section
variable {l : Fin 128} (h : (s.elapse t).laneMaster l = true)
include h

/-- An Announce that is due goes before a Sync and a Pdelay_Req (04 R175; 10 R363). -/
theorem execPtpMasterTransmit_sync (hd : (s.elapse t).ptpDue (2 * (l + 2)) = true) (ha : (s.elapse t).ptpDue (2 * (l + 2) + 1) = false) :
    exec (.ptpMasterTransmit t (.lane l) .sync) s = .next ((s.elapse t).sendPtpSync l) :=
  (if_pos h).trans (congrArg _ (if_pos (Bool.and_eq_true_iff.2 ⟨hd, congrArg not ha⟩)))

theorem execPtpMasterTransmit_announce (ha : (s.elapse t).ptpDue (2 * (l + 2) + 1) = true) :
    exec (.ptpMasterTransmit t (.lane l) .announce) s = .next ((s.elapse t).sendPtpAnnounce l) :=
  (if_pos h).trans (congrArg _ (if_pos ha))

theorem execPtpMasterTransmit_pdelay (hp : (s.elapse t).tb.cfg.profile = 1) (hd : (s.elapse t).ptpDue (delayKey (l + 2)) = true)
    (ha : (s.elapse t).ptpDue (2 * (l + 2) + 1) = false) :
    exec (.ptpMasterTransmit t (.lane l) .pdelay) s = .next ((s.elapse t).sendDelayReq (l + 2)) :=
  (if_pos h).trans (congrArg _ (if_pos (Bool.and_eq_true_iff.2 ⟨Bool.and_eq_true_iff.2 ⟨decide_eq_true hp, hd⟩, congrArg not ha⟩)))

end

theorem execPtpDelayRequestTransmit_sends (hl : (s.elapse t).ptpLive = true) (hu : (s.elapse t).tb.tpUp = true)
    (hr : (s.elapse t).tb.cfg.role = 1 ∨ (s.elapse t).tb.cfg.role = 2) (hd : tabGet 0 (s.elapse t).tb.ptpDue 2 ≤ (s.elapse t).ns)
    (hp : (s.elapse t).tb.cfg.profile = 1 ∨ (s.elapse t).tb.parent.isSome = true) :
    exec (.ptpDelayRequestTransmit t) s = .next ((s.elapse t).sendDelayReq 1) :=
  if_pos (by simp only [hl, hu, hr, hd, hp, Bool.and_eq_true, decide_eq_true_eq, Bool.or_eq_true, and_self])

/-! ### The source (10 R365, R369) -/

theorem execSourceLost_lost {k : LossKind} (hu : (s.elapse t).tb.st.inUse = true) (hd : (s.elapse t).lossDue k = true) :
    exec (.sourceLost t k) s = .next (s.elapse t).loseSource := if_pos (by simp only [hu, hd, Bool.and_self])

theorem execSourceLost_stays {k : LossKind} (h : (s.elapse t).tb.st.inUse = false ∨ (s.elapse t).lossDue k = false) :
    exec (.sourceLost t k) s = .next (s.elapse t) := if_neg (by simpa [imp_iff_not_or] using h)

theorem execTpLink_changes {up : Bool} (h : (s.elapse t).supply.lrefAbsent.contains 0 = false ∨ up = false) :
    exec (.tpLink t up) s = .next ((s.elapse t).tpLink up) :=
  congrArg Host.Outcome.next (if_neg (Bool.eq_false_iff.1 (Bool.and_eq_false_iff.2 h.symm)))

/-! ### PPS (10 R373, R374) -/

/-- The state in which an edge of PPS_IN has been seen. -/
def State.ppsSeen (s : State) : State := { s with tb := { s.tb with ppsIn := some s.ns } }

section
variable {sub : Fin 512}

theorem execPpsInEdge_rejected {a : Nat} (ha : (s.elapse t).tb.ppsIn = some a) (hc : (s.elapse t).ns < a + 100000000) :
    exec (.ppsInEdge t sub) s = .next { s.elapse t with
      tb := { (s.elapse t).tb with ppsIn := some (s.elapse t).ns, rejected := satAdd 32 (s.elapse t).tb.rejected 1 } } := by
  change execPpsInEdge t sub s = _
  simp only [execPpsInEdge, ha, hc, decide_true, if_true]

theorem execPpsInEdge_taken (h : ∀ a, (s.elapse t).tb.ppsIn = some a → a + 100000000 ≤ (s.elapse t).ns) :
    exec (.ppsInEdge t sub) s = .next ((s.elapse t).ppsSeen.ppsEdge ((s.elapse t).edgeAt sub)) := by
  refine if_neg ?_
  cases ha : (s.elapse t).tb.ppsIn with
  | none => exact Bool.false_ne_true
  | some a => simpa using h a ha

end

/-- PPS_OUT has risen for a pulse (10 R373). -/
def State.ppsUp (s : State) (p : Int × Nat) : State :=
  State.say { s with tb := { s.tb with ppsLast := p.1, ppsHigh := some (s.ns + 10000 * p.2) } } (.pps true)

theorem execPpsOutRise_rises {p : Int × Nat} (hp : (s.elapse t).ppsRise = some p) (hl : (s.elapse t).supply.live = true)
    (hh : (s.elapse t).tb.ppsHigh = none) :
    exec (.ppsOutRise t) s = .next (((s.elapse t).ppsUp p).emit 8 0 (fun a => a = 0) (256 * p.1.toNat) 0) := by
  change execPpsOutRise t s = _
  simp only [execPpsOutRise, hp, hl, hh, Option.isNone_none, Bool.and_self, if_true]
  rfl

theorem execPpsOutFall_falls (h : (s.elapse t).due (s.elapse t).tb.ppsHigh = true) : exec (.ppsOutFall t) s =
    .next (State.say { s.elapse t with tb := { (s.elapse t).tb with ppsHigh := none } } (.pps false)) := if_pos h

/-! ### A SET_TIME that waits (10 R381) -/

theorem State.timeWaits_some {w : Nat × Nat} {x : Waiting} (h : s.timeWaits = some (w, x)) :
    (s.ring (w.1 / 1024) (w.1 % 1024)).waiting = some x ∧ x.arg = w.2 := by
  unfold State.timeWaits at h
  split at h
  · cases h
  · split at h
    · next x' hx =>
      split at h
      · next ha =>
        obtain ⟨rfl, rfl⟩ := Prod.mk.inj (Option.some.inj h)
        exact ⟨hx, ha⟩
      · cases h
    · cases h

/-- The state in which no SET_TIME waits for an edge. -/
def State.timeAwaited (s : State) : State := { s with tb := { s.tb with waiting := none } }

theorem execSetTimePpsTimeout_fails {w : Nat × Nat} {x : Waiting} (hw : (s.elapse t).timeWaits = some (w, x))
    (hx : x.since + 2000000000 ≤ (s.elapse t).ns) : exec (.setTimePpsTimeout t) s =
      .next ((s.elapse t).timeAwaited.finishWaiting w.1 w.2 ((s.elapse t).badState 0x12)) := by
  change execSetTimePpsTimeout t s = _
  simp only [execSetTimePpsTimeout, hw, hx, if_true]
  rfl

/-- Settles O38: each row by its guard. That a frame of the timing port's domain leaves everything as it is under ROLE 0 is the model's own
choice; entry 40 has such a frame counted as discarded. -/
theorem timeBaseRows : Obligations.TimeBaseRows := by
  intro t s s1 b ours due
  refine ⟨?_, ?_, ?_, ?_, ?_, ?_, ?_, ?_, ?_, ?_, ?_, ?_⟩
  · intro f sub live up
    have row := execPtpMessage_timing (f := f) (sub := sub) live up
    refine ⟨fun h role => ?_, fun h role => ?_, fun h => ?_⟩
    · exact row.trans (congrArg _ ((if_pos (State.timingTakes_iff.2 h)).trans (if_neg role)))
    · exact row.trans (congrArg _ ((if_pos (State.timingTakes_iff.2 h)).trans (if_pos role)))
    · exact row.trans (congrArg _ (if_neg (mt State.timingTakes_iff.1 h)))
  · intro l f sub live mode up transport
    have row := execPtpMessage_lane (sub := sub) live mode up transport
    refine ⟨fun role => row.trans (congrArg _ (if_pos role)), fun role whole domain type profile => ?_⟩
    rw [row, if_neg role, whole, domain, State.masterReceive_delayReq type profile]
    rfl
  · intro l live role mode up
    have other : (s1.tb.cfg.role != 1) = true := bne_iff_ne.2 role
    have master : s1.laneMaster l = true := by rw [State.laneMaster, live, other, mode, up]; rfl
    have notDue (k : Nat) (h : ¬due k) : s1.ptpDue k = false := Bool.eq_false_iff.2 (mt State.ptpDue_iff.1 h)
    exact ⟨fun hd ha => execPtpMasterTransmit_sync master (State.ptpDue_iff.2 hd) (notDue _ ha),
      fun ha => execPtpMasterTransmit_announce master (State.ptpDue_iff.2 ha),
      fun hp hd ha => execPtpMasterTransmit_pdelay master hp (State.ptpDue_iff.2 hd) (notDue _ ha)⟩
  · intro live up role hd delay
    exact execPtpDelayRequestTransmit_sends live up role hd delay
  · intro k inUse lost
    exact execSourceLost_lost inUse lost
  · intro k h
    exact execSourceLost_stays h
  · intro sub a seen close
    exact execPpsInEdge_rejected seen close
  · intro sub h
    exact execPpsInEdge_taken h
  · intro p rise live low
    have emitted := (s1.ppsUp p).emit_tb 8 0 (fun a => a = 0) (256 * p.1.toNat) 0
    have sent := ((s1.ppsUp p).emit_ends 8 0 (fun a => a = 0) (256 * p.1.toNat) 0).sent
    exact ⟨_, execPpsOutRise_rises rise live low, emitted, sent _ List.mem_cons_self⟩
  · intro h
    exact execPpsOutFall_falls h
  · intro up live changes rate reference
    exact ⟨_, execTpLink_changes reference, State.tpLink_tpUp live changes rate⟩
  · intro w x waits since
    obtain ⟨waiting, arg⟩ := State.timeWaits_some waits
    have told := s1.timeAwaited.finishWaiting_reports w.1 w.2 (s1.badState 0x12)
    have base : _ = s1.timeAwaited.tb := told.within.tb
    have only : s1.timeAwaited.WaitsOnly w.1 w.2 := fun y hy => by
      obtain rfl := Option.some.inj (hy.symm.trans waiting)
      exact arg
    refine ⟨_, execSetTimePpsTimeout_fails waits since, base, ?_, State.finishWaiting_waiting only _⟩
    rw [base]
    exact told

end Sys2Proof.Machine
end

section
/-!
SUPPORT. The encoder channels (11): what each operation on one of them leaves of it and of the others.
-/

namespace Sys2Proof.Machine

variable {s u v : State}

/-! ### Operations that leave every channel -/

theorem State.Within.encoders (h : u.Within s) : u.encoders = s.encoders := by obtain ⟨_, _, _, _, _, rfl⟩ := h; rfl
theorem State.Within.enc (h : u.Within s) (e : Nat) : u.enc e = s.enc e := congrArg (tabGet Encoder.reset · e) h.encoders

theorem State.emit_encoders (s : State) (kind index : Nat) (arg : Nat → Bool) (stamp p : Nat) :
    (s.emit kind index arg stamp p).encoders = s.encoders := by
  have records (u : State) (n : Nat) : (u.gatedRecords n stamp).encoders = u.encoders :=
    foldl_keeps State.encoders (fun _ _ => (State.journal_reports ..).within.encoders) ..
  have emits (u : State) (n : Nat) : (u.emitOn n stamp p).encoders = u.encoders := by
    simp only [State.emitOn, apply_ite State.encoders, records, State.setChannel_encoders, ite_self]
  unfold State.emit
  split
  · rfl
  · exact foldl_keeps State.encoders emits ..

theorem State.hostPutParts_reports (s : State) (port : Nat) (parts : List (Nat × List Byte)) : (s.hostPutParts port parts).Reports s :=
  State.Reports.foldl (fun _ _ => State.hostPut_reports ..) _ _

theorem State.blockOut_encoders (s : State) (p i area slotLog2 : Nat) (b : CapBlock) :
    (s.blockOut p i area slotLog2 b).encoders = s.encoders :=
  ((State.writeEntry_reports ..).trans (State.hostPutParts_reports ..)).within.encoders

theorem State.placeBlock_encoders {k : Nat} {c : Capture} {b : CapBlock} (h : s.placeBlock k c b = some u) : u.encoders = s.encoders := by
  simp only [State.placeBlock, Option.ite_none_left_eq_some, Option.some.injEq] at h
  obtain ⟨-, rfl⟩ := h
  have area (t : State) : (t.areaPut b).encoders = t.encoders := rfl
  have put (c : Capture) : (s.setCapture k c).encoders = s.encoders := rfl
  simp only [apply_ite State.encoders, State.blockOut_encoders, area, put, ite_self]

theorem State.placeBlocks_encoders (s : State) (k n : Nat) : (s.placeBlocks k n).encoders = s.encoders := by
  induction n generalizing s with
  | zero => rfl
  | succ n ih =>
    unfold State.placeBlocks
    split
    · rfl
    · split
      · rfl
      · split
        · rfl
        · next placed => exact (ih _).trans (State.placeBlock_encoders placed)

theorem State.captureFlush_encoders (s : State) (k : Nat) : (s.captureFlush k).encoders = s.encoders := by
  unfold State.captureFlush
  split
  · rfl
  · next c _ =>
    have placed := s.placeBlocks_encoders k c.queue.length
    dsimp only
    split
    · exact placed
    · split
      · exact (foldl_keeps State.encoders (fun _ _ => (State.finishWaiting_reports ..).within.encoders) ..).trans placed
      · exact placed

theorem State.captureCheck_encoders (s : State) (k : Nat) : (s.captureCheck k).encoders = s.encoders := by
  unfold State.captureCheck
  split
  · rfl
  · split
    · exact (State.record_reports ..).within.encoders
    · rfl

theorem State.captureEncoder_encoders (s : State) (ch stamp kind : Nat) (count : Option Nat) :
    (s.captureEncoder ch stamp kind count).encoders = s.encoders := by
  refine foldl_keeps State.encoders (fun t k => ?_) ..
  split
  · split
    · exact (State.captureCheck_encoders ..).trans (State.captureFlush_encoders ..)
    · rfl
  · rfl

theorem State.encRecord_reports (s : State) (e i cls typ hi data : Nat) : (s.encRecord e i cls typ hi data).Reports s :=
  State.recordAt_reports ..

theorem State.journalObserver_reports (s : State) (e tu : Nat) : (s.journalObserver e tu).Reports s := by
  unfold State.journalObserver
  exact .dite (State.journal_reports ..) (.refl s)

theorem State.slotsOnEdge_encoders (s : State) (e visible : Nat) : (s.slotsOnEdge e visible).encoders = s.encoders := rfl
theorem State.slotsOnJump_encoders (s : State) (e tj : Nat) : (s.slotsOnJump e tj).encoders = s.encoders := rfl

theorem State.tgLimited_encoders (s : State) (g q cls typ data : Nat) : (s.tgLimited g q cls typ data).encoders = s.encoders := by
  unfold State.tgLimited
  extract_lets x r s1
  split
  · exact (State.report_reports ..).within.encoders
  · rfl

theorem State.tgCount_encoders (s : State) (g code : Nat) : (s.tgCount g code).encoders = s.encoders := rfl

theorem State.slotsOnUpdate_encoders (s : State) (e : Nat) : (s.slotsOnUpdate e).encoders = s.encoders := by
  unfold State.slotsOnUpdate
  extract_lets x go shorts s1
  have mapped : s1.encoders = s.encoders := rfl
  have limits (t : State) (r : Nat × Nat × Nat) :
      ((t.tgCount r.2.1 10).tgLimited r.2.1 r.1 2 0x0607 (min r.2.2 (2 ^ 24 - 1))).encoders = t.encoders := by
    rw [State.tgLimited_encoders, State.tgCount_encoders]
  exact (foldl_keeps State.encoders limits shorts s1).trans mapped

/-! ### Operations that move the tallies of one channel -/

/-- A channel without its tallies: its counters and the last records of them, and its divider. -/
def Encoder.untallied (x : Encoder) : Encoder := { x with counters := [], reports := [], div := none }

/-- The channels of u are those of s, but for the tallies of channel e. -/
structure State.TalliesMove (u s : State) (e : Nat) : Prop where
  own : (u.enc e).untallied = (s.enc e).untallied
  others : ∀ j, j ≠ e → u.enc j = s.enc j

section
variable {e : Nat} {x y : Encoder}

theorem State.TalliesMove.trans (h : u.TalliesMove v e) (g : v.TalliesMove s e) : u.TalliesMove s e :=
  ⟨h.own.trans g.own, fun j hj => (h.others j hj).trans (g.others j hj)⟩

theorem State.TalliesMove.of_encoders (h : u.encoders = s.encoders) : u.TalliesMove s e := by
  have same (j : Nat) : u.enc j = s.enc j := congrArg (tabGet Encoder.reset · j) h
  exact ⟨congrArg _ (same e), fun j _ => same j⟩

theorem State.TalliesMove.refl (s : State) (e : Nat) : s.TalliesMove s e := .of_encoders rfl

theorem State.TalliesMove.ite {c : Prop} [Decidable c] (h : u.TalliesMove s e) (g : v.TalliesMove s e) :
    (if c then u else v).TalliesMove s e := by
  split <;> assumption

theorem State.Reports.tallies (h : u.Reports s) (e : Nat) : u.TalliesMove s e := .of_encoders h.within.encoders

theorem State.setEnc_of_encoders (h : u.encoders = s.encoders) (y : Encoder) : (u.setEnc e y).TalliesMove (s.setEnc e y) e :=
  .of_encoders (congrArg (tabPut · e y) h)

theorem State.setEnc_setEnc (s : State) (e : Nat) (x y : Encoder) : (s.setEnc e x).setEnc e y = s.setEnc e y := by
  simp [State.setEnc, tabPut_put]

/-- A channel put with other tallies. -/
theorem State.setEnc_own_tallies (h : x.untallied = (s.enc e).untallied) : (s.setEnc e x).TalliesMove s e :=
  ⟨by simpa using h, fun _ hj => State.enc_setEnc_other _ _ _ _ hj⟩

/-- What a reading of the channel that ignores its tallies gives, once channel e has been put as y. -/
theorem State.TalliesMove.reads {α : Type} (f : Encoder → α) (hf : ∀ x, f x.untallied = f x) (h : u.TalliesMove (s.setEnc e y) e) :
    f (u.enc e) = f y := by
  rw [← hf, h.own, hf, State.enc_setEnc]

theorem State.TalliesMove.beside (h : u.TalliesMove (s.setEnc e y) e) : ∀ j, j ≠ e → u.enc j = s.enc j :=
  fun j hj => (h.others j hj).trans (State.enc_setEnc_other _ _ _ _ hj)

end

theorem State.encCount_tallies (s : State) (e code n : Nat) : (s.encCount e code n).TalliesMove s e := by
  unfold State.encCount
  refine .ite (.refl s e) ?_
  extract_lets x v old base free s1 src s2 up
  have counted : s1.TalliesMove s e := State.setEnc_own_tallies rfl
  have noted : s2.TalliesMove s e := (State.setEnc_own_tallies (by rfl)).trans counted
  exact .ite (.ite (((State.encRecord_reports ..).tallies e).trans noted) (((State.encRecord_reports ..).tallies e).trans noted)) counted

theorem State.obsChange_tallies (s : State) (e i cause : Nat) (old : ObsState) (resid : Int) :
    (s.obsChange e i cause old resid).TalliesMove s e := by
  unfold State.obsChange
  extract_lets x s0 s1 s2
  have told : s0.TalliesMove s e := (State.journal_reports ..).tallies e
  have counted : s1.TalliesMove s e := .ite ((s0.encCount_tallies e 7 1).trans told) told
  exact (State.TalliesMove.of_encoders (State.emit_encoders ..)).trans (((State.encRecord_reports ..).tallies e).trans counted)

theorem State.divide_tallies (s : State) (e i k : Nat) (forward : Bool) : (s.divide e i k forward).TalliesMove s e := by
  unfold State.divide
  extract_lets x
  split
  · exact .refl s e
  · exact (State.encCount_tallies ..).trans (State.setEnc_own_tallies rfl)

/-! ### Counts (11 R388, R394, R398) -/

/-- A change of channel e to y, captured before and told to the divider and the slots after, leaves y but for its tallies. -/
theorem State.changed_tallies (s : State) (e i kind k visible : Nat) (count : Option Nat) (forward : Bool) (y : Encoder) :
    ((((s.captureEncoder e i kind count).setEnc e y).divide e i k forward).slotsOnEdge e visible).TalliesMove (s.setEnc e y) e :=
  (State.TalliesMove.of_encoders (State.slotsOnEdge_encoders ..)).trans
    ((State.divide_tallies ..).trans (State.setEnc_of_encoders (State.captureEncoder_encoders ..) y))

/-- The count after one step: up, or down under REVERSE, modulo 2^32. -/
def Encoder.stepped (x : Encoder) (f : Bool) : Nat :=
  if f != x.cfg.reverse then (x.count + 1) % 2 ^ 32 else (x.count + 2 ^ 32 - 1) % 2 ^ 32

theorem State.countBy_counts (s : State) (e i : Nat) (f : Bool) : ((s.countBy e i f).enc e).count = (s.enc e).stepped f ∧
    ((s.countBy e i f).enc e).cfg = (s.enc e).cfg ∧ ∀ j, j ≠ e → (s.countBy e i f).enc j = s.enc j := by
  unfold State.countBy
  extract_lets x up c m
  have placed := s.changed_tallies e i (b2n !up) 1 (i + 320 * (x.cfg.filter + 4)) none up ((x.push i c m).prune s.dt256)
  exact ⟨(placed.reads Encoder.count fun _ => rfl).trans rfl, (placed.reads Encoder.cfg fun _ => rfl).trans rfl, placed.beside⟩

/-- A jump at tj makes the channel read the new count there; but for its counts, its positions and its readings it stays as it is. -/
theorem State.encJump_puts (s : State) (e tj new hi : Nat) : ∃ y, (s.encJump e tj new hi).TalliesMove (s.setEnc e y) e ∧
    y.rawAt tj = new % 2 ^ 32 ∧ ∃ c es ps p rs, y = { s.enc e with count := c, edges := es, points := ps, p := p, readings := rs } := by
  unfold State.encJump
  extract_lets x before delta move moveP marked later jumpEdge after until_ here y s1
  have told : s1.encoders = (s.setEnc e y).encoders := (State.encRecord_reports ..).within.encoders
  refine ⟨y, .of_encoders ((State.journal_reports ..).within.encoders.trans told), ?_, _, _, _, _, _, rfl⟩
  have stamp (d : CountEdge) : (marked d).stamp = d.stamp := by
    change (if d.jump then d else { d with mark := move d.mark }).stamp = d.stamp
    split <;> rfl
  have late : later.find? (fun d => d.stamp ≤ tj) = none := by simp [later, stamp, List.find?_eq_none]
  simp [Encoder.rawAt, y, List.find?_append, late, jumpEdge]

/-- What Z and its capture leave of a channel: Z_COUNT, Z_TIME, Z_ARMED and the level of Z. -/
def Encoder.zState (x : Encoder) : Nat × Nat × Bool × Bool := (x.zCount, x.zTime, x.zArmed, x.z)

theorem State.encJump_zState (s : State) (e tj new hi : Nat) : ((s.encJump e tj new hi).enc e).zState = (s.enc e).zState ∧
    ∀ j, j ≠ e → (s.encJump e tj new hi).enc j = s.enc j := by
  obtain ⟨y, moved, -, _, _, _, _, _, kept⟩ := s.encJump_puts e tj new hi
  exact ⟨(moved.reads Encoder.zState fun _ => rfl).trans (kept ▸ rfl), moved.beside⟩

/-- An accepted Z edge captures the count and its stamp, whether or not the count jumps (11 R397). -/
theorem State.zMark_marks (s : State) (e i : Nat) :
    ((s.zMark e i).enc e).zState = ((s.enc e).rawAt i, i, false, (s.enc e).z) ∧ ∀ j, j ≠ e → (s.zMark e i).enc j = s.enc j := by
  unfold State.zMark
  extract_lets x jump s1 s2
  have captured := State.setEnc_of_encoders (e := e) (s.captureEncoder_encoders e i 2 none)
    { x with zCount := x.rawAt i, zTime := i, zArmed := false }
  have emitted : s2.TalliesMove s1 e := .ite (.of_encoders (State.emit_encoders ..)) (.refl s1 e)
  have marked := emitted.trans ((State.encCount_tallies _ e 8 1).trans captured)
  have own : (s2.enc e).zState = (x.rawAt i, i, false, x.z) := marked.reads Encoder.zState fun _ => rfl
  split
  · obtain ⟨still, beside⟩ := s2.encJump_zState e i x.cfg.zPreset 0
    exact ⟨still.trans own, fun j hj => (beside j hj).trans (marked.beside j hj)⟩
  · exact ⟨own, marked.beside⟩

/-- The first reading of a serial sensor gives the count (11 R394). -/
theorem State.goodReading_counts {e : Nat} (first : (s.enc e).readings = []) (i pos : Nat) (warn : Bool) :
    ((s.goodReading e i pos warn).enc e).count = pos ∧ ((s.goodReading e i pos warn).enc e).serOpen = (s.enc e).serOpen ∧
      ((s.goodReading e i pos warn).enc e).discards = 0 ∧ ((s.goodReading e i pos warn).enc e).sensorWarn = warn := by
  unfold State.goodReading
  extract_lets x d0 d c y
  have count : c = pos := if_pos (List.isEmpty_iff.2 first)
  have placed := s.changed_tallies e i 6 d.natAbs s.dt256 (some c) (0 ≤ d) ((y.push i c c).prune s.dt256)
  exact ⟨(placed.reads Encoder.count fun _ => rfl).trans count, (placed.reads Encoder.serOpen fun _ => rfl).trans rfl,
    (placed.reads Encoder.discards fun _ => rfl).trans rfl, (placed.reads Encoder.sensorWarn fun _ => rfl).trans rfl⟩

/-! ### Observers (11 R400, R401) -/

theorem State.forceLost_faults (s : State) (e i cause : Nat) : ((s.forceLost e i cause).enc e).faults = (s.enc e).faults := by
  unfold State.forceLost
  extract_lets x y
  split
  · rfl
  · exact ((State.obsChange_tallies ..).reads Encoder.faults fun _ => rfl).trans rfl

theorem State.forceLost_st {e : Nat} (on : (s.enc e).st ≠ .off) (i cause : Nat) : ((s.forceLost e i cause).enc e).st = .lost := by
  unfold State.forceLost
  rw [if_neg (by simpa using on)]
  exact ((State.obsChange_tallies ..).reads Encoder.st fun _ => rfl).trans rfl

theorem State.obsStep_puts (s : State) (e tu : Nat) :
    ∃ y, (s.obsStep e tu).TalliesMove (s.setEnc e y) e ∧ y.tk = tu ∧ y.count = (s.enc e).count := by
  unfold State.obsStep
  extract_lets x pp res r y i ok locked c z
  clear_value res
  split
  · exact ⟨_, .refl .., rfl, rfl⟩
  · split
    · split
      · exact ⟨_, State.obsChange_tallies .., rfl, rfl⟩
      · exact ⟨_, .refl .., rfl, rfl⟩
    · split
      · exact ⟨_, State.obsChange_tallies .., rfl, rfl⟩
      · exact ⟨_, .refl .., rfl, rfl⟩

/-- An update moves its channel on to its instant and leaves the count and every other channel. -/
theorem State.obsUpdate_updates (s : State) (e tu : Nat) : (((s.obsUpdate e tu).slotsOnUpdate e).enc e).tk = tu ∧
    (((s.obsUpdate e tu).slotsOnUpdate e).enc e).count = (s.enc e).count ∧
    ∀ j, j ≠ e → ((s.obsUpdate e tu).slotsOnUpdate e).enc j = s.enc j := by
  obtain ⟨y, put, tk, count⟩ := s.obsStep_puts e tu
  have moved := (State.TalliesMove.of_encoders ((s.obsUpdate e tu).slotsOnUpdate_encoders e)).trans
    (((State.journalObserver_reports ..).tallies e).trans put)
  exact ⟨(moved.reads Encoder.tk fun _ => rfl).trans tk, (moved.reads Encoder.count fun _ => rfl).trans count, moved.beside⟩

end Sys2Proof.Machine
end

section
/-!
Counting at the edges of a channel's inputs (11 R388 to R390).
-/

namespace Sys2Proof.Machine

/-- An input rises from its level x to its level a. -/
def rises (x a : Bool) : Bool := !x && a

theorem rises_iff {x a : Bool} : rises x a = true ↔ x = false ∧ a = true := by simp [rises]
theorem not_rises_iff {x a : Bool} : rises x a = false ↔ x = true ∨ a = false := by
  rw [rises, Bool.and_eq_false_iff, Bool.not_eq_false']

/-- An edge that counts moves the count of its channel by one, and no other channel. -/
theorem counts_of_row {o : Host.Outcome State Fault Refusal} {s : State} {y : Encoder} {e i : Nat} {f : Bool}
    (row : o = .next ((s.setEnc e y).countBy e i f)) (count : y.count = (s.enc e).count) (cfg : y.cfg = (s.enc e).cfg) :
    ∃ u, o = .next u ∧ (u.enc e).count = (s.enc e).stepped f ∧ (u.enc e).cfg = (s.enc e).cfg ∧ ∀ j, j ≠ e → u.enc j = s.enc j := by
  obtain ⟨counted, kept, others⟩ := (s.setEnc e y).countBy_counts e i f
  rw [State.enc_setEnc] at counted kept
  refine ⟨_, row, counted.trans ?_, kept.trans cfg, fun j hj => (others j hj).trans (State.enc_setEnc_other _ _ _ _ hj)⟩
  simp only [Encoder.stepped, count, cfg]

section
variable {t : Nat} {e : Fin 16} {sub : Fin 512} {s s1 : State} {x : Encoder} (hs : s.elapse t = s1) (hx : s1.enc e = x)
  (live : s1.encLive = true)
include hs hx live

section
variable {p q a b : Bool} {i : Nat} (hi : s1.sampleAt sub = i) (ha : x.passes 0 x.a p i = a) (hb : x.passes 1 x.b q i = b)
include hi ha hb

/-! ### Quadrature (11 R388) -/

section
variable (low : 1 ≤ x.cfg.mode) (high : x.cfg.mode ≤ 3)
include low high

theorem execQuadratureEdge_both (moved : x.a ≠ a ∧ x.b ≠ b) :
    exec (.quadratureEdge t e p q sub) s = .next ((s1.setEnc e (x.takeAB a b i)).decodeError e i 1) := by
  subst hs hx hi ha hb
  change execQuadratureEdge t e p q sub s = _
  simp [execQuadratureEdge, live, low, high, moved]

theorem execQuadratureEdge_counts {f : Bool} (still : x.a = a ∨ x.b = b) (step : quadStep x.cfg.mode x.a x.b a b = some f) :
    exec (.quadratureEdge t e p q sub) s = .next ((s1.setEnc e (x.takeAB a b i)).countBy e i f) := by
  subst hs hx hi ha hb
  have one := not_and_or.2 (still.imp not_not_intro not_not_intro)
  change execQuadratureEdge t e p q sub s = _
  simp [execQuadratureEdge, live, low, high, one, step]

theorem execQuadratureEdge_moves (still : x.a = a ∨ x.b = b) (step : quadStep x.cfg.mode x.a x.b a b = none) :
    exec (.quadratureEdge t e p q sub) s = .next (s1.setEnc e (x.takeAB a b i)) := by
  subst hs hx hi ha hb
  have one := not_and_or.2 (still.imp not_not_intro not_not_intro)
  change execQuadratureEdge t e p q sub s = _
  simp [execQuadratureEdge, live, low, high, one, step]

end

/-! ### Step and direction, up and down (11 R389) -/

theorem execStepEdge_counts (mode : x.cfg.mode = 4) (edge : x.a ≠ a ∧ a ≠ x.cfg.stepEdge) :
    exec (.stepEdge t e p q sub) s = .next ((s1.setEnc e (x.takeAB a b i)).countBy e i b) := by
  subst hs hx hi ha hb
  change execStepEdge t e p q sub s = _
  simp [execStepEdge, live, mode, edge]

theorem execStepEdge_moves (mode : x.cfg.mode = 4) (edge : x.a = a ∨ a = x.cfg.stepEdge) :
    exec (.stepEdge t e p q sub) s = .next (s1.setEnc e (x.takeAB a b i)) := by
  subst hs hx hi ha hb
  have idle := not_and_or.2 (edge.imp not_not_intro not_not_intro)
  change execStepEdge t e p q sub s = _
  simp [execStepEdge, live, mode, idle]

theorem execUpDownEdge_counts (mode : x.cfg.mode = 5) (one : rises x.a a ≠ rises x.b b) :
    exec (.upDownEdge t e p q sub) s = .next ((s1.setEnc e (x.takeAB a b i)).countBy e i (rises x.a a)) := by
  subst hs hx hi ha hb
  unfold rises at one
  change execUpDownEdge t e p q sub s = _
  simp only [execUpDownEdge, rises, live, mode, decide_true, Bool.and_self, if_true, bne_iff_ne, one, ne_eq, not_false_eq_true]

/-- Two inputs that rise in one sample leave the count as it is. -/
theorem execUpDownEdge_moves (mode : x.cfg.mode = 5) (same : rises x.a a = rises x.b b) :
    exec (.upDownEdge t e p q sub) s = .next (s1.setEnc e (x.takeAB a b i)) := by
  subst hs hx hi ha hb
  unfold rises at same
  change execUpDownEdge t e p q sub s = _
  simp only [execUpDownEdge, live, mode, decide_true, Bool.and_self, if_true, bne_iff_ne, same, ne_eq, not_true_eq_false, if_false]

end

/-! ### Hall inputs (11 R390) -/

section
variable {hu hv hw : Bool} {h old i : Nat} (hh : b2n hu + 2 * b2n hv + 4 * b2n hw = h) (hi : s1.edgeAt sub = i)
  (mode : x.cfg.mode = 6) (was : x.hall = some old) (moved : h ≠ old)
include hh hi mode was moved

theorem execHallChange_eq : exec (.hallChange t e hu hv hw sub) s =
    .next (if h ≠ 0 ∧ hallNext old = h then (s1.setEnc e { x with hall := some h }).countBy e i true
      else if old ≠ 0 ∧ hallNext h = old then (s1.setEnc e { x with hall := some h }).countBy e i false
      else (s1.setEnc e { x with hall := some h }).decodeError e i 2) := by
  subst hs hx hh hi
  change execHallChange t e hu hv hw sub s = _
  have other : (some old != some (b2n hu + 2 * b2n hv + 4 * b2n hw)) = true := by simpa using moved.symm
  simp only [execHallChange, live, mode, was, other, decide_true, Bool.and_self, if_true, Bool.and_eq_true, bne_iff_ne, decide_eq_true_eq,
    apply_ite Host.Outcome.next]

end
end

/-- Settles O40: each row by the step that its mode counts, and every step by what one count leaves of the channels. -/
theorem encoderEdgesCount : Obligations.EncoderEdgesCount := by
  intro t e sub s s1 x i step mode
  have live : s1.encLive = true := bne_iff_ne.2 mode
  refine ⟨?_, ?_, ?_, ?_⟩
  · intro p q low high a b
    refine ⟨fun ha hb => ?_, fun still idle => ?_, fun f still counts => ?_⟩
    · exact execQuadratureEdge_both rfl rfl live rfl rfl rfl low high ⟨ha, hb⟩
    · exact execQuadratureEdge_moves rfl rfl live rfl rfl rfl low high still idle
    · exact counts_of_row (execQuadratureEdge_counts rfl rfl live rfl rfl rfl low high still counts) rfl rfl
  · intro p q mode a dir
    refine ⟨fun moved edge => ?_, fun edge => ?_⟩
    · exact counts_of_row (execStepEdge_counts rfl rfl live rfl rfl rfl mode ⟨moved, edge⟩) rfl rfl
    · exact execStepEdge_moves rfl rfl live rfl rfl rfl mode edge
  · intro p q mode up down
    have counts (one : rises x.a up ≠ rises x.b down) :=
      counts_of_row (execUpDownEdge_counts (sub := sub) rfl rfl live rfl rfl rfl mode one) rfl rfl
    refine ⟨fun xa ua still => ?_, fun still xb ub => ?_, fun same => ?_⟩
    · have ra : rises x.a up = true := rises_iff.2 ⟨xa, ua⟩
      have rb : rises x.b down = false := not_rises_iff.2 still
      rw [ra, rb] at counts
      exact counts nofun
    · have ra : rises x.a up = false := not_rises_iff.2 still
      have rb : rises x.b down = true := rises_iff.2 ⟨xb, ub⟩
      rw [ra, rb] at counts
      exact counts nofun
    · exact execUpDownEdge_moves rfl rfl live rfl rfl rfl mode (Bool.eq_iff_iff.2 (rises_iff.trans (same.trans rises_iff.symm)))
  · intro hu hv hw old h mode was moved
    have row := execHallChange_eq (hu := hu) (hv := hv) (hw := hw) (sub := sub) rfl rfl live rfl rfl mode was moved
    refine ⟨fun state next => ?_, fun state next other => ?_, fun forward back => ?_⟩
    · exact counts_of_row (row.trans (congrArg _ (if_pos ⟨state, next⟩))) rfl rfl
    · have not_forward : ¬(h ≠ 0 ∧ hallNext old = h) := by tauto
      exact counts_of_row (row.trans (congrArg _ ((if_neg not_forward).trans (if_pos ⟨state, next⟩)))) rfl rfl
    · have not_forward : ¬(h ≠ 0 ∧ hallNext old = h) := by tauto
      have not_back : ¬(old ≠ 0 ∧ hallNext h = old) := by tauto
      exact row.trans (congrArg _ ((if_neg not_forward).trans (if_neg not_back)))

end Sys2Proof.Machine
end

section
/-!
ENCODER_CONFIG (11 R398, R410, R411, R413 to R416).
-/

namespace Sys2Proof.Machine

variable {s u v : State}

/-! ### What the completion of a ring command needs -/

@[simp] theorem State.setEnc_bearing (s : State) (e : Nat) (x : Encoder) : (s.setEnc e x).bearing = s.bearing := rfl

@[simp] theorem State.emit_bearing (s : State) (kind index : Nat) (arg : Nat → Bool) (stamp p : Nat) :
    (s.emit kind index arg stamp p).bearing = s.bearing := by
  simp [State.emit]

@[simp] theorem State.encRecord_bearing (s : State) (e i cls typ hi data : Nat) :
    (s.encRecord e i cls typ hi data).bearing = s.bearing := (State.encRecord_reports ..).bearing

@[simp] theorem State.encCount_bearing (s : State) (e code n : Nat) : (s.encCount e code n).bearing = s.bearing := by
  simp [State.encCount]

@[simp] theorem State.obsChange_bearing (s : State) (e i cause : Nat) (old : ObsState) (resid : Int) :
    (s.obsChange e i cause old resid).bearing = s.bearing := by
  simp [State.obsChange, State.journalObsEvent]

@[simp] theorem State.encConfigure_bearing (s : State) (p e : Nat) (c : EncCfg) : (s.encConfigure p e c).bearing = s.bearing := by
  simp [State.encConfigure]

@[simp] theorem State.slotsOnJump_bearing (s : State) (e tj : Nat) : (s.slotsOnJump e tj).bearing = s.bearing := rfl

@[simp] theorem State.encJump_bearing (s : State) (e tj new hi : Nat) : (s.encJump e tj new hi).bearing = s.bearing := by
  simp [State.encJump]

theorem State.setEnc_answers (s : State) (e : Nat) (x : Encoder) : (s.setEnc e x).Answers s := State.answers_of_ports rfl rfl

theorem State.encConfigure_answers (s : State) (p e : Nat) (c : EncCfg) : (s.encConfigure p e c).Answers s :=
  State.bearing_answers (s.encConfigure_bearing p e c) (congrArg Spine.mode (s.encConfigure_spine p e c))

theorem State.encJump_answers (s : State) (e tj new hi : Nat) : (s.encJump e tj new hi).Answers s :=
  State.bearing_answers (s.encJump_bearing e tj new hi) (congrArg Spine.mode (s.encJump_spine e tj new hi))

theorem State.captureEncoder_encLive (s : State) (ch stamp kind : Nat) (count : Option Nat) :
    (s.captureEncoder ch stamp kind count).encLive = s.encLive :=
  congrArg (fun m : Mode => m != .keep) (congrArg Spine.mode (s.captureEncoder_spine ch stamp kind count))

/-! ### SET_COUNT (11 R398, R415) -/

/-- SET_COUNT leaves its channel with its new owner, and reading the count given at the commit stamp. -/
theorem setCountEffect_puts (c : RingCmd) (s : State) : ∃ y, (setCountEffect c s).1.TalliesMove (s.setEnc (encCh c.e) y) (encCh c.e) ∧
    y.rawAt (256 * s.dt) = fld c.e 0xC 4 ∧ y.owner = some c.p ∧ y.cfg = (s.enc (encCh c.e)).cfg := by
  obtain ⟨y, put, count, _, _, _, _, _, kept⟩ :=
    (s.setEnc (encCh c.e) { s.enc (encCh c.e) with owner := some c.p }).encJump_puts (encCh c.e) (256 * s.dt) (fld c.e 0xC 4) 1
  rw [State.setEnc_setEnc] at put
  rw [State.enc_setEnc] at kept
  refine ⟨y, put, count.trans (Nat.mod_eq_of_lt (fld_lt c.e 0xC 4)), ?_, ?_⟩
  · rw [kept]
  · rw [kept]

theorem setCountEffect_answers (c : RingCmd) (s : State) : (setCountEffect c s).1.Answers s :=
  (State.encJump_answers ..).trans (s.setEnc_answers ..)

/-! ### CONFIGURE and RELEASE (11 R413, R415) -/

/-- CONFIGURE leaves its channel with the configuration and the owner given. -/
theorem State.encConfigure_puts (s : State) (p e : Nat) (c : EncCfg) :
    ∃ y, (s.encConfigure p e c).TalliesMove (s.setEnc e y) e ∧ y.cfg = c ∧ y.owner = some p := by
  unfold State.encConfigure
  extract_lets x g on armed y z y' z'
  split
  · exact ⟨_, State.obsChange_tallies .., rfl, rfl⟩
  · split
    · exact ⟨_, State.obsChange_tallies .., rfl, rfl⟩
    · split
      · exact ⟨_, State.obsChange_tallies .., rfl, rfl⟩
      · exact ⟨_, .refl .., rfl, rfl⟩

/-- The state in which RELEASE has returned the channel to its configuration after reset. -/
def State.encReset (s : State) (p e : Nat) : State :=
  if (s.enc e).st == .off then s.setEnc e ((s.enc e).cleared s.dt256) else s.encConfigure p e EncCfg.reset

theorem State.encReset_answers (s : State) (p e : Nat) : (s.encReset p e).Answers s := by
  unfold State.encReset
  split
  · exact s.setEnc_answers ..
  · exact s.encConfigure_answers ..

theorem State.encReset_puts (s : State) (p e : Nat) : ∃ y, (s.encReset p e).TalliesMove (s.setEnc e y) e ∧ y.cfg = EncCfg.reset := by
  unfold State.encReset
  split
  · exact ⟨_, .refl .., rfl⟩
  · obtain ⟨y, put, cfg, -⟩ := s.encConfigure_puts p e EncCfg.reset
    exact ⟨y, put, cfg⟩

/-- The state in which RELEASE has also taken the owner and the divider from the channel. -/
def State.encReleased (s : State) (p e : Nat) : State :=
  (s.encReset p e).setEnc e { (s.encReset p e).enc e with owner := none, div := none }

theorem encoderReleaseEffect_eq (c : RingCmd) (s : State) : encoderReleaseEffect c s = (s.encReleased c.p (encCh c.e), .ok) := rfl

theorem State.encReleased_answers (s : State) (p e : Nat) : (s.encReleased p e).Answers s :=
  (State.setEnc_answers ..).trans (s.encReset_answers ..)

theorem State.encReleased_releases (s : State) (p e : Nat) : ((s.encReleased p e).enc e).cfg = EncCfg.reset ∧
    ((s.encReleased p e).enc e).owner = none ∧ ((s.encReleased p e).enc e).div = none ∧
    ∀ j, j ≠ e → (s.encReleased p e).enc j = s.enc j := by
  obtain ⟨y, put, cfg⟩ := s.encReset_puts p e
  have own : (s.encReleased p e).enc e = _ := State.enc_setEnc ..
  exact ⟨(congrArg Encoder.cfg own).trans ((put.reads Encoder.cfg fun _ => rfl).trans cfg), congrArg Encoder.owner own,
    congrArg Encoder.div own, fun j hj => (State.enc_setEnc_other _ _ _ _ hj).trans (put.beside j hj)⟩

/-! ### DIVIDER (11 R410, R411, R414) -/

/-- A divider with the operands of DIVIDER, whose accumulator and queue are empty. -/
def Divider.startsWith (q : Divider) (e : Entry) : Prop :=
  q.gioA = bitsAt e 0xB 1 0 6 ∧ q.gioB = bitsAt e 0xC 1 0 6 ∧ q.n = fld e 0xE 2 ∧ q.m = fld e 0x10 2 ∧ q.minEdge = fld e 0x12 2 ∧
    q.reverse = bitAt e 0xA 1 ∧ q.acc = 0 ∧ q.queue = []

theorem dividerEffect_puts (c : RingCmd) (s : State) : ∃ d : Option Divider, d.isSome = bitAt c.e 0xA 0 ∧
    (∀ q, d = some q → q.startsWith c.e) ∧ dividerEffect c s =
      (s.setEnc (encCh c.e) { s.enc (encCh c.e) with owner := some c.p, div := d }, .ok) := by
  refine ⟨_, ?_, fun q hq => ?_, rfl⟩
  · cases bitAt c.e 0xA 0 <;> rfl
  · obtain ⟨-, hd⟩ := (Option.ite_none_right_eq_some ..).1 hq
    obtain rfl := Option.some.inj hd
    exact ⟨rfl, rfl, rfl, rfl, rfl, rfl, rfl, rfl⟩

/-! ### STATUS (11 R416) -/

theorem State.Reports.setEnc (h : u.Reports s) (e : Nat) (y : Encoder) : (u.setEnc e y).Reports (s.setEnc e y) :=
  h.map (·.setEnc e y) fun _ _ _ _ _ _ => rfl

/-- What differs from s by one channel differs from it by its channels. -/
theorem State.Reports.but_encoders {e : Nat} {y : Encoder} (h : u.Reports (s.setEnc e y)) : u.Reports { s with encoders := u.encoders } := by
  rw [h.within.encoders]
  exact h

theorem State.Reports.encBlock (h : v.Reports s) (e : Nat) : v.encBlock e = s.encBlock e := by
  obtain ⟨⟨_, _, _, _, _, rfl⟩, -⟩ := h
  rfl

/-- A command that leaves the state w, with the clock, the numbers and the pages of s, and has a block written waits for the mover by the
number with which the block stands in a queue. -/
theorem command_waits_with_block {c : RingCmd} {op va : Nat} {chk : State → Checks} {eff : State → State × Done} {w : State}
    {data : List Byte} (h : s.Accepts c op chk) (fresh : w.fresh = s.fresh) (ns : w.ns = s.ns) (dt : w.dt = s.dt) (map : w.map = s.map)
    (g : ∀ v : State, v.Reports s → ∃ v' : State, v'.Reports w ∧ eff v = v'.queueBlock c va data) :
    ∃ u, s.command c op chk eff = .next u ∧
      u.Queues w (.block (ringId c.p c.i) s.fresh c.p (splitParts va data (s.translate c.p va data.length 0).2)) ∧
      u.WaitsFor s c s.fresh := by
  refine State.command_waits_for h fun v hv => ?_
  obtain ⟨v', hv', effect⟩ := g v hv
  have pages : w.translate c.p va data.length 0 = s.translate c.p va data.length 0 := by simp only [State.translate, map]
  simp only [effect, State.queueBlock, hv'.translate, pages, State.auxAdd_ns, State.auxAdd_dt, State.freshen_ns, State.freshen_dt,
    hv'.fresh, hv'.ns, hv'.dt, fresh, ns, dt, true_and]
  exact fun u hu => hv'.queues hu

end Sys2Proof.Machine
end

section
/-!
The other rows of the encoders (11 R386, R392 to R394, R397, R399, R400, R411).
-/

namespace Sys2Proof.Machine

/-! ### Z (11 R397) -/

/-- The filtered level of Z is z from stamp i on. -/
def Encoder.takeZ (x : Encoder) (z : Bool) (i : Nat) : Encoder :=
  { x with z := z, moved := if x.z != z then tabPut x.moved 2 i else x.moved }

/-- An edge of Z to level z is accepted: it rises, and under Z_GATE both A and B are high. -/
def Encoder.acceptsZ (x : Encoder) (z : Bool) : Bool := !x.z && z && (!x.cfg.zGate || (x.a && x.b))

theorem Encoder.acceptsZ_iff {x : Encoder} {z : Bool} :
    x.acceptsZ z = true ↔ x.z = false ∧ z = true ∧ (x.cfg.zGate = false ∨ (x.a = true ∧ x.b = true)) := by
  simp [Encoder.acceptsZ, and_assoc]

theorem Encoder.not_acceptsZ_iff {x : Encoder} {z : Bool} :
    x.acceptsZ z = false ↔ x.z = true ∨ z = false ∨ (x.cfg.zGate = true ∧ (x.a = false ∨ x.b = false)) := by
  simp only [Encoder.acceptsZ, Bool.and_eq_false_iff, Bool.or_eq_false_iff, Bool.not_eq_false', or_assoc]

/-! ### Wire faults (11 R386) -/

/-- Pair k of channel e has entered or left fault, and the pairs in fault are now l: the raw input is captured and the record is made. -/
def State.pairFault (s : State) (e k : Nat) (enter : Bool) (l : List Nat) : State :=
  let c := s.captureEncoder e s.dt256 (if enter then 4 else 5) none
  (c.setEnc e { s.enc e with faults := l }).encRecord e c.dt256 (if enter then 1 else 3) 0x0504 0 (b2n enter + 2 ^ (k + 1))

theorem State.pairFault_tallies (s : State) (e k : Nat) (enter : Bool) (l : List Nat) :
    (s.pairFault e k enter l).TalliesMove (s.setEnc e { s.enc e with faults := l }) e :=
  ((State.encRecord_reports ..).tallies e).trans (State.setEnc_of_encoders (State.captureEncoder_encoders ..) _)

/-- Pair k enters fault, which is counted; if it is A or B the observer goes to LOST at instant i. -/
def State.pairEnters (s : State) (e k i : Nat) : State :=
  let v := (s.pairFault e k true (k :: (s.enc e).faults)).encCount e 3 1
  if k ≤ 1 then v.forceLost e i 3 else v

theorem State.pairEnters_faults (s : State) (e k i : Nat) : ((s.pairEnters e k i).enc e).faults = k :: (s.enc e).faults ∧
    (k ≤ 1 → (s.enc e).st ≠ .off → ((s.pairEnters e k i).enc e).st = .lost) := by
  unfold State.pairEnters
  extract_lets v
  have counted := (State.encCount_tallies _ e 3 1).trans (s.pairFault_tallies e k true (k :: (s.enc e).faults))
  have faults : (v.enc e).faults = k :: (s.enc e).faults := counted.reads Encoder.faults fun _ => rfl
  have st : (v.enc e).st = (s.enc e).st := (counted.reads Encoder.st fun _ => rfl).trans rfl
  split
  · exact ⟨(v.forceLost_faults e i 3).trans faults, fun _ on => State.forceLost_st (st.trans_ne on) i 3⟩
  · next other => exact ⟨faults, fun ab => absurd ab other⟩

/-! ### The rows, where their guards hold -/

section
variable {t : Nat} {e : Fin 16} {s s1 : State} {x : Encoder} (hs : s.elapse t = s1) (hx : s1.enc e = x)
include hs hx

theorem execZEdge_eq {sub : Fin 512} {level z : Bool} {i : Nat} (live : s1.encLive = true) (low : 1 ≤ x.cfg.mode) (high : x.cfg.mode ≤ 5)
    (hi : s1.edgeAt sub = i) (hz : x.passes 2 x.z level i = z) : exec (.zEdge t e level sub) s =
      .next (if x.acceptsZ z then (s1.setEnc e (x.takeZ z i)).zMark e i else s1.setEnc e (x.takeZ z i)) := by
  subst hs hx hi hz
  change execZEdge t e level sub s = _
  simp only [execZEdge, live, low, high, decide_true, Bool.and_self, if_true]
  exact (apply_ite Host.Outcome.next ..).symm

section
variable {pair : Fin 4} (live : s1.encLive = true) (used : x.cfg.usesPair pair = true)
include live used

theorem execWireFault_enters (out : x.faults.contains pair.val = false) :
    ∃ i, exec (.wireFault t e pair true) s = .next (s1.pairEnters e pair i) := by
  have live' := (s1.captureEncoder_encLive e s1.dt256 4 none).trans live
  subst hs hx
  refine ⟨((s.elapse t).captureEncoder e (s.elapse t).dt256 4 none).dt256, ?_⟩
  change execWireFault t e pair true s = _
  simp only [execWireFault, live, live', used, out, Bool.and_self, Bool.false_bne, if_true]
  rfl

theorem execWireFault_leaves (faulty : x.faults.contains pair.val = true) :
    exec (.wireFault t e pair false) s = .next (s1.pairFault e pair false (x.faults.filter (· != pair.val))) := by
  have live' := (s1.captureEncoder_encLive e s1.dt256 5 none).trans live
  subst hs hx
  change execWireFault t e pair false s = _
  simp only [execWireFault, live, live', used, faulty, Bool.and_self, Bool.bne_false, if_true, Bool.false_eq_true, if_false]
  rfl

end

theorem execSerialFrameStart_clocks (live : s1.encLive = true) (serial : x.cfg.serial = true) (due : x.serDue ≤ s1.ns)
    (idle : x.serOpen = none) : exec (.serialFrameStart t e) s =
      .next ((s1.setEnc e { x with serOpen := some (s1.edgeAt 0), serDue := x.serDue + 1000 * x.cfg.serPeriod }).say
        (.encoderClock e x.cfg.frameClocks)) := by
  subst hs hx
  change execSerialFrameStart t e s = _
  simp only [execSerialFrameStart, live, serial, due, idle, decide_true, Option.isNone_none, Bool.and_self, if_true]

/-- What becomes of a reading: it is discarded under a code, or it is good. -/
theorem execSerialReading_eq {i : Nat} {biss : Bool} (hb : decide (x.cfg.mode = 8) = biss) (r : SerialReading) (opened : x.serOpen = some i) :
    exec (.serialReading t e r) s = .next
      (if biss = true ∧ (r.noStart = true ∨ x.faults.contains 0 = true) then (s1.setEnc e { x with serOpen := none }).discardReading e 5
      else if readingOk x.cfg r = false ∨ x.faults.contains 0 = true then (s1.setEnc e { x with serOpen := none }).discardReading e 4
      else if biss = true ∧ r.nE = false then (s1.setEnc e { x with serOpen := none }).discardReading e 6
      else (s1.setEnc e { x with serOpen := none }).goodReading e i (readingPos x.cfg r) (biss && !r.nW)) := by
  subst hs hx hb
  change execSerialReading t e r s = _
  simp only [execSerialReading, opened, Bool.and_eq_true, Bool.or_eq_true, Bool.not_eq_true', apply_ite Host.Outcome.next]

theorem execObserverUpdate_updates {tu : Nat} (htu : (x.tk / 1000 + 1) * 1000 = tu) (live : s1.encLive = true) (on : x.st ≠ .off)
    (reached : s1.reached (256 * tu) = true) (closed : ∀ i, x.serOpen = some i → 256 * tu < i) :
    exec (.observerUpdate t e) s = .next ((s1.obsUpdate e tu).slotsOnUpdate e) := by
  subst hs hx htu
  refine if_pos ?_
  simp only [live, reached, bne_iff_ne.2 on, Bool.true_and, Bool.not_eq_true']
  split
  · next i hi => exact decide_eq_false (Nat.not_le.2 (closed i hi))
  · rfl

end

theorem execDividerOutputEdge_places {t : Nat} {e : Fin 16} {s : State} (live : (s.elapse t).encLive = true)
    (lit : (s.elapse t).mode ≠ .dark) : exec (.dividerOutputEdge t e) s = .next ((s.elapse t).divideOut e) :=
  if_pos (Bool.and_eq_true_iff.2 ⟨live, bne_iff_ne.2 lit⟩)

/-- Settles O39: each command by what its effect leaves of its channel, and each row by the operation that its guard lets run. That an SSI
reading taken in a fault of pair A is discarded under code 4 is the model's reading (entry 42), as is the wait for an open frame
(entry 100). -/
theorem encoderCommandsAndRowsRun : Obligations.EncoderCommandsAndRowsRun := by
  refine ⟨⟨?_, ?_, ?_, ?_, ?_⟩, ?_⟩
  · intro t c s0 s h
    obtain ⟨u, hu, ⟨v, hv, after⟩, done⟩ := command_takes_effect (eff := fun v => v.encConfigure c.p (encCh c.e) (encCfgOf c.e)) h
      fun v => v.encConfigure_answers ..
    obtain ⟨y, put, cfg, owner⟩ := v.encConfigure_puts c.p (encCh c.e) (encCfgOf c.e)
    have moved := (after.tallies _).trans put
    refine ⟨u, hu, (moved.reads Encoder.cfg fun _ => rfl).trans cfg, (moved.reads Encoder.owner fun _ => rfl).trans owner,
      fun j hj => (moved.beside j hj).trans (hv.within.enc j), done⟩
  · intro t c s0 s h
    obtain ⟨u, hu, ⟨v, hv, after⟩, done⟩ := command_takes_effect (eff := fun v => (setCountEffect c v).1) h (setCountEffect_answers c)
    obtain ⟨y, put, count, owner, cfg⟩ := setCountEffect_puts c v
    have moved := (after.tallies _).trans put
    rw [hv.dt] at count
    rw [hv.within.enc] at cfg
    exact ⟨u, hu, (moved.reads (·.rawAt (256 * s.dt)) fun _ => rfl).trans count, (moved.reads Encoder.owner fun _ => rfl).trans owner,
      (moved.reads Encoder.cfg fun _ => rfl).trans cfg, fun j hj => (moved.beside j hj).trans (hv.within.enc j), done⟩
  · intro t c s0 s x h
    obtain ⟨u, hu, ⟨d, on, starts, after⟩, done⟩ := State.command_succeeds (eff := dividerEffect c)
      (P := fun u => ∃ d : Option Divider, d.isSome = bitAt c.e 0xA 0 ∧ (∀ q, d = some q → q.startsWith c.e) ∧
        u.Reports (s.setEnc (encCh c.e) { x with owner := some c.p, div := d })) h fun v hv => by
      obtain ⟨d, on, starts, effect⟩ := dividerEffect_puts c v
      rw [hv.within.enc] at effect
      rw [effect]
      exact ⟨rfl, v.setEnc_answers .., fun u hu => ⟨d, on, starts, hu.trans (hv.setEnc ..)⟩⟩
    have own := (after.within.enc (encCh c.e)).trans (s.enc_setEnc ..)
    exact ⟨u, hu, ⟨d, own, on, starts⟩, fun j hj => (after.within.enc j).trans (s.enc_setEnc_other _ _ _ hj), after.but_encoders, done⟩
  · intro t c s0 s block parts h
    obtain ⟨u, hu, queues, waits⟩ := command_waits_with_block (eff := encoderStatusEffect c) (va := bufferVa c.e 0x10)
      (w := s.setEnc (encCh c.e) { s.enc (encCh c.e) with owner := some c.p }) h rfl rfl rfl rfl
      fun v hv => ⟨_, hv.setEnc .., by rw [encoderStatusEffect, hv.within.enc, hv.encBlock]⟩
    have channels := queues.reports.within.encoders
    refine ⟨u, s.fresh, hu, waits, queues.job, (queues.reports.within.enc _).trans (s.enc_setEnc ..), ?_⟩
    rw [channels]
    exact queues.reports
  · intro t c s0 s h
    obtain ⟨u, hu, ⟨v, hv, after⟩, done⟩ := command_takes_effect (eff := fun v => (encoderReleaseEffect c v).1) h
      fun v => v.encReleased_answers ..
    simp only [encoderReleaseEffect_eq] at after
    obtain ⟨cfg, owner, div, others⟩ := v.encReleased_releases c.p (encCh c.e)
    rw [← after.within.enc] at cfg owner div
    exact ⟨u, hu, cfg, owner, div, fun j hj => (after.within.enc j).trans ((others j hj).trans (hv.within.enc j)), done⟩
  · intro t e s s1 x mode
    have live : s1.encLive = true := bne_iff_ne.2 mode
    refine ⟨?_, ?_, ?_, ?_, ?_, ?_⟩
    · intro level sub low high i z
      have row := execZEdge_eq (level := level) (sub := sub) rfl rfl live low high rfl rfl
      refine ⟨fun gated => ?_, fun low rise gate => ?_⟩
      · exact row.trans (congrArg _ (if_neg (Bool.eq_false_iff.1 (Encoder.not_acceptsZ_iff.2 gated))))
      · obtain ⟨marks, others⟩ := (s1.setEnc e (x.takeZ z i)).zMark_marks e i
        rw [State.enc_setEnc] at marks
        simp only [Encoder.zState, Prod.mk.injEq] at marks
        obtain ⟨count, time, armed, stays⟩ := marks
        exact ⟨_, row.trans (congrArg _ (if_pos (Encoder.acceptsZ_iff.2 ⟨low, rise, gate⟩))), count, time, armed, stays.trans rise,
          fun j hj => (others j hj).trans (State.enc_setEnc_other _ _ _ _ hj)⟩
    · intro pair used
      refine ⟨fun out => ?_, fun faulty => ?_⟩
      · obtain ⟨i, row⟩ := execWireFault_enters rfl rfl live used out
        exact ⟨_, row, s1.pairEnters_faults e pair i⟩
      · exact ⟨_, execWireFault_leaves rfl rfl live used faulty, (s1.pairFault_tallies ..).reads Encoder.faults fun _ => rfl⟩
    · intro serial due idle
      exact execSerialFrameStart_clocks rfl rfl live serial due idle
    · intro i r opened d biss fault
      have row := execSerialReading_eq (e := e) rfl rfl rfl r opened
      refine ⟨fun isBiss bad => ?_, fun started bad => ?_, fun isBiss start sound ok error => ?_, fun ok sound good => ?_⟩
      · exact row.trans (congrArg _ (if_pos ⟨isBiss, bad⟩))
      · exact row.trans (congrArg _ ((if_neg started).trans (if_pos bad)))
      · have started : ¬(biss = true ∧ (r.noStart = true ∨ fault)) := fun h => h.2.elim (Bool.eq_false_iff.1 start) sound
        have checked : ¬(readingOk x.cfg r = false ∨ fault) := fun h => h.elim (fun no => absurd (ok.symm.trans no) nofun) sound
        exact row.trans (congrArg _ ((if_neg started).trans ((if_neg checked).trans (if_pos ⟨isBiss, error⟩))))
      · have started : ¬(biss = true ∧ (r.noStart = true ∨ fault)) := fun h => h.2.elim (fun no => good ⟨h.1, .inl no⟩) sound
        have checked : ¬(readingOk x.cfg r = false ∨ fault) := fun h => h.elim (fun no => absurd (ok.symm.trans no) nofun) sound
        have counted : ¬(biss = true ∧ r.nE = false) := fun h => good ⟨h.1, .inr h.2⟩
        have takes := row.trans (congrArg _ ((if_neg started).trans ((if_neg checked).trans (if_neg counted))))
        refine ⟨takes, fun first => ⟨_, takes, ?_⟩⟩
        have own := s1.enc_setEnc e { x with serOpen := none }
        obtain ⟨count, shut, discards, warn⟩ := State.goodReading_counts (s := d) (e := e) ((congrArg Encoder.readings own).trans first) i
          (readingPos x.cfg r) (biss && !r.nW)
        exact ⟨count, shut.trans (congrArg Encoder.serOpen own), discards, warn⟩
    · intro tu on reached closed
      exact ⟨_, execObserverUpdate_updates rfl rfl rfl live on reached closed, s1.obsUpdate_updates e tu⟩
    · intro lit
      exact execDividerOutputEdge_places live lit

end Sys2Proof.Machine
end

section
/-!
The event fabric: what an emission does, and what the commands leave of the channels and groups (13 R450, R457, R461, R465 to R470).
-/

namespace Sys2Proof.Machine

variable {s u v w : State}

/-! ### Reporting, and the fabric -/

theorem State.Within.channels (h : u.Within s) : u.channels = s.channels := by obtain ⟨_, _, _, _, _, rfl⟩ := h; rfl
theorem State.Within.groups (h : u.Within s) : u.groups = s.groups := by obtain ⟨_, _, _, _, _, rfl⟩ := h; rfl
theorem State.Within.flights (h : u.Within s) : u.flights = s.flights := by obtain ⟨_, _, _, _, _, rfl⟩ := h; rfl
theorem State.Within.channel (h : u.Within s) (n : Nat) : u.channel n = s.channel n := congrArg (tabGet _ · n) h.channels
theorem State.Within.group (h : u.Within s) (g : Nat) : u.group g = s.group g := congrArg (tabGet _ · g) h.groups

theorem State.Within.groupAt (h : u.Within s) (g i : Nat) : u.groupAt g i = s.groupAt g i := by
  simp only [State.groupAt, h.group, h.flights]

theorem State.Reports.channelBlock (h : u.Reports s) (n : Nat) : u.channelBlock n = s.channelBlock n := by
  simp only [State.channelBlock, h.within.channel, h.within.groupAt, h.dt]

/-- But for reporting, u is s with other channels, sequencers, groups and events on their way. -/
def State.OnFabric (u s : State) : Prop :=
  ∃ c q g f, u.Reports { s with channels := c, seqs := q, groups := g, flights := f }

theorem State.Reports.onFabric (h : u.Reports s) : u.OnFabric s := ⟨_, _, _, _, h⟩

theorem State.FabricMoves.onFabric (h : u.FabricMoves s) : u.OnFabric s := by
  obtain ⟨_, _, _, rfl⟩ := h
  exact ⟨_, _, _, _, .refl _⟩

theorem State.setChannel_onFabric (s : State) (n : Nat) (x : Channel) : (s.setChannel n x).OnFabric s := ⟨_, _, _, _, .refl _⟩

theorem State.OnFabric.trans (h : u.OnFabric v) (g : v.OnFabric w) : u.OnFabric w := by
  obtain ⟨c, q, gr, f, h⟩ := h
  obtain ⟨_, _, _, _, g⟩ := g
  exact ⟨c, q, gr, f, h.trans (g.map (fun t => { t with channels := c, seqs := q, groups := gr, flights := f }) fun _ _ _ _ _ _ => rfl)⟩

theorem State.OnFabric.foldl {α : Type} {f : State → α → State} (h : ∀ t x, (f t x).OnFabric t) (l : List α) (s : State) :
    (l.foldl f s).OnFabric s := by
  induction l generalizing s with
  | nil => exact (State.Reports.refl s).onFabric
  | cons a l ih => exact (ih (f s a)).trans (h s a)

theorem State.OnFabric.answers (h : u.OnFabric s) : u.Answers s := by
  obtain ⟨_, _, _, _, h⟩ := h
  exact h.answers.trans (State.answers_of_ports rfl rfl)

theorem State.OnFabric.reports (h : u.OnFabric s) :
    u.Reports { s with channels := u.channels, seqs := u.seqs, groups := u.groups, flights := u.flights } := by
  obtain ⟨_, _, _, _, ⟨_, _, _, _, _, rfl⟩, kept⟩ := h
  exact ⟨⟨_, _, _, _, _, rfl⟩, kept⟩

/-! ### An emission (13 R450, R453, R457) -/

/-- Within 10 ns of the channel's previous event (13 R450). -/
def Channel.Follows (x : Channel) (stamp : Nat) : Prop := ∃ l, x.last = some l ∧ stamp < l + 2560

/-- The channel's group is off at the stamp (13 R457). -/
def State.Gates (s : State) (x : Channel) (stamp : Nat) : Prop := x.group ≠ 0 ∧ s.groupAt (x.group - 1) stamp = false

/-- The events of an emission of channel n, one for each consumer (13 R452, R453). -/
def Channel.sends (x : Channel) (n stamp p : Nat) : List Flight :=
  (x.slots.filter (fun k => k.2.kind != 0)).map (fun k =>
    { ch := n, slot := k.1, prodKind := x.prodKind, prodIndex := x.prodIndex, kind := k.2.kind, index := k.2.index, arg := k.2.arg
      stamp := stamp, arrive := stamp + p + consumerTerm k.2.kind : Flight })

theorem State.gatedRecords_reports (s : State) (n stamp : Nat) : (s.gatedRecords n stamp).Reports s :=
  .foldl (fun _ _ => State.journal_reports ..) _ _

/-- The three outcomes of an emission: it overruns, it is gated, or it is sent. -/
theorem State.emitOn_cases (s : State) (n stamp p : Nat) :
    let x := s.channel n
    let y := { x with last := some stamp, events := satAdd 32 x.events 1 }
    (x.Follows stamp ∧ s.emitOn n stamp p = s.setChannel n { x with overrun := satAdd 32 x.overrun 1 }) ∨
    (¬x.Follows stamp ∧ s.Gates x stamp ∧
      s.emitOn n stamp p = (s.setChannel n { y with gated := satAdd 32 x.gated 1 }).gatedRecords n stamp) ∨
    (¬x.Follows stamp ∧ ¬s.Gates x stamp ∧
      s.emitOn n stamp p = { s.setChannel n y with flights := s.flights ++ x.sends n stamp p }) := by
  unfold State.emitOn
  extract_lets x y close go
  have follows : close = true ↔ x.Follows stamp := by
    simp only [close, Channel.Follows]
    cases x.last <;> simp
  have gates : (x.group != 0 && !s.groupAt (x.group - 1) stamp) = true ↔ s.Gates x stamp := by simp [State.Gates]
  rw [← follows, ← gates]
  split
  · exact .inl ⟨‹_›, rfl⟩
  · split
    · exact .inr (.inl ⟨‹_›, ‹_›, rfl⟩)
    · exact .inr (.inr ⟨‹_›, ‹_›, rfl⟩)

/-- What an emission leaves, but for reporting: channel n and the events on their way, by its outcome. -/
theorem State.emitOn_emits (s : State) (n stamp p : Nat) : let x := s.channel n
    ∃ y f, (s.emitOn n stamp p).Reports { s.setChannel n y with flights := f } ∧
      (x.Follows stamp → y = { x with overrun := satAdd 32 x.overrun 1 } ∧ f = s.flights) ∧
      (¬x.Follows stamp → y.last = some stamp ∧ y.events = satAdd 32 x.events 1) ∧
      (¬x.Follows stamp → s.Gates x stamp → y.gated = satAdd 32 x.gated 1 ∧ f = s.flights) ∧
      (¬x.Follows stamp → ¬s.Gates x stamp → f = s.flights ++ x.sends n stamp p) := by
  intro x
  obtain ⟨follows, emits⟩ | ⟨apart, gates, emits⟩ | ⟨apart, passes, emits⟩ := s.emitOn_cases n stamp p <;> rw [emits]
  · exact ⟨_, _, .refl _, fun _ => ⟨rfl, rfl⟩, absurd follows, absurd follows, absurd follows⟩
  · exact ⟨_, _, State.gatedRecords_reports .., (absurd · apart), fun _ => ⟨rfl, rfl⟩, fun _ _ => ⟨rfl, rfl⟩, fun _ => absurd gates⟩
  · exact ⟨_, _, .refl _, (absurd · apart), fun _ => ⟨rfl, rfl⟩, fun _ => (absurd · passes), fun _ _ => rfl⟩

/-! ### BIND (13 R465 to R467) -/

/-- The channel has the owner, the producer, the group, the period and the consumers that BIND of port p names. -/
def Channel.BoundBy (y : Channel) (p : Nat) (e : Entry) : Prop :=
  y.owner = (if bitAt e 0xA 1 then 5 else p) ∧ y.secure = bitAt e 0xA 0 ∧ y.lantern = bitsAt e 0xB 1 0 6 ∧
    y.prodKind = bitsAt e 0xC 1 0 4 ∧ y.prodArg = fld e 0xD 1 ∧ y.prodIndex = fld e 0xE 2 ∧ y.group = bitsAt e 0x10 1 0 5 ∧
    y.period = fld e 0x14 4 ∧
    ∀ k, k < 8 → (bindSlot e k).1 ≠ 0 → ((y.slot k).kind, (y.slot k).index, (y.slot k).arg) = bindSlot e k

/-- A slot that is kept and a slot that is new name the same consumer. -/
theorem rebindSlot_consumer (old : Slot) (x : Nat × Nat × Nat) :
    ((rebindSlot old x).kind, (rebindSlot old x).index, (rebindSlot old x).arg) = x := by
  unfold rebindSlot
  split
  · next same =>
    simp only [Bool.and_eq_true, decide_eq_true_eq] at same
    obtain ⟨⟨kind, index⟩, arg⟩ := same
    rw [kind, index, arg]
  · rfl

/-- A table made of the numbers of a list, filtered by its objects. -/
theorem tabFind_filter_map {α : Type} (f : Nat → α) (q : α → Bool) {l : List Nat} {k : Nat} (mem : k ∈ l) (keep : q (f k) = true) :
    tabFind ((l.map fun j => (j, f j)).filter fun x => q x.2) k = some (f k) := by
  induction l with
  | nil => cases mem
  | cons j l ih =>
    by_cases same : j = k
    · subst same
      simp [keep, tabFind]
    · have rest := ih ((List.mem_cons.1 mem).resolve_left (Ne.symm same))
      simp only [List.map_cons, List.filter_cons]
      split
      · exact (if_neg same).trans rest
      · exact rest

theorem State.retireSlot_moves (keep : Bool) (s : State) (n k : Nat) : (s.retireSlot keep n k).FabricMoves s := ⟨_, _, _, rfl⟩

theorem State.retireSlot_channel (keep : Bool) (s : State) (n k : Nat) :
    ∃ t o, (s.retireSlot keep n k).channel n = { s.channel n with slots := t, past := o } := ⟨_, _, State.channel_setChannel ..⟩

theorem State.retireSlot_channel_other (keep : Bool) (s : State) {n m : Nat} (k : Nat) (h : m ≠ n) :
    (s.retireSlot keep n k).channel m = s.channel m := State.channel_setChannel_other _ _ _ _ h

/-- A lost event changes the reports of its channel, and is recorded. -/
theorem State.eventLost_reports (s : State) (n k kind bits : Nat) : (s.eventLost n k kind bits).1 = s ∨
    ∃ r, (s.eventLost n k kind bits).1.Reports (s.setChannel n { s.channel n with reports := r }) := by
  unfold State.eventLost
  extract_lets x last count due
  split
  · split
    · refine .inr ⟨tabPut x.reports (k % 8) (s.ns, 0), ?_⟩
      dsimp only
      exact State.record_reports ..
    · exact .inr ⟨_, .refl _⟩
  · exact .inl rfl

theorem State.eventLost_onFabric (s : State) (n k kind bits : Nat) : (s.eventLost n k kind bits).1.OnFabric s := by
  obtain same | ⟨_, lost⟩ := s.eventLost_reports n k kind bits
  · rw [same]; exact (State.Reports.refl s).onFabric
  · exact lost.onFabric.trans (State.setChannel_onFabric ..)

theorem State.eventLost_channel_other (s : State) {n m : Nat} (k kind bits : Nat) (h : m ≠ n) :
    (s.eventLost n k kind bits).1.channel m = s.channel m := by
  obtain same | ⟨_, lost⟩ := s.eventLost_reports n k kind bits
  · rw [same]
  · exact (lost.within.channel m).trans (State.channel_setChannel_other _ _ _ _ h)

theorem State.eventLost_boundBy {n p : Nat} {e : Entry} (h : (s.channel n).BoundBy p e) (k kind bits : Nat) :
    ((s.eventLost n k kind bits).1.channel n).BoundBy p e := by
  obtain same | ⟨_, lost⟩ := s.eventLost_reports n k kind bits
  · rwa [same]
  · rw [lost.within.channel, State.channel_setChannel]; exact h

/-- The group with the port that names it as its owner, if it had none (13 R461). -/
def Group.takenBy (x : Group) (p : Nat) : Group := { x with owner := some (x.owner.getD p) }

/-- A port that takes a group changes no other. -/
theorem State.takeGroup_takes (s : State) (g p : Nat) : ∃ gs, s.takeGroup g p = { s with groups := gs } ∧
    (s.takeGroup g p).group g = (s.group g).takenBy p ∧ ∀ j, j ≠ g → (s.takeGroup g p).group j = s.group j := by
  cases owner : (s.group g).owner with
  | none =>
    have takes : s.takeGroup g p = s.setGroup g { s.group g with owner := some p } := if_pos (by rw [owner]; rfl)
    rw [takes, Group.takenBy, owner]
    exact ⟨_, rfl, s.group_setGroup .., fun j => s.group_setGroup_other g j _⟩
  | some o =>
    have stays : s.takeGroup g p = s := if_neg (by simp [owner])
    rw [stays, Group.takenBy, owner, Option.getD_some, ← owner]
    exact ⟨_, rfl, rfl, fun _ _ => rfl⟩

theorem State.takeGroup_onFabric (s : State) (g p : Nat) : (s.takeGroup g p).OnFabric s := by
  obtain ⟨_, takes, -⟩ := s.takeGroup_takes g p
  rw [takes]
  exact ⟨_, _, _, _, .refl _⟩

theorem State.takeGroup_channels (s : State) (g p : Nat) : (s.takeGroup g p).channels = s.channels := by
  obtain ⟨_, takes, -⟩ := s.takeGroup_takes g p
  rw [takes]

/-- BIND binds its channel and leaves the others. -/
theorem State.bind_binds (s : State) (p n : Nat) (e : Entry) : (s.bind p n e).OnFabric s ∧ ((s.bind p n e).channel n).BoundBy p e ∧
    ∀ m, m ≠ n → (s.bind p n e).channel m = s.channel m := by
  unfold State.bind
  extract_lets x period owned changed s0 z free base new y s2 groups
  have bound : y.BoundBy p e := by
    refine ⟨rfl, rfl, rfl, rfl, rfl, rfl, rfl, rfl, fun k hk used => ?_⟩
    have consumer := rebindSlot_consumer (base.slot k) (bindSlot e k)
    have kind : (rebindSlot (base.slot k) (bindSlot e k)).kind = (bindSlot e k).1 := congrArg Prod.fst consumer
    have found : tabFind new k = some (rebindSlot (base.slot k) (bindSlot e k)) :=
      tabFind_filter_map (fun j => rebindSlot (base.slot j) (bindSlot e j)) (·.kind != 0) (List.mem_range.2 hk)
        (by simpa [kind] using used)
    have slot : y.slot k = rebindSlot (base.slot k) (bindSlot e k) := by
      simp only [Channel.slot, if_pos hk, tabGet, y, found, Option.getD_some]
    rw [slot]
    exact consumer
  have taken : (groups.foldl (fun t g => t.takeGroup g p) s2).channels = s2.channels :=
    foldl_keeps State.channels (fun _ _ => State.takeGroup_channels ..) ..
  have own (m : Nat) : (groups.foldl (fun t g => t.takeGroup g p) s2).channel m = s2.channel m := congrArg (tabGet _ · m) taken
  refine ⟨?_, ?_, fun m hm => ?_⟩
  · have retires : s0.OnFabric s := .foldl (fun t k => (t.retireSlot_moves false n k).onFabric) _ _
    have loses : s2.OnFabric (s0.setChannel n y) := .foldl (fun t k => t.eventLost_onFabric ..) _ _
    exact (State.OnFabric.foldl (fun t g => t.takeGroup_onFabric g p) _ _).trans
      (loses.trans ((s0.setChannel_onFabric n y).trans retires))
  · rw [own]
    refine List.foldlRecOn _ _ (motive := fun t : State => (t.channel n).BoundBy p e) ?_ fun t ht k _ => State.eventLost_boundBy ht ..
    rw [State.channel_setChannel]
    exact bound
  · calc
      _ = s2.channel m := own m
      _ = (s0.setChannel n y).channel m := foldl_keeps (State.channel · m) (fun t k => State.eventLost_channel_other t k _ _ hm) ..
      _ = s0.channel m := State.channel_setChannel_other _ _ _ _ hm
      _ = s.channel m := foldl_keeps (State.channel · m) (fun t k => State.retireSlot_channel_other false t k hm) ..

/-! ### GROUPS (13 R458, R461, R468) -/

/-- The group with one more switch, those 100 µs old at `now` folded into its state (13 R458). -/
def Group.switched (x : Group) (now i op : Nat) : Group :=
  let all := placeSwitch (i, op) x.switches
  { x with
    on := (all.filter fun y => y.1 + 25600000 ≤ now).foldl (fun on y => switchOn on y.2) x.on
    switches := all.filter fun y => !(y.1 + 25600000 ≤ now) }

/-- One group of GROUPS: the port takes it, and it is switched at the present instant. -/
def State.namedGroup (p set : Nat) (s : State) (g : Nat) : State :=
  (s.takeGroup g p).switchGroup g (256 * s.dt) (if nbit set g then 0 else 1)

theorem State.namedGroup_eq (p set : Nat) (s : State) (g : Nat) : ∃ gs, s.namedGroup p set g = { s with groups := gs } := by
  obtain ⟨_, takes, -⟩ := s.takeGroup_takes g p
  rw [State.namedGroup, takes]
  exact ⟨_, rfl⟩

theorem State.namedGroup_group (p set : Nat) (s : State) (g : Nat) : (s.namedGroup p set g).group g =
    ((s.group g).takenBy p).switched s.dt256 (256 * s.dt) (if nbit set g then 0 else 1) := by
  obtain ⟨_, takes, own, -⟩ := s.takeGroup_takes g p
  have time : (s.takeGroup g p).dt256 = s.dt256 := by rw [takes]; rfl
  rw [← own, ← time]
  exact State.group_setGroup ..

theorem State.namedGroup_group_other (p set : Nat) (s : State) {g j : Nat} (h : j ≠ g) : (s.namedGroup p set g).group j = s.group j := by
  obtain ⟨_, -, -, others⟩ := s.takeGroup_takes g p
  exact (State.group_setGroup_other _ _ _ _ h).trans (others j h)

/-- What a group becomes depends on the clock and on the group alone. -/
theorem State.namedGroup_congr {g : Nat} (p set : Nat) (time : u.time = s.time) (group : u.group g = s.group g) :
    (u.namedGroup p set g).group g = (s.namedGroup p set g).group g := by
  simp only [State.namedGroup_group, group, State.dt256, State.dt, time]

/-- GROUPS of a list without repetition: each group of it is switched once, and nothing else changes. -/
theorem State.namedGroups (p set : Nat) (l : List Nat) (h : l.Nodup) (s : State) :
    (∃ gs, l.foldl (State.namedGroup p set) s = { s with groups := gs }) ∧
      (∀ g ∈ l, (l.foldl (State.namedGroup p set) s).group g = (s.namedGroup p set g).group g) ∧
      ∀ g, g ∉ l → (l.foldl (State.namedGroup p set) s).group g = s.group g := by
  induction l generalizing s with
  | nil => exact ⟨⟨_, rfl⟩, fun _ hg => absurd hg List.not_mem_nil, fun _ _ => rfl⟩
  | cons a l ih =>
    obtain ⟨fresh, rest⟩ := List.nodup_cons.1 h
    obtain ⟨⟨gs, frame⟩, named, unnamed⟩ := ih rest (s.namedGroup p set a)
    obtain ⟨_, first⟩ := s.namedGroup_eq p set a
    refine ⟨⟨gs, ?_⟩, fun g hg => ?_, fun g hg => ?_⟩
    · rw [List.foldl_cons, frame, first]
    · obtain rfl | later := List.mem_cons.1 hg
      · exact unnamed g fresh
      · have other : g ≠ a := fun same => fresh (same ▸ later)
        exact (named g later).trans (State.namedGroup_congr p set (by rw [first]) (s.namedGroup_group_other p set other))
    · obtain ⟨other, later⟩ := not_or.1 (mt List.mem_cons.2 hg)
      exact (unnamed g later).trans (s.namedGroup_group_other p set other)

/-- The groups that GROUPS names. -/
def groupsNamed (set clr : Nat) : List Nat := (List.range 16).filter fun g => nbit set g || nbit clr g

theorem mem_groupsNamed {set clr g : Nat} : g ∈ groupsNamed set clr ↔ g < 16 ∧ (nbit set g = true ∨ nbit clr g = true) := by
  simp [groupsNamed]

theorem groupsNamed_nodup (set clr : Nat) : (groupsNamed set clr).Nodup := List.nodup_range.filter _

theorem Checks.owner_of_first {k : Checks} {s : State} {p op : Nat} {e : Entry} (h : k.first s p op e = none) : k.owner = none :=
  firstSome_none h _ (by simp)

/-- A resource that a command may take is free or the port's own. -/
theorem getD_of_ownerStatus {o : Option Nat} {p : Nat} (h : ownerStatus o p = none) : o.getD p = p := by
  cases o with
  | none => rfl
  | some q => exact Classical.byContradiction fun other => by simp [ownerStatus, show ¬q = p from other] at h

/-- A group that accepted GROUPS names is the port's own afterwards (13 R461, R468). -/
theorem eventGroups_owner {c : RingCmd} (h : s.Accepts c 0x40 (eventGroupsChecks c)) {g : Nat}
    (named : g ∈ groupsNamed (fld c.e 0xC 2) (fld c.e 0xE 2)) (set : Nat) : ((s.namedGroup c.p set g).group g).owner = some c.p := by
  have mine := firstSome_none (Checks.owner_of_first h.2) _ (List.mem_map_of_mem named)
  rw [(s.fetched_reports c).within.group] at mine
  rw [State.namedGroup_group]
  exact congrArg some (getD_of_ownerStatus mine)

/-! ### RELEASE (13 R470) -/

/-- The state in which every slot of channel n has left its binding, with its pending event. -/
def State.unslotted (s : State) (n : Nat) : State := (List.range 8).foldl (fun t k => t.retireSlot true n k) s

/-- The channel free, with its counters and with what is still to be delivered. -/
def Channel.freed (x : Channel) : Channel :=
  { Channel.reset with past := x.past, reports := x.reports, events := x.events, gated := x.gated, overrun := x.overrun }

theorem State.freeChannel_eq (s : State) (n : Nat) :
    s.freeChannel n = (s.unslotted n).setChannel n ((s.unslotted n).channel n).freed := rfl

theorem State.freeChannel_channel_other (s : State) {n m : Nat} (h : m ≠ n) : (s.freeChannel n).channel m = s.channel m :=
  (State.channel_setChannel_other _ _ _ _ h).trans
    (foldl_keeps (State.channel · m) (fun t k => State.retireSlot_channel_other true t k h) ..)

/-- What the slots do not touch, the end of the binding leaves. -/
theorem State.unslotted_keeps {α : Type} (f : Channel → α) (h : ∀ x t o, f { x with slots := t, past := o } = f x) (s : State) (n : Nat) :
    f ((s.unslotted n).channel n) = f (s.channel n) := by
  refine foldl_keeps (fun t : State => f (t.channel n)) (fun t k => ?_) ..
  obtain ⟨_, _, retires⟩ := t.retireSlot_channel true n k
  rw [retires, h]

/-- A freed channel keeps its counters. -/
theorem State.freeChannel_frees (s : State) (n : Nat) : let y := (s.freeChannel n).channel n
    y.owner = 7 ∧ y.prodKind = 0 ∧ y.slots = [] ∧ y.events = (s.channel n).events ∧ y.gated = (s.channel n).gated ∧
      y.overrun = (s.channel n).overrun := by
  rw [State.freeChannel_eq, State.channel_setChannel]
  exact ⟨rfl, rfl, rfl, s.unslotted_keeps Channel.events (fun _ _ _ => rfl) n, s.unslotted_keeps Channel.gated (fun _ _ _ => rfl) n,
    s.unslotted_keeps Channel.overrun (fun _ _ _ => rfl) n⟩

/-! ### PERIODIC (13 R451) -/

theorem execPeriodic_emits {t : Nat} {ch : Fin 256} {k : Nat} {x : Channel} (hx : (s.elapse t).channel ch = x) (kind : x.prodKind = 7)
    (owned : x.owner ≠ 7) (dark : s.mode ≠ .dark) (keep : s.mode ≠ .keep) (tick : x.tick = some k)
    (reached : (s.elapse t).reached (256 * (k + x.period)) = true) : exec (.periodic t ch) s =
      .next (((s.elapse t).setChannel ch { x with tick := some (k + x.period) }).emitOn ch (256 * (k + x.period)) 0) := by
  subst hx
  change execPeriodic t ch s = _
  simp only [execPeriodic, kind, owned, dark, keep, tick, reached, State.elapse_mode, bne_iff_ne, ne_eq, not_false_eq_true, decide_true,
    if_true, and_self, Bool.and_eq_true]

/-- Settles O31: BIND and RELEASE by what they leave of their channel, SIGNAL by the outcome of its emission, and GROUPS group by group.
STATUS samples its block as the command is accepted (entry 11). -/
theorem fabricCommandsRun : Obligations.FabricCommandsRun := by
  refine ⟨?_, ?_, ?_, ?_, ?_, ?_⟩
  · intro t c s0 s n h
    obtain ⟨u, hu, ⟨v, hv, after⟩, done⟩ := command_takes_effect (eff := fun v => v.bind c.p n c.e) h fun v =>
      (v.bind_binds c.p n c.e).1.answers
    obtain ⟨fabric, bound, others⟩ := v.bind_binds c.p n c.e
    rw [← after.within.channel] at bound
    exact ⟨u, hu, bound, fun m hm => (after.within.channel m).trans ((others m hm).trans (hv.within.channel m)),
      (after.onFabric.trans (fabric.trans hv.onFabric)).reports, done⟩
  · intro t c s0 s n x stamp close gated h
    obtain ⟨u, hu, ⟨v, hv, after⟩, done⟩ := command_takes_effect (eff := fun v => v.emitOn n (256 * v.dt) 51200) h fun v => by
      obtain ⟨_, _, emits, -⟩ := v.emitOn_emits n (256 * v.dt) 51200
      exact emits.answers.trans (State.answers_of_ports rfl rfl)
    obtain ⟨y, f, emits, outcome⟩ := v.emitOn_emits n (256 * v.dt) 51200
    simp only [State.Gates, hv.within.channel, hv.within.groupAt, hv.within.flights, hv.dt] at outcome
    have left : u.Reports { s.setChannel n y with flights := f } :=
      (after.trans emits).trans (hv.map (fun t => { t.setChannel n y with flights := f }) fun _ _ _ _ _ _ => rfl)
    have own : u.channel n = y := (left.within.channel n).trans (s.channel_setChannel n y)
    rw [← own, ← show u.flights = f from left.within.flights] at outcome
    obtain ⟨overruns, emitted, gates, sends⟩ := outcome
    refine ⟨u, hu, overruns, emitted, gates, sends,
      fun m hm => (left.within.channel m).trans (s.channel_setChannel_other _ _ _ hm), ?_, done⟩
    rw [left.within.channels, left.within.flights]
    exact left
  · intro t c s0 s set clr h
    have switches (v : State) := State.namedGroups c.p set (groupsNamed set clr) (groupsNamed_nodup set clr) v
    obtain ⟨u, hu, ⟨v, hv, after⟩, done⟩ := command_takes_effect
      (eff := fun v => (groupsNamed set clr).foldl (State.namedGroup c.p set) v) h fun v => by
        obtain ⟨⟨_, frame⟩, -⟩ := switches v
        rw [frame]
        exact State.answers_of_ports rfl rfl
    obtain ⟨⟨gs, frame⟩, named, unnamed⟩ := switches v
    have left : u.Reports { s with groups := gs } :=
      (frame ▸ after).trans (hv.map (fun t => { t with groups := gs }) fun _ _ _ _ _ _ => rfl)
    refine ⟨u, hu, fun g hg operand => ?_, fun g _ unset uncleared => ?_, ?_, done⟩
    · have mem := mem_groupsNamed.2 ⟨hg, operand⟩
      have becomes : u.group g = (s.namedGroup c.p set g).group g := (after.within.group g).trans ((named g mem).trans
        (State.namedGroup_congr c.p set hv.within.time (hv.within.group g)))
      exact ⟨becomes, becomes ▸ eventGroups_owner h mem set⟩
    · have apart : g ∉ groupsNamed set clr := by simp [mem_groupsNamed, unset, uncleared]
      exact (after.within.group g).trans ((unnamed g apart).trans (hv.within.group g))
    · rw [left.within.groups]
      exact left
  · intro t c s0 s block parts h
    obtain ⟨u, hu, queues, waits⟩ := command_waits_with_block (eff := eventStatusEffect c) (va := bufferVa c.e 0x10) (w := s) h
      rfl rfl rfl rfl fun v hv => ⟨v, hv, by rw [eventStatusEffect, hv.channelBlock]⟩
    exact ⟨u, s.fresh, hu, waits, queues.job, queues.reports⟩
  · intro t c s0 s n h
    obtain ⟨u, hu, ⟨v, hv, after⟩, done⟩ := command_takes_effect (eff := fun v => v.freeChannel n) h fun v =>
      (v.freeChannel_moves n).onFabric.answers
    obtain ⟨ch, f, q, moved⟩ := v.freeChannel_moves n
    have left : u.Reports { s with channels := ch, flights := f, seqs := q } :=
      (moved ▸ after).trans (hv.map (fun t => { t with channels := ch, flights := f, seqs := q }) fun _ _ _ _ _ _ => rfl)
    obtain ⟨owner, kind, slots, events, gated, overrun⟩ := v.freeChannel_frees n
    rw [← after.within.channel] at owner kind slots events gated overrun
    rw [hv.within.channel] at events gated overrun
    refine ⟨u, hu, owner, kind, slots, events, gated, overrun,
      fun m hm => (after.within.channel m).trans ((v.freeChannel_channel_other hm).trans (hv.within.channel m)), ?_, done⟩
    rw [left.within.channels, left.within.flights, left.within.seqs]
    exact left
  · intro t ch s k s1 x kind owned dark keep tick reached
    exact execPeriodic_emits rfl kind owned dark keep tick reached

end Sys2Proof.Machine
end

section
/-!
STREAM_MOVE and MOVER_CONTROL (14 R482, R483, R493, R502): but for reporting each changes one auxiliary mover, one stream, or the spool
share of one port; the SNUFF of a frame also lets it go.
-/

namespace Sys2Proof.Machine

variable {s u v : State} {n : Nat}

/-! ### One auxiliary mover, or one stream, beside reporting -/

theorem State.Within.aux (h : u.Within s) : u.aux = s.aux := by obtain ⟨_, _, _, _, _, rfl⟩ := h; rfl
theorem State.Within.auxMover (h : u.Within s) (n : Nat) : u.auxMover n = s.auxMover n := congrArg (tabGet AuxMover.reset · n) h.aux

theorem State.Reports.setAux (h : u.Reports s) (n : Nat) (y : AuxMover) : (u.setAux n y).Reports (s.setAux n y) :=
  h.map (·.setAux n y) fun _ _ _ _ _ _ => rfl

/-- Auxiliary mover n is y in u, and nothing else of s but reporting is different. -/
def State.SetsAux (u s : State) (n : Nat) (y : AuxMover) : Prop :=
  u.auxMover n = y ∧ (∀ m, m ≠ n → u.auxMover m = s.auxMover m) ∧ u.Reports { s with aux := u.aux }

theorem State.Reports.setsAux {y : AuxMover} (h : u.Reports (s.setAux n y)) : u.SetsAux s n y := by
  refine ⟨(h.within.auxMover n).trans (State.auxMover_setAux ..),
    fun m hm => (h.within.auxMover m).trans (State.auxMover_setAux_other _ _ _ _ hm), ?_⟩
  rw [h.within.aux]
  exact h

theorem State.Reports.keepsAux (h : u.Reports s) (n : Nat) : u.SetsAux s n (s.auxMover n) := by
  refine ⟨h.within.auxMover n, fun m _ => h.within.auxMover m, ?_⟩
  rw [h.within.aux]
  exact h

/-- Stream n is y in u, and nothing else of s but reporting is different. -/
def State.SetsStream (u s : State) (n : Nat) (y : Stream) : Prop :=
  u.stream n = y ∧ (∀ m, m ≠ n → u.stream m = s.stream m) ∧ u.Reports { s with streams := u.streams }

theorem State.Reports.setsStream {y : Stream} (h : u.Reports (s.setStream n y)) : u.SetsStream s n y :=
  ⟨(h.within.stream n).trans (State.stream_setStream ..), fun m hm => (h.within.stream m).trans (State.stream_setStream_other _ _ hm),
    h.but_streams⟩

theorem State.Reports.keepsStream (h : u.Reports s) (n : Nat) : u.SetsStream s n (s.stream n) := by
  refine ⟨h.within.stream n, fun m _ => h.within.stream m, ?_⟩
  rw [h.within.streams]
  exact h

theorem State.auxRecord_reports (s : State) (n cls typ : Nat) : (s.auxRecord n cls typ).Reports s := report_reports ..
theorem State.moverEvent_reports (s : State) (n cls typ data : Nat) : (s.moverEvent n cls typ data).Reports s := record_reports ..

section
variable {c : RingCmd} {op : Nat} {chk : State → Checks} {eff : State → State × Done}

/-- A command whose effect, but for reporting, is one auxiliary mover made from what it was. -/
theorem command_sets_aux (f : AuxMover → AuxMover) (h : s.Accepts c op chk)
    (g : ∀ v, v.Reports s → ∃ w : State, eff v = (w, .ok) ∧ w.Reports (v.setAux n (f (v.auxMover n)))) :
    ∃ u, s.command c op chk eff = .next u ∧ u.Reports (s.setAux n (f (s.auxMover n))) ∧ u.Completed s c .success := by
  refine command_does' _ h (fun v hv => ?_) rfl rfl
  obtain ⟨w, effect, sets⟩ := g v hv
  rw [hv.within.auxMover] at sets
  rw [effect]
  exact ⟨sets.trans (hv.setAux n _), rfl⟩

/-- A command whose effect, but for reporting, is one stream made from what it was. -/
theorem command_sets_stream (f : Stream → Stream) (h : s.Accepts c op chk)
    (g : ∀ v, v.Reports s → ∃ w : State, eff v = (w, .ok) ∧ w.Reports (v.setStream n (f (v.stream n)))) :
    ∃ u, s.command c op chk eff = .next u ∧ u.Reports (s.setStream n (f (s.stream n))) ∧ u.Completed s c .success := by
  refine command_does' _ h (fun v hv => ?_) rfl rfl
  obtain ⟨w, effect, sets⟩ := g v hv
  rw [hv.within.stream] at sets
  rw [effect]
  exact ⟨sets.trans (hv.setStream n _), rfl⟩

end

variable {c : RingCmd}

/-! ### MOVER_RESUME and MOVER_PACE (14 R482, R483) -/

theorem moverResumeEffect_aux (h : mcAux c.e = true) (v : State) : moverResumeEffect c v =
    (v.setAux (mcIndex c.e) { v.auxMover (mcIndex c.e) with stopped := false, draining := false }, .ok) := if_pos h

theorem moverResumeEffect_stream (h : ¬mcAux c.e = true) (v : State) : moverResumeEffect c v =
    (v.setStream (mcIndex c.e) { v.stream (mcIndex c.e) with stopped := false, draining := false }, .ok) := if_neg h

/-- The auxiliary mover with the pace of MOVER_PACE. -/
def AuxMover.paced (x : AuxMover) (e : Entry) : AuxMover := { x with pace := bitsAt e 0xC 1 0 2, paceLeft := b2n x.runs }

/-- The stream with the pace of MOVER_PACE; the frame being written goes on (14 R482). -/
def Stream.paced (x : Stream) (e : Entry) : Stream :=
  { x with
    pace := bitsAt e 0xC 1 0 2, paceBytes := fld e 0x10 4
    paceLeft := if x.writing.isSome then (if bitsAt e 0xC 1 0 2 = 2 then 2 ^ 63 else 1) else 0 }

theorem moverPaceEffect_aux (h : mcAux c.e = true) (v : State) :
    moverPaceEffect c v = (v.setAux (mcIndex c.e) ((v.auxMover (mcIndex c.e)).paced c.e), .ok) := if_pos h

theorem moverPaceEffect_stream (h : ¬mcAux c.e = true) (v : State) :
    moverPaceEffect c v = (v.setStream (mcIndex c.e) ((v.stream (mcIndex c.e)).paced c.e), .ok) := if_neg h

/-! ### MOVER_STOP (14 R483) -/

/-- The auxiliary mover after an orderly stop: with a transfer under way it drains. -/
def AuxMover.ordered (a : AuxMover) : AuxMover :=
  if a.stopped then a else if a.runs then { a with draining := true } else { a with stopped := true }

/-- The stream after an orderly stop of its context: with a frame being written it drains. -/
def Stream.ordered (x : Stream) : Stream :=
  if x.stopped then x else if x.writing.isSome then { x with draining := true } else { x with stopped := true }

/-- An auxiliary mover that is stopped stays so, and another is stopped, at once or when its transfer has ended. -/
theorem moverStopEffect_aux (h : mcAux c.e = true) (v : State) : ∃ w : State, moverStopEffect c v = (w, .ok) ∧
    ((v.auxMover (mcIndex c.e)).stopped = true → w = v) ∧
    (¬(v.auxMover (mcIndex c.e)).stopped = true → w.Reports (v.setAux (mcIndex c.e) (v.auxMover (mcIndex c.e)).ordered)) := by
  simp only [moverStopEffect, if_pos h, AuxMover.ordered]
  split
  · next stopped => exact ⟨_, rfl, fun _ => rfl, absurd stopped⟩
  · next going =>
    split
    · exact ⟨_, rfl, fun stopped => absurd stopped going, fun _ => .refl _⟩
    · exact ⟨_, rfl, fun stopped => absurd stopped going, fun _ => State.auxRecord_reports ..⟩

/-- A context that is stopped stays so, and another is stopped, at once or when its frame has ended. -/
theorem moverStopEffect_stream (h : ¬mcAux c.e = true) (v : State) : ∃ w : State, moverStopEffect c v = (w, .ok) ∧
    ((v.stream (mcIndex c.e)).stopped = true → w = v) ∧
    (¬(v.stream (mcIndex c.e)).stopped = true → w.Reports (v.setStream (mcIndex c.e) (v.stream (mcIndex c.e)).ordered)) := by
  simp only [moverStopEffect, if_neg h, Stream.ordered]
  split
  · next stopped => exact ⟨_, rfl, fun _ => rfl, absurd stopped⟩
  · next going =>
    split
    · exact ⟨_, rfl, fun stopped => absurd stopped going, fun _ => .refl _⟩
    · exact ⟨_, rfl, fun stopped => absurd stopped going, fun _ => State.moverEvent_reports ..⟩

theorem moverStop_aux (h : s.Accepts c 0x15 (moverStopChecks c)) (aux : mcAux c.e = true) :
    ∃ u, s.command c 0x15 (moverStopChecks c) (moverStopEffect c) = .next u ∧
      u.SetsAux s (mcIndex c.e) (s.auxMover (mcIndex c.e)).ordered ∧ u.Completed s c .success := by
  by_cases stopped : (s.auxMover (mcIndex c.e)).stopped = true
  · obtain ⟨u, hu, same, done⟩ := command_does' s h (eff := moverStopEffect c) (fun v hv => by
      obtain ⟨w, effect, stays, -⟩ := moverStopEffect_aux aux v
      rw [effect, stays (by rwa [hv.within.auxMover])]
      exact ⟨hv, rfl⟩) rfl rfl
    rw [AuxMover.ordered, if_pos stopped]
    exact ⟨u, hu, same.keepsAux _, done⟩
  · obtain ⟨u, hu, stops, done⟩ := command_sets_aux AuxMover.ordered h (eff := moverStopEffect c) fun v hv => by
      obtain ⟨w, effect, -, stops⟩ := moverStopEffect_aux aux v
      exact ⟨w, effect, stops (by rwa [hv.within.auxMover])⟩
    exact ⟨u, hu, stops.setsAux, done⟩

theorem moverStop_stream (h : s.Accepts c 0x15 (moverStopChecks c)) (aux : ¬mcAux c.e = true) :
    ∃ u, s.command c 0x15 (moverStopChecks c) (moverStopEffect c) = .next u ∧
      u.SetsStream s (mcIndex c.e) (s.stream (mcIndex c.e)).ordered ∧ u.Completed s c .success := by
  by_cases stopped : (s.stream (mcIndex c.e)).stopped = true
  · obtain ⟨u, hu, same, done⟩ := command_does' s h (eff := moverStopEffect c) (fun v hv => by
      obtain ⟨w, effect, stays, -⟩ := moverStopEffect_stream aux v
      rw [effect, stays (by rwa [hv.within.stream])]
      exact ⟨hv, rfl⟩) rfl rfl
    rw [Stream.ordered, if_pos stopped]
    exact ⟨u, hu, same.keepsStream _, done⟩
  · obtain ⟨u, hu, stops, done⟩ := command_sets_stream Stream.ordered h (eff := moverStopEffect c) fun v hv => by
      obtain ⟨w, effect, -, stops⟩ := moverStopEffect_stream aux v
      exact ⟨w, effect, stops (by rwa [hv.within.stream])⟩
    exact ⟨u, hu, stops.setsStream, done⟩

/-! ### MOVER_SNUFF (14 R483) -/

theorem moverSnuffEffect_aux (h : mcAux c.e = true) (v : State) : moverSnuffEffect c v =
    ((v.setAux (mcIndex c.e) { v.auxMover (mcIndex c.e) with stopped := true, draining := false }).auxRecord (mcIndex c.e) 2 0x0805,
      .ok) := if_pos h

theorem moverSnuffEffect_stream (h : ¬mcAux c.e = true) (v : State) : moverSnuffEffect c v = (v.snuff (mcIndex c.e), .ok) := if_neg h

theorem State.snuff_idle (h : (s.stream n).writing = none) :
    (s.snuff n).Reports (s.setStream n { s.stream n with stopped := true, draining := false }) := by
  simp only [State.snuff, h]
  exact State.moverEvent_reports ..

/-- The stream stopped, with the frame that it was writing counted as lost (14 R483). -/
def Stream.cut (x : Stream) : Stream :=
  { x with counters := tabMod 0 x.counters 5 (fun v => satAdd 32 v 1), gap := x.gap + 1, stopped := true, draining := false }

theorem State.Within.setStream {y : Stream} (h : v.Within (s.setStream n y)) (z : Stream) : (v.setStream n z).Within (s.setStream n z) := by
  obtain ⟨_, _, _, _, _, rfl⟩ := h
  rw [← State.setStream_setStream s n y z]
  exact ⟨_, _, _, _, _, rfl⟩

theorem State.Within.own_stream {y : Stream} (h : v.Within (s.setStream n y)) : v.stream n = y :=
  (h.stream n).trans (State.stream_setStream ..)

/-- A dropped frame leaves its stream, whose pace it may end. -/
theorem State.dropFrame_drops {y : Stream} (h : v.Within (s.setStream n y)) (m : Nat) : ∃ p, (v.dropFrame n m).Within
    (s.setStream n { y with frames := y.frames.filter (fun g => g.number != m), paceLeft := p }) := by
  unfold State.dropFrame
  rw [State.modStream_eq, h.own_stream]
  exact ⟨_, (State.spoolLevels_within _).trans (h.setStream _)⟩

/-- A frame that leaves a stream for which no stop waits may end its move. -/
theorem State.frameLeft_leaves {y : Stream} (h : v.Within (s.setStream n y)) (stop : y.stopAt = none) (m : Nat) :
    ∃ q, (v.frameLeft n m).Within (s.setStream n { y with moveAt := q }) := by
  unfold State.frameLeft
  extract_lets x w
  have moved : ∃ q, w.Within (s.setStream n { y with moveAt := q }) := by
    simp only [w, x, h.own_stream]
    split
    · split
      · exact ⟨_, h⟩
      · exact ⟨_, h.setStream _⟩
    · exact ⟨_, h⟩
  obtain ⟨q, moved⟩ := moved
  have noStop : (w.stream n).stopAt = none := (congrArg Stream.stopAt moved.own_stream).trans stop
  refine ⟨q, ?_⟩
  simp only [noStop]
  exact moved

/-- But for its pace and its move, the stream is cut and without the frame, and one sconce may let frames go. -/
theorem State.snuff_writing {f : StreamFrame} (h : (s.stream n).writing = some f) (stop : (s.stream n).stopAt = none) : ∃ p q k z,
    (s.snuff n).Within ((s.setStream n { (s.stream n).cut with
      frames := (s.stream n).frames.filter (fun g => g.number != f.number), paceLeft := p, moveAt := q }).setSconce k z) := by
  simp only [State.snuff, h, State.streamCount, State.modStream_eq, State.stream_setStream, State.setStream_setStream]
  obtain ⟨p, drops⟩ := State.dropFrame_drops
    (State.moverEvent_reports (s.setStream n (s.stream n).cut) n 2 0x0805 (f.number % 2 ^ 56 * 256)).within f.number
  obtain ⟨q, leaves⟩ := State.frameLeft_leaves drops stop f.number
  exact ⟨p, q, _, _, leaves.setSconce _ _⟩

theorem moverSnuff_writing {f : StreamFrame} (h : s.Accepts c 0x15 (moverSnuffChecks c)) (aux : ¬mcAux c.e = true)
    (writes : (s.stream (mcIndex c.e)).writing = some f) (stop : (s.stream (mcIndex c.e)).stopAt = none) :
    ∃ u, s.command c 0x15 (moverSnuffChecks c) (moverSnuffEffect c) = .next u ∧ ∃ p q k z,
      u.Within ((s.setStream (mcIndex c.e) { (s.stream (mcIndex c.e)).cut with
        frames := (s.stream (mcIndex c.e)).frames.filter (fun g => g.number != f.number), paceLeft := p, moveAt := q }).setSconce k z) := by
  have start := State.committed_reports s c 0x15
  rw [← start.within.stream] at writes stop
  obtain ⟨p, q, k, z, snuffed⟩ := State.snuff_writing writes stop
  rw [start.within.stream] at snuffed
  refine ⟨_, State.command_accepted (moverSnuffEffect c) h, p, q, k, z, ?_⟩
  rw [moverSnuffEffect_stream aux]
  exact (State.settle_reports ..).within.trans (snuffed.trans ((start.setStream ..).within.setSconce k z))

/-! ### MOVER_SPOOL (14 R482, R493) -/

theorem Port.spoolGiB_of_standing {x y : Port} (h : x.standing = y.standing) : x.spoolGiB = y.spoolGiB :=
  (congrArg Port.spoolGiB h : x.standing.spoolGiB = y.standing.spoolGiB)

theorem State.spoolLevel_within (s : State) (p : Nat) : (s.spoolLevel p).Within s := by
  unfold State.spoolLevel
  extract_lets x held share tell
  have told (b : Bool) (k d : Nat) : (tell (s.setPort p { x with spoolHigh := b }) k d).Within s :=
    (State.record_reports ..).within.trans (State.setPort_within ..)
  exact .ite (told ..) (.ite (told ..) (State.Reports.refl s).within)

/-- The port that sent MOVER_SPOOL has the share that it names; reporting on the level of its spool changes no share. -/
theorem moverSpoolEffect_shares (c : RingCmd) (v : State) :
    ((moverSpoolEffect c v).1.port c.p).spoolGiB = fld c.e 0x14 1 ∧
      (∀ q, q ≠ c.p → ((moverSpoolEffect c v).1.port q).spoolGiB = (v.port q).spoolGiB) ∧
      (moverSpoolEffect c v).1.Within v ∧ (moverSpoolEffect c v).1.Answers v := by
  have level := State.spoolLevel_footing (v.modPort c.p fun x => { x with spoolGiB := fld c.e 0x14 1 }) c.p
  have share (q : Nat) := Port.spoolGiB_of_standing (State.footing_port level q)
  refine ⟨(share c.p).trans (congrArg Port.spoolGiB (State.port_setPort ..)),
    fun q hq => (share q).trans (congrArg Port.spoolGiB (State.port_setPort_other _ _ hq)),
    (State.spoolLevel_within ..).trans (State.modPort_onPorts ..).within, ?_⟩
  exact (State.answers_of_footing (congrArg Spine.mode (State.spoolLevel_spine ..)) level).trans
    (v.modPort_answers c.p (fun _ => rfl) fun _ => rfl)

theorem moverSpool_runs (h : s.Accepts c 0x15 (moverSpoolChecks c)) :
    ∃ u, s.command c 0x15 (moverSpoolChecks c) (moverSpoolEffect c) = .next u ∧
      ((u.port c.p).spoolGiB = fld c.e 0x14 1 ∧ (∀ q, q ≠ c.p → (u.port q).spoolGiB = (s.port q).spoolGiB) ∧ u.Within s) ∧
      u.Completed s c .success := by
  refine State.command_succeeds h fun v hv => ?_
  obtain ⟨share, others, within, answers⟩ := moverSpoolEffect_shares c v
  have kept {u w : State} (hu : u.Reports w) (q : Nat) : (u.port q).spoolGiB = (w.port q).spoolGiB :=
    Port.spoolGiB_of_config (hu.2.2 q).1
  exact ⟨rfl, answers, fun u hu => ⟨(kept hu _).trans share, fun q hq => (kept hu q).trans ((others q hq).trans (kept hv q)),
    hu.within.trans (within.trans hv.within)⟩⟩

/-- Settles O8: each effect, but for reporting, sets one auxiliary mover, one stream, or the share of one port; the SNUFF of a frame that
is being written also takes the frame from its stream. -/
theorem moverCommandsRun : Obligations.MoverCommandsRun := by
  refine ⟨fun t c s0 => ⟨fun h => ?_, fun h => ?_, fun h => ?_⟩, fun t c s0 h => ?_,
    fun t c s0 h => ⟨fun aux => ?_, fun aux idle => ?_, fun f aux writes stop => ?_⟩, fun t c s0 h => moverSpool_runs h⟩
  · refine command_sets_stream (fun x => { x with
      move := some ((s0.elapse t).dt, if bitAt c.e 0xA 0 then some (fld c.e 0x10 8) else none) }) h fun v hv => ?_
    rw [← hv.dt]
    exact ⟨_, rfl, .refl _⟩
  · by_cases aux : mcAux c.e = true
    · simp only [if_pos aux]
      exact command_sets_aux (fun x => { x with stopped := false, draining := false }) h fun v _ =>
        ⟨_, moverResumeEffect_aux aux v, .refl _⟩
    · simp only [if_neg aux]
      exact command_sets_stream (fun x => { x with stopped := false, draining := false }) h fun v _ =>
        ⟨_, moverResumeEffect_stream aux v, .refl _⟩
  · by_cases aux : mcAux c.e = true
    · obtain ⟨u, hu, paces, done⟩ := command_sets_aux (AuxMover.paced · c.e) h (eff := moverPaceEffect c) fun v _ =>
        ⟨_, moverPaceEffect_aux aux v, .refl _⟩
      obtain ⟨own, others, reports⟩ := paces.setsAux
      simp only [if_pos aux]
      exact ⟨u, hu, ⟨own ▸ rfl, own ▸ rfl, others, reports⟩, done⟩
    · obtain ⟨u, hu, paces, done⟩ := command_sets_stream (Stream.paced · c.e) h (eff := moverPaceEffect c) fun v _ =>
        ⟨_, moverPaceEffect_stream aux v, .refl _⟩
      obtain ⟨own, others, reports⟩ := paces.setsStream
      simp only [if_neg aux]
      exact ⟨u, hu, ⟨own ▸ rfl, own ▸ rfl, own ▸ rfl, others, reports⟩, done⟩
  · by_cases aux : mcAux c.e = true
    · simp only [if_pos aux]
      exact moverStop_aux h aux
    · simp only [if_neg aux]
      exact moverStop_stream h aux
  · exact command_sets_aux (fun x => { x with stopped := true, draining := false }) h fun v _ =>
      ⟨_, moverSnuffEffect_aux aux v, State.auxRecord_reports ..⟩
  · exact command_sets_stream (fun x => { x with stopped := true, draining := false }) h fun v hv =>
      ⟨_, moverSnuffEffect_stream (ne_true_of_eq_false aux) v, State.snuff_idle (by rwa [hv.within.stream])⟩
  · obtain ⟨u, hu, p, q, k, z, snuffed⟩ := moverSnuff_writing h (ne_true_of_eq_false aux) writes stop
    have own := (snuffed.stream _).trans (State.stream_setStream ..)
    refine ⟨u, hu, own ▸ rfl, own ▸ rfl, own ▸ rfl, own ▸ rfl, own ▸ rfl,
      fun m hm => (snuffed.stream m).trans (State.stream_setStream_other _ _ hm), ?_⟩
    rw [snuffed.streams, snuffed.sconces]
    exact snuffed

end Sys2Proof.Machine
end

section
/-!
MAP_LOAD (14 R484, R487, R488): RUN and UNMAP set the translation area, and a LIST is left to an auxiliary mover.
-/

namespace Sys2Proof.Machine

variable {s v : State} {c : RingCmd}

theorem State.journalNow_reports (s : State) (c : RingCmd) : (s.journalNow c).Reports s := by
  unfold State.journalNow
  exact State.journalCommand_reports ..

theorem mapRunEffect_reports (h : v.Reports s) :
    (mapRunEffect c v).1.Reports (s.mapWrite c.p c.e (fun k => fld c.e 0x18 8 + k * 2 ^ mapLog2 c.e)) := by
  simp only [mapRunEffect]
  exact ((v.journalNow_reports c).trans h).map (·.mapWrite c.p c.e fun k => fld c.e 0x18 8 + k * 2 ^ mapLog2 c.e)
    fun _ _ _ _ _ _ => rfl

theorem mapUnmapEffect_reports (h : v.Reports s) :
    (mapUnmapEffect c v).1.Reports { s with map := s.map.filter (fun m => !(s.mapTouched c.e).contains m) } := by
  have map : v.map = s.map := by obtain ⟨⟨_, _, _, _, _, rfl⟩, -⟩ := h; rfl
  simp only [mapUnmapEffect, State.mapTouched, map]
  exact ((v.journalNow_reports c).trans h).map (fun t => { t with map := s.map.filter _ }) fun _ _ _ _ _ _ => rfl

/-- Settles O9: RUN and UNMAP journal their command and set the translation area; LIST leaves one transfer with the auxiliary movers. -/
theorem mapCommandsMapTheirRange : Obligations.MapCommandsMapTheirRange := by
  refine fun t c s0 => ⟨fun h => ?_, fun h => ?_, fun h => ?_⟩
  · exact command_does' _ h (fun v hv => ⟨mapRunEffect_reports hv, rfl⟩) rfl rfl
  · obtain ⟨u, hu, ⟨_, ⟨q, ring, entry, stays, rfl⟩, queues⟩, waits⟩ := command_queues
      (fun j => ∃ q : LoadCmd, q.ring = ringId c.p c.i ∧ q.entry = c.e ∧ q.gone = false ∧ j = .mapList q c.data) h
      (eff := mapListEffect c) fun v _ => ⟨_, ⟨v.loadCmd c, rfl, rfl, rfl, rfl⟩, rfl⟩
    exact ⟨u, hu, ⟨⟨q, ring, entry, stays, queues.job⟩, queues.reports⟩, _, waits⟩
  · exact command_does' _ h (fun v hv => ⟨mapUnmapEffect_reports hv, rfl⟩) rfl rfl

end Sys2Proof.Machine
end

section
/-!
One step: the command at the front of the queue, or one tick of the time base (95; entry 6).
-/

namespace Sys2Proof.Machine

/-- Settles O1: a queue with a front command is the first case of a step. -/
theorem stepRunsTheFrontCommand : Obligations.StepRunsTheFrontCommand := by
  intro c rest s hp
  rw [step, hp]

/-- Settles O2: the idle step is the passing of one tick, which moves `ticks` and `time` alone. -/
theorem idleStepIsOneTick : Obligations.IdleStepIsOneTick := by
  intro s hp
  refine ⟨s.elapse 1, by rw [step, hp], ?_, ?_, rfl⟩
  · simp [State.ns, mul_add]
  · rw [State.elapse_time, Int.toNat_of_nonneg (Int.emod_nonneg _ (by norm_num)), Nat.cast_one, one_mul]

end Sys2Proof.Machine
end

section
/-!
The VERSION block (15 R539).
-/

namespace Sys2Proof.Machine

/-- Settles O60: both sides are one list of 64 bytes. -/
theorem versionBlockIsAsGiven : Obligations.VersionBlockIsAsGiven := by
  intro s
  rfl

end Sys2Proof.Machine
end

section
/-!
SUPPORT. What alerts, resets and the beginning of start-up leave of a state (15 R529, R535; 17 R580, R586 to R590; 18 R604, R608): one lemma
for each operation, which says its result as the state before with other fields.
-/

namespace Sys2Proof.Machine

variable {s u v w : State}

/-! ### Reporting and the time base -/

/-- A field that reporting does not touch. -/
theorem State.Within.keeps {α : Type} (f : State → α) (h : u.Within s)
    (hf : (fun ports jn windows seq out => f { s with ports := ports, jn := jn, windows := windows, seq := seq, out := out }) =
      fun _ _ _ _ _ => f s) : f u = f s := by
  obtain ⟨ports, jn, windows, seq, out, rfl⟩ := h
  exact congrArg (fun g => g ports jn windows seq out) hf

theorem State.timeHoldover_onTime (s : State) : s.timeHoldover.OnTime s := by
  unfold State.timeHoldover
  refine .ite (.refl s) ?_
  extract_lets s1
  have lost : s1.OnTime s := by
    simp only [s1]
    exact .ite (State.timeTo_onTime ..) s.sourceLoss_onTime
  exact (s1.onTime_of _ s1.rateAdj).trans lost

/-! ### Alerts (18 R604, R608) -/

/-- u is s but for reporting, for the status of alerts, and for how the FV8128 calls the host; nothing that was sent is taken back. -/
def State.Alerts (u s : State) : Prop :=
  (∃ ports jn windows seq out status low notifying, u = { s with
    ports := ports, jn := jn, windows := windows, seq := seq, out := out
    mg := { s.mg with alertStatus := status, alertLow := low, notifying := notifying } }) ∧ ∀ o, s.Sent o → u.Sent o

theorem State.Alerts.refl (s : State) : s.Alerts s := ⟨⟨_, _, _, _, _, _, _, _, rfl⟩, fun _ => id⟩

theorem State.Alerts.trans (h : u.Alerts v) (g : v.Alerts w) : u.Alerts w := by
  refine ⟨?_, fun o => h.2 o ∘ g.2 o⟩
  obtain ⟨⟨_, _, _, _, _, _, _, _, rfl⟩, -⟩ := h
  obtain ⟨⟨_, _, _, _, _, _, _, _, rfl⟩, -⟩ := g
  exact ⟨_, _, _, _, _, _, _, _, rfl⟩

theorem State.Alerts.ite {c : Prop} [Decidable c] (h : u.Alerts s) (g : v.Alerts s) : (if c then u else v).Alerts s := by
  split <;> assumption

theorem State.Reports.alerts (h : u.Reports s) : u.Alerts s := by
  obtain ⟨⟨_, _, _, _, _, rfl⟩, sent, -⟩ := h
  exact ⟨⟨_, _, _, _, _, _, _, _, rfl⟩, sent⟩

/-- A field that neither reporting nor an alert touches. -/
theorem State.Alerts.keeps {α : Type} (f : State → α) (h : u.Alerts s)
    (hf : (fun ports jn windows seq out a l n => f { s with
      ports := ports, jn := jn, windows := windows, seq := seq, out := out
      mg := { s.mg with alertStatus := a, alertLow := l, notifying := n } }) = fun _ _ _ _ _ _ _ _ => f s) : f u = f s := by
  obtain ⟨⟨ports, jn, windows, seq, out, a, l, n, rfl⟩, -⟩ := h
  exact congrArg (fun g => g ports jn windows seq out a l n) hf

theorem State.alertDrop_alerts (s : State) : s.alertDrop.Alerts s :=
  .ite (.refl s) ((State.say_reports ..).alerts.trans ⟨⟨_, _, _, _, _, _, _, _, rfl⟩, fun _ => id⟩)

theorem State.callHost_alerts (s : State) : s.callHost.Alerts s := by
  unfold State.callHost
  dsimp only
  have called (c : Bool) (n : Option (Nat × Nat)) : State.Alerts (if c then { s with mg := { s.mg with notifying := n } } else s) s :=
    .ite ⟨⟨_, _, _, _, _, _, _, _, rfl⟩, fun _ => id⟩ (.refl s)
  exact .ite (called ..) ((State.alertDrop_alerts _).trans (called ..))

theorem State.alert_alerts (s : State) (k : Nat) : (s.alert k).Alerts s := by
  unfold State.alert
  extract_lets m rises s1
  have set : s1.Alerts s := ⟨⟨_, _, _, _, _, _, _, _, rfl⟩, fun _ => id⟩
  exact .ite (s1.callHost_alerts.trans set) set

/-- The registers of the management target (18 R602) stand. -/
theorem State.Alerts.mg_keeps (h : u.Alerts s) : u.mg.keeps s.mg := by
  obtain ⟨⟨_, _, _, _, _, _, _, _, rfl⟩, -⟩ := h
  exact ⟨rfl, rfl, rfl, rfl, rfl, rfl⟩

theorem Mg.keeps.trans {x y z : Mg} (h : x.keeps y) (g : y.keeps z) : x.keeps z := by
  obtain ⟨h1, h2, h3, h4, h5, h6⟩ := h
  obtain ⟨g1, g2, g3, g4, g5, g6⟩ := g
  exact ⟨h1.trans g1, h2.trans g2, h3.trans g3, h4.trans g4, h5.trans g5, h6.trans g6⟩

/-- A change of mode is journaled and rises as an alert. -/
theorem State.setMode_alerts (s : State) (m : Mode) : (s.setMode m).Alerts { s with mode := m } := by
  have journaled : ∀ q t i d b, State.Alerts { s.journal q t i d b with mode := m } { s with mode := m } := fun _ _ _ _ _ =>
    ((State.journal_reports ..).map (fun v : State => { v with mode := m }) fun _ _ _ _ _ _ => rfl).alerts
  exact (State.alert_alerts ..).trans (journaled ..)

/-! ### The main domain loses its state (17 R587) -/

/-- u is s in mode m without what the main domain held; what the Ember keeps is in u as it was. -/
def State.Cleared (u s : State) (m : Mode) : Prop :=
  ∃ out rateAdj seq ports lanes tb health sup windows jn status low notifying xfer, u = { s with
    mode := m, out := out, rateAdj := rateAdj, seq := seq, ports := ports, lanes := lanes, tb := tb, health := health, sup := sup
    claim := some 0, claimLast := 0, tables := [], sconces := [], streams := [], aux := [], auxWait := [], encoders := [], seqs := []
    targets := [], gio := [], map := [], lanterns := [], channels := [], flights := [], groups := [], plans := [], takeOvers := []
    patrol := Patrol.reset, dark := DarkState.reset, windows := windows, jn := jn, recorder := Recorder.reset, session := Session.reset
    tests := []
    mg := { s.mg with alertStatus := status, alertLow := low, notifying := notifying, buses := [], xfer := xfer }
    start := { s.start with running := false, pwrGood := false, pll := false, fw := .none, failStep := 0, hbm := false, hbmFailed := 0
                            tests := false, cagePower := [], cageReset := [], modeWait := none, transition := none, keepAt := none } }

/-- Take-overs that are cut short move the spare map alone, and pins that are released are sent. -/
theorem State.mapTakeOvers_eq (s : State) (l : List TakeOver) : ∃ health, l.foldl State.mapTakeOver s = { s with health := health } := by
  induction l generalizing s with
  | nil => exact ⟨_, rfl⟩
  | cons q l ih =>
    have one : ∃ health, s.mapTakeOver q = { s with health := health } := by
      unfold State.mapTakeOver
      split
      · exact ⟨_, rfl⟩
      · split <;> exact ⟨_, rfl⟩
    obtain ⟨_, one⟩ := one
    obtain ⟨h, all⟩ := ih (s.mapTakeOver q)
    exact ⟨h, by rw [List.foldl_cons, all, one]⟩

theorem State.pinsOff_reports (s : State) : s.pinsOff.Reports s := by
  unfold State.pinsOff
  exact (State.Reports.foldl (fun _ _ => State.say_reports ..) _ _).trans ((State.Reports.foldl (fun _ _ => State.say_reports ..) _ _).trans
    (.trans (.dite (State.say_reports ..) (.refl _)) (.dite (State.say_reports ..) (.refl s))))

theorem State.Cleared.held {m : Mode} (h : v.Cleared s m) (b : TimeBase) : State.Cleared { v.timeHoldover with tb := b } s m := by
  obtain ⟨_, _, _, _, _, held⟩ := v.timeHoldover_onTime.within
  obtain ⟨_, _, _, _, _, _, _, _, _, _, _, _, _, _, cleared⟩ := h
  rw [held, cleared]
  exact ⟨_, _, _, _, _, _, _, _, _, _, _, _, _, _, rfl⟩

theorem State.clearMain_cleared (s : State) : s.clearMain.Cleared s s.mode := by
  obtain ⟨_, _, _, _, _, pins⟩ := s.pinsOff_reports.within
  obtain ⟨_, taken⟩ := s.pinsOff.mapTakeOvers_eq s.takeOvers
  unfold State.clearMain
  refine State.Cleared.held ?_ _
  rw [taken, pins]
  exact ⟨_, _, _, _, _, _, _, _, _, _, _, _, _, _, rfl⟩

theorem State.Cleared.after_alerts {m n : Mode} (h : u.Cleared v n) (g : v.Alerts { s with mode := m }) (hm : n = m) : u.Cleared s m := by
  obtain ⟨_, _, _, _, _, _, _, _, _, _, _, _, _, _, rfl⟩ := h
  obtain ⟨⟨_, _, _, _, _, _, _, _, rfl⟩, -⟩ := g
  subst hm
  exact ⟨_, _, _, _, _, _, _, _, _, _, _, _, _, _, rfl⟩

theorem State.toKeep_cleared (s : State) : s.toKeep.Cleared s .keep := by
  unfold State.toKeep
  by_cases h : s.mode == .keep
  · rw [if_pos h]
    exact eq_of_beq h ▸ s.clearMain_cleared
  · rw [if_neg h]
    exact (State.clearMain_cleared _).after_alerts (s.setMode_alerts .keep) ((s.setMode_alerts .keep).keeps State.mode rfl)

section
variable {m : Mode} (h : u.Cleared s m)
include h

theorem State.Cleared.mode : u.mode = m := by obtain ⟨_, _, _, _, _, _, _, _, _, _, _, _, _, _, rfl⟩ := h; rfl
theorem State.Cleared.time : u.time = s.time := by obtain ⟨_, _, _, _, _, _, _, _, _, _, _, _, _, _, rfl⟩ := h; rfl
theorem State.Cleared.ticks : u.ticks = s.ticks := by obtain ⟨_, _, _, _, _, _, _, _, _, _, _, _, _, _, rfl⟩ := h; rfl
theorem State.Cleared.ns : u.ns = s.ns := congrArg (2 * ·) h.ticks
theorem State.Cleared.tap : u.tap = s.tap := by obtain ⟨_, _, _, _, _, _, _, _, _, _, _, _, _, _, rfl⟩ := h; rfl
theorem State.Cleared.supply : u.supply = s.supply := by obtain ⟨_, _, _, _, _, _, _, _, _, _, _, _, _, _, rfl⟩ := h; rfl
theorem State.Cleared.mg_keeps : u.mg.keeps s.mg := by
  obtain ⟨_, _, _, _, _, _, _, _, _, _, _, _, _, _, rfl⟩ := h; exact ⟨rfl, rfl, rfl, rfl, rfl, rfl⟩

theorem State.Cleared.start : u.start = { s.start with
    running := false, pwrGood := false, pll := false, fw := .none, failStep := 0, hbm := false, hbmFailed := 0
    tests := false, cagePower := [], cageReset := [], modeWait := none, transition := none, keepAt := none } := by
  obtain ⟨_, _, _, _, _, _, _, _, _, _, _, _, _, _, rfl⟩ := h; rfl

/-- The claim is port 0's, and the main domain holds nothing. -/
theorem State.Cleared.empty : u.claim = some 0 ∧ u.tables = [] ∧ u.sconces = [] ∧ u.streams = [] ∧ u.lanterns = [] ∧ u.channels = [] ∧
    u.map = [] ∧ u.encoders = [] ∧ u.seqs = [] ∧ u.groups = [] ∧ u.aux = [] ∧ u.takeOvers = [] ∧ u.tests = [] := by
  obtain ⟨_, _, _, _, _, _, _, _, _, _, _, _, _, _, rfl⟩ := h
  exact ⟨rfl, rfl, rfl, rfl, rfl, rfl, rfl, rfl, rfl, rfl, rfl, rfl, rfl⟩
end

/-! ### Start-up begins (17 R573, R581) -/

/-- What the main domain's loss leaves, the beginning of start-up leaves. -/
theorem State.beginStart_keeps {α : Type} (f : State → α) (hc : f s.clearMain = f s)
    (hf : ∀ u start ports supply, f { u with start := start, ports := ports, supply := supply } = f u) :
    f s.beginStart = f s := by
  have cleared : f (if s.start.keepAt.isSome then s.clearMain else s) = f s := by split <;> [exact hc; rfl]
  exact (hf ..).trans cleared

theorem State.beginStart_tap (s : State) : s.beginStart.tap = s.tap := State.beginStart_keeps State.tap s.clearMain_cleared.tap fun _ _ _ _ => rfl
theorem State.beginStart_mode (s : State) : s.beginStart.mode = s.mode := State.beginStart_keeps State.mode s.clearMain_cleared.mode fun _ _ _ _ => rfl

end Sys2Proof.Machine
end

section
/-!
The test access port (20 R648 to R651): what becomes current, and where a cycle of TCK takes the controller.
-/

namespace Sys2Proof.Machine

variable {s : State}

/-! ### Instructions (20 R649, R651) -/

theorem State.pinsFreed_tap (s : State) : s.pinsFreed.tap = { s.tap with pins := false, startWaits := false } := by
  unfold State.pinsFreed
  dsimp only
  split
  · exact State.beginStart_tap _
  · rfl

theorem State.instruction_free {code : Nat} (h : pinControlling code = false) (s : State) :
    (s.instruction code).tap = { s.tap with ir := code, pins := false, startWaits := false } := by
  unfold State.instruction
  rw [h, Bool.false_and, if_neg nofun, if_neg nofun, State.pinsFreed_tap]

theorem State.instruction_scans {code : Nat} (h : pinControlling code = true) (low : s.start.porstLow = true) :
    s.instruction code = { s with tap := { s.tap with ir := code, pins := true } } := by
  unfold State.instruction
  rw [h, low, Bool.true_and, if_pos rfl]

theorem State.instruction_refused (s : State) {code : Nat} (h : pinControlling code = true) (high : s.start.porstLow = false) :
    (s.instruction code).tap = { s.tap with ir := 0xFF, refused := true, pins := false, startWaits := false } := by
  unfold State.instruction
  rw [h, high, Bool.true_and, if_neg nofun, if_pos rfl, State.pinsFreed_tap]

/-- An instruction that becomes current leaves the controller's state and its registers. -/
theorem State.instruction_keeps {α : Type} (f : TapPort → α) (hf : ∀ x i p w r, f { x with ir := i, pins := p, startWaits := w, refused := r } = f x)
    (s : State) (code : Nat) : f (s.instruction code).tap = f s.tap := by
  unfold State.instruction
  split
  · exact hf s.tap code true s.tap.startWaits s.tap.refused
  · split
    · rw [State.pinsFreed_tap]
      exact hf s.tap 0xFF false false true
    · rw [State.pinsFreed_tap]
      exact hf s.tap code false false s.tap.refused

section
variable {code : Nat} (fed : s.supply.fed = true)
include fed

theorem State.tapLoad_free (h : pinControlling code = false) :
    (s.tapLoad code).tap.ir = code ∧ (s.tapLoad code).tap.st = .idle ∧ (s.tapLoad code).tap.pins = false := by
  rw [State.tapLoad, if_pos fed, State.instruction_free h]
  exact ⟨rfl, rfl, rfl⟩

theorem State.tapLoad_scans (h : pinControlling code = true) (low : s.start.porstLow = true) :
    s.tapLoad code = { s with tap := { s.tap with st := .idle, ir := code, pins := true } } := by
  rw [State.tapLoad, if_pos fed]
  exact State.instruction_scans h low

theorem State.tapLoad_refused (h : pinControlling code = true) (high : s.start.porstLow = false) :
    ((s.tapLoad code).tap.ir = 0xFF ∧ (s.tapLoad code).tap.st = .idle ∧ (s.tapLoad code).tap.pins = false) ∧
      (s.tapLoad code).tap.refused = true := by
  rw [State.tapLoad, if_pos fed, State.instruction_refused { s with tap := { s.tap with st := .idle } } h high]
  exact ⟨⟨rfl, rfl, rfl⟩, rfl⟩

end

/-! ### A cycle of TCK (20 R648, R649) -/

/-- The state reached acts on registers, and leaves the controller in it. -/
theorem State.tapEnter_st (s : State) (before : TapState) : (s.tapEnter before).tap.st = s.tap.st := by
  have instruction (u : State) (code : Nat) : (u.instruction code).tap.st = u.tap.st :=
    State.instruction_keeps TapPort.st (fun _ _ _ _ _ => rfl) ..
  unfold State.tapEnter
  dsimp only
  split
  case h_1 h =>
    split
    · rfl
    · exact (instruction _ _).trans h.symm
  case h_2 => exact instruction ..
  all_goals repeat' split
  all_goals rfl

theorem State.tapEdge_st (s : State) (tdi : Bool) : (s.tapEdge tdi).tap.st = s.tap.st := by
  unfold State.tapEdge State.captureDr
  dsimp only
  repeat' split
  all_goals rfl

theorem State.tapEdge_shiftDr (h : s.tap.st = .shiftDr) (tdi : Bool) : s.tapEdge tdi =
    State.say { s with tap := { s.tap with drShift := s.tap.drShift.tail ++ [tdi] } } (.tdo (s.tap.drShift.headD false)) := by
  unfold State.tapEdge
  dsimp only
  rw [h]

theorem State.tapEdge_idcode (h : s.tap.st = .captureDr) (ir : s.tap.ir = 0x01) (tdi : Bool) :
    s.tapEdge tdi = { s with tap := { s.tap with drShift := lowBits 32 0x281281CF } } := by
  unfold State.tapEdge State.captureDr
  dsimp only
  rw [h, ir]
  exact (if_neg (by decide)).trans (if_pos rfl)

/-- From Shift-DR and from Capture-DR the controller reaches a state that does nothing. -/
theorem State.tapEnter_dr (s : State) (before : TapState) (h : s.tap.st = .exit1Dr ∨ s.tap.st = .shiftDr) : s.tapEnter before = s := by
  unfold State.tapEnter
  dsimp only
  obtain h | h := h <;> rw [h]

/-- One cycle of TCK (20 R648): the state before acts at the rising edge, the state reached at the end. -/
def State.tapCycle (s : State) (tms tdi : Bool) : State :=
  State.tapEnter { s.tapEdge tdi with tap := { (s.tapEdge tdi).tap with st := (s.tapEdge tdi).tap.st.next tms } } (s.tapEdge tdi).tap.st

theorem execTapClock_fed {t : Nat} (fed : s.supply.fed = true) (tms tdi : Bool) :
    execTapClock t tms tdi s = .next ((s.elapse t).tapCycle tms tdi) := if_neg (by simp [fed])

theorem State.tapCycle_st (s : State) (tms tdi : Bool) : (s.tapCycle tms tdi).tap.st = s.tap.st.next tms :=
  (State.tapEnter_st ..).trans (congrArg (TapState.next · tms) (s.tapEdge_st tdi))

theorem State.tapCycle_dr (tms tdi : Bool) (h : s.tap.st = .shiftDr ∨ s.tap.st = .captureDr) :
    s.tapCycle tms tdi = { s.tapEdge tdi with tap := { (s.tapEdge tdi).tap with st := s.tap.st.next tms } } := by
  unfold State.tapCycle
  rw [State.tapEdge_st]
  refine State.tapEnter_dr _ _ ?_
  obtain h | h := h <;> cases tms <;> simp [h, TapState.next]

/-- Settles O53: each instruction by its kind, and a cycle of TCK by the edge and by the state it reaches. -/
theorem testAccessPort : Obligations.TestAccessPort := by
  intro t s s1 loaded fed
  have current {code : Nat} (h : pinControlling code = false) : loaded (s1.tapLoad code) code := State.tapLoad_free (s := s1) fed h
  have scans {code : Nat} (h : pinControlling code = true) (low : s.start.porstLow = true) := State.tapLoad_scans (s := s1) fed h low
  have refused {code : Nat} (h : pinControlling code = true) (high : s.start.porstLow = false) := State.tapLoad_refused (s := s1) fed h high
  refine ⟨⟨_, rfl, current rfl⟩, ⟨_, rfl, current rfl⟩, ⟨_, rfl, current rfl⟩, ⟨_, rfl, current rfl⟩,
    fun low => congrArg _ (scans rfl low), fun high => ⟨_, rfl, refused rfl high⟩,
    fun low => congrArg _ (scans rfl low), fun high => ⟨_, rfl, refused rfl high⟩,
    fun low => congrArg _ (scans rfl low), fun high => ⟨_, rfl, refused rfl high⟩,
    fun low => congrArg _ (scans rfl low), fun high => ⟨_, rfl, refused rfl high⟩,
    fun low => congrArg _ (scans rfl low), fun high => ⟨_, rfl, refused rfl high⟩, ?_, ?_⟩
  · have reset : s1.tapReset.tap = { s.tap with st := .reset, ir := 0x01, pins := false, startWaits := false } := State.instruction_free rfl _
    refine ⟨s1.tapReset, congrArg _ (if_pos fed), ?_⟩
    rw [reset]
    exact ⟨rfl, rfl, rfl⟩
  · refine fun tms tdi => ⟨s1.tapCycle tms tdi, execTapClock_fed fed tms tdi, s1.tapCycle_st tms tdi, fun shift => ?_, fun capture idcode => ?_⟩
    · rw [State.tapCycle_dr (s := s1) tms tdi (.inl shift), State.tapEdge_shiftDr (s := s1) shift tdi]
      exact ⟨rfl, List.mem_cons_self, rfl⟩
    · rw [State.tapCycle_dr (s := s1) tms tdi (.inr capture), State.tapEdge_idcode (s := s1) capture idcode tdi]

end Sys2Proof.Machine
end

section
/-!
SUPPORT. What the Ember holds, apart from the data path: modes, start-up, supplies, spares and tests, the management target and the test
access port. The operations of lanes, frames, streams, the Lamplighter and the time base leave it. One lemma for each operation, in the
order of the model.
-/

namespace Sys2Proof.Machine

variable {s u : State}

/-- A state without what reporting, the data path, the Lamplighter, the fabric and the time base move. -/
def State.ember (s : State) : State :=
  { s with
    out := [], rateAdj := 0, fresh := 0, seq := [], ports := [], lanes := [], tables := [], sconces := [], sliceBusy := [],
    streams := [], aux := [], auxWait := [], tb := TimeBase.reset, encoders := [], seqs := [], targets := [], gio := [],
    lanterns := [], channels := [], flights := [], groups := [], patrol := Patrol.reset, windows := [], jn := Journal.reset,
    recorder := Recorder.reset, session := Session.reset }

theorem State.Reports.ember (h : u.Reports s) : u.ember = s.ember := by obtain ⟨⟨_, _, _, _, _, rfl⟩, -⟩ := h; rfl
theorem State.Within.ember (h : u.Within s) : u.ember = s.ember := by obtain ⟨_, _, _, _, _, rfl⟩ := h; rfl
theorem State.OnTime.ember (h : u.OnTime s) : u.ember = s.ember := (State.Reports.ember h).trans rfl
theorem State.OnLane.ember {l : Nat} (h : u.OnLane s l) : u.ember = s.ember := h.reports.ember.trans rfl

@[simp] theorem State.ember_ite (c : Prop) [Decidable c] (s u : State) :
    (if c then s else u).ember = if c then s.ember else u.ember := apply_ite ..

@[simp] theorem State.foldl_ember {α : Type} {f : State → α → State} (h : ∀ t x, (f t x).ember = t.ember) (l : List α) (s : State) :
    (l.foldl f s).ember = s.ember := foldl_keeps State.ember h l s

theorem State.ember_mg (h : u.ember = s.ember) : u.mg = s.mg := (congrArg State.mg h : u.ember.mg = s.ember.mg)
theorem State.ember_start (h : u.ember = s.ember) : u.start = s.start := (congrArg State.start h : u.ember.start = s.ember.start)
theorem State.ember_supply (h : u.ember = s.ember) : u.supply = s.supply := (congrArg State.supply h : u.ember.supply = s.ember.supply)
theorem State.ember_ticks (h : u.ember = s.ember) : u.ticks = s.ticks := (congrArg State.ticks h : u.ember.ticks = s.ember.ticks)
theorem State.ember_time (h : u.ember = s.ember) : u.time = s.time := (congrArg State.time h : u.ember.time = s.ember.time)
theorem State.ember_health (h : u.ember = s.ember) : u.health = s.health := (congrArg State.health h : u.ember.health = s.ember.health)

/-! ### What every family shares -/

@[simp] theorem State.setLantern_ember (s : State) (n : Nat) (x : Lantern) : (s.setLantern n x).ember = s.ember := rfl
@[simp] theorem State.modLantern_ember (s : State) (n : Nat) (f : Lantern → Lantern) : (s.modLantern n f).ember = s.ember := rfl
@[simp] theorem State.setSconce_ember (s : State) (k : Nat) (x : Sconce) : (s.setSconce k x).ember = s.ember := rfl
@[simp] theorem State.modSconce_ember (s : State) (k : Nat) (f : Sconce → Sconce) : (s.modSconce k f).ember = s.ember := rfl
@[simp] theorem State.setChannel_ember (s : State) (n : Nat) (x : Channel) : (s.setChannel n x).ember = s.ember := rfl

@[simp] theorem State.report_ember (s : State) (o : Option Nat) (c y k b d : Nat) : (s.report o c y k b d).ember = s.ember :=
  (State.report_reports ..).ember

@[simp] theorem State.journal_ember (s : State) (q t i d : Nat) (b : List Byte) : (s.journal q t i d b).ember = s.ember :=
  (State.journal_reports ..).ember

/-! ### Events (13 R447, R450) -/

@[simp] theorem State.gatedRecords_ember (s : State) (n stamp : Nat) : (s.gatedRecords n stamp).ember = s.ember :=
  State.foldl_ember (fun _ _ => State.journal_ember ..) ..

@[simp] theorem State.emitOn_ember (s : State) (n stamp p : Nat) : (s.emitOn n stamp p).ember = s.ember := by
  unfold State.emitOn
  extract_lets x close
  split
  · rfl
  · split
    · exact State.gatedRecords_ember ..
    · rfl

@[simp] theorem State.emit0_ember (s : State) (kind index stamp p : Nat) : (s.emit0 kind index stamp p).ember = s.ember := by
  simp [State.emit0, State.emit]

/-! ### The taps (08 R286, R307) -/

@[simp] theorem State.pend_ember (s : State) (n src : Nat) : (s.pend n src).ember = s.ember := by simp [State.pend]
@[simp] theorem State.takeOver_ember (s : State) (n : Nat) : (s.takeOver n).ember = s.ember := by simp [State.takeOver]
@[simp] theorem State.frameDone_ember (s : State) (n : Nat) (f : Frame) : (s.frameDone n f).ember = s.ember := by
  simp [State.frameDone]

@[simp] theorem State.settleFrame_ember (s : State) (n : Nat) : (s.settleFrame n).ember = s.ember := by
  simp only [State.settleFrame]; split <;> simp

@[simp] theorem State.lanternArrival_ember (s : State) (n : Nat) : (s.lanternArrival n).ember = s.ember := by
  simp [State.lanternArrival]

@[simp] theorem State.tapsMoved_ember (s : State) (k : Nat) : (s.tapsMoved k).ember = s.ember := by simp [State.tapsMoved]

/-! ### The pipeline moves on, and a frame has closed (06 R246, 15 R521, 16 R560) -/

@[simp] theorem State.uncorrected_ember (s : State) (k n : Nat) : (s.uncorrected k n).ember = s.ember := by simp [State.uncorrected]

@[simp] theorem State.finishCorrections_ember (s : State) (k : Nat) (f : Frame) : (s.finishCorrections k f).ember = s.ember := by
  simp [State.finishCorrections]

@[simp] theorem State.correctFrames_ember (s : State) (k : Nat) : (s.correctFrames k).ember = s.ember := by
  simp [State.correctFrames]

@[simp] theorem State.letGo_ember (s : State) (k : Nat) : (s.letGo k).ember = s.ember := by simp [State.letGo]
@[simp] theorem State.sconceMoves_ember (s : State) (k : Nat) : (s.sconceMoves k).ember = s.ember := by simp [State.sconceMoves]

@[simp] theorem State.captureCloses_ember (s : State) (k m : Nat) : (s.captureCloses k m).ember = s.ember := by
  unfold State.captureCloses; split <;> simp

@[simp] theorem State.patrolCloses_ember (s : State) (k m tEnd : Nat) : (s.patrolCloses k m tEnd).ember = s.ember := by
  unfold State.patrolCloses; split <;> rfl

@[simp] theorem State.closeHook_ember (s : State) (k m : Nat) : (s.closeHook k m).ember = s.ember := by simp [State.closeHook]

/-! ### Frame assembly (05) -/

@[simp] theorem State.asmRecord_ember (s : State) (k cls typ data : Nat) : (s.asmRecord k cls typ data).ember = s.ember :=
  State.report_ember ..

@[simp] theorem State.asmCount_ember (s : State) (k code n : Nat) : (s.asmCount k code n).ember = s.ember := by
  simp [State.asmCount]

@[simp] theorem State.asmLimited_ember (s : State) (k typ : Nat) (data : Nat → Nat) : (s.asmLimited k typ data).ember = s.ember := by
  simp [State.asmLimited]

@[simp] theorem State.modOpen_ember (s : State) (k : Nat) (g : Frame → Frame) : (s.modOpen k g).ember = s.ember := rfl
@[simp] theorem State.flagOpen_ember (s : State) (k bits : Nat) : (s.flagOpen k bits).ember = s.ember := rfl

@[simp] theorem State.shutFrame_ember (s : State) (k tEnd : Nat) (keep : Bool) : (s.shutFrame k tEnd keep).ember = s.ember := by
  simp only [State.shutFrame]; split <;> simp

@[simp] theorem State.addLine_ember (s : State) (k : Nat) (l : Line) (damaged : Bool) (bits endStamp : Nat) :
    (s.addLine k l damaged bits endStamp).ember = s.ember := by
  unfold State.addLine; split <;> simp

@[simp] theorem State.missingLine_ember (s : State) (k : Nat) (num : Option Nat) (stamp : Nat) (trunc : Bool) :
    (s.missingLine k num stamp trunc).ember = s.ember := by
  simp only [State.missingLine]; split <;> simp

@[simp] theorem State.storeLine_ember (s : State) (k stamp pixels : Nat) : (s.storeLine k stamp pixels).1.ember = s.ember := by
  simp only [State.storeLine]; split <;> rfl

@[simp] theorem State.closeLine_ember (s : State) (k stamp : Nat) (trunc : Bool) : (s.closeLine k stamp trunc).ember = s.ember := by
  simp only [State.closeLine]; split <;> simp

@[simp] theorem State.journalClose_ember (s : State) (why k at_ : Nat) : (s.journalClose why k at_).ember = s.ember := by
  unfold State.journalClose; split <;> simp

@[simp] theorem State.truncate_ember (s : State) (k at_ : Nat) : (s.truncate k at_).ember = s.ember := by
  simp only [State.truncate]
  repeat' split
  all_goals simp

@[simp] theorem State.truncateLane_ember (s : State) (l : Nat) : (s.truncateLane l).ember = s.ember := by
  simp [State.truncateLane]

/-! ### Streams (03 R116, R125 to R127; 14) -/

@[simp] theorem State.setStream_ember (s : State) (n : Nat) (x : Stream) : (s.setStream n x).ember = s.ember := rfl
@[simp] theorem State.modStream_ember (s : State) (n : Nat) (f : Stream → Stream) : (s.modStream n f).ember = s.ember := rfl

@[simp] theorem State.finishWaiting_ember (s : State) (rid arg : Nat) (st : Status) : (s.finishWaiting rid arg st).ember = s.ember :=
  (State.finishWaiting_reports ..).ember

@[simp] theorem State.streamState_ember (s : State) (n : Nat) (st : StreamState) (frame : Nat) : (s.streamState n st frame).ember = s.ember :=
  (State.record_reports ..).ember.trans (State.modStream_ember ..)

@[simp] theorem State.stopsDone_ember (s : State) (cs : List (Nat × Nat)) : (s.stopsDone cs).ember = s.ember := by simp [State.stopsDone]
@[simp] theorem State.stopDone_ember (s : State) (n m : Nat) : (s.stopDone n m).ember = s.ember := by simp [State.stopDone]

@[simp] theorem State.frameLeft_ember (s : State) (n m : Nat) : (s.frameLeft n m).ember = s.ember := by
  simp only [State.frameLeft]
  repeat' split
  all_goals simp

@[simp] theorem State.streamStopBy_ember (s : State) (n : Nat) (cmds : List (Nat × Nat)) (seq : Nat) :
    (s.streamStopBy n cmds seq).ember = s.ember := by
  simp only [State.streamStopBy]
  split <;> simp [State.journalApply]

@[simp] theorem State.stopStreams_ember (s : State) (seq : Nat) : (s.stopStreams seq).ember = s.ember := by simp [State.stopStreams]

/-! ### A session of Replay (16 R569) -/

@[simp] theorem State.discardOpen_ember (s : State) (k : Nat) : (s.discardOpen k).ember = s.ember :=
  State.discardOpen_keeps State.ember (fun _ _ _ _ _ => rfl) s k

@[simp] theorem State.discardAll_ember (s : State) : s.discardAll.ember = s.ember :=
  State.discardAll_keeps State.ember (fun _ _ _ _ _ => rfl) (fun _ => rfl) s

@[simp] theorem State.replayDiscard_ember (s : State) (k : Nat) : (s.replayDiscard k).ember = s.ember := by
  unfold State.replayDiscard
  split <;> simp

@[simp] theorem State.replayState_ember (s : State) (k code reason : Nat) : (s.replayState k code reason).ember = s.ember :=
  (State.record_reports ..).ember

/-- The end of a session, but for the session itself and its tables. -/
theorem State.sessionEnd_ember (s : State) (reason : Nat) : (s.sessionEnd reason).ember = s.ember := by
  unfold State.sessionEnd
  extract_lets x s1 s2 told
  have h1 : s1.ember = s.ember := foldl_keeps State.ember (fun _ _ => State.replayDiscard_ember ..) _ s
  have h2 : s2.ember = s.ember := by
    simp only [s2]
    split
    · exact (State.finishWaiting_ember ..).trans h1
    · exact h1
  have h3 : told.ember = s.ember := by
    simp only [told]
    split
    · exact h2
    · exact (State.replayState_ember ..).trans h2
  split
  · rfl
  · exact h3

/-! ### The Lamplighter and the lanes as the mode changes (12 R429, R442; 17 R577) -/

@[simp] theorem State.trigRecord_ember (s : State) (g : Option Nat) (q cls typ data : Nat) : (s.trigRecord g q cls typ data).ember = s.ember :=
  State.report_ember ..

@[simp] theorem State.freeSlot_ember (s : State) (h : Hap) : (s.freeSlot h).ember = s.ember := by unfold State.freeSlot; split <;> rfl

@[simp] theorem State.haltReport_ember (s : State) (q : Nat) : (s.haltReport q).ember = s.ember :=
  (State.trigRecord_ember ..).trans (State.foldl_ember State.freeSlot_ember _ _)

@[simp] theorem State.haltAll_ember (s : State) : s.haltAll.ember = s.ember := State.foldl_ember State.haltReport_ember _ s
@[simp] theorem State.drive_ember (s : State) (g i : Nat) (level : Bool) : (s.drive g i level).ember = s.ember := by
  unfold State.drive
  split <;> rfl

theorem State.lamplighterOn_ember (s : State) : s.lamplighterOn.ember = s.ember := State.foldl_ember (fun _ _ => State.drive_ember ..) _ s
theorem State.lamplighterOff_ember (s : State) : s.lamplighterOff.ember = s.ember := State.foldl_ember (fun _ _ => State.drive_ember ..) _ _
theorem State.laneTo_ember (s : State) (l : Nat) (st : LaneState) : (s.laneTo l st).ember = s.ember := (s.laneTo_onLane l st).ember

theorem State.relane_ember (s : State) (l : Nat) (st : LaneState) : (s.relane l st).ember = s.ember := by
  have truncated : (if (s.lane l).st == .up then s.truncateLane l else s).ember = s.ember := by simp
  exact (State.laneTo_ember ..).trans truncated

theorem State.lanesOff_ember (s : State) : s.lanesOff.ember = s.ember :=
  State.foldl_ember (fun _ l => (State.laneTo_ember ..).trans (State.loseRequests_onLane _ l).ember) _ s

theorem State.laneDrop_ember (s : State) (l cause : Nat) : (s.laneDrop l cause).ember = s.ember :=
  (State.laneRecord_reports ..).ember.trans ((State.laneTo_ember ..).trans ((State.laneCount_onLane ..).ember.trans (s.truncateLane_ember l)))

theorem State.diagLaneBack_ember (s : State) (l : Nat) : (s.diagLaneBack l).ember = s.ember := by
  unfold State.diagLaneBack
  dsimp only
  split
  · exact State.laneTo_ember ..
  · rfl

theorem State.patrolCheck_ember (s : State) : s.patrolCheck.ember = s.ember := by
  unfold State.patrolCheck
  dsimp only
  split
  · rfl
  · exact (State.reportPorts_reports ..).ember

/-- What a change of mode does to the data path (17 R577) leaves the Ember. -/
theorem State.modeEffects_ember (s : State) (a b : Mode) : (s.modeEffects a b).ember = s.ember := by
  unfold State.modeEffects
  extract_lets s1 s2 s3 s4 s5 s6
  have h1 : s1.ember = s.ember := by simp only [s1]; split <;> rfl
  have h2 : s2.ember = s1.ember := by
    simp only [s2]
    split
    · exact (State.lamplighterOn_ember _).trans (State.sessionEnd_ember ..)
    · rfl
  have h3 : s3.ember = s2.ember := by simp only [s3]; split; exacts [s2.haltAll_ember, rfl]
  have h4 : s4.ember = s3.ember := by
    simp only [s4]
    split
    · exact State.foldl_ember (fun _ _ => State.relane_ember ..) _ s3
    · rfl
  have h5 : s5.ember = s4.ember := by simp only [s5]; split; exacts [(State.discardAll_ember _).trans s4.lanesOff_ember, rfl]
  have h6 : s6.ember = s5.ember := by simp only [s6]; split; exacts [(State.discardAll_ember _).trans s5.lamplighterOff_ember, rfl]
  calc s6.patrolCheck.ember = s6.ember := s6.patrolCheck_ember
    _ = s.ember := by rw [h6, h5, h4, h3, h2, h1]

end Sys2Proof.Machine
end

section
/-!
The registers of the management target across resets, collapses and changes of mode (18 R602).
-/

namespace Sys2Proof.Machine

variable {s u v : State}

theorem Mg.keeps.refl (x : Mg) : x.keeps x := ⟨rfl, rfl, rfl, rfl, rfl, rfl⟩

/-! ### A change of mode (17 R576, R577) -/

theorem State.keepAt_ember (h : u.ember = v.ember) (x : Option Nat) : State.ember { u with start := { u.start with keepAt := x } } =
    State.ember { v with start := { v.start with keepAt := x } } :=
  congrArg (fun t : State => { t with start := { t.start with keepAt := x } }) h

/-- The Ember after a change of mode: the new mode, its alert, and no change of mode under way. -/
theorem State.modeDone_ember (s : State) (m : Mode) (rid arg : Nat) (stopped : Bool) :
    ∃ v : State, v.Alerts { s with start := { s.start with transition := none, modeWait := none }, mode := m } ∧
      (s.modeDone m rid arg stopped).ember = { v with start := { v.start with
        keepAt := if m = Mode.keep then some (s.ns + 1000000) else v.start.keepAt } }.ember := by
  refine ⟨_, State.setMode_alerts { s with start := { s.start with transition := none, modeWait := none } } m, ?_⟩
  unfold State.modeDone
  extract_lets a u s0 s1 s2
  have h2 : s2.ember = (s0.setMode m).ember :=
    (State.reportPorts_reports ..).ember.trans ((State.finishWaiting_ember ..).trans (State.modeEffects_ember ..))
  by_cases hm : m = .keep
  · rw [if_pos hm, if_pos (beq_iff_eq.2 hm)]
    exact State.keepAt_ember h2 _
  · rw [if_neg hm, if_neg (fun h => hm (eq_of_beq h))]
    exact h2

theorem State.modeDone_mg_keeps (s : State) (m : Mode) (rid arg : Nat) (stopped : Bool) :
    (s.modeDone m rid arg stopped).mg.keeps s.mg := by
  obtain ⟨v, hv, hu⟩ := s.modeDone_ember m rid arg stopped
  rw [State.ember_mg hu]
  exact hv.mg_keeps

/-! ### Transfers to the management target -/

/-- A write of too few bytes is rejected, one of the register's length, with or without a right PEC, is taken, and any other is not
acknowledged (18 R598). -/
theorem State.mgPut_eq (s : State) (code n : Nat) (l : List Byte) (f : List Byte → State → State) : s.mgPut code n l f =
    if l.length < n then s.mgReject
    else if l.length = n ∨ l.length = n + 1 ∧ (l.getD n 0).toNat = s.pecWrite code (l.take n) then f (l.take n) s
    else s.say .mgNack := by
  unfold State.mgPut
  by_cases few : l.length < n
  · rw [if_pos few, if_pos few]
  · rw [if_neg few, if_neg few]
    by_cases all : l.length = n
    · rw [if_pos all, if_pos (.inl all), ← all, List.take_length]
    · rw [if_neg all]
      by_cases more : l.length = n + 1 <;> simp [all, more]

/-- What a transfer to a register that is only written leaves: what its refusals leave, and what the register's effect leaves. -/
theorem State.mgAccess_written {P : State → Prop} {code n : Nat} {f : List Byte → State → State} {x : MgTransfer}
    (hs : P s) (nack : P (s.mgSeen.say .mgNack)) (reject : P s.mgSeen.mgReject) (hf : ∀ b, P (f b s.mgSeen)) :
    P (s.mgAccess code x none (some (n, f))) := by
  unfold State.mgAccess
  split
  · exact hs
  · cases x with
    | read ack => exact nack
    | write l =>
      dsimp only
      rw [State.mgPut_eq]
      split
      · exact reject
      · split
        · exact hf _
        · exact nack

theorem State.assertReset_mg_keeps (s : State) (kind time : Nat) : (s.assertReset kind time).mg.keeps s.mg :=
  (Mg.keeps.refl _ : Mg.keeps { s.toKeep.mg with xfer := CgXfer.reset } s.toKeep.mg).trans s.toKeep_cleared.mg_keeps

theorem State.guardReset_mg_keeps (s : State) : s.guardReset.mg.keeps s.mg :=
  (Mg.keeps.refl _ : Mg.keeps { (s.assertReset 3 s.dt).mg with armed := none } (s.assertReset 3 s.dt).mg).trans (s.assertReset_mg_keeps 3 s.dt)

theorem State.collapse_mg_keeps (s : State) : (s.collapse true).mg.keeps s.mg :=
  (State.alert_alerts ..).mg_keeps.trans s.toKeep_cleared.mg_keeps

theorem execGuardReset_mg_keeps (t : Nat) (x : MgTransfer) (s : State) : ∃ u, execGuardReset t x s = .next u ∧ u.mg.keeps s.mg := by
  have same : s.mg.keeps s.mg := .refl s.mg
  unfold execGuardReset
  refine ⟨_, rfl, State.mgAccess_written (P := fun u => u.mg.keeps s.mg) same same same fun b => ?_⟩
  have answered (c : Bool) : (if c then (s.elapse t).mgSeen.guardReset else (s.elapse t).mgSeen.mgReject).mg.keeps s.mg := by
    cases c with
    | false => exact same
    | true => exact (s.elapse t).mgSeen.guardReset_mg_keeps.trans same
  dsimp only [mgTake]
  split
  · exact answered _
  · exact same

/-- Settles O59: a power-on reset and a loss of all supplies set the six registers; the other ways into Keep clear the module buses and
move the status of alerts beside them. -/
theorem managementRegistersAcrossResets : Obligations.ManagementRegistersAcrossResets := by
  intro t s
  have same : (s.elapse t).mg.keeps s.mg := .refl s.mg
  refine ⟨fun high live => ?_, fun due => ?_, fun hold => ?_, ?_, fun x => execGuardReset_mg_keeps t x s, ?_, ?_, ?_⟩
  · exact ⟨_, (if_neg (by simp [high])).trans (if_neg (by simp [live])), rfl, rfl, rfl, rfl, rfl, rfl⟩
  · exact ⟨_, if_pos due, rfl, rfl, rfl, rfl, rfl, rfl⟩
  · exact ⟨_, if_pos hold, rfl, rfl, rfl, rfl, rfl, rfl⟩
  · simp only [exec, execWarmrstAssert]
    split
    · exact ⟨_, rfl, same⟩
    · refine ⟨_, rfl, ?_⟩
      dsimp only
      split
      · exact same
      · exact (s.elapse t).assertReset_mg_keeps 2 _
  · simp only [exec, execCollapse]
    split
    · exact ⟨_, rfl, (s.elapse t).collapse_mg_keeps⟩
    · exact ⟨_, rfl, same⟩
  · simp only [exec, execKeepPowerDown]
    split
    · exact ⟨_, rfl, (s.elapse t).clearMain_cleared.mg_keeps⟩
    · exact ⟨_, rfl, same⟩
  · simp only [exec, execModeTransitionComplete]
    split
    · split
      · exact ⟨_, rfl, same⟩
      · exact ⟨_, rfl, (s.elapse t).modeDone_mg_keeps ..⟩
    · exact ⟨_, rfl, same⟩

end Sys2Proof.Machine
end

section
/-!
The registers of the management target, read and written (18 R598, R601, R603 to R607, R612).
-/

namespace Sys2Proof.Machine

variable {s : State}

/-! ### A transfer by its direction (18 R598) -/

section
variable (live : s.supply.live = true) (code : Nat)
include live

/-- The state in which a register answers: the transfer has been seen. -/
theorem State.mgAccess_read (ack : Bool) (g : State → List Byte × State) (put : Option (Nat × (List Byte → State → State))) :
    s.mgAccess code (.read ack) (some g) put = (g s.mgSeen).2.mgSend code (g s.mgSeen).1 ack := if_neg (by simp [live])

theorem State.mgAccess_unread (ack : Bool) (put : Option (Nat × (List Byte → State → State))) :
    s.mgAccess code (.read ack) none put = s.mgSeen.say .mgNack := if_neg (by simp [live])

theorem State.mgAccess_unwritten (l : List Byte) (get : Option (State → List Byte × State)) :
    s.mgAccess code (.write l) get none = s.mgSeen.say .mgNack := if_neg (by simp [live])

theorem State.mgAccess_write (l : List Byte) (get : Option (State → List Byte × State)) (n : Nat) (f : List Byte → State → State) :
    s.mgAccess code (.write l) get (some (n, f)) =
      if l.length < n then s.mgSeen.mgReject
      else if l.length = n ∨ l.length = n + 1 ∧ (l.getD n 0).toNat = s.mgSeen.pecWrite code (l.take n) then f (l.take n) s.mgSeen
      else s.mgSeen.say .mgNack :=
  (if_neg (by simp [live])).trans (s.mgSeen.mgPut_eq code n l f)

end

/-- WAKE (18 R605): rejected while a reset is held or HOLD alone carries Keep, and otherwise it begins a start-up that may begin. -/
theorem wake_eq (u : State) :
    (if u.start.porstLow || u.start.warmLow then u.mgReject
      else if u.mode == .keep && u.supply.holdOnly then u.mgReject
      else if u.mayStart then u.wakeUp 4
      else u) =
    if u.start.porstLow || u.start.warmLow || (u.mode == .keep && u.supply.holdOnly) then u.mgReject
      else if u.mayStart then u.wakeUp 4 else u := by
  cases u.start.porstLow || u.start.warmLow <;> rfl

theorem Supply.live_of_fed {x : Supply} (h : x.fed = true) : x.live = true := by simp [Supply.live, h]

/-- GUARD_ARM is in force (18 R606). -/
def State.guardArmed (s : State) : Bool := match s.mg.armed with | some d => s.ns < d | none => false

theorem State.guardArmed_iff : s.guardArmed = true ↔ ∃ d, s.mg.armed = some d ∧ s.ns < d := by
  unfold State.guardArmed
  cases s.mg.armed <;> simp

/-- A right write of GUARD_RESET with a feed in range, no pin reset held and no start-up running: heeded while it is armed (18 R606). -/
theorem execGuardReset_write {t : Nat} (fed : s.supply.fed = true) (porst : s.start.porstLow = false) (warm : s.start.warmLow = false)
    (running : s.start.running = false) : execGuardReset t (.write [0x5A]) s = .next
      (if (s.elapse t).guardArmed then (s.elapse t).mgSeen.guardReset else (s.elapse t).mgSeen.mgReject) := by
  have live : (s.elapse t).supply.live = true := Supply.live_of_fed fed
  have heeded : (s.elapse t).mgSeen.supply.fed = true ∧ (s.elapse t).mgSeen.start.porstLow = false ∧
      (s.elapse t).mgSeen.start.warmLow = false ∧ (s.elapse t).mgSeen.start.running = false := ⟨fed, porst, warm, running⟩
  have armed : (s.elapse t).mgSeen.guardArmed = (s.elapse t).guardArmed := rfl
  unfold execGuardReset
  rw [State.mgAccess_write live, if_neg (by simp), if_pos (.inl rfl), ← armed]
  obtain ⟨h1, h2, h3, h4⟩ := heeded
  generalize (s.elapse t).mgSeen = u at h1 h2 h3 h4 ⊢
  have byte : leVal ([0x5A].take 1 : List Byte) = 0x5A := by decide
  dsimp only [mgTake]
  rw [byte, h1, h2, h3, h4]
  simp [State.guardArmed]
  rfl

theorem State.guardReset_resets (s : State) : s.guardReset.mode = .keep ∧ s.guardReset.start.kind = 3 ∧
    s.guardReset.start.guardUntil = some (s.ns + 1000000) ∧ s.guardReset.mg.armed = none ∧ s.guardReset.sconces = [] := by
  have cleared := s.toKeep_cleared
  unfold State.guardReset State.assertReset
  generalize s.toKeep = u at cleared ⊢
  obtain ⟨-, -, sconces, -⟩ := cleared.empty
  exact ⟨cleared.mode, rfl, congrArg (fun n => some (n + 1000000)) cleared.ns, rfl, sconces⟩

/-- Settles O51: a transfer by its direction, with what each register answers and takes; and a guard reset that is armed, or not. -/
theorem managementRegisters : Obligations.ManagementRegisters := by
  constructor
  · intro t ack l s s1 m rejected answer written live
    have reads (code : Nat) (f : State → List Byte) (put) :
        (s.elapse t).mgAccess code (.read ack) (mgGet f) put = answer code (f s1) ack := State.mgAccess_read (s := s.elapse t) live ..
    have writes (code n : Nat) (get) (ok : Nat → Bool) (f : Nat → State → State) :
        (s.elapse t).mgAccess code (.write l) get (some (n, mgTake ok f)) = written code n l ok (fun v => f v s1) :=
      State.mgAccess_write (s := s.elapse t) live ..
    have unread (code : Nat) (put) : (s.elapse t).mgAccess code (.read ack) none put = s1.say .mgNack := State.mgAccess_unread (s := s.elapse t) live ..
    have unwritten (code : Nat) (get) : (s.elapse t).mgAccess code (.write l) get none = s1.say .mgNack := State.mgAccess_unwritten (s := s.elapse t) live ..
    refine ⟨congrArg _ (reads ..), congrArg _ (reads ..), fun v => congrArg _ (reads ..), congrArg _ (reads ..), congrArg _ (reads ..),
      congrArg _ (reads ..), congrArg _ (reads ..), congrArg _ (reads ..), congrArg _ (reads ..), congrArg _ (reads ..),
      congrArg _ (reads ..), congrArg _ (reads ..), congrArg _ (reads ..),
      congrArg _ (writes ..), congrArg _ (writes ..), congrArg _ (writes ..), congrArg _ (writes ..), congrArg _ (writes ..),
      congrArg _ (writes ..), congrArg _ (writes ..), congrArg _ (writes ..), ?_,
      congrArg _ (unwritten ..), congrArg _ (unwritten ..), congrArg _ (unwritten ..), congrArg _ (unwritten ..),
      congrArg _ (unwritten ..), congrArg _ (unwritten ..), congrArg _ (unwritten ..), fun v => congrArg _ (unwritten ..),
      congrArg _ (unread ..), congrArg _ (unread ..), congrArg _ (unread ..), congrArg _ (unread ..), ?_, ?_⟩
    · have wakes := State.mgAccess_write (s := s.elapse t) live 0x30 l none 0 (fun _ u =>
        if u.start.porstLow || u.start.warmLow then u.mgReject
        else if u.mode == .keep && u.supply.holdOnly then u.mgReject
        else if u.mayStart then u.wakeUp 4
        else u)
      refine congrArg _ (wakes.trans ?_)
      rw [wake_eq]
      rfl
    · exact ⟨_, congrArg Host.Outcome.next (State.mgAccess_read (s := s.elapse t) live ..), rfl, _, List.mem_cons_self⟩
    · exact ⟨_, congrArg Host.Outcome.next (State.mgAccess_read (s := s.elapse t) live ..), rfl, _, List.mem_cons_self⟩
  · intro t s fed porst warm running s1
    have writes := execGuardReset_write (t := t) fed porst warm running
    refine ⟨fun armed => ⟨_, writes, ?_⟩, fun late => ⟨_, writes, ?_⟩⟩
    · rw [if_pos (State.guardArmed_iff.2 armed)]
      exact s1.mgSeen.guardReset_resets
    · have unarmed : ¬ s1.guardArmed = true := by
        rw [State.guardArmed_iff]
        rintro ⟨d, hd, early⟩
        exact absurd early (not_lt.2 (late d hd))
      rw [if_neg unarmed]
      exact ⟨rfl, rfl⟩

end Sys2Proof.Machine
end

section
/-!
SUPPORT. Dark (15 R528, R529), the records of spares, and the physical units of the pools (15 R508, R509, R514): one lemma for each operation.
-/

namespace Sys2Proof.Machine

variable {s u v : State}

/-! ### Folds -/

/-- What one step of a fold brings about and no step takes back holds after the fold. -/
theorem foldl_reaches {α β : Type} {P : α → Prop} {g : α → β → α} {b : β} (sets : ∀ t, P (g t b)) (stays : ∀ t c, P t → P (g t c))
    {l : List β} (h : b ∈ l) (s : α) : P (l.foldl g s) := by
  induction l generalizing s with
  | nil => exact absurd h List.not_mem_nil
  | cons c l ih =>
    rcases List.mem_cons.1 h with rfl | h
    · exact List.foldlRecOn l g (sets s) fun t ht c _ => stays t c ht
    · exact ih h _

/-! ### Dark is entered (15 R528, R529) -/

/-- u is s after the decision of Dark for a cause. -/
structure State.Darkens (u s : State) (cause : Nat) : Prop where
  mode : u.mode = .dark
  dark : u.dark = { cause := cause, t0 := s.ns, safe := false, drained := false }
  tests : u.tests = []
  health : u.health = s.health

theorem State.fatalRecord_health (s : State) (typ data : Nat) : (s.fatalRecord typ data).health = s.health :=
  ((State.alert_alerts ..).keeps State.health rfl).trans ((State.journal_reports ..).within.keeps State.health rfl)

theorem State.enterDark_darkens (cause : Nat) (hd : s.mode ≠ .dark) (hk : s.mode ≠ .keep) (hf : s.start.fw ≠ .failed) :
    (s.enterDark cause).Darkens s cause := by
  have enters : ¬(s.mode == .dark || s.mode == .keep || s.start.fw == .failed) = true := by simp [hd, hk, hf]
  unfold State.enterDark
  rw [if_neg enters]
  extract_lets back s1
  have returned : back.health = s.health := State.ember_health (State.foldl_ember (fun _ _ => State.diagLaneBack_ember ..) _ s)
  have lost := (back.fatalRecord 0x090C cause).timeHoldover_onTime.within
  have changed := State.setMode_alerts (back.fatalRecord 0x090C cause).timeHoldover .dark
  exact ⟨changed.keeps State.mode rfl, rfl, rfl, (changed.keeps State.health rfl).trans
    ((lost.keeps State.health rfl).trans ((back.fatalRecord_health ..).trans returned))⟩

/-! ### AER and the records of spares (02 R72; 15 R508, R514, R522) -/

theorem State.aerCorrectable_within (s : State) (p bit : Nat) : (s.aerCorrectable p bit).Within s :=
  .ite (s.setPort_within ..) ((State.say_reports ..).within.trans (s.setPort_within ..))

theorem State.aerUncorrectable_within (s : State) (p bit header : Nat) : (s.aerUncorrectable p bit header).Within s :=
  .ite (s.setPort_within ..) ((State.say_reports ..).within.trans (s.setPort_within ..))

theorem State.becomeReady_within (s : State) (p : Nat) : (s.becomeReady p).Within s := by
  unfold State.becomeReady
  extract_lets x s1 s2
  have told : s2.Within s := .trans (.ite (State.say_reports ..).within (State.Reports.refl s1).within) (s.setPort_within ..)
  exact .ite ((State.aerUncorrectable_within ..).trans told) told

theorem State.spareRecord_reports (s : State) (cls typ subject data : Nat) : (s.spareRecord cls typ subject data).Reports s :=
  State.reportPorts_reports ..

theorem State.correctedInternal_within (s : State) : s.correctedInternal.Within s :=
  .foldl (fun _ _ => State.aerCorrectable_within ..) _ s

theorem State.spareReport_within (s : State) (pool n old new kind words inst : Nat) (last : Bool) :
    (s.spareReport pool n old new kind words inst last).Within s := by
  unfold State.spareReport
  extract_lets d s1 s2
  have told : s2.Within s :=
    (State.correctedInternal_within _).trans ((State.spareRecord_reports ..).within.trans (State.journal_reports ..).within)
  exact .ite ((State.spareRecord_reports ..).within.trans told) told

theorem State.exhausted_reports (s : State) (pool n phys inst : Nat) (lost : Bool) : (s.exhausted pool n phys inst lost).Reports s :=
  .dite ((State.spareRecord_reports ..).trans (State.spareRecord_reports ..)) (State.spareRecord_reports ..)

/-- What a change of the patrol's state leaves is reporting and the patrol's own. -/
theorem State.patrolCheck_reports (s : State) : ∃ p, s.patrolCheck.Reports { s with patrol := p } := by
  unfold State.patrolCheck
  dsimp only
  split
  · exact ⟨s.patrol, .refl s⟩
  · exact ⟨_, State.spareRecord_reports ..⟩

/-! ### Physical units (15 R509) -/

@[simp] theorem State.phys_setPhys (s : State) (pool k : Nat) (x : Phys) : (s.setPhys pool k x).phys pool k = x := tabGet_put_same ..

theorem State.phys_setPhys_other (s : State) {pool k j : Nat} (x : Phys) (h : j ≠ k) : (s.setPhys pool k x).phys pool j = s.phys pool j :=
  tabGet_put_other _ _ x (by omega)

theorem State.phys_of_health (h : u.health = s.health) (pool k : Nat) : u.phys pool k = s.phys pool k := by unfold State.phys; rw [h]

theorem State.Within.phys (h : u.Within s) (pool k : Nat) : u.phys pool k = s.phys pool k := State.phys_of_health (h.keeps State.health rfl) pool k

/-- A free spare is not in service, nor has it failed. -/
theorem State.freeSpares_st {pool n j : Nat} (h : j ∈ s.freeSpares pool n) : (s.phys pool j).st = 1 := by
  simp only [State.freeSpares, List.mem_filter, Bool.and_eq_true, decide_eq_true_eq] at h
  obtain ⟨-, ⟨st, -⟩, -⟩ := h
  exact st

/-- A unit that a spare replaces has failed. -/
theorem State.spareDone_phys_old (s : State) (pool n : Nat) {old new : Nat} (kind words : Nat) (h : old ≠ new) :
    ((s.spareDone pool n old new kind words).phys pool old).st = 4 := by
  refine (congrArg Phys.st ((State.spareReport_within ..).phys pool old)).trans ?_
  rw [State.phys_setPhys_other _ _ h, State.phys_setPhys]

end Sys2Proof.Machine
end

section
/-!
Resets by pin and by the guards, and start-up in its order (17 R580 to R590; 18 R593, R596, R602).
-/

namespace Sys2Proof.Machine

variable {s u v : State}

/-! ### Resets (17 R587, R588) -/

/-- A reset clears what the main domain held, keeps the time, and notes its kind and the mode before it (17 R587, R588). -/
theorem State.assertReset_resets (s : State) (kind time : Nat) :
    let u := s.assertReset kind time
    u.mode = .keep ∧ u.claim = some 0 ∧ u.tables = [] ∧ u.sconces = [] ∧ u.streams = [] ∧ u.lanterns = [] ∧ u.channels = [] ∧ u.map = [] ∧
      u.encoders = [] ∧ u.seqs = [] ∧ u.groups = [] ∧ u.aux = [] ∧ u.takeOvers = [] ∧ u.tests = [] ∧ u.time = s.time ∧
      u.start.running = false ∧ u.start.kind = kind ∧ u.start.fromMode = (if s.inReset then s.start.fromMode else s.mode) := by
  have keep := s.toKeep_cleared
  unfold State.assertReset
  generalize s.toKeep = u at keep ⊢
  obtain ⟨claim, tables, sconces, streams, lanterns, channels, map, encoders, seqs, groups, aux, takeOvers, tests⟩ := keep.empty
  exact ⟨keep.mode, claim, tables, sconces, streams, lanterns, channels, map, encoders, seqs, groups, aux, takeOvers, tests,
    keep.time, congrArg StartUp.running keep.start, rfl, rfl⟩

/-- Start-up that may begin runs from now on, in Keep and on a feed (17 R573, R581). -/
theorem State.beginStart_starts (h : s.mayStart = true) :
    s.beginStart.start.running = true ∧ s.beginStart.start.t0 = s.ns ∧ s.beginStart.supply.holdOnly = false ∧ s.beginStart.mode = .keep := by
  have keep : s.mode = .keep := by
    simp only [State.mayStart, Bool.and_eq_true, beq_iff_eq] at h
    exact h.1.1.1.1
  exact ⟨rfl, rfl, rfl, s.beginStart_mode.trans keep⟩

/-- The end of a reset, from the state without it. -/
theorem State.mayBegin_starts {P : State → Prop} (h : s.mayStart = true) (hP : P s.beginStart) :
    ∃ u, Host.Outcome.next (if s.mayStart then s.beginStart else s) = (.next u : Host.Outcome State Fault Refusal) ∧ P u :=
  ⟨_, congrArg _ (if_pos h), hP⟩

/-! ### Start-up (17 R581, R585) -/

/-- Ports whose reference clock runs begin training. -/
theorem State.train_link {l : List Nat} {p : Nat} (h : p ∈ l) (s : State) :
    ((l.foldl (fun u p => u.modPort p (fun x => { x with link := .training })) s).port p).link = .training := by
  refine foldl_reaches (P := fun u => (u.port p).link = .training) (fun t => ?_) (fun t q ht => ?_) h s
  · simp [State.modPort]
  · by_cases hq : p = q
    · subst hq; simp [State.modPort]
    · exact (congrArg Port.link (t.port_setPort_other _ hq)).trans ht

theorem State.train_start (l : List Nat) (s : State) :
    (l.foldl (fun u p => u.modPort p (fun x => { x with link := .training })) s).start = s.start :=
  foldl_keeps State.start (g := fun u p => u.modPort p (fun x => { x with link := .training })) (fun _ _ => rfl) l s

/-- A unit that failed its self-test is out. -/
theorem State.unitOut_out {pool k : Nat} (h1 : 1 ≤ pool) (h4 : pool ≤ 4) (hk : k < poolSize pool) : ((s.unitOut pool k).phys pool k).st = 4 := by
  have valid : ¬(!(decide (1 ≤ pool) && decide (pool ≤ 4) && decide (k < poolSize pool))) = true := by simp [h1, h4, hk]
  unfold State.unitOut
  rw [if_neg valid]
  extract_lets x s1
  have failed : (s1.phys pool k).st = 4 := congrArg Phys.st (s.phys_setPhys ..)
  split
  · exact failed
  · next n _ =>
    split
    · next j spare =>
      have free := State.freeSpares_st (List.mem_of_mem_head? spare)
      exact State.spareDone_phys_old _ _ _ _ _ fun same => by rw [same, free] at failed; exact absurd failed (by decide)
    · have told := (congrArg Phys.st ((s1.exhausted_reports pool n k (unitInstance pool k) true).within.phys pool k)).trans failed
      generalize s1.exhausted pool n k (unitInstance pool k) true = s2 at told ⊢
      dsimp only
      split
      · exact told
      · exact told

/-- A fold of becomeReady is reporting but for the ports. -/
theorem State.becomeReady_foldl_within (l : List Nat) (s : State) : (l.foldl State.becomeReady s).Within s :=
  .foldl State.becomeReady_within l s

/-- Standby begins, and with two stacks lost Dark after it (17 R581, R585). -/
theorem execStartDone_goes {t : Nat} (goes : s.start.goes = true) (tests : s.start.tests = true) : ∃ v : State,
    v.mode = .standby ∧ v.start = { s.start with running := false } ∧
      exec (.startDone t) s = .next (if 2 ≤ v.start.hbmFailed then v.enterDark 5 else v) := by
  have alerted := (State.alert_alerts ((({ s.elapse t with start := { s.start with running := false } } : State)).setMode .standby) alertStart).trans
    (State.setMode_alerts _ .standby)
  refine ⟨_, ?_, ?_, if_pos (by simp [goes, tests])⟩
  · exact ((State.becomeReady_foldl_within ..).keeps State.mode rfl).trans (alerted.keeps State.mode rfl)
  · exact ((State.becomeReady_foldl_within ..).keeps State.start rfl).trans (alerted.keeps State.start rfl)

theorem StartUp.firmware_of_goes {x : StartUp} (h : x.goes = true) : x.fw ≠ .failed := by
  simp only [StartUp.goes, Bool.and_eq_true, Bool.or_eq_true, beq_iff_eq] at h
  obtain ⟨-, h | h⟩ := h <;> simp [h]

theorem execPorstAssert_resets {t : Nat} (high : s.start.porstLow = false) (live : s.supply.live = true) :
    let w := (s.elapse t).assertReset 1 ((s.elapse t).dt - 1000)
    exec (.porstAssert t) s = .next { w with
      start := { w.start with porstLow := true }
      tap := { w.tap with startWaits := false }
      mg := { w.mg with alertMask := 0x3F, notify := 0, therm := 0x640, cycleMs := 20, fatalIndex := 0, poolIndex := 1 } } := by
  have up : ¬(s.elapse t).start.porstLow = true := by simp [high]
  have fed : ¬(!(s.elapse t).supply.live) = true := by simp [live]
  exact (if_neg up).trans (if_neg fed)

theorem execWarmrstAssert_resets {t : Nat} (high : s.start.warmLow = false) (porst : s.start.porstLow = false)
    (live : s.supply.live = true) :
    let w := (s.elapse t).assertReset 2 ((s.elapse t).dt - 1000)
    exec (.warmrstAssert t) s = .next { w with start := { w.start with warmLow := true } } := by
  have up : ¬(s.elapse t).start.warmLow = true := by simp [high]
  have governs : ¬((s.elapse t).start.porstLow || !(s.elapse t).supply.live) = true := by simp [porst, live]
  refine (if_neg up).trans ?_
  rw [if_neg governs]

/-- The end of a reset begins start-up when it may, from the instant at which the reset ends. -/
theorem mayBegin_cases (t : Nat) (s : State) :
    let s1 := s.elapse t
    let started (u : State) : Prop := u.start.running = true ∧ u.start.t0 = s1.ns ∧ u.supply.holdOnly = false ∧ u.mode = .keep
    ∀ s2 : State, s2.ns = s1.ns → (s2.mayStart = false → Host.Outcome.next (if s2.mayStart then s2.beginStart else s2) =
        (.next s2 : Host.Outcome State Fault Refusal)) ∧
      (s2.mayStart = true → ∃ u, Host.Outcome.next (if s2.mayStart then s2.beginStart else s2) =
        (.next u : Host.Outcome State Fault Refusal) ∧ started u) := by
  intro s1 started s2 hn
  refine ⟨fun stays => congrArg _ (if_neg (by simp [stays])), fun starts => State.mayBegin_starts starts ?_⟩
  obtain ⟨running, t0, fed, mode⟩ := State.beginStart_starts starts
  exact ⟨running, t0.trans hn, fed, mode⟩

/-- Settles O49: a reset is the way to Keep with its kind noted, its end begins start-up when it may, and each row of start-up sets its own
field; Standby and Dark end it. -/
theorem resetsAndStartUp : Obligations.ResetsAndStartUp := by
  constructor
  · intro t s s1 cleared started
    refine ⟨fun high live => ?_, fun high dead => ?_, fun high porst live => ?_, fun high low => ?_, fun straps low => ?_, fun low => ?_,
      fun due => ?_⟩
    · have reset := execPorstAssert_resets (t := t) high live
      have held := s1.assertReset_resets 1 (s1.dt - 1000)
      generalize s1.assertReset 1 (s1.dt - 1000) = w at reset held
      exact ⟨_, reset, held, rfl, rfl, rfl, rfl, rfl, rfl, rfl⟩
    · exact (if_neg (by simp [high])).trans (if_pos (by simp [dead]))
    · have reset := execWarmrstAssert_resets (t := t) high porst live
      have held := s1.assertReset_resets 2 (s1.dt - 1000)
      obtain ⟨mask, -⟩ := s1.assertReset_mg_keeps 2 (s1.dt - 1000)
      generalize s1.assertReset 2 (s1.dt - 1000) = w at reset held mask
      exact ⟨_, reset, held, rfl, mask⟩
    · refine (if_neg (by simp [high])).trans ?_
      rw [if_pos (by simp [low])]
      rfl
    · intro tap s2
      rw [show exec (.porstRelease t straps) s = .next (if s2.mayStart then s2.beginStart else s2) from if_neg (by simp [low])]
      exact mayBegin_cases t s s2 rfl
    · intro s2
      rw [show exec (.warmrstRelease t) s = .next (if s2.mayStart then s2.beginStart else s2) from if_neg (by simp [low])]
      exact mayBegin_cases t s s2 rfl
    · intro s2
      rw [show exec (.guardResetEnd t) s = .next (if s2.mayStart then s2.beginStart else s2) from if_pos due]
      exact mayBegin_cases t s s2 rfl
  · intro t s s1 x
    refine ⟨fun running low => if_pos (by simp [x, running, low]), fun running good unlocked => ?_, fun running pll none fail pass => ?_,
      fun goes untrained failed => ?_, fun b goes hbm off => if_pos ?_, fun b goes on held => if_pos ?_, fun goes hbm untested => ?_,
      fun goes tests => ?_⟩
    · refine ⟨_, if_pos (by simp [x, running, good, unlocked]), ?_, fun p hp clock => State.train_link ?_ _⟩
      · exact State.train_start ..
      · exact List.mem_filter.2 ⟨List.mem_range.2 hp, clock⟩
    · have verified : ¬(!(x.running && x.pll && x.fw == .none)) = true := by simp [running, pll, none]
      refine ⟨fun a => (if_neg verified).trans (if_pos a), fun a b => (if_neg verified).trans ((if_neg a).trans (if_pos b)), fun a b =>
        ⟨_, (if_neg verified).trans ((if_neg a).trans (if_neg (by simp [b]))), ?_⟩⟩
      have alerted := State.alert_alerts { s1.setMode .standby with
        start := { (s1.setMode .standby).start with fw := .failed, failStep := fail, running := false } } alertStart
      have start := alerted.keeps State.start rfl
      exact ⟨(alerted.keeps State.mode rfl).trans ((s1.setMode_alerts .standby).keeps State.mode rfl), congrArg StartUp.fw start,
        congrArg StartUp.failStep start, congrArg StartUp.running start⟩
    · exact ⟨_, if_pos (by simp [x, goes, untrained]), rfl, rfl, rfl⟩
    · change (x.goes && x.hbm && !x.cagePower.contains b.val) = true
      rw [goes, hbm, off]
      rfl
    · change (x.goes && x.cagePower.contains b.val && !x.cageReset.contains b.val) = true
      rw [goes, on, held]
      rfl
    · have testing : (x.goes && x.hbm && !x.tests) = true := by simp [goes, hbm, untested]
      exact ⟨if_pos testing, fun pool k h1 h4 hk => ⟨_, if_pos testing, State.unitOut_out h1 h4 hk⟩⟩
    · obtain ⟨v, standby, start, done⟩ := execStartDone_goes (t := t) goes tests
      have failed : v.start.hbmFailed = x.hbmFailed := (congrArg StartUp.hbmFailed start).trans rfl
      refine ⟨fun few => ⟨v, ?_, standby, congrArg StartUp.running start⟩, fun many => ?_⟩
      · rw [done, if_neg (by omega)]
      · have firmware : v.start.fw ≠ .failed :=
          (congrArg StartUp.fw start).trans_ne (StartUp.firmware_of_goes (x := x) goes)
        have dark := State.enterDark_darkens (s := v) 5 (standby.trans_ne nofun) (standby.trans_ne nofun) firmware
        exact ⟨_, done.trans (congrArg _ (if_pos (by omega))), dark.mode, congrArg DarkState.cause dark.dark⟩

end Sys2Proof.Machine
end

section
/-!
Feeds, collapse and reference clocks (15 R536, R537; 17 R573, R580; 19 R626, R627, R636).
-/

namespace Sys2Proof.Machine

variable {s u v : State} {f : Nat}

/-! ### The feeds (19 R626) -/

section
variable (x : Supply) (y : Feed)

@[simp] theorem Supply.feed_setFeed (f : Nat) : (x.setFeed f y).feed f = y := by unfold Supply.feed Supply.setFeed; split <;> rfl
@[simp] theorem Supply.sel_setFeed (f : Nat) : (x.setFeed f y).sel = x.sel := by unfold Supply.setFeed; split <;> rfl

theorem Supply.feed_setFeed_other (hf : f < 2) : (x.setFeed (1 - f) y).feed f = x.feed f := by
  interval_cases f <;> rfl

theorem Supply.fed_setFeeds (z : Feed) (hf : f < 2) : ((x.setFeed f y).setFeed (1 - f) z).fed = (y.inRange || z.inRange) := by
  interval_cases f
  · rfl
  · exact Bool.or_comm ..
end

theorem Supply.fed_of_feed {x : Supply} (h : (x.feed f).inRange = true) : x.fed = true := by
  unfold Supply.feed at h
  unfold Supply.fed
  split at h <;> simp [h]

/-! ### The feed in use (15 R536, R544; 19 R627) -/

theorem State.useFeed_reports (s : State) (f : Nat) :
    (s.useFeed f).Reports { s with supply := { s.supply with sel := f, collapseAt := none } } :=
  .dite (.refl _) (State.say_reports ..)

theorem State.supplyReport_alerts (s : State) (cls : Nat) (failed : Bool) : (s.supplyReport cls failed).Alerts s :=
  (State.alert_alerts ..).trans ((State.journal_reports ..).trans (State.reportPorts_reports ..)).alerts

/-- The supplies after a switch-over to another feed with its report. -/
theorem State.switch_supply (s : State) (f cls : Nat) (failed : Bool) :
    ((s.useFeed f).supplyReport cls failed).supply = { s.supply with sel := f, collapseAt := none } :=
  ((State.supplyReport_alerts ..).keeps State.supply rfl).trans ((State.useFeed_reports ..).within.keeps State.supply rfl)

/-- A feed that has come within its range is used, with a report when it was not in use. -/
theorem State.applied_supply (s : State) (f : Nat) (c : Prop) [Decidable c] :
    (if c then s.useFeed f else (s.useFeed f).supplyReport 2 true).supply = { s.supply with sel := f, collapseAt := none } := by
  split
  · exact (State.useFeed_reports ..).within.keeps State.supply rfl
  · exact State.switch_supply ..

/-- The supplies when feed f has gone out of range and the other one is near or not. -/
def Supply.without (x : Supply) (f : Nat) (near : Bool) : Supply :=
  (x.setFeed f { inRange := false, near := false, qualified := false }).setFeed (1 - f)
    { x.feed (1 - f) with near := near, inRange := (x.feed (1 - f)).inRange || near }

/-- The supplies of FEED_OUT_OF_RANGE: with no feed left, a collapse follows in 1 µs (19 R626). -/
def State.supplyWithout (s : State) (f : Nat) (near : Bool) : Supply :=
  if (s.supply.without f near).fed then s.supply.without f near
  else { s.supply.without f near with collapseAt := some (s.ns + 1000) }

theorem Supply.without_sel (x : Supply) (f : Nat) (near : Bool) : (x.without f near).sel = x.sel := by simp [Supply.without]

theorem Supply.without_feed (x : Supply) (near : Bool) (hf : f < 2) : ((x.without f near).feed f).inRange = false := by
  rw [Supply.without, Supply.feed_setFeed_other _ _ hf, Supply.feed_setFeed]

theorem Supply.without_fed (x : Supply) (near : Bool) (hf : f < 2) : (x.without f near).fed = ((x.feed (1 - f)).inRange || near) :=
  Supply.fed_setFeeds _ _ _ hf

theorem State.supplyWithout_sel (s : State) (f : Nat) (near : Bool) : (s.supplyWithout f near).sel = s.supply.sel := by
  unfold State.supplyWithout
  split <;> exact Supply.without_sel ..

theorem State.supplyWithout_feed (s : State) (near : Bool) (hf : f < 2) : ((s.supplyWithout f near).feed f).inRange = false := by
  unfold State.supplyWithout
  split <;> exact Supply.without_feed _ _ hf

theorem execFeedOutOfRange_leaves {t : Nat} {f : Fin 2} {near : Bool} (h : (s.supply.feed f).inRange = true) :
    let s2 : State := { s.elapse t with supply := (s.elapse t).supplyWithout f near }
    exec (.feedOutOfRange t f near) s = .next (if s.supply.sel != f.val then s2
      else if near then (s2.useFeed (1 - f.val)).supplyReport 2 true else s2.supplyReport 2 true) := by
  have known : ¬(!((s.elapse t).supply.feed f).inRange) = true := by
    change ¬(!(s.supply.feed f).inRange) = true
    simp [h]
  refine (if_neg known).trans ?_
  rw [apply_ite Host.Outcome.next, apply_ite Host.Outcome.next]
  rfl

/-- A feed that has qualified: both feeds stand, VMAIN is used, and no collapse is near (19 R627). -/
theorem State.qualify_alerts (s : State) (f : Nat) : ∃ n, (s.qualify f).Alerts { s with supply :=
    { s.supply.setFeed f { inRange := true, near := true, qualified := true } with collapseAt := none, holdOnly := false, sel := n } } ∧
      (f = 0 → n = 0) := by
  unfold State.qualify
  extract_lets x back y s1 s2
  have used : ∃ n, s2.Alerts { s with supply := { y with collapseAt := none, holdOnly := false, sel := n } } ∧ (f = 0 → n = 0) := by
    simp only [s2]
    split
    · exact ⟨f, (State.useFeed_reports ..).alerts, id⟩
    · next h => exact ⟨y.sel, .refl s1, fun hf => absurd hf (by simp at h; exact h.1)⟩
  obtain ⟨n, used, zero⟩ := used
  exact ⟨n, .ite ((State.supplyReport_alerts ..).trans used) used, zero⟩

/-! ### Reference clocks (19 R636) -/

theorem State.bmca_onTime (s : State) : s.bmca.OnTime s := by
  unfold State.bmca
  split
  · exact .refl s
  · extract_lets same path _ b s1 _
    have chosen : s1.OnTime s := s.onTime_of _ s.rateAdj
    split
    · exact (State.sourceAvailable_onTime s1).trans chosen
    · exact (State.sourceAvailable_onTime s1).trans chosen
    · exact .ite chosen ((s1.onTime_of _ s1.rateAdj).trans chosen)
    · exact .ite chosen ((State.timeTo_onTime ..).trans ((s1.onTime_of ..).trans chosen))

theorem State.loseSource_onTime (s : State) : s.loseSource.OnTime s :=
  (State.bmca_onTime _).trans ((s.sourceLoss.onTime_of _ s.sourceLoss.rateAdj).trans s.sourceLoss_onTime)

theorem State.tpLink_onTime (s : State) (up : Bool) : (s.tpLink up).OnTime s := by
  unfold State.tpLink
  refine .ite ?_ (.refl s)
  extract_lets _ s2
  have linked : s2.OnTime s := (State.timeRecord_reports ..).onTime.trans (s.onTime_of _ s.rateAdj)
  exact .ite (s2.loseSource_onTime.trans linked) linked

/-- The lanes of a list lose their reference. -/
def State.refsStop (s : State) (ls : List Nat) : State := ls.foldl (fun u l => u.modLane l (fun x => { x with refStopped := true })) s

theorem State.refsStop_ember (s : State) (ls : List Nat) : (s.refsStop ls).ember = s.ember :=
  State.foldl_ember (fun _ _ => (State.modLane_onLane ..).ember) ls s

theorem State.refsStop_lane {ls : List Nat} {l : Nat} (h : l ∈ ls) (s : State) : ((s.refsStop ls).lane l).refStopped = true := by
  refine foldl_reaches (P := fun u => (u.lane l).refStopped = true) (fun t => ?_) (fun t m ht => ?_) h s
  · exact congrArg Lane.refStopped (t.lane_modLane ..)
  · by_cases hm : l = m
    · subst hm; exact congrArg Lane.refStopped (t.lane_modLane ..)
    · exact (congrArg Lane.refStopped (t.lane_setLane_other _ hm)).trans ht

/-- LREFCLK_ABSENT: lanes that are up drop, all lanes of the chiplet lose their reference, and the timing port goes with chiplet 0. -/
theorem execLrefclkAbsent_stops {t : Nat} {k : Fin 4} (h : s.supply.lrefAbsent.contains k.val = false) : ∃ v : State,
    v.ember = ({ s.elapse t with supply := { s.supply with lrefAbsent := k.val :: s.supply.lrefAbsent } } : State).ember ∧
      exec (.lrefclkAbsent t k) s = .next (if k.val = 0 then (v.refsStop (chipletLanes k)).tpLink false else v.refsStop (chipletLanes k)) := by
  have known : ¬(s.elapse t).supply.lrefAbsent.contains k.val = true := by
    change ¬s.supply.lrefAbsent.contains k.val = true
    rw [h]
    exact nofun
  refine ⟨_, ?_, if_neg known⟩
  split
  · rfl
  · exact State.foldl_ember (fun _ _ => State.laneDrop_ember ..) _ _

/-- A lane of a chiplet whose reference is back starts again, when it may. -/
theorem State.refBack_ember (s : State) (l : Nat) :
    (let v := s.modLane l (fun x => { x with refStopped := false })
     let y := v.lane l
     if y.mode != .off && y.st != .off && v.mode != .dark && !v.laneTested l then v.laneTo l .waitSignal else v).ember = s.ember := by
  have back := (s.modLane_onLane l (fun x => { x with refStopped := false })).ember
  dsimp only
  split
  · exact (State.laneTo_ember ..).trans back
  · exact back

/-- A collapse that the hold-up carries ends in Keep on HOLD (15 R536). -/
theorem State.collapse_held (s : State) : (s.collapse true).mode = .keep ∧ (s.collapse true).supply.holdOnly = true ∧
    (s.collapse true).supply.collapsed = true ∧ (s.collapse true).supply.collapseAt = none ∧ (s.collapse true).sconces = [] ∧
    (s.collapse true).time = s.time := by
  have cleared := s.toKeep_cleared
  unfold State.collapse
  rw [if_neg (by decide)]
  generalize s.toKeep = u at cleared ⊢
  obtain ⟨-, -, sconces, -⟩ := cleared.empty
  have alerted := State.alert_alerts { u with
    healthNv := u.health, start := { u.start with guardUntil := none }
    supply := { u.supply with collapseAt := none, holdOnly := true, collapsed := true } } alertSupply
  have supply := alerted.keeps State.supply rfl
  exact ⟨(alerted.keeps State.mode rfl).trans cleared.mode, congrArg Supply.holdOnly supply, congrArg Supply.collapsed supply,
    congrArg Supply.collapseAt supply, (alerted.keeps State.sconces rfl).trans sconces, (alerted.keeps State.time rfl).trans cleared.time⟩

/-- Settles O50: the feeds by what is left in range, the collapse by what carries the Ember, the clocks by what they drive. -/
theorem suppliesAndClocks : Obligations.SuppliesAndClocks := by
  intro t s s1 x
  refine ⟨fun f absent => ?_, fun f inRange other near => ?_, fun f inRange used => ⟨?_, fun gone => ?_⟩, fun f live => ?_,
    fun f collapsed live keep free running waits => ?_, fun due => ⟨?_, ?_⟩, fun hold => ?_, rfl, rfl, fun k present => ?_, fun k absent => ?_,
    fun p => ?_, fun p stopped pll => ?_⟩
  · have comes : ¬((x.feed f).inRange && (x.feed f).near) = true := by simp [absent]
    let y := x.setFeed f { x.feed f with inRange := true, near := true }
    have ranged (n : Nat) (c : Option Nat) : (({ y with sel := n, collapseAt := c } : Supply).feed f).inRange = true :=
      congrArg Feed.inRange (x.feed_setFeed _ f)
    refine ⟨fun dead => ?_, fun live safe hold used => ?_, fun live needed => ?_⟩
    · have starts := (({ s1 with supply := y, time := 0, tap := TapPort.reset } : State)).useFeed_reports f
      have supply := starts.within.keeps State.supply rfl
      refine ⟨_, (if_neg comes).trans (if_pos ?_), starts.within.time, congrArg Supply.sel supply, ?_, ?_⟩
      · change (!x.live) = true
        simp [dead]
      · exact (congrArg (fun z => (z.feed f).inRange) supply).trans (ranged ..)
      · exact (congrArg Supply.live supply).trans (Supply.live_of_fed (Supply.fed_of_feed (ranged ..)))
    · refine (if_neg comes).trans ((if_neg ?_).trans ((if_neg ?_).trans (if_neg ?_)))
      · change ¬(!x.live) = true
        simp [live]
      · change ¬(x.collapseAt.isSome || (!x.holdOnly && !(x.feed x.sel).inRange)) = true
        simp [safe, hold, used]
      · change ¬x.holdOnly = true
        simp [hold]
    · have supply := State.applied_supply { s1 with supply := y } f (x.sel = f.val)
      refine ⟨_, (if_neg comes).trans ((if_neg ?_).trans (if_pos ?_)), ?_⟩
      · change ¬(!x.live) = true
        simp [live]
      · change (x.collapseAt.isSome || (!x.holdOnly && !(x.feed x.sel).inRange)) = true
        simpa using needed
      · exact ⟨congrArg Supply.sel supply, congrArg Supply.collapseAt supply,
          (congrArg (fun z => (z.feed f).inRange) supply).trans (ranged ..)⟩
  · refine ⟨_, (execFeedOutOfRange_leaves inRange).trans (congrArg _ (if_pos (bne_iff_ne.2 other))), ?_, ?_⟩
    · exact s1.supplyWithout_sel f near
    · exact s1.supplyWithout_feed near f.isLt
  · have inUse : ¬(s.supply.sel != f.val) = true := by simpa using used
    have supply := State.switch_supply { s1 with supply := s1.supplyWithout f true } (1 - f.val) 2 true
    refine ⟨_, (execFeedOutOfRange_leaves inRange).trans (congrArg _ ((if_neg inUse).trans (if_pos rfl))), ?_⟩
    rw [supply]
    exact ⟨rfl, s1.supplyWithout_feed true f.isLt, rfl⟩
  · have inUse : ¬(s.supply.sel != f.val) = true := by simpa using used
    have supply := (State.supplyReport_alerts { s1 with supply := s1.supplyWithout f false } 2 true).keeps State.supply rfl
    have none : (x.without f false).fed = false := by rw [Supply.without_fed _ _ f.isLt, gone]; rfl
    refine ⟨_, (execFeedOutOfRange_leaves inRange).trans (congrArg _ ((if_neg inUse).trans (if_neg (by decide)))), ?_⟩
    rw [supply]
    refine ⟨(s1.supplyWithout_sel f false).trans used, ?_⟩
    exact congrArg Supply.collapseAt (if_neg (by rw [show s1.supply = x from rfl, none]; decide))
  · obtain ⟨n, qualified, zero⟩ := s1.qualify_alerts f
    refine ⟨_, if_pos live, ?_⟩
    rw [qualified.keeps State.supply rfl]
    exact ⟨x.feed_setFeed _ f, rfl, rfl, zero⟩
  · obtain ⟨n, qualified, -⟩ := s1.qualify_alerts f
    have fed : (s1.qualify f).supply.fed = true := by
      rw [qualified.keeps State.supply rfl]
      exact Supply.fed_of_feed (congrArg Feed.inRange (x.feed_setFeed _ f))
    have may : (s1.qualify f).mayStart = true := by
      have held : (s1.qualify f).inReset = s.inReset := qualified.keeps State.inReset rfl
      simp [State.mayStart, held, free, fed, qualified.keeps State.mode rfl, qualified.keeps State.start rfl, qualified.keeps State.tap rfl,
        s1, keep, running, waits]
    refine ⟨(s1.qualify f).wakeUp 5, (if_pos ?_).trans (congrArg _ (if_pos may)), rfl, rfl⟩
    change (x.collapsed && x.live) = true
    simp [collapsed, live]
  · exact ⟨_, if_pos due, s1.collapse_held⟩
  · exact if_pos due
  · obtain ⟨-, -, sconces, -⟩ := s1.clearMain_cleared.empty
    exact ⟨_, if_pos hold, rfl, rfl, rfl, rfl, sconces⟩
  · obtain ⟨v, base, stops⟩ := execLrefclkAbsent_stops (t := t) present
    have supply : (v.refsStop (chipletLanes k)).supply.lrefAbsent = k.val :: x.lrefAbsent :=
      congrArg Supply.lrefAbsent (State.ember_supply ((v.refsStop_ember _).trans base))
    have down := (v.refsStop (chipletLanes k)).tpLink_onTime false
    refine ⟨_, stops, ?_⟩
    split
    · exact ⟨(congrArg Supply.lrefAbsent (State.ember_supply down.ember)).trans supply, fun l hl =>
        (congrArg (fun t => (tabGet Lane.reset t l).refStopped) (down.within.keeps State.lanes rfl)).trans (State.refsStop_lane hl v)⟩
    · exact ⟨supply, fun l hl => State.refsStop_lane hl v⟩
  · have known : ¬(!x.lrefAbsent.contains k.val) = true := by rw [absent]; decide
    refine ⟨_, if_neg known, ?_⟩
    exact congrArg Supply.lrefAbsent (State.ember_supply (State.foldl_ember State.refBack_ember _ _))
  · exact ⟨_, rfl, by simp [State.modPort], by simp [State.modPort]⟩
  · refine if_neg ?_
    change ¬((s.port p).refClk || (decide ((s.phys poolPlls 4).st = 4) && (s.phys poolPlls 4).groups.contains p.val)) = true
    simpa [stopped] using pll

end Sys2Proof.Machine
end

section
/-!
RECORD_CONFIG and REPLAY_CONTROL (16 R562, R563, R566, R569, R570).
-/

namespace Sys2Proof.Machine

variable {s u v w : State} {c : RingCmd}

/-! ### Completions after an effect -/

theorem State.Answers.refl (s : State) : s.Answers s := (State.Reports.refl s).answers

theorem State.Answers.ite {p : Prop} [Decidable p] (h : u.Answers s) (g : v.Answers s) : (if p then u else v).Answers s := by
  split <;> assumption

theorem State.Answers.foldl {α : Type} {f : State → α → State} (h : ∀ t x, (f t x).Answers t) (l : List α) (s : State) :
    (l.foldl f s).Answers s := by
  induction l generalizing s with
  | nil => exact .refl s
  | cons a l ih => exact (ih (f s a)).trans (h s a)

/-- A command whose effect is f but for reporting, with the mode and the ports as they are, completes at once. -/
theorem command_sets {op : Nat} {chk : State → Checks} {eff : State → State × Done} (f : State → State) (h : s.Accepts c op chk)
    (g : ∀ v : State, (eff v).1.Reports (f v) ∧ (eff v).2 = .ok)
    (hf : ∀ s p j w q o, f { s with ports := p, jn := j, windows := w, seq := q, out := o } =
      { f s with ports := p, jn := j, windows := w, seq := q, out := o })
    (hm : (f s).mode = s.mode) (hp : (f s).ports = s.ports) :
    ∃ u, s.command c op chk eff = .next u ∧ u.Reports (f s) ∧ u.Completed s c .success :=
  command_does' (f s) h (fun v hv => ⟨(g v).1.trans (hv.map f hf), (g v).2⟩) hm hp

/-! ### Blocks of captures and exports (16 R559, R563) -/

theorem State.blockOut_reports (s : State) (p i area slotLog2 : Nat) (b : CapBlock) : (s.blockOut p i area slotLog2 b).Reports s :=
  (State.writeEntry_reports ..).trans (State.hostPutParts_reports ..)

/-- But for reporting, u is s with other captures and other blocks in the record area. -/
def State.Captures (u s : State) : Prop :=
  ∃ caps blocks, u.Reports { s with recorder := { s.recorder with caps := caps, blocks := blocks } }

theorem State.Reports.captures (h : u.Reports s) : u.Captures s := ⟨_, _, h⟩
theorem State.Captures.refl (s : State) : s.Captures s := (State.Reports.refl s).captures

theorem State.Captures.trans (h : u.Captures v) (g : v.Captures w) : u.Captures w := by
  obtain ⟨a, b, h⟩ := h
  obtain ⟨_, _, g⟩ := g
  have beside := g.map (fun t : State => { t with recorder := { t.recorder with caps := a, blocks := b } }) fun _ _ _ _ _ _ => rfl
  exact ⟨a, b, h.trans beside⟩

theorem State.Captures.ite {p : Prop} [Decidable p] (h : u.Captures s) (g : v.Captures s) : (if p then u else v).Captures s := by
  split <;> assumption

theorem State.Captures.foldl {α : Type} {f : State → α → State} (h : ∀ t x, (f t x).Captures t) (l : List α) (s : State) :
    (l.foldl f s).Captures s := by
  induction l generalizing s with
  | nil => exact .refl s
  | cons a l ih => exact (ih (f s a)).trans (h s a)

theorem State.Captures.exports (h : u.Captures s) : u.recorder.exports = s.recorder.exports := by
  obtain ⟨_, _, h⟩ := h
  exact (congrArg Recorder.exports (h.within.keeps State.recorder rfl)).trans rfl

theorem State.Captures.clock (h : u.Captures s) : u.ns = s.ns ∧ u.dt = s.dt := by
  obtain ⟨_, _, h⟩ := h
  exact ⟨h.ns, h.dt⟩

theorem State.placeBlock_captures {k : Nat} {x : Capture} {b : CapBlock} (h : s.placeBlock k x b = some u) : u.Captures s := by
  unfold State.placeBlock at h
  split at h
  · exact absurd h nofun
  · extract_lets s1 s2 at h
    obtain rfl := Option.some.inj h
    have stored : s2.Captures s := .ite ⟨_, _, .refl _⟩ ⟨_, _, .refl s1⟩
    exact .ite ((State.blockOut_reports ..).captures.trans stored) stored

theorem State.placeBlocks_captures (s : State) (k n : Nat) : (s.placeBlocks k n).Captures s := by
  induction n generalizing s with
  | zero => exact .refl s
  | succ n ih =>
    unfold State.placeBlocks
    split
    · exact .refl s
    · split
      · exact .refl s
      · split
        · exact .refl s
        · next h => exact (ih _).trans (State.placeBlock_captures h)

theorem State.captureFlush_captures (s : State) (k : Nat) : (s.captureFlush k).Captures s := by
  unfold State.captureFlush
  split
  · exact .refl s
  · next x _ =>
    have placed := s.placeBlocks_captures k x.queue.length
    dsimp only
    split
    · exact placed
    · have gone (caps : Tab Capture) : State.Captures { s.placeBlocks k x.queue.length with
        recorder := { (s.placeBlocks k x.queue.length).recorder with caps := caps } } (s.placeBlocks k x.queue.length) := ⟨_, _, .refl _⟩
      exact .ite ((State.Reports.foldl (fun _ _ => State.finishWaiting_reports ..) _ _).captures.trans ((gone _).trans placed)) placed

/-- The blocks of an export leave it in order; the rest of it stays. -/
theorem State.exportBlocks_reports (s : State) (x : Export) (n : Nat) : (s.exportBlocks x n).1.Reports s ∧
    ∃ l, (s.exportBlocks x n).2 = { x with blocks := l } := by
  induction n generalizing s x with
  | zero => exact ⟨.refl s, x.blocks, rfl⟩
  | succ n ih =>
    unfold State.exportBlocks
    split
    · exact ⟨.refl s, x.blocks, rfl⟩
    · split
      · obtain ⟨sent, l, rest⟩ := ih (s.blockOut (x.cmdRing / 1024) (x.ring % 1024) x.area x.slotLog2 _) { x with blocks := _ }
        exact ⟨sent.trans (State.blockOut_reports ..), l, rest⟩
      · exact ⟨.refl s, x.blocks, rfl⟩

/-- One export moves on. -/
def State.exportStep (t : State) (x : Export) : State :=
  let r := t.exportBlocks x x.blocks.length
  { r.1 with recorder := { r.1.recorder with exports := r.1.recorder.exports.map (fun y => if y == x then r.2 else y) } }

theorem State.recorderFlush_eq (s : State) : s.recorderFlush = ((s.recorder.caps.map (·.1)).foldl State.captureFlush s).recorder.exports.foldl
    State.exportStep ((s.recorder.caps.map (·.1)).foldl State.captureFlush s) := rfl

/-- An export of s, with perhaps fewer blocks. -/
def State.HasExport (s : State) (x : Export) : Prop := ∃ l, { x with blocks := l } ∈ s.recorder.exports

theorem State.exportStep_hasExport {x : Export} (h : s.HasExport x) (y : Export) : (s.exportStep y).HasExport x := by
  obtain ⟨l, h⟩ := h
  obtain ⟨sent, m, rest⟩ := s.exportBlocks_reports y y.blocks.length
  have exports : (s.exportStep y).recorder.exports = s.recorder.exports.map fun z => if z == y then { y with blocks := m } else z := by
    unfold State.exportStep
    dsimp only
    rw [rest, congrArg Recorder.exports (sent.within.keeps State.recorder rfl)]
  unfold State.HasExport
  rw [exports]
  by_cases same : ({ x with blocks := l } == y) = true
  · refine ⟨m, List.mem_map.2 ⟨_, h, ?_⟩⟩
    rw [if_pos same, ← eq_of_beq same]
  · exact ⟨l, List.mem_map.2 ⟨_, h, if_neg same⟩⟩

theorem State.exportStep_clock (s : State) (x : Export) : (s.exportStep x).ns = s.ns ∧ (s.exportStep x).dt = s.dt := by
  obtain ⟨sent, -⟩ := s.exportBlocks_reports x x.blocks.length
  exact ⟨sent.ns, sent.dt⟩

theorem State.recorderFlush_hasExport {x : Export} (h : x ∈ s.recorder.exports) : s.recorderFlush.HasExport x := by
  have captured := State.Captures.foldl State.captureFlush_captures (s.recorder.caps.map (·.1)) s
  rw [State.recorderFlush_eq]
  refine List.foldlRecOn (motive := (·.HasExport x)) _ State.exportStep ⟨x.blocks, ?_⟩ fun t ht y _ => State.exportStep_hasExport ht y
  rw [captured.exports]
  exact h

theorem State.recorderFlush_clock (s : State) : s.recorderFlush.ns = s.ns ∧ s.recorderFlush.dt = s.dt := by
  have captured := State.Captures.foldl State.captureFlush_captures (s.recorder.caps.map (·.1)) s
  rw [State.recorderFlush_eq]
  refine List.foldlRecOn (motive := fun t => t.ns = s.ns ∧ t.dt = s.dt) _ State.exportStep captured.clock fun t ht y _ => ?_
  exact ⟨(t.exportStep_clock y).1.trans ht.1, (t.exportStep_clock y).2.trans ht.2⟩

/-- A field of a state that has the export of a RECORD EXPORT, which may have moved on. -/
theorem State.Reports.hasExport {x : Export} (h : u.Reports v) (hv : v.HasExport x) : u.HasExport x := by
  unfold State.HasExport
  rw [h.within.keeps State.recorder rfl]
  exact hv

/-- The export that a RECORD EXPORT begins (16 R563). -/
def State.exportOf (s : State) (c : RingCmd) : Export :=
  { cmdRing := ringId c.p c.i, arg := s.fresh, ring := ringId c.p (bitsAt c.e 0x10 2 0 10), area := bufferVa c.e 0x18, slotLog2 := 24
    blocks := s.recorder.blocks.filter (fun b => b.sconce == bitsAt c.e 0xC 2 0 9) }

theorem State.Reports.exportOf (h : v.Reports s) : v.exportOf c = s.exportOf c := by
  obtain ⟨⟨_, _, _, _, _, rfl⟩, -⟩ := h
  rfl

/-! ### The end of a session (16 R569) -/

theorem State.discardOpen_answers (s : State) (k : Nat) : (s.discardOpen k).Answers s := by
  obtain ⟨_, _, _, h⟩ := s.discardOpen_frame k
  rw [h]
  exact State.answers_of_ports rfl rfl

theorem State.setStream_answers (s : State) (n : Nat) (x : Stream) : (s.setStream n x).Answers s := State.answers_of_ports rfl rfl

theorem State.stopDone_answers (s : State) (n m : Nat) : (s.stopDone n m).Answers s :=
  (State.Reports.foldl (fun _ _ => State.finishWaiting_reports ..) _ _).answers.trans
    ((State.streamState_reports ..).answers.trans ((State.setStream_answers ..).trans (State.setStream_answers ..)))

theorem State.frameLeft_answers (s : State) (n m : Nat) : (s.frameLeft n m).Answers s := by
  unfold State.frameLeft
  extract_lets x s1
  have moved : s1.Answers s := by
    simp only [s1]
    split
    · exact .ite (.refl s) (s.setStream_answers ..)
    · exact .refl s
  split
  · exact .ite ((State.stopDone_answers ..).trans moved) moved
  · exact moved

theorem State.replayDiscard_answers (s : State) (k : Nat) : (s.replayDiscard k).Answers s := by
  unfold State.replayDiscard
  split
  · exact .refl s
  · exact (State.Answers.foldl (fun _ _ => State.frameLeft_answers ..) _ _).trans (s.discardOpen_answers k)

theorem State.replayState_reports (s : State) (k code reason : Nat) : (s.replayState k code reason).Reports s := State.record_reports ..

theorem State.sessionEnd_answers (s : State) (reason : Nat) : (s.sessionEnd reason).Answers s := by
  unfold State.sessionEnd
  extract_lets x s1 s2 told
  have discarded := State.Answers.foldl (fun t (q : ReplayCap) => t.replayDiscard_answers q.target) (x.caps.filter (·.loaded)) s
  have h1 : s1.Answers s := ⟨discarded.mode, discarded.canWrite, discarded.shape⟩
  have h2 : s2.Answers s := by
    simp only [s2]
    split
    · exact (State.finishWaiting_reports ..).answers.trans h1
    · exact h1
  have h3 : told.Answers s := .ite h2 ((State.replayState_reports ..).answers.trans h2)
  exact .ite (.refl s) ⟨h3.mode, h3.canWrite, h3.shape⟩

theorem State.sessionEnd_st (s : State) (reason : Nat) : (s.sessionEnd reason).session.st = .none := by
  unfold State.sessionEnd
  extract_lets x s1 s2 told
  split
  · next h => exact eq_of_beq h
  · rfl

/-! ### PAUSE and RESUME (16 R570) -/

/-- A session whose presentation stops at an instant. -/
def Session.pause (x : Session) (now : Nat) : Session :=
  if x.st == .running then { x with st := .paused, pausedAt := now } else if x.st == .starved then { x with st := .paused } else x

/-- A session that goes on at an instant, with R0 advanced by the time for which it was paused. -/
def Session.resume (x : Session) (now : Nat) : Session :=
  if x.st == .paused then { x with st := .running, r0 := x.r0 + (now - x.pausedAt) } else x

theorem replayPauseEffect_pauses (c : RingCmd) (v : State) :
    (replayPauseEffect c v).1.Reports { v with session := v.session.pause v.ns } ∧ (replayPauseEffect c v).2 = .ok := by
  unfold replayPauseEffect Session.pause
  dsimp only
  split
  · exact ⟨State.replayState_reports .., rfl⟩
  · split
    · exact ⟨.refl _, rfl⟩
    · exact ⟨.refl v, rfl⟩

theorem replayResumeEffect_resumes (c : RingCmd) (v : State) :
    (replayResumeEffect c v).1.Reports { v with session := v.session.resume v.ns } ∧ (replayResumeEffect c v).2 = .ok := by
  unfold replayResumeEffect Session.resume
  split
  · exact ⟨State.replayState_reports .., rfl⟩
  · exact ⟨.refl v, rfl⟩

/-! ### START of a session, and STOP of a capture (16 R563, R570) -/

/-- The session that START begins. -/
def State.replayStarted (s : State) (c : RingCmd) : State :=
  (s.freshen.replayStart c.p c.e).modSession (fun x => { x with startCmd := some (ringId c.p c.i, s.fresh) })

theorem recordStopEffect_none {n : Nat} (hn : n = bitsAt c.e 0xC 2 0 11) (h : v.capture (v.stream n).sconce = none) :
    recordStopEffect c v = (v, .ok) := by
  subst hn
  simp only [recordStopEffect, h]

theorem recordStopEffect_some {n : Nat} {x : Capture} (hn : n = bitsAt c.e 0xC 2 0 11) (h : v.capture (v.stream n).sconce = some x) :
    recordStopEffect c v = (v.freshen.setCapture (v.stream n).sconce
      { x with ending := true, stopCmds := x.stopCmds ++ [(ringId c.p c.i, v.fresh)] }, .waits v.fresh) := by
  subst hn
  simp only [recordStopEffect, h]

theorem State.Reports.recordBlock (h : v.Reports s) : v.recordBlock = s.recordBlock := by
  obtain ⟨⟨_, _, _, _, _, rfl⟩, -⟩ := h
  rfl

theorem State.Reports.capture (h : v.Reports s) (n : Nat) : v.capture (v.stream n).sconce = s.capture (s.stream n).sconce := by
  obtain ⟨⟨_, _, _, _, _, rfl⟩, -⟩ := h
  rfl

/-- The next state that differs in the session differs by its own. -/
theorem State.Reports.but_replay {x : Session} (h : u.Reports { s with session := x }) :
    u.session = x ∧ u.Reports { s with session := u.session } := by
  have session : u.session = x := h.within.keeps State.session rfl
  exact ⟨session, by rw [session]; exact h⟩

/-- Settles O47: each command by the field that it sets; an EXPORT stands among the exports whatever moves on with it. -/
theorem recordAndReplayRun : Obligations.RecordAndReplayRun := by
  refine ⟨?_, ?_, ?_, ?_, ?_, ?_, ?_, ?_, ?_, ?_, ?_, ?_⟩
  · intro t c s0 s h
    exact command_sets (eff := recordAreaEffect c)
      (fun v => { v with recorder := { v.recorder with areaGiB := fld c.e 9 1, fullStop := bitAt c.e 0xA 0 } }) h (fun v => ⟨.refl _, rfl⟩)
      (fun _ _ _ _ _ _ => rfl) rfl rfl
  · intro t c s0 s h
    exact command_sets (eff := recordStartEffect c)
      (fun v => v.setCapture (v.stream (bitsAt c.e 0xC 2 0 11)).sconce (captureOf c.p c.e)) h (fun v => ⟨.refl _, rfl⟩)
      (fun _ _ _ _ _ _ => rfl) rfl rfl
  · intro t c s0 s none h
    refine command_does' s h (fun v hv => ?_) rfl rfl
    rw [recordStopEffect_none rfl ((hv.capture _).trans none)]
    exact ⟨hv, rfl⟩
  · intro t c s0 x s k some h
    obtain ⟨u, hu, told, waits⟩ := State.command_waits_for (a := s.fresh) (eff := recordStopEffect c)
      (P := fun u => u.Reports (s.freshen.setCapture k { x with ending := true, stopCmds := x.stopCmds ++ [(ringId c.p c.i, s.fresh)] })) h
      fun v hv => by
        rw [recordStopEffect_some rfl ((hv.capture _).trans some), hv.fresh, hv.within.stream]
        exact ⟨rfl, hv.ns, hv.dt, fun u hu => hu.trans (hv.freshen.map (·.setCapture k _) fun _ _ _ _ _ _ => rfl)⟩
    refine ⟨u, hu, waits, ?_⟩
    rw [told.fresh]
    exact told
  · intro t c s0 s h
    obtain ⟨u, hu, ⟨_, has⟩, waits⟩ := State.command_waits_for (a := s.fresh) (eff := recordExportEffect c)
      (P := fun u => u.HasExport (s.exportOf c)) h fun v hv => by
        have clock := State.recorderFlush_clock
        refine ⟨congrArg Done.waits hv.fresh, (clock _).1.trans hv.ns, (clock _).2.trans hv.dt, fun u hu => hu.hasExport ?_⟩
        rw [← hv.exportOf]
        exact State.recorderFlush_hasExport (List.mem_append_right _ List.mem_cons_self)
    exact ⟨u, hu, waits, _, has, rfl, rfl, rfl, rfl⟩
  · intro t c s0 s block parts h
    obtain ⟨u, hu, queues, waits⟩ := command_waits_with_block (eff := recordStatusEffect c) (w := s) h rfl rfl rfl rfl
      fun v hv => ⟨v, hv, by rw [recordStatusEffect, hv.recordBlock]⟩
    exact ⟨u, _, hu, waits, queues.job, queues.reports⟩
  · intro t c s0 s h
    obtain ⟨u, hu, told, done⟩ := command_sets (eff := replayAddEffect c) (fun v => (replayAddEffect c v).1) h (fun v => ⟨.refl _, rfl⟩)
        (fun _ _ _ _ _ _ => rfl) rfl rfl
    obtain ⟨session, beside⟩ := told.but_replay
    refine ⟨u, hu, ⟨_, congrArg Session.caps session, rfl, rfl, rfl, rfl⟩, congrArg Session.port session, beside, done⟩
  · intro t c s0 s h
    obtain ⟨u, hu, told, waits⟩ := State.command_waits_for (a := s.fresh) (eff := replayStartEffect c)
      (P := fun u => u.Reports (s.replayStarted c)) h fun v hv =>
        ⟨congrArg Done.waits hv.fresh, hv.ns, hv.dt, fun u hu => hu.trans (hv.map (·.replayStarted c) fun _ _ _ _ _ _ => rfl)⟩
    have session : u.session = (s.replayStarted c).session := told.within.keeps State.session rfl
    refine ⟨u, hu, waits, congrArg Session.st session, congrArg Session.startCmd session, congrArg Session.speed session,
      congrArg Session.startTime session, congrArg Session.r0 session, ?_⟩
    rw [session, told.fresh]
    exact told
  · intro t c s0 s h
    obtain ⟨u, hu, told, done⟩ := command_sets (fun v => { v with session := v.session.pause v.ns }) h (replayPauseEffect_pauses c)
        (fun _ _ _ _ _ _ => rfl) rfl rfl
    obtain ⟨session, beside⟩ := told.but_replay
    refine ⟨u, hu, fun runs => ?_, fun starves => ?_, fun stands fed => ?_, beside, done⟩
    · rw [session, Session.pause, if_pos (beq_iff_eq.2 runs)]
    · rw [session, Session.pause, if_neg (by simp [starves]), if_pos (beq_iff_eq.2 starves)]
    · rw [session, Session.pause, if_neg (by simpa using stands), if_neg (by simpa using fed)]
  · intro t c s0 s h
    obtain ⟨u, hu, told, done⟩ := command_sets (fun v => { v with session := v.session.resume v.ns }) h (replayResumeEffect_resumes c)
        (fun _ _ _ _ _ _ => rfl) rfl rfl
    obtain ⟨session, beside⟩ := told.but_replay
    refine ⟨u, hu, fun paused => ?_, fun runs => ?_, beside, done⟩
    · rw [session, Session.resume, if_pos (beq_iff_eq.2 paused)]
    · rw [session, Session.resume, if_neg (by simpa using runs)]
  · intro t c s0 s h
    exact State.command_succeeds (eff := replayEndEffect c) (P := fun u => u.session.st = .none) h fun v _ =>
      ⟨rfl, v.sessionEnd_answers 0, fun u hu => (congrArg Session.st (hu.within.keeps State.session rfl)).trans (v.sessionEnd_st 0)⟩
  · intro t f s s1 replay
    exact congrArg Host.Outcome.next (if_pos (beq_iff_eq.2 replay))

end Sys2Proof.Machine
end

section
/-!
The module buses, alerts and the other rows of the management bus (18 R598 to R600, R604, R606, R608 to R615).
-/

namespace Sys2Proof.Machine

variable {s u v : State} {t b : Nat}

/-! ### Alerts (18 R604, R608) -/

theorem nbit_setBit (n k : Nat) : nbit (setBit n k) k = true := by
  rw [nbit_eq_testBit, setBit, Nat.testBit_or, Nat.testBit_two_pow_self, Bool.or_true]

theorem State.alertDrop_low (s : State) : s.alertDrop.mg.alertLow = true := by
  unfold State.alertDrop
  split
  · next h => exact h
  · rfl

theorem State.alertDrop_keeps {α : Type} (f : State → α) (hf : ∀ s l o, f { s with mg := { s.mg with alertLow := l }, out := o } = f s) :
    f s.alertDrop = f s := by
  unfold State.alertDrop
  split
  · rfl
  · exact hf s true _

theorem State.alertRelease_releases (h : s.mg.alertLow = true) (o : Output) :
    (s.say o).alertRelease = (({ s.say o with mg := { s.mg with alertLow := false } } : State)).say (.pin "MG_ALERT#" 0 true) := if_pos h

/-- A call of the host leaves the status of alerts. -/
theorem State.callHost_status (s : State) : s.callHost.mg.alertStatus = s.mg.alertStatus := by
  unfold State.callHost
  dsimp only
  have called (c : Bool) (n : Option (Nat × Nat)) :
      (if c then ({ s with mg := { s.mg with notifying := n } } : State) else s).mg.alertStatus = s.mg.alertStatus := by cases c <;> rfl
  split
  · exact called ..
  · exact (State.alertDrop_keeps (fun u => u.mg.alertStatus) fun _ _ _ => rfl).trans (called ..)

/-- An alert stands in ALERT_STATUS. -/
theorem State.alert_stands (s : State) (k : Nat) : nbit (s.alert k).mg.alertStatus k = true := by
  have set : (s.alert k).mg.alertStatus = setBit s.mg.alertStatus k := by
    unfold State.alert
    extract_lets m rises s1
    split
    · exact s1.callHost_status
    · rfl
  rw [set]
  exact nbit_setBit ..

/-- A try of a Host Notify that is not acknowledged waits 1 ms for the next, up to eight tries (18 R608). -/
theorem State.notifyTry_again {n : Nat} (h : n < 7) (s : State) :
    s.notifyTry n .notAcknowledged =
        { s.say (.mgNotify s.notifyBytes) with mg := { s.mg with notifying := some (n + 1, s.ns + 1000000) } } ∧
      s.notifyTry n .lost = { s.say (.mgNotify s.notifyBytes) with mg := { s.mg with notifying := some (n + 1, s.ns + 1000000) } } :=
  ⟨if_neg (by omega), if_neg (by omega)⟩

/-! ### CG_XFER (18 R598, R610, R611) -/

theorem execCgXfer_counted {l : List Byte} (live : s.supply.live = true) (some : l ≠ []) : exec (.cgXfer t (.write l)) s = .next
    (if lfld l 0 1 < 5 || 37 < lfld l 0 1 || s.mg.xfer.status = 1 then (s.elapse t).mgSeen.say .mgNack
      else (s.elapse t).mgSeen.mgPut 0x20 (lfld l 0 1 + 1) l (fun b u => u.cgStart (b.drop 1))) := by
  have fed : ¬(!(s.elapse t).supply.live) = true := by
    change ¬(!s.supply.live) = true
    simp [live]
  refine (if_neg fed).trans ((if_neg (by simp [some])).trans ?_)
  rw [apply_ite Host.Outcome.next]
  rfl

/-- A block of the length that its count gives is taken. -/
theorem execCgXfer_taken {l : List Byte} (live : s.supply.live = true) (low : 5 ≤ lfld l 0 1) (high : lfld l 0 1 ≤ 37)
    (idle : s.mg.xfer.status ≠ 1) (len : l.length = lfld l 0 1 + 1) :
    exec (.cgXfer t (.write l)) s = .next ((s.elapse t).mgSeen.cgStart (l.drop 1)) := by
  have some : l ≠ [] := List.ne_nil_of_length_pos (by omega)
  have counted : ¬(decide (lfld l 0 1 < 5) || decide (37 < lfld l 0 1) || decide (s.mg.xfer.status = 1)) = true := by
    simp only [Bool.or_eq_true, decide_eq_true_eq]
    omega
  rw [execCgXfer_counted live some, if_neg counted, State.mgPut_eq, if_neg (by omega), if_pos (.inl len), List.take_of_length_le (by omega)]

/-- A block that nothing forbids goes out. -/
theorem State.cgStart_goes {l : List Byte} (good : cgBad l = false) (mode : s.mode ≠ .keep) (inn : (s.bus (cgParse l).bus).out = false)
    (cycle : (s.bus (cgParse l).bus).cycle = none) (power : s.start.cagePower.contains (cgParse l).bus = true) :
    s.cgStart l = ({ s with mg := { s.mg with xfer := cgParse l } } : State).xferGo := by
  unfold State.cgStart
  extract_lets x put
  have unfit : ¬(!s.start.cagePower.contains x.bus || (s.bus x.bus).cycle.isSome) = true := by
    rw [cycle, power]
    decide
  have up : ¬(s.mode == .keep && !s.start.running) = true := by simp [mode]
  have fits : ¬(s.bus x.bus).out = true := by rw [inn]; decide
  rw [if_neg (by rw [good]; decide), if_neg up, if_neg fits, if_neg unfit]
  rfl

/-! ### Power-cycles of the modules (18 R613, R614) -/

theorem State.bus_setBus (s : State) (b : Nat) (x : CgBus) : (s.setBus b x).bus b = x := tabGet_put_same ..

theorem State.Within.bus (h : u.Within s) (b : Nat) : u.bus b = s.bus b := h.keeps (State.bus · b) rfl
theorem State.Alerts.bus (h : u.Alerts s) (b : Nat) : u.bus b = s.bus b := h.keeps (State.bus · b) rfl

/-- The state in which the module of a bus is without power. -/
def State.unpowered (s : State) (b : Nat) (byCg : Bool) : State :=
  { s.setBus b { s.bus b with cycle := some (1, s.ns + s.mg.cycleMs * 10000000, byCg), recovery := none } with
    start := { s.start with cagePower := s.start.cagePower.filter (fun k => k != b), cageReset := s.start.cageReset.filter (fun k => k != b) } }

/-- A power-cycle begins: both pins go low, and the timing port's source goes with bus 16. -/
theorem State.cycleBus_onTime (s : State) (b : Nat) (byCg : Bool) :
    (s.cycleBus b byCg).OnTime (((s.unpowered b byCg).say (.pin "CG_PWREN" b false)).say (.pin "CG_RST#" b false)) :=
  .ite (State.tpLink_onTime ..) (.refl _)

theorem State.OnTime.sent (h : u.OnTime s) {o : Output} (ho : s.Sent o) : u.Sent o := State.Reports.sent_of h ho
where State.Reports.sent_of {u s : State} (h : u.Reports s) {o : Output} (ho : s.Sent o) : u.Sent o := h.2.1 o ho

theorem State.OnTime.bus (h : u.OnTime s) (b : Nat) : u.bus b = s.bus b := (State.Reports.within h).bus b

theorem State.cycleBus_cycles (s : State) (b : Nat) (byCg : Bool) :
    ((s.cycleBus b byCg).bus b) = { s.bus b with cycle := some (1, s.ns + s.mg.cycleMs * 10000000, byCg), recovery := none } ∧
      (s.cycleBus b byCg).start.cagePower = s.start.cagePower.filter (fun k => k != b) ∧
      (s.cycleBus b byCg).Sent (.pin "CG_PWREN" b false) := by
  have cycles := s.cycleBus_onTime b byCg
  have start := congrArg StartUp.cagePower (State.ember_start cycles.ember)
  exact ⟨(cycles.bus b).trans (s.bus_setBus ..), start, cycles.sent (List.mem_cons_of_mem _ List.mem_cons_self)⟩

theorem State.hangCycle_cycles (s : State) (b : Nat) :
    (∃ e, ((s.hangCycle b).bus b).cycle = some (1, e, false)) ∧ ((s.hangCycle b).bus b).recovery = none ∧
      nbit (s.hangCycle b).mg.alertStatus alertCg = true ∧ (s.hangCycle b).Sent (.pin "CG_PWREN" b false) := by
  have alerted := (s.cycleBus b false).alert_alerts alertCg
  obtain ⟨bus, -, sent⟩ := s.cycleBus_cycles b false
  have bus := (alerted.bus b).trans bus
  exact ⟨⟨_, congrArg CgBus.cycle bus⟩, congrArg CgBus.recovery bus, State.alert_stands .., alerted.2 _ sent⟩

/-! ### Ends of transfers and of power-cycles -/

theorem State.xferEnds_keeps {α : Type} (f : State → α) (hf : ∀ s y, f { s with mg := { s.mg with xfer := y } } = f s)
    (s : State) (b st : Nat) : f (s.xferEnds b st) = f s := by
  unfold State.xferEnds
  split
  · exact hf ..
  · rfl

theorem State.xferEnds_of_bus (s : State) (st : Nat) (h : s.mg.xfer.status = 1) :
    s.xferEnds s.mg.xfer.bus st = { s with mg := { s.mg with xfer := { s.mg.xfer with status := st } } } := if_pos (by simp [h])

theorem State.xferRuns_status (h : s.xferRuns = true) : s.mg.xfer.status = 1 := by
  simp only [State.xferRuns, Bool.and_eq_true, decide_eq_true_eq] at h
  exact h.1.1

/-- What the end of a power-cycle leaves: the bus, the cages and what was sent, but for its report, its alert and the transfer. -/
theorem State.cycleEnds_leaves (s : State) (b : Nat) (byCg idle : Bool) :
    (s.cycleEnds b byCg idle).bus b = { s.bus b with cycle := none, out := !idle } ∧ (s.cycleEnds b byCg idle).start = s.start ∧
      ∀ o, s.Sent o → (s.cycleEnds b byCg idle).Sent o := by
  unfold State.cycleEnds
  extract_lets _ s1 s2 a
  have told : s2.Reports s1 := State.report_reports ..
  have bus : s2.bus b = { s.bus b with cycle := none, out := !idle } := (told.within.bus b).trans (s.bus_setBus ..)
  have start : s2.start = s.start := told.within.keeps State.start rfl
  have sent : ∀ o, s.Sent o → s2.Sent o := told.2.1
  have failed : ((s2.cgRecord 1 0x0C03 b (a * 2 ^ 8)).alert alertCg).Alerts s2 :=
    (State.alert_alerts ..).trans (State.report_reports ..).alerts
  have ended (v : State) (st : Nat) : (v.xferEnds b st).bus b = v.bus b ∧ (v.xferEnds b st).start = v.start ∧ (v.xferEnds b st).out = v.out :=
    ⟨State.xferEnds_keeps (State.bus · b) (fun _ _ => rfl) .., State.xferEnds_keeps State.start (fun _ _ => rfl) ..,
      State.xferEnds_keeps State.out (fun _ _ => rfl) ..⟩
  split
  · obtain ⟨bus', start', out⟩ := ended s2 6
    exact ⟨bus'.trans bus, start'.trans start, fun o ho => by simpa only [State.Sent, out] using sent o ho⟩
  · obtain ⟨bus', start', out⟩ := ended ((s2.cgRecord 1 0x0C03 b (a * 2 ^ 8)).alert alertCg) 8
    exact ⟨bus'.trans ((failed.bus b).trans bus), start'.trans ((failed.keeps State.start rfl).trans start),
      fun o ho => by simpa only [State.Sent, out] using failed.2 o (sent o ho)⟩

/-! ### Recovery of a bus (18 R613) -/

/-- The bus of an attempt to recover it: it is free, or the next attempt is due in 1 ms. -/
def State.recoveryBus (s : State) (b n : Nat) (freed : Bool) : CgBus :=
  { s.bus b with report := (onceIn (s.bus b).report s.ns).1, recovery := if freed then none else some (n + 1, s.ns + 1000000) }

/-- The state after an attempt to recover a bus, with its record when one may be written. -/
def State.recoveryTried (s : State) (b n : Nat) (freed : Bool) : State :=
  let tried := (s.say (.cgRecover b)).setBus b (s.recoveryBus b n freed)
  match (onceIn (s.bus b).report s.ns).2 with
  | some k => tried.cgRecord 2 0x0C01 b (n + 1 + b2n freed * 2 ^ 8 + k % 2 ^ 32 * 2 ^ 32)
  | none => tried

theorem State.recoveryTried_reports (s : State) (b n : Nat) (freed : Bool) :
    (s.recoveryTried b n freed).Reports ((s.say (.cgRecover b)).setBus b (s.recoveryBus b n freed)) := by
  unfold State.recoveryTried
  dsimp only
  split
  · exact State.report_reports ..
  · exact .refl _

theorem State.recoveryTried_bus (s : State) (b n : Nat) (freed : Bool) : (s.recoveryTried b n freed).bus b = s.recoveryBus b n freed :=
  ((s.recoveryTried_reports b n freed).within.bus b).trans (State.bus_setBus ..)

theorem State.recoveryTried_sent (s : State) (b n : Nat) (freed : Bool) : (s.recoveryTried b n freed).Sent (.cgRecover b) :=
  (s.recoveryTried_reports b n freed).2.1 _ List.mem_cons_self

/-- An attempt to recover a bus that is due, and what follows it. -/
theorem execCgRecovery_tries {b : Fin 17} {n at_ : Nat} (freed : Bool) (h : (s.bus b).recovery = some (n, at_))
    (due : at_ ≤ (s.elapse t).ns) :
    let v := (s.elapse t).recoveryTried b n freed
    exec (.cgRecovery t b freed) s = .next (if freed then v.xferEnds b 6 else if 3 ≤ n + 1 then v.hangCycle b else v) := by
  have h : ((s.elapse t).bus b).recovery = some (n, at_) := h
  simp only [exec, execCgRecovery, h, if_neg (not_lt.2 due)]
  rfl

theorem leVal_bus (b : Fin 17) : leVal ([BitVec.ofNat 8 b.val].take 1 : List Byte) = b.val := by decide +revert

/-- CG_CYCLE of a module that has power (18 R614). -/
theorem execCgCycle_cycles {b : Fin 17} (live : s.supply.live = true) (mode : s.mode ≠ .keep) (idle : (s.bus b).cycle = none)
    (power : s.start.cagePower.contains b.val = true) :
    exec (.cgCycle t (.write [BitVec.ofNat 8 b.val])) s = .next (((s.elapse t).mgSeen.xferEnds b 7).cycleBus b true) := by
  have up : ¬((s.elapse t).mgSeen.mode == .keep && !(s.elapse t).mgSeen.start.running) = true := by
    simp only [Bool.and_eq_true, beq_iff_eq, not_and]
    exact fun h => absurd h mode
  have fits : ¬(((s.elapse t).mgSeen.bus b).cycle.isSome || !(s.elapse t).mgSeen.start.cagePower.contains b.val) = true := by
    change ¬((s.bus b).cycle.isSome || !s.start.cagePower.contains b.val) = true
    rw [idle, power]
    decide
  have access := State.mgAccess_write (s := s.elapse t) live 0x22 [BitVec.ofNat 8 b.val] none 1 (mgTake (fun v => v ≤ 16) (fun v u =>
    if u.mode == .keep && !u.start.running then u.mgReject
    else if (u.bus v).cycle.isSome || !u.start.cagePower.contains v then u
    else (u.xferEnds v 7).cycleBus v true))
  refine congrArg Host.Outcome.next (access.trans ?_)
  rw [if_neg (by simp), if_pos (.inl rfl), mgTake, leVal_bus, if_pos (by simpa using Nat.le_of_lt_succ b.isLt)]
  rw [if_neg up, if_neg fits]

/-! ### The rows -/

/-- The rows of a transfer that runs, but for a hanging bus. -/
theorem transferRuns_ends (runs : (s.elapse t).xferRuns = true) :
    let s1 := s.elapse t
    let r := s.mg.xfer
    let xfer (y : CgXfer) : State := { s1 with mg := { s.mg with xfer := y } }
    (∀ data ok, data.length = r.rlen →
      exec (.cgXferComplete t (.done data ok)) s = .next (xfer { r with status := if r.pec && r.rlen != 0 && !ok then 9 else 2, data := data })) ∧
    exec (.cgXferComplete t .noAddress) s = .next (xfer { r with status := 3, data := [] }) ∧
    exec (.cgXferComplete t .noByte) s = .next (xfer { r with status := 4, data := [] }) ∧
    (r.tries < 8 → exec (.cgArbitrationRetry t) s = .next (xfer { r with tries := r.tries + 1 }).xferGo) ∧
    (8 ≤ r.tries → exec (.cgArbitrationRetry t) s = .next (xfer { r with status := 5 })) := by
  intro s1 r xfer
  have goes : ¬(!(s.elapse t).xferRuns) = true := by simp [runs]
  refine ⟨fun data ok all => (if_neg goes).trans (congrArg _ (if_pos all)), if_neg goes, if_neg goes, fun few => ?_, fun many => ?_⟩
  · exact (if_neg goes).trans (if_neg (not_le.2 few))
  · exact (if_neg goes).trans ((if_pos many).trans (congrArg _ (State.xferEnds_of_bus s1 5 (State.xferRuns_status runs))))

/-- The rows of a hanging bus. -/
theorem execCgHang_hangs (runs : (s.elapse t).xferRuns = true) (data : List Byte) :
    let s2 : State := { s.elapse t with mg := { s.mg with xfer := { s.mg.xfer with data := data.take s.mg.xfer.rlen } } }
    exec (.cgHang t false data) s = .next (s2.setBus s.mg.xfer.bus { s2.bus s.mg.xfer.bus with recovery := some (0, s2.ns) }) ∧
      exec (.cgHang t true data) s = .next (s2.hangCycle s.mg.xfer.bus) := by
  have goes : ¬(!(s.elapse t).xferRuns) = true := by simp [runs]
  exact ⟨if_neg goes, if_neg goes⟩

/-- The two steps of a power-cycle (18 R614). -/
theorem execModuleCycled_steps {b : Fin 17} {k at_ : Nat} {cg : Bool} (idle : Bool) (h : (s.bus b).cycle = some (k, at_, cg))
    (due : at_ ≤ (s.elapse t).ns) : exec (.moduleCycled t b idle) s = .next (
      let s1 := s.elapse t
      if k = 1 then ({ s1.setBus b { s1.bus b with cycle := some (2, at_ + 100000000, cg) } with
        start := { s.start with cagePower := b.val :: s.start.cagePower } } : State).say (.pin "CG_PWREN" b true)
      else (({ s1 with start := { s.start with cageReset := b.val :: s.start.cageReset } } : State).say (.pin "CG_RST#" b true)).cycleEnds b cg idle) := by
  have h : ((s.elapse t).bus b).cycle = some (k, at_, cg) := h
  simp only [exec, execModuleCycled, h, if_neg (not_lt.2 due)]
  split <;> rfl

theorem execHostNotify_tries {at_ : Nat} (x : NotifyEnd) (h : s.mg.notifying = some (0, at_)) (live : s.supply.live = true) :
    exec (.hostNotify t x) s = .next ((s.elapse t).notifyTry 0 x) := by
  have h : (s.elapse t).mg.notifying = some (0, at_) := h
  simp only [exec, execHostNotify, h]
  exact congrArg _ (if_pos live)

theorem execHostNotifyRetry_tries {n at_ : Nat} (x : NotifyEnd) (h : s.mg.notifying = some (n + 1, at_)) (live : s.supply.live = true)
    (due : at_ ≤ (s.elapse t).ns) : exec (.hostNotifyRetry t x) s = .next ((s.elapse t).notifyTry (n + 1) x) := by
  have h : (s.elapse t).mg.notifying = some (n + 1, at_) := h
  have may : ((s.elapse t).supply.live && decide (at_ ≤ (s.elapse t).ns)) = true := by
    simp only [Bool.and_eq_true, decide_eq_true_eq]
    exact ⟨live, due⟩
  simp only [exec, execHostNotifyRetry, h]
  exact congrArg _ (if_pos may)

/-- Settles O52: CG_XFER by its block, a transfer by how its bus ends it, recovery and power-cycles by their steps, and alerts by who answers
them. -/
theorem managementBusRows : Obligations.ManagementBusRows := by
  intro t s s1 r xfer
  refine ⟨fun l live low high idle len good mode inn cycle power => ?_, fun l live low high idle len bad => ?_, fun l live some wrong => ?_,
    fun runs => ?_, fun b n at_ h due => ⟨?_, fun few => ?_, fun many => ?_⟩, fun b live mode idle power => ?_,
    fun b at_ cg idle due => ⟨fun h => ?_, fun h => ?_⟩, fun live low won => ?_, fun at_ h live => ?_, fun n at_ h live due => ?_,
    fun v mode hot => ?_, fun due => congrArg Host.Outcome.next (if_pos due), fun live => ?_, rfl, fun mode live => ?_,
    fun mode clock late => ?_, fun sda scl live free held => ?_, fun live hung => ?_⟩
  · have goes := State.cgStart_goes (s := s1.mgSeen) good mode inn cycle power
    refine ⟨_, execCgXfer_taken live low high idle len, ?_, ?_⟩
    · rw [goes]
      rfl
    · rw [goes]
      exact List.mem_cons_self
  · exact (execCgXfer_taken live low high idle len).trans (congrArg _ (if_pos bad))
  · refine (execCgXfer_counted live some).trans (congrArg _ (if_pos ?_))
    simpa only [Bool.or_eq_true, decide_eq_true_eq, or_assoc] using wrong
  · obtain ⟨done, noAddress, noByte, again, last⟩ := transferRuns_ends runs
    refine ⟨done, noAddress, noByte, again, last, fun data => ?_, fun data => ?_⟩
    · refine ⟨_, (execCgHang_hangs runs data).1, ?_, rfl⟩
      exact congrArg CgBus.recovery (State.bus_setBus ..)
    · obtain ⟨cycle, recovery, alert, -⟩ := State.hangCycle_cycles
        { s1 with mg := { s.mg with xfer := { s.mg.xfer with data := data.take s.mg.xfer.rlen } } } s.mg.xfer.bus
      exact ⟨_, (execCgHang_hangs runs data).2, cycle, recovery, alert⟩
  · refine ⟨_, (execCgRecovery_tries true h due).trans (congrArg _ (if_pos rfl)), ?_, ?_⟩
    · exact (congrArg CgBus.recovery ((State.xferEnds_keeps (State.bus · b) (fun _ _ => rfl) ..).trans (s1.recoveryTried_bus b n true)))
    · have sent := s1.recoveryTried_sent b n true
      unfold State.Sent
      rw [State.xferEnds_keeps State.out (fun _ _ => rfl)]
      exact sent
  · refine ⟨_, (execCgRecovery_tries false h due).trans (congrArg _ ((if_neg (by decide)).trans (if_neg (by omega)))), ?_,
      s1.recoveryTried_sent b n false⟩
    exact congrArg CgBus.recovery (s1.recoveryTried_bus b n false)
  · obtain ⟨cycle, -, -, sent⟩ := (s1.recoveryTried b n false).hangCycle_cycles b
    exact ⟨_, (execCgRecovery_tries false h due).trans (congrArg _ ((if_neg (by decide)).trans (if_pos (by omega)))), cycle, sent⟩
  · obtain ⟨bus, cages, sent⟩ := (s1.mgSeen.xferEnds b 7).cycleBus_cycles b true
    refine ⟨_, execCgCycle_cycles live mode idle power, ?_, ?_, sent⟩
    · rw [bus, State.xferEnds_keeps State.ns (fun _ _ => rfl), State.xferEnds_keeps (fun u => u.mg.cycleMs) (fun _ _ => rfl)]
      rfl
    · rw [cages]
      simp
  · exact ⟨_, (execModuleCycled_steps idle h due).trans (congrArg _ (if_pos rfl)), congrArg CgBus.cycle (State.bus_setBus ..), rfl,
      List.mem_cons_self⟩
  · obtain ⟨bus, start, sent⟩ := State.cycleEnds_leaves
      (({ s1 with start := { s.start with cageReset := b.val :: s.start.cageReset } } : State).say (.pin "CG_RST#" b true)) b cg idle
    exact ⟨_, (execModuleCycled_steps idle h due).trans (congrArg _ (if_neg (by decide))), congrArg CgBus.cycle bus, congrArg CgBus.out bus,
      congrArg StartUp.cageReset start, sent _ List.mem_cons_self⟩
  · have answers : (s1.supply.live && s1.mg.alertLow) = true := by
      simp only [Bool.and_eq_true]
      exact ⟨live, low⟩
    refine ⟨_, if_pos answers, ?_⟩
    cases won with
    | false => exact ⟨low, List.mem_cons_self⟩
    | true =>
      rw [if_pos rfl, State.alertRelease_releases (s := s1) low]
      exact ⟨rfl, List.mem_cons_of_mem _ List.mem_cons_self⟩
  · obtain ⟨again, lost⟩ := s1.notifyTry_again (n := 0) (by decide)
    exact ⟨execHostNotify_tries _ h live, (execHostNotify_tries _ h live).trans (congrArg _ again),
      (execHostNotify_tries _ h live).trans (congrArg _ lost), execHostNotify_tries _ h live⟩
  · have tries (x : NotifyEnd) := execHostNotifyRetry_tries x h live due
    refine ⟨tries .acknowledged, fun few => ?_, fun many => ?_⟩
    · exact (tries .notAcknowledged).trans (congrArg _ (State.notifyTry_again (by omega) s1).1)
    · exact (tries .notAcknowledged).trans (congrArg _ (if_pos (by omega)))
  · refine ⟨_, congrArg Host.Outcome.next (if_pos ?_), s1.alert_stands alertThermal⟩
    simp only [Bool.and_eq_true, bne_iff_ne, decide_eq_true_eq]
    exact ⟨mode, hot⟩
  · exact congrArg Host.Outcome.next (if_pos (by
      simp only [Bool.and_eq_true]
      exact ⟨live, rfl⟩))
  · refine (congrArg Host.Outcome.next (if_pos ?_)).trans ?_
    · simp only [Bool.and_eq_true, beq_iff_eq]
      exact ⟨mode, live⟩
    · have clock : (s.mg.clock || s.mode == .keep) = true := by simp [mode]
      unfold State.mgSeen
      rw [show (s1.mg.clock || s1.mode == .keep) = true from clock]
      rfl
  · refine congrArg Host.Outcome.next (if_pos ?_)
    simp only [Bool.and_eq_true, beq_iff_eq, decide_eq_true_eq]
    exact ⟨⟨mode, clock⟩, late⟩
  · have told := s1.reportPorts_reports s1.inService 1 0x0C04 islandEmber 17 (b2n sda + 2 * b2n scl + 2 ^ 8)
    refine ⟨_, (if_neg ?_).trans ((if_pos held).trans (if_neg ?_)), ?_, ?_, State.alertDrop_low _⟩
    · change ¬(!s.supply.live) = true
      simp [live]
    · change ¬s.mg.hung.isSome = true
      simp [free]
    · exact State.alertDrop_keeps (fun u => u.mg.hung) fun _ _ _ => rfl
    · exact State.alertDrop_keeps (fun u => u.mg.notifying) fun _ _ _ => rfl
  · refine ⟨_, (if_neg ?_).trans ((if_neg (by decide)).trans (if_pos hung)), rfl⟩
    change ¬(!s.supply.live) = true
    simp [live]

end Sys2Proof.Machine
end

section
/-!
SPARE_MANAGE and PATROL_CONFIG (15 R516, R518, R523).
-/

namespace Sys2Proof.Machine

variable {s u v w : State} {c : RingCmd} {pool n k : Nat}

/-! ### What spares report and their ports -/

theorem Checks.ledger_of_first {x : Checks} {p op : Nat} {e : Entry} (h : x.first s p op e = none) : x.ledger = none :=
  firstSome_none h _ (by simp)

theorem State.aerCorrectable_answers (s : State) (p bit : Nat) : (s.aerCorrectable p bit).Answers s := by
  have logged := s.modPort_answers p (f := fun x => { x with aerCor := setBit x.aerCor bit }) (fun _ => rfl) fun _ => rfl
  exact .ite logged ((State.say_reports ..).answers.trans logged)

theorem State.correctedInternal_answers (s : State) : s.correctedInternal.Answers s :=
  .foldl (fun _ _ => State.aerCorrectable_answers ..) _ s

theorem State.spareReport_answers (s : State) (pool n old new kind words inst : Nat) (last : Bool) :
    (s.spareReport pool n old new kind words inst last).Answers s := by
  unfold State.spareReport
  extract_lets d s1 s2
  have told : s2.Answers s :=
    (State.correctedInternal_answers _).trans ((State.spareRecord_reports ..).answers.trans (State.journal_reports ..).answers)
  exact .ite ((State.spareRecord_reports ..).answers.trans told) told

theorem State.spareDone_answers (s : State) (pool n old new kind words : Nat) : (s.spareDone pool n old new kind words).Answers s :=
  (State.spareReport_answers ..).trans (State.answers_of_ports rfl rfl)

/-- A spare in service moves the health of its pool, beside reporting. -/
theorem State.spareDone_within (s : State) (pool n old new kind words : Nat) :
    ∃ h, (s.spareDone pool n old new kind words).Within { s with health := h } := ⟨_, State.spareReport_within ..⟩

theorem State.patrolCheck_answers (s : State) : s.patrolCheck.Answers s := by
  obtain ⟨p, h⟩ := s.patrolCheck_reports
  exact h.answers.trans (State.answers_of_ports rfl rfl)

/-! ### A planned spare-in of a slice (15 R511) -/

theorem State.sconceMovesTo_answers (s : State) (q : SparePlan) (k : Nat) : (s.sconceMovesTo q k).Answers s := by
  unfold State.sconceMovesTo
  extract_lets q1 s1 plans
  split
  · exact (State.spareDone_answers ..).trans (State.answers_of_ports rfl rfl)
  · exact State.answers_of_ports rfl rfl

/-- A sconce that moves carries SPARE_IN from its next frame on; no other sconce differs. -/
theorem State.sconceMovesTo_sconces (s : State) (q : SparePlan) (k : Nat) :
    (s.sconceMovesTo q k).sconces = (s.modSconce k (fun x => { x with spareIn := true })).sconces := by
  unfold State.sconceMovesTo
  extract_lets q1 s1 plans
  split
  · obtain ⟨h, done⟩ := State.spareDone_within { s1 with plans := s1.plans.filter (fun p => !(p == q)) } poolSlices q.logical q.old q.new_ q.kind 0
    exact done.sconces
  · rfl

/-- A sconce of a planned slice moves when it has no open frame. -/
def State.movesIdle (s : State) (pool n k : Nat) : State :=
  match s.planOf pool n with
  | some p => if (s.sconce k).openFrame.isNone then s.sconceMovesTo p k else s
  | none => s

theorem State.movesIdle_answers (s : State) (pool n k : Nat) : (s.movesIdle pool n k).Answers s := by
  unfold State.movesIdle
  split
  · exact .ite (State.sconceMovesTo_answers ..) (.refl s)
  · exact .refl s

/-- Moving leaves open frames as they are, and takes back no SPARE_IN. -/
theorem State.movesIdle_sconce (s : State) (pool n k j : Nat) : ((s.movesIdle pool n k).sconce j).openFrame = (s.sconce j).openFrame ∧
    ((s.sconce j).spareIn = true → ((s.movesIdle pool n k).sconce j).spareIn = true) := by
  have moved (p : SparePlan) : (s.sconceMovesTo p k).sconce j = (s.modSconce k (fun x => { x with spareIn := true })).sconce j :=
    congrArg (tabGet Sconce.reset · j) (s.sconceMovesTo_sconces p k)
  unfold State.movesIdle
  split
  · split
    · rw [moved]
      by_cases hj : j = k
      · subst hj
        simp only [State.modSconce, State.sconce_setSconce]
        exact ⟨rfl, fun _ => trivial⟩
      · simp only [State.modSconce, State.sconce_setSconce_other _ _ hj]
        exact ⟨trivial, id⟩
    · exact ⟨rfl, id⟩
  · exact ⟨rfl, id⟩

section
variable {p : SparePlan} (plan : s.planOf pool n = some p)
include plan

theorem State.movesIdle_moves (idle : (s.sconce k).openFrame = none) : ((s.movesIdle pool n k).sconce k).spareIn = true := by
  have moved : ((s.sconceMovesTo p k).sconce k).spareIn = true := by
    rw [State.sconce, s.sconceMovesTo_sconces p k]
    exact congrArg Sconce.spareIn (State.sconce_setSconce ..)
  simp only [State.movesIdle, plan, idle, Option.isNone_none, if_true]
  exact moved

/-- The plan stands, with one more sconce moved, until all eight have. -/
theorem State.movesIdle_planOf (room : p.moved.length + 1 < 8) :
    ∃ q, (s.movesIdle pool n k).planOf pool n = some q ∧ q.moved.length ≤ p.moved.length + 1 := by
  simp only [State.movesIdle, plan]
  split
  · have counted : ¬8 ≤ (k :: p.moved).length := by simp only [List.length_cons]; omega
    have found : s.plans.find? (fun q => q.pool = pool && q.logical = n) = some p := plan
    have same (q : SparePlan) : (if q == p then { p with moved := k :: p.moved } else q).pool = q.pool ∧
        (if q == p then { p with moved := k :: p.moved } else q).logical = q.logical := by
      split
      · next h => rw [eq_of_beq h]; exact ⟨rfl, rfl⟩
      · exact ⟨rfl, rfl⟩
    refine ⟨{ p with moved := k :: p.moved }, ?_, le_rfl⟩
    unfold State.sconceMovesTo
    dsimp only
    rw [if_neg counted]
    simp only [State.planOf, State.modSconce, State.setSconce, List.find?_map, Function.comp_def, (same _).1, (same _).2, found]
    simp
  · exact ⟨p, plan, by omega⟩

end

/-- The sconces of a planned slice that have no open frame move at once (15 R511). -/
theorem State.movesIdle_all {l : List Nat} {p : SparePlan} (plan : s.planOf pool n = some p) (room : p.moved.length + l.length ≤ 8)
    (h : k ∈ l) (idle : (s.sconce k).openFrame = none) : ((l.foldl (State.movesIdle · pool n) s).sconce k).spareIn = true := by
  induction l generalizing s p with
  | nil => exact absurd h List.not_mem_nil
  | cons j l ih =>
    rw [List.length_cons] at room
    rcases List.mem_cons.1 h with rfl | h
    · exact List.foldlRecOn (motive := fun t : State => (t.sconce k).spareIn = true) l (State.movesIdle · pool n) (State.movesIdle_moves plan idle)
        fun t ht j _ => (t.movesIdle_sconce pool n j k).2 ht
    · have some := List.length_pos_of_mem h
      obtain ⟨q, next, counted⟩ := State.movesIdle_planOf (k := j) plan (by omega)
      exact ih next (by omega) h (((s.movesIdle_sconce pool n j k).1).trans idle)

/-- The plan of a spare-in that starts now. -/
def State.planned (s : State) (pool n old new kind : Nat) : SparePlan :=
  { pool := pool, logical := n, old := old, new_ := new, commit := s.dt, moved := [], copied := false, kind := kind }

theorem State.startPlan_eq (s : State) (pool n old new kind : Nat) : s.startPlan pool n old new kind =
    (if pool = poolSlices then ((List.range 8).map (fun j => 8 * n + j)).foldl (State.movesIdle · pool n)
        { s with plans := s.plans ++ [s.planned pool n old new kind] }
      else { s with plans := s.plans ++ [s.planned pool n old new kind] }).patrolCheck := rfl

theorem State.startPlan_answers (s : State) (pool n old new kind : Nat) : (s.startPlan pool n old new kind).Answers s := by
  rw [State.startPlan_eq]
  refine (State.patrolCheck_answers _).trans ?_
  split
  · exact (State.Answers.foldl (fun _ _ => State.movesIdle_answers ..) _ _).trans (State.answers_of_ports rfl rfl)
  · exact State.answers_of_ports rfl rfl

/-- A planned spare-in of another pool waits for its switch. -/
theorem State.startPlan_waits (s : State) (old new kind : Nat) (h : pool ≠ poolSlices) :
    ∃ p, (s.startPlan pool n old new kind).Reports { s with plans := s.plans ++ [s.planned pool n old new kind], patrol := p } := by
  rw [State.startPlan_eq, if_neg h]
  exact State.patrolCheck_reports _

theorem State.planOf_planned (old new kind : Nat) (free : s.planOf pool n = none) :
    State.planOf { s with plans := s.plans ++ [s.planned pool n old new kind] } pool n = some (s.planned pool n old new kind) := by
  have free : s.plans.find? (fun q => q.pool = pool && q.logical = n) = none := free
  simp [State.planOf, List.find?_append, free, State.planned]

/-- A change of the patrol's state leaves the sconces. -/
theorem State.patrolCheck_sconce (s : State) (k : Nat) : s.patrolCheck.sconce k = s.sconce k := by
  obtain ⟨p, checked⟩ := s.patrolCheck_reports
  exact checked.within.sconce k

theorem State.startPlan_moves (old new kind : Nat) (free : s.planOf poolSlices n = none) (slice : k / 8 = n)
    (idle : (s.sconce k).openFrame = none) : ((s.startPlan poolSlices n old new kind).sconce k).spareIn = true := by
  have listed : k ∈ (List.range 8).map (fun j => 8 * n + j) := List.mem_map.2 ⟨k % 8, List.mem_range.2 (by omega), by omega⟩
  have eight : ((List.range 8).map (fun j => 8 * n + j)).length = 8 := by rw [List.length_map, List.length_range]
  rw [State.startPlan_eq, if_pos rfl, State.patrolCheck_sconce]
  generalize (List.range 8).map (fun j => 8 * n + j) = l at listed eight
  exact State.movesIdle_all (State.planOf_planned old new kind free) (by rw [eight]; rfl) listed idle

/-! ### Supervisors as a pool (15 R524, R525) -/

/-- The pair freezes: the live cores stop, and a PTP source is lost meanwhile. -/
theorem State.freezePair_reports (s : State) : ∃ b r, s.freezePair.Reports { s with
    sup := { s.sup with frozen := s.sup.live, live := [], resumeBy := some (s.ns + 50000) }, tb := b, rateAdj := r } := by
  have lost : s.timeHoldover.Reports { s with tb := s.timeHoldover.tb, rateAdj := s.timeHoldover.rateAdj } := s.timeHoldover_onTime
  exact ⟨_, s.timeHoldover.rateAdj, lost.map (fun t : State => { t with
    sup := { s.sup with frozen := s.sup.live, live := [], resumeBy := some (s.ns + 50000) }
    tb := { t.tb with tpUp := s.tb.tpUp } }) fun _ _ _ _ _ _ => rfl⟩

/-- A core of the pair goes out where a standby takes over. -/
theorem State.coreOut_reports (s : State) (n kind : Nat) (cmd : Option (Nat × Nat)) : s.coreOut n kind cmd = s ∧ s.sup.standby = none ∨
    ∃ l b r, (s.coreOut n kind cmd).Reports { s with
      takeOvers := l, sup := { s.sup with frozen := s.sup.live, live := [], resumeBy := some (s.ns + 50000) }, tb := b, rateAdj := r } := by
  unfold State.coreOut
  split
  · next h => exact .inl ⟨rfl, h⟩
  · exact .inr ⟨_, State.freezePair_reports _⟩

theorem State.coreOut_answers (s : State) (n kind : Nat) (cmd : Option (Nat × Nat)) : (s.coreOut n kind cmd).Answers s := by
  obtain ⟨h, -⟩ | ⟨_, _, _, h⟩ := s.coreOut_reports n kind cmd
  · rw [h]
    exact .refl s
  · exact h.answers.trans (State.answers_of_ports rfl rfl)

theorem State.coreOut_clock (s : State) (n kind : Nat) (cmd : Option (Nat × Nat)) :
    (s.coreOut n kind cmd).ns = s.ns ∧ (s.coreOut n kind cmd).dt = s.dt := by
  obtain ⟨h, -⟩ | ⟨_, _, _, h⟩ := s.coreOut_reports n kind cmd
  · rw [h]
    exact ⟨rfl, rfl⟩
  · exact ⟨h.ns, h.dt⟩

/-- The pair that a core has left waits for its standby. -/
theorem State.coreOut_sup (n kind : Nat) (cmd : Option (Nat × Nat)) (h : s.sup.standby ≠ none) :
    (s.coreOut n kind cmd).sup = { s.sup with frozen := s.sup.live, live := [], resumeBy := some (s.ns + 50000) } := by
  obtain ⟨-, absent⟩ | ⟨_, _, _, out⟩ := s.coreOut_reports n kind cmd
  · exact absurd absent h
  · exact out.within.keeps State.sup rfl

/-! ### Hard faults of pools 0x01 to 0x04 (15 R509, R512) -/

theorem State.strikeLantern_ember (s : State) (n : Nat) (all : Bool) : (s.strikeLantern n all).ember = s.ember := by
  unfold State.strikeLantern
  extract_lets x ms s1
  have struck : s1.ember = s.ember := State.foldl_ember (fun _ _ => State.modSconce_ember ..) ms (s.setLantern n x.struck)
  split
  · exact struck
  · exact (State.sconceMoves_ember ..).trans struck

theorem State.strikeUnit_ember (s : State) (pool n : Nat) (moved : List Nat) (due : Nat) : (s.strikeUnit pool n moved due).ember = s.ember := by
  unfold State.strikeUnit
  split
  · exact (State.foldl_ember (fun _ _ => State.flagOpen_ember ..) _ _).trans (State.modLane_onLane ..).ember
  · split
    · exact State.foldl_ember (fun _ _ => State.flagOpen_ember ..) _ _
    · split
      · exact State.strikeLantern_ember ..
      · rfl

/-- The spare for a logical unit: that of its planned spare-in, or the lowest free one (15 R509). -/
def State.spareFor (s : State) (pool n : Nat) : Option Nat :=
  match s.planOf pool n with
  | some q => some q.new_
  | none => (s.freeSpares pool n).head?

/-- A unit fails and a spare takes over: what the fault strikes is of the data path. -/
theorem State.failUnit_takes (s : State) (pool n k kind : Nat) (cmd : Option (Nat × Nat)) {j : Nat} (h : s.spareFor pool n = some j) :
    ∃ w : State, w.ns = s.ns ∧ w.dt = s.dt ∧ ∃ q ∈ w.takeOvers, q.pool = pool ∧ q.logical = n ∧ q.old = k ∧ q.new_ = j ∧ q.kind = kind ∧
      q.cmd = cmd ∧ s.failUnit pool n k kind cmd = w.patrolCheck := by
  unfold State.failUnit
  extract_lets plan spare moved due s0 _ s1
  have found : spare = some j := h
  have struck : s1.ember = (s0.setPhys pool k { s0.phys pool k with st := 4, logical := none }).ember := State.strikeUnit_ember ..
  have ticks : s1.ticks = s.ticks := (State.ember_ticks struck).trans rfl
  have time : s1.time = s.time := (State.ember_time struck).trans rfl
  let q : TakeOver := { pool := pool, logical := n, old := k, new_ := j, kind := kind, due := due, cmd := cmd }
  refine ⟨{ s1 with takeOvers := s1.takeOvers ++ [q] }, congrArg (2 * ·) ticks, congrArg (· / 2 ^ 32 % 2 ^ 64) time, q,
    List.mem_append_right _ List.mem_cons_self, rfl, rfl, rfl, rfl, rfl, rfl, ?_⟩
  rw [found]

/-! ### What the checks leave (15 R518) -/

section
variable (h : v.Reports s)
include h

theorem State.Reports.smFree (pool n : Nat) : v.smFree pool n = s.smFree pool n := by obtain ⟨⟨_, _, _, _, _, rfl⟩, -⟩ := h; rfl
theorem State.Reports.planOf (pool n : Nat) : v.planOf pool n = s.planOf pool n := by obtain ⟨⟨_, _, _, _, _, rfl⟩, -⟩ := h; rfl
theorem State.Reports.spareFor (pool n : Nat) : v.spareFor pool n = s.spareFor pool n := by obtain ⟨⟨_, _, _, _, _, rfl⟩, -⟩ := h; rfl
theorem State.Reports.partsFree (pool n : Nat) : v.partsFree pool n = s.partsFree pool n := by obtain ⟨⟨_, _, _, _, _, rfl⟩, -⟩ := h; rfl

end

/-- A PLAN that runs finds a free spare, and no plan for its unit. -/
theorem sparePlan_accepted (h : s.Accepts c 0x49 (sparePlanChecks c)) :
    s.smFree (smPool c.e) (smUnit c.e) ≠ [] ∧ s.planOf (smPool c.e) (smUnit c.e) = none := by
  have fetched := s.fetched_reports c
  have free := Checks.ledger_of_first h.2
  have state := Checks.state_of_first h.2
  simp only [sparePlanChecks, fetched.smFree, fetched.planOf] at free state
  constructor
  · intro empty
    rw [empty] at free
    exact absurd free nofun
  · by_contra planned
    have planned := Option.isSome_iff_ne_none.2 planned
    rw [planned, Bool.or_true, if_pos rfl] at state
    split at state <;> exact absurd state nofun

/-- A FORCE that runs finds a free spare, or a plan for its unit. -/
theorem spareForce_accepted (h : s.Accepts c 0x49 (spareForceChecks c)) (other : smPool c.e ≠ poolSup) :
    ∃ j, s.spareFor (smPool c.e) (smUnit c.e) = some j := by
  have fetched := s.fetched_reports c
  have free := Checks.ledger_of_first h.2
  simp only [spareForceChecks, fetched.smFree, fetched.planOf] at free
  rw [State.smFree, if_neg other] at free
  unfold State.spareFor
  split
  · exact ⟨_, rfl⟩
  · next unplanned =>
    cases spares : s.freeSpares (smPool c.e) (smUnit c.e) with
    | nil =>
      rw [spares, unplanned] at free
      exact absurd free nofun
    | cons j l => exact ⟨j, rfl⟩

/-! ### PLAN, FORCE and RETIRE (15 R518) -/

theorem sparePlanEffect_answers (c : RingCmd) (v : State) : (sparePlanEffect c v).2 = .ok ∧ (sparePlanEffect c v).1.Answers v := by
  unfold sparePlanEffect
  dsimp only
  split
  · exact ⟨rfl, State.coreOut_answers ..⟩
  · exact ⟨rfl, State.startPlan_answers ..⟩

/-- What FORCE does, but for the number that it takes. -/
theorem spareForceEffect_waits (c : RingCmd) {v : State} (h : smPool c.e ≠ poolSup → ∃ j, v.spareFor (smPool c.e) (smUnit c.e) = some j) :
    (spareForceEffect c v).2 = .waits v.fresh ∧ (spareForceEffect c v).1.ns = v.ns ∧ (spareForceEffect c v).1.dt = v.dt ∧
      (smPool c.e ≠ poolSup → ∃ q ∈ (spareForceEffect c v).1.takeOvers, q.pool = smPool c.e ∧ q.logical = smUnit c.e ∧ q.kind = 2 ∧
        q.cmd = some (ringId c.p c.i, v.fresh)) := by
  unfold spareForceEffect
  dsimp only
  by_cases sup : smPool c.e = poolSup
  · obtain ⟨ns, dt⟩ := v.freshen.coreOut_clock (smUnit c.e) 2 (some (ringId c.p c.i, v.fresh))
    rw [if_pos sup]
    exact ⟨rfl, ns, dt, fun other => absurd sup other⟩
  · obtain ⟨j, spare⟩ := h sup
    obtain ⟨w, ns, dt, q, taken, hpool, hlogical, -, -, hkind, hcmd, fails⟩ := v.freshen.failUnit_takes (smPool c.e) (smUnit c.e)
      ((v.freshen.physOf (smPool c.e) (smUnit c.e)).getD 0) 2 (some (ringId c.p c.i, v.fresh)) (j := j) spare
    obtain ⟨p, checked⟩ := w.patrolCheck_reports
    have takeOvers : w.patrolCheck.takeOvers = w.takeOvers := checked.within.keeps State.takeOvers rfl
    rw [if_neg sup, fails]
    exact ⟨rfl, checked.ns.trans ns, checked.dt.trans dt, fun _ => ⟨q, takeOvers ▸ taken, hpool, hlogical, hkind, hcmd⟩⟩

/-- The state from which RETIRE has taken its spare. -/
def State.retired (s : State) (c : RingCmd) : State :=
  if smPool c.e = poolSup && s.sup.standby != some (smUnit c.e) then s else s.retireSpare (smPool c.e) (smUnit c.e)

theorem State.retireSpare_eq (s : State) (pool k : Nat) : ∃ x h, s.retireSpare pool k = { s with sup := x, health := h } := by
  have same : ∃ x h, s = { s with sup := x, health := h } := ⟨_, _, rfl⟩
  have unit (y : Phys) : ∃ x h, s.setPhys pool k y = { s with sup := x, health := h } := ⟨_, _, rfl⟩
  unfold State.retireSpare
  dsimp only
  split
  · exact ⟨_, _, rfl⟩
  · split
    · split
      · exact unit _
      · exact same
    · split
      · exact same
      · split
        · split
          · exact unit _
          · exact same
        · exact unit _

theorem State.retired_eq (s : State) (c : RingCmd) : ∃ x h, s.retired c = { s with sup := x, health := h } := by
  unfold State.retired
  split
  · exact ⟨_, _, rfl⟩
  · exact State.retireSpare_eq ..

/-- A free spare of pools 0x01 to 0x04 leaves its pool for good. -/
theorem State.retireSpare_unit (low : pool ≤ 4) (free : (s.phys pool k).st = 1) : ((s.retireSpare pool k).phys pool k).st = 3 := by
  unfold State.retireSpare
  rw [if_neg (by unfold poolSup; omega)]
  dsimp only
  rw [if_pos low, if_pos free, State.phys_setPhys]

/-- A part's spare is used up. -/
theorem State.retireSpare_part (high : 4 < pool) (sup : pool ≠ poolSup) (lane : pool ≠ poolDataLanes) (free : s.partsFree pool k ≠ 0) :
    ((s.retireSpare pool k).phys pool k).used = (s.phys pool k).used + 1 := by
  unfold State.retireSpare
  rw [if_neg sup]
  dsimp only
  rw [if_neg (by omega), if_neg free, if_neg lane, State.phys_setPhys]

/-- PLAN of another pool than that of the supervisors. -/
theorem sparePlanEffect_plans {v : State} (other : smPool c.e ≠ poolSup) : (sparePlanEffect c v).1 =
    v.startPlan (smPool c.e) (smUnit c.e) ((v.physOf (smPool c.e) (smUnit c.e)).getD 0)
      (if smSpare c.e = 0xFFFF then (v.smFree (smPool c.e) (smUnit c.e)).headD 0 else smSpare c.e) 0 :=
  congrArg Prod.fst (if_neg other)

theorem sparePlanEffect_sup {v : State} (same : smPool c.e = poolSup) : (sparePlanEffect c v).1 = v.coreOut (smUnit c.e) 0 none :=
  congrArg Prod.fst (if_pos same)

theorem spareForceEffect_sup {v : State} (same : smPool c.e = poolSup) :
    (spareForceEffect c v).1 = v.freshen.coreOut (smUnit c.e) 2 (some (ringId c.p c.i, v.fresh)) := if_pos same

/-- The plan of a PLAN that runs. -/
def State.planOfCommand (s : State) (c : RingCmd) : SparePlan :=
  s.planned (smPool c.e) (smUnit c.e) ((s.physOf (smPool c.e) (smUnit c.e)).getD 0)
    (if smSpare c.e = 0xFFFF then (s.smFree (smPool c.e) (smUnit c.e)).headD 0 else smSpare c.e) 0

/-- PLAN of a wick, a Lantern or an encoder: its plan waits for the switch. -/
theorem sparePlan_waits (hv : v.Reports s) (told : u.Reports (sparePlanEffect c v).1) (sup : smPool c.e ≠ poolSup)
    (other : smPool c.e ≠ poolSlices) :
    u.plans = s.plans ++ [s.planOfCommand c] ∧ u.Reports { s with plans := u.plans, patrol := u.patrol } := by
  rw [sparePlanEffect_plans sup] at told
  obtain ⟨p, waits⟩ := v.startPlan_waits ((v.physOf (smPool c.e) (smUnit c.e)).getD 0)
    (if smSpare c.e = 0xFFFF then (v.smFree (smPool c.e) (smUnit c.e)).headD 0 else smSpare c.e) 0 other
  have beside := told.trans (waits.trans (hv.map (fun t : State => { t with plans := t.plans ++ [t.planOfCommand c], patrol := p })
    fun _ _ _ _ _ _ => rfl))
  have plans : u.plans = s.plans ++ [s.planOfCommand c] := beside.within.keeps State.plans rfl
  have patrol : u.patrol = p := beside.within.keeps State.patrol rfl
  refine ⟨plans, ?_⟩
  rw [plans, patrol]
  exact beside

/-- PLAN of a slice: its sconces without an open frame move at once. -/
theorem sparePlan_moves (hv : v.Reports s) (told : u.Reports (sparePlanEffect c v).1) (slice : smPool c.e = poolSlices)
    (unplanned : s.planOf (smPool c.e) (smUnit c.e) = none) (hk : k / 8 = smUnit c.e) (idle : (s.sconce k).openFrame = none) :
    (u.sconce k).spareIn = true := by
  rw [sparePlanEffect_plans (by rw [slice]; decide), slice] at told
  generalize (v.physOf poolSlices (smUnit c.e)).getD 0 = old at told
  generalize (if smSpare c.e = 0xFFFF then (v.smFree poolSlices (smUnit c.e)).headD 0 else smSpare c.e) = new at told
  rw [slice, ← hv.planOf] at unplanned
  rw [← hv.within.sconce] at idle
  exact (congrArg Sconce.spareIn (told.within.sconce k)).trans (State.startPlan_moves old new 0 unplanned hk idle)

/-- A pair whose core goes out freezes. -/
theorem coreOut_freezes {n kind : Nat} {cmd : Option (Nat × Nat)} (told : u.Reports (v.coreOut n kind cmd)) (sup : v.sup = s.sup)
    (ns : v.ns = s.ns) (standby : s.sup.standby ≠ none) :
    u.sup.live = [] ∧ u.sup.frozen = s.sup.live ∧ u.sup.resumeBy = some (s.ns + 50000) := by
  have frozen := (told.within.keeps State.sup rfl).trans (State.coreOut_sup n kind cmd (by rw [sup]; exact standby))
  rw [sup, ns] at frozen
  exact ⟨congrArg Supervisors.live frozen, congrArg Supervisors.frozen frozen, congrArg Supervisors.resumeBy frozen⟩

/-- RETIRE, with the patrol's state after it. -/
theorem spareRetire_runs (h : s.Accepts c 0x49 (spareRetireChecks c)) :
    ∃ u, s.command c 0x49 (spareRetireChecks c) (spareRetireEffect c) = .next u ∧
      (∃ (v : State) (p : Patrol), v.Reports s ∧ u.Reports { v.retired c with patrol := p }) ∧ u.Completed s c .success :=
  State.command_succeeds h fun v hv => by
    obtain ⟨p, checked⟩ := (v.retired c).patrolCheck_reports
    obtain ⟨_, _, retired⟩ := v.retired_eq c
    refine ⟨rfl, ((v.retired c).patrolCheck_answers).trans ?_, fun u hu => ⟨v, p, hv, hu.trans checked⟩⟩
    rw [retired]
    exact State.answers_of_ports rfl rfl

/-- RETIRE touches the supervisors, the health values and the patrol. -/
theorem State.retired_beside {p : Patrol} (hv : v.Reports s) (told : u.Reports { v.retired c with patrol := p }) :
    u.Reports { s with health := u.health, sup := u.sup, patrol := u.patrol } := by
  obtain ⟨x, y, retired⟩ := v.retired_eq c
  rw [retired] at told
  have beside := told.trans (hv.map (fun t : State => { t with sup := x, health := y, patrol := p }) fun _ _ _ _ _ _ => rfl)
  have health : u.health = y := beside.within.keeps State.health rfl
  have sup : u.sup = x := beside.within.keeps State.sup rfl
  have patrol : u.patrol = p := beside.within.keeps State.patrol rfl
  rw [health, sup, patrol]
  exact beside

/-- Settles O44: PLAN by the pool, FORCE by the spare that its checks find, RETIRE by the spare that goes; POLICY and PATROL_CONFIG set their
fields. -/
theorem spareCommandsRun : Obligations.SpareCommandsRun := by
  refine ⟨?_, ?_, ?_, ?_, ?_⟩
  · intro t c s0 s pool n h
    obtain ⟨free, unplanned⟩ := sparePlan_accepted h
    obtain ⟨u, hu, ⟨v, hv, told⟩, done⟩ := State.command_succeeds (P := fun u => ∃ v : State, v.Reports s ∧ u.Reports (sparePlanEffect c v).1) h
      fun v hv => ⟨(sparePlanEffect_answers c v).1, (sparePlanEffect_answers c v).2, fun u hu => ⟨v, hv, hu⟩⟩
    refine ⟨u, hu, fun low other => ?_, fun slice k hk idle => sparePlan_moves hv told slice unplanned hk idle, fun sup => ?_, done⟩
    · obtain ⟨plans, beside⟩ := sparePlan_waits hv told (by unfold poolSup; omega) other
      exact ⟨_, plans, rfl, rfl, rfl, rfl, beside⟩
    · rw [sparePlanEffect_sup sup] at told
      refine coreOut_freezes told (hv.within.keeps State.sup rfl) hv.ns fun absent => free ?_
      rw [State.smFree, if_pos sup, absent]
      rfl
  · intro t c s0 s pool h
    have spare {v : State} (hv : v.Reports s) (other : smPool c.e ≠ poolSup) : ∃ j, v.spareFor (smPool c.e) (smUnit c.e) = some j := by
      rw [hv.spareFor]
      exact spareForce_accepted h other
    obtain ⟨u, hu, ⟨v, hv, told⟩, waits⟩ := State.command_waits_for (a := s.fresh) (eff := spareForceEffect c)
      (P := fun u => ∃ v : State, v.Reports s ∧ u.Reports (spareForceEffect c v).1) h fun v hv => by
        obtain ⟨number, ns, dt, -⟩ := spareForceEffect_waits c (spare hv)
        exact ⟨number.trans (congrArg Done.waits hv.fresh), ns.trans hv.ns, dt.trans hv.dt, fun u hu => ⟨v, hv, hu⟩⟩
    refine ⟨u, hu, waits, fun low => ?_, fun sup standby => ?_⟩
    · obtain ⟨-, -, -, takes⟩ := spareForceEffect_waits c (spare hv)
      obtain ⟨q, taken, hpool, hlogical, hkind, hcmd⟩ := takes (by unfold poolSup; omega)
      refine ⟨q, ?_, hpool, hlogical, hkind, hv.fresh ▸ hcmd⟩
      rw [told.within.keeps State.takeOvers rfl]
      exact taken
    · rw [spareForceEffect_sup sup] at told
      exact coreOut_freezes told (hv.within.keeps State.sup rfl) hv.ns (Option.isSome_iff_ne_none.1 standby)
  · intro t c s0 s pool h
    obtain ⟨u, hu, ⟨v, p, hv, told⟩, done⟩ := spareRetire_runs h
    have health : u.health = (v.retired c).health := told.within.keeps State.health rfl
    have sup : u.sup = (v.retired c).sup := told.within.keeps State.sup rfl
    have taken (other : pool ≠ poolSup) : v.retired c = v.retireSpare pool (smUnit c.e) := if_neg (by simp [pool, other])
    refine ⟨u, hu, fun low free => ?_, fun same standby => ?_, fun high other lane free => ?_, State.retired_beside hv told, done⟩
    · rw [State.phys_of_health health, taken (by unfold poolSup; omega)]
      exact State.retireSpare_unit low (by rw [hv.within.phys]; exact free)
    · have stands : v.sup.standby = some (smUnit c.e) := (congrArg Supervisors.standby (hv.within.keeps State.sup rfl)).trans standby
      have goes : v.retired c = v.retireSpare pool (smUnit c.e) := if_neg (by simp [stands])
      rw [sup, goes, State.retireSpare, if_pos same]
    · rw [State.phys_of_health health, taken other, ← hv.within.phys]
      exact State.retireSpare_part high other lane (by rw [hv.partsFree]; exact free)
  · intro t c s0 s auto wear h
    exact command_sets (eff := sparePolicyEffect c) (fun v => { v with health := { v.health with
      auto := tabPut v.health.auto (smPool c.e) (bitAt c.e 0xE 0), wear := tabPut v.health.wear (smPool c.e) (fld c.e 0x10 4) } }) h
      (fun v => ⟨.refl _, rfl⟩) (fun _ _ _ _ _ _ => rfl) rfl rfl
  · intro t c s0 s h
    exact command_sets (eff := patrolConfigEffect c) (fun v => { v with health := { v.health with
      patrolOn := bitAt c.e 8 0, patrolGap := fld c.e 0xC 4 } }) h (fun v => ⟨.refl _, rfl⟩) (fun _ _ _ _ _ _ => rfl) rfl rfl

end Sys2Proof.Machine
end

section
/-!
HARD_FAULT and the other rows of faults and spares (15 R509 to R516, R520, R521).
-/

namespace Sys2Proof.Machine

variable {s u : State} {t pool unit part n : Nat}

/-! ### Hard faults and corrected errors (15 R509, R515, R516) -/

section
variable (live : (s.elapse t).unitsLive = true)
include live

/-- A unit in service of pools 0x01 to 0x04 fails. -/
theorem execHardFault_fails (low : 1 ≤ pool) (high : pool ≤ 4) (size : unit < poolSize pool)
    (serves : ((s.elapse t).phys pool unit).logical = some n) (st : ((s.elapse t).phys pool unit).st = 0) :
    exec (.hardFault t pool unit part) s = .next ((s.elapse t).failUnit pool n unit 1 none) := by
  simp only [exec, execHardFault, live, low, high, size, serves, st, Bool.not_true, Bool.false_eq_true, decide_true, Bool.and_self, if_true,
    if_false]

/-- Below half of WEAR_LIMIT a corrected error is only counted. -/
theorem execCorrectedError_counts (low : 1 ≤ pool) (high : pool ≤ 4) (size : unit < poolSize pool) :
    let x := (s.elapse t).phys pool unit
    let errs := ((s.elapse t).ns, part) :: x.errs.filter (fun q => (s.elapse t).ns < q.1 + 86400000000000)
    2 * errs.length < (s.elapse t).wearOf pool →
      exec (.correctedError t pool unit part) s = .next ((s.elapse t).setPhys pool unit { x with errs := errs }) := by
  intro x errs few
  simp only [x, errs] at few ⊢
  have counts : ((s.elapse t).unitsLive && 1 ≤ pool && pool ≤ 8 && (4 < pool || unit < poolSize pool)) = true := by
    simp only [live, Bool.true_and, Bool.and_eq_true, Bool.or_eq_true, decide_eq_true_eq]
    exact ⟨⟨low, by omega⟩, .inr size⟩
  have row : exec (.correctedError t pool unit part) s = .next ((s.elapse t).correct pool unit part) := if_pos counts
  have whole : (decide (pool ≤ 4) || decide (pool = poolPlls)) = true := by simp [high]
  rw [row]
  simp only [State.correct, if_pos whole]
  rw [if_pos (by omega), if_neg]
  simp only [Bool.and_eq_true, decide_eq_true_eq, not_and]
  exact fun many => absurd many (by omega)

/-- The spare of a logical unit comes into service. -/
theorem execSpareTakeover_ends {q : TakeOver} (lost : List Nat)
    (found : (s.elapse t).takeOvers.find? (fun q => q.pool = pool && q.logical = unit) = some q) (other : pool ≠ poolSup) :
    exec (.spareTakeover t pool unit lost) s = .next ((s.elapse t).takeOverEnds q lost) := by
  have serves : ((s.elapse t).unitsLive && pool != poolSup) = true := by simp [live, other]
  simp only [exec, execSpareTakeover, found]
  exact if_pos serves

/-- The part of a planned spare-in switches without a frame boundary (15 R509). -/
theorem execPlannedSpareInSwitch_switches {q : SparePlan} (plan : (s.elapse t).planOf pool unit = some q) (slice : pool ≠ poolSlices)
    (lantern : pool ≠ poolLanterns) :
    let s2 : State := { s.elapse t with plans := (s.elapse t).plans.filter (fun p => !(p == q)) }
    exec (.plannedSpareInSwitch t pool unit) s =
      .next (if pool ≤ 4 then s2.spareDone pool q.logical q.old q.new_ q.kind 0 else s2.usePart pool q.logical q.old q.kind) := by
  have switches : ¬(!(s.elapse t).unitsLive || pool = poolSlices || pool = poolLanterns) = true := by simp [live, slice, lantern]
  simp only [exec, execPlannedSpareInSwitch, plan]
  rw [if_neg switches, apply_ite Host.Outcome.next]

end

/-- A copied Lantern that is bound waits for the next boundary of its sconce (15 R512). -/
theorem execLocalStoreCopyComplete_waits {n : Fin 64} {q : SparePlan} :
    let s2 := (s.elapse t).captureCopied n
    s2.planOf poolLanterns n = some q → s2.unitsLive = true → (s2.lantern n).st ≠ .free → exec (.localStoreCopyComplete t n) s =
      .next { s2 with plans := s2.plans.map (fun p => if p == q then { q with copied := true } else p) } := by
  intro s2 plan up bound
  have waits : ¬((s2.lantern n).st == .free) = true := by simpa using bound
  have powered : ¬(!s2.unitsLive) = true := by simp [up]
  simp only [s2] at plan powered waits ⊢
  simp only [exec, execLocalStoreCopyComplete, plan]
  rw [if_neg powered, if_neg waits]

/-! ### HBM (15 R513) -/

/-- A row with an uncorrectable error is replaced, or with no spare row left its unit is lost. -/
theorem execHbmUncorrectable_row (live : (s.elapse t).unitsLive = true) (channel row : Nat) (x : HbmHit) {v : State}
    (hv : (match x with | .data l => (s.elapse t).strikeFrames l | .fixedArea => s.elapse t) = v) :
    (v.partsFree poolRows channel ≠ 0 → exec (.hbmUncorrectable t channel row x) s = .next (v.usePart poolRows channel row 1)) ∧
      (v.partsFree poolRows channel = 0 →
        exec (.hbmUncorrectable t channel row x) s = .next (v.exhausted poolRows channel row (unitInstance poolRows channel) true)) := by
  subst hv
  have up : ¬(!(s.elapse t).unitsLive) = true := by simp [live]
  exact ⟨fun spare => (if_neg up).trans (congrArg _ (if_neg spare)), fun used => (if_neg up).trans (congrArg _ (if_pos used))⟩

theorem State.evict_ember (s : State) (k : Nat) : (s.evict k).ember = s.ember := by
  induction k generalizing s with
  | zero => rfl
  | succ k ih =>
    unfold State.evict
    split
    · rfl
    · split
      · rfl
      · exact (ih _).trans ((State.streamStopBy_ember ..).trans ((State.reportPorts_reports ..).ember.trans (State.modStream_ember ..)))

theorem State.ember_mode {v : State} (h : u.ember = v.ember) : u.mode = v.mode := (congrArg State.mode h : u.ember.mode = v.ember.mode)

/-- The first stack that is lost: beside the data path, only the list of lost stacks moves. -/
theorem State.stackLost_first {k : Nat} (h : s.health.stacksLost = []) :
    (s.stackLost k).ember = ({ s with health := { s.health with stacksLost := [k] } } : State).ember := by
  have fresh : ¬s.health.stacksLost.contains k = true := by simp [h]
  have first : ¬(!s.health.stacksLost.isEmpty) = true := by simp [h]
  unfold State.stackLost
  rw [if_neg fresh]
  dsimp only
  rw [if_neg first]
  refine (State.evict_ember ..).trans ((State.spoolLevels_within _).ember.trans ((State.correctedInternal_within _).ember.trans
    ((State.spareRecord_reports ..).ember.trans ?_)))
  exact congrArg (fun l => ({ s with health := { s.health with stacksLost := k :: l } } : State).ember) h

/-- A second lost stack brings Dark (15 R513). -/
theorem State.stackLost_second {k : Nat} (live : s.unitsLive = true) (some : s.health.stacksLost ≠ [])
    (fresh : s.health.stacksLost.contains k = false) :
    (s.stackLost k).Darkens { s with health := { s.health with stacksLost := k :: s.health.stacksLost } } 5 := by
  simp only [State.unitsLive, Bool.and_eq_true, bne_iff_ne] at live
  obtain ⟨⟨keep, dark⟩, firmware⟩ := live
  have more : (!s.health.stacksLost.isEmpty) = true := by simpa using some
  unfold State.stackLost
  rw [if_neg (by rw [fresh]; decide)]
  dsimp only
  rw [if_pos more]
  exact State.enterDark_darkens 5 dark keep firmware

/-! ### The patrol (15 R520, R521) -/

/-- A mismatch flags the frame, and starts a vote where none runs. -/
theorem execPatrolResult_mismatch {c : Fin 512} {f : Frame} (frame : (s.elapse t).patrolledFrame c = some f) (vote : s.patrol.vote = none) :
    exec (.patrolResult t c .mismatch) s =
      .next { (s.elapse t).modSconce c (fun x => x.modFrame f.number (fun g => { g with flags := g.flags ||| 2 ^ 21 })) with
        patrol := { s.patrol with vote := some (c.val, f.number) } } := by
  simp only [exec, execPatrolResult, frame]
  refine if_pos ?_
  change s.patrol.vote.isNone = true
  rw [vote]
  rfl

theorem execPatrolResult_verdict {c : Fin 512} {m : Nat} (v : Fin 4) (vote : s.patrol.vote = some (c.val, m)) :
    exec (.patrolResult t c (.verdict v)) s = .next ((s.elapse t).patrolVerdict c m v) := by
  have vote : (s.elapse t).patrol.vote = some (c.val, m) := vote
  simp only [exec, execPatrolResult, vote, if_true]

/-- Settles O45: each row by the branch that its conditions select; a spare takes over by `failUnit_takes`. -/
theorem faultsAreHandled : Obligations.FaultsAreHandled := by
  intro t s s1 live
  refine ⟨fun pool unit part n low high size serves st => ⟨execHardFault_fails live low high size serves st, fun j l plan spares => ?_⟩,
    fun pool unit lost q found other => execSpareTakeover_ends live lost found other,
    fun pool unit part low high size => execCorrectedError_counts live low high size, fun channel row l => ?_, fun k some fresh => ?_,
    fun k first => ?_, fun n q => execLocalStoreCopyComplete_waits, fun pool unit q plan slice lantern => execPlannedSpareInSwitch_switches live plan slice lantern,
    fun c f frame vote => execPatrolResult_mismatch frame vote, fun c unpatrolled => ?_, fun c v m vote => execPatrolResult_verdict v vote⟩
  · have spare : s1.spareFor pool n = some j := by
      unfold State.spareFor
      rw [plan, spares]
      rfl
    obtain ⟨w, -, -, q, taken, hpool, hlogical, hold, hnew, hkind, -, fails⟩ := s1.failUnit_takes pool n unit 1 none spare
    obtain ⟨p, checked⟩ := w.patrolCheck_reports
    refine ⟨_, execHardFault_fails live low high size serves st, q, ?_, hpool, hlogical, hold, hnew, hkind⟩
    rw [fails, checked.within.keeps State.takeOvers rfl]
    exact taken
  · obtain ⟨spare, used⟩ := execHbmUncorrectable_row live channel row (.data l) rfl
    obtain ⟨spare', used'⟩ := execHbmUncorrectable_row live channel row .fixedArea rfl
    exact ⟨spare, used, spare', used'⟩
  · have dark := State.stackLost_second live some fresh
    exact ⟨_, congrArg Host.Outcome.next (if_pos live), dark.mode, congrArg DarkState.cause dark.dark, congrArg Health.stacksLost dark.health⟩
  · have lost := State.stackLost_first (s := s1) (k := k) first
    exact ⟨_, congrArg Host.Outcome.next (if_pos live), (State.ember_mode lost).trans rfl, congrArg Health.stacksLost (State.ember_health lost)⟩
  · have unpatrolled : (s.elapse t).patrolledFrame c = none := unpatrolled
    simp only [exec, execPatrolResult, unpatrolled, s1]

end Sys2Proof.Machine
end

section
/-!
DIAG_RUN: the tests, ABORT and DIAG_TEST_END (20 R654, R655, R657, R659 to R662).
-/

namespace Sys2Proof.Machine

variable {s u v : State} {c : RingCmd} {test : Nat}

/-! ### A test begins (20 R655, R658, R662) -/

theorem Checks.handles_of_first {x : Checks} {p op : Nat} {e : Entry} (h : x.first s p op e = none) : x.handles = none :=
  firstSome_none h _ (by simp)

/-- The state that a lane takes for a test. -/
def diagLaneState (test : Nat) : LaneState := if test = 0 then .nearLoop else if test = 1 then .farLoop else if test = 2 then .pattern else .eyeScan

/-- A lane goes into the state of its test. -/
theorem State.diagLane_goes {l : Nat} (h : ¬(test = 3 ∧ (s.lane l).st = .up)) : s.diagLane test l =
    ((if (s.lane l).st == .up then s.truncateLane l else s).loseRequests l).laneTo l (diagLaneState test) :=
  if_neg (by simpa using h)

/-- An eye scan leaves a lane that is UP as it is. -/
theorem State.diagLane_stays {l : Nat} (h : (s.lane l).st = .up) : s.diagLane 3 l = s := if_pos (by simp [h])

theorem State.diagLane_ember (s : State) (test l : Nat) : (s.diagLane test l).ember = s.ember := by
  by_cases h : test = 3 ∧ (s.lane l).st = .up
  · obtain ⟨rfl, up⟩ := h
    rw [State.diagLane_stays up]
  · have truncated : (if (s.lane l).st == .up then s.truncateLane l else s).ember = s.ember := by simp
    rw [State.diagLane_goes h]
    exact (State.laneTo_ember ..).trans ((State.loseRequests_onLane ..).ember.trans truncated)

theorem State.diagLane_st {l : Nat} (h : ¬(test = 3 ∧ (s.lane l).st = .up)) : ((s.diagLane test l).lane l).st = diagLaneState test := by
  rw [State.diagLane_goes h]
  exact State.laneTo_st ..

theorem State.diagFrames_ember (s : State) : s.diagFrames.ember = s.ember := State.foldl_ember (fun _ _ => State.discardOpen_ember ..) _ s

/-- The test that a DIAG_RUN begins (20 R654). -/
def State.diagTest (s : State) (test : Nat) (c : RingCmd) : DiagTest :=
  let e := c.e
  let rate := diagRate e
  { id := s.fresh, test := test, unit := diagUnit e, ring := ringId c.p c.i, buffer := bufferVa e 0x18
    pieces := (s.translate c.p (bufferVa e 0x18) (64 + diagData test rate) 0).2, rate := rate, tStart := s.dt
    due := s.ns + diagDuration e * 1000000, duration := diagDuration e, check := test = 0 || (test = 2 && bitAt e 9 4), pattern := diagPattern e
    gen := bitAt e 9 3, preset := bitsAt e 0xD 1 0 4, dwell := diagDwell e, inject := diagInject e }

/-- The state with the test of a DIAG_RUN. -/
def State.testing (s : State) (test : Nat) (c : RingCmd) : State := { s.freshen with tests := s.tests ++ [s.diagTest test c] }

theorem State.diagRun_eq (s : State) (test : Nat) (c : RingCmd) : s.diagRun test c =
    (if test ≤ 3 then (s.testing test c).diagLane test (diagUnit c.e) else if 5 ≤ test then (s.testing test c).diagFrames else s.testing test c,
      .waits s.fresh) := rfl

theorem State.diagRun_ember (s : State) (test : Nat) (c : RingCmd) : (s.diagRun test c).1.ember = (s.testing test c).ember := by
  rw [State.diagRun_eq]
  dsimp only
  split
  · exact State.diagLane_ember ..
  · split
    · exact State.diagFrames_ember ..
    · rfl

theorem State.Reports.testing (h : v.Reports s) : (v.testing test c).Reports (s.testing test c) :=
  h.map (·.testing test c) fun _ _ _ _ _ _ => rfl

theorem State.ember_tests (h : u.ember = v.ember) : u.tests = v.tests := (congrArg State.tests h : u.ember.tests = v.ember.tests)

/-- A test waits in its command ring (20 R662). -/
theorem diagCommand_waits (h : s.Accepts c 0x4E (diagChecks test c)) : ∃ u, s.diagCommand test c = .next u ∧ u.WaitsFor s c s.fresh ∧
    u.tests = s.tests ++ [s.diagTest test c] ∧ ∃ v : State, v.Reports s ∧ u.Reports (v.diagRun test c).1 := by
  obtain ⟨u, hu, ⟨v, hv, told⟩, waits⟩ := State.command_waits_for (a := s.fresh) (eff := fun s => s.diagRun test c)
    (P := fun u => ∃ v : State, v.Reports s ∧ u.Reports (v.diagRun test c).1) h fun v hv => by
      have clock := (v.diagRun_ember test c).trans (hv.testing (test := test) (c := c)).ember
      have ticks : (v.diagRun test c).1.ticks = s.ticks := (State.ember_ticks clock).trans rfl
      have time : (v.diagRun test c).1.time = s.time := (State.ember_time clock).trans rfl
      exact ⟨congrArg Done.waits hv.fresh, congrArg (2 * ·) ticks, congrArg (· / 2 ^ 32 % 2 ^ 64) time, fun u hu => ⟨v, hv, hu⟩⟩
  have tests : (v.diagRun test c).1.tests = s.tests ++ [s.diagTest test c] :=
    State.ember_tests ((v.diagRun_ember test c).trans (hv.testing (test := test) (c := c)).ember)
  exact ⟨u, hu, waits, (told.within.keeps State.tests rfl).trans tests, v, hv, told⟩

/-- The lane of a lane test, in the state that its test finds. -/
theorem diagRun_lane (low : test ≤ 3) (hv : v.Reports s) (told : u.Reports (v.diagRun test c).1)
    (goes : ¬(test = 3 ∧ (s.lane (diagUnit c.e)).st = .up)) : (u.lane (diagUnit c.e)).st = diagLaneState test := by
  have tested : (v.diagRun test c).1 = (v.testing test c).diagLane test (diagUnit c.e) := if_pos low
  have lane : (v.testing test c).lane (diagUnit c.e) = s.lane (diagUnit c.e) := hv.within.lane _
  rw [told.within.lane, tested]
  exact State.diagLane_st (by rw [lane]; exact goes)

/-! ### A test ends (20 R661, R662) -/

theorem State.diagLaneBack_onLane (s : State) (l : Nat) : (s.diagLaneBack l).OnLane s l := by
  unfold State.diagLaneBack
  dsimp only
  split
  · exact State.laneTo_onLane ..
  · exact .refl s l

theorem State.laneTo_waiting (s : State) (l : Nat) (st : LaneState) (p i : Nat) :
    ((s.laneTo l st).ring p i).waiting = (s.ring p i).waiting := by
  by_cases h : (s.lane l).st = st
  · rw [State.laneTo_same h]
  · rw [State.laneTo_eq h]
    exact (State.report_tells ..).waiting p i

theorem State.diagLaneBack_waiting (s : State) (l p i : Nat) : ((s.diagLaneBack l).ring p i).waiting = (s.ring p i).waiting := by
  unfold State.diagLaneBack
  dsimp only
  split
  · exact State.laneTo_waiting ..
  · rfl

/-- The state in which a test has given its lane back. -/
def State.diagOver (s : State) (q : DiagTest) : State :=
  let ended : State := { s with tests := s.tests.filter (fun x => x.id != q.id) }
  if q.test ≤ 3 then ended.diagLaneBack q.unit else ended

/-- The state in which its command, if it waits, has its block and its status. -/
def State.diagAnswered (s : State) (q : DiagTest) (r : TestReport) : State :=
  if s.diagWaits q then
    (s.hostPutParts (q.ring / 1024) (splitParts q.buffer (s.diagHeader q r ++ r.body) q.pieces)).finishWaiting q.ring q.id .success
  else s

theorem State.diagEnd_eq (s : State) (q : DiagTest) (r : TestReport) : s.diagEnd q r =
    ((s.diagOver q).diagAnswered q r).record (q.ring / 1024) 1 (if r.verdict = 0 then 3 else 2) 0x0D01 islandSup (q.test + q.unit * 2 ^ 16)
      (r.verdict + min r.errors (2 ^ 32 - 1) * 2 ^ 32) := rfl

theorem State.diagAnswered_reports (s : State) (q : DiagTest) (r : TestReport) : (s.diagAnswered q r).Reports s :=
  .dite ((State.finishWaiting_reports ..).trans (State.hostPutParts_reports ..)) (.refl s)

theorem State.diagOver_tests (s : State) (q : DiagTest) : (s.diagOver q).tests = s.tests.filter (fun x => x.id != q.id) := by
  unfold State.diagOver
  dsimp only
  split
  · exact State.ember_tests (State.diagLaneBack_ember ..)
  · rfl

theorem State.diagOver_answers (s : State) (q : DiagTest) : (s.diagOver q).Answers s := by
  unfold State.diagOver
  dsimp only
  split
  · exact (State.diagLaneBack_onLane ..).answers.trans (State.answers_of_ports rfl rfl)
  · exact State.answers_of_ports rfl rfl

theorem State.diagEnd_reports (s : State) (q : DiagTest) (r : TestReport) : (s.diagEnd q r).Reports (s.diagOver q) := by
  rw [State.diagEnd_eq]
  exact (State.record_reports ..).trans (State.diagAnswered_reports ..)

theorem State.diagEnd_tests (s : State) (q : DiagTest) (r : TestReport) : (s.diagEnd q r).tests = s.tests.filter (fun x => x.id != q.id) :=
  ((s.diagEnd_reports q r).within.keeps State.tests rfl).trans (s.diagOver_tests q)

/-- A test whose command waits leaves it waiting, until it is answered. -/
theorem State.diagOver_waits (s : State) (q : DiagTest) : (s.diagOver q).diagWaits q = s.diagWaits q := by
  have waiting (p i : Nat) : ((s.diagOver q).ring p i).waiting = (s.ring p i).waiting := by
    unfold State.diagOver
    dsimp only
    split
    · exact State.diagLaneBack_waiting ..
    · rfl
  unfold State.diagWaits
  rw [waiting]

theorem State.diagWaits_only {q : DiagTest} (h : s.diagWaits q = true) : s.WaitsOnly q.ring q.id := by
  intro w hw
  rw [State.diagWaits, hw] at h
  exact eq_of_beq h

/-- The command of a test that ends waits no more (03 R105, 20 R661). -/
theorem State.diagEnd_waiting (q : DiagTest) (r : TestReport) (h : s.diagWaits q = true) :
    ((s.diagEnd q r).ring (q.ring / 1024) (q.ring % 1024)).waiting = none := by
  have waits : (s.diagOver q).diagWaits q = true := (s.diagOver_waits q).trans h
  rw [State.diagEnd_eq]
  refine ((State.record_tells ..).waiting ..).trans ?_
  rw [State.diagAnswered, if_pos waits]
  exact State.finishWaiting_waiting ((State.hostPutParts_tells ..).ends.waitsOnly (State.diagWaits_only waits)) _

/-! ### ABORT (20 R662) -/

/-- The test that an ABORT names. -/
def State.abortTest (s : State) (e : Entry) : Option DiagTest := s.tests.find? (fun q => q.test = bitsAt e 0xC 1 4 4 && q.unit = diagUnit e)

/-- An ABORT that runs finds its test. -/
theorem abort_accepted (h : s.Accepts c 0x4E (abortChecks c)) : ∃ q, s.abortTest c.e = some q := by
  have tests : (s.fetched c).tests = s.tests := (s.fetched_reports c).within.keeps State.tests rfl
  have found : (if ((s.fetched c).abortTest c.e).isNone then some (Status.notFound 0xA) else none) = none := Checks.handles_of_first h.2
  rw [State.abortTest, tests] at found
  exact Option.isSome_iff_exists.1 (by simpa [State.abortTest] using found)

/-- The test that an ABORT finds ends with what it had counted. -/
theorem abortEffect_found {q : DiagTest} (h : s.abortTest c.e = some q) :
    abortEffect c s = (s.freshen.diagEnd q (s.abortReport q), .ok) := by
  unfold State.abortTest at h
  unfold abortEffect
  simp only [h]

theorem abortCommand_succeeds {q : DiagTest} (h : s.Accepts c 0x4E (abortChecks c)) (found : s.abortTest c.e = some q) :
    ∃ u, s.command c 0x4E (abortChecks c) (abortEffect c) = .next u ∧ u.tests = s.tests.filter (fun x => x.id != q.id) ∧
      u.Completed s c .success := by
  refine State.command_succeeds h fun v hv => ?_
  have tests : v.tests = s.tests := hv.within.keeps State.tests rfl
  rw [abortEffect_found (q := q) (by rw [State.abortTest, tests]; exact found)]
  have numbered : v.freshen.Answers v := State.answers_of_ports rfl rfl
  have ended : (v.freshen.diagEnd q (v.abortReport q)).Answers v :=
    (State.diagEnd_reports ..).answers.trans ((State.diagOver_answers ..).trans numbered)
  refine ⟨rfl, ended, fun u hu => ?_⟩
  rw [hu.within.keeps State.tests rfl, State.diagEnd_tests]
  exact congrArg _ tests

/-! ### DIAG_TEST_END (20 R661) -/

theorem diagTestEnd_early {t id : Nat} {r : TestResult} {q : DiagTest} (found : s.tests.find? (fun q => q.id = id) = some q)
    (stream : q.test ≤ 2) (early : (s.elapse t).ns < q.due) : exec (.diagTestEnd t id r) s = .next (s.elapse t) := by
  have found1 : (s.elapse t).tests.find? (fun q => q.id = id) = some q := found
  show execDiagTestEnd t id r s = _
  simp only [execDiagTestEnd, found1, stream, early, decide_true, Bool.and_true, if_true]

theorem diagTestEnd_due {t id : Nat} {r : TestResult} {q : DiagTest} (found : s.tests.find? (fun q => q.id = id) = some q)
    (due : q.test ≤ 2 → q.due ≤ (s.elapse t).ns) : exec (.diagTestEnd t id r) s =
      if q.test = 4 then
        let a := (hbmRows (diagReport q r).body).foldl State.hbmRepair (s.elapse t, [])
        .next (a.1.diagEnd q { diagReport q r with body := hbmEntries (diagReport q r).body a.2 })
      else
        .next (if 5 ≤ q.test && (diagReport q r).verdict = 1 then ((s.elapse t).diagEnd q (diagReport q r)).diagFails (q.test - 3) q.unit
          else (s.elapse t).diagEnd q (diagReport q r)) := by
  have found1 : (s.elapse t).tests.find? (fun q => q.id = id) = some q := found
  have late : (decide (q.test ≤ 2) && decide ((s.elapse t).ns < q.due)) = false := by
    simpa using due
  show execDiagTestEnd t id r s = _
  simp only [execDiagTestEnd, found1, late, Bool.false_eq_true, if_false]

/-- Settles O48: a test is one command that waits, an ABORT one that completes, and DIAG_TEST_END is read off by the kind of its test. -/
theorem diagnosticsRun : Obligations.DiagnosticsRun := by
  unfold Obligations.DiagnosticsRun
  intro began
  have tests {s u : State} {c : RingCmd} {test : Nat} (h : u.tests = s.tests ++ [s.diagTest test c]) : began s c test u :=
    ⟨s.diagTest test c, h, rfl, rfl, rfl, rfl, rfl, rfl, rfl, rfl, rfl, rfl, rfl, rfl⟩
  have waits {s : State} {c : RingCmd} {test : Nat} (h : s.Accepts c 0x4E (diagChecks test c)) :
      ∃ u, s.diagCommand test c = .next u ∧ u.WaitsFor s c s.fresh ∧ began s c test u := by
    obtain ⟨u, hu, wait, added, -⟩ := diagCommand_waits h
    exact ⟨u, hu, wait, tests added⟩
  have goes {s : State} {c : RingCmd} {test : Nat} (low : test ≤ 2) (h : s.Accepts c 0x4E (diagChecks test c)) :
      ∃ u, s.diagCommand test c = .next u ∧ u.WaitsFor s c s.fresh ∧ began s c test u ∧
        (u.lane (diagUnit c.e)).st = diagLaneState test := by
    obtain ⟨u, hu, wait, added, v, hv, told⟩ := diagCommand_waits h
    exact ⟨u, hu, wait, tests added, diagRun_lane (by omega) hv told (by omega)⟩
  refine ⟨?_, ?_, ?_, ?_, ?_, ?_, ?_, ?_, ?_, ?_, ?_⟩
  · intro t c s0 s h
    exact goes (by decide) h
  · intro t c s0 s h
    exact goes (by decide) h
  · intro t c s0 s h
    exact goes (by decide) h
  · intro t c s0 s h
    obtain ⟨u, hu, wait, added, v, hv, told⟩ := diagCommand_waits h
    refine ⟨u, hu, wait, tests added, fun up => ?_, fun down => diagRun_lane (Nat.le_refl 3) hv told fun x => down x.2⟩
    have lane : (v.testing 3 c).lane (diagUnit c.e) = s.lane (diagUnit c.e) := hv.within.lane _
    have stays : (v.diagRun 3 c).1 = v.testing 3 c := State.diagLane_stays (lane ▸ up)
    rw [told.within.lane, stays, lane]
  · intro t c s0 s h
    obtain ⟨u, hu, wait, added, v, hv, told⟩ := diagCommand_waits h
    refine ⟨u, hu, wait, tests added, ?_⟩
    have fresh : u.fresh = (s.testing 4 c).fresh := (told.trans hv.testing).fresh
    rw [added, fresh]
    exact told.trans hv.testing
  · intro t c s0 s h
    exact waits h
  · intro t c s0 s h
    exact waits h
  · intro t c s0 s h
    exact waits h
  · intro t c s0 s h
    obtain ⟨q, found⟩ := abort_accepted h
    obtain ⟨u, hu, ended, done⟩ := abortCommand_succeeds h found
    exact ⟨u, q, hu, found, ended, done⟩
  · intro t id r s q s1 x a found due
    have ends := diagTestEnd_due (r := r) found due
    have lane (low : q.test ≤ 3) : exec (.diagTestEnd t id r) s = .next (s1.diagEnd q x) := by
      rw [ends, if_neg (by omega), if_neg (by simp; omega)]
    refine ⟨lane, fun four => ?_, fun five passed => ?_, fun five failed => ?_, fun low => ?_⟩
    · rw [ends, if_pos four]
    · rw [ends, if_neg (by omega), if_neg (fun w => passed (by simpa using (Bool.and_eq_true_iff.1 w).2))]
    · rw [ends, if_neg (by omega), if_pos (Bool.and_eq_true_iff.2 ⟨decide_eq_true five, decide_eq_true failed⟩)]
    · exact ⟨_, lane low, State.diagEnd_tests .., State.diagEnd_waiting q x⟩
  · intro t id r s q found stream early
    exact diagTestEnd_early found stream early

end Sys2Proof.Machine
end

section
/-!
Modes (17 R574 to R577), and supervisors, guards and Dark (15 R515, R525 to R530, R534).
-/

namespace Sys2Proof.Machine

variable {s u v : State} {c : RingCmd}

/-! ### MODE_SET (17 R574 to R576) -/

/-- The mode that a MODE_SET names. -/
def cmdMode (c : RingCmd) : Mode := Mode.ofCode (bitsAt c.e 8 1 0 3)

/-- MODE_SET stops streams before the mode changes. -/
def State.setStops (s : State) (c : RingCmd) : Bool :=
  s.toSetup (cmdMode c) && bitAt c.e 8 3 && s.streams.any (fun x => x.2.st == .running || x.2.startPending.isSome)

/-- A start-up state with the transition that a MODE_SET begins. -/
def State.begins (s : State) (c : RingCmd) (x : StartUp) : StartUp :=
  { x with
    transition := some (cmdMode c, ringId c.p c.i, s.fresh, s.setStops c)
    modeWait := if s.toSetup (cmdMode c) && s.streamsRun then some (ringId c.p c.i, s.ns + 1000000000) else none }

/-- The start-up state after a MODE_SET. -/
def State.changing (s : State) (c : RingCmd) : StartUp := s.begins c s.start

theorem modeSetEffect_same (h : cmdMode c = s.mode) : modeSetEffect c s = (s, .ok) := if_pos (beq_iff_eq.2 h)

theorem modeSetEffect_other (h : cmdMode c ≠ s.mode) : (modeSetEffect c s).2 = .waits s.fresh ∧
    (modeSetEffect c s).1.ember = State.ember { s with start := s.changing c } ∧
    (s.setStops c = false → (modeSetEffect c s).1 = { s.freshen with start := s.changing c }) := by
  have goes : ¬(cmdMode c == s.mode) = true := fun same => h (eq_of_beq same)
  unfold cmdMode at goes
  unfold modeSetEffect
  dsimp only
  rw [if_neg goes]
  refine ⟨rfl, ?_, fun stays => ?_⟩
  · have stopped : (if s.setStops c then s.freshen.stopStreams s.commitSeq else s.freshen).ember = s.ember := by
      split
      · exact State.stopStreams_ember ..
      · rfl
    exact congrArg (fun x : State => { x with start := s.begins c x.start }) stopped
  · have stopped : (if s.setStops c then s.freshen.stopStreams s.commitSeq else s.freshen) = s.freshen := if_neg (by simp [stays])
    exact congrArg (fun x : State => { x with start := s.begins c x.start }) stopped

theorem State.Reports.changing (h : v.Reports s) (c : RingCmd) : v.changing c = s.changing c := by
  obtain ⟨⟨_, _, _, _, _, rfl⟩, -⟩ := h
  rfl

/-- A stay in the present mode stops nothing; so does any change but one to Configure from a mode with streams. -/
theorem State.setStops_of_toSetup (h : s.toSetup (cmdMode c) = false) : s.setStops c = false := by simp [State.setStops, h]

theorem modeSet_waits (other : cmdMode c ≠ s.mode) (h : s.Accepts c 0x48 (modeSetChecks c)) :
    ∃ u, s.command c 0x48 (modeSetChecks c) (modeSetEffect c) = .next u ∧ u.WaitsFor s c s.fresh ∧ u.mode = s.mode ∧
      u.start = s.changing c ∧ (s.toSetup (cmdMode c) = false → u.Reports { s with start := u.start, fresh := u.fresh }) := by
  obtain ⟨u, hu, ⟨v, hv, told⟩, waits⟩ := State.command_waits_for (a := s.fresh) (eff := modeSetEffect c)
    (P := fun u => ∃ v : State, v.Reports s ∧ u.Reports (modeSetEffect c v).1) h fun v hv => by
      obtain ⟨number, ember, -⟩ := modeSetEffect_other (c := c) (s := v) (hv.mode ▸ other)
      have ticks : (modeSetEffect c v).1.ticks = s.ticks := (State.ember_ticks ember).trans (hv.within.keeps State.ticks rfl)
      have time : (modeSetEffect c v).1.time = s.time := (State.ember_time ember).trans (hv.within.keeps State.time rfl)
      exact ⟨number.trans (congrArg Done.waits hv.fresh), congrArg (2 * ·) ticks, congrArg (· / 2 ^ 32 % 2 ^ 64) time, fun u hu => ⟨v, hv, hu⟩⟩
  obtain ⟨-, ember, precise⟩ := modeSetEffect_other (c := c) (s := v) (hv.mode ▸ other)
  have start : u.start = s.changing c := (told.within.keeps State.start rfl).trans ((State.ember_start ember).trans (hv.changing c))
  refine ⟨u, hu, waits, told.mode.trans ((State.ember_mode ember).trans hv.mode), start, fun stays => ?_⟩
  have same : v.toSetup (cmdMode c) = false := by rw [State.toSetup, hv.mode]; exact stays
  rw [precise (State.setStops_of_toSetup same)] at told
  have fresh : u.fresh = s.freshen.fresh := told.fresh.trans (congrArg (· + 1) hv.fresh)
  rw [start, fresh]
  rw [hv.changing] at told
  exact told.trans (hv.map (fun t : State => { t.freshen with start := s.changing c }) fun _ _ _ _ _ _ => rfl)

/-! ### The end of a transition (17 R576, R577) -/

theorem execModeTransitionComplete_ends {t rid arg : Nat} {m : Mode} {stopped : Bool} (going : s.start.transition = some (m, rid, arg, stopped))
    (dark : s.mode ≠ .dark) (keep : s.mode ≠ .keep) (still : s.start.modeWait = none ∨ (s.elapse t).streamsRun = false) :
    execModeTransitionComplete t s = .next ((s.elapse t).modeDone m rid arg stopped) := by
  have going1 : (s.elapse t).start.transition = some (m, rid, arg, stopped) := going
  have free : ((s.elapse t).start.modeWait.isSome && (s.elapse t).streamsRun) = false := by
    rcases still with idle | idle
    · exact Bool.and_eq_false_iff.2 (.inl (congrArg Option.isSome idle))
    · exact Bool.and_eq_false_iff.2 (.inr idle)
  simp only [execModeTransitionComplete, going1, free]
  exact if_neg (by simp [dark, keep])

theorem execModeTransitionComplete_waits {t rid arg : Nat} {m : Mode} {stopped : Bool} (going : s.start.transition = some (m, rid, arg, stopped))
    (waits : s.start.modeWait.isSome = true) (runs : (s.elapse t).streamsRun = true) : execModeTransitionComplete t s = .next (s.elapse t) := by
  have going1 : (s.elapse t).start.transition = some (m, rid, arg, stopped) := going
  have waits1 : (s.elapse t).start.modeWait.isSome = true := waits
  simp only [execModeTransitionComplete, going1, waits1, runs, Bool.and_true, Bool.or_true, if_true]

theorem execModeSetStreamSnuff_late {t : Nat} {q : Nat × Nat} (waits : s.start.modeWait = some q) (late : q.2 ≤ (s.elapse t).ns)
    (dark : s.mode ≠ .dark) : execModeSetStreamSnuff t s = .next
      ((tabKeys (s.elapse t).streams (fun x => x.active || x.startPending.isSome)).foldl State.snuffStop (s.elapse t)) := by
  obtain ⟨rid, limit⟩ := q
  have waits1 : (s.elapse t).start.modeWait = some (rid, limit) := waits
  simp only [execModeSetStreamSnuff, waits1]
  exact if_pos (Bool.and_eq_true_iff.2 ⟨decide_eq_true late, bne_iff_ne.2 dark⟩)

/-! ### Supervisors and guards (15 R525 to R527) -/

theorem State.supRuns_iff : s.supRuns = true ↔ s.mode ≠ .keep ∧ s.mode ≠ .dark ∧ s.start.fw ≠ .failed ∧ s.sup.live ≠ [] := by
  simp [State.supRuns, and_assoc]

/-- What a failed pair without a standby brings. -/
theorem State.pairStops_alone (cause : Nat) (runs : s.supRuns = true) (absent : s.sup.standby = none) : (s.pairStops cause).Darkens s cause := by
  obtain ⟨keep, dark, fw, -⟩ := State.supRuns_iff.1 runs
  simp only [State.pairStops, absent]
  exact State.enterDark_darkens cause dark keep fw

/-- What a failed pair with a standby brings. -/
theorem State.pairStops_freezes (cause : Nat) (stands : s.sup.standby.isSome = true) : (s.pairStops cause).mode = s.mode ∧
    (s.pairStops cause).sup = { s.sup with frozen := s.sup.live, live := [], resumeBy := some (s.ns + 50000) } := by
  obtain ⟨k, standby⟩ := Option.isSome_iff_exists.1 stands
  obtain ⟨b, r, frozen⟩ := s.freezePair_reports
  have freezes : s.pairStops cause = s.freezePair := by simp only [State.pairStops, standby]
  rw [freezes]
  exact ⟨frozen.mode, frozen.within.keeps State.sup rfl⟩

theorem State.supReport_reports (s : State) : ∃ n, s.supReport.Reports { s with sup := { s.sup with told := n } } := by
  unfold State.supReport
  dsimp only
  split
  · exact ⟨s.sup.told, .refl s⟩
  · exact ⟨_, State.spareRecord_reports ..⟩

/-- The cores of a frozen pair that pass their self-test. -/
def State.passed (s : State) (pass : List (Fin 3)) : List Nat :=
  ([0, 1, 2] : List Nat).filter (fun k => s.sup.frozen.contains k && pass.any (fun q => q.val = k))

/-- The cores after the self-test of a frozen pair: those that pass join again, the others are retired (15 R526). -/
def State.tested (s : State) (pass : List (Fin 3)) : State :=
  { s with
    sup := { s.sup with live := s.sup.live ++ (s.passed pass).take 1, standby := (s.passed pass).tail.head?, frozen := [] }
    health := { s.health with cores := s.health.cores ++ s.sup.frozen.filter (fun k => !(s.passed pass).contains k) } }

theorem execSupervisorSelfTestDone_joins {t : Nat} {pass : List (Fin 3)} (runs : (s.elapse t).supRuns = true) (went : s.sup.frozen ≠ []) :
    execSupervisorSelfTestDone t pass s = .next ((s.elapse t).tested pass).supReport :=
  if_neg (by simp [runs, went])

theorem State.coresTaken_within (s : State) :
    s.coresTaken.Within { s with takeOvers := s.takeOvers.filter (fun q => q.pool != poolSup) } := by
  unfold State.coresTaken
  refine State.Within.foldl (fun t q => ?_) _ _
  dsimp only
  split
  · exact (State.finishWaiting_reports ..).within.trans (State.spareReport_within ..)
  · exact State.spareReport_within ..

/-- Reporting leaves the guards as they are. -/
theorem State.Reports.but_guards {l : List Nat} (h : u.Reports { s with guards := l }) :
    u.guards = l ∧ u.Reports { s with guards := u.guards } := by
  have guards : u.guards = l := h.within.keeps State.guards rfl
  rw [guards]
  exact ⟨rfl, h⟩

/-- The standby that has taken over. -/
def State.resumed (s : State) : State :=
  { s with sup := { s.sup with live := s.sup.standby.toList, standby := none, resumeBy := none } }

theorem State.resumed_reported (s : State) : ∃ n, (s.resumed.correctedInternal.supReport.coresTaken).sup = { s.resumed.sup with told := n } ∧
    (s.resumed.correctedInternal.supReport.coresTaken).mode = s.mode := by
  have corrected := s.resumed.correctedInternal_within
  obtain ⟨n, told⟩ := s.resumed.correctedInternal.supReport_reports
  have taken := s.resumed.correctedInternal.supReport.coresTaken_within
  have sup : s.resumed.correctedInternal.sup = s.resumed.sup := corrected.keeps State.sup rfl
  refine ⟨n, (taken.keeps State.sup rfl).trans ((told.within.keeps State.sup rfl).trans ?_),
    (taken.keeps State.mode rfl).trans ((told.within.keeps State.mode rfl).trans (corrected.keeps State.mode rfl))⟩
  rw [sup]

theorem execStandbyResume_inTime {t d : Nat} (limit : s.sup.resumeBy = some d) (keep : s.mode ≠ .keep) (dark : s.mode ≠ .dark)
    (inTime : (s.elapse t).ns ≤ d) :
    ∃ u n, execStandbyResume t s = .next u ∧ u.sup = { (s.elapse t).resumed.sup with told := n } ∧ u.mode = s.mode := by
  have limit1 : (s.elapse t).sup.resumeBy = some d := limit
  obtain ⟨n, sup, mode⟩ := (s.elapse t).resumed_reported
  refine ⟨_, n, ?_, sup, mode⟩
  simp only [execStandbyResume, limit1]
  rw [if_neg (by simp [keep, dark]), if_neg (by omega)]
  rfl

theorem execStandbyResume_late {t d : Nat} (limit : s.sup.resumeBy = some d) (keep : s.mode ≠ .keep) (dark : s.mode ≠ .dark)
    (late : d < (s.elapse t).ns) :
    execStandbyResume t s = .next (({ s.elapse t with sup := { s.sup with resumeBy := none } } : State).enterDark 1) := by
  have by1 : (s.elapse t).sup.resumeBy = some d := limit
  simp only [execStandbyResume, by1]
  rw [if_neg (by simp [keep, dark]), if_pos late]
  rfl

/-! ### Dark makes the outputs safe (12 R442, 15 R529) -/

theorem State.ember_dark (h : u.ember = v.ember) : u.dark = v.dark := (congrArg State.dark h : u.ember.dark = v.ember.dark)

theorem State.gioSafe_ember (s : State) : s.gioSafe.ember = State.ember { s with dark := { s.dark with safe := true } } := by
  unfold State.gioSafe
  extract_lets s1 s2
  have lines : s2.ember = s.ember := (State.foldl_ember (fun t g => by
    dsimp only
    split
    · rfl
    · exact State.drive_ember ..) _ s1).trans rfl
  exact congrArg (fun t : State => { t with dark := { t.dark with safe := true } }) lines

theorem State.haltLanes_ember (l : List Nat) (s : State) : (l.foldl (fun t l => t.sendHalt l) s).ember = s.ember :=
  State.foldl_ember (fun _ l => (State.sendHalt_onLane _ l).ember) l s

theorem State.ember_streams (s : State) (x : Tab Stream) : State.ember { s with streams := x } = s.ember := rfl

theorem State.darkSafe_ember (s : State) : s.darkSafe.ember = State.ember { s with dark := { s.dark with safe := true } } := by
  unfold State.darkSafe
  extract_lets s1 s2 s3
  have halted : s3.ember = s1.ember := (State.discardAll_ember ..).trans (State.haltLanes_ember ..)
  have low : s1.ember = s.gioSafe.ember := (State.say_reports ..).ember
  exact (State.ember_streams s3 _).trans (halted.trans (low.trans s.gioSafe_ember))

theorem State.darkSafe_dark (s : State) : s.darkSafe.mode = s.mode ∧ s.darkSafe.dark = { s.dark with safe := true } :=
  ⟨(State.ember_mode s.darkSafe_ember).trans rfl, (State.ember_dark s.darkSafe_ember).trans rfl⟩

/-- DARK# goes low. -/
theorem State.darkSafe_sent (s : State) : s.darkSafe.Sent (.pin "DARK#" 0 false) := by
  unfold State.darkSafe
  extract_lets s1 s2 s3
  have low : s1.Sent (.pin "DARK#" 0 false) := by simp [s1, State.Sent, State.say]
  have halted : s2.SentStays s1 := .foldl (fun _ l => (State.sendHalt_onLane _ l).sentStays) _ _
  have discarded : s3.out = s2.out := State.discardAll_keeps State.out (fun _ _ _ _ _ => rfl) (fun _ => rfl) s2
  show _ ∈ s3.out
  rw [discarded]
  exact halted.sent _ low

theorem execDark_decided {t : Nat} (dark : s.mode = .dark) (safe : s.dark.safe = false) : execDark t s = .next (s.elapse t).darkSafe := by
  have enters (x : State) (hx : x.mode = .dark) : x.enterDark 1 = x := if_pos (by simp [hx])
  have dark1 : (s.elapse t).mode = .dark := dark
  have safe1 : (s.elapse t).dark.safe = false := safe
  unfold execDark
  simp only [enters _ dark1, ite_self, dark1, safe1]
  rfl

theorem execDark_late {t d : Nat} (limit : s.sup.resumeBy = some d) (late : d < (s.elapse t).ns)
    (dark : ((s.elapse t).enterDark 1).Darkens (s.elapse t) 1) : execDark t s = .next ((s.elapse t).enterDark 1).darkSafe := by
  have by1 : (s.elapse t).sup.resumeBy = some d := limit
  unfold execDark
  simp only [by1, late, decide_true, if_true]
  rw [if_pos (by simp [dark.mode, dark.dark])]

/-! ### Dark ends with silent ports (02 R74) -/

theorem State.darkPort_silent (s : State) (p : Nat) : ((s.darkPort p).port p).silent = true ∧ (s.darkPort p).mode = s.mode := by
  unfold State.darkPort
  extract_lets r s1
  have told : s1.Reports s := by
    simp only [s1]
    split
    · exact .dite (State.putRecord_reports ..) (.refl s)
    · exact .refl s
  refine ⟨?_, ((State.aerUncorrectable_within s1 p aerInternal 0).keeps State.mode rfl).trans told.mode⟩
  rw [State.modPort_eq, State.port_setPort]

/-! ### Event windows (15 R534) -/

theorem State.sendVector_windows (s : State) (p v : Nat) : (s.sendVector p v).windows = s.windows := by
  unfold State.sendVector
  dsimp only
  split <;> rfl

theorem State.signalVector_windows (s : State) (p v : Nat) : (s.signalVector p v).windows = s.windows := by
  unfold State.signalVector
  dsimp only
  split
  · rfl
  · split
    · split
      · rfl
      · exact State.sendVector_windows ..
    · exact State.sendVector_windows ..

theorem State.fireRing_windows (s : State) (p i : Nat) : (s.fireRing p i).windows = s.windows := by
  simp [State.fireRing, apply_ite State.windows, State.signalVector_windows, State.modRing, State.setRing, State.modPort]

theorem State.moderate_windows (s : State) (p i : Nat) (caught : Bool) : (s.moderate p i caught).windows = s.windows := by
  simp [State.moderate, apply_ite State.windows, State.fireRing_windows, State.setRing, State.modPort]

theorem State.putRecord_windows (s : State) (p i : Nat) (e : EvRec) : (s.putRecord p i e).windows = s.windows := by
  have written (b : List Byte) : (s.writeEntry p i b).windows = s.windows := State.moderate_windows ..
  unfold State.putRecord
  dsimp only
  split
  · rfl
  · split <;> rfl
  · split
    · rfl
    · split
      · exact written _
      · rfl

theorem State.closeWindow_windows (s : State) (w : EvWindow) : (s.closeWindow w).windows = s.windows := by
  unfold State.closeWindow
  split
  · exact State.putRecord_windows ..
  · rfl

/-- The windows that have ended are gone. -/
theorem State.closeWindows_windows (s : State) : s.closeWindows.windows = s.windows.filter (fun w => !s.windowOver w) :=
  foldl_keeps State.windows (fun _ _ => State.closeWindow_windows ..) _ _

theorem State.closeWindows_over (s : State) : ∀ w ∈ s.closeWindows.windows, s.windowOver w = false := by
  intro w hw
  rw [State.closeWindows_windows] at hw
  simpa using (List.mem_filter.1 hw).2

/-- Settles O43: each row is one of the equations above, read off in the state that it leaves. -/
theorem modesAndSupervisors : Obligations.ModesAndSupervisors := by
  refine ⟨⟨?_, ?_, ?_, ?_, ?_, ?_⟩, ?_⟩
  · intro t c s0 s m same h
    refine command_does' s h (fun v hv => ?_) rfl rfl
    rw [modeSetEffect_same (same.trans hv.mode.symm)]
    exact ⟨hv, rfl⟩
  · intro t c s0 s m other h
    obtain ⟨u, hu, waits, mode, start, beside⟩ := modeSet_waits other h
    refine ⟨u, hu, waits, mode, fun stays => ⟨?_, beside stays⟩, fun setup => ⟨⟨s.setStops c, ?_⟩, ?_⟩⟩
    · have stays1 : s.toSetup (cmdMode c) = false := stays
      rw [start, State.changing, State.begins, State.setStops_of_toSetup stays1, stays1]
      rfl
    · rw [start]
      rfl
    · have setup1 : s.toSetup (cmdMode c) = true := setup
      rw [start, State.changing, State.begins, setup1, Bool.true_and]
  · intro t s m rid arg stopped s1 going dark keep still
    obtain ⟨v, hv, hu⟩ := s1.modeDone_ember m rid arg stopped
    have mode : v.mode = m := hv.keeps State.mode rfl
    have start : v.start = { s.start with transition := none, modeWait := none } := hv.keeps State.start rfl
    have ended := (State.ember_start hu).trans rfl
    refine ⟨_, execModeTransitionComplete_ends going dark keep still, (State.ember_mode hu).trans mode, ?_, ?_, fun toKeep => ?_⟩
    · rw [ended]
      exact congrArg StartUp.transition start
    · rw [ended]
      exact congrArg StartUp.modeWait start
    · rw [ended]
      exact if_pos toKeep
  · intro t s m rid arg stopped going waits runs
    exact execModeTransitionComplete_waits going waits runs
  · intro t s q s1 waits late dark
    exact execModeSetStreamSnuff_late waits late dark
  · intro t s due
    exact if_pos due
  · intro t s s1 dark frozen
    have decided {u : State} {cause : Nat} (h : u.Darkens s1 cause) : dark u cause :=
      ⟨h.mode, congrArg DarkState.cause h.dark, congrArg DarkState.t0 h.dark, h.tests⟩
    refine ⟨fun runs => ⟨fun pair absent => ?_, fun pair stands => ?_, fun absent => ?_, fun stands => ?_, fun pass went => ?_⟩,
      fun d limit keep live => ⟨fun inTime => ?_, fun late fw => ?_⟩, fun g two => ?_, fun g one => ?_, fun inDark safe => ?_,
      fun d limit late keep live fw => ?_, fun p inDark safe speaks => ?_, fun keep live fw => ?_, ?_, fun hour => ?_⟩
    · exact ⟨_, congrArg Host.Outcome.next (if_pos (by simp [runs, s1, pair])), decided (State.pairStops_alone 3 runs absent)⟩
    · exact ⟨_, congrArg Host.Outcome.next (if_pos (by simp [runs, s1, pair])), State.pairStops_freezes (s := s1) 3 stands⟩
    · exact ⟨_, congrArg Host.Outcome.next (if_pos runs), decided (State.pairStops_alone 2 runs absent)⟩
    · exact ⟨_, congrArg Host.Outcome.next (if_pos runs), State.pairStops_freezes (s := s1) 2 stands⟩
    · obtain ⟨n, told⟩ := (s1.tested pass).supReport_reports
      have sup := told.within.keeps State.sup rfl
      exact ⟨_, execSupervisorSelfTestDone_joins runs went, congrArg Supervisors.frozen sup, congrArg Supervisors.live sup,
        congrArg Supervisors.standby sup, congrArg Health.cores (told.within.keeps State.health rfl)⟩
    · obtain ⟨u, n, hu, sup, mode⟩ := execStandbyResume_inTime limit keep live inTime
      exact ⟨u, hu, congrArg Supervisors.live sup, congrArg Supervisors.standby sup,
        congrArg Supervisors.resumeBy sup, mode⟩
    · obtain ⟨mode, fell, tests, -⟩ := State.enterDark_darkens (s := { s1 with sup := { s.sup with resumeBy := none } }) 1 live keep fw
      exact ⟨_, execStandbyResume_late limit keep live late, mode, congrArg DarkState.cause fell, congrArg DarkState.t0 fell, tests⟩
    · exact ⟨_, if_pos two, State.Reports.but_guards (State.spareRecord_reports ..)⟩
    · exact if_neg one
    · obtain ⟨mode, made⟩ := s1.darkSafe_dark
      exact ⟨_, execDark_decided inDark safe, mode.trans inDark, congrArg DarkState.safe made, s1.darkSafe_sent⟩
    · have fell : (s1.enterDark 1).Darkens s1 1 := State.enterDark_darkens 1 live keep fw
      obtain ⟨mode, made⟩ := (s1.enterDark 1).darkSafe_dark
      exact ⟨_, execDark_late limit late fell, mode.trans fell.mode, (congrArg DarkState.cause made).trans (congrArg DarkState.cause fell.dark),
        congrArg DarkState.safe made⟩
    · obtain ⟨silent, mode⟩ := s1.darkPort_silent p
      have ends := Bool.and_eq_true_iff.2 ⟨Bool.and_eq_true_iff.2 ⟨beq_iff_eq.2 inDark, safe⟩, congrArg not speaks⟩
      exact ⟨_, if_pos ends, silent, mode.trans inDark⟩
    · exact ⟨_, rfl, decided (State.enterDark_darkens 6 live keep fw)⟩
    · exact ⟨_, rfl, s1.closeWindows_over, s1.closeWindows_reports⟩
    · exact if_pos hour

end Sys2Proof.Machine
end

section
/-!
The queue and Dark across every command (15 R531, R536, R537): no operation moves the queue, and none leaves Dark but those that
lead to Keep.
-/

namespace Sys2Proof.Machine

variable {s u v w : State}

/-- The queue of u is that of s, and u is in Dark if s is. -/
structure State.Stands (u s : State) : Prop where
  pending : u.pending = s.pending
  dark : s.mode = .dark → u.mode = .dark

theorem State.Stands.refl (s : State) : s.Stands s := ⟨rfl, id⟩

theorem State.Stands.trans (h : u.Stands v) (g : v.Stands w) : u.Stands w :=
  ⟨h.pending.trans g.pending, h.dark ∘ g.dark⟩

theorem State.stands_of_spine (h : u.spine = s.spine) : u.Stands s :=
  ⟨congrArg Spine.pending h, fun hd => (congrArg Spine.mode h).trans hd⟩

theorem State.Retimed.stands (h : u.Retimed s) : u.Stands s := by
  obtain h | ⟨n, -, h⟩ := h
  · exact stands_of_spine h
  · exact ⟨congrArg Spine.pending h, fun hd => (congrArg Spine.mode h).trans hd⟩

theorem State.Stands.ite {c : Prop} [Decidable c] (h : c → u.Stands s) (g : ¬ c → v.Stands s) : (if c then u else v).Stands s := by
  split
  · next hc => exact h hc
  · next hc => exact g hc

/-! ### The operations that move the spine -/

theorem State.enterDark_stands (s : State) (cause : Nat) : (s.enterDark cause).Stands s := by
  have h := s.enterDark_spine cause
  split at h
  · exact stands_of_spine h
  · exact ⟨congrArg Spine.pending h, fun _ => congrArg Spine.mode h⟩

theorem State.clearMain_stands (s : State) : s.clearMain.Stands s :=
  ⟨congrArg Spine.pending s.clearMain_spine, fun hd => (congrArg Spine.mode s.clearMain_spine).trans hd⟩

theorem State.beginStart_stands (s : State) : s.beginStart.Stands s := by
  have h : (if s.start.keepAt.isSome then s.clearMain else s).Stands s := .ite (fun _ => s.clearMain_stands) (fun _ => .refl s)
  exact ⟨h.pending, h.dark⟩

theorem State.mayBegin_stands (s : State) : (if s.mayStart then s.beginStart else s).Stands s :=
  .ite (fun _ => s.beginStart_stands) (fun _ => .refl s)

theorem State.wakeUp_stands (s : State) (kind : Nat) : (s.wakeUp kind).Stands s := (beginStart_stands _).trans (stands_of_spine rfl)

theorem State.pairStops_stands (s : State) (cause : Nat) : (s.pairStops cause).Stands s := by
  unfold State.pairStops
  split
  · exact s.enterDark_stands cause
  · exact stands_of_spine (by simp)

theorem State.stackLost_stands (s : State) (k : Nat) : (s.stackLost k).Stands s := by
  unfold State.stackLost
  refine .ite (fun _ => .refl s) fun _ => .ite (fun _ => ?_) (fun _ => stands_of_spine (by simp))
  exact (enterDark_stands _ 5).trans (stands_of_spine rfl)

theorem State.failPart_stands (s : State) (pool k part : Nat) : (s.failPart pool k part).Stands s := by
  unfold State.failPart
  refine .ite (fun _ => .ite (fun _ => ?_) (fun _ => stands_of_spine (by simp))) fun _ =>
    .ite (fun _ => .ite (fun _ => ?_) (fun _ => stands_of_spine (by simp))) (fun _ => stands_of_spine (by simp))
  · exact (stackLost_stands ..).trans (stands_of_spine (by simp))
  · exact (enterDark_stands _ 4).trans (stands_of_spine (by simp))

theorem State.modeDone_stands (h : s.mode ≠ .dark) (m : Mode) (rid arg : Nat) (stopped : Bool) :
    (s.modeDone m rid arg stopped).Stands s :=
  ⟨congrArg Spine.pending (s.modeDone_spine m rid arg stopped), fun hd => absurd hd h⟩

theorem State.pinsFreed_stands (s : State) : s.pinsFreed.Stands s := by
  unfold State.pinsFreed
  exact .ite (fun _ => (beginStart_stands _).trans (stands_of_spine rfl)) (fun _ => stands_of_spine rfl)

theorem State.instruction_stands (s : State) (code : Nat) : (s.instruction code).Stands s := by
  unfold State.instruction
  exact .ite (fun _ => stands_of_spine rfl) fun _ => .ite (fun _ => (pinsFreed_stands _).trans (stands_of_spine rfl))
    (fun _ => (pinsFreed_stands _).trans (stands_of_spine rfl))

theorem State.tapReset_stands (s : State) : s.tapReset.Stands s := (instruction_stands _ _).trans (stands_of_spine rfl)

theorem State.tapLoad_stands (s : State) (code : Nat) : (s.tapLoad code).Stands s :=
  .ite (fun _ => (instruction_stands _ _).trans (stands_of_spine rfl)) (fun _ => .refl s)

theorem State.tapEnter_stands (s : State) (before : TapState) : (s.tapEnter before).Stands s := by
  unfold State.tapEnter
  dsimp only
  split
  case h_1 => exact .ite (fun _ => .refl s) (fun _ => s.tapReset_stands)
  case h_2 => exact s.instruction_stands _
  all_goals exact stands_of_spine (by simp)

/-- A write of a register stands when what the register does stands. -/
theorem State.mgAccess_stands {put : Option (Nat × (List Byte → State → State))} (s : State) (code : Nat) (x : MgTransfer)
    (h : ∀ p ∈ put, ∀ b u, (p.2 b u).Stands u) : (s.mgAccess code x none put).Stands s := by
  rcases s.mgAccess_cases code x none put with hs | ⟨g, ⟨⟩, -⟩ | ⟨p, b, hput, hs⟩
  · exact stands_of_spine hs
  · rw [hs]
    exact (h p hput b _).trans (stands_of_spine s.mgSeen_spine)

theorem modeSetEffect_stands (c : RingCmd) (s : State) : (modeSetEffect c s).1.Stands s := by
  obtain h | ⟨-, x, h⟩ := modeSetEffect_spine c s
  · exact State.stands_of_spine h
  · exact ⟨congrArg Spine.pending h, fun hd => (congrArg Spine.mode h).trans hd⟩

/-! ### What leads to Keep -/

/-- The queue of u is that of s, and u is in Keep if s is in Dark. -/
structure State.Falls (u s : State) : Prop where
  pending : u.pending = s.pending
  keep : u.mode = .keep

theorem State.assertReset_falls (s : State) (kind time : Nat) : (s.assertReset kind time).Falls s :=
  ⟨congrArg Spine.pending (s.assertReset_spine kind time), congrArg Spine.mode (s.assertReset_spine kind time)⟩

theorem State.loseAll_falls (s : State) : s.loseAll.Falls s :=
  ⟨congrArg Spine.pending s.loseAll_spine, congrArg Spine.mode s.loseAll_spine⟩

theorem State.collapse_hold_spine (s : State) : (s.collapse true).spine = s.spine.keep := (alert_spine ..).trans s.toKeep_spine

theorem State.collapse_falls (s : State) (hold : Bool) : (s.collapse hold).Falls s := by
  cases hold with
  | false => exact s.loseAll_falls
  | true => exact ⟨congrArg Spine.pending s.collapse_hold_spine, congrArg Spine.mode s.collapse_hold_spine⟩

/-! ### Every command -/

/-- Whatever next state the outcome of c is: the queue is that of s, and a Dark without start-up goes on, or gives way to Keep by one
of the commands that end it. -/
def KeepsDark (c : Instr) (s : State) (o : Host.Outcome State Fault Refusal) : Prop :=
  ∀ u, o = .next u → u.pending = s.pending ∧
    (s.mode = .dark → s.start.running = false → u.mode = .dark ∨ u.mode = .keep ∧ EndsDark c)

variable {c : Instr} {o q : Host.Outcome State Fault Refusal}

theorem KeepsDark.ite {p : Prop} [Decidable p] (h : KeepsDark c s o) (g : KeepsDark c s q) : KeepsDark c s (if p then o else q) := by
  split <;> assumption

/-- After the ticks of the command, what stands. -/
theorem keepsDark_next (t : Nat) (h : u.Stands (s.elapse t)) : KeepsDark c s (.next u) := by
  rintro _ ⟨⟩
  exact ⟨h.pending, fun hd _ => .inl (h.dark hd)⟩

theorem keepsDark_elapse (s : State) (t : Nat) : KeepsDark c s (.next (s.elapse t)) := keepsDark_next t (.refl _)

/-- After the ticks of the command, what falls to Keep by one of the commands that may. -/
theorem keepsDark_falls (t : Nat) (h : u.Falls (s.elapse t)) (hc : EndsDark c) : KeepsDark c s (.next u) := by
  rintro _ ⟨⟩
  exact ⟨h.pending, fun _ _ => .inr ⟨h.keep, hc⟩⟩

theorem KeepsSpine.keepsDark {t : Nat} (h : KeepsSpine (s.elapse t) o) : KeepsDark c s o :=
  fun u hu => keepsDark_next t (State.stands_of_spine (h u hu)) u rfl

/-- What start-up alone does, Dark excludes. -/
theorem keepsDark_of_running (hp : u.pending = s.pending) (hr : s.start.running = true) : KeepsDark c s (.next u) := by
  rintro _ ⟨⟩
  exact ⟨hp, fun _ h => absurd (hr.symm.trans h) nofun⟩

section
variable (s : State) (t : Nat)

theorem execSetTime_keepsDark (c : RingCmd) : KeepsDark (.setTime t c) s (execSetTime t c s) := by
  intro u hu
  have h : u.Stands (s.elapse t) := by
    obtain hs | ⟨-, hs⟩ := State.command_cases hu
    · exact State.stands_of_spine hs
    · exact (((setTimeEffect_retimed c _).before (State.committed_spine ..)).after hs).stands
  exact keepsDark_next t h u rfl

theorem execModeSet_keepsDark (c : RingCmd) : KeepsDark (.modeSet t c) s (execModeSet t c s) := by
  intro u hu
  have h : u.Stands (s.elapse t) := by
    obtain hs | ⟨-, hs⟩ := State.command_cases hu
    · exact State.stands_of_spine hs
    · exact (State.stands_of_spine hs).trans ((modeSetEffect_stands c _).trans (State.stands_of_spine (State.committed_spine ..)))
  exact keepsDark_next t h u rfl

theorem execPpsInEdge_keepsDark (sub : Fin 512) : KeepsDark (.ppsInEdge t sub) s (execPpsInEdge t sub s) :=
  .ite (keepsDark_next t (State.stands_of_spine (by rfl))) (keepsDark_next t ((State.ppsEdge_retimed ..).stands.trans (State.stands_of_spine (by rfl))))

theorem execModeTransitionComplete_keepsDark : KeepsDark (.modeTransitionComplete t) s (execModeTransitionComplete t s) := by
  unfold execModeTransitionComplete
  dsimp only
  split
  · split
    · exact keepsDark_elapse s t
    · next hm =>
      have live : (s.elapse t).mode ≠ .dark := fun hd => hm (by rw [hd]; rfl)
      exact keepsDark_next t (State.modeDone_stands live ..)
  · exact keepsDark_elapse s t

theorem execStandbyResume_keepsDark : KeepsDark (.standbyResume t) s (execStandbyResume t s) := by
  unfold execStandbyResume
  dsimp only
  split
  · exact keepsDark_elapse s t
  · refine .ite (keepsDark_elapse s t) (.ite (keepsDark_next t ?_) (keepsDark_next t ?_))
    · exact (State.enterDark_stands _ 1).trans (State.stands_of_spine (by rfl))
    · exact State.stands_of_spine (by simp)

theorem execDark_keepsDark : KeepsDark (.dark t) s (execDark t s) := by
  unfold execDark
  extract_lets s1 late s2
  have h2 : s2.Stands s1 := .ite (fun _ => s1.enterDark_stands 1) (fun _ => .refl s1)
  exact keepsDark_next t (.ite (fun _ => (State.stands_of_spine s2.darkSafe_spine).trans h2) (fun _ => h2))

theorem execHardFault_keepsDark (pool unit part : Nat) : KeepsDark (.hardFault t pool unit part) s (execHardFault t pool unit part s) := by
  unfold execHardFault
  refine .ite (keepsDark_elapse s t) (.ite ?_ (.ite (.ite (keepsDark_elapse s t) (.ite ?_ ?_)) ?_))
  · dsimp only
    refine KeepsSpine.keepsDark (t := t) ?_
    split <;> simp
  · exact keepsDark_next t (State.stands_of_spine (by simp))
  · exact keepsDark_next t (State.enterDark_stands ..)
  · exact keepsDark_next t (State.failPart_stands ..)

theorem execWake_keepsDark (x : MgTransfer) : KeepsDark (.wake t x) s (execWake t x s) := by
  refine keepsDark_next t ((s.elapse t).mgAccess_stands _ _ ?_)
  rintro _ ⟨⟩ b u
  exact .ite (fun _ => State.stands_of_spine rfl) fun _ => .ite (fun _ => State.stands_of_spine rfl) fun _ =>
    .ite (fun _ => u.wakeUp_stands 4) (fun _ => .refl u)

theorem State.guardReset_falls (s : State) : s.guardReset.Falls s :=
  ⟨(s.assertReset_falls 3 s.dt).pending, (s.assertReset_falls 3 s.dt).keep⟩

/-- A write of GUARD_RESET that is heeded falls to Keep; any other transfer moves the management target alone. -/
theorem execGuardReset_keepsDark (x : MgTransfer) : KeepsDark (.guardReset t x) s (execGuardReset t x s) := by
  have seen : (s.elapse t).mgSeen.Stands (s.elapse t) := State.stands_of_spine (State.mgSeen_spine _)
  have rejects : (s.elapse t).mgSeen.mgReject.Stands (s.elapse t) := (State.stands_of_spine (by rfl)).trans seen
  have falls := (s.elapse t).mgSeen.guardReset_falls
  unfold execGuardReset
  generalize hp : (some (1, mgTake _ _) : Option (Nat × (List Byte → State → State))) = put
  rcases (s.elapse t).mgAccess_cases 0x32 x none put with hs | ⟨g, hg, -⟩ | ⟨p, b, hput, hs⟩
  · exact keepsDark_next t (State.stands_of_spine hs)
  · cases hg
  · subst hp
    cases hput
    rw [hs]
    have answered (b : Bool) : KeepsDark (.guardReset t x) s
        (.next (if b then (s.elapse t).mgSeen.guardReset else (s.elapse t).mgSeen.mgReject)) := by
      cases b with
      | false => exact keepsDark_next t rejects
      | true => exact keepsDark_falls t ⟨falls.pending.trans seen.pending, falls.keep⟩ trivial
    dsimp only [mgTake]
    split
    · exact answered _
    · exact keepsDark_next t rejects

theorem execPorstAssert_keepsDark : KeepsDark (.porstAssert t) s (execPorstAssert t s) := by
  have falls := (s.elapse t).assertReset_falls 1 ((s.elapse t).dt - 1000)
  exact .ite (keepsDark_elapse s t) (.ite (keepsDark_next t (State.stands_of_spine (by rfl))) (keepsDark_falls t ⟨falls.pending, falls.keep⟩ trivial))

theorem execWarmrstAssert_keepsDark : KeepsDark (.warmrstAssert t) s (execWarmrstAssert t s) := by
  unfold execWarmrstAssert
  extract_lets s1 s2
  refine .ite (keepsDark_elapse s t) ?_
  by_cases hp : (s1.start.porstLow || !s1.supply.live) = true
  · have governed : s2.Stands s1 := (if_pos hp : s2 = s1) ▸ .refl s1
    exact keepsDark_next t ⟨governed.pending, governed.dark⟩
  · have falls : s2.Falls s1 := by
      rw [show s2 = s1.assertReset 2 (s1.dt - 1000) from if_neg hp]
      exact s1.assertReset_falls 2 (s1.dt - 1000)
    exact keepsDark_falls t ⟨falls.pending, falls.keep⟩ trivial

theorem execPorstRelease_keepsDark (straps : Fin 8) : KeepsDark (.porstRelease t straps) s (execPorstRelease t straps s) :=
  .ite (keepsDark_elapse s t) (keepsDark_next t ((State.mayBegin_stands _).trans (State.stands_of_spine (by rfl))))

theorem execWarmrstRelease_keepsDark : KeepsDark (.warmrstRelease t) s (execWarmrstRelease t s) :=
  .ite (keepsDark_elapse s t) (keepsDark_next t ((State.mayBegin_stands _).trans (State.stands_of_spine (by rfl))))

theorem execGuardResetEnd_keepsDark : KeepsDark (.guardResetEnd t) s (execGuardResetEnd t s) :=
  .ite (keepsDark_next t ((State.mayBegin_stands _).trans (State.stands_of_spine (by rfl)))) (keepsDark_elapse s t)

theorem execFirmwareVerified_keepsDark (failA : Fin 4) (passB : Bool) :
    KeepsDark (.firmwareVerified t failA passB) s (execFirmwareVerified t failA passB s) := by
  unfold execFirmwareVerified
  extract_lets s1 u s2 v
  split
  · exact keepsDark_elapse s t
  · next hr =>
    refine .ite (keepsDark_next t (State.stands_of_spine (by rfl))) (.ite (keepsDark_next t (State.stands_of_spine (by rfl))) ?_)
    have h2 : s2.pending = s1.pending := congrArg Spine.pending (s1.setMode_spine .standby)
    refine keepsDark_of_running ((State.stands_of_spine (State.alert_spine _ alertStart)).pending.trans h2) ?_
    · have hr : s1.start.running = true ∧ s1.start.pll = true ∧ s1.start.fw = .none := by simpa [u, and_assoc] using hr
      exact hr.1

theorem execStartDone_keepsDark : KeepsDark (.startDone t) s (execStartDone t s) := by
  unfold execStartDone
  extract_lets s1 start s2 s3
  split
  · next hg =>
    have h2 : s2.pending = s1.pending := congrArg Spine.pending ((State.alert_spine ..).trans (State.setMode_spine ..))
    have h3 : s3.pending = s1.pending := (congrArg Spine.pending (State.foldl_spine State.becomeReady_spine _ s2)).trans h2
    refine keepsDark_of_running ?_ (?_ : s1.start.running = true)
    · split
      · exact (s3.enterDark_stands 5).pending.trans h3
      · exact h3
    · simp only [StartUp.goes, Bool.and_eq_true] at hg
      exact hg.1.1
  · exact keepsDark_elapse s t

theorem execFeedApplied_keepsDark (f : Fin 2) : KeepsDark (.feedApplied t f) s (execFeedApplied t f s) := by
  have used (u : State) (h : u.Stands (s.elapse t)) : (u.useFeed f).Stands (s.elapse t) := (State.stands_of_spine (State.useFeed_spine ..)).trans h
  refine .ite (keepsDark_elapse s t) (.ite (keepsDark_next t (used _ ⟨rfl, id⟩)) (.ite (keepsDark_next t (.ite (fun _ => used _ ⟨rfl, id⟩) fun _ => ?_))
    (.ite (keepsDark_next t (used _ ⟨rfl, id⟩)) (keepsDark_next t ⟨rfl, id⟩))))
  exact (State.stands_of_spine (State.supplyReport_spine ..)).trans (used _ ⟨rfl, id⟩)

theorem execFeedReturnStart_keepsDark (f : Fin 2) : KeepsDark (.feedReturnStart t f) s (execFeedReturnStart t f s) := by
  unfold execFeedReturnStart
  extract_lets s1 s2
  have h2 : s2.Stands s1 := State.stands_of_spine (State.qualify_spine ..)
  exact .ite (keepsDark_next t (.ite (fun _ => (s2.wakeUp_stands 5).trans h2) (fun _ => h2))) (keepsDark_elapse s t)

theorem execTapClock_keepsDark (tms tdi : Bool) : KeepsDark (.tapClock t tms tdi) s (execTapClock t tms tdi s) :=
  .ite (keepsDark_elapse s t) (keepsDark_next t ((State.tapEnter_stands ..).trans (State.stands_of_spine (by simp))))

end

/-- The commands that move the spine have their own lemmas; every other one leaves it as the passing of its ticks did. -/
theorem exec_keepsDark (s : State) (c : Instr) : KeepsDark c s (exec c s) := by
  have optional {p : Prop} [Decidable p] {u : State} {c : Instr} {t : Nat} (h : u.Stands (s.elapse t)) :
      KeepsDark c s (.next (if p then u else s.elapse t)) := keepsDark_next t (.ite (fun _ => h) (fun _ => .refl _))
  cases c with
  | setTime t c => exact execSetTime_keepsDark s t c
  | ptpMessage t x f sub => exact keepsDark_next t (State.ptpReceive_retimed ..).stands
  | ppsInEdge t sub => exact execPpsInEdge_keepsDark s t sub
  | ethernetFrame t l f => exact keepsDark_next t (State.ethernetFrame_retimed ..).stands
  | gvspPacket t l f => exact keepsDark_next t (State.ethernetFrame_retimed ..).stands
  | modeSet t c => exact execModeSet_keepsDark s t c
  | modeTransitionComplete t => exact execModeTransitionComplete_keepsDark s t
  | keepPowerDown t => exact .ite (keepsDark_next t (State.clearMain_stands _)) (keepsDark_elapse s t)
  | lockstepMismatch t => exact optional (State.pairStops_stands ..)
  | heartbeatLate t => exact optional (State.pairStops_stands ..)
  | standbyResume t => exact execStandbyResume_keepsDark s t
  | dark t => exact execDark_keepsDark s t
  | darkPinLow t => exact keepsDark_next t (State.enterDark_stands (s.elapse t) 6)
  | hardFault t pool unit part => exact execHardFault_keepsDark s t pool unit part
  | hbmStackLost t k => exact optional (State.stackLost_stands ..)
  | wake t x => exact execWake_keepsDark s t x
  | guardReset t x => exact execGuardReset_keepsDark s t x
  | porstAssert t => exact execPorstAssert_keepsDark s t
  | porstRelease t straps => exact execPorstRelease_keepsDark s t straps
  | warmrstAssert t => exact execWarmrstAssert_keepsDark s t
  | warmrstRelease t => exact execWarmrstRelease_keepsDark s t
  | guardResetEnd t => exact execGuardResetEnd_keepsDark s t
  | firmwareVerified t failA passB => exact execFirmwareVerified_keepsDark s t failA passB
  | startDone t => exact execStartDone_keepsDark s t
  | feedApplied t f => exact execFeedApplied_keepsDark s t f
  | feedReturnStart t f => exact execFeedReturnStart_keepsDark s t f
  | collapse t hold => exact .ite (keepsDark_falls t (State.collapse_falls _ hold) trivial) (keepsDark_elapse s t)
  | holdExhausted t => exact .ite (keepsDark_falls t (State.loseAll_falls _) trivial) (keepsDark_elapse s t)
  | trstLow t => exact optional (State.tapReset_stands _)
  | tapClock t tms tdi => exact execTapClock_keepsDark s t tms tdi
  | extest t | idcode t | samplePreload t | extestPulse t | extestTrain t | clamp t | highz t | scanStatus t | bypass t =>
    exact keepsDark_next t (State.tapLoad_stands (s.elapse t) _)
  | _ t => exact KeepsSpine.keepsDark (t := t) (by simp only [exec]; simp)

/-- Settles O57: no command moves the queue, those that lead to Keep included. -/
theorem noCommandTouchesTheQueue : Obligations.NoCommandTouchesTheQueue := fun c s u hu => (exec_keepsDark s c u hu).1

/-- Settles O56: in Dark the invariant leaves no start-up that runs, so only the commands that lead to Keep end it. -/
theorem darkIsLeftOnlyByResets : Obligations.DarkIsLeftOnlyByResets := by
  intro s u c rest h hd hp hu
  have running : s.start.running = false := by
    by_contra hr
    exact absurd (hd.symm.trans (h.startUp (by simpa using hr))) nofun
  rw [stepRunsTheFrontCommand c rest s hp] at hu
  exact (exec_keepsDark _ c u hu).2 hd running

end Sys2Proof.Machine
end
